-- ==== Sys2Proof/Word.lean ====
section
/-! DEFINITION. Word.lean: the word types of the module and the sparse table every memory and object array is kept in. -/

namespace Sys2Proof

/-- One byte of a message, a page or a register file. -/
abbrev Byte := BitVec 8

/-- A 16-bit mailbox index or sequence number (R378, R488). -/
abbrev Word16 := BitVec 16

/-- A 32-bit register, a configuration value or a binary32 bit pattern (R372, R418, R146). -/
abbrev Word32 := BitVec 32

/-- A Meridian stamp: turn in [63:20], grain in [19:0] (R13). -/
abbrev Stamp := BitVec 64

/-- Grains in one turn (R13, R15). -/
def grainsPerTurn : Nat := 1048576

/-- A sparse array: key and value, keys strictly rising, no entry equal to the default of its type.
What an unlisted key reads as is that default. Used for every memory (key = address) and every numbered family
of objects (key = number). -/
abbrev Tbl (α : Type) := List (Nat × α)

end Sys2Proof
end

