-- ==== Sys2Proof/Machine/Table.lean ====
section
/-! DEFINITION. Machine/Table.lean: reading and writing a sparse table in its canonical form. -/

namespace Sys2Proof

/-- What key `k` reads as: its entry, or the default where nothing is listed. -/
def Tbl.get {α : Type} [Inhabited α] : Tbl α → Nat → α
  | [], _ => default
  | (i, v) :: t, k => if i = k then v else Tbl.get t k

/-- The table without the entries of key `k`. -/
def Tbl.erase {α : Type} : Tbl α → Nat → Tbl α
  | [], _ => []
  | (i, w) :: t, k => if i = k then Tbl.erase t k else (i, w) :: Tbl.erase t k

/-- The table with the entry `v` at key `k`, in its place among rising keys. -/
def Tbl.put {α : Type} : Tbl α → Nat → α → Tbl α
  | [], k, v => [(k, v)]
  | (i, w) :: t, k, v =>
    if k < i then (k, v) :: (i, w) :: t
    else if k = i then (k, v) :: t
    else (i, w) :: Tbl.put t k v

/-- Write `v` at key `k`, keeping the canonical form: keys strictly rising, a default value unlisted. -/
def Tbl.set {α : Type} [Inhabited α] [DecidableEq α] (t : Tbl α) (k : Nat) (v : α) : Tbl α :=
  if v = default then t.erase k else t.put k v

/-- Apply `f` to the value at key `k`. -/
def Tbl.upd {α : Type} [Inhabited α] [DecidableEq α] (t : Tbl α) (k : Nat) (f : α → α) : Tbl α :=
  t.set k (f (t.get k))

/-- Every key of the table is above `lo`, keys rise strictly, and no entry is the default. -/
def Tbl.wfFrom {α : Type} [Inhabited α] [DecidableEq α] : Nat → Tbl α → Bool
  | _, [] => true
  | lo, (i, v) :: t => decide (lo ≤ i) && decide (v ≠ default) && Tbl.wfFrom (i + 1) t

/-- The canonical form of a sparse table. -/
def Tbl.wf {α : Type} [Inhabited α] [DecidableEq α] (t : Tbl α) : Bool := Tbl.wfFrom 0 t

/-- The keys listed, in rising order. -/
def Tbl.keys {α : Type} (t : Tbl α) : List Nat := t.map (fun p => p.1)

/-- Set every key of `ks` by `f` of what it held. -/
def Tbl.updAll {α : Type} [Inhabited α] [DecidableEq α] (t : Tbl α) (ks : List Nat) (f : Nat → α → α) : Tbl α :=
  ks.foldl (fun u k => u.upd k (f k)) t

/-- Write a run of bytes at rising addresses (one byte an address). -/
def Tbl.writeBytes (m : Tbl Byte) (a : Nat) : List Byte → Tbl Byte
  | [] => m
  | b :: bs => Tbl.writeBytes (m.set a b) (a + 1) bs

/-- Read `n` bytes at rising addresses. -/
def Tbl.readBytes (m : Tbl Byte) (a : Nat) : Nat → List Byte
  | 0 => []
  | n + 1 => m.get a :: Tbl.readBytes m (a + 1) n

/-- Write the elements of a list at rising keys. -/
def Tbl.writeList {α : Type} [Inhabited α] [DecidableEq α] (m : Tbl α) (a : Nat) : List α → Tbl α
  | [] => m
  | b :: bs => Tbl.writeList (m.set a b) (a + 1) bs

end Sys2Proof
end

