-- ==== Sys2Proof/Machine/Parts.lean ====
section
/-! DEFINITION. Machine/Parts.lean: the pieces of the module's state, as plain data. A structure's
field defaults are its values in the module as delivered. -/

namespace Sys2Proof.Machine

/-! ### Mailbox interface (R370–R412) -/

/-- The status codes of R20. -/
inductive Status where
  | done | doneClamped | accepted | deferred | notReady | functionOff | unknownOpcode | badLength | badFormat
  | tagInUse | notPermitted | peerHolds | nvBusy | nvFault | storeFull | abortedByReset | internalFault
  deriving DecidableEq, Repr, Inhabited

/-- The rights a session holds (R389). -/
inductive Rights where
  | none | basic | expert
  deriving DecidableEq, Repr, Inhabited

/-- A response body: status, payload and the stamp of R376. -/
structure Resp where
  status : Status := .done
  payload : List Byte := []
  stamp : Stamp := 0
  deriving DecidableEq, Repr, Inhabited

/-- An operation whose tag is in flight (R381); `resp` is its response once complete (R382). -/
structure Flight where
  session : Nat := 0
  tag : Nat := 0
  cls : Nat := 0
  opcode : Nat := 0
  fn : Nat := 0
  seq : Nat := 0
  target : Nat := 0
  /-- acceptance number: orders R384 and BARRIER (R385) -/
  order : Nat := 0
  /-- completion number, 0 while the operation runs: orders posting (R382) -/
  completed : Nat := 0
  /-- a rejection: posted like a response, but its tag is not in flight (R381) -/
  rejected : Bool := false
  resp : Option Resp := none
  deriving DecidableEq, Repr, Inhabited

/-- An operation answered ACCEPTED or DEFERRED that has not ended (R386). -/
structure Interim where
  session : Nat := 0
  tag : Nat := 0
  cls : Nat := 0
  opcode : Nat := 0
  fn : Nat := 0
  seq : Nat := 0
  target : Nat := 0
  payload : List Byte := []
  /-- answered DEFERRED: performed by DEFERRED_START when its precondition ends -/
  isDeferred : Bool := false
  deriving DecidableEq, Repr, Inhabited

/-- What SESSION_OPEN left for SESSION_PROVE (R390). -/
structure Opening where
  keyId : Nat := 0
  clientNonce : List Byte := []
  serverNonce : List Byte := []
  deriving DecidableEq, Repr, Inhabited

/-- A session's rights and keys (R389, R390). -/
structure Session where
  /-- the rights a proof gave (R390); none while the session stands at its starting rights (R389) -/
  proven : Option Rights := none
  opening : Option Opening := none
  /-- the session key SK of R390; empty until proven -/
  sk : List Byte := []
  deriving DecidableEq, Repr, Inhabited

/-- A UDP session (R391, R392). -/
structure UdpSession where
  id : Nat := 0
  ip : Nat := 0
  port : Nat := 0
  ses : Session := {}
  /-- highest SEQ accepted; none before the first -/
  highest : Option Nat := none
  /-- SEQs accepted within the window -/
  accepted : List Nat := []
  /-- the last 64 completed responses: SEQ and message bytes -/
  responses : List (Nat × List Byte) := []
  /-- Almanac-independent idle clock: seconds of module time of the last message -/
  lastUs : Nat := 0
  deriving DecidableEq, Repr, Inhabited

/-- The mailbox interface: register window, slots, tags, sessions (R371–R399). -/
structure Mailbox where
  reqProd : Word16 := 0
  reqCons : Word16 := 0
  rspProd : Word16 := 0
  rspCons : Word16 := 0
  evtProd : Word16 := 0
  evtCons : Word16 := 0
  evtLost : Word32 := 0
  irqStatus : Word32 := 0
  irqEnable : Word32 := 0
  fbBusy : Bool := false
  fbDone : Bool := false
  serverStarts : Word16 := 0
  /-- slots, event ring and fallback buffers, by QSPI address 100000h–311FFFh (R371) -/
  mem : Tbl Byte := []
  /-- addresses (div 8) of slot words that read uncorrectable (R472) -/
  badWords : List Nat := []
  flights : List Flight := []
  orders : Nat := 0
  completions : Nat := 0
  interims : List Interim := []
  /-- messages that wait behind a BARRIER of their session, oldest first (R385, R394) -/
  waiting : List (Nat × List Byte) := []
  /-- tags aborted by the last loss of SERVICES, waiting for the server to start (R388) -/
  discarded : List Interim := []
  evtSeq : Word32 := 0
  evtPosted : Nat := 0
  evtDroppedRun : Nat := 0
  evtDroppedAll : Nat := 0
  qspi : Session := {}
  fallback : Session := {}
  uart : Session := {}
  deriving DecidableEq, Repr, Inhabited

/-- UDP and UART transports (R391–R394) and the security objects (R399). -/
structure Transports where
  udp : List UdpSession := []
  udpNextId : Nat := 16
  /-- UART byte strings and requests discarded (R394) -/
  uartDiscarded : Nat := 0
  /-- UART responses sent, most recent last -/
  uartTx : List (List Byte) := []
  /-- UDP responses sent: address, port, bytes -/
  udpTx : List (Nat × Nat × List Byte) := []
  authRefused : Nat := 0
  authLastIp : Nat := 0
  authLastTurn : Option Nat := none
  deriving DecidableEq, Repr, Inhabited

/-! ### Configuration sets and the clamp report (R413–R434) -/

/-- The state of a configuration set (R413). -/
inductive SetState where
  | empty | staging | incomplete | valid | active | damaged
  deriving DecidableEq, Repr, Inhabited

/-- One of the four sets; its image lies in the MRAM partition (R413, R421). -/
structure CfgSet where
  state : SetState := .empty
  generation : Nat := 0
  size : Nat := 0
  crc : Nat := 0
  deriving DecidableEq, Repr, Inhabited

/-- One clamp-report entry (R431). -/
structure Clamp where
  field : Nat := 0
  index : Nat := 0
  requested : Nat := 0
  applied : Nat := 0
  reason : Nat := 0
  severity : Nat := 0
  deriving DecidableEq, Repr, Inhabited

/-- A commit between its record page and instant E (R422). -/
structure PendingCommit where
  set : Nat := 0
  values : Tbl (Option Word32) := []
  report : List Clamp := []
  /-- the session and tag waiting for the response; none for a selection at start-up or a received set -/
  waiter : Option (Nat × Nat) := none
  atStart : Bool := false
  deriving DecidableEq, Repr, Inhabited

/-- Configuration (R413–R434): sets, values in force, report, pending effect. -/
structure Cfg where
  setA : CfgSet := {}
  setB : CfgSet := {}
  setC : CfgSet := {}
  setD : CfgSet := {}
  /-- values in force by FIELD_ID × 65 536 + INDEX; an unlisted field holds its default (R424) -/
  values : Tbl (Option Word32) := []
  report : List Clamp := []
  generation : Nat := 0
  pending : Option PendingCommit := none
  /-- STORE requests that wait for E (R422) -/
  held : List Interim := []
  deriving DecidableEq, Repr, Inhabited

/-! ### Non-volatile store (R435–R458) -/

/-- A page operation waiting for its turn (R442). -/
structure PageOp where
  prio : Nat := 8
  page : Nat := 0
  data : List Byte := []
  deriving DecidableEq, Repr, Inhabited

/-- A record-layer object waiting to be written (R445–R447). -/
structure SaveReq where
  typ : Nat := 0
  key : Nat := 0
  payload : List Byte := []
  flags : Nat := 0
  setGen : Nat := 0
  deriving DecidableEq, Repr, Inhabited

/-- An indexed record: header fields and its first page, 0–2 047 in the partition (R445, R456). -/
structure RecInfo where
  typ : Nat := 0
  key : Nat := 0
  seq : Nat := 0
  logseq : Nat := 0
  length : Nat := 0
  pages : Nat := 0
  setGen : Nat := 0
  flags : Nat := 0
  page : Nat := 0
  deriving DecidableEq, Repr, Inhabited

/-- The store: MRAM bytes, journal sequence, waiting writes, record index, sheaf additions. -/
structure Nv where
  /-- 8 MiB of MRAM by byte address (R27, R435); never-written bytes read 0 -/
  mem : Tbl Byte := []
  /-- addresses (div 8) of words that read uncorrectable (R437) -/
  badWords : List Nat := []
  /-- the NV-good condition (R443) -/
  good : Bool := false
  journalSeq : Word16 := 0
  queue : List PageOp := []
  saves : List SaveReq := []
  /-- additions not yet written, per counter (R453) -/
  sheaf : Tbl Nat := []
  index : List RecInfo := []
  logSeq : Word32 := 0
  /-- headers of records queued and not yet committed: their pages belong to no free run -/
  reserved : List RecInfo := []
  compacting : Bool := false
  eccCount : Nat := 0
  eccLastPage : Nat := 0
  eccLastTurn : Nat := 0
  scrubPage : Nat := 0
  /-- turn of the last scrub step (R438) -/
  scrubTurn : Option Nat := none
  deriving DecidableEq, Repr, Inhabited

/-! ### Logbook and Binnacle (R459–R488) -/

/-- A Logbook record before it has a SEQ (R459, R461). -/
structure LogRec where
  source : Nat := 0
  severity : Nat := 0
  code : Nat := 0
  flags : Nat := 0
  ticks : Nat := 0
  stamp : Stamp := 0
  /-- TARGET of the event entry (R395); not part of the Logbook record -/
  target : Nat := 0
  /-- writing it posts an event-ring entry (R396) -/
  posts : Bool := false
  payload : List Byte := []
  deriving DecidableEq, Repr, Inhabited

/-- The Logbook (R459–R470). -/
structure Logbook where
  queue : List LogRec := []
  lost : Nat := 0
  lostSeverity : Nat := 0
  nextSeq : Nat := 1
  writePos : Nat := 0
  /-- SEQ held by each slot 0–8 191; 0 for a free slot -/
  slots : Tbl Nat := []
  /-- SEQs of the critical records whose windows stand, oldest first (R465) -/
  windows : List Nat := []
  /-- records written that the pair has not yet sent to the peer (R470) -/
  toPeer : List (List Byte) := []
  /-- the peer's 256 most recent records, and how many of them are already stored here -/
  peerTail : List (List Byte) := []
  peerStored : Nat := 0
  deriving DecidableEq, Repr, Inhabited

/-- The state of a firmware slot (R484). -/
inductive SlotState where
  | empty | writing | written | verified | trial | active | previous | rejected
  deriving DecidableEq, Repr, Inhabited

/-- What the service cores do (R473–R476). -/
inductive SvcRun where
  | stopped | paused | starting | running
  deriving DecidableEq, Repr, Inhabited

/-- Binnacle's supervision and update state; the first six fields are the record of TYPE 0008h (R476). -/
structure Binnacle where
  slotA : SlotState := .active
  slotB : SlotState := .empty
  bin0 : SlotState := .active
  bin1 : SlotState := .empty
  failures : Nat := 0
  autopilot : Bool := false
  ackSeq : Nat := 0
  /-- VERSION of service A, service B, Binnacle 0, Binnacle 1 -/
  versionA : Nat := 0
  versionB : Nat := 0
  version0 : Nat := 0
  version1 : Nat := 0
  svc : SvcRun := .stopped
  /-- a deliberate restart is in progress: no 100 ms pause (R473) -/
  deliberate : Bool := false
  /-- an image on trial in autopilot that has not been started: true Binnacle, false service -/
  trialBin : Option Bool := none
  servicesSince : Nat := 0
  /-- module clock at which `svc` took its present value, and at which a trial started -/
  since : Nat := 0
  trialSince : Nat := 0
  /-- SIZE of an image being written: service, Binnacle -/
  sizeSvc : Nat := 0
  sizeBin : Nat := 0
  /-- the image UPDATE_BEGIN opened last: true Binnacle, false service -/
  opened : Bool := false
  /-- a disruptive self-test that runs: TEST and ARG -/
  selftest : Option (Nat × Nat) := none
  /-- the turn in which that test began (R480) -/
  testTurn : Nat := 0
  /-- RESET_N or another cause holds the module in reset: cause code of R526, 0 when released -/
  resetHeld : Nat := 0
  resetCause : Nat := 0
  /-- the ACTIVE service image verified at the last NV_RECOVERY (R475) -/
  svcVerified : Bool := false
  lastGaspFound : Bool := false
  supplyAtStart : Nat := 0
  deriving DecidableEq, Repr, Inhabited

/-- A monitored quantity: last value, samples in a row out of window, out-of-window noted (R471). -/
structure Monitor where
  value : Int := 0
  count : Nat := 0
  out : Bool := false
  deriving DecidableEq, Repr, Inhabited

/-- Sensors of R471: rails 0–11, die temperatures 0–3, battery, input current. -/
structure Sensors where
  stamp : Stamp := 0
  rails : Tbl Monitor := []
  temps : Tbl Monitor := []
  vbat : Monitor := {}
  iin : Nat := 0
  /-- the crystal runs (R39) -/
  crystal : Bool := true
  crystalGoodTurns : Nat := 0
  /-- samples in a row with the LD die at 140 °C or above (R526) -/
  hotRun : Nat := 0
  /-- samples in a row with every rail in its window: 10 open the Almanac interface (R552) -/
  railGood : Nat := 0
  /-- the rail that holds the module in reset, and its samples in a row in its window: 10 release the reset (R35) -/
  heldRail : Nat := 0
  heldGood : Nat := 0
  /-- module clock at the last sample, and at the last sample of the battery (R471) -/
  sampledAt : Option Nat := none
  vbatAt : Option Nat := none
  deriving DecidableEq, Repr, Inhabited

/-! ### Supplies (R519–R542) -/

/-- The power path (R521). -/
inductive SupplyState where
  | off | main | backup | holdup
  deriving DecidableEq, Repr, Inhabited

/-- What the hold-up charger does (R523). -/
inductive Charger where
  | stopped | charging | regulating | paused
  deriving DecidableEq, Repr, Inhabited

/-- Supplies and the hold-up store (R519–R525, R536–R538). Voltages in mV. -/
structure Supply where
  state : SupplyState := .off
  /-- the last 20 samples of VMAIN, newest first (R520) -/
  vmain : List Nat := []
  /-- VMAIN and VBACK count as present (R519) -/
  mainPresent : Bool := false
  backPresent : Bool := false
  /-- samples in a row with either of them present: the start condition (R521) -/
  startSamples : Nat := 0
  vback : Nat := 0
  vhold : Nat := 0
  vbat : Nat := 0
  /-- module clock at the last sample (R520) -/
  sampledAt : Option Nat := none
  /-- 50 µs samples for which the VMAIN mean has been 18.0 V or more -/
  mainSamples : Nat := 0
  collapseSamples : Nat := 0
  /-- class of the hold-up store: 0 OK, 1 LOW, 2 ABSENT; none before the first measurement (R524) -/
  holdClass : Option Nat := none
  /-- turn of the last measurement since the start (R524) -/
  holdTurn : Option Nat := none
  /-- a measurement runs: the charger is paused and the 10 mA load is connected (R524) -/
  measuring : Bool := false
  /-- a change of supply state ended a measurement: it is repeated at a multiple of 64 turns (R524) -/
  holdRetry : Bool := false
  economy : Bool := false
  asleep : Bool := false
  backupTurns : Nat := 0
  /-- R591: TEST0 and TEST1 hold the module in manufacturing test -/
  testHold : Bool := false
  deriving DecidableEq, Repr, Inhabited
/-! ### Meridian (R41–R74, R614) -/

/-- Meridian's states (R45). -/
inductive MerState where
  | deadReckoning | qualify | capture | relock | locked
  deriving DecidableEq, Repr, Inhabited

/-- A concordance point (R62). -/
structure Concord where
  stamp : Stamp := 0
  ticks : Nat := 0
  frac : Nat := 0
  rate : Nat := 0
  state : Nat := 0
  epoch : Nat := 0
  flags : Nat := 0
  seq : Nat := 0
  deriving DecidableEq, Repr, Inhabited

/-- The three words of an event slot (R66). -/
structure SlotWords where
  control : Word32 := 0
  param : Word32 := 0
  when : BitVec 64 := 0
  deriving DecidableEq, Repr, Inhabited

/-- Who owns a slot (R67). -/
inductive SlotOwner where
  | free | module | config | host
  deriving DecidableEq, Repr, Inhabited

/-- An event slot with its status word (R72), its owner, and a write held aside for the next boundary (R69). -/
structure EvSlot where
  words : SlotWords := {}
  late : Bool := false
  fired : Bool := false
  count : Nat := 0
  owner : SlotOwner := .free
  held : Option SlotWords := none
  /-- a write held by the host becomes a host slot when it takes effect -/
  heldByHost : Bool := false
  /-- due stamps up to this one are past for these contents: that of their last firing, or the one before they took effect (R70) -/
  firedAt : Stamp := 0
  deriving DecidableEq, Repr, Inhabited

/-- Meridian's clock, lock state and concordance (R41–R65). Frequencies in µHz. -/
structure Meridian where
  state : MerState := .deadReckoning
  /-- the stamp; 0 until T0 is assigned (R57, R58) -/
  stamp : Stamp := 0
  /-- the stamp at which the fabric went to the internal RC (R39) -/
  rcFrom : Stamp := 0
  /-- grains counted since Binnacle start, before T0 is assigned (R57) -/
  early : Nat := 0
  /-- angle rate in turns per second -/
  rate : Nat := 50000000
  /-- mains frequency and amplitude (0.01 V) of the last fit (R41) -/
  mains : Nat := 0
  amplitude : Nat := 0
  /-- phase error e in grains (R43) -/
  e : Int := 0
  fdr : Nat := 50000000
  /-- periods in ns of the valid cycles of the current run, newest first, at most 16 (R44, R47) -/
  run : List Nat := []
  /-- periods of the last 16 valid cycles since reset (R47) -/
  valid : List Nat := []
  waveform : Bool := false
  captureEnded : Bool := false
  qualCount : Nat := 0
  /-- consecutive turn boundaries with abs(e) < 200 in RELOCK (R45) -/
  inRow : Nat := 0
  slewing : Bool := false
  /-- stamp of the last crossing that began or ended a valid cycle (R44, R48) -/
  lastCross : Stamp := 0
  /-- half turns at the last fit update (R41) -/
  fitHalf : Option Nat := none
  /-- turn of the last turn mark since the start (R56), and of the last periodic CONCORDANCE record (R74) -/
  markTurn : Option Nat := none
  concordTurn : Option Nat := none
  /-- crossings still to come before the capture turn ends (R50) -/
  captureLeft : Nat := 0
  zeroOffset : Int := 0
  /-- a ZERO_OFFSET commit found Meridian in CAPTURE (R55) -/
  zeroPending : Option Int := none
  /-- offset added by a pair's phase alignment (R498) -/
  pairOffset : Int := 0
  /-- f_dr takes NOMINAL_HZ at the next boundary (R47) -/
  nominalDue : Bool := false
  concord : List Concord := []
  concordSeq : Word32 := 0
  rateMin : Nat := 0
  rateMax : Nat := 0
  slots : Tbl EvSlot := []
  /-- NOMINAL_HZ of the last f_dr set from configuration (R47), µHz -/
  lastHz : Nat := 50000000
  deriving DecidableEq, Repr, Inhabited

/-! ### Almanac (R543–R557) -/

/-- One alarm of the Almanac domain (R549, R550). -/
structure AlmAlarm where
  value : Nat := 0
  pendingHi : Nat := 0
  /-- enable bit of CONTROL, committed with ALARMn_LO -/
  pendingEn : Bool := false
  /-- ALARMn_LO written: value and enable waiting for the crystal edge -/
  commit : Option (Nat × Bool) := none
  enabled : Bool := false
  fired : Bool := false
  cause : Nat := 0
  /-- an ALARM record with OFFLINE is owed when ALMANAC next rises (R551) -/
  owed : Bool := false
  /-- it has fired since the module went to sleep: the wake line (R551) -/
  woke : Bool := false
  deriving DecidableEq, Repr, Inhabited

/-- A count or alarm write of R556 waiting its turn: session, tag, and what it writes. -/
structure AlmWrite where
  session : Nat := 0
  tag : Nat := 0
  /-- none: the count; some n: alarm n -/
  alarm : Option Nat := none
  enable : Bool := false
  value : Nat := 0
  deriving DecidableEq, Repr, Inhabited

/-- The Almanac domain and Binnacle's side of it (R543–R556). -/
structure Almanac where
  count : BitVec 48 := 0
  shadow : Nat := 0
  pendingHi : Option Nat := none
  lastHi : Nat := 0
  /-- COUNT_LO written, waiting for the edge; WRITE_PENDING reads 1 while some (R547) -/
  pendingLo : Option Nat := none
  /-- TRIM in force and TRIM as written (R544) -/
  trim : Int := 0
  trimNew : Int := 0
  cycle : Nat := 0
  epoch : BitVec 8 := 0
  wrapped : Bool := true
  powerLost : Bool := true
  /-- interface locked (R552, R555) -/
  locked : Bool := true
  alarm0 : AlmAlarm := {}
  alarm1 : AlmAlarm := {}
  backup : Tbl Byte := []
  /-- without PA's rail and without VBAT: nothing counts until DOMAIN_POWER_ON (R553) -/
  dead : Bool := true
  tickFault : Bool := false
  passRun : Nat := 0
  failRun : Nat := 0
  /-- count at the last crystal check -/
  lastCheck : Nat := 0
  /-- turn of that check since the start (R545) -/
  checkTurn : Option Nat := none
  /-- writes not yet performed, in order of arrival; the first is the one waiting for its edge -/
  writes : List AlmWrite := []
  wrapOwed : Bool := false
  powerLostOwed : Bool := true
  /-- the count Binnacle read before locking (R552) -/
  lockCount : Option Nat := none
  /-- module clock at that read -/
  lockClock : Nat := 0
  deriving DecidableEq, Repr, Inhabited

/-! ### Mirrored pair (R489–R518) -/

/-- Roles of a pair member (R500); `none` while the module is no member. -/
inductive PairRole where
  | none | electing | active | standby
  deriving DecidableEq, Repr, Inhabited

/-- The header of the last valid frame from the peer (R494). -/
structure PeerHeader where
  role : Nat := 0
  seq : Nat := 0
  sendStamp : Stamp := 0
  /-- own stamp at receipt -/
  received : Stamp := 0
  generation : Nat := 0
  flags : Nat := 0
  takeover : Stamp := 0
  handoverAt : Stamp := 0
  serial : Nat := 0
  /-- SEQ of the last frame of this module that the peer had received -/
  echoSeq : Nat := 0
  deriving DecidableEq, Repr, Inhabited

/-! ### Zones and Helm (R75–R163, R617). binary32 values are kept as their 32-bit patterns. -/

/-- A value with the stamp it was taken at; invalid until written (R93, R99, R100). -/
structure HostVal where
  valid : Bool := false
  value : Word32 := 0
  stamp : Stamp := 0
  deriving DecidableEq, Repr, Inhabited

/-- Classes of a bound value (R93). -/
inductive Validity where
  | absent | valid | stale | fault
  deriving DecidableEq, Repr, Inhabited

/-- A bound measured output or disturbance as it stood at the last sample (R93, R401). -/
structure Bound where
  value : Word32 := 0
  stamp : Stamp := 0
  validity : Validity := .absent
  deriving DecidableEq, Repr, Inhabited

/-- Zone modes (R101). -/
inductive ZMode where
  | holdSafe | auto | manual | maintenance | sounding
  deriving DecidableEq, Repr, Inhabited

/-- A priority array: slots 1–16, `none` is NULL (R345). -/
abbrev Prio := Tbl (Option Word32)

/-- The run-time state of a zone. Tables are keyed by signal or state index. -/
structure Zone where
  mode : ZMode := .holdSafe
  nextMode : Option ZMode := none
  deferredMode : Option ZMode := none
  returnMode : ZMode := .holdSafe
  /-- x̂[n] and the staged x̂[n+1] (R109, R110) -/
  xhat : Tbl Word32 := []
  xnext : Tbl Word32 := []
  /-- transfer terms w (R140) and applied inputs u, current and staged (R138, R139) -/
  w : Tbl Word32 := []
  wNext : Tbl Word32 := []
  u : Tbl Word32 := []
  uNext : Tbl Word32 := []
  /-- the output image: the value of R138 step 3, as applied and staged (R31) -/
  img : Tbl Word32 := []
  imgNext : Tbl Word32 := []
  /-- value of each u held at entry to MAINTENANCE (R101) -/
  uHeld : Tbl Word32 := []
  wReset : Bool := false
  staged : Bool := false
  /-- a sample has been applied since start-up: the zone's outputs claim their destinations -/
  applied : Bool := false
  /-- sample angle of the sample last applied -/
  at_ : Stamp := 0
  /-- the zone acted as HOLD_SAFE at the last sample (R140) -/
  effSafe : Bool := false
  /-- the same of the sample in progress, and whether that sample reset w -/
  effNext : Bool := false
  wDone : Bool := false
  warm : Nat := 0
  /-- sample angle at which the zone became blind (R137) -/
  blindSince : Option Stamp := none
  blindSafe : Bool := false
  diverged : Bool := false
  xClamped : Bool := false
  overrun : Bool := false
  uForced : Tbl Bool := []
  /-- staged: the inputs whose law value step 1 of R138 replaced, and the innovations (R31) -/
  forcedNext : Tbl Bool := []
  nuNext : Tbl Word32 := []
  xClampTurn : Option Nat := none
  /-- staged result flags of the sample in progress: first non-finite state + 1, clamp mask -/
  stagedBad : Nat := 0
  stagedClamp : Nat := 0
  y : Tbl Bound := []
  d : Tbl Bound := []
  deriving DecidableEq, Repr, Inhabited

/-- References, HOST values and status of a zone (R82, R95–R99, R108). -/
structure ZoneIo where
  /-- last VALID disturbance (R136) -/
  lastD : Tbl (Option Word32) := []
  /-- last value of each bound signal: y by k, d by 16 + k (R343) -/
  lastValue : Tbl (Option Word32) := []
  held : Tbl (Option Word32) := []
  /-- the last reference formed, exactly, in 2^-149 of the basic unit (R95, R97) -/
  previous : Tbl (Option Int) := []
  /-- the reference image: value read at the next sample, and by it (R98) -/
  ref : Tbl (Option Word32) := []
  refFallback : Tbl Bool := []
  noRef : Bool := false
  /-- source values standing at the sample angle, by reference × 3 + 0 base, 1 fallback, 2 adjust (R98) -/
  refSrc : Tbl (Option Word32) := []
  hostY : Tbl HostVal := []
  hostD : Tbl HostVal := []
  /-- HOST actuator values and references by their priority arrays (R99, R345) -/
  prioU : Tbl Prio := []
  prioR : Tbl Prio := []
  hostUStamp : Tbl Stamp := []
  hostRStamp : Tbl Stamp := []
  /-- what the occupancy estimator takes from the snapshot: air flow and the two presence sources while VALID (R186) -/
  flowIn : Option Word32 := none
  presIn : List (Option Word32) := []
  /-- U_SAT by actuator input (R138), as applied and staged -/
  uSat : Tbl Bool := []
  uSatNext : Tbl Bool := []
  uPrevOwned : Tbl Bool := []
  uOwnedNext : Tbl Bool := []
  status : Word32 := 0
  dirty : Bool := false
  deriving DecidableEq, Repr, Inhabited

/-- One model bank (R118–R121). -/
structure Bank where
  /-- zone words by zone × 672 + word, fast-loop words by (loop − 1) × 64 + word -/
  zones : Tbl Word32 := []
  loops : Tbl Word32 := []
  label : Word32 := 0
  units : Word32 := 0
  /-- write units performed per block: zones 0–255, loops at 256 + loop − 1 (R162) -/
  blockUnits : Tbl Nat := []
  deriving DecidableEq, Repr, Inhabited

/-- Who waits for the answer of a queued operation. -/
structure Waiter where
  session : Nat := 0
  tag : Nat := 0
  deriving DecidableEq, Repr, Inhabited

/-- A queued bank operation (R128). -/
inductive BankOp where
  /-- HELM_WRITE: from the host?, shadow?, block kind (0 zone, 1 loop, 2 header), number, first word, values -/
  | write (host shadow : Bool) (kind num first : Nat) (values : List Word32) (waiter : Option Waiter)
  | copy (waiter : Option Waiter)
  /-- BANK_SWAP, with the zone of a sounding that delivers by it -/
  | swap (sounded : Option Nat) (waiter : Option Waiter)
  deriving DecidableEq, Repr

/-- A fast loop's run-time state (R149–R152). -/
structure FastLoop where
  xhat : Tbl Word32 := []
  xnext : Tbl Word32 := []
  w : Word32 := 0
  wNext : Word32 := 0
  u : Word32 := 0
  uNext : Word32 := 0
  /-- the output image of the loop, as applied and staged -/
  img : Word32 := 0
  imgNext : Word32 := 0
  wReset : Bool := false
  staged : Bool := false
  applied : Bool := false
  effSafe : Bool := false
  effNext : Bool := false
  wDone : Bool := false
  ownedNext : Bool := false
  bad : Bool := false
  warm : Nat := 0
  diverged : Bool := false
  overrun : Bool := false
  uForced : Bool := false
  forcedNext : Bool := false
  ownedPrev : Bool := false
  /-- the snapshot of its sample angle: measured output and FL_R_SOURCE while VALID (R30, R150) -/
  snapAt : Option Stamp := none
  snapY : Option Word32 := none
  snapR : Option Word32 := none
  deriving DecidableEq, Repr, Inhabited

/-- Helm (R109–R163). -/
structure Helm where
  /-- the sequencer's program has been loaded from a verified service image (R24, R475) -/
  program : Bool := false
  bank0 : Bank := {}
  bank1 : Bank := {}
  /-- physical bank in the ACTIVE role (R118) -/
  active1 : Bool := false
  queue : List BankOp := []
  /-- how many at the queue's end were accepted at a floor sample angle whose sample had yet to fire (R128) -/
  lateOps : Nat := 0
  /-- BANK_COPY running: the copied contents, and whether the background copy has completed (R133) -/
  copying : Option (Bank × Option Waiter) := none
  copyDone : Bool := false
  /-- stamp of the floor sample in progress -/
  sampleAt : Stamp := 0
  sampling : Bool := false
  /-- a HELM_WRITE to ACTIVE or a swap took effect and is not yet saved (R155) -/
  changed : Bool := false
  saveRefused : Bool := false
  /-- floor sample angle of the last snapshot (R30) -/
  snapAt : Option Stamp := none
  /-- trend capture and the references of this sample wait for the latches due at its apply angle (R116) -/
  capture : Bool := false
  /-- bank operations performed since the last mirror frame, for section 03h (R158, R495) -/
  performed : List BankOp := []
  /-- answers withheld until the mirror frame has been sent (R158) -/
  afterFrame : List (Waiter × Resp) := []
  /-- load done; HELM rises at the next apply angle (R157) -/
  loaded : Bool := false
  loops : Tbl FastLoop := []
  /-- sample angle of the sample in progress of each fast loop -/
  loopAt : Tbl Stamp := []
  deriving DecidableEq, Repr, Inhabited
/-! ### Waypoint planner and occupancy (R164–R194) -/

/-- A published trajectory of one planned reference (R181, R193). -/
structure Traj where
  present : Bool := false
  planSeq : Nat := 0
  publish : Stamp := 0
  /-- START in Almanac ticks -/
  start : Nat := 0
  epoch : Nat := 0
  carried : Bool := false
  kept : Bool := false
  /-- binary32 waypoints at the 97 boundaries (R177), and the scenario means and risks of R193 -/
  points : Tbl Word32 := []
  expected : Tbl Word32 := []
  risk : Tbl Nat := []
  deriving DecidableEq, Repr, Inhabited

/-- What R177 keeps of a zone from plan to plan: its expected cost and step[z]. -/
structure PlanZone where
  cost : Option Word32 := none
  step : Word32 := 0
  /-- the zone's waypoints come from a plan since its trajectories began anew (R178) -/
  begun : Bool := false
  deriving DecidableEq, Repr, Inhabited

/-- The plan model of one zone (R173): its own block and those of its links by zone number, the blocks of references and
disturbances, and the constant. Rows of binary32 values. -/
structure PlanModel where
  blocks : List (Nat × List (List Word32)) := []
  gamma : List (List Word32) := []
  psi : List (List Word32) := []
  phi : List Word32 := []
  deriving DecidableEq, Repr, Inhabited

/-- Planner state (R164–R185). Trajectories by zone × 16 + reference. -/
structure Plan where
  /-- the plan model (R173), and the one the running plan started with (R174) -/
  model : Tbl PlanModel := []
  runModel : Tbl PlanModel := []
  traj : Tbl Traj := []
  zones : Tbl PlanZone := []
  /-- the running plan has taken its start states x[0] (R175); its results, until it is published (R181) -/
  taken : Bool := false
  ready : Tbl Traj := []
  readyZones : Tbl PlanZone := []
  readyCost : Word32 := 0
  readyTime : Nat := 0
  readyBad : List Nat := []
  readyEpoch : Nat := 0
  /-- completed: it is published at the next floor apply angle -/
  readySet : Bool := false
  running : Bool := false
  startStamp : Stamp := 0
  startTicks : Nat := 0
  start : Nat := 0
  epoch : Nat := 0
  replan : Bool := false
  /-- Almanac count at the last start; none before the first (R179) -/
  lastTicks : Option Nat := none
  lastStart : Stamp := 0
  lastPublish : Stamp := 0
  seq : Word32 := 0
  cost : Word32 := 0
  time : Nat := 0
  planned : Nat := 0
  /-- EPOCH of the published plan's start (R181) -/
  pubEpoch : Nat := 0
  /-- derivation of the plan model is due or running (R174) and the turn rate it used -/
  modelDue : Bool := false
  modelN : Nat := 0
  modelRate : Nat := 0
  staleNoted : Bool := false
  /-- number of the step in progress at the last PLAN_STEP_END (R190) -/
  lastStep : Option Nat := none
  deriving DecidableEq, Repr, Inhabited

/-- Forecast and tariff overrides (R170, R172). -/
structure Forecast where
  start : Option Nat := none
  outdoor : List Nat := []
  solar : List Nat := []
  /-- WP_TARIFF operations, latest first: START and 96 prices -/
  tariffs : List (Nat × List Nat) := []
  deriving DecidableEq, Repr, Inhabited

/-- One occupancy mark (R186). Sums are binary32. -/
structure OccMark where
  innov : Option Word32 := none
  co2 : Option Word32 := none
  flow : Option Word32 := none
  seen : Bool := false
  presValid0 : Bool := false
  presValid1 : Bool := false
  gain : Option Word32 := none
  turn : Nat := 0
  deriving DecidableEq, Repr, Inhabited

/-- Occupancy of one zone (R186–R190). -/
structure Occ where
  /-- accumulation since the last mark: sample counts and sums -/
  innovSum : Word32 := 0
  innovN : Nat := 0
  co2Last : Option Word32 := none
  flowSum : Word32 := 0
  flowN : Nat := 0
  seen : Bool := false
  /-- samples at which each presence source was VALID (R187) -/
  presN0 : Nat := 0
  presN1 : Nat := 0
  samples : Nat := 0
  gainSum : Word32 := 0
  gainN : Nat := 0
  marks : List OccMark := []
  /-- the estimate (R188, R189) -/
  stamp : Stamp := 0
  valid : Bool := false
  gain : Word32 := 0
  persons : Word32 := 0
  prob : Word32 := 0
  paths : Nat := 0
  /-- step accumulation for the learned profile (R190) -/
  stepProb : Word32 := 0
  stepN : Nat := 0
  stepPers : Word32 := 0
  stepPersN : Nat := 0
  deriving DecidableEq, Repr, Inhabited

/-- One learned profile bin (R190). -/
structure OccBin where
  prob : Word32 := 0
  persons : Word32 := 0
  updates : Nat := 0
  personUpdates : Nat := 0
  deriving DecidableEq, Repr, Inhabited

/-! ### Soundings (R195–R219) -/

/-- States of a sounding (R205). -/
inductive SndState where
  | none | pending | settle | capture | fitting | accepted | rejected | aborted
  deriving DecidableEq, Repr, Inhabited

/-- A zone's sounding (R195–R217). -/
structure Sounding where
  state : SndState := .none
  seq : Nat := 0
  area : Nat := 255
  cause : Nat := 0
  /-- the 52-byte request in force -/
  request : List Byte := []
  start : Stamp := 0
  ended : Stamp := 0
  /-- floor samples since the start angle; samples since turn 0 name the interval -/
  floorSamples : Nat := 0
  samples : Nat := 0
  /-- interval accumulation per channel: sum, count -/
  sums : Tbl Word32 := []
  counts : Tbl Nat := []
  base : Tbl Word32 := []
  gaps : Nat := 0
  /-- extremes of the rates of the concordance points over the capture, µHz (R214) -/
  rateMin : Nat := 0
  rateMax : Nat := 0
  y0 : Option Word32 := none
  centre : Tbl Word32 := []
  amp : Tbl Word32 := []
  held : Tbl Word32 := []
  fails : Nat := 0
  flags : Nat := 0
  /-- result: summary figures as binary32 patterns and the 672-word block (R217) -/
  hasResult : Bool := false
  fit : Word32 := 0
  radius : Word32 := 0
  gainNew : Word32 := 0
  gainOld : Word32 := 0
  incoming : Nat := 0
  rows : Nat := 0
  block : Tbl Word32 := []
  captured : Bool := false
  delivered : Bool := false
  /-- a start deferred behind this sounding or an override, with its request (R196) -/
  deferredReq : Option (List Byte) := none
  deriving DecidableEq, Repr, Inhabited

/-- Soundings of all zones and the capture areas (R202). Samples by area × 65 536 + channel × 16 384 + i,
as raw int16 + 32 768 so that the unlisted value is the no-value code. -/
structure Soundings where
  /-- the newest sounding of each zone -/
  zones : Tbl Sounding := []
  /-- earlier ones that still hold their capture areas, with their zones, the newest first (R197) -/
  older : List (Nat × Sounding) := []
  capture : Tbl Nat := []
  seq : Word32 := 0
  /-- a host HELM_WRITE to SHADOW since the last BANK_COPY or BANK_SWAP (R216) -/
  hostStaged : Bool := false
  deriving DecidableEq, Repr, Inhabited

/-- Every sounding that is remembered, with its zone. -/
def Soundings.all (o : Soundings) : List (Nat × Sounding) := o.zones ++ o.older

/-- A sounding of a zone takes a new value: its capture area tells it from the zone's others. -/
def Soundings.put (o : Soundings) (z : Nat) (x : Sounding) : Soundings :=
  if (o.zones.get z).area = x.area then { o with zones := o.zones.set z x }
  else { o with older := o.older.map (fun y => if y.2.area = x.area then (y.1, x) else y) }

/-- The newest sounding of a zone with a property; one that never began where there is none. -/
def Soundings.newest (o : Soundings) (z : Nat) (p : Sounding → Bool) : Sounding :=
  if p (o.zones.get z) then o.zones.get z
  else ((o.older.find? (fun y => y.1 == z && p y.2)).map (fun y => y.2)).getD {}

/-! ### Universal inputs and I2C recipes (R220–R244) -/

/-- One universal input (R220–R235). -/
structure Ui where
  typ : Nat := 0
  stamp : Stamp := 0
  value : Option Word32 := none
  primary : Option Word32 := none
  filter : Option Word32 := none
  fault : Bool := false
  isOpen : Bool := false
  short : Bool := false
  overload : Bool := false
  range : Bool := false
  hum : Bool := false
  discarded : Bool := false
  conversions : Nat := 0
  faultRun : Nat := 0
  goodRun : Nat := 0
  closed : Bool := false
  shuntOff : Bool := false
  /-- a type change waits for the next boundary (R234) -/
  change : Bool := false
  /-- turn at which the present circuit was applied: earlier conversions are not its own -/
  since : Nat := 0
  /-- R_NOM, β and lead resistance of the circuit in force (R234) -/
  nominal : Nat := 0
  beta : Nat := 0
  lead : Nat := 0
  deriving DecidableEq, Repr, Inhabited

/-- One integration turn of a core (R224–R226): what it integrates, its turn, and what R225 asks of it. -/
structure Integ where
  /-- 0–3 input of the core, 4 zero, 5 gain, 6 and 7 zero and gain of an on-demand calibration -/
  what : Nat := 0
  turn : Nat := 0
  capture : Bool := false
  offLock : Bool := false
  /-- the shunt of an MA_20 input was disconnected when the turn ended (R232) -/
  shuntOff : Bool := false
  deriving DecidableEq, Repr, Inhabited

/-- One ADC core: calibration (R226–R228) and its integrations. -/
structure AdcCore where
  /-- corrections applied, as deviations from the manufacturing values: zero in nV, gain in 1E-9 of full scale -/
  zero : Int := 0
  gain : Int := 0
  calFault : Bool := false
  failedTurns : Nat := 0
  startZero : Bool := false
  startGain : Bool := false
  /-- the turn being integrated, and the one that ended at the last turn boundary -/
  cur : Option Integ := none
  ended : Option Integ := none
  /-- turns left of an on-demand calibration, results still to come, and the results it has given (R228) -/
  demand : Nat := 0
  results : Nat := 0
  zeros : List Int := []
  gains : List Int := []
  /-- who waits for it, and whether by an interim answer -/
  waiter : Option Waiter := none
  byInterim : Bool := false
  /-- calibrations asked for while one runs -/
  waiting : List Waiter := []
  deriving DecidableEq, Repr, Inhabited

/-- A transfer on an I2C bus (R238): the address with its direction, the bytes written or the number read, whether it begins with a repeated
START, and whether it ends with STOP. -/
structure I2cMove where
  address : Nat := 0
  read : Bool := false
  bytes : List Byte := []
  count : Nat := 0
  again : Bool := false
  stop : Bool := true
  deriving DecidableEq, Repr, Inhabited

/-- An I2C recipe (R236–R240). -/
structure Recipe where
  stamp : Stamp := 0
  value : Option Word32 := none
  cause : Nat := 0
  fails : Nat := 0
  overruns : Nat := 0
  buffer : List Byte := []
  fault : Bool := false
  /-- turn for which the recipe was last due; due and not yet started; started and not ended -/
  dueTurn : Option Nat := none
  queued : Bool := false
  running : Bool := false
  attempt : Nat := 0
  /-- outcome of the attempt last made: cause and step -/
  outcome : Nat × Nat := (0, 0)
  /-- microseconds at which that attempt failed -/
  failedAt : Nat := 0
  /-- what the attempt drove on its bus (R238) -/
  moves : List I2cMove := []
  deriving DecidableEq, Repr, Inhabited

/-- Universal inputs, cores and recipes; I2C buses with SDA stuck low (R240). -/
structure Inputs where
  ui : Tbl Ui := []
  cores : Tbl AdcCore := []
  recipes : Tbl Recipe := []
  stuck0 : Bool := false
  stuck1 : Bool := false
  deriving DecidableEq, Repr, Inhabited
/-! ### Field channels (R245–R274, R616) -/

/-- An override of an output: level or value, and the turn at which its DURATION ends (R273, R295). -/
structure Force where
  value : Nat := 0
  until_ : Option Nat := none
  deriving DecidableEq, Repr, Inhabited

/-- An event a group held while its logic side was not running (R616): record code and payload. -/
structure HeldEvent where
  code : Nat := 0
  severity : Nat := 0
  target : Nat := 0
  payload : List Byte := []
  deriving DecidableEq, Repr, Inhabited

/-- An edge-ring entry (R254, R273). -/
structure Edge where
  stamp : Stamp := 0
  seq : Nat := 0
  channel : Nat := 0
  state : Bool := false
  extrapolated : Bool := false
  pulsed : Bool := false
  deriving DecidableEq, Repr, Inhabited

/-- One field group: field side and logic side (R245–R248, R265, R266, R272). -/
structure Group where
  /-- VFIELD in 0.01 V and its presence (R247) -/
  vfield : Nat := 0
  vPresent : Bool := false
  uv : Bool := false
  barrierPower : Bool := false
  /-- valid frames both ways (R248) -/
  linkDown : Bool := false
  linkUp : Bool := false
  downSeq : Nat := 0
  upSeq : Nat := 0
  /-- stamp of the last valid uplink frame, as the logic side holds it -/
  lastUp : Stamp := 0
  safe : Bool := false
  cut : Bool := false
  /-- the group holds a parameter block (R528): the fields of group 02h in force on the field side, by FIELD_ID × 65 536 + INDEX,
  which only group power-on clears (R247); an unlisted field holds its default -/
  params : Bool := false
  block : Tbl (Option Word32) := []
  /-- the block has been sent again and its CRC has checked since the link resumed (R266) -/
  paramsSent : Bool := false
  /-- a new parameter block waits for its turn boundary (R266) -/
  paramsPending : Bool := false
  /-- one-way barrier delay in ns, and the turn of its last measurement since the link started (R246) -/
  delay : Nat := 0
  delayTurn : Option Nat := none
  /-- the sequencer's copy of the angle at the last beacon, a valid downlink frame (R246) -/
  copy : Stamp := 0
  /-- events held while the logic side was not running (R616), at most 32 -/
  held : List HeldEvent := []
  logicDown : Bool := true
  /-- edges buffered on the free-running copy (R254), at most 64 -/
  buffered : List Edge := []
  ring : List Edge := []
  ringSeq : Nat := 0
  lossCause : Nat := 0
  deriving DecidableEq, Repr, Inhabited

/-- One field channel's input side and measurements (R249–R257). -/
structure ChIn where
  role : Nat := 0
  /-- no accepted state yet since power-on, link start or change of role or mode (R254) -/
  fresh : Bool := true
  state : Bool := false
  stamp : Stamp := 0
  /-- the state the input image holds, and whether the channel has reported one since FGn rose or its role changed (R254, R256) -/
  image : Bool := false
  reported : Bool := false
  /-- no WIREBREAK sample taken since power-on or since role and threshold were set (R253) -/
  wireFirst : Bool := true
  wireBreak : Bool := false
  count : Nat := 0
  freq : Word32 := 0
  freqStamp : Stamp := 0
  /-- turn whose boundary ended the last gate -/
  gateTurn : Option Nat := none
  /-- stamps of the rising edges of the gate in progress: number, first, last, and the one before the last -/
  gateN : Nat := 0
  gateFirst : Stamp := 0
  edgeLast : Option Stamp := none
  edgePrev : Option Stamp := none
  edgeLost : Bool := false
  /-- ring entries overwritten since the channel's last EDGE_LOST record, and its turn -/
  lostRing : Nat := 0
  lostTurn : Option Nat := none
  lostDown : Nat := 0
  deriving DecidableEq, Repr, Inhabited

/-- One field channel's output side (R258–R268, R271). -/
structure ChOut where
  /-- the owner's level as last applied, before protections (R258) -/
  level : Bool := false
  /-- level held for HOLD when the last owner was lost -/
  holdLevel : Bool := false
  hadOwner : Bool := false
  /-- TPO: on time in grains, the duty latched as a percentage, and the period start (R259) -/
  tpoActive : Bool := false
  onTime : Nat := 0
  duty : Word32 := 0
  tpoStart : Stamp := 0
  pin : Bool := false
  current : Nat := 0
  tripped : Bool := false
  /-- stamps of the last trip and of the last transition to ON (R261) -/
  tripAt : Stamp := 0
  retries : Nat := 0
  latched : Bool := false
  onSince : Stamp := 0
  overload : Bool := false
  thermal : Bool := false
  groupOverload : Bool := false
  backfeed : Bool := false
  stuckOn : Bool := false
  switchFail : Bool := false
  openLoad : Bool := false
  darkFail : Bool := false
  peerDrive : Bool := false
  peerDisagree : Bool := false
  deriving DecidableEq, Repr, Inhabited

/-- What else a channel carries: override, self-test hold, pair comparison (R32, R480, R514). -/
structure ChOwn where
  force : Option Force := none
  /-- a disruptive self-test drives this level -/
  test : Option Bool := none
  /-- differing and equal comparisons in a row (R514) -/
  disagreeRun : Nat := 0
  agreeRun : Nat := 0
  lastOwner : Nat := 0
  /-- turn of the last level change: dark pulses need a whole turn ON (R263) -/
  changedAt : Stamp := 0
  /-- level of the active in the last valid mirror frame (R508) -/
  peerLevel : Bool := false
  peerStuck : Bool := false
  deriving DecidableEq, Repr, Inhabited

/-- The four groups and 32 channels. -/
structure Field where
  groups : Tbl Group := []
  ins : Tbl ChIn := []
  outs : Tbl ChOut := []
  owns : Tbl ChOwn := []
  /-- shared channels whose dark pulse the last mirror frame sent announced, and those that the last frame of the active announced (R268) -/
  announce : List Nat := []
  windows : List Nat := []
  deriving DecidableEq, Repr, Inhabited

/-! ### Analogue and angle outputs (R275–R296) -/

/-- An analogue output (R275–R279, R293). -/
structure Ao where
  /-- PA's own copies of the role and of AO_SAFE, which an LD reset does not clear (R278) -/
  role : Bool := false
  safeCode : Nat := 0
  code : Nat := 0
  value : Word32 := 0
  latched : Stamp := 0
  /-- owner 1 drives AO_SAFE (R293) -/
  safe : Bool := false
  /-- owned by owner 1 since an expiry, until the first AO_LATCH after AO has risen (R278) -/
  owned1 : Bool := false
  guard : Bool := false
  forced : Bool := false
  /-- a code latched before a module reset still stands (R278) -/
  held : Bool := false
  limit : Bool := false
  limitRun : Nat := 0
  mismatch : Bool := false
  mismatchRun : Nat := 0
  measured : Nat := 0
  current : Int := 0
  /-- stamp of the last latch that changed the code -/
  changed : Stamp := 0
  watchdog : Bool := false
  force : Option Force := none
  test : Option Nat := none
  /-- code in force on the active module, from the last valid mirror frame (R502) -/
  peerCode : Nat := 0
  deriving DecidableEq, Repr, Inhabited

/-- An angle output (R280–R287, R294). -/
structure Ago where
  mode : Nat := 0
  value : Word32 := 0
  latched : Stamp := 0
  /-- α or width in grains -/
  firing : Nat := 0
  fires : Bool := false
  acc : Nat := 0
  on : Bool := false
  pin : Bool := false
  highZ : Bool := true
  /-- high impedance under R34 or R278 (R294) -/
  safe : Bool := false
  /-- AGO_INVERT in force -/
  invert : Bool := false
  stopped : Bool := false
  guard : Bool := false
  forced : Bool := false
  edges : Nat := 0
  watchdog : Bool := false
  force : Option Force := none
  test : Option Bool := none
  lastOwner : Nat := 0
  deriving DecidableEq, Repr, Inhabited

/-- Outputs and the PA watchdog (R278). -/
structure Outputs where
  ao : Tbl Ao := []
  ago : Tbl Ago := []
  lastRefresh : Stamp := 0
  refreshed : Bool := false
  expired : Bool := false
  /-- turn of the last monitor sample (R279) -/
  monitorTurn : Option Nat := none
  deriving DecidableEq, Repr, Inhabited
/-! ### Building bus (R297–R336) -/

/-- What a queued frame carries. -/
inductive TxKind where
  | whoIs | iAm | iHave | readRequest | writeRequest | relinquish | subscribe | unsubscribe | response | reject
  | abort | error | covNotification | eventNotification | routing | link | bvlcRegister | modbusRequest
  | modbusReply | connect
  deriving DecidableEq, Repr, Inhabited

/-- A whole frame in a transmit queue, in one of the six classes of R306. -/
structure TxFrame where
  cls : Nat := 0
  what : TxKind := .link
  /-- partner entry; 65 535 for a broadcast or a peer without an entry -/
  dest : Nat := 65535
  /-- ADDRESS of a peer without an entry -/
  address : Nat := 0
  data : List Nat := []
  /-- module clock in microseconds when it was queued, for the 3 s of R306 -/
  since : Nat := 0
  /-- Modbus function code of a request (R314) -/
  fn : Nat := 0
  deriving DecidableEq, Repr, Inhabited

/-- States of the BACnet/SC connection (R312). -/
inductive ScState where
  | idle | connectingPrimary | primary | connectingFailover | failover
  deriving DecidableEq, Repr, Inhabited

/-- A port (R297, R333). Key 7 of the port table is the ETH1 side of port 0. -/
structure Port where
  link : Bool := false
  ready : Bool := false
  token : Bool := false
  /-- transmission held until this turn (R310) -/
  dupUntil : Option Nat := none
  dhcpBound : Bool := false
  address : Nat := 0
  certUnchecked : Bool := false
  speed : Nat := 0
  /-- consecutive PLCA beacon cycles with a beacon, at most 4 (R297) -/
  beacons : Nat := 0
  dropped : Nat := 0
  framesIn : Word32 := 0
  framesOut : Word32 := 0
  /-- frames in receive buffers that their protocol layer has not taken up, the oldest first: the stamp of their receipt (R29, R305) -/
  rx : List Stamp := []
  /-- frames in the switch's egress memory of this side (R299) -/
  egress : Nat := 0
  /-- frames offered to the internal port in the current second of the module clock (R300) -/
  second : Nat := 0
  inSecond : Nat := 0
  tx : List TxFrame := []
  /-- information frames sent with the token now held (R310) -/
  infoSent : Nat := 0
  /-- responses waiting for a transmit buffer (R306) -/
  waiting : List TxFrame := []
  deriving DecidableEq, Repr, Inhabited

/-- Partner states (R317). -/
inductive PState where
  | free | provisional | identified | silent | wanted
  deriving DecidableEq, Repr, Inhabited

/-- A partner-table entry (R317). -/
structure Partner where
  kind : Nat := 0
  state : PState := .free
  port : Nat := 0
  configured : Bool := false
  duplicate : Bool := false
  routed : Bool := false
  identity : Nat := 0xFFFFFFFF
  address : Nat := 0
  net : Nat := 0
  lastHeard : Stamp := 0
  since : Nat := 0
  /-- the directed Who-Is of R319 has been sent for the present silence -/
  asked : Bool := false
  deriving DecidableEq, Repr, Inhabited

/-- A binding's run-time state (R325–R328, R334). -/
structure Bind where
  value : Option Word32 := none
  stamp : Stamp := 0
  covActive : Bool := false
  covRefused : Bool := false
  faultFlag : Bool := false
  /-- the destination value of the owner's last apply angle, not yet looked at (R328) -/
  offered : Option Word32 := none
  /-- the newest value that awaits sending (R328) -/
  pending : Option Word32 := none
  lastSent : Option Word32 := none
  lastSentTurn : Nat := 0
  writeFailed : Bool := false
  /-- the last write has failed and is repeated until it succeeds or is replaced (R328) -/
  repeats : Bool := false
  readFailed : Bool := false
  /-- turn of the last poll -/
  pollTurn : Option Nat := none
  errors : Word16 := 0
  lastNotified : Nat := 0
  /-- module clock at which the subscription was last confirmed (R326) -/
  covSince : Nat := 0
  /-- the next value is sent whatever the deadband: the partner has just become IDENTIFIED -/
  sendNow : Bool := false
  /-- configured, as the last commit left it (R325, R332) -/
  inForce : Bool := false
  deriving DecidableEq, Repr, Inhabited

/-- A confirmed request of the module that has no answer yet (R308, R314). -/
structure Outstanding where
  id : Nat := 0
  port : Nat := 0
  what : TxKind := .readRequest
  partner : Nat := 65535
  /-- ADDRESS of a peer without an entry -/
  address : Nat := 0
  binds : List Nat := []
  value : Word32 := 0
  /-- the value a binding writes as its partner takes it: bytes of the BACnet value, or Modbus registers (R325) -/
  encoded : List Nat := []
  retries : Nat := 0
  /-- class of its frames in the transmit queue (R306) -/
  cls : Nat := 4
  /-- module clock of the last sending; none while its frame stands in the queue -/
  sent : Option Nat := none
  /-- turn of the request -/
  turn : Nat := 0
  deriving DecidableEq, Repr, Inhabited

/-- A routing-table entry: the port through which a network is reached, the ADDRESS of its next router, and whether that is busy (R311). -/
structure Route where
  net : Nat := 0
  port : Nat := 0
  router : Nat := 0
  busy : Bool := false
  deriving DecidableEq, Repr, Inhabited

/-- The building bus. -/
structure Bus where
  ports : Tbl Port := []
  /-- switch: learnt source address, side it was heard on, module clock of the last frame (R299) -/
  macs : List (Nat × Nat × Nat) := []
  /-- ARP caches: interface, IPv4 address, MAC address (R300) -/
  arp : List (Nat × Nat × Nat) := []
  /-- PLCA node IDs recorded against source addresses (R301) -/
  nodes : List (Nat × Nat) := []
  /-- routing table (R311) -/
  routes : List Route := []
  sc : ScState := .idle
  /-- module clock at which the wait or the cadence of SC_RECONNECT ends -/
  scDue : Option Nat := none
  /-- module clock at which the connect attempt that runs began (R312) -/
  scTrying : Option Nat := none
  /-- the connection of PRIMARY is lost and SC_RECONNECT runs, with the alert or close code -/
  scLost : Option Nat := none
  /-- module clock of the last registration as a foreign device (R309) -/
  fdAt : Option Nat := none
  /-- ports that have sent the Who-Is of the start of BACnet services (R318) -/
  greeted : List Nat := []
  /-- random VMAC of R313, generated at first start -/
  vmac : Option Nat := none
  partners : Tbl Partner := []
  generation : Word16 := 0
  /-- turn of the last PARTNER_CHANGED entry, and a change not yet reported (R323) -/
  changedTurn : Option Nat := none
  changedDue : Bool := false
  notEntered : Nat := 0
  fullTurn : Option Nat := none
  binds : Tbl Bind := []
  requests : List Outstanding := []
  nextRequest : Nat := 0
  /-- segmented transactions running, at most 4 (R308) -/
  segments : Nat := 0
  whoIsTurn : Nat := 0
  savedTurn : Nat := 0
  deriving DecidableEq, Repr, Inhabited
/-! ### Standalone services and the safe-climate policy (R337–R369) -/

/-- A trend record (R354, R355). -/
structure TrendRec where
  seq : Nat := 0
  stamp : Stamp := 0
  /-- 0 a value, 1 log status (buffer purged), 2 time change -/
  kind : Nat := 0
  value : Word32 := 0
  deriving DecidableEq, Repr, Inhabited

/-- A trend log's buffer and trigger state. -/
structure Trend where
  records : List TrendRec := []
  total : Word32 := 0
  /-- writes of TRUE to Trigger whose records come at the next floor apply angle -/
  due : Nat := 0
  /-- number of the last due instant passed, above 0; 0 before the first is known -/
  lastK : Nat := 0
  last : Option Word32 := none
  sinceNotify : Nat := 0
  /-- logging was enabled at the last floor apply angle -/
  on : Bool := false
  deriving DecidableEq, Repr, Inhabited

/-- Event states (R356). -/
inductive EvState where
  | normal | fault | offnormal | highLimit | lowLimit
  deriving DecidableEq, Repr, Inhabited

/-- Intrinsic reporting of one object. -/
structure Intrinsic where
  state : EvState := .normal
  /-- the transition being timed and the Almanac count at which it began -/
  pending : Option (EvState × Nat) := none
  /-- unacknowledged transitions: to-offnormal, to-fault, to-normal -/
  unacked : List Nat := []
  /-- stamp and sequence number of the last transition of each kind: 0 to-offnormal, 1 to-fault, 2 to-normal -/
  times : Tbl (Nat × Nat) := []
  deriving DecidableEq, Repr, Inhabited

/-- A COV subscription to an object of this module. -/
structure CovSub where
  object : Nat := 0
  port : Nat := 0
  /-- the subscriber's address -/
  peer : Nat := 0
  process : Nat := 0
  confirmed : Bool := false
  /-- module clock at which the lifetime ends; none for an indefinite one -/
  expires : Option Nat := none
  last : Option Word32 := none
  /-- Status_Flags as last notified -/
  flags : Nat := 0
  deriving DecidableEq, Repr, Inhabited

/-- An event notification waiting to be sent. -/
structure Note where
  object : Nat := 0
  cls : Nat := 0
  target : EvState := .normal
  stamp : Stamp := 0
  seq : Nat := 0
  /-- the acknowledgement of a transition -/
  ack : Bool := false
  deriving DecidableEq, Repr, Inhabited

/-- DeviceCommunicationControl (R358). -/
inductive Dcc where
  | enabled | disabled | initiationDisabled
  deriving DecidableEq, Repr, Inhabited

/-- The services' state. Objects are keyed by the BACnet object identifier. -/
structure Services where
  /-- TIME_BASE as a 48.16 number (R337) -/
  timeBase : Int := 0
  timeValid : Bool := false
  /-- a BACnet write to UTC_Offset, standing until a commit changes SVC_UTC_OFFSET -/
  utcOffset : Option Int := none
  databaseRevision : Nat := 0
  restartReason : Nat := 0
  /-- the object store by object × 2^22 + property: encoded values (R350) -/
  store : Tbl (List Byte) := []
  /-- priority arrays of point output objects by OBJ index (R349) -/
  pointPrio : Tbl Prio := []
  /-- point output objects whose command is held DEFERRED (R349) -/
  pointHeld : List Nat := []
  /-- objects of the pool created by the last commit, by identifier (R342) -/
  pool : List Nat := []
  schedules : Tbl (Option Word32) := []
  /-- Present_Value of each schedule as encoded, and those that present Schedule_Default for want of UTC (R340) -/
  schedNow : Tbl (List Byte) := []
  calendars : Tbl Bool := []
  trends : Tbl Trend := []
  events : Tbl Intrinsic := []
  subs : List CovSub := []
  notes : List Note := []
  dcc : Dcc := .enabled
  dccUntil : Option Nat := none
  deriving DecidableEq, Repr, Inhabited

/-- Which guard drives a zone's outputs (R361): none, frost or over-temperature. -/
inductive Guard where
  | released | frost | hot
  deriving DecidableEq, Repr, Inhabited

/-- One guard of a zone (R361). -/
structure GuardRun where
  on : Bool := false
  /-- consecutive evaluations towards its next change -/
  run : Nat := 0
  /-- stamp of engagement; 0 while released -/
  since : Stamp := 0
  deriving DecidableEq, Repr, Inhabited

/-- A zone's guards (R360–R364). -/
structure Policy where
  frost : GuardRun := {}
  hot : GuardRun := {}
  /-- what owns the outputs: follows the guards at the next floor apply angle (R362) -/
  owner : Guard := .released
  blindTurns : Nat := 0
  blind : Bool := false
  /-- guard temperature of the last evaluation that had one, in 0.01 °C -/
  temp : Int := 0
  noActuatorNoted : Bool := false
  deriving DecidableEq, Repr, Inhabited
/-! ### Chart and Tiller (R558–R582) -/

/-- An image with its blink attributes (R581). -/
structure Image where
  image : List Byte := []
  blink : List Byte := []
  full : Bool := false
  deriving DecidableEq, Repr, Inhabited

/-- What the e-paper driver does (R566, R581). -/
inductive ChState where
  | idle | updating | compensating
  deriving DecidableEq, Repr, Inhabited

/-- Chart (R558–R570). -/
structure Chart where
  /-- the LCD image shown, and the one to be taken at the next frame start (R560) -/
  shown : Image := {}
  next : Option Image := none
  /-- phase of the LCD frame, 0–7 (R559) -/
  phase : Nat := 0
  /-- CHART has risen since reset: before that every output stands at 0 V (R558) -/
  risen : Bool := false
  /-- CHART_WRITE answers withheld until the frame start (R581) -/
  waiters : List Waiter := []
  state : ChState := .idle
  /-- band the temperature gives, and the valid band in use (R565) -/
  band : Nat := 0
  useBand : Nat := 0
  bandChosen : Bool := false
  /-- frames driven of the running update or compensation, and how many it has; the turn in which the last one was driven -/
  frame : Nat := 0
  frames : Nat := 0
  frameTurn : Option Nat := none
  target : List Byte := []
  /-- transition of each segment in the running update (R562) -/
  transitions : Tbl Nat := []
  /-- BALANCE by segment (R566) -/
  balance : Tbl Int := []
  /-- codes driven in the frame of `frameTurn`: +1, 0, −1 -/
  drive : Tbl Int := []
  /-- segments that had a balance when compensation started (R582) -/
  segments : Nat := 0
  /-- known state of each segment: 0 unknown, 1 off, 2 on -/
  known : Tbl Nat := []
  /-- the CHART_WRITE that waits for its update, and the one whose update runs (R564) -/
  pending : Option Image := none
  running : Bool := false
  /-- stamp at which that CHART_WRITE was accepted (R564) -/
  pendingAt : Stamp := 0
  /-- SEQ of the ledger page written last, and the page to be written next (R566) -/
  ledgerSeq : Word32 := 0
  ledgerPage : Nat := 0
  /-- an update was interrupted and waits for resumption; compensated, and the update to TARGET is due (R568) -/
  interrupted : Bool := false
  redraw : Bool := false
  /-- turn boundaries in a row with the pump rails in their windows (R568) -/
  railTurns : Nat := 0
  /-- a sample of this turn found a pump rail outside its window (R568) -/
  railBad : Bool := false
  /-- stamp of the last read-back (R570) -/
  readAt : Option Stamp := none
  /-- read-back: outputs that mismatched in this frame, frames in a row with and without a mismatch, FAULT (R570) -/
  frameBad : Tbl Bool := []
  bad : Tbl Nat := []
  good : Tbl Nat := []
  fault : Tbl Bool := []
  last : Stamp := 0
  updates : Word32 := 0
  deriving DecidableEq, Repr, Inhabited

/-- A debounced key or button (R571–R576). Keys 0–63, buttons 64–67. -/
structure Key where
  raw : Bool := false
  run : Nat := 0
  first : Stamp := 0
  pressed : Bool := false
  /-- turn-independent press time: module clock -/
  since : Nat := 0
  masked : Bool := false
  ghost : Bool := false
  rect : List Nat := []
  deriving DecidableEq, Repr, Inhabited

/-- An encoder (R574). -/
structure Encoder where
  /-- the lines at the last sample; none before the first -/
  ab : Option Nat := none
  p : Int := 0
  position : Word16 := 0
  deriving DecidableEq, Repr, Inhabited

/-- A queue entry (R577). -/
structure KeyEvent where
  code : Word32 := 0
  stamp : Stamp := 0
  deriving DecidableEq, Repr, Inhabited

/-- Tiller (R571–R578). -/
structure Tiller where
  keys : Tbl Key := []
  encoders : Tbl Encoder := []
  scanning : Bool := false
  idleScans : Nat := 0
  /-- module clock at the start of the running scan, at the last sample of buttons and encoders, and at the last poll of R576 -/
  scanAt : Nat := 0
  sampleAt : Option Nat := none
  pollAt : Option Nat := none
  queue : List KeyEvent := []
  overflow : Nat := 0
  lost : Word32 := 0
  invalid : Word32 := 0
  deriving DecidableEq, Repr, Inhabited
/-! ### Mirror frames (R494, R495) -/

/-- What section 06h says of a shared channel. -/
structure SharedRead where
  channel : Nat := 0
  on : Bool := false
  /-- switch current in mA -/
  current : Nat := 0
  stuck : Bool := false
  deriving DecidableEq, Repr, Inhabited

/-- Section 07h: trajectories, forecast and tariff overrides, occupancy estimates and profiles. -/
structure PlanShare where
  traj : Tbl Traj := []
  /-- PLAN_SEQ, the stamps of the last start and publication, time, cost and zones of the published plan, and its EPOCH (R185, R193) -/
  seq : Word32 := 0
  lastStart : Stamp := 0
  lastPublish : Stamp := 0
  time : Nat := 0
  cost : Word32 := 0
  planned : Nat := 0
  pubEpoch : Nat := 0
  forecast : Forecast := {}
  occ : Tbl Occ := []
  profile : Tbl OccBin := []
  /-- the active's present EPOCH (R499) -/
  epoch : Nat := 0
  deriving DecidableEq, Repr, Inhabited

/-- A mirror frame as it is sent or arrives (R494, R495): header and sections. The specification gives the contents of the sections and
no layout, so each carries the items it names as State holds them (assumption 18). -/
structure MirrorFrame where
  /-- MAGIC, VERSION and HCRC match -/
  ok : Bool := true
  role : Nat := 0
  seq : Nat := 0
  sendStamp : Stamp := 0
  echoSeq : Nat := 0
  echoHold : Nat := 0
  generation : Nat := 0
  flags : Nat := 0
  takeover : Stamp := 0
  handoverAt : Stamp := 0
  serial : Nat := 0
  /-- types of the sections that fail their CRC -/
  bad : List Nat := []
  /-- the active's HELM, WAYPOINT and SOUNDING bits (R503) -/
  bits : List Bool := []
  /-- 01h -/
  zones : Option (Tbl Zone × Tbl ZoneIo) := none
  /-- 02h -/
  loops : Option (Tbl FastLoop) := none
  /-- 03h -/
  ops : Option (List BankOp) := none
  /-- 04h -/
  guards : Option (Tbl Policy) := none
  /-- 05h -/
  outputs : Option (Field × Outputs) := none
  /-- 06h -/
  reads : Option (List SharedRead) := none
  /-- 07h -/
  plans : Option PlanShare := none
  /-- 08h: with the HOST inputs of R100 -/
  services : Option (Services × Tbl HostVal) := none
  /-- 09h -/
  trends : Option (Tbl Trend) := none
  /-- 0Ah -/
  partners : Option (Tbl Partner × Tbl Bind) := none
  /-- 0Bh -/
  records : List (List Byte) := []
  /-- 0Ch: the active and the shadow bank -/
  banks : Option (Bank × Bank) := none
  /-- 0Ch: generation and image of the ACTIVE set, and the active's applied Device instance (R515) -/
  set : Option (Nat × List Byte × Nat) := none
  /-- with this frame the whole of 0Ch has been sent -/
  whole : Bool := false
  deriving DecidableEq, Repr

/-- The pair (R489–R515). -/
structure Pair where
  role : PairRole := .none
  /-- PAIR_ROLE strap: high is SECOND (R489) -/
  strapSecond : Bool := false
  peerAlive : Bool := false
  peerActive : Bool := false
  /-- lanes up in each direction, two bits (R492) -/
  lanesIn : Nat := 0
  lanesOut : Nat := 0
  txSeq : Word32 := 0
  /-- frames sent, newest first, at most 32: SEQ and SEND_STAMP (R497) -/
  sent : List (Nat × Stamp) := []
  peer : Option PeerHeader := none
  /-- consecutive frames carrying ROLE 03h (R501) -/
  electFrames : Nat := 0
  electTurns : Nat := 0
  /-- frames sent while ELECTING -/
  electSent : Nat := 0
  strapNoted : Bool := false
  dSamples : List Int := []
  phiRun : Nat := 0
  current : Bool := false
  /-- the standby holds the whole of section 0Ch and every frame since (R504) -/
  bulk : Bool := false
  yielded : Bool := false
  noSignTurns : Nat := 0
  takeover : Stamp := 0
  handoverAt : Stamp := 0
  handover : Option (Nat × Nat) := none
  withdrawn : Bool := false
  /-- stamp of the last beat on ports 0–5 (R506) -/
  lastBeat : Stamp := 0
  peerActiveTurns : Nat := 0
  noFrameTurns : Nat := 0
  peerCode : Nat := 0
  frameLimitTurn : Option Nat := none
  /-- the frame sent last (R493) -/
  frame : Option MirrorFrame := none
  deriving DecidableEq, Repr, Inhabited

end Sys2Proof.Machine
end

