-- ==== Sys2Proof/Syntax.lean ====
section
/-! DEFINITION. Syntax.lean: the commands of the block, one constructor per row of the table of operations and events,
and the plain data they carry. -/

namespace Sys2Proof

/-- The time a command comes after the one before it: grains of the Meridian turn (R13), cycles of the 32 768 Hz crystal
(R543) and microseconds, for what the specification gives in seconds. See assumption 1. -/
structure At where
  grains : Nat := 0
  ticks : Nat := 0
  micros : Nat := 0
  deriving DecidableEq, Repr, Inhabited

/-- A mailbox request as accepted (R375): who sent it, its tag and sequence number, and its operands. The class and
the opcode are the command's own. -/
structure Req where
  /-- 1 the QSPI rings, 2 the fallback window, 3 the fallback UART, 16 and up a UDP session (R370, R391) -/
  session : Nat := 1
  tag : Nat := 0
  seq : Nat := 0
  target : Nat := 0
  fn : Nat := 0
  payload : List Byte := []
  deriving DecidableEq, Repr, Inhabited

/-- What NV_RECOVERY finds: whether 20 ms have passed since BINNACLE rose (R456), the Binnacle slots whose image verifies, by bits
(R529), and whether the ACTIVE service image does (R475). -/
structure Recovery where
  late : Bool := false
  images : Nat := 3
  service : Bool := true
  deriving DecidableEq, Repr, Inhabited

/-- How a journaled page operation ends (R440, R441): whole; cut by the supply after so many words of the slot (step 2) or,
committed, of the target (steps 3 to 5); or ended by a second read-back mismatch at step 2, or at step 4 with what the target
then holds. -/
inductive JrnFate where
  | whole
  | cutSlot (words : Nat)
  | cutTarget (words : Nat)
  | failSlot
  | failTarget (held : List Byte)
  deriving DecidableEq, Repr, Inhabited

/-- What a target does with one transfer of a recipe (R240): the bytes it gives to a READ, or why the transfer fails. -/
inductive I2cXfer where
  | ok (bytes : List Byte)
  | addrNack
  | dataNack
  | stretch
  | stuck
  deriving DecidableEq, Repr, Inhabited

/-- What a frame received on a port carries for a request of the module (R307, R325): values as encoded, each with the FAULT flag
of its object, or a refusal; or a confirmed service the module does not execute. -/
inductive BusApdu where
  | other
  | unrecognized
  | ack (id : Nat) (values : List (List Byte × Bool))
  | refused (id : Nat)
  deriving DecidableEq, Repr, Inhabited

/-- A frame as it arrives on a port (R299, R304): the side of the switch it came from, its MAC-level source and destination, the
ADDRESS of R317 it comes from, its length and what the port engine found about it. -/
structure BusFrame where
  port : Nat := 0
  /-- 0 ETH0, 1 ETH1; port 0 only -/
  side : Nat := 0
  src : Nat := 0
  dst : Nat := 0
  address : Nat := 0
  ip : Nat := 0
  length : Nat := 64
  fcsOk : Bool := true
  tagged : Bool := false
  /-- it begins or ends a segmented APDU (R308) -/
  segFirst : Bool := false
  segLast : Bool := false
  /-- the heartbeat frame of R506, or on a Modbus line the active module's request or reply -/
  beat : Bool := false
  /-- an MS/TP station's answer to poll-for-master -/
  pollReply : Bool := false
  /-- the transmit opportunity in which a T1S frame began -/
  node : Option Nat := none
  apdu : BusApdu := .other
  deriving DecidableEq, Repr, Inhabited

/-- A property a BACnet request names, with what it writes. -/
structure PropItem where
  object : Nat := 0
  prop : Nat := 85
  index : Option Nat := none
  priority : Nat := 0
  value : List Byte := []
  deriving DecidableEq, Repr, Inhabited

/-- What a Who-Is or Who-Has asks for (R307). -/
inductive WhoWhat where
  | everyone
  | range (lo hi : Nat)
  | hasId (object : Nat)
  | hasName (name : List Byte)
  deriving DecidableEq, Repr, Inhabited

/-- A network-layer message (R311), or an NPDU to pass on, with its length. -/
inductive NetMsg where
  | whoIsRouter (net : Option Nat)
  | iAmRouter (nets : List Nat)
  | rejectMessage (reason net : Nat)
  | routerBusy (nets : List Nat)
  | routerAvailable (nets : List Nat)
  | whatIsNetworkNumber
  | networkNumberIs (net : Nat)
  | initRoutingTable
  | npdu (net length : Nat)
  deriving DecidableEq, Repr, Inhabited

/-- The states DeviceCommunicationControl asks for (R358). -/
inductive Dcc3 where
  | enable
  | disable
  | disableInitiation
  deriving DecidableEq, Repr, Inhabited

/-- The commands of the block: one constructor per row of the table of operations and events. -/
inductive Instr where
  /-- POWER_ON_START (R521): VMAIN or VBACK is held present for 1 ms in state OFF, which starts the module in MAIN or BACKUP and runs the start-up timeline. -/
  | powerOnStart (a : At) (second test : Bool)
  /-- RESET_N_ASSERTED (R527): RESET_N is held low for 10 us or longer, which resets the module and holds it in reset while the land stays low. -/
  | resetNAsserted (a : At)
  /-- RESET_N_RELEASED (R526): RESET_N rises after a pin reset, which releases reset and restarts the timeline with cause PIN. -/
  | resetNReleased (a : At)
  /-- THERMAL_RESET (R526): The LD die stays at 140 C or above for 10 ms, which resets the module with cause THERMAL until the die is below 115 C. -/
  | thermalReset (a : At)
  /-- RAIL_LOST (R35): An LD rail falls below 90 % while the Binnacle island survives; Binnacle writes a SEVERITY 5 record and holds the module in reset. -/
  | railLost (a : At) (rail mv : Nat)
  /-- RAIL_GOOD_RELEASE (R35): The lost rail has been good for 10 ms, which releases the RAIL reset. -/
  | railGoodRelease (a : At)
  /-- SUPPLY_SAMPLE (R521): A 50 us sample of VMAIN, VBACK and VHOLD drives the supply-selection state machine. -/
  | supplySample (a : At) (vmain vback vhold : Nat)
  /-- SWITCH_TO_MAIN (R521): VMAIN has been present without a break for 100 ms while in BACKUP, or VBACK is lost, so the state changes to MAIN. -/
  | switchToMain (a : At)
  /-- COLLAPSE (R444): Two consecutive samples show both supplies absent; Binnacle sheds loads, finishes the page in flight and writes the last-gasp record. -/
  | collapse (a : At)
  /-- HOLDUP_END (R525): The collapse sequence has ended; the LD and PA rails are removed and the state becomes OFF. -/
  | holdupEnd (a : At)
  /-- NV_GOOD_CHANGE (R443): VHOLD crosses 12.0 V rising or 11.5 V falling, which sets or clears the NV-good condition and releases held writes. -/
  | nvGoodChange (a : At)
  /-- HOLD_STORE_MEASUREMENT (R524): Binnacle times the discharge of VHOLD under a 10 mA load and classes the store as OK, LOW or ABSENT. -/
  | holdStoreMeasurement (a : At) (cap10 : Nat)
  /-- SLEEP_ENTRY (R537): The module has been in BACKUP for PWR_SLEEP_DELAY turns with no guard engaged and SLEEP is selected, so it stops the engines and powers down LD. -/
  | sleepEntry (a : At)
  /-- WAKE (R538): VMAIN returns, a key or encoder step occurs, or an Almanac alarm fires, which ends SLEEP with a reset of cause WAKE. -/
  | wake (a : At) (source : Nat)
  /-- CRYSTAL_LOST (R39): The 25 MHz crystal fails; Binnacle moves the fabric to the disciplined RC and the Ethernet, T1S and Mirror ports stop. -/
  | crystalLost (a : At)
  /-- CRYSTAL_RETURNED (R39): The crystal has run cleanly for 64 turns, so the fabric returns to it at the next turn boundary. -/
  | crystalReturned (a : At)
  /-- SENSOR_SAMPLE (R471): Binnacle samples the rails, die temperatures and supplies, and writes a record after 4 samples out of window. -/
  | sensorSample (a : At) (rails : List Nat) (temps : List Int) (vbat : Option Nat) (iin : Nat)
  /-- SRAM_SCRUB_STEP (R472): Binnacle scrubs LD SRAM, rewrites corrected words and applies the effect that the region table gives for an uncorrectable word. -/
  | sramScrubStep (a : At) (region item corrected uncorrectable : Nat)
  /-- MRAM_SCRUB_STEP (R438): Every 16 turns Binnacle reads the next MRAM page for scrubbing. -/
  | mramScrubStep (a : At) (corrected bad : List Nat)
  /-- JOURNALED_PAGE_OPERATION (R440): A queued page write runs through the journal steps: slot write, INTENT, target write and DONE. -/
  | journaledPageOperation (a : At) (fate : JrnFate)
  /-- SHEAF_ADDITION (R453): An addition to a sheaf counter writes the next cell of its ring. -/
  | sheafAddition (a : At) (cut : Bool)
  /-- RECORD_WRITE (R447): A record-layer object is written page by page, with the header page last. -/
  | recordWrite (a : At)
  /-- COMPACTION (R448): The record store copies records in force until a free run is long enough, and the waiting write follows. -/
  | compaction (a : At)
  /-- NV_RECOVERY (R456): At the first NV-good instant Binnacle redoes the journal, indexes the records and raises NVSTORE. -/
  | nvRecovery (a : At) (found : Recovery)
  /-- CONFIG_SELECTION (R424): At NVSTORE Binnacle classes the sets, picks the newest valid one, evaluates it and raises CONFIG. -/
  | configSelection (a : At)
  /-- LOGBOOK_RECOVERY (R468): After NVSTORE the Logbook is indexed, protection windows are restored and LOGBOOK rises. -/
  | logbookRecovery (a : At)
  /-- LOGBOOK_WRITE (R461): Binnacle writes queued records into the next unprotected slots, posting their event entries. -/
  | logbookWrite (a : At)
  /-- LOGBOOK_RECORD_RAISED (R462): An engine passes a record to Binnacle's queue, displacing or dropping one when the queue is full. -/
  | logbookRecordRaised (a : At) (source severity code : Nat) (payload : List Byte) (posts : Bool) (target : Nat)
  /-- SERVICE_HEARTBEAT_TIMEOUT (R473): A service core writes no heartbeat for 100 ms, which is a service-firmware failure. -/
  | serviceHeartbeatTimeout (a : At) (core : Nat)
  /-- SERVICE_START_TIMEOUT (R473): SERVICES has not risen within 2 s of the image's start, which is a failure. -/
  | serviceStartTimeout (a : At)
  /-- SERVICE_FAULT_REPORT (R473): The firmware reports an unrecoverable fault, which is a failure. -/
  | serviceFaultReport (a : At) (core : Nat)
  /-- SERVICE_RESTART (R474): 100 ms after a failure, or at once after a deliberate restart, Binnacle starts the service image. -/
  | serviceRestart (a : At) (verifies : Bool)
  /-- FAILURE_COUNT_RESET (R474): SERVICES has stayed set for 16 384 turns, so the failure count returns to 0. -/
  | failureCountReset (a : At)
  /-- BINNACLE_WATCHDOG (R478): The ROM watchdog is not refreshed for 50 ms, so the Binnacle image is restarted. -/
  | binnacleWatchdog (a : At) (kept : Bool)
  /-- HEALTHY (R486): A trial image reports HEALTHY, so its slot becomes ACTIVE and the former slot becomes PREVIOUS. -/
  | healthy (a : At) (binnacle : Bool)
  /-- TRIAL_TIMEOUT (R486): 60 s pass without HEALTHY, so the trial slot is REJECTED and the former image is started again. -/
  | trialTimeout (a : At) (binnacle : Bool)
  /-- VERIFY_COMPLETE (R485): Verification of an image ends; the slot becomes VERIFIED or REJECTED and COMPLETED is posted. -/
  | verifyComplete (a : At) (binnacle verifies : Bool)
  /-- FITTED_CROSSING (R45): A positive crossing of the fitted fundamental ends a cycle, which is judged; it may start or advance qualification or lead to CAPTURE or RELOCK. -/
  | fittedCrossing (a : At) (period ampFirst ampLast : Nat)
  /-- FIT_UPDATE (R41): Every half turn the single-bin DFT fit is updated, and the capture or slew rate is adjusted. -/
  | fitUpdate (a : At) (hz amp toEnd : Nat)
  /-- LOSS_DETECTION (R48): No valid crossing within 1.25 turns, so Meridian enters DEAD_RECKONING at rate f_dr. -/
  | lossDetection (a : At)
  /-- TURN_BOUNDARY (R46): A Meridian turn ends; the turn count advances and the turn-based checks run. -/
  | turnBoundary (a : At) (e : Int)
  /-- TURN_MARK (R56): Once per 65 536 turns Meridian writes the turn-mark record. -/
  | turnMark (a : At)
  /-- CONCORDANCE_LOG_PERIOD (R74): Once per 262 144 turns a periodic CONCORDANCE Logbook record is written while CONCORD_LOG is on. -/
  | concordanceLogPeriod (a : At)
  /-- SLOT_FIRE (R70): An armed event slot reaches its due stamp and fires its action, in ascending slot order. -/
  | slotFire (a : At) (slot late waiting : Nat)
  /-- BANK_COPY_COMPLETE (R133): The background copy of the active bank into the shadow bank completes, and takes effect at the next floor sample angle. -/
  | bankCopyComplete (a : At)
  /-- BANK_SAVE (R155): At a 64-turn boundary after a bank change, the active bank is saved to the record store. -/
  | bankSave (a : At)
  /-- BANK_LOADED (R157): At start-up the saved bank is loaded into both banks and HELM rises. -/
  | bankLoaded (a : At)
  /-- CONVERSION_DONE (R229): An integration turn ends; the conversion is calibrated, checked for faults, linearised, filtered and posted. -/
  | conversionDone (a : At) (c : Nat) (p : Word32)
  /-- CALIBRATION_RESULT (R227): A zero or gain calibration turn ends; its result is applied or rejected. -/
  | calibrationResult (a : At) (c : Nat) (dev : Int)
  /-- START_CALIBRATION (R233): The zero and gain turns of all cores after MERIDIAN rises complete, and UI rises. -/
  | startCalibration (a : At)
  /-- RECIPE_RUN (R237): A due I2C recipe runs its steps on its bus. -/
  | recipeRun (a : At) (n : Nat) (xs : List I2cXfer) (released : Bool)
  /-- RECIPE_RETRY (R240): 1 ms after a failed run, the recipe is repeated within its due turn. -/
  | recipeRetry (a : At) (n : Nat) (xs : List I2cXfer) (released : Bool)
  /-- RECIPE_COMPLETE (R240): A run ends; the value is extracted, scaled and posted, or the fault is classed. -/
  | recipeComplete (a : At) (n ago : Nat)
  /-- BARRIER_FRAME (R245): A barrier-link frame arrives whole and is checked; downlink frames refresh the field side, uplink frames refresh the logic side. -/
  | barrierFrame (a : At) (g : Nat) (up start crcOk : Bool) (seq vfield : Nat) (currents : List Nat)
  /-- UPLINK_TIMEOUT (R248): No valid uplink frame for 100 us, so FGn clears. -/
  | uplinkTimeout (a : At) (g : Nat)
  /-- BARRIER_TIMEOUT (R265): No valid downlink frame for the barrier timeout, so the group enters its safe state. -/
  | barrierTimeout (a : At) (g : Nat)
  /-- BARRIER_POWER_CHANGE (R247): Barrier power to a group fails or returns. -/
  | barrierPowerChange (a : At) (g : Nat) (on : Bool)
  /-- VFIELD_CHANGE (R247): VFIELD rises above 14.0 V or falls below 12.0 V, which changes its presence. -/
  | vfieldChange (a : At) (g v : Nat)
  /-- VFIELD_UV (R267): VFIELD stays below FG_VFIELD_UV for 1 ms, so the inputs become FAULT. -/
  | vfieldUv (a : At) (g v : Nat)
  /-- PARAMETER_BLOCK_APPLIED (R266): A group's new parameter block checks and is applied at a turn boundary. -/
  | parameterBlockApplied (a : At) (g : Nat) (crcOk : Bool)
  /-- RESUME (R266): Binnacle sends RESUME at a turn boundary, so the group leaves its safe state and FGn rises. -/
  | resume (a : At) (g : Nat)
  /-- BARRIER_DELAY_MEASUREMENT (R246): Every 64 turns the barrier round trip is measured. -/
  | barrierDelayMeasurement (a : At) (g ns : Nat)
  /-- EDGE_ACCEPTED (R252): A run of raw samples over FC_IN_DEBOUNCE accepts a new input state and stamps its edge. -/
  | edgeAccepted (a : At) (n : Nat) (on : Bool) (ago : Nat) (current : Option Nat)
  /-- EDGE_LOST (R254): Record of edge-ring entries overwritten or of edges lost while the link was down. -/
  | edgeLost (a : At) (n : Nat)
  /-- FREQ_GATE (R255): At the end of a frequency gate, the channel frequency is computed and posted. -/
  | freqGate (a : At) (n : Nat)
  /-- TPO_OFF_EDGE (R259): The on time of a TPO period ends, so the channel switches off. -/
  | tpoOffEdge (a : At) (n : Nat)
  /-- OVERLOAD (R261): The current limit stays engaged for FC_OVL_TIME, so the channel trips off. -/
  | overload (a : At) (n : Nat)
  /-- THERMAL (R261): A channel junction passes its shutdown temperature, so the channel trips off. -/
  | thermal (a : At) (n : Nat)
  /-- GROUP_OVERLOAD (R261): The group current stays above the limit for 5 ms, so the largest ON channel trips off. -/
  | groupOverload (a : At) (g current : Nat)
  /-- TRIP_RETRY (R261): At the first turn boundary FC_RETRY_DELAY turns after a trip, the owner's level is applied again, or the channel latches. -/
  | tripRetry (a : At) (n : Nat) (cooled : Bool)
  /-- RETRY_SERIES_END (R261): The channel has been ON for FC_RETRY_DELAY turns without a trip, so its series ends. -/
  | retrySeriesEnd (a : At) (n : Nat)
  /-- OPEN_LOAD (R262): The open-load condition holds or clears for 10 ms. -/
  | openLoad (a : At) (n level : Nat)
  /-- DARK_PULSE (R263): At a due turn the switch opens for FC_DARK_WIDTH and the pin is checked. -/
  | darkPulse (a : At) (n : Nat) (readOff : Bool) (current : Nat)
  /-- BACKFEED (R267): An OFF output reads ON for 1 ms after settle with little switch current. -/
  | backfeed (a : At) (n : Nat) (holds : Bool)
  /-- STUCK_ON (R267): An OFF switch carries 20 mA or more for 1 ms, and the group disconnect opens with FG_CUT. -/
  | stuckOn (a : At) (n current : Nat)
  /-- SWITCH_FAIL (R267): An ON output reads OFF for 1 ms after settle with no limit or thermal cause. -/
  | switchFail (a : At) (n : Nat) (holds : Bool)
  /-- FORCE_DURATION_END (R273): The DURATION of a force ends, so the output returns to its next owner. -/
  | forceDurationEnd (a : At) (kind n : Nat)
  /-- AO_WATCHDOG_REFRESH (R278): Every 1.0 ms Meridian refreshes the PA watchdog. -/
  | aoWatchdogRefresh (a : At)
  /-- WATCHDOG (R278): The PA watchdog runs 16 ms without refresh; the AOs drive AO_SAFE and the AGOs go to high impedance. -/
  | watchdog (a : At)
  /-- AO_MONITOR_SAMPLE (R279): Once per turn PA samples each output and updates LIMIT and MISMATCH. -/
  | aoMonitorSample (a : At) (readings : List (Nat × Int × Bool))
  /-- AGO_LATCH (R281): At an AGO latch angle the output takes its owner's value for its mode. -/
  | agoLatch (a : At) (n : Nat)
  /-- AGO_EDGE (R281): A compare unit issues a scheduled AGO pin edge. -/
  | agoEdge (a : At) (n : Nat)
  /-- MDIO_POLL (R298): Every 10 ms SC1 reads each PHY's link and sets the MAC to match. -/
  | mdioPoll (a : At) (phy : Nat) (link : Bool) (speed : Nat) (full : Bool)
  /-- BUS_FRAME_RECEIVED (R304): A whole frame with a valid checksum arrives on a port and passes to its protocol layer. -/
  | busFrameReceived (a : At) (f : BusFrame)
  /-- RESPONSE_TIMEOUT_DISCARD (R306): A response that has found no transmit buffer for 3 s is discarded. -/
  | responseTimeoutDiscard (a : At) (p : Nat)
  /-- BACNET_READ_PROPERTY (R307): A ReadProperty or ReadPropertyMultiple request is executed. -/
  | bacnetReadProperty (a : At) (p peer : Nat) (multiple : Bool) (items : List PropItem)
  /-- BACNET_WRITE_PROPERTY (R346): A WriteProperty or WritePropertyMultiple request is executed against the object rules. -/
  | bacnetWriteProperty (a : At) (p peer : Nat) (multiple : Bool) (items : List PropItem)
  /-- BACNET_SUBSCRIBE_COV (R307): A SubscribeCOV request is executed. -/
  | bacnetSubscribeCov (a : At) (p peer process object : Nat) (confirmed : Bool) (lifetime : Option Nat) (cancel : Bool)
  /-- COV_NOTIFICATION (R325): A received COV notification delivers a binding value with its frame stamp. -/
  | covNotification (a : At) (p addr object : Nat) (value : List Byte) (fault confirmed : Bool)
  /-- WHO_IS (R307): A received Who-Is or Who-Has is answered with I-Am or I-Have. -/
  | whoIs (a : At) (p : Nat) (w : WhoWhat)
  /-- I_AM (R318): A received I-Am creates, refreshes or moves a partner entry. -/
  | iAm (a : At) (p addr inst net : Nat)
  /-- PARTNER_CHANGED (R323): Event entry for a moving partner-table generation, posted at most once per 64 turns. -/
  | partnerChanged (a : At)
  /-- TIME_SYNCHRONIZATION (R338): A TimeSynchronization or UTCTimeSynchronization request sets TIME_BASE. -/
  | timeSynchronization (a : At) (p : Nat) (isLocal : Bool) (secs hundredths : Nat)
  /-- ACKNOWLEDGE_ALARM (R357): An AcknowledgeAlarm request is checked against the event timestamp. -/
  | acknowledgeAlarm (a : At) (p peer object kind : Nat) (isSeq : Bool) (time : Nat)
  /-- GET_EVENT_INFORMATION (R357): A GetEventInformation request returns up to 32 events. -/
  | getEventInformation (a : At) (p peer : Nat) (after : Option Nat)
  /-- READ_RANGE (R354): A ReadRange request reads a trend log by position, by sequence number or by time. -/
  | readRange (a : At) (p peer object mode ref : Nat) (count : Int)
  /-- DEVICE_COMMUNICATION_CONTROL (R358): A DeviceCommunicationControl request changes the communication state for a duration. -/
  | deviceCommunicationControl (a : At) (p peer : Nat) (state : Dcc3) (minutes : Option Nat) (password : List Byte)
  /-- DCC_DURATION_END (R358): The duration of a DeviceCommunicationControl ends. -/
  | dccDurationEnd (a : At)
  /-- REINITIALIZE_DEVICE (R359): A ReinitializeDevice request restarts the service firmware or resets the module. -/
  | reinitializeDevice (a : At) (p peer state : Nat) (password : List Byte)
  /-- NETWORK_LAYER_MESSAGE (R311): A router network-layer message is handled, or an NPDU is routed or rejected. -/
  | networkLayerMessage (a : At) (p peer : Nat) (m : NetMsg)
  /-- APDU_TIMEOUT (R308): A confirmed request gets no answer within 3 s and is retried or fails. -/
  | apduTimeout (a : At) (id : Nat)
  /-- DUP_MAC_HOLD_END (R310): 64 turns after DUP_MAC, transmission on the line resumes. -/
  | dupMacHoldEnd (a : At) (n : Nat)
  /-- MODBUS_SLAVE_REQUEST (R315): A Modbus request addressed to MB_UNIT is served from the map or answered with an exception. -/
  | modbusSlaveRequest (a : At) (n fn addr count waddr : Nat) (values : List Nat)
  /-- MODBUS_REPLY (R314): A reply to a master request delivers binding values. -/
  | modbusReply (a : At) (id : Nat) (exception : Bool) (regs : List Nat)
  /-- MODBUS_TIMEOUT (R314): No valid reply within MB_TIMEOUT, so the request is repeated or fails. -/
  | modbusTimeout (a : At) (id : Nat)
  /-- SC_CONNECT_RESULT (R312): A BACnet/SC connect attempt succeeds, fails or times out after 10 s. -/
  | scConnectResult (a : At) (ok : Bool) (code : Nat)
  /-- SC_CONNECTION_LOST (R312): The hub connection is lost or a heartbeat goes unanswered. -/
  | scConnectionLost (a : At) (code : Nat)
  /-- SC_RECONNECT (R312): SC_RECONNECT seconds pass, so a connect attempt is made. -/
  | scReconnect (a : At)
  /-- WHOIS_PERIOD (R318): Every BUS_WHOIS_PERIOD turns a global Who-Is is sent on every BACnet port. -/
  | whoisPeriod (a : At)
  /-- PROVISIONAL_TIMEOUT (R318): A PROVISIONAL entry unidentified for 4 096 turns is removed. -/
  | provisionalTimeout (a : At) (i : Nat)
  /-- PARTNER_HALF_SILENCE (R319): A partner is silent for BUS_SILENCE / 2 turns, so a directed Who-Is is sent. -/
  | partnerHalfSilence (a : At) (i : Nat)
  /-- PARTNER_SILENT (R319): A partner is silent for BUS_SILENCE turns; the entry is removed or becomes SILENT. -/
  | partnerSilent (a : At) (i : Nat)
  /-- PARTNER_SAVE (R324): Every 65 536 turns the bound partner identities are saved. -/
  | partnerSave (a : At)
  /-- BINDING_POLL (R326): At its due turn a read binding is polled. -/
  | bindingPoll (a : At) (b : Nat)
  /-- COV_RENEW (R326): At three quarters of its lifetime a COV subscription is renewed. -/
  | covRenew (a : At) (b : Nat)
  /-- BINDING_WRITE (R328): At the owner's apply angle a write binding queues its value on deadband, heartbeat or partner identification. -/
  | bindingWrite (a : At) (b : Nat)
  /-- BINDING_WRITE_RETRY (R328): A failed write is repeated every BIND_PERIOD turns. -/
  | bindingWriteRetry (a : At) (b : Nat)
  /-- EVENT_NOTIFICATION_SEND (R357): An event transition sends notifications to the recipients of its class. -/
  | eventNotificationSend (a : At)
  /-- GUARD_ENGAGED (R361): A guard condition has held for SCP_DELAY evaluations, so the guard takes its actuators. -/
  | guardEngaged (a : At) (z : Nat) (hot : Bool)
  /-- GUARD_RELEASED (R361): The release condition has held after SCP_MIN_ON, so the guard releases. -/
  | guardReleased (a : At) (z : Nat) (hot : Bool)
  /-- GUARD_BLIND (R361): An engaged guard of a blind zone releases after SCP_BLIND_LIMIT turns. -/
  | guardBlind (a : At) (z : Nat) (hot : Bool)
  /-- HOST_VALUE_SAVE (R99): At every 64-turn boundary the HOST values and priority arrays are saved. -/
  | hostValueSave (a : At)
  /-- PLAN_START (R179): A plan starts at a turn boundary after WP_PERIOD or after a triggering event. -/
  | planStart (a : At)
  /-- PLAN_COMPLETE (R181): A plan completes and is published at the next floor apply angle. -/
  | planComplete (a : At) (us : Nat)
  /-- PLAN_DISCARDED (R179): A running plan is discarded by a commit, an Almanac write or WAYPOINT clearing. -/
  | planDiscarded (a : At)
  /-- PLAN_MODEL_DERIVED (R174): Derivation of the plan model completes. -/
  | planModelDerived (a : At) (us : Nat)
  /-- PLAN_STALE (R194): Record of trajectories that passed WP_MAX_AGE. -/
  | planStale (a : At)
  /-- OCC_UPDATE (R186): Every 64 turns the occupancy estimator records a mark and updates its estimate. -/
  | occUpdate (a : At)
  /-- PLAN_STEP_END (R190): At the end of a 900 s step, the learned occupancy profile bins are updated. -/
  | planStepEnd (a : At)
  /-- SOUND_SETTLED (R205): SETTLE intervals have passed, so capture begins. -/
  | soundSettled (a : At) (z : Nat)
  /-- SOUND_CAPTURED (R205): LENGTH samples are held, so the zone leaves SOUNDING and fitting begins. -/
  | soundCaptured (a : At) (z : Nat)
  /-- SOUND_ABORTED (R207): A running sounding is aborted, for example by a guard, a gap or a commit. -/
  | soundAborted (a : At) (z cause : Nat)
  /-- SOUND_FIT_COMPLETE (R214): A fit and its tests complete, so the result is ACCEPTED or REJECTED and may be delivered. -/
  | soundFitComplete (a : At) (z : Nat)
  /-- DEFERRED_START (R386): A DEFERRED operation whose precondition ends is performed. -/
  | deferredStart (a : At) (n : Nat)
  /-- CFG_EFFECT (R426): At instant E the evaluated set becomes ACTIVE and the changed functions apply their fields. -/
  | cfgEffect (a : At)
  /-- MIRROR_FRAME_RECEIVED (R496): A mirror frame from the peer is checked and its sections are installed. -/
  | mirrorFrameReceived (a : At) (f : Machine.MirrorFrame)
  /-- LANE_CHANGE (R492): A Mirror link lane comes up after 1 ms of clean lock, or goes down. -/
  | laneChange (a : At) (lanesIn lanesOut : Nat)
  /-- PEER_LINE_CHANGE (R490): PEER_ALIVE or PEER_ACTIVE has held a new level for 1 ms. -/
  | peerLineChange (a : At) (alive active : Bool)
  /-- ELECTION (R501): An ELECTING module takes its role at a turn boundary. -/
  | election (a : At)
  /-- TAKEOVER (R508): The standby sees two signs at a turn boundary and becomes active. -/
  | takeover (a : At)
  /-- DUAL_ACTIVE (R510): A second active module is found, so one yields to standby. -/
  | dualActive (a : At)
  /-- YIELDED_CLEAR (R511): No sign has held for 64 turns, so YIELDED clears. -/
  | yieldedClear (a : At)
  /-- WITHDRAWAL (R512): SERVICES clears, the crystal is lost or autopilot is entered, so the module stops its frames and drops its pair lines. -/
  | withdrawal (a : At)
  /-- HANDOVER_BOUNDARY (R513): At the planned boundary B, the active hands the floor to the standby. -/
  | handoverBoundary (a : At)
  /-- SYNCHRONISATION_COMPLETE (R504): The standby holds section 0Ch and all frames since, so it sets CURRENT. -/
  | synchronisationComplete (a : At)
  /-- SHARED_CHANNEL_COMPARISON (R514): The standby compares a shared channel's read-back with the active's level. -/
  | sharedChannelComparison (a : At) (n : Nat) (readback activeAgrees settled : Bool)
  /-- PHASE_ALIGN (R498): The standby aligns its grain 0 to the active's after 16 frames with abs(phi) > 200. -/
  | phaseAlign (a : At)
  /-- ALMANAC_ALIGN (R499): The standby writes its Almanac to the active's count when they differ by more than 32 768 ticks. -/
  | almanacAlign (a : At) (peerTicks : Nat)
  /-- ALMANAC_COMMIT_EDGE (R547): A pending count commit replaces the count at the next crystal edge and advances EPOCH. -/
  | almanacCommitEdge (a : At)
  /-- ALARM (R549): An enabled alarm fires when the count reaches its value. -/
  | alarm (a : At) (n : Nat)
  /-- WRAPPED (R543): The count rolls over and WRAPPED is set. -/
  | wrapped (a : At)
  /-- ALMANAC_CRYSTAL_CHECK (R545): Every 64 turns the tick count is checked against the crystal, setting or clearing TICK_FAULT. -/
  | almanacCrystalCheck (a : At) (expected : Nat)
  /-- DOMAIN_POWER_ON (R553): The Almanac domain powers on after losing both PA's rail and VBAT. -/
  | domainPowerOn (a : At)
  /-- POWER_LOST (R553): Record of an Almanac domain power-on, written when ALMANAC rises. -/
  | powerLost (a : At)
  /-- EPAPER_UPDATE_START (R564): An e-paper update starts at a turn boundary with its band chosen. -/
  | epaperUpdateStart (a : At)
  /-- EPAPER_FRAME (R567): A ledger page commits and the next e-paper frame is driven. -/
  | epaperFrame (a : At)
  /-- EPAPER_UPDATE_END (R564): The last frame of an update ends, which posts COMPLETED and starts any pending update. -/
  | epaperUpdateEnd (a : At)
  /-- COMPENSATION_START (R568): At resumption, compensating frames are run for an interrupted update. -/
  | compensationStart (a : At)
  /-- COMPENSATED (R582): Record of compensation completed. -/
  | compensated (a : At)
  /-- CHART_READBACK (R570): PA samples the driver outputs and sets or clears FAULT after 3 frames. -/
  | chartReadback (a : At) (levels : List Int)
  /-- TILLER_ROW_FALL (R572): A matrix row falls through its threshold, so scanning starts. -/
  | tillerRowFall (a : At)
  /-- TILLER_SCAN (R572): A 1 ms matrix scan samples the keys and accepts debounced changes. -/
  | tillerScan (a : At) (closed : List Nat)
  /-- TILLER_SAMPLE (R572): Buttons and encoders are sampled every 62.5 us. -/
  | tillerSample (a : At) (buttons : Nat) (lines : Nat)
  /-- STUCK (R575): A key stays pressed for TL_STUCK_TIME and is masked. -/
  | stuck (a : At) (key : Nat)
  /-- TILLER_MASKED_POLL (R576): Every 50 ms the column of a masked key is polled. -/
  | tillerMaskedPoll (a : At) (closed : List Nat)
  /-- TILLER_INITIAL (R578): When TILLER rises, the keys found pressed post INITIAL events. -/
  | tillerInitial (a : At) (closed : List Nat) (buttons : Nat) (lines : Nat)
  /-- REQ_PROD_WRITE (R379): The host writes REQ_PROD, the doorbell that hands requests to the server, or the write is ignored. -/
  | reqProdWrite (a : At) (value : Nat)
  /-- RSP_CONS_WRITE (R379): The host frees response slots, which lets waiting responses post. -/
  | rspConsWrite (a : At) (value : Nat)
  /-- EVT_CONS_WRITE (R379): The host frees event-ring places. -/
  | evtConsWrite (a : At) (value : Nat)
  /-- IRQ_STATUS_WRITE (R372): A write-1-to-clear write to IRQ_STATUS clears interrupt bits, which may release HOST_IRQ_N. -/
  | irqStatusWrite (a : At) (value : Nat)
  /-- EVT_LOST_READ (R372): A read of EVT_LOST returns the count and clears it. -/
  | evtLostRead (a : At)
  /-- FB_DOORBELL_GO (R393): GO hands the fallback request buffer to Binnacle, which executes it. -/
  | fbDoorbellGo (a : At) (value : Nat)
  /-- REGISTER_WRITE (R374): A write to a register with no behaviour of its own takes effect when chip select rises. -/
  | registerWrite (a : At) (alm : Bool) (addr : Nat) (bytes : List Byte)
  /-- REQUEST_ACCEPT (R380): The server takes the next request from the ring, checks it and accepts or rejects it. -/
  | requestAccept (a : At)
  /-- RESPONSE_POST (R382): A completed response is written to the response ring when there is room. -/
  | responsePost (a : At) (session : Nat)
  /-- UART_BYTE_GAP (R394): A gap of more than 1 ms ends UART reception and discards a partial message. -/
  | uartByteGap (a : At)
  /-- UART_MESSAGE (R394): A whole fallback UART message is received and queued for Binnacle. -/
  | uartMessage (a : At) (bytes : List Byte)
  /-- UDP_DATAGRAM (R392): A UDP mailbox datagram is authenticated, checked for replay and accepted, or silently refused. -/
  | udpDatagram (a : At) (ip port : Nat) (bytes : List Byte)
  /-- AUTH_FAILED (R412): Record summarising refused datagrams and proofs, at most once per 64 turns. -/
  | authFailed (a : At)
  /-- UDP_SESSION_IDLE (R391): A UDP session idle for SEC_UDP_IDLE seconds is closed. -/
  | udpSessionIdle (a : At) (session : Nat)
  /-- ZONE_STATUS (R108): BASIC 0001h returns the zone status word. -/
  | zoneStatus (a : At) (r : Req)
  /-- SIGNAL_READ (R401): BASIC 0002h returns a zone signal with its stamp and validity. -/
  | signalRead (a : At) (r : Req)
  /-- SIGNAL_WRITE (R402): BASIC 0003h writes a HOST zone signal or a priority slot. -/
  | signalWrite (a : At) (r : Req)
  /-- MODE_WRITE (R103): BASIC 0004h writes a zone mode, applied at the next sample or deferred. -/
  | modeWrite (a : At) (r : Req)
  /-- HOST_INPUT_WRITE (R100): BASIC 0005h writes a host input named by a non-zone field. -/
  | hostInputWrite (a : At) (r : Req)
  /-- WP_FORECAST (R170): BASIC 0010h replaces the weather forecast and causes a replan. -/
  | wpForecast (a : At) (r : Req)
  /-- WP_TARIFF (R172): BASIC 0011h sets tariff overrides and causes a replan. -/
  | wpTariff (a : At) (r : Req)
  /-- WP_REPLAN (R179): BASIC 0012h requests a replan. -/
  | wpReplan (a : At) (r : Req)
  /-- WP_STATUS (R193): BASIC 0013h returns the planner status. -/
  | wpStatus (a : At) (r : Req)
  /-- WP_TRAJECTORY (R193): BASIC 0014h returns the trajectory of a planned reference. -/
  | wpTrajectory (a : At) (r : Req)
  /-- OCC_READ (R193): BASIC 0018h returns the occupancy estimate of a zone. -/
  | occRead (a : At) (r : Req)
  /-- UI_READ (R243): BASIC 0020h returns a universal input's value and status. -/
  | uiRead (a : At) (r : Req)
  /-- I2C_READ (R243): BASIC 0021h returns a recipe's value, buffer and fault state. -/
  | i2cRead (a : At) (r : Req)
  /-- FC_READ (R273): BASIC 0028h returns a field channel's state and status. -/
  | fcRead (a : At) (r : Req)
  /-- FC_EDGE_READ (R273): BASIC 0029h returns entries of a group's edge ring. -/
  | fcEdgeRead (a : At) (r : Req)
  /-- AO_READ (R295): BASIC 0030h returns an analogue output's status. -/
  | aoRead (a : At) (r : Req)
  /-- AGO_READ (R295): BASIC 0031h returns an angle output's status. -/
  | agoRead (a : At) (r : Req)
  /-- PORT_STATUS (R335): BASIC 0038h returns a port's status. -/
  | portStatus (a : At) (r : Req)
  /-- PARTNER_LIST (R335): BASIC 0039h returns partner-table entries and the generation. -/
  | partnerList (a : At) (r : Req)
  /-- BIND_READ (R335): BASIC 003Ah returns a binding's value and status. -/
  | bindRead (a : At) (r : Req)
  /-- CHART_WRITE (R560): BASIC 0040h sets the panel image, shown at the next LCD frame or in an e-paper update. -/
  | chartWrite (a : At) (r : Req)
  /-- CHART_STATUS (R581): BASIC 0041h returns the Chart state and faults. -/
  | chartStatus (a : At) (r : Req)
  /-- TILLER_READ (R581): BASIC 0048h reads and removes Tiller queue entries. -/
  | tillerRead (a : At) (r : Req)
  /-- TILLER_STATE (R581): BASIC 0049h returns key, button and encoder state. -/
  | tillerState (a : At) (r : Req)
  /-- HELM_READ (R124): EXPERT 0001h reads words of a bank block. -/
  | helmRead (a : At) (r : Req)
  /-- HELM_WRITE (R127): EXPERT 0002h writes one unit to a bank block, at once or through the queue. -/
  | helmWrite (a : At) (r : Req)
  /-- BANK_COPY (R133): EXPERT 0003h queues a copy of the active bank into the shadow bank. -/
  | bankCopy (a : At) (r : Req)
  /-- BANK_SWAP (R132): EXPERT 0004h queues an exchange of the ACTIVE and SHADOW roles. -/
  | bankSwap (a : At) (r : Req)
  /-- HELM_DIAG (R162): EXPERT 0005h returns a Helm diagnostic word and clears its RC bits. -/
  | helmDiag (a : At) (r : Req)
  /-- SLOT_READ (R614): EXPERT 0010h returns an event slot and its status, clearing LATE and FIRED. -/
  | slotRead (a : At) (r : Req)
  /-- SLOT_WRITE (R69): EXPERT 0011h writes a host event slot, which takes effect at the next turn boundary. -/
  | slotWrite (a : At) (r : Req)
  /-- SOUND_START (R196): EXPERT 0020h requests a sounding of a zone. -/
  | soundStart (a : At) (r : Req)
  /-- SOUND_ABORT (R207): EXPERT 0021h aborts a sounding or discards a deferred start. -/
  | soundAbort (a : At) (r : Req)
  /-- SOUND_STATUS (R217): EXPERT 0022h returns a sounding's status. -/
  | soundStatus (a : At) (r : Req)
  /-- SOUND_CAPTURE (R217): EXPERT 0023h returns captured samples. -/
  | soundCapture (a : At) (r : Req)
  /-- SOUND_RESULT (R217): EXPERT 0024h returns the result summary and block. -/
  | soundResult (a : At) (r : Req)
  /-- SOUND_DELIVER (R215): EXPERT 0025h delivers a held result to the shadow bank or with a swap. -/
  | soundDeliver (a : At) (r : Req)
  /-- FC_FORCE (R273): EXPERT 0030h forces or releases a field output. -/
  | fcForce (a : At) (r : Req)
  /-- AO_FORCE (R295): EXPERT 0031h forces or releases an analogue output. -/
  | aoForce (a : At) (r : Req)
  /-- AGO_FORCE (R295): EXPERT 0032h forces or releases an angle output. -/
  | agoForce (a : At) (r : Req)
  /-- SVC_READ_PROPERTY (R368): SERVICE 0001h reads a BACnet property. -/
  | svcReadProperty (a : At) (r : Req)
  /-- SVC_WRITE_PROPERTY (R368): SERVICE 0002h writes a BACnet property. -/
  | svcWriteProperty (a : At) (r : Req)
  /-- SVC_TIME_SET (R338): SERVICE 0003h sets UTC through TIME_BASE. -/
  | svcTimeSet (a : At) (r : Req)
  /-- SVC_TIME_READ (R368): SERVICE 0004h returns the UTC held by the services. -/
  | svcTimeRead (a : At) (r : Req)
  /-- CFG_INFO (R413): STORE 0001h returns the states and generations of the four sets. -/
  | cfgInfo (a : At) (r : Req)
  /-- CFG_BEGIN (R420): STORE 0002h opens a set for staging. -/
  | cfgBegin (a : At) (r : Req)
  /-- CFG_WRITE (R420): STORE 0003h writes bytes into the staging set. -/
  | cfgWrite (a : At) (r : Req)
  /-- CFG_COMMIT (R422): STORE 0004h checks the staged set, writes its commit record and evaluates it. -/
  | cfgCommit (a : At) (r : Req)
  /-- CFG_READ (R420): STORE 0005h reads bytes of a set. -/
  | cfgRead (a : At) (r : Req)
  /-- CLAMP_READ (R431): STORE 0006h returns clamp-report entries. -/
  | clampRead (a : At) (r : Req)
  /-- SHEAF_READ (R453): STORE 0007h returns a sheaf counter's value. -/
  | sheafRead (a : At) (r : Req)
  /-- BARRIER (R385): MANAGE 0001h completes when every request accepted before it has been answered. -/
  | barrier (a : At) (r : Req)
  /-- IDENTIFY (R407): MANAGE 0002h returns the module's identity. -/
  | identify (a : At) (r : Req)
  /-- SESSION_OPEN (R390): MANAGE 0003h opens a session for proving a key. -/
  | sessionOpen (a : At) (r : Req)
  /-- SESSION_PROVE (R390): MANAGE 0004h proves a key and gives the session its rights. -/
  | sessionProve (a : At) (r : Req)
  /-- SESSION_CLOSE (R390): MANAGE 0005h closes a session's rights. -/
  | sessionClose (a : At) (r : Req)
  /-- SEC_WRITE (R399): MANAGE 0006h installs or removes a security object. -/
  | secWrite (a : At) (r : Req)
  /-- SEC_INFO (R399): MANAGE 0007h returns a security object's presence and digest. -/
  | secInfo (a : At) (r : Req)
  /-- LOG_READ (R469): MANAGE 0010h returns Logbook records from a SEQ. -/
  | logRead (a : At) (r : Req)
  /-- LOG_ACK (R466): MANAGE 0011h acknowledges critical records and ends their protection. -/
  | logAck (a : At) (r : Req)
  /-- CONCORD_READ (R62): MANAGE 0012h returns concordance points. -/
  | concordRead (a : At) (r : Req)
  /-- ALMANAC_READ (R556): MANAGE 0013h reads the count and flags. -/
  | almanacRead (a : At) (r : Req)
  /-- ALMANAC_WRITE (R556): MANAGE 0014h writes the count, one write at a time, committed at a crystal edge. -/
  | almanacWrite (a : At) (r : Req)
  /-- ALMANAC_TRIM (R544): MANAGE 0015h writes TRIM, effective at the next trim period. -/
  | almanacTrim (a : At) (r : Req)
  /-- ALMANAC_ALARM (R550): MANAGE 0016h arms or disarms an alarm. -/
  | almanacAlarm (a : At) (r : Req)
  /-- BACKUP_READ (R556): MANAGE 0017h reads backup bytes. -/
  | backupRead (a : At) (r : Req)
  /-- BACKUP_WRITE (R556): MANAGE 0018h writes backup bytes. -/
  | backupWrite (a : At) (r : Req)
  /-- UPDATE_BEGIN (R485): MANAGE 0020h opens the inactive firmware slot for writing. -/
  | updateBegin (a : At) (r : Req)
  /-- UPDATE_WRITE (R485): MANAGE 0021h writes image bytes into the slot. -/
  | updateWrite (a : At) (r : Req)
  /-- UPDATE_VERIFY (R485): MANAGE 0022h starts verification of the slot. -/
  | updateVerify (a : At) (r : Req)
  /-- UPDATE_SWAP (R486): MANAGE 0023h starts the chosen slot in TRIAL. -/
  | updateSwap (a : At) (r : Req)
  /-- UPDATE_STATUS (R484): MANAGE 0024h returns the slot states. -/
  | updateStatus (a : At) (r : Req)
  /-- RESET (R476): MANAGE 0030h restarts the service firmware or resets the module. -/
  | reset (a : At) (r : Req)
  /-- SELFTEST (R480): MANAGE 0031h runs a self-test, or defers a disruptive one. -/
  | selftest (a : At) (r : Req)
  /-- SELFTEST_COMPLETE (R482): A self-test ends and posts COMPLETED with its outcome. -/
  | selftestComplete (a : At) (test outcome : Nat) (detail : List Byte)
  /-- SENSOR_READ (R471): MANAGE 0032h returns the sensor measurements. -/
  | sensorRead (a : At) (r : Req)
  /-- UI_CALIBRATE (R228): MANAGE 0040h runs 8 calibration turns on a core, or defers them. -/
  | uiCalibrate (a : At) (r : Req)
  /-- FC_CLEAR (R273): MANAGE 0041h clears channel latches or a group cut. -/
  | fcClear (a : At) (r : Req)
  /-- POLICY_READ (R368): MANAGE 0042h returns a zone's guard state. -/
  | policyRead (a : At) (r : Req)
  /-- PAIR_STATUS (R408): PAIR 0001h returns the pair status. -/
  | pairStatus (a : At) (r : Req)
  /-- PAIR_HANDOVER (R513): PAIR 0002h plans a handover to the standby. -/
  | pairHandover (a : At) (r : Req)
  /-- EVENT_READ (R409): EVENT 0001h returns event-ring entries from a SEQ. -/
  | eventRead (a : At) (r : Req)
  /-- EVENT_STATUS (R409): EVENT 0002h returns the event-ring status. -/
  | eventStatus (a : At) (r : Req)
  /-- COUNT_LO_READ (R546): A read of COUNT_LO returns the low count and latches the high shadow. -/
  | countLoRead (a : At)
  /-- COUNT_LO_WRITE (R547): A write of COUNT_LO commits the count at the next crystal edge. -/
  | countLoWrite (a : At) (lo : Nat)
  /-- ALARM_LO_WRITE (R550): A write of ALARMn_LO commits the alarm value and enable at the next edge. -/
  | alarmLoWrite (a : At) (n lo : Nat)
  /-- THERMAL_RESET_RELEASE (R526): The LD die cools below 115 C, which releases a THERMAL reset and restarts the start-up timeline. -/
  | thermalResetRelease (a : At)
  /-- SERVICES_RISES (R532): The started service image completes its start and SERVICES rises, which starts the SC0 server, the ports, schedules, election and the other SERVICES-dependent functions. -/
  | servicesRises (a : At)
  /-- LD_LOST (R34): LD stops, with its island lost as well or while PA stays powered, so nothing on LD reacts and the bounds of R34 take over. -/
  | ldLost (a : At) (island : Bool)
  /-- SHUNT_DISCONNECT (R232): The MA_20 loop current exceeds 30 mA, so the shunt is disconnected until the next conversion turn of the input. -/
  | shuntDisconnect (a : At) (n : Nat)
  /-- TRIM_PERIOD_START (R544): A trim period of 2^20 crystal cycles ends, so a newly written TRIM takes effect. -/
  | trimPeriodStart (a : At)
  /-- BUS_FRAME_SENT (R306): A queued frame finishes transmission on its port and frees its buffer, which lets a waiting response or binding write be queued. -/
  | busFrameSent (a : At) (p side : Nat) (forwarded : Bool)
  /-- DHCP_LEASE_EXPIRY (R300): A DHCP lease timer for an IP interface runs out, so the lease is renewed or lost along with the interface address. -/
  | dhcpLeaseExpiry (a : At) (i : Nat) (lease : Option Nat)
  /-- PLCA_BEACON (R301): A PLCA beacon cycle passes with or without a beacon seen, which sets or clears the T1S link condition. -/
  | plcaBeacon (a : At) (seen : Bool)
  /-- MSTP_TIMEOUT (R310): An MS/TP state-machine timer runs out, for example token loss or reply timeout, which moves the station in or out of the token loop or to sole master. -/
  | mstpTimeout (a : At) (n : Nat) (inLoop token : Bool)
  /-- FOREIGN_DEVICE_REREGISTER (R309): Half of BAC_FD_TTL passes, so the module re-registers as a foreign device with its BBMD. -/
  | foreignDeviceReregister (a : At)
  deriving DecidableEq, Repr

end Sys2Proof
end

