-- ==== Sys2Proof/Machine/Sha256.lean ====
section
/-! DEFINITION. Machine/Sha256.lean: SHA-256 (FIPS 180-4) and HMAC-SHA-256 (RFC 2104), which R390, R391, R399 and R485 use. -/

namespace Sys2Proof

namespace Sha

/-- The first 64 primes. -/
def primes : List Nat :=
  (List.range 312).filter (fun n => decide (2 ≤ n) && (List.range 18).all (fun d => decide (d < 2) || decide (n ≤ d) || n % d != 0))

/-- The greatest number whose `e`-th power is at most `n`, bit by bit from bit `b − 1` downwards, on top of `r`. -/
def rootUnder (e n : Nat) : Nat → Nat → Nat
  | 0, r => r
  | b + 1, r => rootUnder e n b (if (r + 2 ^ b) ^ e ≤ n then r + 2 ^ b else r)

/-- The first 32 bits of the fraction of the `e`-th root of `p`, below 16: the constants of FIPS 180-4 are these of the first primes. -/
def rootFraction (e p : Nat) : Word32 := BitVec.ofNat 32 (rootUnder e (p * 2 ^ (32 * e)) 36 0)

/-- The 64 round constants: cube roots. -/
def k : List Word32 := primes.map (rootFraction 3)

/-- The eight chaining words. -/
structure H where
  a : Word32
  b : Word32
  c : Word32
  d : Word32
  e : Word32
  f : Word32
  g : Word32
  h : Word32
  deriving DecidableEq, Repr, Inhabited

/-- Their first values: square roots. -/
def start : H :=
  { a := rootFraction 2 2, b := rootFraction 2 3, c := rootFraction 2 5, d := rootFraction 2 7
    e := rootFraction 2 11, f := rootFraction 2 13, g := rootFraction 2 17, h := rootFraction 2 19 }

def rotr (x : Word32) (n : Nat) : Word32 := x.rotateRight n

/-- One round. -/
def round (v : H) (kw : Word32 × Word32) : H :=
  let s1 := rotr v.e 6 ^^^ rotr v.e 11 ^^^ rotr v.e 25
  let ch := (v.e &&& v.f) ^^^ (~~~v.e &&& v.g)
  let t1 := v.h + s1 + ch + kw.1 + kw.2
  let s0 := rotr v.a 2 ^^^ rotr v.a 13 ^^^ rotr v.a 22
  let mj := (v.a &&& v.b) ^^^ (v.a &&& v.c) ^^^ (v.b &&& v.c)
  { a := t1 + (s0 + mj), b := v.a, c := v.b, d := v.c, e := v.d + t1, f := v.e, g := v.f, h := v.g }

/-- The message schedule: `n` words more after those of `w`, which stands newest first. -/
def extend : Nat → List Word32 → List Word32
  | 0, w => w
  | n + 1, w =>
    let x15 := w.getD 14 0
    let x2 := w.getD 1 0
    let s0 := rotr x15 7 ^^^ rotr x15 18 ^^^ (x15 >>> 3)
    let s1 := rotr x2 17 ^^^ rotr x2 19 ^^^ (x2 >>> 10)
    extend n ((w.getD 15 0 + s0 + w.getD 6 0 + s1) :: w)

/-- Big-endian words of a run of bytes. -/
def words : List Byte → List Word32
  | x :: y :: z :: t :: r => (x ++ y ++ z ++ t) :: words r
  | _ => []

/-- One block of 64 bytes. -/
def block (v : H) (bs : List Byte) : H :=
  let w := (extend 48 (words bs).reverse).reverse
  let o := (k.zip w).foldl round v
  { a := v.a + o.a, b := v.b + o.b, c := v.c + o.c, d := v.d + o.d, e := v.e + o.e, f := v.f + o.f, g := v.g + o.g, h := v.h + o.h }

/-- `n` blocks in turn. -/
def blocks : Nat → H → List Byte → H
  | 0, v, _ => v
  | n + 1, v, bs => blocks n (block v (bs.take 64)) (bs.drop 64)

/-- `n` bytes of a number, most significant first. -/
def be : Nat → Nat → List Byte
  | 0, _ => []
  | n + 1, v => be n (v / 256) ++ [BitVec.ofNat 8 v]

end Sha

/-- SHA-256 of a run of bytes. -/
def sha256 (m : List Byte) : List Byte :=
  let zeros := (119 - m.length % 64) % 64
  let p := m ++ [0x80#8] ++ List.replicate zeros 0#8 ++ Sha.be 8 (m.length * 8)
  let v := Sha.blocks (p.length / 64) Sha.start p
  [v.a, v.b, v.c, v.d, v.e, v.f, v.g, v.h].flatMap (fun w => Sha.be 4 w.toNat)

/-- HMAC-SHA-256. -/
def hmacSha256 (key msg : List Byte) : List Byte :=
  let k0 := if 64 < key.length then sha256 key else key
  let kp := (k0 ++ List.replicate 64 0#8).take 64
  sha256 (kp.map (fun b => b ^^^ 0x5C#8) ++ sha256 (kp.map (fun b => b ^^^ 0x36#8) ++ msg))

end Sys2Proof
end

