-- ==== Sys2Proof/Config.lean ====
section
/-! DEFINITION. Config.lean: what one module's manufacture fixes, and the values the specification leaves open. None has a
body: a claim about the model holds whatever they are (assumptions 3 and 5). -/

namespace Sys2Proof

/-- STEPPING of IDENTITY (R372): the die-set stepping. -/
opaque Config.stepping : Byte

/-- SERIAL of the manufacturing partition (R407, R494). -/
opaque Config.serial : BitVec 64

/-- Default of SVC_DEVICE_INSTANCE, a manufacturing value (R366). -/
opaque Config.deviceInstance : Fin 4194303

/-- The free value numbered `n`: a 32-bit result the specification does not state. -/
opaque Config.freeWord : Nat → Word32

/-- SERVER_NONCE: fresh random bytes (R390). -/
opaque Config.serverNonce : Nat → BitVec 128

/-- The random VMAC of the BACnet/SC port (R313). -/
opaque Config.randomVmac : Nat → BitVec 48

/-- The properties that ANSI/ASHRAE 135 requires of the Device object and whose values the specification does not give, by their
identifiers, as encoded (R341). -/
opaque Config.deviceProperty : Nat → List Byte

/-- The MAC addresses of the internal port (0) and of T1S (1), and the Device UUID, from the manufacturing partition (R300, R313). -/
opaque Config.mac : Nat → BitVec 48
opaque Config.deviceUuid : BitVec 128

/-- Primary quantity of a type from the one that the manufacturing calibration gives, with a zero deviation in nV and a gain deviation in
1E-9 applied (R227). -/
opaque Config.calibrated : Nat → Int → Int → Word32 → Word32

/-- Where the firing delay of the POWER law lies between two points of its table, at a drive in percent (R283). -/
opaque Config.powerAngle : Word32 → BitVec 19

end Sys2Proof
end

