-- ==== Sys2Proof/Machine/Operands.lean ====
section
/-! DEFINITION. Machine/Operands.lean: little-endian fields (R11), sign extension, serial arithmetic (R16), stamps
(R13, R14) and the checks CRC-32C (R375) and CRC-16 (R452). -/

namespace Sys2Proof

/-- `n` bytes of `v`, least significant first (R11). -/
def le : Nat → Nat → List Byte
  | 0, _ => []
  | n + 1, v => BitVec.ofNat 8 v :: le n (v / 256)

/-- The number a run of bytes spells, least significant first (R11). -/
def leNat : List Byte → Nat
  | [] => 0
  | b :: bs => b.toNat + 256 * leNat bs

/-- The `n`-byte field at offset `off`; bytes past the end read 0. -/
def fieldAt (bs : List Byte) (off n : Nat) : Nat := leNat ((bs.drop off).take n)

/-- Whether every byte of a run is 0 (reserved fields, R375). -/
def allZero (bs : List Byte) : Bool := bs.all (fun b => b == 0)

/-- Cut or pad with zeros to exactly `n` bytes. -/
def padTo (n : Nat) (bs : List Byte) : List Byte := (bs ++ List.replicate n 0).take n

/-- The value of the low `w` bits read as two's complement. -/
def sext (w v : Nat) : Int :=
  let u := v % 2 ^ w
  if u < 2 ^ (w - 1) then (u : Int) else (u : Int) - 2 ^ w

/-- An integer as `w` bits of two's complement. -/
def ofSigned (w : Nat) (v : Int) : Nat := (v % (2 ^ w : Int)).toNat

/-- Bit `i` of a number. -/
def bitOf (v i : Nat) : Bool := v / 2 ^ i % 2 == 1

/-- Bits `[lo + n - 1 : lo]` of a number. -/
def bitsOf (v lo n : Nat) : Nat := v / 2 ^ lo % 2 ^ n

/-- A Bool as the number a flag bit or byte carries. -/
def bit (b : Bool) : Nat := if b then 1 else 0

/-- A list of flags as a mask, the first flag at bit 0. -/
def maskOf : List Bool → Nat
  | [] => 0
  | b :: bs => bit b + 2 * maskOf bs

/-- Serial arithmetic on `w` bits: `a` is newer than `b` (R16). -/
def newer (w a b : Nat) : Bool :=
  let d := (a + 2 ^ w - b % 2 ^ w) % 2 ^ w
  decide (d ≠ 0) && decide (d < 2 ^ (w - 1))

/-- The turn count of a stamp (R13). -/
def Stamp.turn (x : Stamp) : Nat := x.toNat / grainsPerTurn

/-- The grain of a stamp within its turn (R13). -/
def Stamp.grain (x : Stamp) : Nat := x.toNat % grainsPerTurn

/-- The stamp of a turn and a grain (R13). -/
def mkStamp (turn grain : Nat) : Stamp := BitVec.ofNat 64 (turn * grainsPerTurn + grain)

/-- Clamp an integer between two limits. -/
def clampI (lo hi v : Int) : Int := if v < lo then lo else if hi < v then hi else v

/-- Integer quotient rounded to the nearest, halves away from zero. -/
def divRound (a b : Int) : Int :=
  if b = 0 then 0 else
  let q := (2 * a.natAbs + b.natAbs) / (2 * b.natAbs)
  if (a < 0) = (b < 0) then q else -q

/-- One bit of the reflected CRC-32C register (polynomial 1EDC6F41h reflected: 82F63B78h). -/
def crc32cBit (c : Word32) : Word32 :=
  if c.getLsbD 0 then (c >>> 1) ^^^ 0x82F63B78#32 else c >>> 1

/-- One byte of CRC-32C. -/
def crc32cByte (c : Word32) (b : Byte) : Word32 :=
  let c := c ^^^ b.setWidth 32
  crc32cBit (crc32cBit (crc32cBit (crc32cBit (crc32cBit (crc32cBit (crc32cBit (crc32cBit c)))))))

/-- CRC-32C with initial value FFFFFFFFh, reflected, final XOR FFFFFFFFh (R375). -/
def crc32c (bs : List Byte) : Nat :=
  ((bs.foldl crc32cByte 0xFFFFFFFF#32) ^^^ 0xFFFFFFFF#32).toNat

/-- One bit of CRC-16 with polynomial 1021h, most significant bit first. -/
def crc16Bit (c : Word16) : Word16 :=
  if c.getLsbD 15 then (c <<< 1) ^^^ 0x1021#16 else c <<< 1

/-- One byte of CRC-16. -/
def crc16Byte (c : Word16) (b : Byte) : Word16 :=
  let c := c ^^^ (b.setWidth 16 <<< 8)
  crc16Bit (crc16Bit (crc16Bit (crc16Bit (crc16Bit (crc16Bit (crc16Bit (crc16Bit c)))))))

/-- CRC-16, polynomial 1021h, initial value FFFFh (R452). -/
def crc16 (bs : List Byte) : Nat := (bs.foldl crc16Byte 0xFFFF#16).toNat

/-- A run of numbers of one width as bytes. -/
def leList (n : Nat) (vs : List Nat) : List Byte := vs.flatMap (le n)

/-- ASCII text as bytes. -/
def ascii (t : String) : List Byte := t.toList.map (fun c => BitVec.ofNat 8 c.toNat)

/-- Put `x` into a list that rises under `lt`, after the elements it does not precede. -/
def insertBy {α : Type} (lt : α → α → Bool) (x : α) : List α → List α
  | [] => [x]
  | y :: ys => if lt x y then x :: y :: ys else y :: insertBy lt x ys

/-- Sort a list so that it rises under `lt`; equal elements keep their order. -/
def sortBy {α : Type} (lt : α → α → Bool) (xs : List α) : List α := xs.foldl (fun ys x => insertBy lt x ys) []

/-- Drop each element equal to the one before it. -/
def dedup : List Nat → List Nat
  | [] => []
  | [x] => [x]
  | x :: y :: r => if x = y then dedup (y :: r) else x :: dedup (y :: r)

/-- The first `n` naturals. -/
def upTo (n : Nat) : List Nat := List.range n

end Sys2Proof
end

