-- ==== Sys2Proof/Machine/Fields.lean ====
section
/-! DEFINITION. Machine/Fields.lean: the configuration fields of the tables of R59, R106, R160, R191, R218, R241, R269, R291,
R331, R366, R410, R516, R540 and R579: identifier, size (R418), check of stage 2 (R427, R615), default and INDEX range. -/

namespace Sys2Proof

/-- NOMINAL_HZ (0101h) -/
abbrev Fid.NOMINAL_HZ : Nat := 0x0101
/-- ZERO_OFFSET (0102h) -/
abbrev Fid.ZERO_OFFSET : Nat := 0x0102
/-- MREF_MIN (0103h) -/
abbrev Fid.MREF_MIN : Nat := 0x0103
/-- DR_GUARD (0104h) -/
abbrev Fid.DR_GUARD : Nat := 0x0104
/-- SLEW_DIV (0105h) -/
abbrev Fid.SLEW_DIV : Nat := 0x0105
/-- CONCORD_LOG (0106h) -/
abbrev Fid.CONCORD_LOG : Nat := 0x0106
/-- FC_ROLE (0201h) -/
abbrev Fid.FC_ROLE : Nat := 0x0201
/-- FC_IN_THRESH (0202h) -/
abbrev Fid.FC_IN_THRESH : Nat := 0x0202
/-- FC_IN_SAMPLING (0203h) -/
abbrev Fid.FC_IN_SAMPLING : Nat := 0x0203
/-- FC_IN_PULSE_PERIOD (0204h) -/
abbrev Fid.FC_IN_PULSE_PERIOD : Nat := 0x0204
/-- FC_IN_DEBOUNCE (0205h) -/
abbrev Fid.FC_IN_DEBOUNCE : Nat := 0x0205
/-- FC_IN_MODE (0206h) -/
abbrev Fid.FC_IN_MODE : Nat := 0x0206
/-- FC_IN_INVERT (0207h) -/
abbrev Fid.FC_IN_INVERT : Nat := 0x0207
/-- FC_FREQ_GATE (0208h) -/
abbrev Fid.FC_FREQ_GATE : Nat := 0x0208
/-- FC_FREQ_TIMEOUT (0209h) -/
abbrev Fid.FC_FREQ_TIMEOUT : Nat := 0x0209
/-- FC_OUT_DRIVE (0210h) -/
abbrev Fid.FC_OUT_DRIVE : Nat := 0x0210
/-- FC_OUT_ON_LEVEL (0211h) -/
abbrev Fid.FC_OUT_ON_LEVEL : Nat := 0x0211
/-- FC_OUT_OFF_LEVEL (0212h) -/
abbrev Fid.FC_OUT_OFF_LEVEL : Nat := 0x0212
/-- FC_TPO_PERIOD (0213h) -/
abbrev Fid.FC_TPO_PERIOD : Nat := 0x0213
/-- FC_TPO_MIN (0214h) -/
abbrev Fid.FC_TPO_MIN : Nat := 0x0214
/-- FC_SAFE (0215h) -/
abbrev Fid.FC_SAFE : Nat := 0x0215
/-- FC_OVL_TIME (0216h) -/
abbrev Fid.FC_OVL_TIME : Nat := 0x0216
/-- FC_RETRY (0217h) -/
abbrev Fid.FC_RETRY : Nat := 0x0217
/-- FC_RETRY_DELAY (0218h) -/
abbrev Fid.FC_RETRY_DELAY : Nat := 0x0218
/-- FC_OPEN_LOAD (0219h) -/
abbrev Fid.FC_OPEN_LOAD : Nat := 0x0219
/-- FC_OPEN_I (021Ah) -/
abbrev Fid.FC_OPEN_I : Nat := 0x021A
/-- FC_DARK (021Bh) -/
abbrev Fid.FC_DARK : Nat := 0x021B
/-- FC_DARK_WIDTH (021Ch) -/
abbrev Fid.FC_DARK_WIDTH : Nat := 0x021C
/-- FC_DARK_PERIOD (021Dh) -/
abbrev Fid.FC_DARK_PERIOD : Nat := 0x021D
/-- FC_SHARED (021Eh) -/
abbrev Fid.FC_SHARED : Nat := 0x021E
/-- FG_BARRIER_TIMEOUT (0240h) -/
abbrev Fid.FG_BARRIER_TIMEOUT : Nat := 0x0240
/-- FG_CUT (0241h) -/
abbrev Fid.FG_CUT : Nat := 0x0241
/-- FG_VFIELD_UV (0242h) -/
abbrev Fid.FG_VFIELD_UV : Nat := 0x0242
/-- FG_GROUP_LIMIT (0243h) -/
abbrev Fid.FG_GROUP_LIMIT : Nat := 0x0243
/-- UI_TYPE (0301h) -/
abbrev Fid.UI_TYPE : Nat := 0x0301
/-- UI_NTC_NOMINAL (0302h) -/
abbrev Fid.UI_NTC_NOMINAL : Nat := 0x0302
/-- UI_NTC_BETA (0303h) -/
abbrev Fid.UI_NTC_BETA : Nat := 0x0303
/-- UI_LEAD (0304h) -/
abbrev Fid.UI_LEAD : Nat := 0x0304
/-- UI_OFFSET (0305h) -/
abbrev Fid.UI_OFFSET : Nat := 0x0305
/-- UI_FILTER (0306h) -/
abbrev Fid.UI_FILTER : Nat := 0x0306
/-- UI_MA_LO (0307h) -/
abbrev Fid.UI_MA_LO : Nat := 0x0307
/-- UI_MA_HI (0308h) -/
abbrev Fid.UI_MA_HI : Nat := 0x0308
/-- UI_INVERT (0309h) -/
abbrev Fid.UI_INVERT : Nat := 0x0309
/-- I2C_SPEED (0320h) -/
abbrev Fid.I2C_SPEED : Nat := 0x0320
/-- I2C_STRETCH (0321h) -/
abbrev Fid.I2C_STRETCH : Nat := 0x0321
/-- I2C_BUS (0340h) -/
abbrev Fid.I2C_BUS : Nat := 0x0340
/-- I2C_ADDR (0341h) -/
abbrev Fid.I2C_ADDR : Nat := 0x0341
/-- I2C_PERIOD (0342h) -/
abbrev Fid.I2C_PERIOD : Nat := 0x0342
/-- I2C_PHASE (0343h) -/
abbrev Fid.I2C_PHASE : Nat := 0x0343
/-- I2C_FROM (0344h) -/
abbrev Fid.I2C_FROM : Nat := 0x0344
/-- I2C_STEP (0345h) -/
abbrev Fid.I2C_STEP : Nat := 0x0345
/-- I2C_EXTRACT (0346h) -/
abbrev Fid.I2C_EXTRACT : Nat := 0x0346
/-- I2C_GAIN (0347h) -/
abbrev Fid.I2C_GAIN : Nat := 0x0347
/-- I2C_OFFSET (0348h) -/
abbrev Fid.I2C_OFFSET : Nat := 0x0348
/-- I2C_RETRY (0349h) -/
abbrev Fid.I2C_RETRY : Nat := 0x0349
/-- AO_ROLE (0401h) -/
abbrev Fid.AO_ROLE : Nat := 0x0401
/-- AO_V_LO (0402h) -/
abbrev Fid.AO_V_LO : Nat := 0x0402
/-- AO_V_HI (0403h) -/
abbrev Fid.AO_V_HI : Nat := 0x0403
/-- AO_SAFE (0404h) -/
abbrev Fid.AO_SAFE : Nat := 0x0404
/-- AGO_MODE (0420h) -/
abbrev Fid.AGO_MODE : Nat := 0x0420
/-- AGO_ANGLE (0421h) -/
abbrev Fid.AGO_ANGLE : Nat := 0x0421
/-- AGO_PULSE (0422h) -/
abbrev Fid.AGO_PULSE : Nat := 0x0422
/-- AGO_LAW (0423h) -/
abbrev Fid.AGO_LAW : Nat := 0x0423
/-- AGO_END_GUARD (0424h) -/
abbrev Fid.AGO_END_GUARD : Nat := 0x0424
/-- AGO_DIV (0425h) -/
abbrev Fid.AGO_DIV : Nat := 0x0425
/-- AGO_MIN_WIDTH (0426h) -/
abbrev Fid.AGO_MIN_WIDTH : Nat := 0x0426
/-- AGO_ON_LEVEL (0427h) -/
abbrev Fid.AGO_ON_LEVEL : Nat := 0x0427
/-- AGO_OFF_LEVEL (0428h) -/
abbrev Fid.AGO_OFF_LEVEL : Nat := 0x0428
/-- AGO_INVERT (0429h) -/
abbrev Fid.AGO_INVERT : Nat := 0x0429
/-- AGO_UNLOCK (042Ah) -/
abbrev Fid.AGO_UNLOCK : Nat := 0x042A
/-- ZONE_MODE (0501h) -/
abbrev Fid.ZONE_MODE : Nat := 0x0501
/-- ZONE_NX (0502h) -/
abbrev Fid.ZONE_NX : Nat := 0x0502
/-- ZONE_NU (0503h) -/
abbrev Fid.ZONE_NU : Nat := 0x0503
/-- ZONE_NY (0504h) -/
abbrev Fid.ZONE_NY : Nat := 0x0504
/-- ZONE_ND (0505h) -/
abbrev Fid.ZONE_ND : Nat := 0x0505
/-- Y_KIND (0510h) -/
abbrev Fid.Y_KIND : Nat := 0x0510
/-- Y_SOURCE (0511h) -/
abbrev Fid.Y_SOURCE : Nat := 0x0511
/-- Y_MAX_AGE (0512h) -/
abbrev Fid.Y_MAX_AGE : Nat := 0x0512
/-- Y_MIN (0513h) -/
abbrev Fid.Y_MIN : Nat := 0x0513
/-- Y_MAX (0514h) -/
abbrev Fid.Y_MAX : Nat := 0x0514
/-- U_KIND (0520h) -/
abbrev Fid.U_KIND : Nat := 0x0520
/-- U_DEST0 (0521h) -/
abbrev Fid.U_DEST0 : Nat := 0x0521
/-- U_DEST1 (0522h) -/
abbrev Fid.U_DEST1 : Nat := 0x0522
/-- U_MIN (0523h) -/
abbrev Fid.U_MIN : Nat := 0x0523
/-- U_MAX (0524h) -/
abbrev Fid.U_MAX : Nat := 0x0524
/-- U_SAFE (0525h) -/
abbrev Fid.U_SAFE : Nat := 0x0525
/-- U_GUARD (0526h) -/
abbrev Fid.U_GUARD : Nat := 0x0526
/-- D_KIND (0530h) -/
abbrev Fid.D_KIND : Nat := 0x0530
/-- D_SOURCE (0531h) -/
abbrev Fid.D_SOURCE : Nat := 0x0531
/-- D_MAX_AGE (0532h) -/
abbrev Fid.D_MAX_AGE : Nat := 0x0532
/-- R_BASE (0540h) -/
abbrev Fid.R_BASE : Nat := 0x0540
/-- R_FALLBACK (0541h) -/
abbrev Fid.R_FALLBACK : Nat := 0x0541
/-- R_ADJUST (0542h) -/
abbrev Fid.R_ADJUST : Nat := 0x0542
/-- R_ADJ_LIMIT (0543h) -/
abbrev Fid.R_ADJ_LIMIT : Nat := 0x0543
/-- R_MIN (0544h) -/
abbrev Fid.R_MIN : Nat := 0x0544
/-- R_MAX (0545h) -/
abbrev Fid.R_MAX : Nat := 0x0545
/-- R_DEFAULT (0546h) -/
abbrev Fid.R_DEFAULT : Nat := 0x0546
/-- R_RATE (0547h) -/
abbrev Fid.R_RATE : Nat := 0x0547
/-- R_MAX_AGE (0548h) -/
abbrev Fid.R_MAX_AGE : Nat := 0x0548
/-- NB_ZONE (0550h) -/
abbrev Fid.NB_ZONE : Nat := 0x0550
/-- HELM_SAMPLE_ANGLE (0560h) -/
abbrev Fid.HELM_SAMPLE_ANGLE : Nat := 0x0560
/-- HELM_APPLY_DELAY (0561h) -/
abbrev Fid.HELM_APPLY_DELAY : Nat := 0x0561
/-- HELM_BUMP_SHIFT (0562h) -/
abbrev Fid.HELM_BUMP_SHIFT : Nat := 0x0562
/-- HELM_WARMUP (0563h) -/
abbrev Fid.HELM_WARMUP : Nat := 0x0563
/-- HELM_BLIND_SAFE (0564h) -/
abbrev Fid.HELM_BLIND_SAFE : Nat := 0x0564
/-- FL_ENABLE (0570h) -/
abbrev Fid.FL_ENABLE : Nat := 0x0570
/-- FL_ORDER (0571h) -/
abbrev Fid.FL_ORDER : Nat := 0x0571
/-- FL_DIV (0572h) -/
abbrev Fid.FL_DIV : Nat := 0x0572
/-- FL_ANGLE (0573h) -/
abbrev Fid.FL_ANGLE : Nat := 0x0573
/-- FL_APPLY_DELAY (0574h) -/
abbrev Fid.FL_APPLY_DELAY : Nat := 0x0574
/-- FL_Y_SOURCE (0575h) -/
abbrev Fid.FL_Y_SOURCE : Nat := 0x0575
/-- FL_Y_MAX_AGE (0576h) -/
abbrev Fid.FL_Y_MAX_AGE : Nat := 0x0576
/-- FL_R_SOURCE (0577h) -/
abbrev Fid.FL_R_SOURCE : Nat := 0x0577
/-- FL_DEST (0578h) -/
abbrev Fid.FL_DEST : Nat := 0x0578
/-- FL_U_MIN (0579h) -/
abbrev Fid.FL_U_MIN : Nat := 0x0579
/-- FL_U_MAX (057Ah) -/
abbrev Fid.FL_U_MAX : Nat := 0x057A
/-- FL_U_SAFE (057Bh) -/
abbrev Fid.FL_U_SAFE : Nat := 0x057B
/-- SCALER_GAIN (05F0h) -/
abbrev Fid.SCALER_GAIN : Nat := 0x05F0
/-- SCALER_OFFSET (05F1h) -/
abbrev Fid.SCALER_OFFSET : Nat := 0x05F1
/-- WP_ENABLE (0601h) -/
abbrev Fid.WP_ENABLE : Nat := 0x0601
/-- WP_PERIOD (0602h) -/
abbrev Fid.WP_PERIOD : Nat := 0x0602
/-- WP_MAX_AGE (0603h) -/
abbrev Fid.WP_MAX_AGE : Nat := 0x0603
/-- WP_STEP_MAX (0604h) -/
abbrev Fid.WP_STEP_MAX : Nat := 0x0604
/-- WP_DAY_CALENDAR (0605h) -/
abbrev Fid.WP_DAY_CALENDAR : Nat := 0x0605
/-- WP_WX_SPREAD0 (0606h) -/
abbrev Fid.WP_WX_SPREAD0 : Nat := 0x0606
/-- WP_WX_SPREAD96 (0607h) -/
abbrev Fid.WP_WX_SPREAD96 : Nat := 0x0607
/-- WP_PRICE (0608h) -/
abbrev Fid.WP_PRICE : Nat := 0x0608
/-- WP_W_COMFORT (0609h) -/
abbrev Fid.WP_W_COMFORT : Nat := 0x0609
/-- WP_W_UNOCC (060Ah) -/
abbrev Fid.WP_W_UNOCC : Nat := 0x060A
/-- WP_W_TARGET (060Bh) -/
abbrev Fid.WP_W_TARGET : Nat := 0x060B
/-- WP_W_SAT (060Ch) -/
abbrev Fid.WP_W_SAT : Nat := 0x060C
/-- WP_W_SMOOTH (060Dh) -/
abbrev Fid.WP_W_SMOOTH : Nat := 0x060D
/-- WP_OCC_LO (0610h) -/
abbrev Fid.WP_OCC_LO : Nat := 0x0610
/-- WP_OCC_HI (0611h) -/
abbrev Fid.WP_OCC_HI : Nat := 0x0611
/-- WP_OCC_TARGET (0612h) -/
abbrev Fid.WP_OCC_TARGET : Nat := 0x0612
/-- WP_UNOCC_LO (0613h) -/
abbrev Fid.WP_UNOCC_LO : Nat := 0x0613
/-- WP_UNOCC_HI (0614h) -/
abbrev Fid.WP_UNOCC_HI : Nat := 0x0614
/-- WP_UNOCC_TARGET (0615h) -/
abbrev Fid.WP_UNOCC_TARGET : Nat := 0x0615
/-- WP_SCHEDULE (0620h) -/
abbrev Fid.WP_SCHEDULE : Nat := 0x0620
/-- WP_U_POWER (0630h) -/
abbrev Fid.WP_U_POWER : Nat := 0x0630
/-- WP_D_ROLE (0638h) -/
abbrev Fid.WP_D_ROLE : Nat := 0x0638
/-- OCC_ENABLE (0670h) -/
abbrev Fid.OCC_ENABLE : Nat := 0x0670
/-- OCC_Y_TEMP (0671h) -/
abbrev Fid.OCC_Y_TEMP : Nat := 0x0671
/-- OCC_Y_CO2 (0672h) -/
abbrev Fid.OCC_Y_CO2 : Nat := 0x0672
/-- OCC_PRESENCE0 (0673h) -/
abbrev Fid.OCC_PRESENCE0 : Nat := 0x0673
/-- OCC_PRESENCE1 (0674h) -/
abbrev Fid.OCC_PRESENCE1 : Nat := 0x0674
/-- OCC_VOLUME (0675h) -/
abbrev Fid.OCC_VOLUME : Nat := 0x0675
/-- OCC_AIRFLOW (0676h) -/
abbrev Fid.OCC_AIRFLOW : Nat := 0x0676
/-- OCC_INNOV_W (0677h) -/
abbrev Fid.OCC_INNOV_W : Nat := 0x0677
/-- OCC_MAX_PERSONS (0678h) -/
abbrev Fid.OCC_MAX_PERSONS : Nat := 0x0678
/-- OCC_W_PERSON (0680h) -/
abbrev Fid.OCC_W_PERSON : Nat := 0x0680
/-- OCC_CO2_PERSON (0681h) -/
abbrev Fid.OCC_CO2_PERSON : Nat := 0x0681
/-- OCC_CO2_SUPPLY (0682h) -/
abbrev Fid.OCC_CO2_SUPPLY : Nat := 0x0682
/-- OCC_WINDOW (0683h) -/
abbrev Fid.OCC_WINDOW : Nat := 0x0683
/-- OCC_PRES_TRUST (0684h) -/
abbrev Fid.OCC_PRES_TRUST : Nat := 0x0684
/-- OCC_P_FULL (0685h) -/
abbrev Fid.OCC_P_FULL : Nat := 0x0685
/-- OCC_LEARN_DAYS (0686h) -/
abbrev Fid.OCC_LEARN_DAYS : Nat := 0x0686
/-- OCC_WEIGHT_CO2 (0687h) -/
abbrev Fid.OCC_WEIGHT_CO2 : Nat := 0x0687
/-- OCC_SCHED_PRIOR (0688h) -/
abbrev Fid.OCC_SCHED_PRIOR : Nat := 0x0688
/-- SND_ENABLE (0701h) -/
abbrev Fid.SND_ENABLE : Nat := 0x0701
/-- SND_DELIVER (0702h) -/
abbrev Fid.SND_DELIVER : Nat := 0x0702
/-- SND_MIN_FIT (0703h) -/
abbrev Fid.SND_MIN_FIT : Nat := 0x0703
/-- SND_MAX_CHANGE (0704h) -/
abbrev Fid.SND_MAX_CHANGE : Nat := 0x0704
/-- SND_MAX_GAP (0705h) -/
abbrev Fid.SND_MAX_GAP : Nat := 0x0705
/-- SND_ALLOW (0710h) -/
abbrev Fid.SND_ALLOW : Nat := 0x0710
/-- SND_Y_GUARD (0711h) -/
abbrev Fid.SND_Y_GUARD : Nat := 0x0711
/-- SND_QY (0712h) -/
abbrev Fid.SND_QY : Nat := 0x0712
/-- SND_RU (0713h) -/
abbrev Fid.SND_RU : Nat := 0x0713
/-- SND_QW (0714h) -/
abbrev Fid.SND_QW : Nat := 0x0714
/-- SND_RV (0715h) -/
abbrev Fid.SND_RV : Nat := 0x0715
/-- SND_AMP_MAX (0720h) -/
abbrev Fid.SND_AMP_MAX : Nat := 0x0720
/-- ETH_DELAY (0801h) -/
abbrev Fid.ETH_DELAY : Nat := 0x0801
/-- ETH_PHY_ADDR (0802h) -/
abbrev Fid.ETH_PHY_ADDR : Nat := 0x0802
/-- IP_MODE (0808h) -/
abbrev Fid.IP_MODE : Nat := 0x0808
/-- IP_ADDR (0809h) -/
abbrev Fid.IP_ADDR : Nat := 0x0809
/-- IP_MASK (080Ah) -/
abbrev Fid.IP_MASK : Nat := 0x080A
/-- IP_GATEWAY (080Bh) -/
abbrev Fid.IP_GATEWAY : Nat := 0x080B
/-- T1S_ENABLE (0810h) -/
abbrev Fid.T1S_ENABLE : Nat := 0x0810
/-- PLCA_ID (0811h) -/
abbrev Fid.PLCA_ID : Nat := 0x0811
/-- PLCA_COUNT (0812h) -/
abbrev Fid.PLCA_COUNT : Nat := 0x0812
/-- PLCA_TO (0813h) -/
abbrev Fid.PLCA_TO : Nat := 0x0813
/-- PLCA_BURST (0814h) -/
abbrev Fid.PLCA_BURST : Nat := 0x0814
/-- LINE_PROTOCOL (0820h) -/
abbrev Fid.LINE_PROTOCOL : Nat := 0x0820
/-- LINE_PHY (0821h) -/
abbrev Fid.LINE_PHY : Nat := 0x0821
/-- LINE_BAUD (0822h) -/
abbrev Fid.LINE_BAUD : Nat := 0x0822
/-- LINE_FORMAT (0823h) -/
abbrev Fid.LINE_FORMAT : Nat := 0x0823
/-- LINE_TERM (0824h) -/
abbrev Fid.LINE_TERM : Nat := 0x0824
/-- MSTP_MAC (0825h) -/
abbrev Fid.MSTP_MAC : Nat := 0x0825
/-- MSTP_MAX_MASTER (0826h) -/
abbrev Fid.MSTP_MAX_MASTER : Nat := 0x0826
/-- MSTP_MAX_INFO (0827h) -/
abbrev Fid.MSTP_MAX_INFO : Nat := 0x0827
/-- MB_UNIT (0828h) -/
abbrev Fid.MB_UNIT : Nat := 0x0828
/-- MB_TIMEOUT (0829h) -/
abbrev Fid.MB_TIMEOUT : Nat := 0x0829
/-- MB_RETRY (082Ah) -/
abbrev Fid.MB_RETRY : Nat := 0x082A
/-- MB_PARTNER (082Bh) -/
abbrev Fid.MB_PARTNER : Nat := 0x082B
/-- BAC_NET (0830h) -/
abbrev Fid.BAC_NET : Nat := 0x0830
/-- BAC_HOME_PORT (0831h) -/
abbrev Fid.BAC_HOME_PORT : Nat := 0x0831
/-- BAC_ROUTE (0832h) -/
abbrev Fid.BAC_ROUTE : Nat := 0x0832
/-- BAC_UDP_PORT (0833h) -/
abbrev Fid.BAC_UDP_PORT : Nat := 0x0833
/-- BAC_FD_BBMD (0834h) -/
abbrev Fid.BAC_FD_BBMD : Nat := 0x0834
/-- BAC_FD_TTL (0835h) -/
abbrev Fid.BAC_FD_TTL : Nat := 0x0835
/-- SC_ENABLE (0838h) -/
abbrev Fid.SC_ENABLE : Nat := 0x0838
/-- SC_PRIMARY_ADDR (0839h) -/
abbrev Fid.SC_PRIMARY_ADDR : Nat := 0x0839
/-- SC_PRIMARY_PORT (083Ah) -/
abbrev Fid.SC_PRIMARY_PORT : Nat := 0x083A
/-- SC_FAILOVER_ADDR (083Bh) -/
abbrev Fid.SC_FAILOVER_ADDR : Nat := 0x083B
/-- SC_FAILOVER_PORT (083Ch) -/
abbrev Fid.SC_FAILOVER_PORT : Nat := 0x083C
/-- SC_RECONNECT (083Dh) -/
abbrev Fid.SC_RECONNECT : Nat := 0x083D
/-- BUS_WHOIS_PERIOD (0850h) -/
abbrev Fid.BUS_WHOIS_PERIOD : Nat := 0x0850
/-- BUS_SILENCE (0851h) -/
abbrev Fid.BUS_SILENCE : Nat := 0x0851
/-- BIND_PARTNER (0860h) -/
abbrev Fid.BIND_PARTNER : Nat := 0x0860
/-- BIND_OBJECT (0861h) -/
abbrev Fid.BIND_OBJECT : Nat := 0x0861
/-- BIND_PROPERTY (0862h) -/
abbrev Fid.BIND_PROPERTY : Nat := 0x0862
/-- BIND_DIR (0863h) -/
abbrev Fid.BIND_DIR : Nat := 0x0863
/-- BIND_METHOD (0864h) -/
abbrev Fid.BIND_METHOD : Nat := 0x0864
/-- BIND_PERIOD (0865h) -/
abbrev Fid.BIND_PERIOD : Nat := 0x0865
/-- BIND_STALE (0866h) -/
abbrev Fid.BIND_STALE : Nat := 0x0866
/-- BIND_ENCODING (0867h) -/
abbrev Fid.BIND_ENCODING : Nat := 0x0867
/-- BIND_PRIORITY (0868h) -/
abbrev Fid.BIND_PRIORITY : Nat := 0x0868
/-- BIND_DEADBAND (0869h) -/
abbrev Fid.BIND_DEADBAND : Nat := 0x0869
/-- BIND_HEARTBEAT (086Ah) -/
abbrev Fid.BIND_HEARTBEAT : Nat := 0x086A
/-- BIND_RELINQUISH (086Bh) -/
abbrev Fid.BIND_RELINQUISH : Nat := 0x086B
/-- BIND_COV_LIFE (086Ch) -/
abbrev Fid.BIND_COV_LIFE : Nat := 0x086C
/-- SVC_DEVICE_INSTANCE (0901h) -/
abbrev Fid.SVC_DEVICE_INSTANCE : Nat := 0x0901
/-- SVC_UTC_OFFSET (0902h) -/
abbrev Fid.SVC_UTC_OFFSET : Nat := 0x0902
/-- SVC_DST (0903h) -/
abbrev Fid.SVC_DST : Nat := 0x0903
/-- SVC_DST_START (0904h) -/
abbrev Fid.SVC_DST_START : Nat := 0x0904
/-- SVC_DST_END (0905h) -/
abbrev Fid.SVC_DST_END : Nat := 0x0905
/-- SVC_HOST_PRIORITY (0906h) -/
abbrev Fid.SVC_HOST_PRIORITY : Nat := 0x0906
/-- SVC_MODBUS_PRIORITY (0907h) -/
abbrev Fid.SVC_MODBUS_PRIORITY : Nat := 0x0907
/-- SVC_ZONE_EXPOSE (0908h) -/
abbrev Fid.SVC_ZONE_EXPOSE : Nat := 0x0908
/-- OBJ_TYPE (0910h) -/
abbrev Fid.OBJ_TYPE : Nat := 0x0910
/-- OBJ_INSTANCE (0911h) -/
abbrev Fid.OBJ_INSTANCE : Nat := 0x0911
/-- OBJ_POINT (0912h) -/
abbrev Fid.OBJ_POINT : Nat := 0x0912
/-- OBJ_UNITS (0913h) -/
abbrev Fid.OBJ_UNITS : Nat := 0x0913
/-- OBJ_STATES (0914h) -/
abbrev Fid.OBJ_STATES : Nat := 0x0914
/-- SCHED_ENABLE (0920h) -/
abbrev Fid.SCHED_ENABLE : Nat := 0x0920
/-- CAL_ENABLE (0921h) -/
abbrev Fid.CAL_ENABLE : Nat := 0x0921
/-- TL_LOG_ENABLE (0922h) -/
abbrev Fid.TL_LOG_ENABLE : Nat := 0x0922
/-- NC_ENABLE (0923h) -/
abbrev Fid.NC_ENABLE : Nat := 0x0923
/-- CH_MODE (0A01h) -/
abbrev Fid.CH_MODE : Nat := 0x0A01
/-- CH_LCD_VOP (0A02h) -/
abbrev Fid.CH_LCD_VOP : Nat := 0x0A02
/-- CH_BLINK_A (0A03h) -/
abbrev Fid.CH_BLINK_A : Nat := 0x0A03
/-- CH_BLINK_B (0A04h) -/
abbrev Fid.CH_BLINK_B : Nat := 0x0A04
/-- CH_TEMP_SOURCE (0A05h) -/
abbrev Fid.CH_TEMP_SOURCE : Nat := 0x0A05
/-- CH_BAND_EDGE (0A06h) -/
abbrev Fid.CH_BAND_EDGE : Nat := 0x0A06
/-- CH_DEFAULT_BAND (0A07h) -/
abbrev Fid.CH_DEFAULT_BAND : Nat := 0x0A07
/-- CH_WAVE_LEN (0A10h) -/
abbrev Fid.CH_WAVE_LEN : Nat := 0x0A10
/-- CH_WAVE (0A11h) -/
abbrev Fid.CH_WAVE : Nat := 0x0A11
/-- TL_ENABLE (0B01h) -/
abbrev Fid.TL_ENABLE : Nat := 0x0B01
/-- TL_FILTER (0B02h) -/
abbrev Fid.TL_FILTER : Nat := 0x0B02
/-- TL_DEBOUNCE (0B03h) -/
abbrev Fid.TL_DEBOUNCE : Nat := 0x0B03
/-- TL_STUCK_TIME (0B04h) -/
abbrev Fid.TL_STUCK_TIME : Nat := 0x0B04
/-- TL_ENC_CPD (0B05h) -/
abbrev Fid.TL_ENC_CPD : Nat := 0x0B05
/-- TL_ENC_INVERT (0B06h) -/
abbrev Fid.TL_ENC_INVERT : Nat := 0x0B06
/-- TL_KEY_MASK (0B07h) -/
abbrev Fid.TL_KEY_MASK : Nat := 0x0B07
/-- PAIR_ENABLE (0C01h) -/
abbrev Fid.PAIR_ENABLE : Nat := 0x0C01
/-- PAIR_HB_PORTS (0C02h) -/
abbrev Fid.PAIR_HB_PORTS : Nat := 0x0C02
/-- PAIR_HB_TIMEOUT (0C03h) -/
abbrev Fid.PAIR_HB_TIMEOUT : Nat := 0x0C03
/-- PAIR_ELECT_WAIT (0C04h) -/
abbrev Fid.PAIR_ELECT_WAIT : Nat := 0x0C04
/-- PAIR_AO_STANDBY (0C05h) -/
abbrev Fid.PAIR_AO_STANDBY : Nat := 0x0C05
/-- PAIR_PHASE_ALIGN (0C06h) -/
abbrev Fid.PAIR_PHASE_ALIGN : Nat := 0x0C06
/-- PAIR_STALE_LIMIT (0C07h) -/
abbrev Fid.PAIR_STALE_LIMIT : Nat := 0x0C07
/-- PWR_BACKUP_MODE (0D01h) -/
abbrev Fid.PWR_BACKUP_MODE : Nat := 0x0D01
/-- PWR_SLEEP_DELAY (0D02h) -/
abbrev Fid.PWR_SLEEP_DELAY : Nat := 0x0D02
/-- PWR_WAKE (0D03h) -/
abbrev Fid.PWR_WAKE : Nat := 0x0D03
/-- PWR_HOLD_MIN (0D04h) -/
abbrev Fid.PWR_HOLD_MIN : Nat := 0x0D04
/-- SEC_QSPI_AUTH (0E01h) -/
abbrev Fid.SEC_QSPI_AUTH : Nat := 0x0E01
/-- SEC_UART_AUTH (0E02h) -/
abbrev Fid.SEC_UART_AUTH : Nat := 0x0E02
/-- SEC_UDP_ENABLE (0E03h) -/
abbrev Fid.SEC_UDP_ENABLE : Nat := 0x0E03
/-- SEC_UDP_PORT (0E04h) -/
abbrev Fid.SEC_UDP_PORT : Nat := 0x0E04
/-- SEC_UDP_IDLE (0E05h) -/
abbrev Fid.SEC_UDP_IDLE : Nat := 0x0E05
/-- EVT_CONSUMER (0E10h) -/
abbrev Fid.EVT_CONSUMER : Nat := 0x0E10
/-- SCP_FROST (0F40h) -/
abbrev Fid.SCP_FROST : Nat := 0x0F40
/-- SCP_HOT (0F41h) -/
abbrev Fid.SCP_HOT : Nat := 0x0F41
/-- SCP_HYST (0F42h) -/
abbrev Fid.SCP_HYST : Nat := 0x0F42
/-- SCP_DELAY (0F43h) -/
abbrev Fid.SCP_DELAY : Nat := 0x0F43
/-- SCP_MIN_ON (0F44h) -/
abbrev Fid.SCP_MIN_ON : Nat := 0x0F44
/-- SCP_BLIND_LIMIT (0F45h) -/
abbrev Fid.SCP_BLIND_LIMIT : Nat := 0x0F45

/-- Where a descriptor stands (R87, R88, R90, R349). -/
inductive DescUse where
  | source | dest | point
  deriving DecidableEq, Repr

/-- The check of a value on its own (R615, R87): a numeric range with values allowed beside it, an enumeration, a set
of bits, a binary32 range given by its bit patterns, a descriptor, or none. -/
inductive Check where
  | num (lo hi : Int) (also : List Nat)
  | enum (values : List Nat)
  | bits (mask : Nat)
  | real (lo hi : Nat)
  | desc (use : DescUse)
  | any
  deriving DecidableEq, Repr

/-- The INDEX range of a field: an interval, zone numbers, zone × 16 + k with k below a limit, or block × stride + k. -/
inductive Dom where
  | range (lo hi : Nat)
  | zone
  | sig (n : Nat)
  | grid (blocks stride n : Nat)
  deriving DecidableEq, Repr

/-- One row of a field table. -/
structure FieldRow where
  id : Nat
  size : Nat
  signed : Bool
  check : Check
  dflt : Nat
  dom : Dom
  deriving DecidableEq, Repr

/-- Whether an INDEX lies in a field's range (R106, R419). -/
def Dom.has : Dom → Nat → Bool
  | .range lo hi, i => decide (lo ≤ i) && decide (i ≤ hi)
  | .zone, i => decide (i < 256)
  | .sig n, i => decide (i < 4096) && decide (i % 16 < n)
  | .grid blocks stride n, i => decide (i / stride < blocks) && decide (i % stride < n)

/-- Fields 01xxh. -/
def fieldsMeridian : List FieldRow := [
  ⟨Fid.NOMINAL_HZ, 1, false, .enum [0, 1, 2], 0, .range 0 0⟩,
  ⟨Fid.ZERO_OFFSET, 4, true, .num (-524288) 524287 [], 0, .range 0 0⟩,
  ⟨Fid.MREF_MIN, 2, false, .num 600 3000 [], 1200, .range 0 0⟩,
  ⟨Fid.DR_GUARD, 2, false, .num 4 256 [], 16, .range 0 0⟩,
  ⟨Fid.SLEW_DIV, 2, false, .num 64 1024 [], 64, .range 0 0⟩,
  ⟨Fid.CONCORD_LOG, 1, false, .enum [0, 1], 1, .range 0 0⟩]

/-- Fields 02xxh. -/
def fieldsField : List FieldRow := [
  ⟨Fid.FC_ROLE, 1, false, .enum [0, 1, 2, 3], 0, .range 0 31⟩,
  ⟨Fid.FC_IN_THRESH, 1, false, .enum [0, 1, 2], 0, .range 0 31⟩,
  ⟨Fid.FC_IN_SAMPLING, 1, false, .enum [0, 1], 1, .range 0 31⟩,
  ⟨Fid.FC_IN_PULSE_PERIOD, 2, false, .num 16 1000 [], 250, .range 0 31⟩,
  ⟨Fid.FC_IN_DEBOUNCE, 2, false, .num 1 65535 [], 5000, .range 0 31⟩,
  ⟨Fid.FC_IN_MODE, 1, false, .enum [0, 1], 0, .range 0 31⟩,
  ⟨Fid.FC_IN_INVERT, 1, false, .enum [0, 1], 0, .range 0 31⟩,
  ⟨Fid.FC_FREQ_GATE, 2, false, .num 1 4096 [], 64, .range 0 31⟩,
  ⟨Fid.FC_FREQ_TIMEOUT, 2, false, .num 1 65535 [], 256, .range 0 31⟩,
  ⟨Fid.FC_OUT_DRIVE, 1, false, .enum [0, 1], 0, .range 0 31⟩,
  ⟨Fid.FC_OUT_ON_LEVEL, 2, true, .num 0 10000 [], 5000, .range 0 31⟩,
  ⟨Fid.FC_OUT_OFF_LEVEL, 2, true, .num 0 10000 [], 4900, .range 0 31⟩,
  ⟨Fid.FC_TPO_PERIOD, 2, false, .num 4 65535 [], 512, .range 0 31⟩,
  ⟨Fid.FC_TPO_MIN, 2, false, .num 0 32767 [], 4, .range 0 31⟩,
  ⟨Fid.FC_SAFE, 1, false, .enum [0, 1, 2], 0, .range 0 31⟩,
  ⟨Fid.FC_OVL_TIME, 2, false, .num 100 50000 [], 10000, .range 0 31⟩,
  ⟨Fid.FC_RETRY, 1, false, .num 0 15 [], 3, .range 0 31⟩,
  ⟨Fid.FC_RETRY_DELAY, 2, false, .num 16 65535 [], 256, .range 0 31⟩,
  ⟨Fid.FC_OPEN_LOAD, 1, false, .bits 3, 0, .range 0 31⟩,
  ⟨Fid.FC_OPEN_I, 2, false, .num 1 100 [], 5, .range 0 31⟩,
  ⟨Fid.FC_DARK, 1, false, .enum [0, 1], 0, .range 0 31⟩,
  ⟨Fid.FC_DARK_WIDTH, 2, false, .num 20 100 [], 50, .range 0 31⟩,
  ⟨Fid.FC_DARK_PERIOD, 2, false, .num 64 65535 [], 3000, .range 0 31⟩,
  ⟨Fid.FC_SHARED, 1, false, .enum [0, 1], 0, .range 0 31⟩,
  ⟨Fid.FG_BARRIER_TIMEOUT, 2, false, .num 1 250 [], 10, .range 0 3⟩,
  ⟨Fid.FG_CUT, 1, false, .enum [0, 1], 1, .range 0 3⟩,
  ⟨Fid.FG_VFIELD_UV, 2, false, .num 150 200 [], 170, .range 0 3⟩,
  ⟨Fid.FG_GROUP_LIMIT, 2, false, .num 500 2000 [], 2000, .range 0 3⟩]

/-- Fields 03xxh. -/
def fieldsInputs : List FieldRow := [
  ⟨Fid.UI_TYPE, 1, false, .enum [0, 1, 2, 3, 4, 5, 6, 7, 8], 0, .range 0 15⟩,
  ⟨Fid.UI_NTC_NOMINAL, 4, false, .num 1000 100000 [0], 0, .range 0 15⟩,
  ⟨Fid.UI_NTC_BETA, 2, false, .num 2500 5000 [0], 0, .range 0 15⟩,
  ⟨Fid.UI_LEAD, 4, false, .num 0 100000 [], 0, .range 0 15⟩,
  ⟨Fid.UI_OFFSET, 4, true, .num (-10000) 10000 [], 0, .range 0 15⟩,
  ⟨Fid.UI_FILTER, 1, false, .num 0 8 [], 0, .range 0 15⟩,
  ⟨Fid.UI_MA_LO, 2, false, .num 0 4000 [], 3600, .range 0 15⟩,
  ⟨Fid.UI_MA_HI, 2, false, .num 20000 24000 [], 21000, .range 0 15⟩,
  ⟨Fid.UI_INVERT, 1, false, .enum [0, 1], 0, .range 0 15⟩,
  ⟨Fid.I2C_SPEED, 1, false, .enum [0, 1, 2, 3], 0, .range 0 1⟩,
  ⟨Fid.I2C_STRETCH, 2, false, .num 100 25000 [], 25000, .range 0 1⟩,
  ⟨Fid.I2C_BUS, 1, false, .enum [0, 1, 2], 0, .range 0 63⟩,
  ⟨Fid.I2C_ADDR, 1, false, .num 8 119 [], 8, .range 0 63⟩,
  ⟨Fid.I2C_PERIOD, 2, false, .num 4 65535 [], 64, .range 0 63⟩,
  ⟨Fid.I2C_PHASE, 2, false, .num 0 65535 [], 0, .range 0 63⟩,
  ⟨Fid.I2C_FROM, 1, false, .num 0 63 [255], 255, .range 0 63⟩,
  ⟨Fid.I2C_STEP, 4, false, .any, 0, .range 0 511⟩,
  ⟨Fid.I2C_EXTRACT, 4, false, .any, 0, .range 0 63⟩,
  ⟨Fid.I2C_GAIN, 4, false, .any, 0x3f800000, .range 0 63⟩,
  ⟨Fid.I2C_OFFSET, 4, false, .any, 0, .range 0 63⟩,
  ⟨Fid.I2C_RETRY, 1, false, .num 0 3 [], 1, .range 0 63⟩]

/-- Fields 04xxh. -/
def fieldsOutputs : List FieldRow := [
  ⟨Fid.AO_ROLE, 1, false, .enum [0, 1], 0, .range 0 7⟩,
  ⟨Fid.AO_V_LO, 2, false, .num 0 10000 [], 0, .range 0 7⟩,
  ⟨Fid.AO_V_HI, 2, false, .num 0 10000 [], 10000, .range 0 7⟩,
  ⟨Fid.AO_SAFE, 2, false, .num 0 10000 [], 0, .range 0 7⟩,
  ⟨Fid.AGO_MODE, 1, false, .enum [0, 1, 2, 3, 4, 5], 0, .range 0 7⟩,
  ⟨Fid.AGO_ANGLE, 4, false, .num 0 1048575 [], 0, .range 0 7⟩,
  ⟨Fid.AGO_PULSE, 4, false, .num 0 524287 [], 0, .range 0 7⟩,
  ⟨Fid.AGO_LAW, 1, false, .enum [0, 1], 1, .range 0 7⟩,
  ⟨Fid.AGO_END_GUARD, 4, false, .num 2048 131072 [], 16384, .range 0 7⟩,
  ⟨Fid.AGO_DIV, 1, false, .num 0 8 [], 4, .range 0 7⟩,
  ⟨Fid.AGO_MIN_WIDTH, 4, false, .num 0 65536 [], 1024, .range 0 7⟩,
  ⟨Fid.AGO_ON_LEVEL, 2, true, .num 0 10000 [], 5000, .range 0 7⟩,
  ⟨Fid.AGO_OFF_LEVEL, 2, true, .num 0 10000 [], 4900, .range 0 7⟩,
  ⟨Fid.AGO_INVERT, 1, false, .enum [0, 1], 0, .range 0 7⟩,
  ⟨Fid.AGO_UNLOCK, 1, false, .enum [0, 1, 2], 0, .range 0 7⟩]

/-- Fields 05xxh. -/
def fieldsZones0 : List FieldRow := [
  ⟨Fid.ZONE_MODE, 1, false, .enum [0, 1, 2, 3], 0, .zone⟩,
  ⟨Fid.ZONE_NX, 1, false, .num 0 8 [], 0, .zone⟩,
  ⟨Fid.ZONE_NU, 1, false, .num 0 4 [], 0, .zone⟩,
  ⟨Fid.ZONE_NY, 1, false, .num 0 4 [], 0, .zone⟩,
  ⟨Fid.ZONE_ND, 1, false, .num 0 4 [], 0, .zone⟩,
  ⟨Fid.Y_KIND, 1, false, .enum [0, 1, 2, 3, 4, 5, 6], 0, .sig 4⟩,
  ⟨Fid.Y_SOURCE, 4, false, .desc .source, 0, .sig 4⟩,
  ⟨Fid.Y_MAX_AGE, 2, false, .num 1 65535 [], 16, .sig 4⟩,
  ⟨Fid.Y_MIN, 4, true, .any, 0x80000001, .sig 4⟩,
  ⟨Fid.Y_MAX, 4, true, .any, 0x7fffffff, .sig 4⟩,
  ⟨Fid.U_KIND, 1, false, .enum [0, 1, 2, 3, 4, 5, 6], 4, .sig 4⟩,
  ⟨Fid.U_DEST0, 4, false, .desc .dest, 0, .sig 4⟩,
  ⟨Fid.U_DEST1, 4, false, .desc .dest, 0, .sig 4⟩,
  ⟨Fid.U_MIN, 4, true, .any, 0, .sig 4⟩,
  ⟨Fid.U_MAX, 4, true, .any, 0, .sig 4⟩,
  ⟨Fid.U_SAFE, 4, true, .any, 0, .sig 4⟩,
  ⟨Fid.U_GUARD, 1, false, .enum [0, 1, 2], 0, .sig 4⟩,
  ⟨Fid.D_KIND, 1, false, .enum [0, 1, 2, 3, 4, 5, 6], 0, .sig 4⟩,
  ⟨Fid.D_SOURCE, 4, false, .desc .source, 0, .sig 4⟩,
  ⟨Fid.D_MAX_AGE, 2, false, .num 1 65535 [], 16, .sig 4⟩,
  ⟨Fid.R_BASE, 4, false, .desc .source, 0, .sig 4⟩,
  ⟨Fid.R_FALLBACK, 4, false, .desc .source, 0, .sig 4⟩,
  ⟨Fid.R_ADJUST, 4, false, .desc .source, 0, .sig 4⟩,
  ⟨Fid.R_ADJ_LIMIT, 4, true, .num 0 2147483647 [], 0, .sig 4⟩,
  ⟨Fid.R_MIN, 4, true, .any, 0x80000001, .sig 4⟩]

/-- Fields 05xxh. -/
def fieldsZones1 : List FieldRow := [
  ⟨Fid.R_MAX, 4, true, .any, 0x7fffffff, .sig 4⟩,
  ⟨Fid.R_DEFAULT, 4, true, .any, 0x80000000, .sig 4⟩,
  ⟨Fid.R_RATE, 2, false, .num 0 65535 [], 0, .sig 4⟩,
  ⟨Fid.R_MAX_AGE, 2, false, .num 1 65535 [], 1024, .sig 4⟩,
  ⟨Fid.NB_ZONE, 2, false, .any, 65535, .sig 6⟩,
  ⟨Fid.HELM_SAMPLE_ANGLE, 4, false, .num 0 524287 [], 0, .range 0 0⟩,
  ⟨Fid.HELM_APPLY_DELAY, 4, false, .num 16384 262144 [], 16384, .range 0 0⟩,
  ⟨Fid.HELM_BUMP_SHIFT, 1, false, .num 0 12 [], 8, .range 0 0⟩,
  ⟨Fid.HELM_WARMUP, 2, false, .num 0 4096 [], 32, .range 0 0⟩,
  ⟨Fid.HELM_BLIND_SAFE, 2, false, .num 0 65535 [], 15000, .range 0 0⟩,
  ⟨Fid.FL_ENABLE, 1, false, .enum [0, 1], 0, .range 1 64⟩,
  ⟨Fid.FL_ORDER, 1, false, .num 1 4 [], 1, .range 1 64⟩,
  ⟨Fid.FL_DIV, 1, false, .num 0 4 [], 0, .range 1 64⟩,
  ⟨Fid.FL_ANGLE, 4, false, .num 0 1048575 [], 0, .range 1 64⟩,
  ⟨Fid.FL_APPLY_DELAY, 4, false, .num 2048 32768 [], 4096, .range 1 64⟩,
  ⟨Fid.FL_Y_SOURCE, 4, false, .desc .source, 0, .range 1 64⟩,
  ⟨Fid.FL_Y_MAX_AGE, 2, false, .num 1 65535 [], 1, .range 1 64⟩,
  ⟨Fid.FL_R_SOURCE, 4, false, .desc .source, 0, .range 1 64⟩,
  ⟨Fid.FL_DEST, 4, false, .desc .dest, 0, .range 1 64⟩,
  ⟨Fid.FL_U_MIN, 4, true, .any, 0, .range 1 64⟩,
  ⟨Fid.FL_U_MAX, 4, true, .any, 0, .range 1 64⟩,
  ⟨Fid.FL_U_SAFE, 4, true, .any, 0, .range 1 64⟩,
  ⟨Fid.SCALER_GAIN, 4, false, .any, 0x3f800000, .range 1 63⟩,
  ⟨Fid.SCALER_OFFSET, 4, false, .any, 0, .range 1 63⟩]

/-- Fields 06xxh. -/
def fieldsWaypoint : List FieldRow := [
  ⟨Fid.WP_ENABLE, 1, false, .enum [0, 1], 0, .range 0 0⟩,
  ⟨Fid.WP_PERIOD, 2, false, .num 15 900 [], 60, .range 0 0⟩,
  ⟨Fid.WP_MAX_AGE, 4, false, .num 1024 131072 [], 15000, .range 0 0⟩,
  ⟨Fid.WP_STEP_MAX, 4, true, .num 1 1000 [], 50, .range 0 0⟩,
  ⟨Fid.WP_DAY_CALENDAR, 1, false, .num 0 15 [255], 255, .range 0 0⟩,
  ⟨Fid.WP_WX_SPREAD0, 2, false, .num 0 2000 [], 50, .range 0 0⟩,
  ⟨Fid.WP_WX_SPREAD96, 2, false, .num 0 2000 [], 400, .range 0 0⟩,
  ⟨Fid.WP_PRICE, 2, false, .num 0 65534 [], 1000, .range 0 95⟩,
  ⟨Fid.WP_W_COMFORT, 4, false, .real 0x00000000 0x49742400, 0x42c80000, .range 0 0⟩,
  ⟨Fid.WP_W_UNOCC, 4, false, .real 0x00000000 0x3F800000, 0x3dcccccd, .range 0 0⟩,
  ⟨Fid.WP_W_TARGET, 4, false, .real 0x00000000 0x49742400, 0x3f800000, .range 0 0⟩,
  ⟨Fid.WP_W_SAT, 4, false, .real 0x00000000 0x49742400, 0x447a0000, .range 0 0⟩,
  ⟨Fid.WP_W_SMOOTH, 4, false, .real 0x00000000 0x49742400, 0x3f800000, .range 0 0⟩,
  ⟨Fid.WP_OCC_LO, 4, true, .any, 2000, .sig 4⟩,
  ⟨Fid.WP_OCC_HI, 4, true, .any, 2400, .sig 4⟩,
  ⟨Fid.WP_OCC_TARGET, 4, true, .any, 2150, .sig 4⟩,
  ⟨Fid.WP_UNOCC_LO, 4, true, .any, 1600, .sig 4⟩,
  ⟨Fid.WP_UNOCC_HI, 4, true, .any, 2800, .sig 4⟩,
  ⟨Fid.WP_UNOCC_TARGET, 4, true, .any, 1800, .sig 4⟩,
  ⟨Fid.WP_SCHEDULE, 4, false, .desc .source, 0, .zone⟩,
  ⟨Fid.WP_U_POWER, 4, false, .real 0x00000000 0x49742400, 0, .sig 4⟩,
  ⟨Fid.WP_D_ROLE, 1, false, .enum [0, 1, 2, 3, 4], 0, .sig 4⟩,
  ⟨Fid.OCC_ENABLE, 1, false, .enum [0, 1], 0, .zone⟩,
  ⟨Fid.OCC_Y_TEMP, 1, false, .num 0 3 [255], 255, .zone⟩,
  ⟨Fid.OCC_Y_CO2, 1, false, .num 0 3 [255], 255, .zone⟩,
  ⟨Fid.OCC_PRESENCE0, 4, false, .desc .source, 0, .zone⟩,
  ⟨Fid.OCC_PRESENCE1, 4, false, .desc .source, 0, .zone⟩,
  ⟨Fid.OCC_VOLUME, 2, false, .num 10 65535 [], 500, .zone⟩,
  ⟨Fid.OCC_AIRFLOW, 4, false, .desc .source, 0, .zone⟩,
  ⟨Fid.OCC_INNOV_W, 2, false, .num 0 65535 [], 0, .zone⟩,
  ⟨Fid.OCC_MAX_PERSONS, 2, false, .num 1 10000 [], 500, .zone⟩,
  ⟨Fid.OCC_W_PERSON, 2, false, .num 40 300 [], 100, .range 0 0⟩,
  ⟨Fid.OCC_CO2_PERSON, 2, false, .num 50 1000 [], 180, .range 0 0⟩,
  ⟨Fid.OCC_CO2_SUPPLY, 2, false, .num 0 2000 [], 420, .range 0 0⟩,
  ⟨Fid.OCC_WINDOW, 2, false, .num 1024 65535 [], 15000, .range 0 0⟩,
  ⟨Fid.OCC_PRES_TRUST, 2, false, .num 5000 10000 [], 9500, .range 0 0⟩,
  ⟨Fid.OCC_P_FULL, 2, false, .num 10 1000 [], 80, .range 0 0⟩,
  ⟨Fid.OCC_LEARN_DAYS, 1, false, .num 1 64 [], 16, .range 0 0⟩,
  ⟨Fid.OCC_WEIGHT_CO2, 1, false, .num 0 100 [], 50, .range 0 0⟩,
  ⟨Fid.OCC_SCHED_PRIOR, 2, false, .num 0 10000 [], 9000, .range 0 0⟩]

/-- Fields 07xxh. -/
def fieldsSoundings : List FieldRow := [
  ⟨Fid.SND_ENABLE, 1, false, .enum [0, 1], 0, .range 0 0⟩,
  ⟨Fid.SND_DELIVER, 1, false, .enum [1, 2, 3], 1, .range 0 0⟩,
  ⟨Fid.SND_MIN_FIT, 2, false, .num 0 10000 [], 7000, .range 0 0⟩,
  ⟨Fid.SND_MAX_CHANGE, 2, false, .num 0 1000 [], 100, .range 0 0⟩,
  ⟨Fid.SND_MAX_GAP, 2, false, .num 1 4096 [], 64, .range 0 0⟩,
  ⟨Fid.SND_ALLOW, 1, false, .enum [0, 1], 0, .zone⟩,
  ⟨Fid.SND_Y_GUARD, 4, true, .num 1 2147483647 [], 150, .zone⟩,
  ⟨Fid.SND_QY, 4, false, .real 0x358637BD 0x49742400, 0x3f800000, .zone⟩,
  ⟨Fid.SND_RU, 4, false, .real 0x358637BD 0x49742400, 0x3c23d70a, .zone⟩,
  ⟨Fid.SND_QW, 4, false, .real 0x00000000 0x49742400, 0x358637bd, .zone⟩,
  ⟨Fid.SND_RV, 4, false, .real 0x3089705F 0x49742400, 0x3c23d70a, .zone⟩,
  ⟨Fid.SND_AMP_MAX, 4, true, .num 0 2147483647 [], 0, .sig 4⟩]

/-- Fields 08xxh. -/
def fieldsBus0 : List FieldRow := [
  ⟨Fid.ETH_DELAY, 1, false, .bits 3, 3, .range 0 1⟩,
  ⟨Fid.ETH_PHY_ADDR, 1, false, .num 0 31 [], 0, .range 0 1⟩,
  ⟨Fid.IP_MODE, 1, false, .enum [0, 1], 1, .range 0 1⟩,
  ⟨Fid.IP_ADDR, 4, false, .any, 0, .range 0 1⟩,
  ⟨Fid.IP_MASK, 4, false, .any, 0xffffff00, .range 0 1⟩,
  ⟨Fid.IP_GATEWAY, 4, false, .any, 0, .range 0 1⟩,
  ⟨Fid.T1S_ENABLE, 1, false, .enum [0, 1], 0, .range 0 0⟩,
  ⟨Fid.PLCA_ID, 1, false, .num 0 31 [255], 255, .range 0 0⟩,
  ⟨Fid.PLCA_COUNT, 1, false, .num 2 32 [], 8, .range 0 0⟩,
  ⟨Fid.PLCA_TO, 1, false, .num 20 255 [], 32, .range 0 0⟩,
  ⟨Fid.PLCA_BURST, 1, false, .num 0 8 [], 0, .range 0 0⟩,
  ⟨Fid.LINE_PROTOCOL, 1, false, .enum [0, 1, 2, 3], 0, .range 0 3⟩,
  ⟨Fid.LINE_PHY, 1, false, .enum [0, 1], 0, .range 0 3⟩,
  ⟨Fid.LINE_BAUD, 4, false, .enum [9600, 19200, 38400, 57600, 76800, 115200], 38400, .range 0 3⟩,
  ⟨Fid.LINE_FORMAT, 1, false, .enum [0, 1, 2], 0, .range 0 3⟩,
  ⟨Fid.LINE_TERM, 1, false, .bits 3, 0, .range 0 3⟩,
  ⟨Fid.MSTP_MAC, 1, false, .num 0 127 [], 127, .range 0 3⟩,
  ⟨Fid.MSTP_MAX_MASTER, 1, false, .num 1 127 [], 127, .range 0 3⟩,
  ⟨Fid.MSTP_MAX_INFO, 1, false, .num 1 255 [], 4, .range 0 3⟩,
  ⟨Fid.MB_UNIT, 1, false, .num 1 247 [], 1, .range 0 3⟩,
  ⟨Fid.MB_TIMEOUT, 2, false, .num 20 5000 [], 200, .range 0 3⟩,
  ⟨Fid.MB_RETRY, 1, false, .num 0 3 [], 1, .range 0 3⟩,
  ⟨Fid.MB_PARTNER, 2, false, .any, 0, .range 0 255⟩,
  ⟨Fid.BAC_NET, 2, false, .num 0 65534 [], 0, .range 0 6⟩,
  ⟨Fid.BAC_HOME_PORT, 1, false, .num 0 6 [], 0, .range 0 0⟩]

/-- Fields 08xxh. -/
def fieldsBus1 : List FieldRow := [
  ⟨Fid.BAC_ROUTE, 1, false, .enum [0, 1], 1, .range 0 0⟩,
  ⟨Fid.BAC_UDP_PORT, 2, false, .num 1024 65535 [], 47808, .range 0 0⟩,
  ⟨Fid.BAC_FD_BBMD, 4, false, .any, 0, .range 0 0⟩,
  ⟨Fid.BAC_FD_TTL, 2, false, .num 30 65535 [], 600, .range 0 0⟩,
  ⟨Fid.SC_ENABLE, 1, false, .enum [0, 1], 0, .range 0 0⟩,
  ⟨Fid.SC_PRIMARY_ADDR, 4, false, .any, 0, .range 0 0⟩,
  ⟨Fid.SC_PRIMARY_PORT, 2, false, .num 1 65535 [], 443, .range 0 0⟩,
  ⟨Fid.SC_FAILOVER_ADDR, 4, false, .any, 0, .range 0 0⟩,
  ⟨Fid.SC_FAILOVER_PORT, 2, false, .num 1 65535 [], 443, .range 0 0⟩,
  ⟨Fid.SC_RECONNECT, 2, false, .num 2 300 [], 10, .range 0 0⟩,
  ⟨Fid.BUS_WHOIS_PERIOD, 4, false, .num 3000 4000000 [], 0x2bf20, .range 0 0⟩,
  ⟨Fid.BUS_SILENCE, 4, false, .num 3000 4000000 [], 0x15f90, .range 0 0⟩,
  ⟨Fid.BIND_PARTNER, 4, false, .any, 0, .range 0 8191⟩,
  ⟨Fid.BIND_OBJECT, 4, false, .any, 0, .range 0 8191⟩,
  ⟨Fid.BIND_PROPERTY, 4, false, .any, 0xffff0055, .range 0 8191⟩,
  ⟨Fid.BIND_DIR, 1, false, .enum [0, 1], 0, .range 0 8191⟩,
  ⟨Fid.BIND_METHOD, 1, false, .enum [0, 1], 1, .range 0 8191⟩,
  ⟨Fid.BIND_PERIOD, 2, false, .num 16 65535 [], 256, .range 0 8191⟩,
  ⟨Fid.BIND_STALE, 2, false, .num 32 65535 [], 1024, .range 0 8191⟩,
  ⟨Fid.BIND_ENCODING, 1, false, .enum [0, 1, 2, 3, 4, 5, 6, 7, 8], 0, .range 0 8191⟩,
  ⟨Fid.BIND_PRIORITY, 1, false, .num 1 16 [], 16, .range 0 8191⟩,
  ⟨Fid.BIND_DEADBAND, 4, false, .real 0x00000000 0x49742400, 0, .range 0 8191⟩,
  ⟨Fid.BIND_HEARTBEAT, 2, false, .num 64 65535 [], 3000, .range 0 8191⟩,
  ⟨Fid.BIND_RELINQUISH, 1, false, .enum [0, 1], 1, .range 0 8191⟩,
  ⟨Fid.BIND_COV_LIFE, 2, false, .num 60 28800 [], 600, .range 0 8191⟩]

/-- Fields 09xxh. -/
def fieldsServices : List FieldRow := [
  ⟨Fid.SVC_DEVICE_INSTANCE, 4, false, .num 0 4194302 [], 0, .range 0 0⟩,
  ⟨Fid.SVC_UTC_OFFSET, 2, true, .num (-900) 900 [], 0, .range 0 0⟩,
  ⟨Fid.SVC_DST, 1, false, .enum [0, 1], 0, .range 0 0⟩,
  ⟨Fid.SVC_DST_START, 4, false, .any, 0, .range 0 0⟩,
  ⟨Fid.SVC_DST_END, 4, false, .any, 0, .range 0 0⟩,
  ⟨Fid.SVC_HOST_PRIORITY, 1, false, .num 1 16 [], 8, .range 0 0⟩,
  ⟨Fid.SVC_MODBUS_PRIORITY, 1, false, .num 1 16 [], 10, .range 0 0⟩,
  ⟨Fid.SVC_ZONE_EXPOSE, 1, false, .bits 31, 27, .zone⟩,
  ⟨Fid.OBJ_TYPE, 1, false, .enum [0, 1, 2, 3, 4, 5, 13, 14, 19, 255], 255, .range 0 1023⟩,
  ⟨Fid.OBJ_INSTANCE, 4, false, .num 4096 4194302 [], 4096, .range 0 1023⟩,
  ⟨Fid.OBJ_POINT, 4, false, .desc .point, 0, .range 0 1023⟩,
  ⟨Fid.OBJ_UNITS, 2, false, .any, 95, .range 0 1023⟩,
  ⟨Fid.OBJ_STATES, 1, false, .num 2 16 [], 2, .range 0 1023⟩,
  ⟨Fid.SCHED_ENABLE, 1, false, .enum [0, 1], 0, .range 0 255⟩,
  ⟨Fid.CAL_ENABLE, 1, false, .enum [0, 1], 0, .range 0 15⟩,
  ⟨Fid.TL_LOG_ENABLE, 1, false, .enum [0, 1], 0, .range 0 255⟩,
  ⟨Fid.NC_ENABLE, 1, false, .enum [0, 1], 0, .range 0 31⟩]

/-- Fields 0Axxh. -/
def fieldsChart : List FieldRow := [
  ⟨Fid.CH_MODE, 1, false, .enum [0, 1, 2], 0, .range 0 0⟩,
  ⟨Fid.CH_LCD_VOP, 2, false, .num 3000 5000 [], 3300, .range 0 0⟩,
  ⟨Fid.CH_BLINK_A, 2, false, .num 2 4096 [], 32, .range 0 0⟩,
  ⟨Fid.CH_BLINK_B, 2, false, .num 2 4096 [], 64, .range 0 0⟩,
  ⟨Fid.CH_TEMP_SOURCE, 4, false, .desc .source, 0, .range 0 0⟩,
  ⟨Fid.CH_BAND_EDGE, 2, true, .num (-4000) 8000 [], 0, .range 1 7⟩,
  ⟨Fid.CH_DEFAULT_BAND, 1, false, .num 0 7 [], 4, .range 0 0⟩,
  ⟨Fid.CH_WAVE_LEN, 1, false, .num 0 64 [], 0, .grid 8 8 6⟩,
  ⟨Fid.CH_WAVE, 4, false, .any, 0, .grid 8 32 24⟩]

/-- Fields 0Bxxh. -/
def fieldsTiller : List FieldRow := [
  ⟨Fid.TL_ENABLE, 1, false, .bits 7, 0, .range 0 0⟩,
  ⟨Fid.TL_FILTER, 1, false, .num 1 8 [], 2, .range 0 2⟩,
  ⟨Fid.TL_DEBOUNCE, 1, false, .num 1 16 [], 3, .range 0 0⟩,
  ⟨Fid.TL_STUCK_TIME, 2, false, .num 10 600 [], 60, .range 0 0⟩,
  ⟨Fid.TL_ENC_CPD, 1, false, .enum [1, 2, 4], 4, .range 0 3⟩,
  ⟨Fid.TL_ENC_INVERT, 1, false, .enum [0, 1], 0, .range 0 3⟩,
  ⟨Fid.TL_KEY_MASK, 4, false, .any, 0xffffffff, .range 0 1⟩]

/-- Fields 0Cxxh. -/
def fieldsPair : List FieldRow := [
  ⟨Fid.PAIR_ENABLE, 1, false, .enum [0, 1], 0, .range 0 0⟩,
  ⟨Fid.PAIR_HB_PORTS, 1, false, .bits 63, 0, .range 0 0⟩,
  ⟨Fid.PAIR_HB_TIMEOUT, 2, false, .num 2 1024 [], 2, .range 0 0⟩,
  ⟨Fid.PAIR_ELECT_WAIT, 2, false, .num 16 4096 [], 64, .range 0 0⟩,
  ⟨Fid.PAIR_AO_STANDBY, 1, false, .enum [0, 1, 2], 0, .range 0 0⟩,
  ⟨Fid.PAIR_PHASE_ALIGN, 1, false, .enum [0, 1], 1, .range 0 0⟩,
  ⟨Fid.PAIR_STALE_LIMIT, 2, false, .num 16 65535 [], 64, .range 0 0⟩]

/-- Fields 0Dxxh. -/
def fieldsPower : List FieldRow := [
  ⟨Fid.PWR_BACKUP_MODE, 1, false, .enum [0, 1, 2], 0, .range 0 0⟩,
  ⟨Fid.PWR_SLEEP_DELAY, 2, false, .num 150 65535 [], 3000, .range 0 0⟩,
  ⟨Fid.PWR_WAKE, 1, false, .bits 7, 1, .range 0 0⟩,
  ⟨Fid.PWR_HOLD_MIN, 2, false, .num 0 470 [], 38, .range 0 0⟩]

/-- Fields 0Exxh. -/
def fieldsSecurity : List FieldRow := [
  ⟨Fid.SEC_QSPI_AUTH, 1, false, .enum [0, 1], 0, .range 0 0⟩,
  ⟨Fid.SEC_UART_AUTH, 1, false, .enum [0, 1], 0, .range 0 0⟩,
  ⟨Fid.SEC_UDP_ENABLE, 1, false, .enum [0, 1], 0, .range 0 0⟩,
  ⟨Fid.SEC_UDP_PORT, 2, false, .num 1024 65535 [], 19786, .range 0 0⟩,
  ⟨Fid.SEC_UDP_IDLE, 2, false, .num 10 3600 [], 300, .range 0 0⟩,
  ⟨Fid.EVT_CONSUMER, 1, false, .enum [0, 1], 0, .range 0 0⟩]

/-- Fields 0Fxxh. -/
def fieldsPolicy : List FieldRow := [
  ⟨Fid.SCP_FROST, 2, true, .num 200 1500 [32768], 600, .range 0 0⟩,
  ⟨Fid.SCP_HOT, 2, true, .num 2500 5000 [32768], 3500, .range 0 0⟩,
  ⟨Fid.SCP_HYST, 2, false, .num 20 500 [], 100, .range 0 0⟩,
  ⟨Fid.SCP_DELAY, 2, false, .num 1 65535 [], 150, .range 0 0⟩,
  ⟨Fid.SCP_MIN_ON, 2, false, .num 0 65535 [], 3000, .range 0 0⟩,
  ⟨Fid.SCP_BLIND_LIMIT, 2, false, .num 0 65535 [], 15000, .range 0 0⟩]

/-- Every field of a group, by the high byte of its identifier. -/
def fieldGroup : Nat → List FieldRow
  | 1 => fieldsMeridian
  | 2 => fieldsField
  | 3 => fieldsInputs
  | 4 => fieldsOutputs
  | 5 => fieldsZones0 ++ fieldsZones1
  | 6 => fieldsWaypoint
  | 7 => fieldsSoundings
  | 8 => fieldsBus0 ++ fieldsBus1
  | 9 => fieldsServices
  | 10 => fieldsChart
  | 11 => fieldsTiller
  | 12 => fieldsPair
  | 13 => fieldsPower
  | 14 => fieldsSecurity
  | 15 => fieldsPolicy
  | _ => []

/-- The row of a field; none for an identifier that is not assigned (R419). -/
def fieldRow (id : Nat) : Option FieldRow := (fieldGroup (id / 256)).find? (fun r => r.id == id)

/-- The fields in ascending FIELD_ID. -/
def allFields : List FieldRow := (List.range 16).flatMap fieldGroup

/-- A field's default at an INDEX: the table's, but for the two whose default names the INDEX (R331, R579) and
the manufacturing value of R366. -/
def defaultOf (id idx : Nat) : Nat :=
  if id = Fid.ETH_PHY_ADDR then idx
  else if id = Fid.CH_BAND_EDGE then (idx - 1) * 500
  else if id = Fid.SVC_DEVICE_INSTANCE then Config.deviceInstance.val
  else match fieldRow id with
    | some r => r.dflt
    | none => 0

end Sys2Proof
end

