-- ==== Sys2Proof/Machine/State.lean ====
section
/-! DEFINITION. Machine/State.lean: every piece of state the specification gives the module, as plain data: the pieces of
Machine/Parts.lean and the queue of waiting commands. -/

namespace Sys2Proof.Machine

/-! ### The whole block -/

/-- Everything the specification gives the module, and the queue of waiting commands. Every default is the value of
the module as delivered, without supply (assumption 2). -/
structure State where
  /-- commands waiting, first in, first out -/
  pending : List Instr := []
  /-- the model's own counter: which free value of Config comes next (assumption 3); no statement rests on it -/
  free : Nat := 0
  /-- microseconds the module has seen: times what the specification gives in seconds (assumption 1) -/
  clock : Nat := 0
  /-- READY (R18) -/
  ready : Word32 := 0
  mb : Mailbox := {}
  tr : Transports := {}
  cfg : Cfg := {}
  nv : Nv := {}
  log : Logbook := {}
  bin : Binnacle := {}
  sen : Sensors := {}
  sup : Supply := {}
  mer : Meridian := {}
  alm : Almanac := {}
  pair : Pair := {}
  zones : Tbl Zone := []
  zio : Tbl ZoneIo := []
  /-- HOST inputs of R100 by FIELD_ID × 65 536 + INDEX -/
  hostIn : Tbl HostVal := []
  helm : Helm := {}
  plan : Plan := {}
  forecast : Forecast := {}
  occ : Tbl Occ := []
  /-- learned profile by zone × 256 + class × 96 + bin (R190) -/
  profile : Tbl OccBin := []
  snd : Soundings := {}
  inp : Inputs := {}
  fld : Field := {}
  out : Outputs := {}
  bus : Bus := {}
  svc : Services := {}
  policy : Tbl Policy := []
  chart : Chart := {}
  tiller : Tiller := {}
  deriving DecidableEq, Repr, Inhabited

/-- Why a command could stop the block with a fault: nothing in the specification does. -/
inductive Fault where
  deriving DecidableEq, Repr

/-- Why a command has no meaning. -/
inductive Refusal where
  /-- Raised by `exec` alone, for a command the model does not give a meaning to; safe: nothing follows from it. -/
  | notModelled (mnemonic : String)
  deriving DecidableEq, Repr

/-- The module as delivered, before its supplies are first applied (R521 state OFF): every field at its default. -/
def State.reset : State := {}

end Sys2Proof.Machine
end

