-- ==== Sys2Proof/Machine/Flags.lean ====
section
/-! DEFINITION. Machine/Flags.lean: the READY word (R18, R33, R534), the interrupt bits (R372) and the status codes (R20). -/

namespace Sys2Proof.Machine

namespace Rdy
/-- Function numbers of R18. -/
abbrev binnacle : Nat := 0
abbrev almanac : Nat := 1
abbrev nvstore : Nat := 2
abbrev logbook : Nat := 3
abbrev meridian : Nat := 4
abbrev lock : Nat := 5
abbrev fg (g : Nat) : Nat := 6 + g
abbrev ui : Nat := 10
abbrev ao : Nat := 11
abbrev ago : Nat := 12
abbrev helm : Nat := 13
abbrev waypoint : Nat := 14
abbrev sounding : Nat := 15
abbrev services : Nat := 16
abbrev eth0 : Nat := 17
abbrev eth1 : Nat := 18
abbrev t1s : Nat := 19
abbrev line (n : Nat) : Nat := 20 + n
abbrev i2c : Nat := 24
abbrev chart : Nat := 25
abbrev tiller : Nat := 26
abbrev mirror : Nat := 27
abbrev config : Nat := 28
end Rdy

/-- Bit `n` of a READY word. -/
def readyBit (w : Word32) (n : Nat) : Bool := w.getLsbD n

/-- A word with exactly the listed bits set. -/
def bitMask : List Nat → Word32
  | [] => 0
  | b :: bs => (1#32 <<< b) ||| bitMask bs

/-- What each function requires (R33). -/
def requires : Nat → List Nat
  | 0 => []
  | 1 => [0]
  | 2 => [0]
  | 3 => [2]
  | 4 => [0]
  | 5 => [4]
  | 6 => [0]
  | 7 => [0]
  | 8 => [0]
  | 9 => [0]
  | 10 => [4]
  | 11 => [4]
  | 12 => [4]
  | 13 => [4, 28]
  | 14 => [13, 16, 1]
  | 15 => [13, 16]
  | 16 => [2]
  | 27 => [16, 4]
  | 28 => [2]
  | _ => [16]

/-- The functions in an order in which each stands after those it requires. -/
def readyOrder : List Nat :=
  [0, 1, 2, 4, 3, 5, 6, 7, 8, 9, 10, 11, 12, 28, 16, 13, 14, 15, 17, 18, 19, 20, 21, 22, 23, 24, 25, 26, 27]

/-- One function in an update of the word `old` (R33): it rises only when every function it requires is ready, and it clears when one
of them clears. -/
def readyStep (old : Word32) (sets clears : List Nat) (w : Word32) (b : Nat) : Word32 :=
  let on :=
    if clears.contains b then false
    else if readyBit old b then (requires b).all (fun r => readyBit w r || !readyBit old r)
    else sets.contains b && (requires b).all (fun r => readyBit w r)
  if on then w ||| (1#32 <<< b) else w

/-- The word after an update that sets and clears the listed bits (R33, R534); bits 29–31 read 0 (R18). -/
def readyNext (old : Word32) (sets clears : List Nat) : Word32 := readyOrder.foldl (readyStep old sets clears) 0

/-- The bits in which two words differ, ascending. -/
def changedBits (a b : Word32) : List Nat :=
  (upTo 32).filter (fun i => readyBit a i != readyBit b i)

/-- Interrupt bits of IRQ_STATUS (R372). -/
abbrev Irq.rsp : Nat := 0
abbrev Irq.evt : Nat := 1
abbrev Irq.readyChange : Nat := 2
abbrev Irq.reqSpace : Nat := 3
abbrev Irq.protocol : Nat := 4
abbrev Irq.serverStart : Nat := 5
abbrev Irq.fbDone : Nat := 6
abbrev Irq.critical : Nat := 7

/-- The codes of R20. -/
def Status.code : Status → Nat
  | .done => 0x00
  | .doneClamped => 0x01
  | .accepted => 0x02
  | .deferred => 0x03
  | .notReady => 0x08
  | .functionOff => 0x09
  | .unknownOpcode => 0x10
  | .badLength => 0x11
  | .badFormat => 0x12
  | .tagInUse => 0x13
  | .notPermitted => 0x14
  | .peerHolds => 0x15
  | .nvBusy => 0x20
  | .nvFault => 0x21
  | .storeFull => 0x22
  | .abortedByReset => 0x30
  | .internalFault => 0x3F

/-- The states of a configuration set (R413). -/
def SetState.code : SetState → Nat
  | .empty => 0
  | .staging => 1
  | .incomplete => 2
  | .valid => 3
  | .active => 4
  | .damaged => 5

/-- The states of a firmware slot (R484). -/
def SlotState.code : SlotState → Nat
  | .empty => 0
  | .writing => 1
  | .written => 2
  | .verified => 3
  | .trial => 4
  | .active => 5
  | .previous => 6
  | .rejected => 7

/-- The slot state a code names; EMPTY for any other (R484). -/
def SlotState.ofCode : Nat → SlotState
  | 1 => .writing
  | 2 => .written
  | 3 => .verified
  | 4 => .trial
  | 5 => .active
  | 6 => .previous
  | 7 => .rejected
  | _ => .empty

/-- Meridian's state codes (R45): the order of R45's table. -/
def MerState.code : MerState → Nat
  | .deadReckoning => 1
  | .qualify => 2
  | .capture => 3
  | .relock => 4
  | .locked => 5

/-- The supply states (R521). -/
def SupplyState.code : SupplyState → Nat
  | .off => 0
  | .main => 1
  | .backup => 2
  | .holdup => 3

/-- The zone modes (R101). -/
def ZMode.code : ZMode → Nat
  | .holdSafe => 0
  | .auto => 1
  | .manual => 2
  | .maintenance => 3
  | .sounding => 4

/-- The mode a code of R101 names. -/
def ZMode.ofCode : Nat → Option ZMode
  | 0 => some .holdSafe
  | 1 => some .auto
  | 2 => some .manual
  | 3 => some .maintenance
  | 4 => some .sounding
  | _ => none

/-- The validity codes of R401. -/
def Validity.code : Validity → Nat
  | .valid => 0
  | .stale => 1
  | .fault => 2
  | .absent => 3

/-- The pair roles (R408, R494); 0 while the module is no member. -/
def PairRole.code : PairRole → Nat
  | .none => 0
  | .active => 1
  | .standby => 2
  | .electing => 3

/-- The partner states (R317). -/
def PState.code : PState → Nat
  | .free => 0
  | .provisional => 1
  | .identified => 2
  | .silent => 3
  | .wanted => 4

/-- The BACnet/SC states (R312). -/
def ScState.code : ScState → Nat
  | .idle => 0
  | .connectingPrimary => 1
  | .primary => 2
  | .connectingFailover => 3
  | .failover => 4

/-- The guard codes of R368. -/
def Guard.code : Guard → Nat
  | .released => 0
  | .frost => 1
  | .hot => 2

/-- The rights codes of R407. -/
def Rights.code : Rights → Nat
  | .none => 0
  | .basic => 1
  | .expert => 2

end Sys2Proof.Machine
end

