-- ==== Sys2Proof/Machine/Ops.lean ====
section
/-! DEFINITION. Machine/Ops.lean: the operations every command shares: time, configuration values, free values, the READY
update of R534, the Logbook queue of R461 and the event ring of R395–R398. -/

namespace Sys2Proof.Machine

/-! ### Time -/

/-- Cycles below `x` of a trim period that the trim marks (R544): `floor (k · 2^20 / n) < x` holds for
`ceil (x · n / 2^20)` values of `k`. -/
def trimMarks (n x : Nat) : Nat := (x * n + (grainsPerTurn - 1)) / grainsPerTurn

/-- Ticks counted over the crystal cycles `c0 … c1 − 1` of a trim period (R544). -/
def ticksOver (trim : Int) (c0 c1 : Nat) : Nat :=
  let m := trimMarks trim.natAbs c1 - trimMarks trim.natAbs c0
  if 0 < trim then (c1 - c0) + m else (c1 - c0) - m

/-- The Almanac after `n` crystal cycles, never past the end of the trim period (TRIM_PERIOD_START passes it) and
not past a commit that waits for its edge (ALMANAC_COMMIT_EDGE is that edge). A roll-over sets WRAPPED (R543). -/
def Almanac.advance (m : Almanac) (n : Nat) : Almanac :=
  if m.dead || m.pendingLo.isSome || m.alarm0.commit.isSome || m.alarm1.commit.isSome then m else
  let c1 := min (m.cycle + n) grainsPerTurn
  let total := m.count.toNat + ticksOver m.trim m.cycle c1
  { m with
    cycle := c1
    count := BitVec.ofNat 48 total
    wrapped := m.wrapped || decide (2 ^ 48 ≤ total)
    wrapOwed := m.wrapOwed || decide (2 ^ 48 ≤ total) }

/-- The stamp `n` grains later, never past the last grain of its turn (TURN_BOUNDARY passes it). -/
def stampAfter (x : Stamp) (n : Nat) : Stamp :=
  if x.grain + n < grainsPerTurn then x + BitVec.ofNat 64 n
  else mkStamp x.turn (grainsPerTurn - 1)

/-- Whether function `n` is ready. -/
def State.rdy (s : State) (n : Nat) : Bool := readyBit s.ready n

/-- The present stamp. On the internal RC it goes in steps of 8 grains, its low three bits 0, and never behind the last stamp of
the crystal (R39, R46; assumption 151). -/
def State.now (s : State) : Stamp :=
  if s.sen.crystal then s.mer.stamp
  else
    let x := s.mer.stamp &&& 0xFFFFFFFFFFFFFFF8#64
    if x < s.mer.rcFrom then s.mer.rcFrom else x

/-- Grains in a step of the stamp (R39). -/
def State.stampStep (s : State) : Nat := if s.sen.crystal then 1 else 8

/-- CONTROL and PARAM fields of a slot (R66). -/
def SlotWords.en (w : SlotWords) : Bool := w.control.getLsbD 31
def SlotWords.kind (w : SlotWords) : Nat := bitsOf w.control.toNat 28 3
def SlotWords.action (w : SlotWords) : Nat := bitsOf w.control.toNat 24 4
def SlotWords.div (w : SlotWords) : Nat := min 8 (bitsOf w.control.toNat 20 4)
def SlotWords.angle (w : SlotWords) : Nat := bitsOf w.control.toNat 0 20
def SlotWords.target (w : SlotWords) : Nat := bitsOf w.param.toNat 16 16
def SlotWords.arg (w : SlotWords) : Nat := bitsOf w.param.toNat 0 16

/-- EVERY of an EVERY_TURNS slot; 0 acts as 1 (R66). -/
def SlotWords.every (w : SlotWords) : Nat := max 1 (bitsOf w.when.toNat 0 16)

/-- The greatest number ≤ `x` that is `r` modulo `m`; none where there is none. -/
def lastCongruent (x m r : Nat) : Option Nat :=
  let back := (x + m - r % m) % m
  if back ≤ x then some (x - back) else none

/-- The latest due stamp of an armed slot at or before stamp `x` (R66, R70). -/
def SlotWords.lastDue (w : SlotWords) (x : Stamp) : Option Nat :=
  if !w.en then none else
  match w.kind with
  | 0 =>
    if x.grain < w.angle && x.turn == 0 then none
    else (lastCongruent (if x.grain < w.angle then x.turn - 1 else x.turn) w.every (bitsOf w.when.toNat 16 16)).map
      (fun n => n * grainsPerTurn + w.angle)
  | 1 => lastCongruent x.toNat (2 ^ (20 - w.div)) w.angle
  | 2 => if w.when.toNat ≤ x.toNat then some w.when.toNat else none
  | _ => none

/-- A slot falls due at the first stamp at or after its due stamp, once (R70): a due stamp lies behind `x` that its last firing, or the
boundary at which its words took effect, does not cover. A ONE_SHOT is disarmed by its firing (R66). -/
def EvSlot.dueBy (e : EvSlot) (x : Stamp) : Bool :=
  match e.words.lastDue x with
  | some d => e.words.kind == 2 || decide (e.firedAt.toNat < d)
  | none => false

/-- Grains from stamp `x` to the next due stamp of an armed slot within the turn; none where no other is due in it. -/
def SlotWords.grainsToDue (w : SlotWords) (x : Stamp) : Option Nat :=
  if !w.en then none else
  match w.kind with
  | 0 => if x.grain < w.angle && x.turn % w.every == bitsOf w.when.toNat 16 16 % w.every then some (w.angle - x.grain) else none
  | 1 =>
    let p := 2 ^ (20 - w.div)
    some (p - (x.grain + p - w.angle % p) % p)
  | 2 => if x.toNat < w.when.toNat then some (w.when.toNat - x.toNat) else none
  | _ => none

/-- Grains that angle time may run before a slot fires, out of `n`: no grain is left out of the comparison with the slots (R46, R70), so
time waits for the firing of each that is due; on the RC up to the stamp's next step. -/
def EvSlot.span (step : Nat) (x shown : Stamp) (n : Nat) (e : EvSlot) : Nat :=
  if e.dueBy shown then 0
  else match e.words.grainsToDue x with
    | some k => min n (k + (step - (x.grain + k) % step) % step)
    | none => n

/-- Grains by which a command `n` grains later moves angle time. -/
def State.grainsTo (s : State) (n : Nat) : Nat :=
  s.mer.slots.foldl (fun m p => p.2.span s.stampStep s.mer.stamp s.now m) n

/-- The state when a command comes `a` after the one before it. Angle time runs only while MERIDIAN is set, and passes neither the end
of its turn nor a slot that is due; before T0 is assigned the angle counts from Binnacle start (R46, R57). -/
def State.advance (a : At) (s : State) : State :=
  { s with
    clock := s.clock + a.micros
    alm := s.alm.advance a.ticks
    mer := if s.rdy Rdy.meridian then { s.mer with stamp := stampAfter s.mer.stamp (s.grainsTo a.grains) }
      else if s.rdy Rdy.binnacle then { s.mer with early := s.mer.early + a.grains } else s.mer }

/-- The present turn count. -/
def State.turn (s : State) : Nat := s.mer.stamp.turn

/-- The present grain. -/
def State.grain (s : State) : Nat := s.mer.stamp.grain

/-- Whole turns from stamp `x` to now. -/
def State.turnsSince (s : State) (x : Stamp) : Nat := (s.mer.stamp.toNat - x.toNat) / grainsPerTurn

/-- Whether more than `n` turns have passed since stamp `x` (R93, R184, R327). -/
def State.olderThan (s : State) (x : Stamp) (n : Nat) : Bool :=
  decide (n * grainsPerTurn < s.mer.stamp.toNat - x.toNat)

/-- The supplies feed the module: it is not OFF (R521). -/
def State.powered (s : State) : Bool := s.sup.state != .off

/-! ### Configuration values -/

/-- The raw value in force of a field at an INDEX (R424, R430): the applied one, else the default. -/
def Cfg.raw (c : Cfg) (id idx : Nat) : Nat :=
  match c.values.get (id * 65536 + idx) with
  | some w => w.toNat
  | none => defaultOf id idx

/-- A field's value as an unsigned number. -/
def State.cfgN (s : State) (id : Nat) (idx : Nat := 0) : Nat := s.cfg.raw id idx

/-- A field's value as a signed number of its own width (R418). -/
def State.cfgI (s : State) (id : Nat) (idx : Nat := 0) : Int :=
  let w := match fieldRow id with
    | some r => 8 * r.size
    | none => 32
  sext w (s.cfg.raw id idx)

/-- A field's value as a 32-bit pattern (binary32 and descriptors). -/
def State.cfgW (s : State) (id : Nat) (idx : Nat := 0) : Word32 := BitVec.ofNat 32 (s.cfg.raw id idx)

/-- A field of a channel as its group's parameter block holds it (R247, R266). -/
def State.fcN (s : State) (id n : Nat) : Nat :=
  match (s.fld.groups.get (n / 8)).block.get (id * 65536 + n) with
  | some w => w.toNat
  | none => defaultOf id n

/-- A field of a group as its parameter block holds it. -/
def State.fgN (s : State) (id g : Nat) : Nat :=
  match (s.fld.groups.get g).block.get (id * 65536 + g) with
  | some w => w.toNat
  | none => defaultOf id g

/-- Grains in a time of `ps` picoseconds at the present angle rate. -/
def State.grainsIn (s : State) (ps : Nat) : Nat := ps * s.mer.rate * grainsPerTurn / 10 ^ 18

/-- Kind of a descriptor (R87). -/
def descKind (d : Nat) : Nat := bitsOf d 28 4

/-- Scaler of a descriptor (R87). -/
def descScaler (d : Nat) : Nat := bitsOf d 22 6

/-- Object of a descriptor (R87). -/
def descIndex (d : Nat) : Nat := bitsOf d 0 16

/-- Dimensions of a zone (R75, R76). -/
def State.nx (s : State) (z : Nat) : Nat := s.cfgN Fid.ZONE_NX z
def State.nu (s : State) (z : Nat) : Nat := s.cfgN Fid.ZONE_NU z
def State.ny (s : State) (z : Nat) : Nat := s.cfgN Fid.ZONE_NY z
def State.nd (s : State) (z : Nat) : Nat := s.cfgN Fid.ZONE_ND z

/-- A zone is present when NX ≥ 1 in the active configuration (R76). -/
def State.present (s : State) (z : Nat) : Bool := decide (1 ≤ s.nx z)

/-- INDEX values at which a field is listed with a value other than its default, ascending. -/
def Cfg.listed (c : Cfg) (id : Nat) : List Nat :=
  (c.values.filter (fun p => p.1 / 65536 == id)).map (fun p => p.1 % 65536)

/-- The present zones, ascending: ZONE_NX is 0 by default, so only listed ones can be present. -/
def State.zonesPresent (s : State) : List Nat := (s.cfg.listed Fid.ZONE_NX).filter s.present

/-! ### Free values -/

/-- A value the specification leaves open: nothing constrains it (assumption 3). -/
def State.freeNow (s : State) : Word32 := Config.freeWord s.free

/-- Move on to the next free value. -/
def State.freeNext (s : State) : State := { s with free := s.free + 1 }

/-! ### Interrupts, READY and records -/

/-- Set a bit of IRQ_STATUS (R372). -/
def State.irq (n : Nat) (s : State) : State := { s with mb.irqStatus := s.mb.irqStatus ||| bitMask [n] }

/-- HOST_IRQ_N is driven low while IRQ_STATUS AND IRQ_ENABLE is non-zero (R373). -/
def State.hostIrqLow (s : State) : Bool := s.mb.irqStatus &&& s.mb.irqEnable != 0

/-- The queue of R461 with a record more: a full queue loses the newest record of a lower SEVERITY, or the arriving
one, and counts it (R462). -/
def Logbook.push (l : Logbook) (r : LogRec) : Logbook :=
  if l.queue.length < 256 then { l with queue := l.queue ++ [r] }
  else match (l.queue.reverse.zipIdx).find? (fun p => decide (p.1.severity < r.severity)) with
    | some (gone, i) =>
      { l with
        queue := (l.queue.reverse.eraseIdx i).reverse ++ [r]
        lost := l.lost + 1
        lostSeverity := max l.lostSeverity gone.severity }
    | none => { l with lost := l.lost + 1, lostSeverity := max l.lostSeverity r.severity }

/-- TICKS of a record raised now: the count; the locked count advanced in HOLDUP (R552); none while ALMANAC is clear. -/
def State.recordTicks (s : State) : Option Nat :=
  if s.sup.state = .holdup then
    s.alm.lockCount.map (fun c => c + (s.clock - s.alm.lockClock) * 32768 / 1000000)
  else if s.rdy Rdy.almanac then some s.alm.count.toNat
  else none

/-- Raise a Logbook record (R459, R461): its TICKS and STAMP are those of the event. `posts` says whether its chapter
marks it as posting an event-ring entry. -/
def State.record (src sev code : Nat) (payload : List Byte) (posts : Bool) (target : Nat) (s : State) : State :=
  let r : LogRec :=
    { source := src, severity := sev, code := code
      flags := if s.recordTicks.isSome then 0 else 4
      ticks := (s.recordTicks.getD 0) % 2 ^ 48
      stamp := s.now, target := target, posts := posts, payload := payload }
  { s with log := s.log.push r }

/-- Raise a record that posts an entry exactly from SEVERITY 3 (most chapters' rule). -/
def State.record3 (src sev code : Nat) (payload : List Byte) (target : Nat) (s : State) : State :=
  s.record src sev code payload (decide (3 ≤ sev)) target

/-- The E001h or E002h record of one changed bit (R534, R487). -/
def State.readyRecord (w : Word32) (b : Nat) (s : State) : State :=
  if readyBit w b then s.record b 1 0xE001 (le 4 w.toNat) false 0
  else s.record b 2 0xE002 (le 4 w.toNat) false 0

/-- One update of the READY word (R534): it changes as one word, under R33; READY_CHANGE sets once, and each
changed bit writes its record in ascending order. -/
def State.updateReady (sets clears : List Nat) (s : State) : State :=
  let w := readyNext s.ready sets clears
  if w = s.ready then s else
  let s1 := State.irq Irq.readyChange { s with ready := w }
  (changedBits s.ready w).foldl (fun t b => t.readyRecord w b) s1

/-! ### The event ring -/

/-- An event entry before it has a place (R395). -/
structure EvEntry where
  source : Nat := 0
  severity : Nat := 0
  code : Nat := 0
  logSeq : Option Nat := none
  lost : Bool := false
  stamp : Stamp := 0
  target : Nat := 0
  payload : List Byte := []
  deriving DecidableEq, Repr, Inhabited

/-- The 64 bytes of an entry (R395). -/
def EvEntry.bytes (e : EvEntry) (seq : Nat) : List Byte :=
  let body := le 4 seq ++ le 1 e.source ++ le 1 e.severity ++ le 2 e.code ++
    le 2 (bit e.logSeq.isSome + 2 * bit e.lost) ++ le 6 (e.logSeq.getD 0) ++ le 8 e.stamp.toNat ++
    le 4 e.target ++ padTo 32 e.payload
  body ++ le 4 (crc32c body)

/-- The event SEQ after `q`: it skips 0 (R395). -/
def nextEventSeq (q : Word32) : Word32 := if q + 1 = 0 then 1 else q + 1

/-- Put an entry into the ring (R378, R395): EVT_PROD advances and EVT sets. -/
def State.putEvent (e : EvEntry) (s : State) : State :=
  let seq := nextEventSeq s.mb.evtSeq
  State.irq Irq.evt
    { s with
      mb.mem := s.mb.mem.writeBytes (0x300000 + s.mb.evtProd.toNat % 1024 * 64) (e.bytes seq.toNat)
      mb.evtProd := s.mb.evtProd + 1
      mb.evtSeq := seq
      mb.evtPosted := min 1024 (s.mb.evtPosted + 1) }

/-- Places free in the ring for a consumer (R398); without one the newest entry overwrites the oldest. -/
def State.eventRoom (s : State) : Nat :=
  if s.cfgN Fid.EVT_CONSUMER = 1 then 1024 - (s.mb.evtProd - s.mb.evtCons).toNat else 1024

/-- Drop an entry and count it in EVT_LOST (R398). -/
def State.dropEvent (s : State) : State :=
  { s with
    mb.evtLost := if s.mb.evtLost = 0xFFFFFFFF then s.mb.evtLost else s.mb.evtLost + 1
    mb.evtDroppedRun := s.mb.evtDroppedRun + 1
    mb.evtDroppedAll := s.mb.evtDroppedAll + 1 }

/-- The EVENTS_LOST entry of R397, and the record 0306h of R412 that goes with it. -/
def State.putEventsLost (s : State) : State :=
  let n := s.mb.evtDroppedRun
  let s1 := s.putEvent { source := 16, severity := 2, code := 0xF002, stamp := s.now, payload := le 4 n }
  State.record 16 2 0x0306 (le 4 n) false 0 { s1 with mb.evtDroppedRun := 0 }

/-- Post an event entry (R396, R398). -/
def State.postEvent (e : EvEntry) (s : State) : State :=
  if 0 < s.mb.evtDroppedRun then
    if 2 ≤ s.eventRoom then (s.putEventsLost).putEvent { e with lost := true } else s.dropEvent
  else if s.eventRoom = 0 then s.dropEvent
  else s.putEvent e

/-! ### Small helpers -/

/-- Apply `f` when `c` holds. -/
def State.when (c : Bool) (f : State → State) (s : State) : State := if c then f s else s

/-- Fold a list of commands' effects over a state. -/
def State.each {α : Type} (xs : List α) (f : α → State → State) (s : State) : State :=
  xs.foldl (fun t x => f x t) s

end Sys2Proof.Machine
end

