-- ==== Sys2Proof/Machine/Store.lean ====
section
/-! DEFINITION. Machine/Store.lean: the MRAM, the page journal, the record layer and the sheaf counters as shared operations
(R27, R435–R455). -/

namespace Sys2Proof.Machine

/-! ### Pages and the journal -/

/-- The 256 bytes of a page (R435). -/
def Nv.page (n : Nv) (p : Nat) : List Byte := n.mem.readBytes (p * 256) 256

/-- Write bytes at an address; a rewritten word reads clean again (R437). -/
def Nv.write (n : Nv) (a : Nat) (bs : List Byte) : Nv :=
  { n with
    mem := n.mem.writeBytes a bs
    badWords := n.badWords.filter (fun w => decide (w * 8 + 8 ≤ a) || decide (a + bs.length ≤ w * 8)) }

/-- The 8-byte words among `bs` that are uncorrectable (R437). -/
def Nv.badIn (n : Nv) (a len : Nat) : List Nat :=
  n.badWords.filter (fun w => decide (a < w * 8 + 8) && decide (w * 8 < a + len))

/-- Owner partition of a page: its place in the table of R27, counted from 0. -/
def partitionOf (p : Nat) : Nat :=
  if p < 0x2800 then 0 else if p < 0x5000 then 1 else if p < 0x5400 then 2 else if p < 0x6400 then 3
  else if p < 0x6C00 then 4 else if p < 0x7400 then 5 else if p < 0x7600 then 6 else if p < 0x7640 then 7
  else if p < 0x7650 then 8 else if p < 0x7750 then 9 else 10

/-- Partitions a journaled operation may write: all but the sheaf counters, the journal, manufacturing and the reserved
space (R27, R440). -/
def pageWritable (p : Nat) : Bool := [0, 1, 2, 3, 4, 5, 7].contains (partitionOf p)

/-- Bytes 0–5 of a commit word (R439). -/
def commitLow (seq page state : Nat) : List Byte := le 6 (state + page * 2 ^ 17 + seq * 2 ^ 32)

/-- The 8 bytes of a commit word: CHECK covers bytes 0–5 with STATE 00b and the slot (R439). -/
def commitWord (seq page state : Nat) (slot : List Byte) : List Byte :=
  commitLow seq page state ++ le 2 (crc32c (commitLow seq page 0 ++ slot) % 65536)

/-- Address of data slot `k` and of commit word `k` (R439). -/
def slotAddr (k : Nat) : Nat := 0x764000 + (k + 1) * 256
def commitAddr (k : Nat) : Nat := 0x764000 + k * 8

/-- Step 2 of R440: the data into slot SEQ mod 15. -/
def Nv.jrnSlot (n : Nv) (data : List Byte) : Nv :=
  let seq := n.journalSeq + 1
  { n.write (slotAddr (seq.toNat % 15)) data with journalSeq := seq }

/-- Steps 3 and 5 of R440: the commit word of the operation just slotted. -/
def Nv.jrnCommit (n : Nv) (page state : Nat) (data : List Byte) : Nv :=
  n.write (commitAddr (n.journalSeq.toNat % 15)) (commitWord n.journalSeq.toNat page state data)

/-- A whole journaled page operation, steps 2–5 of R440. -/
def Nv.journal (n : Nv) (page : Nat) (data : List Byte) : Nv :=
  let d := padTo 256 data
  (((n.jrnSlot d).jrnCommit page 1 d).write (page * 256) d).jrnCommit page 2 d

/-- Pages that `len` bytes at an address touch. -/
def pagesOf (a len : Nat) : List Nat :=
  if len = 0 then [] else (upTo ((a + len - 1) / 256 - a / 256 + 1)).map (fun i => a / 256 + i)

/-- Write bytes through journaled operations, each page read, changed and written whole. -/
def Nv.storeBytes (n : Nv) (a : Nat) (bs : List Byte) : Nv :=
  let m := n.mem.writeBytes a bs
  (pagesOf a bs.length).foldl (fun t p => t.journal p (m.readBytes (p * 256) 256)) n

/-- Add a page operation to those waiting (R442). -/
def Nv.queuePage (n : Nv) (prio page : Nat) (data : List Byte) : Nv :=
  { n with queue := n.queue ++ [{ prio := prio, page := page, data := data }] }

/-- The waiting operation that is served next: the first of the lowest priority number (R442). -/
def Nv.nextOp (n : Nv) : Option PageOp :=
  n.queue.foldl (fun best o => match best with
    | none => some o
    | some b => if o.prio < b.prio then some o else some b) none

/-! ### Records -/

/-- First address of the record store (R27). -/
def recordBase : Nat := 0x6C0000

/-- Pages of a record with `len` payload bytes (R445). -/
def recordPages (len : Nat) : Nat := (36 + len + 255) / 256

/-- Bytes of a record, padded to whole pages (R445). -/
def recordBytes (r : RecInfo) (payload : List Byte) : List Byte :=
  let h := le 2 0x5243 ++ le 1 r.flags ++ le 1 r.pages ++ le 2 r.typ ++ le 2 r.key ++ le 4 r.seq ++ le 4 r.logseq ++
    le 2 r.length ++ le 2 0 ++ le 4 r.setGen ++ le 4 0
  padTo (r.pages * 256) (h ++ le 4 (crc32c h) ++ payload ++ le 4 (crc32c payload))

/-- Whether `b` is preferred to `a` as the record in force (R446). -/
def recNewer (a b : RecInfo) : Bool :=
  newer 32 b.seq a.seq || (a.seq == b.seq && newer 32 b.logseq a.logseq)

/-- The record in force of a TYPE and KEY, DELETED or not (R446). -/
def Nv.inForceRaw (n : Nv) (typ key : Nat) : Option RecInfo :=
  (n.index.filter (fun r => r.typ == typ && r.key == key)).foldl (fun best r => match best with
    | none => some r
    | some b => if recNewer b r then some r else some b) none

/-- The object of a TYPE and KEY: absent when the record in force is DELETED (R446). -/
def Nv.inForce (n : Nv) (typ key : Nat) : Option RecInfo :=
  match n.inForceRaw typ key with
  | some r => if bitOf r.flags 2 then none else some r
  | none => none

/-- Payload of a record (R445). -/
def Nv.payload (n : Nv) (r : RecInfo) : List Byte := n.mem.readBytes (recordBase + r.page * 256 + 32) r.length

/-- Payload of the object of a TYPE and KEY, if there is one. -/
def Nv.load (n : Nv) (typ key : Nat) : Option (List Byte) := (n.inForce typ key).map n.payload

/-- KEY and SEQ pairs that a set's commit record lists: 2 and 4 bytes each (R449; assumption 12). -/
def membersOf : List Byte → List (Nat × Nat)
  | b0 :: b1 :: b2 :: b3 :: b4 :: b5 :: rest => (leNat [b0, b1], leNat [b2, b3, b4, b5]) :: membersOf rest
  | _ => []

/-- Members that the commit record in force of a set type lists. -/
def Nv.members (n : Nv) (typ : Nat) : List (Nat × Nat) :=
  match n.load typ 0xFFFF with
  | some p => membersOf p
  | none => []

/-- The types whose objects are sets (R450). -/
def isSetType (typ : Nat) : Bool := typ == 0x0005 || typ == 0x0010

/-- Whether an indexed record is in use (R448, R449). A set member is in use while the commit record in force lists it or
while it is newer than the listed one. -/
def Nv.inUse (n : Nv) (r : RecInfo) : Bool :=
  if isSetType r.typ && r.key != 0xFFFF then
    match (n.members r.typ).find? (fun m => m.1 == r.key) with
    | some m => m.2 == r.seq || newer 32 r.seq m.2
    | none => n.inForceRaw r.typ r.key == some r
  else if n.inForceRaw r.typ r.key == some r then
    !bitOf r.flags 2 || n.index.any (fun o => o.typ == r.typ && o.key == r.key && o != r)
  else false

/-- Page runs in use or promised. -/
def Nv.usedRuns (n : Nv) : List (Nat × Nat) :=
  (n.index.filter n.inUse ++ n.reserved).map (fun r => (r.page, r.pages))

/-- Pages free (R448, R451): the partition has 2 048. -/
def Nv.freePages (n : Nv) : Nat := 2048 - (n.usedRuns.map (fun r => r.2)).sum

/-- Whether a run of pages is free. -/
def Nv.runFree (n : Nv) (p len : Nat) : Bool :=
  decide (p + len ≤ 2048) && n.usedRuns.all (fun r => decide (p + len ≤ r.1) || decide (r.1 + r.2 ≤ p))

/-- The page after the record with the newest LOGSEQ (R448). -/
def Nv.searchFrom (n : Nv) : Nat :=
  match n.index.foldl (fun best r => match best with
      | none => some r
      | some b => if newer 32 r.logseq b.logseq then some r else some b) (none : Option RecInfo) with
  | some r => (r.page + r.pages) % 2048
  | none => 0

/-- The first free run at or after that page, wrapping at the end of the partition (R448). -/
def Nv.findRun (n : Nv) (len : Nat) : Option Nat :=
  let from_ := n.searchFrom
  ((upTo 2048).map (fun i => (from_ + i) % 2048)).find? (fun p => n.runFree p len)

/-- The ceiling of a type in pages, and whether it is counted over the whole type (R450). -/
def typeCeiling (typ : Nat) : Nat × Bool :=
  match typ with
  | 0x0001 => (1, false)
  | 0x0002 => (1, false)
  | 0x0003 => (3, false)
  | 0x0004 => (1, false)
  | 0x0005 => (256, true)
  | 0x0006 => (1, false)
  | 0x0007 => (17, false)
  | 0x0008 => (1, false)
  | 0x0010 => (1792, true)
  | 0x0011 => (4, false)
  | 0x0020 => (1280, true)
  | _ => (0, false)

/-- Pages of a type as it would stand after a write of KEY, without the pages of the write itself (R451): records in use, and those still
being written. -/
def Nv.typePages (n : Nv) (typ key : Nat) : Nat :=
  (((n.index.filter n.inUse ++ n.reserved).filter (fun r => r.typ == typ && (isSetType typ || r.key != key))).map (fun r => r.pages)).sum

/-- Whether the rules of R451 admit a record. -/
def Nv.admits (n : Nv) (q : SaveReq) : Bool :=
  let pages := recordPages q.payload.length
  let c := typeCeiling q.typ
  decide (q.payload.length ≤ 16348) &&
  (if c.2 then decide (n.typePages q.typ q.key + pages ≤ c.1) else decide (pages ≤ c.1)) &&
  (if q.typ ≤ 0x000F then decide (pages ≤ n.freePages) else decide (pages + 256 ≤ n.freePages))

/-- The newest record of a TYPE and KEY, in force or still being written. -/
def Nv.latest (n : Nv) (typ key : Nat) : Option RecInfo :=
  (n.reserved.filter (fun r => r.typ == typ && r.key == key)).foldl (fun best r => match best with
    | none => some r
    | some b => if recNewer b r then some r else some b) (n.inForceRaw typ key)

/-- The header a write of `q` at page `p` gets: SEQ one above the newest record of its TYPE and KEY, LOGSEQ the next of the partition
(R445). -/
def Nv.headerFor (n : Nv) (q : SaveReq) (p : Nat) : RecInfo :=
  { typ := q.typ, key := q.key
    seq := (match n.latest q.typ q.key with
      | some r => (r.seq + 1) % 2 ^ 32
      | none => 1)
    logseq := (n.logSeq + 1).toNat
    length := q.payload.length, pages := recordPages q.payload.length
    setGen := q.setGen, flags := q.flags, page := p }

/-- Page operations of a record: ascending, with the header page last (R447). -/
def recordOps (r : RecInfo) (payload : List Byte) : List (Nat × List Byte) :=
  let bs := recordBytes r payload
  let ops := (upTo r.pages).map (fun i => (recordBase / 256 + r.page + i, (bs.drop (i * 256)).take 256))
  ops.drop 1 ++ ops.take 1

/-- Index a record whose header page has just committed; records its pages overlap are gone. -/
def Nv.indexRec (n : Nv) (r : RecInfo) : Nv :=
  { n with
    index := n.index.filter (fun o => decide (o.page + o.pages ≤ r.page) || decide (r.page + r.pages ≤ o.page)) ++ [r]
    logSeq := BitVec.ofNat 32 r.logseq }

/-- Write a record at once through its journaled operations. -/
def Nv.putAt (n : Nv) (q : SaveReq) (p : Nat) : Nv :=
  let r := n.headerFor q p
  ((recordOps r q.payload).foldl (fun t o => t.journal o.1 o.2) n).indexRec r

/-- One move of the compaction of R448: the lowest record in use that fits a free run below it, or, failing that, into any
free run, is copied there, keeping its SEQ. -/
def Nv.compactStep (n : Nv) : Option Nv :=
  let recs := (n.index.filter n.inUse).filterMap (fun r =>
    ((upTo 2048).find? (fun p => decide (p < r.page) && n.runFree p r.pages)).map (fun p => (r, p)))
  match recs with
  | [] => none
  | (r, p) :: _ =>
    let r' := { r with page := p, logseq := (n.logSeq + 1).toNat }
    let m := (recordOps r' (n.payload r)).foldl (fun t o => t.journal o.1 o.2) n
    some ({ m with index := m.index.filter (fun o => o != r) }.indexRec r')

/-- Compaction until a run of `len` pages exists or nothing moves any more (R448); `fuel` bounds the moves. -/
def Nv.compact : Nat → Nat → Nv → Nv
  | 0, _, n => n
  | fuel + 1, len, n =>
    if (n.findRun len).isSome then n else
    match n.compactStep with
    | some m => Nv.compact fuel len m
    | none => n

/-- Pages of the store's place for a record, compacting first when no run is long enough (R448). -/
def Nv.place (n : Nv) (len : Nat) : Nv × Option Nat :=
  match n.findRun len with
  | some p => (n, some p)
  | none => let m := n.compact 2048 len; (m, m.findRun len)

/-- ECC_UNCORRECTABLE of every word of a range that a read finds uncorrectable (R437, R458). -/
def State.unread (a len : Nat) (s : State) : State :=
  State.each (s.nv.badIn a len) (fun w t => t.record3 2 4 0x0003 (le 2 (w / 32) ++ le 1 (w % 32) ++ le 1 (partitionOf (w / 32))) 0) s

/-- The STORE_FULL record of R458. -/
def State.storeFullRecord (q : SaveReq) (s : State) : State :=
  s.record3 2 3 0x0005 (le 2 q.typ ++ le 2 (recordPages q.payload.length) ++ le 2 s.nv.freePages) 0

/-- A store write a mailbox operation makes before it answers (R443, R451): NV_BUSY without the NV-good condition,
STORE_FULL where R451 refuses, else the record stands. -/
def State.saveNow (q : SaveReq) (s : State) : Status × State :=
  if !s.nv.good then (.nvBusy, s)
  else if !s.nv.admits q then (.storeFull, s.storeFullRecord q)
  else match s.nv.place (recordPages q.payload.length) with
    | (n, some p) => (.done, { s with nv := n.putAt q p })
    | (n, none) => (.storeFull, State.storeFullRecord q { s with nv := n })

/-- An internal write waits for RECORD_WRITE (R443); a later write of the same object replaces one that waits. -/
def State.save (q : SaveReq) (s : State) : State :=
  { s with nv.saves := s.nv.saves.filter (fun o => !(o.typ == q.typ && o.key == q.key)) ++ [q] }

/-- Discard an object: a DELETED record (R446), when it has one. -/
def State.forget (typ key : Nat) (s : State) : State :=
  let s1 := { s with nv.saves := s.nv.saves.filter (fun o => !(o.typ == typ && o.key == key)) }
  if (s.nv.inForce typ key).isSome then s1.save { typ := typ, key := key, flags := 4 } else s1

/-! ### Sheaf counters -/

/-- Bytes of a cell (R452). -/
def cellBytes (value cseq : Nat) : List Byte :=
  let body := le 6 value ++ le 1 cseq ++ le 7 0
  body ++ le 2 (crc16 body)

/-- Address of a cell (R452). -/
def cellAddr (n c : Nat) : Nat := 0x740000 + n * 128 + c * 16

/-- A valid cell's VALUE and CSEQ (R452): a cell never written is not valid. -/
def Nv.cell (v : Nv) (n c : Nat) : Option (Nat × Nat) :=
  let bs := v.mem.readBytes (cellAddr n c) 16
  if (v.badIn (cellAddr n c) 16).isEmpty && crc16 (bs.take 14) == fieldAt bs 14 2 && !allZero bs then
    some (fieldAt bs 0 6, fieldAt bs 6 1)
  else none

/-- The newest valid cell: the largest VALUE, then the newer CSEQ (R453), with its place. -/
def Nv.newestCell (v : Nv) (n : Nat) : Option (Nat × Nat × Nat) :=
  (upTo 8).foldl (fun best c => match v.cell n c, best with
    | none, _ => best
    | some x, none => some (c, x)
    | some x, some (c', y) =>
      if y.1 < x.1 then some (c, x) else if x.1 == y.1 && newer 8 x.2 y.2 then some (c, x) else some (c', y)) none

/-- The value of a counter (R453). -/
def Nv.sheafValue (v : Nv) (n : Nat) : Nat :=
  match v.newestCell n with
  | some (_, x) => x.1
  | none => 0

/-- The cell an addition writes (R453): place and bytes; none where the value would not change. -/
def Nv.sheafCell (v : Nv) (n a : Nat) : Option (Nat × List Byte) :=
  let (i, val, cs) := match v.newestCell n with
    | some (c, x) => (c, x.1, x.2)
    | none => (7, 0, 0)
  let val' := min (val + a) 0xFFFFFFFFFFFF
  if val' = val then none else some ((i + 1) % 8, cellBytes val' ((cs + 1) % 256))

/-- An addition that waits for SHEAF_ADDITION; additions to one counter add together (R453). -/
def State.count (n a : Nat) (s : State) : State := { s with nv.sheaf := s.nv.sheaf.upd n (· + a) }

/-- The value SHEAF_READ gives: additions still waiting are not yet in it (R453). -/
def State.sheafValue (n : Nat) (s : State) : Nat := s.nv.sheafValue n

end Sys2Proof.Machine
end

