-- ==== Sys2Proof/Machine/Server.lean ====
section
/-! DEFINITION. Machine/Server.lean: what every mailbox operation shares: sessions and rights (R370, R389), the checks of R21
after the header, tags in flight (R381), responses and their posting order (R382–R385), interim answers and COMPLETED
(R386, R387). -/

namespace Sys2Proof.Machine

/-! ### Messages -/

/-- The 32-byte header and the payload of a message, with its CRC (R375). -/
def message (flags tag cls opcode status fn seq target : Nat) (stamp : Stamp) (payload : List Byte) : List Byte :=
  let h := le 2 0x4D4A ++ le 1 1 ++ le 1 flags ++ le 1 tag ++ le 1 cls ++ le 2 opcode ++ le 2 payload.length ++
    le 1 status ++ le 1 fn ++ le 4 seq ++ le 4 target ++ le 8 stamp.toNat
  h ++ le 4 (crc32c (h ++ payload)) ++ payload

/-- The response message of a completed flight (R375). -/
def Flight.bytes (f : Flight) (r : Resp) : List Byte :=
  message 1 f.tag f.cls f.opcode r.status.code f.fn f.seq f.target r.stamp r.payload

/-! ### Sessions -/

/-- Sessions 2 and 3 are Binnacle's; all others are the SC0 server's (R370). -/
def binnacleSide (n : Nat) : Bool := n == 2 || n == 3

/-- Whether the server of a session serves now (R370). -/
def State.serverUp (s : State) (n : Nat) : Bool := if binnacleSide n then s.rdy Rdy.binnacle else s.rdy Rdy.services

/-- Largest LENGTH of a session's transport (R370). -/
def lengthLimit (n : Nat) : Nat := if 16 ≤ n then 1404 else 4064

/-- The UDP session of a number, if open (R391). -/
def State.udpSession (s : State) (n : Nat) : Option UdpSession := s.tr.udp.find? (fun u => u.id == n)

/-- Whether a session exists and its server serves now (R370, R391). -/
def State.serves (s : State) (n : Nat) : Bool :=
  s.serverUp n && (n == 1 || binnacleSide n || (s.udpSession n).isSome)

/-- A session's rights and keys. -/
def State.session (s : State) (n : Nat) : Session :=
  if n = 1 then s.mb.qspi else if n = 2 then s.mb.fallback else if n = 3 then s.mb.uart
  else match s.udpSession n with
    | some u => u.ses
    | none => {}

/-- Change a session. -/
def State.setSession (n : Nat) (x : Session) (s : State) : State :=
  if n = 1 then { s with mb.qspi := x } else if n = 2 then { s with mb.fallback := x }
  else if n = 3 then { s with mb.uart := x }
  else { s with tr.udp := s.tr.udp.map (fun u => if u.id == n then { u with ses := x } else u) }

/-- Rights at the start of a session (R389). -/
def State.startRights (s : State) (n : Nat) : Rights :=
  if n = 1 || n = 2 then (if s.cfgN Fid.SEC_QSPI_AUTH = 0 then .expert else .none)
  else if n = 3 then (if s.cfgN Fid.SEC_UART_AUTH = 0 then .expert else .none)
  else .none

/-- The rights a session holds (R389). -/
def State.rights (s : State) (n : Nat) : Rights := ((s.session n).proven).getD (s.startRights n)

/-- The module is the standby of a pair, or ELECTING (R505). -/
def State.peerHolds (s : State) : Bool := s.pair.role == .standby || s.pair.role == .electing

/-- A tag is in flight on its session (R381). -/
def State.inFlight (s : State) (n tag : Nat) : Bool :=
  s.mb.flights.any (fun f => f.session == n && f.tag == tag && !f.rejected)

/-- A BARRIER of the session has not completed: the server accepts none of its later requests (R385). -/
def State.barred (s : State) (n : Nat) : Bool :=
  s.mb.flights.any (fun f => f.session == n && f.cls == 5 && f.opcode == 1 && f.resp.isNone)

/-! ### What an operation is -/

/-- One row of the opcode tables: R21's checks of the operation and what it does. `body` answers at once or, with `none`,
leaves the answer to a later command. -/
structure OpDef where
  cls : Nat
  opcode : Nat
  /-- the FUNCTION bytes the opcode table gives -/
  fns : List Nat
  /-- step 5 -/
  len : Nat → Bool
  /-- step 5 where LENGTH depends on a count in the payload (R125, R556) -/
  fits : Req → Bool := fun _ => true
  /-- step 6 after FUNCTION: TARGET and payload -/
  content : State → Req → Bool := fun _ _ => true
  /-- needs EXPERT (X) -/
  expert : State → Req → Bool := fun _ _ => false
  /-- what the operation's own rules permit: NOT_PERMITTED otherwise -/
  permits : State → Req → Bool := fun _ _ => true
  /-- served without rights (R389) -/
  open_ : Bool := false
  /-- served on the fallback paths (F) -/
  fallback : Bool := false
  /-- answered PEER_HOLDS on the standby, and on the active from the acceptance of a handover (H; R505, R513) -/
  holds : Bool := false
  /-- step 10 -/
  off : State → Req → Bool := fun _ _ => false
  /-- step 11, inverted -/
  ready : State → Req → Bool := fun s r => s.rdy r.fn
  body : Req → State → State × Option Resp

/-- Steps 5 to 11 of R21, in order; `none` when the operation executes. -/
def OpDef.check (d : OpDef) (r : Req) (s : State) : Option Status :=
  if lengthLimit r.session < r.payload.length then some .badLength
  else if !d.len r.payload.length || !d.fits r then some .badLength
  else if !d.fns.contains r.fn || !d.content s r then some .badFormat
  else if s.inFlight r.session r.tag then some .tagInUse
  else if (binnacleSide r.session && !d.fallback) || (s.rights r.session == .none && !d.open_) ||
      (d.expert s r && s.rights r.session != .expert) || !d.permits s r then some .notPermitted
  else if d.holds && (s.peerHolds || s.pair.handover.isSome) then some .peerHolds
  else if d.off s r then some .functionOff
  else if !d.ready s r then some .notReady
  else none

/-! ### Flights -/

/-- A response whose payload the transport cannot carry is BAD_LENGTH (R370). -/
def Resp.fit (n : Nat) (x : Resp) : Resp :=
  if lengthLimit n < x.payload.length then { x with status := .badLength, payload := [] } else x

/-- A request accepted: its tag is in flight (R381). -/
def State.addFlight (d : OpDef) (r : Req) (s : State) : State :=
  { s with
    mb.orders := s.mb.orders + 1
    mb.flights := s.mb.flights ++ [{ session := r.session, tag := r.tag, cls := d.cls, opcode := d.opcode, fn := r.fn, seq := r.seq, target := r.target, order := s.mb.orders + 1 }] }

/-- A request rejected: its response waits for posting, its tag is not in flight. -/
def State.reject (cls opcode : Nat) (r : Req) (st : Status) (s : State) : State :=
  { s with
    mb.orders := s.mb.orders + 1
    mb.completions := s.mb.completions + 1
    mb.flights := s.mb.flights ++ [{ session := r.session, tag := r.tag, cls := cls, opcode := opcode, fn := r.fn, seq := r.seq, target := r.target, order := s.mb.orders + 1, completed := s.mb.completions + 1, rejected := true, resp := some { status := st, stamp := s.now } }] }

/-- Complete the flights that satisfy `p` with one response each. -/
def State.finishIf (p : Flight → Bool) (x : Resp) (s : State) : State :=
  { s with
    mb.completions := s.mb.completions + 1
    mb.flights := s.mb.flights.map (fun f =>
      if p f && f.resp.isNone && !f.rejected then
        { f with resp := some (x.fit f.session), completed := s.mb.completions + 1 }
      else f) }

/-- Complete the operation of a session and a tag. -/
def State.finish (n tag : Nat) (x : Resp) (s : State) : State :=
  s.finishIf (fun f => f.session == n && f.tag == tag) x

/-- Complete the operation a waiter stands for. -/
def State.answer (w : Option Waiter) (x : Resp) (s : State) : State :=
  match w with
  | some v => s.finish v.session v.tag x
  | none => s

/-- Who waits for a request's answer. -/
def Req.waiter (r : Req) : Waiter := { session := r.session, tag := r.tag }

/-- A response with the present stamp (R376). -/
def State.resp (s : State) (st : Status) (payload : List Byte := []) : Resp := { status := st, payload := payload, stamp := s.now }

/-- Answer DONE with a payload. -/
def State.ok (s : State) (payload : List Byte := []) : State × Option Resp := (s, some (s.resp .done payload))

/-- Answer a status without payload. -/
def State.fail (s : State) (st : Status) : State × Option Resp := (s, some (s.resp st))

/-- An answer of ACCEPTED or DEFERRED leaves an operation running (R386). -/
def State.addInterim (d : OpDef) (r : Req) (x : Resp) (s : State) : State :=
  if x.status = .accepted ∨ x.status = .deferred then
    { s with
      mb.interims := s.mb.interims ++ [{ session := r.session, tag := r.tag, cls := d.cls, opcode := d.opcode, fn := r.fn, seq := r.seq, target := r.target, payload := r.payload, isDeferred := decide (x.status = .deferred) }] }
  else s

/-- A STORE request accepted while a commit is between its record page and E waits until E (R422). -/
def whileFree (cls opcode : Nat) (body : Req → State → State × Option Resp) (r : Req) (s : State) : State × Option Resp :=
  if s.cfg.pending.any (fun p => !p.atStart) then
    ({ s with cfg.held := s.cfg.held ++ [{ session := r.session, tag := r.tag, cls := cls, opcode := opcode, fn := r.fn, seq := r.seq, target := r.target, payload := r.payload }] }, none)
  else body r s

/-- Run the operation of an accepted request. -/
def OpDef.run (d : OpDef) (r : Req) (s : State) : State :=
  match d.body r (s.addFlight d r) with
  | (t, none) => t
  | (t, some x) => (t.addInterim d r x).finish r.session r.tag x

/-- A mailbox request at its acceptance (R380, R21): rejected, or accepted and executed. It is not taken while its server does
not serve or a BARRIER holds its session. -/
def serve (d : OpDef) (r : Req) (s : State) : State :=
  if !s.serves r.session || s.barred r.session then s
  else match d.check r s with
    | some st => s.reject d.cls d.opcode r st
    | none => d.run r s

/-! ### BARRIER and posting -/

/-- A BARRIER whose earlier accepted requests on its server have all been posted (R385). -/
def State.barrierDone (s : State) (f : Flight) : Bool :=
  f.cls == 5 && f.opcode == 1 && s.mb.flights.all (fun g =>
    g.rejected || binnacleSide g.session != binnacleSide f.session || decide (f.order ≤ g.order))

/-- Complete every BARRIER whose wait is over. -/
def State.settle (s : State) : State :=
  let ready := s.mb.flights.filter (fun f => f.resp.isNone && s.barrierDone f)
  ready.foldl (fun t f => t.finish f.session f.tag (t.resp .done)) s

/-- The response a session posts next (R382, R384): the earliest completed that no earlier accepted request of the same
FUNCTION and TARGET holds back. -/
def State.nextPost (s : State) (n : Nat) : Option Flight :=
  (s.mb.flights.filter (fun f => f.session == n && f.resp.isSome && s.mb.flights.all (fun g =>
      !(g.session == n && g.fn == f.fn && g.target == f.target && decide (g.order < f.order))))).foldl
    (fun best f => match best with
      | none => some f
      | some b => if f.completed < b.completed then some f else some b) none

/-- Whether the session's transport can take a response now (R382). -/
def State.canPost (s : State) (n : Nat) : Bool :=
  s.serves n && (n != 1 || decide ((s.mb.rspProd - s.mb.rspCons).toNat < 256))

/-- Put a message into the response ring (R382). -/
def State.ringResponse (bs : List Byte) (s : State) : State :=
  State.irq Irq.rsp
    { s with
      mb.mem := s.mb.mem.writeBytes (0x200000 + s.mb.rspProd.toNat % 256 * 4096) bs
      mb.rspProd := s.mb.rspProd + 1 }

/-- Put a message into the fallback response buffer (R393). -/
def State.fbResponse (bs : List Byte) (s : State) : State :=
  State.irq Irq.fbDone
    { s with
      mb.mem := s.mb.mem.writeBytes 0x311000 bs
      mb.fbBusy := false
      mb.fbDone := true }

/-- A datagram of a UDP session: SESSION, the message and, but for SESSION_PROVE, the MAC (R391). -/
def udpDatagram (u : UdpSession) (mac : Bool) (bs : List Byte) : List Byte :=
  let body := le 4 u.id ++ bs
  if mac then body ++ hmacSha256 u.ses.sk body else body

/-- Send a UDP response and keep it for RETRY (R391, R392). -/
def State.udpResponse (u : UdpSession) (mac : Bool) (seq : Nat) (bs : List Byte) (s : State) : State :=
  { s with
    tr.udpTx := s.tr.udpTx ++ [(u.ip, u.port, udpDatagram u mac bs)]
    tr.udp := s.tr.udp.map (fun v =>
      if v.id == u.id then { v with responses := (v.responses ++ [(seq, udpDatagram u mac bs)]).rtake 64 } else v) }

/-- Send a response on its session's transport. -/
def State.send (f : Flight) (x : Resp) (s : State) : State :=
  let bs := f.bytes x
  if f.session = 1 then s.ringResponse bs
  else if f.session = 2 then s.fbResponse bs
  else if f.session = 3 then { s with tr.uartTx := (s.tr.uartTx ++ [bs]).rtake 4 }
  else match s.udpSession f.session with
    | some u => s.udpResponse u (!(f.cls == 5 && f.opcode == 4)) f.seq bs
    | none => s

/-- Post the next response of a session, when there is one and there is room: its tag leaves flight (R381, R382). -/
def State.postNext (n : Nat) (s : State) : State :=
  if !s.canPost n then s else
  match s.nextPost n with
  | none => s
  | some f => match f.resp with
    | none => s
    | some x => (State.send f x { s with mb.flights := s.mb.flights.filter (fun g => g.order != f.order) }).settle

/-! ### Ends of interim operations -/

/-- FATE of R387. -/
inductive Fate where
  | effect | replaced | discarded
  deriving DecidableEq, Repr, Inhabited

/-- Its code. -/
def Fate.code : Fate → Nat
  | .effect => 1
  | .replaced => 2
  | .discarded => 3

/-- The COMPLETED entry of R387. -/
def completedEntry (i : Interim) (fate : Fate) (status : Nat) (result : List Byte) (stamp : Stamp) : EvEntry :=
  { source := i.fn
    severity := if fate = .effect ∧ status ≤ 1 then 1 else 2
    code := 0xF001
    stamp := stamp
    target := i.target
    payload := le 4 i.seq ++ le 2 i.opcode ++ le 1 i.cls ++ le 1 i.tag ++ le 1 status ++ le 1 fate.code ++ le 2 0 ++
      le 4 i.session ++ padTo 16 result }

/-- STATUS of the entry: 03h when replaced, 30h when discarded, else the operation's own (R387). -/
def fateStatus (fate : Fate) (st : Status) : Nat :=
  match fate with
  | .effect => st.code
  | .replaced => 3
  | .discarded => 0x30

/-- End every interim operation that satisfies `p`: it leaves the list and posts COMPLETED. -/
def State.endInterims (p : Interim → Bool) (fate : Fate) (st : Status) (result : List Byte) (s : State) : State :=
  let (ended, rest) := s.mb.interims.partition p
  State.each ended (fun i t => t.postEvent (completedEntry i fate (fateStatus fate st) result t.now))
    { s with mb.interims := rest }

/-- A deferred operation has begun: it runs and waits no longer. -/
def Interim.begun (i : Interim) : Interim := { i with isDeferred := false }

/-- Interims of one operation on one TARGET. -/
def Interim.isOp (i : Interim) (cls opcode target : Nat) : Bool :=
  i.cls == cls && i.opcode == opcode && i.target == target

/-- An operation in flight whose function's READY bit clears is ABORTED_BY_RESET (R535). -/
def State.abortFn (fn : Nat) (s : State) : State :=
  let t := s.finishIf (fun f => f.fn == fn && !(f.cls == 5 && f.opcode == 1)) (s.resp .abortedByReset)
  t.endInterims (fun i => i.fn == fn) .discarded .abortedByReset []

/-- Functions stop being usable: the word changes (R534), and what their operations had not done is aborted (R535). The rules of
R134 and R388 decide where SERVICES clears. -/
def State.lower (bits : List Nat) (s : State) : State :=
  let t := s.updateReady [] bits
  if s.rdy Rdy.services && !t.rdy Rdy.services then t
  else State.each ((changedBits s.ready t.ready).filter (fun b => s.rdy b)) State.abortFn t

end Sys2Proof.Machine
end

