-- ==== Sys2Proof/Machine/Logbook.lean ====
section
/-! DEFINITION. Machine/Logbook.lean: the Logbook (R459–R470): recovery, writing, protection, reading and acknowledgement. -/

namespace Sys2Proof.Machine

/-- First address of the Logbook partition (R463). -/
def logBase : Nat := 0x640000

/-- The 64 bytes of a record with its SEQ (R459). -/
def LogRec.bytes (r : LogRec) (seq : Nat) : List Byte :=
  let body := le 6 seq ++ le 1 r.source ++ le 1 r.severity ++ le 2 r.code ++ le 2 r.flags ++ le 6 r.ticks ++ le 2 0 ++
    le 8 r.stamp.toNat ++ padTo 32 r.payload
  body ++ le 4 (crc32c body)

/-- A record of SEQ `q` lies in a standing protection window (R465). -/
def Logbook.covers (l : Logbook) (q : Nat) : Bool := l.windows.any (fun w => decide (w ≤ q) && decide (q ≤ w + 64))

/-- A slot that holds a protected record is skipped (R463). -/
def Logbook.protectedSlot (l : Logbook) (i : Nat) : Bool := l.slots.get i != 0 && l.covers (l.slots.get i)

/-- The next slot for a record at or after the write position (R463): at most 32 × 65 slots are protected. -/
def Logbook.nextSlot (l : Logbook) : Nat → Nat → Nat
  | 0, i => i
  | fuel + 1, i => if l.protectedSlot i then Logbook.nextSlot l fuel ((i + 1) % 8192) else i

/-- Where the next record goes. -/
def Logbook.place (l : Logbook) : Nat := l.nextSlot 2200 (l.writePos % 8192)

/-- A critical record opens a window; a 33rd releases the window of the oldest (R465). -/
def State.openWindow (seq : Nat) (s : State) : State :=
  if s.log.windows.length < 32 then { s with log.windows := s.log.windows ++ [seq] }
  else match s.log.windows with
    | old :: rest =>
      State.record3 3 3 0x0004 (le 6 old) 0 { s with log.windows := rest ++ [seq] }
    | [] => s

/-- The event entry of a written record (R396). -/
def LogRec.entry (r : LogRec) (seq : Nat) : EvEntry :=
  { source := r.source, severity := r.severity, code := r.code, logSeq := some seq, stamp := r.stamp, target := r.target, payload := r.payload }

/-- What writing a record with SEQ `seq` causes: the slot's index, CRITICAL, the window, the event entry and the copy for the
peer (R372, R396, R465, R470). -/
def State.recordWritten (r : LogRec) (slot seq : Nat) (s : State) : State :=
  let s1 := { s with
    log.slots := s.log.slots.set slot seq
    log.writePos := (slot + 1) % 8192
    log.nextSeq := seq + 1
    log.toPeer := if s.pair.role = PairRole.none then s.log.toPeer else s.log.toPeer ++ [r.bytes seq] }
  let s2 := s1.when (r.severity == 5) (State.irq Irq.critical)
  let s3 := s2.when (r.severity == 5 && !bitOf r.flags 1) (State.openWindow seq)
  s3.when r.posts (fun t => t.postEvent (r.entry seq))

/-- Queued records that go into one page: written into `page`'s bytes in turn, at most `fuel` of them (R461). -/
def State.fillPage : Nat → Nat → List Byte → State → List Byte × State
  | 0, _, bs, s => (bs, s)
  | fuel + 1, page, bs, s =>
    match s.log.queue with
    | [] => (bs, s)
    | r :: rest =>
      let slot := s.log.place
      if slot / 4 ≠ page then (bs, s) else
      let off := slot % 4 * 64
      let bs' := bs.take off ++ r.bytes s.log.nextSeq ++ bs.drop (off + 64)
      State.fillPage fuel page bs' (State.recordWritten r slot s.log.nextSeq { s with log.queue := rest })

/-- The OVERFLOW record once the queue has room again (R462). -/
def State.noteOverflow (s : State) : State :=
  if s.log.lost = 0 then s else
  if 256 ≤ s.log.queue.length then s else
  State.record3 3 2 0x0002 (le 4 s.log.lost ++ le 1 s.log.lostSeverity) 0
    { s with log.lost := 0, log.lostSeverity := 0 }

/-- Write the queued records that share the next page, as one journaled page operation (R461). -/
def State.writeLog (s : State) : State :=
  if !s.rdy Rdy.logbook || !s.nv.good || s.log.queue.isEmpty then s else
  let page := s.log.place / 4
  let base := logBase / 256 + page
  let (bs, t) := s.fillPage 4 page (s.nv.page base)
  ({ t with nv := t.nv.journal base bs }).noteOverflow

/-- LOGBOOK_WRITE (R461): Binnacle writes the queued records of one page. -/
def execLogbookWrite (a : At) (s : State) : Host.Outcome State Fault Refusal := .next (s.advance a).writeLog

/-- LOGBOOK_RECORD_RAISED (R462): an engine passes a record to the queue. -/
def execLogbookRecordRaised (a : At) (source severity code : Nat) (payload : List Byte) (posts : Bool) (target : Nat)
    (s : State) : Host.Outcome State Fault Refusal :=
  .next ((s.advance a).record source severity code payload posts target)

/-! ### Recovery -/

/-- The 64 stored bytes of a slot. -/
def Nv.logSlot (n : Nv) (i : Nat) : List Byte := n.mem.readBytes (logBase + i * 64) 64

/-- A slot's CRC holds and no word of it is uncorrectable (R468). -/
def Nv.logValid (n : Nv) (i : Nat) : Bool :=
  let bs := n.logSlot i
  fieldAt bs 60 4 == crc32c (bs.take 60) && (n.badIn (logBase + i * 64) 64).isEmpty

/-- Slots that any written byte or bad word touches: only these can be other than never written. -/
def Nv.logTouched (n : Nv) : List Nat :=
  ((n.mem.keys.filter (fun a => decide (logBase ≤ a) && decide (a < logBase + 0x80000))).map (fun a => (a - logBase) / 64)
    ++ (n.badWords.filter (fun w => decide (logBase ≤ w * 8) && decide (w * 8 < logBase + 0x80000))).map
      (fun w => (w * 8 - logBase) / 64)).eraseDups

/-- Slots that hold a record (R468). -/
def Nv.logRecords (n : Nv) : List (Nat × Nat) :=
  ((n.logTouched.filter (fun i => !allZero (n.logSlot i) && n.logValid i)).map (fun i => (i, fieldAt (n.logSlot i) 0 6)))

/-- Slots that are neither free nor valid: RECOVERED counts them. -/
def Nv.logFailed (n : Nv) : Nat :=
  (n.logTouched.filter (fun i => !n.logValid i && !(allZero (n.logSlot i) && (n.badIn (logBase + i * 64) 64).isEmpty))).length

/-- The record of the largest SEQ (R468). -/
def newestOf (rs : List (Nat × Nat)) : Option (Nat × Nat) :=
  rs.foldl (fun best r => match best with
    | none => some r
    | some b => if b.2 < r.2 then some r else some b) none

/-- Critical SEQs above the acknowledged one that carry no PEER, the newest 32, oldest first (R468). -/
def Nv.logWindows (n : Nv) (ack : Nat) (rs : List (Nat × Nat)) : List Nat :=
  let qs := (rs.filter (fun r => decide (ack < r.2) && fieldAt (n.logSlot r.1) 7 1 == 5 &&
    !bitOf (fieldAt (n.logSlot r.1) 10 2) 1)).map (fun r => r.2)
  (sortBy (fun a b => decide (a < b)) qs).rtake 32

/-- A record that says whether a LAST_GASP was found as the newest (R464, R526). -/
def Nv.lastGaspAt (n : Nv) (newest : Option (Nat × Nat)) : Bool :=
  match newest with
  | some (i, _) => bitOf (fieldAt (n.logSlot i) 10 2) 0
  | none => false

/-- The sequence of R468, then LOGBOOK rises and RESET_CAUSE is written (R526). -/
def State.recoverLog (s : State) : State :=
  let rs := s.nv.logRecords
  let newest := newestOf rs
  let ws := s.nv.logWindows s.bin.ackSeq rs
  let l := { s.log with
    slots := rs.foldl (fun t r => t.set r.1 r.2) []
    nextSeq := (match newest with
      | some (_, q) => q + 1
      | none => 1)
    writePos := (match newest with
      | some (i, _) => (i + 1) % 8192
      | none => 0)
    windows := ws }
  let covered := (rs.filter (fun r => l.covers r.2)).length
  let s1 := State.record3 3 1 0x0001
    (le 6 (l.nextSeq - 1) ++ le 2 rs.length ++ le 2 s.nv.logFailed ++ le 2 covered) 0 { s with log := l }
  let s2 := s1.updateReady [Rdy.logbook] []
  if s.bin.resetCause = 0 then s2 else
  let gasp := s.nv.lastGaspAt newest
  let s3 := State.record3 0 2 0x0012 (le 1 s.bin.resetCause ++ le 1 (bit gasp) ++ le 1 s.bin.supplyAtStart) 0
    { s2 with bin.lastGaspFound := gasp, bin.resetCause := 0 }
  s3.when gasp (State.count 4 1)

/-- LOGBOOK_RECOVERY (R468). -/
def execLogbookRecovery (a : At) (s : State) : Host.Outcome State Fault Refusal :=
  let t := s.advance a
  .next (if t.rdy Rdy.nvstore && !t.rdy Rdy.logbook then t.recoverLog else t)

/-! ### Reading and acknowledgement -/

/-- Held SEQs with their slots, ascending (R469). -/
def Logbook.held (l : Logbook) : List (Nat × Nat) := sortBy (fun a b => decide (a.1 < b.1)) (l.slots.map (fun p => (p.2, p.1)))

/-- LOG_READ's answer (R406, R469). -/
def logReadBody (r : Req) (s : State) : State × Option Resp :=
  let from_ := fieldAt r.payload 0 6
  let count := fieldAt r.payload 8 2
  let all := s.log.held
  let got := (all.filter (fun p => decide (from_ ≤ p.1))).take count
  let oldest := match all with
    | p :: _ => p.1
    | [] => s.log.nextSeq
  let next := match got.getLast? with
    | some p => p.1 + 1
    | none => s.log.nextSeq
  if got.any (fun p => !(s.nv.badIn (logBase + p.2 * 64) 64).isEmpty) then
    (State.each got (fun p t => t.unread (logBase + p.2 * 64) 64) s).fail .nvFault
  else s.ok (le 6 oldest ++ le 6 next ++ le 2 got.length ++ le 2 0 ++ got.flatMap (fun p => s.nv.logSlot p.2))

/-- LOG_READ (R406). -/
def opLogRead : OpDef :=
  { cls := 5, opcode := 0x0010, fns := [3], fallback := true
    len := fun n => n == 16
    content := fun _ r => r.target == 0 && allZero ((r.payload.drop 6).take 2) && allZero (r.payload.drop 10) &&
      decide (1 ≤ fieldAt r.payload 8 2) && decide (fieldAt r.payload 8 2 ≤ 63)
    body := logReadBody }

/-- LOG_READ (R469). -/
def execLogRead (a : At) (r : Req) (s : State) : Host.Outcome State Fault Refusal := .next (serve opLogRead r (s.advance a))

/-- Binnacle's state record of R476. -/
def Binnacle.payload (b : Binnacle) : List Byte :=
  [b.slotA, b.slotB, b.bin0, b.bin1].flatMap (fun x => le 1 x.code) ++ le 1 b.failures ++ le 1 (bit b.autopilot) ++
    le 6 b.ackSeq ++ leList 4 [b.versionA, b.versionB, b.version0, b.version1] ++ le 4 0

/-- The write of that record. -/
def Binnacle.save (b : Binnacle) : SaveReq := { typ := 8, key := 0, payload := b.payload }

/-- Binnacle rewrites its state record (R476). -/
def State.saveBinnacle (s : State) : State := s.save s.bin.save

/-- LOG_ACK (R466): ACK_SEQ is stored before the response; an older SEQ changes nothing. -/
def logAckBody (r : Req) (s : State) : State × Option Resp :=
  let q := fieldAt r.payload 0 6
  if q ≤ s.bin.ackSeq then s.ok
  else
    let b := { s.bin with ackSeq := q }
    match s.saveNow b.save with
    | (.done, t) =>
      (State.record3 3 1 0x0003 (le 6 q) 0
        { t with bin := b, log.windows := t.log.windows.filter (fun w => decide (q < w)) }).ok
    | (st, t) => t.fail st

/-- LOG_ACK (R406). -/
def opLogAck : OpDef :=
  { cls := 5, opcode := 0x0011, fns := [3], fallback := true
    len := fun n => n == 8
    expert := fun _ _ => true
    content := fun s r => r.target == 0 && allZero (r.payload.drop 6) && decide (fieldAt r.payload 0 6 < s.log.nextSeq)
    body := logAckBody }

/-- LOG_ACK (R466). -/
def execLogAck (a : At) (r : Req) (s : State) : Host.Outcome State Fault Refusal := .next (serve opLogAck r (s.advance a))

end Sys2Proof.Machine
end

