-- ==== Sys2Proof/Machine/Concord.lean ====
section
/-! DEFINITION. Machine/Concord.lean: concordance points and records, and the conversion between stamps and Almanac time
(R60–R65). -/

namespace Sys2Proof.Machine

/-- FLAGS of a concordance point (R62). -/
def concordFlags (periodic transition almanacSet crystalOff : Bool) : Nat :=
  bit periodic + 2 * bit transition + 4 * bit almanacSet + 8 * bit crystalOff

/-- Add a point to the ring of 64 (R62). DESIGN CHOICE: the specification does not number the first point after a module reset; here
it is 1 and the numbers start again at every reset (assumption 152). -/
def Meridian.addPoint (m : Meridian) (p : Concord) : Meridian :=
  { m with concord := (m.concord ++ [{ p with seq := (m.concordSeq + 1).toNat }]).rtake 64, concordSeq := m.concordSeq + 1 }

/-- The present stamp begins a concordance period and has no point yet (R60). -/
def State.periodPoint (s : State) : Bool :=
  s.mer.stamp.grain == 0 && s.turn % 64 == 0 && !(s.mer.concord.any (fun p => p.stamp == s.now))

/-- A point at the present stamp (R60). One taken where a concordance period begins is the periodic one too (assumption 20). TICK_FRAC is a
measurement the specification does not determine: a free value. DESIGN CHOICE: while ALMANAC is clear TICKS is the domain's count all the
same (assumption 152). -/
def State.takePoint (transition : Bool) (s : State) : State :=
  let periodic := s.periodPoint
  let p : Concord :=
    { stamp := s.now, ticks := s.alm.count.toNat, frac := s.freeNow.toNat % 65536, rate := s.mer.rate
      state := s.mer.state.code, epoch := s.alm.epoch.toNat, flags := concordFlags periodic transition false (!s.sen.crystal) }
  State.freeNext { s with mer := s.mer.addPoint p }

/-- One of the two points of an Almanac write (R61). -/
def State.takeSetPoint (ticks epoch : Nat) (s : State) : State :=
  let p : Concord :=
    { stamp := s.now, ticks := ticks, frac := 0, rate := s.mer.rate, state := s.mer.state.code, epoch := epoch
      flags := concordFlags false false true (!s.sen.crystal) }
  { s with mer := s.mer.addPoint p }

/-- Set the angle rate, which is always greater than 0 (R46); the extremes since the last CONCORDANCE record follow (R74). -/
def Meridian.setRate (m : Meridian) (r : Nat) : Meridian :=
  let r := max 1 r
  { m with rate := r, rateMin := if m.rateMin = 0 then r else min m.rateMin r, rateMax := max m.rateMax r }

/-- The CONCORDANCE record of R74. Its TICK_FRAC is that of the point of this instant when there is one. -/
def State.concordRecord (s : State) : State :=
  let frac := match s.mer.concord.getLast? with
    | some p => if p.stamp = s.now then p.frac else s.freeNow.toNat % 65536
    | none => s.freeNow.toNat % 65536
  let t := State.record 4 0 0x0006
    (le 2 frac ++ leList 4 [s.mer.rate, s.mer.rateMin, s.mer.rateMax] ++ le 1 s.mer.state.code ++ le 1 s.alm.epoch.toNat)
    false 0 s
  State.freeNext { t with mer.rateMin := s.mer.rate, mer.rateMax := s.mer.rate }

/-- A record of 0001h to 0005h with the CONCORDANCE record that goes with it (R74), after the point of the transition. -/
def State.merRecord (sev code : Nat) (payload : List Byte) (s : State) : State :=
  (State.record 4 sev code payload false 0 (s.takePoint true)).concordRecord

/-! ### From stamps to Almanac time -/

/-- Almanac time of a point in 1/65 536 ticks. -/
def Concord.time (p : Concord) : Int := (p.ticks * 65536 + p.frac : Nat)

/-- Extrapolation at a turn rate in µHz (R63): `n` grains in 1/65 536 ticks. -/
def grainsToTicks16 (n rate : Nat) : Int := if rate = 0 then 0 else ((n * 2048 * 1000000 / rate : Nat) : Int)

/-- The points on both sides of a stamp. -/
def bracket (x : Stamp) : List Concord → Option (Concord × Option Concord)
  | [] => none
  | [p] => if p.stamp ≤ x then some (p, none) else none
  | p :: q :: rest =>
    if p.stamp ≤ x then
      (match bracket x (q :: rest) with
        | some r => some r
        | none => some (p, some q))
    else bracket x (q :: rest)

/-- A CONCORDANCE record of the Logbook as a point (R65). -/
def concordOfRecord (bs : List Byte) : Concord :=
  { stamp := BitVec.ofNat 64 (fieldAt bs 20 8), ticks := fieldAt bs 12 6, frac := fieldAt bs 28 2, rate := fieldAt bs 30 4
    state := fieldAt bs 42 1, epoch := fieldAt bs 43 1 }

/-- The CONCORDANCE records held that carry TICKS and are not the peer's, by SEQ (R65). -/
def State.concordRecords (s : State) : List Concord :=
  ((s.log.held.map (fun p => s.nv.logSlot p.2)).filter (fun bs =>
    fieldAt bs 6 1 == 4 && fieldAt bs 8 2 == 6 && !bitOf (fieldAt bs 10 2) 1 && !bitOf (fieldAt bs 10 2) 2)).map concordOfRecord

/-- Interpolate between two points of one EPOCH, or extrapolate from the first (R63). -/
def convertBetween (x : Stamp) (p : Concord) (q : Option Concord) (useFrac : Bool) : Int :=
  let tp : Int := if useFrac then p.time else (p.ticks : Int) * 65536
  match q with
  | some q =>
    if q.epoch = p.epoch ∧ q.stamp ≠ p.stamp then
      let tq : Int := if useFrac then q.time else (q.ticks : Int) * 65536
      tp + (tq - tp) * ((x.toNat - p.stamp.toNat : Nat) : Int) / ((q.stamp.toNat - p.stamp.toNat : Nat) : Int)
    else tp + grainsToTicks16 (x.toNat - p.stamp.toNat) p.rate
  | none => tp + grainsToTicks16 (x.toNat - p.stamp.toNat) p.rate

/-- A stamp in Almanac time, in 1/65 536 ticks (R63, R65); none where it cannot be converted. -/
def State.wall16 (x : Stamp) (s : State) : Option Int :=
  match bracket x s.mer.concord with
  | some (p, q) => some (convertBetween x p q true)
  | none =>
    match bracket x s.concordRecords with
    | some (p, q) => some (convertBetween x p q false)
    | none => none

/-- The turn rate of the latest concordance point in µHz, or the present rate when there is none. -/
def State.pointRate (s : State) : Nat :=
  match s.mer.concord.getLast? with
  | some p => p.rate
  | none => s.mer.rate

/-! ### CONCORD_READ -/

/-- The 32 bytes of a point (R62). -/
def Concord.bytes (p : Concord) : List Byte :=
  le 8 p.stamp.toNat ++ le 6 p.ticks ++ le 2 p.frac ++ le 4 p.rate ++ le 1 p.state ++ le 1 p.epoch ++ le 2 p.flags ++
    le 4 p.seq ++ le 4 0

/-- CONCORD_READ (R406): points from SEQ `from` on, in SEQ order under R16. -/
def concordReadBody (r : Req) (s : State) : State × Option Resp :=
  let from_ := fieldAt r.payload 0 4
  let got := (s.mer.concord.filter (fun p => p.seq == from_ || newer 32 p.seq from_)).take (fieldAt r.payload 4 1)
  let next := match got.getLast? with
    | some p => (p.seq + 1) % 2 ^ 32
    | none => (s.mer.concordSeq + 1).toNat
  s.ok (le 4 next ++ le 1 got.length ++ le 3 0 ++ got.flatMap Concord.bytes)

/-- CONCORD_READ (R406). -/
def opConcordRead : OpDef :=
  { cls := 5, opcode := 0x0012, fns := [4], fallback := true
    len := fun n => n == 8
    content := fun _ r => r.target == 0 && decide (1 ≤ fieldAt r.payload 4 1) && decide (fieldAt r.payload 4 1 ≤ 64) &&
      allZero (r.payload.drop 5)
    body := concordReadBody }

/-- CONCORD_READ (R62). -/
def execConcordRead (a : At) (r : Req) (s : State) : Host.Outcome State Fault Refusal :=
  .next (serve opConcordRead r (s.advance a))

end Sys2Proof.Machine
end

