-- ==== Sys2Proof/Machine/Meridian.lean ====
section
/-! DEFINITION. Machine/Meridian.lean: angle time: fit, qualification, capture, relock, dead reckoning (R41–R55), turn marks and
T0 (R56, R57), and the event-slot table (R66–R72). -/

namespace Sys2Proof.Machine

/-! ### Phase -/

/-- Wrap a phase into −524 288 < e ≤ +524 288 grains (R43). -/
def wrapPhase (x : Int) : Int :=
  let u := x % 1048576
  if 524288 < u then u - 1048576 else u

/-- The offset that Meridian uses: ZERO_OFFSET and a pair's correction (R42, R498). -/
def Meridian.offset (m : Meridian) : Int := m.zeroOffset + m.pairOffset

/-- Phase error at a fitted crossing: grain 0 belongs at the crossing plus the offset (R42, R43). -/
def State.phaseAtCrossing (s : State) : Int := wrapPhase (-s.mer.offset - (s.grain : Int))

/-- Frequency in µHz of a cycle of `p` ns. -/
def freqOf (p : Nat) : Nat := if p = 0 then 0 else 1000000000000000 / p

/-- Mean frequency in µHz of a run of cycles. -/
def meanFreq (ps : List Nat) : Nat := if ps.sum = 0 then 0 else ps.length * 1000000000000000 / ps.sum

/-- The loss-detection interval in grains (R44, R48). -/
def lossInterval : Nat := 1310720

/-- Grains since the last crossing that began or ended a valid cycle. -/
def State.sinceCrossing (s : State) : Nat := s.mer.stamp.toNat - s.mer.lastCross.toNat

/-- The criterion of R44 that a cycle fails: 1 crossing, 2 amplitude, 3 frequency, 4 stability; none for a valid cycle. `gap` is the
distance of its crossings in grains. DESIGN CHOICE: of several that fail, the first in the table's order is the one
ENTER_DEAD_RECKONING names (assumption 152). -/
def failedCriterion (run : List Nat) (mrefMin period amp gap : Nat) : Option Nat :=
  if lossInterval < gap then some 1
  else if amp < mrefMin then some 2
  else if freqOf period < 45000000 ∨ 65000000 < freqOf period then some 3
  else if run ≠ [] ∧ run.sum < ((period : Int) * run.length - run.sum).natAbs * 50 then some 4
  else none

/-- The criterion that the cycle ended by a crossing now fails (R44). -/
def State.failedBy (s : State) (period amp : Nat) : Option Nat :=
  failedCriterion s.mer.run (s.cfgN Fid.MREF_MIN) period amp s.sinceCrossing

/-- A valid cycle enters the run and the 16 cycles of R47; the crossing that ends it is the last valid one (R48). -/
def Meridian.countCycle (m : Meridian) (period : Nat) : Meridian :=
  { m with run := (period :: m.run).take 16, valid := (period :: m.valid).take 16, waveform := true, lastCross := m.stamp }

/-- The rate that closes `e` within the slew limit, with `left` grains left in the turn (R53): the full offset, or the one that
brings `e` to 0 at the turn's end. -/
def slewRate (mains div left : Nat) (e : Int) : Nat :=
  let full := if 0 < e then mains * (div + 1) / div else mains * (div - 1) / div
  if e = 0 then mains
  else if (left : Int) - e ≤ 0 then full
  else
    let landing := mains * left / ((left : Int) - e).toNat
    if 0 < e then min landing full else max landing full

/-- Grains left in the turn. -/
def State.grainsLeft (s : State) : Nat := grainsPerTurn - s.grain

/-- Set the rate for RELOCK or LOCKED from `e` as it stands (R42, R53). -/
def State.trackRate (s : State) : State :=
  { s with mer := s.mer.setRate (slewRate s.mer.mains (s.cfgN Fid.SLEW_DIV) s.grainsLeft s.mer.e) }

/-! ### MERIDIAN_LOCK and the angle outputs (R287) -/

/-- Owner 1 takes an angle output: ownership changes, the output is off and no other owner drives it (R284, R294). -/
def Ago.yield (o : Ago) (owner : Nat) : Ago :=
  { o with on := false, fires := false, guard := false, forced := false, acc := if o.lastOwner = owner then o.acc else 0, lastOwner := owner }

/-- AGO_UNLOCK makes this output stop while MERIDIAN_LOCK is clear (R287). -/
def State.agoStops (s : State) (n : Nat) : Bool :=
  let m := s.cfgN Fid.AGO_MODE n
  let u := s.cfgN Fid.AGO_UNLOCK n
  decide (2 ≤ m ∧ m ≤ 5) && (u == 1 || (u == 0 && m == 3))

/-- Drive an angle output's pin, `active` before inversion; a change is an edge. A pin in high impedance is not driven (R280, R294). -/
def State.agoPin (n : Nat) (active : Bool) (s : State) : State :=
  { s with out.ago := s.out.ago.upd n (fun o =>
      let level := xor active o.invert
      if o.highZ || o.pin = level then o else { o with pin := level, edges := (o.edges + 1) % 65536 }) }

/-- STOP begins: the outputs go inactive under owner 1, a pulse in progress is cut, and UNLOCK_STOP is written (R284, R287, R296). -/
def State.agoUnlock (s : State) : State :=
  let ns := (upTo 8).filter (fun n => s.agoStops n && !(s.out.ago.get n).stopped)
  if ns.isEmpty then s else
  let t := State.each ns (fun n u =>
    State.agoPin n false { u with out.ago := u.out.ago.upd n (fun o => { o.yield 1 with stopped := true }) }) s
  t.record3 12 2 0x0002 (le 1 1 ++ le 1 (bitMask ns).toNat) 0

/-- After a commit: an output that no longer stops goes on, and one that now stops does so while MERIDIAN_LOCK is clear (R287, R296). -/
def State.agoStopsAnew (s : State) : State :=
  let ns := (upTo 8).filter (fun n => !s.agoStops n && (s.out.ago.get n).stopped)
  let t := if ns.isEmpty then s else
    State.record3 12 2 0x0002 (le 1 0 ++ le 1 (bitMask ns).toNat) 0
      { s with out.ago := s.out.ago.updAll ns (fun _ o => { o with stopped := false }) }
  if t.rdy Rdy.lock then t else t.agoUnlock

/-- Bits that clear with MERIDIAN_LOCK: on the internal RC the lines stop as well (R38, R39). -/
def State.lockClears (s : State) : List Nat :=
  if s.sen.crystal then [Rdy.lock] else [Rdy.lock, Rdy.line 0, Rdy.line 1, Rdy.line 2, Rdy.line 3]

/-- MERIDIAN_LOCK clears (R19, R287). -/
def State.unlock (s : State) : State :=
  if s.rdy Rdy.lock then (s.updateReady [] s.lockClears).agoUnlock else s

/-! ### State changes -/

/-- Enter DEAD_RECKONING at f_dr (R45, R47, R48). -/
def State.enterDr (crit : Nat) (s : State) : State :=
  let fdr := if s.mer.valid.isEmpty then s.mer.fdr else meanFreq s.mer.valid
  let m := { s.mer with
    state := .deadReckoning, fdr := fdr, run := [], waveform := false, qualCount := 0, inRow := 0, slewing := false
    captureLeft := 0
    zeroOffset := s.mer.zeroPending.getD s.mer.zeroOffset, zeroPending := none }
  (State.merRecord 3 0x0001 (le 1 crit ++ le 4 fdr) { s with mer := m.setRate fdr }).unlock

/-- Valid cycles that qualification needs (R45). -/
def State.qualNeeded (s : State) : Nat := if s.mer.captureEnded then s.cfgN Fid.DR_GUARD else 4

/-- QUALIFY starts at a qualifying crossing (R45). -/
def State.enterQualify (s : State) : State :=
  State.merRecord 1 0x0002 (le 2 s.qualNeeded)
    { s with mer := { s.mer with state := .qualify, run := [], qualCount := 0, lastCross := s.mer.stamp }.setRate s.mer.fdr }

/-- Grains of mains angle from the end of qualification to the `k`-th crossing plus the offset (R50). -/
def captureSpan (off : Int) (k : Nat) : Int := (k : Int) * 1048576 + off

/-- Distance of that instant from t_nat, in common units (R50). -/
def captureMiss (off : Int) (fdr mains left k : Nat) : Nat :=
  (captureSpan off k * fdr - (left : Int) * mains).natAbs

/-- The crossing nearest to t_nat and at least half a cycle ahead; of two equally near the later (R50). -/
def chooseCrossing (off : Int) (fdr mains left : Nat) : Nat :=
  [1, 2, 3].foldl (fun best k =>
    if captureSpan off k < 524288 then k
    else if captureSpan off best < 524288 ∨ captureMiss off fdr mains left k ≤ captureMiss off fdr mains left best then k
    else best) 1

/-- CAPTURE starts (R50, R51). -/
def State.enterCapture (s : State) : State :=
  let left := s.grainsLeft
  let k := chooseCrossing s.mer.offset s.mer.fdr s.mer.mains left
  let span := captureSpan s.mer.offset k
  let m := { s.mer with state := .capture, captureLeft := k }
  let cores := s.inp.cores.updAll (upTo 4) (fun _ c => { c with cur := c.cur.map (fun x => { x with capture := true }) })
  State.merRecord 1 0x0003 (le 4 s.grain ++ le 4 span.toNat)
    { s with inp.cores := cores, mer := m.setRate (max 1 (left * s.mer.mains / span.toNat)) }

/-- RELOCK starts, or its slew turns to a new offset, with `e` as it stands (R53, R55, R74). The boundaries in a row that a RELOCK in
progress has counted stand (R45). -/
def State.enterRelock (cause : Nat) (s : State) : State :=
  let t := { s with mer := { s.mer with
    state := .relock, inRow := if s.mer.state = MerState.relock then s.mer.inRow else 0, slewing := s.mer.e != 0 } }
  (State.merRecord 2 0x0004 (le 4 (ofSigned 32 t.mer.e) ++ le 1 cause) t.trackRate)

/-- LOCKED (R45, R74). -/
def State.enterLocked (s : State) : State :=
  let t := { s with mer := { s.mer with state := .locked, slewing := false } }
  (State.merRecord 1 0x0005 (le 4 t.mer.mains ++ le 2 t.mer.e.natAbs) t.trackRate).updateReady [Rdy.lock] []

/-- The end of a counted qualification cycle (R45). -/
def State.qualified (s : State) : State :=
  let t := { s with mer.qualCount := s.mer.qualCount + 1 }
  if t.mer.qualCount < t.qualNeeded then t
  else if t.mer.captureEnded then
    let u := { t with mer.e := t.phaseAtCrossing }
    u.enterRelock 1
  else t.enterCapture

/-- A crossing during CAPTURE: the remaining grains are spread again (R51). -/
def State.captureCrossing (s : State) : State :=
  let k := s.mer.captureLeft - 1
  let span := captureSpan s.mer.offset k
  if 0 < span then
    { s with mer := { s.mer with captureLeft := k }.setRate (max 1 (s.grainsLeft * s.mer.mains / span.toNat)) }
  else { s with mer.captureLeft := k }

/-- RELOCK takes `e` as it stands: a slew that begins after one has landed takes its own point (R53, R60). -/
def State.relockTo (e : Int) (s : State) : State :=
  let t := { s with mer := { s.mer with e := e, slewing := s.mer.slewing || e != 0 } }
  if s.mer.slewing || e == 0 then t.trackRate else State.takePoint true t.trackRate

/-- A positive crossing of the fitted fundamental ends a cycle of `period` ns whose half cycles had the amplitudes `ampFirst`
and `ampLast` in 0.01 V (R43–R45). DESIGN CHOICE: one that ends an invalid cycle and is itself qualifying starts QUALIFY at once in CAPTURE,
RELOCK and LOCKED too, as R45 says of a cycle of the qualification count (assumption 152). -/
def State.crossing (period ampFirst ampLast : Nat) (s : State) : State :=
  let amp := min ampFirst ampLast
  let qualifies := decide (s.cfgN Fid.MREF_MIN ≤ ampLast)
  match s.mer.state with
  | .deadReckoning => s.when qualifies State.enterQualify
  | .qualify =>
    match s.failedBy period amp with
    | some c => (s.enterDr c).when qualifies State.enterQualify
    | none => State.qualified { s with mer := { s.mer.countCycle period with mains := freqOf period, amplitude := amp } }
  | .capture =>
    match s.failedBy period amp with
    | some c => (s.enterDr c).when qualifies State.enterQualify
    | none => State.captureCrossing { s with mer := { s.mer.countCycle period with mains := freqOf period, amplitude := amp } }
  | .relock | .locked =>
    match s.failedBy period amp with
    | some c => (s.enterDr c).when qualifies State.enterQualify
    | none =>
      let t := { s with mer := { s.mer.countCycle period with mains := freqOf period, amplitude := amp } }
      if s.mer.state = MerState.relock then t.relockTo t.phaseAtCrossing else State.trackRate { t with mer.e := t.phaseAtCrossing }

/-- FITTED_CROSSING (R45). -/
def execFittedCrossing (a : At) (period ampFirst ampLast : Nat) (s : State) : Host.Outcome State Fault Refusal :=
  let t := s.advance a
  .next (if t.rdy Rdy.meridian then t.crossing period ampFirst ampLast else t)

/-- Half turns that have passed. -/
def State.halfTurns (s : State) : Nat := s.mer.stamp.toNat / 524288

/-- A fit update (R41, R51, R53): frequency in µHz, amplitude, and in CAPTURE the time in ns to the chosen crossing plus the
offset as now predicted. Elsewhere the rate keeps its ratio to the mains rate. -/
def State.fitUpdate (hz amp toEnd : Nat) (s : State) : State :=
  let m := { s.mer with mains := hz, amplitude := amp, fitHalf := some s.halfTurns }
  match s.mer.state with
  | .capture =>
    if toEnd = 0 then { s with mer := m }
    else { s with mer := m.setRate (max 1 (s.grainsLeft * 1000000000000000 / (grainsPerTurn * toEnd))) }
  | .relock | .locked =>
    if s.mer.mains = 0 then { s with mer := m } else { s with mer := m.setRate (max 1 (s.mer.rate * hz / s.mer.mains)) }
  | _ => { s with mer := m }

/-- FIT_UPDATE (R41): once in each half turn, with a frequency above 0. -/
def execFitUpdate (a : At) (hz amp toEnd : Nat) (s : State) : Host.Outcome State Fault Refusal :=
  let t := s.advance a
  .next (if t.rdy Rdy.meridian && t.mer.fitHalf != some t.halfTurns && decide (0 < hz) then t.fitUpdate hz amp toEnd else t)

/-- LOSS_DETECTION (R48): no valid crossing within 1.25 turns. -/
def execLossDetection (a : At) (s : State) : Host.Outcome State Fault Refusal :=
  let t := s.advance a
  .next (if t.rdy Rdy.meridian && t.mer.state != .deadReckoning && decide (lossInterval ≤ t.sinceCrossing) then t.enterDr 1 else t)

/-! ### ZERO_OFFSET and NOMINAL_HZ at a commit (R47, R55) -/

/-- A new offset takes effect at instant E (R55); also the correction of R498. -/
def State.moveOffset (zero pairOff : Int) (s : State) : State :=
  let delta := zero + pairOff - s.mer.offset
  if delta = 0 then s else
  match s.mer.state with
  | .locked =>
    ((({ s with mer := { s.mer with zeroOffset := zero, pairOffset := pairOff, e := wrapPhase (s.mer.e - delta) } } : State).enterRelock 3).unlock)
  | .relock =>
    State.enterRelock 3 { s with mer := { s.mer with zeroOffset := zero, pairOffset := pairOff, e := wrapPhase (s.mer.e - delta) } }
  | .capture => { s with mer := { s.mer with zeroPending := some zero } }
  | _ => { s with mer := { s.mer with zeroOffset := zero, pairOffset := pairOff } }

/-- f_dr takes NOMINAL_HZ at a boundary until the first valid cycle since reset (R47). -/
def State.nominal (s : State) : State :=
  if !s.mer.nominalDue then s else
  let t := { s with mer.nominalDue := false }
  let hz := s.cfgN Fid.NOMINAL_HZ
  if !s.mer.valid.isEmpty || hz == 0 then t else
  let f := if hz = 1 then 50000000 else 60000000
  let m : Meridian := { t.mer with fdr := f, lastHz := f }
  let m : Meridian := if m.state = .deadReckoning ∨ m.state = .qualify then m.setRate f else m
  State.takePoint true { t with mer := m }

/-! ### The turn boundary -/

/-- The capture turn ends (R51, R55): a change of state with its point and its CONCORDANCE record (R60, R65). -/
def State.captureEnds (s : State) : State :=
  let pending := s.mer.zeroPending
  let zero := pending.getD s.mer.zeroOffset
  let e := wrapPhase (s.mer.zeroOffset - zero)
  let t := { s with mer := { s.mer with captureEnded := true, zeroOffset := zero, zeroPending := none, e := e, captureLeft := 0 } }
  let u := if pending.isSome && e != 0 then t.enterRelock 3
    else (State.takePoint true (State.trackRate { t with mer := { t.mer with state := .relock, slewing := false } })).concordRecord
  { u with mer.inRow := if e.natAbs < 200 then 1 else 0 }

/-- RELOCK at a boundary with phase error `e` (R45, R53): the third small one in a row locks; a slew that has landed ends. -/
def State.relockBoundary (e : Int) (s : State) : State :=
  let t := { s with mer := { s.mer with inRow := if e.natAbs < 200 then s.mer.inRow + 1 else 0 } }
  if 3 ≤ t.mer.inRow then State.enterLocked { t with mer.e := e }
  else if t.mer.slewing && e == 0 then State.takePoint true (State.trackRate { t with mer := { t.mer with e := e, slewing := false } })
  else t.relockTo e

/-- What the state makes of a boundary with phase error `e` (R45, R288). -/
def State.merTurn (e : Int) (s : State) : State :=
  match s.mer.state with
  | .capture => s.captureEnds
  | .relock => s.relockBoundary e
  | .locked =>
    let u := { s with mer.e := e }
    if 2000 ≤ e.natAbs then (u.enterRelock 2).unlock else u.trackRate
  | _ => s

/-- Meridian's part of a turn boundary, before the slots (R45, R46, R60, R288). The new turn has begun; `e` is the phase error
as the fit then gives it, wrapped as R43 says. -/
def State.merBoundary (e : Int) (s : State) : State :=
  let u := (s.merTurn (wrapPhase e)).nominal
  u.when u.periodPoint (State.takePoint false)

/-! ### Turn marks and T0 -/

/-- Payload of the turn-mark record: turn, TICKS and LAST_HZ in µHz (R56). Its layout is the model's own (assumption 13). -/
def turnMark (turn ticks hz : Nat) : List Byte := le 8 turn ++ le 6 ticks ++ le 2 0 ++ le 4 hz

/-- LAST_HZ: mean frequency of the last 16 valid cycles, or f_dr (R56). -/
def Meridian.lastMean (m : Meridian) : Nat := if m.valid.isEmpty then m.fdr else meanFreq m.valid

/-- Write the turn mark of the present turn (R56). -/
def State.markTurn (s : State) : State :=
  s.save { typ := 1, key := 0, payload := turnMark s.turn s.alm.count.toNat s.mer.lastMean }

/-- A period of `n` turns that began with the last writing is over, at a turn boundary; the first writing since the start is due at once
(R56, R74; assumption 153). -/
def State.periodOver (s : State) (last : Option Nat) (n : Nat) : Bool :=
  s.grain == 0 && last.all (fun m => decide (m + n ≤ s.turn))

/-- TURN_MARK (R56): once per turn-mark period. -/
def execTurnMark (a : At) (s : State) : Host.Outcome State Fault Refusal :=
  let t := s.advance a
  .next (if t.rdy Rdy.meridian && t.periodOver t.mer.markTurn 65536 then State.markTurn { t with mer.markTurn := some t.turn } else t)

/-- CONCORDANCE_LOG_PERIOD (R74): once per concordance Logbook period while CONCORD_LOG is on. -/
def execConcordanceLogPeriod (a : At) (s : State) : Host.Outcome State Fault Refusal :=
  let t := s.advance a
  .next (if t.rdy Rdy.meridian && t.cfgN Fid.CONCORD_LOG == 1 && t.periodOver t.mer.concordTurn 262144 then
      State.concordRecord { t with mer.concordTurn := some t.turn }
    else t)

/-- The newest valid turn mark: turn, TICKS, LAST_HZ (R57). -/
def State.lastMark (s : State) : Option (Nat × Nat × Nat) :=
  (s.nv.load 1 0).map (fun p => (fieldAt p 0 8, fieldAt p 8 6, fieldAt p 16 4))

/-- T0 from the turn mark (R57). -/
def State.t0FromMark (s : State) : Nat :=
  match s.lastMark with
  | some (m, ticks, hz) =>
    let span := if s.rdy Rdy.almanac && !s.alm.wrapped then s.alm.count.toNat - ticks else 0
    m + 65536 + (span * hz + (32768 * 1000000 - 1)) / (32768 * 1000000)
  | none => 0

/-- T0 from the largest STAMP among the Logbook records held without PEER (R57). -/
def State.t0FromLog (s : State) : Nat :=
  match (s.nv.logRecords.filter (fun r => !bitOf (fieldAt (s.nv.logSlot r.1) 10 2) 1)).map (fun r => fieldAt (s.nv.logSlot r.1) 20 8) with
  | [] => 0
  | xs => xs.foldl max 0 / grainsPerTurn + 1

/-- T0 and its source (R57, R74). DESIGN CHOICE: of equal values the turn mark is named before the Logbook, and either before none
(assumption 152). -/
def State.t0 (s : State) : Nat × Nat :=
  let a := s.t0FromMark
  let b := s.t0FromLog
  if 1 ≤ a ∧ b ≤ a then (a, 1) else if 1 ≤ b then (b, 2) else (1, 3)

/-- A slot's words from its fields (R66). -/
def slotWords (kind action div angle target arg : Nat) (when_ : Nat := 0) : SlotWords :=
  { control := BitVec.ofNat 32 (2 ^ 31 + kind * 2 ^ 28 + action * 2 ^ 24 + div * 2 ^ 20 + angle % grainsPerTurn)
    param := BitVec.ofNat 32 (target * 65536 + arg)
    when := BitVec.ofNat 64 when_ }

/-- The module's own slots 16–19: one ADC_START per core and turn (R67, R614). -/
def coreSlots (before : Stamp) : Tbl EvSlot :=
  (upTo 4).foldl (fun (t : Tbl EvSlot) c =>
    t.set (16 + c) { words := slotWords 0 6 0 0 c 0 1, owner := .module, firedAt := before }) ([] : Tbl EvSlot)

/-- Meridian starts: f_dr from the turn mark, T0 assigned, DEAD_RECKONING (R45, R47, R57); its slots are the module's own (R67, R68). -/
def State.assignT0 (s : State) : State :=
  let fdr := match s.lastMark with
    | some (_, _, hz) => hz
    | none => 50000000
  let (t0, src) := s.t0
  let m := { s.mer with
    state := .deadReckoning, fdr := fdr, lastHz := fdr, rateMin := 0, rateMax := 0
    slots := coreSlots (BitVec.ofNat 64 (t0 * grainsPerTurn + s.mer.early - 1))
    stamp := BitVec.ofNat 64 (t0 * grainsPerTurn + s.mer.early) }
  let t := { s with mer := m.setRate fdr }
  State.takePoint true (t.record3 4 1 0x0009 (le 8 t0 ++ le 1 src) 0)

/-! ### Event slots -/

/-- The four status bits and COUNT (R72). -/
def EvSlot.status (e : EvSlot) : Nat := e.count + 2 ^ 30 * bit e.fired + 2 ^ 31 * bit e.late

/-- Held writes take effect together at a turn boundary (R69, R72). -/
def State.slotEffects (s : State) : State :=
  { s with mer.slots := s.mer.slots.updAll ((s.mer.slots.filter (fun p => p.2.held.isSome)).map (fun p => p.1)) (fun _ e =>
      match e.held with
      | some w =>
        { e with words := w, held := none, heldByHost := false, count := 0, firedAt := s.mer.stamp - 1
                 owner := if w = {} then .free else if e.heldByHost then .host else e.owner }
      | none => e) }

/-- Host slots are cleared at module reset and when SERVICES rises (R68). -/
def State.clearHostSlots (s : State) : State :=
  { s with mer.slots := s.mer.slots.updAll ((s.mer.slots.filter (fun p => p.2.owner == .host || p.2.heldByHost)).map (fun p => p.1)) (fun _ e =>
      if e.owner = .host then {} else { e with held := none, heldByHost := false }) }

/-- SLOT_READ (R403): it clears LATE and FIRED (R72). -/
def slotReadBody (r : Req) (s : State) : State × Option Resp :=
  let e := s.mer.slots.get r.target
  State.ok { s with mer.slots := s.mer.slots.upd r.target (fun e => { e with late := false, fired := false }) }
    (le 4 e.words.control.toNat ++ le 4 e.words.param.toNat ++ le 8 e.words.when.toNat ++ le 4 e.status ++ le 4 0)

/-- SLOT_READ (R403). -/
def opSlotRead : OpDef :=
  { cls := 2, opcode := 0x0010, fns := [4]
    len := fun n => n == 0
    content := fun _ r => decide (r.target < 512)
    expert := fun _ _ => true
    body := slotReadBody }

/-- SLOT_READ (R614). -/
def execSlotRead (a : At) (r : Req) (s : State) : Host.Outcome State Fault Refusal := .next (serve opSlotRead r (s.advance a))

/-- The words a SLOT_WRITE carries. -/
def slotOfPayload (p : List Byte) : SlotWords :=
  { control := BitVec.ofNat 32 (fieldAt p 0 4), param := BitVec.ofNat 32 (fieldAt p 4 4), when := BitVec.ofNat 64 (fieldAt p 8 8) }

/-- The bits of WHEN that R66 reserves are 0: WHEN[63:32] of EVERY_TURNS, all of WHEN of SUBDIVIDED. -/
def SlotWords.whenFits (w : SlotWords) : Bool :=
  !(w.kind == 0 && decide (2 ^ 32 ≤ w.when.toNat)) && !(w.kind == 1 && w.when != 0)

/-- TARGET and ARG lie in the ranges the action states; where it states none they are free (R66, R377; assumption 26). -/
def SlotWords.targetFits (w : SlotWords) : Bool :=
  match w.action with
  | 1 | 2 | 3 => decide (w.target < 8)
  | 4 => decide (w.target < 256)
  | 5 => decide (w.target < 16)
  | 6 => decide (w.target < 4) && w.arg == 0
  | 7 | 8 => decide (w.arg ≤ 64)
  | _ => true

/-- A host slot may carry this action (R66, R67): NONE and SIGNAL, and AGO actions on an AGO in host role. -/
def State.hostAction (s : State) (w : SlotWords) : Bool :=
  w.action == 0 || w.action == 9 || (decide (1 ≤ w.action ∧ w.action ≤ 3) && s.cfgN Fid.AGO_MODE w.target == 1)

/-- SLOT_WRITE (R69): held aside until the next turn boundary, whose stamp the response carries. -/
def slotWriteBody (r : Req) (s : State) : State × Option Resp :=
  ({ s with mer.slots := s.mer.slots.upd r.target (fun e => { e with held := some (slotOfPayload r.payload), heldByHost := true }) },
    some { status := .done, stamp := mkStamp (s.turn + 1) 0 })

/-- SLOT_WRITE (R403). -/
def opSlotWrite : OpDef :=
  { cls := 2, opcode := 0x0011, fns := [4]
    len := fun n => n == 16
    content := fun _ r =>
      let w := slotOfPayload r.payload
      decide (r.target < 512) && decide (w.kind ≤ 2) && w.whenFits && decide (w.action < 12) && w.targetFits
    expert := fun _ _ => true
    permits := fun s r =>
      let e := s.mer.slots.get r.target
      decide (64 ≤ r.target) && (e.owner == .free || e.owner == .host) && s.hostAction (slotOfPayload r.payload)
    holds := true
    body := slotWriteBody }

/-- SLOT_WRITE (R69). -/
def execSlotWrite (a : At) (r : Req) (s : State) : Host.Outcome State Fault Refusal := .next (serve opSlotWrite r (s.advance a))

end Sys2Proof.Machine
end

