-- ==== Sys2Proof/Machine/NvStore.lean ====
section
/-! DEFINITION. Machine/NvStore.lean: the store at work: page operations, sheaf additions, record writes, compaction, scrubbing,
recovery (R437–R458) and SHEAF_READ. -/

namespace Sys2Proof.Machine

/-! ### Headers -/

/-- The header at a page of the record store, when MAGIC, HCRC and PAGES hold (R445, R456). -/
def Nv.headerAt (n : Nv) (p : Nat) : Option RecInfo :=
  let h := n.mem.readBytes (recordBase + p * 256) 32
  let pages := fieldAt h 3 1
  if fieldAt h 0 2 == 0x5243 && fieldAt h 28 4 == crc32c (h.take 28) && decide (1 ≤ pages) && decide (p + pages ≤ 2048) &&
      pages == recordPages (fieldAt h 16 2) && decide (pages ≤ 64) then
    some { typ := fieldAt h 4 2, key := fieldAt h 6 2, seq := fieldAt h 8 4, logseq := fieldAt h 12 4, length := fieldAt h 16 2
           pages := pages, setGen := fieldAt h 20 4, flags := fieldAt h 2 1, page := p }
  else none

/-- Why a record with a good header is invalid (R446): 2 an uncorrectable word, 1 PCRC; none when it is valid. -/
def Nv.recFault (n : Nv) (r : RecInfo) : Option Nat :=
  let a := recordBase + r.page * 256
  if !(n.badIn a (r.pages * 256)).isEmpty then some 2
  else if crc32c (n.payload r) ≠ fieldAt (n.mem.readBytes (a + 32 + r.length) 4) 0 4 then some 1
  else none

/-- The record whose header page is this one is no longer being written. -/
def Nv.release (n : Nv) (page : Nat) : Nv :=
  { n with reserved := n.reserved.filter (fun r => recordBase / 256 + r.page != page) }

/-- Index the record whose header page has just committed, where it is valid as it stands (R446, R447). -/
def Nv.committed (n : Nv) (page : Nat) : Nv :=
  match n.reserved.find? (fun r => recordBase / 256 + r.page == page) with
  | some r =>
    let m := n.release page
    if m.headerAt r.page = some r ∧ m.recFault r = none then m.indexRec r else m
  | none => n

/-! ### Page operations -/

/-- A page operation through the steps of R440, ended as `f` says. -/
def Nv.runOp (n : Nv) (o : PageOp) (f : JrnFate) : Nv :=
  let d := padTo 256 o.data
  match f with
  | .whole => (n.journal o.page d).committed o.page
  | .cutSlot w => let m := { n with journalSeq := n.journalSeq + 1 }; m.write (slotAddr (m.journalSeq.toNat % 15)) (d.take (w * 8))
  | .cutTarget w => ((n.jrnSlot d).jrnCommit o.page 1 d).write (o.page * 256) (d.take (w * 8))
  | .failSlot => (n.jrnSlot d).release o.page
  | .failTarget held => (((n.jrnSlot d).jrnCommit o.page 1 d).write (o.page * 256) (padTo 256 held)).release o.page

/-- Remove the first waiting operation equal to `o`. -/
def Nv.dropOp (n : Nv) (o : PageOp) : Nv := { n with queue := n.queue.erase o }

/-- Logbook records wait to be written: they go before every page operation but those of the priorities 1 and 2 (R442). -/
def State.logWaits (s : State) : Bool := s.rdy Rdy.logbook && !s.log.queue.isEmpty

/-- The next waiting operation runs, when the NV-good condition holds at its start and no writer of a higher priority waits (R440,
R442). -/
def State.pageOp (f : JrnFate) (s : State) : State :=
  if !s.rdy Rdy.nvstore || !s.nv.good then s else
  match s.nv.nextOp with
  | some o =>
    if (decide (3 < o.prio) && s.logWaits) || (decide (5 < o.prio) && !s.nv.sheaf.isEmpty) then s
    else { s with nv := (s.nv.dropOp o).runOp o f }
  | none => s

/-- JOURNALED_PAGE_OPERATION (R440). -/
def execJournaledPageOperation (a : At) (fate : JrnFate) (s : State) : Host.Outcome State Fault Refusal :=
  .next ((s.advance a).pageOp fate)

/-! ### Sheaf additions -/

/-- The first waiting addition writes its cell at priority 5; one of more than 65 535 takes several (R453). Cut after its first word it
leaves the cell invalid and is lost (R454). -/
def State.sheafStep (cut : Bool) (s : State) : State :=
  if !s.rdy Rdy.nvstore || !s.nv.good || s.logWaits || s.nv.queue.any (fun o => decide (o.prio < 5)) then s else
  match s.nv.sheaf with
  | [] => s
  | (n, a) :: _ =>
    let k := min a 65535
    let nv := { s.nv with sheaf := s.nv.sheaf.set n (a - k) }
    { s with nv := match nv.sheafCell n k with
      | some (c, bs) => nv.write (cellAddr n c) (if cut then bs.take 8 else bs)
      | none => nv }

/-- SHEAF_ADDITION (R453). -/
def execSheafAddition (a : At) (cut : Bool) (s : State) : Host.Outcome State Fault Refusal :=
  .next ((s.advance a).sheafStep cut)

/-! ### Record writes -/

/-- The internal write served next: system types before others (R442). -/
def Nv.nextSave (n : Nv) : Option SaveReq :=
  match n.saves.find? (fun q => decide (q.typ ≤ 0x000F)) with
  | some q => some q
  | none => n.saves.head?

/-- Queue the pages of a record at page `p`: ascending, the header page last (R447). -/
def Nv.queueRecord (n : Nv) (q : SaveReq) (p : Nat) : Nv :=
  let r := n.headerFor q p
  let m := (recordOps r q.payload).foldl (fun t o => t.queuePage 6 o.1 o.2) n
  { m with reserved := m.reserved ++ [r], logSeq := m.logSeq + 1 }

/-- Serve an internal write: refused under R451, queued, or left for COMPACTION when no run is long enough (R448). -/
def State.recordWrite (s : State) : State :=
  if !s.rdy Rdy.nvstore || !s.nv.good then s else
  match s.nv.nextSave with
  | none => s
  | some q =>
    let n := { s.nv with saves := s.nv.saves.erase q }
    if !n.admits q then State.storeFullRecord q { s with nv := n }
    else match n.findRun (recordPages q.payload.length) with
      | some p => { s with nv := n.queueRecord q p }
      | none => { s with nv.compacting := true }

/-- RECORD_WRITE (R447). -/
def execRecordWrite (a : At) (s : State) : Host.Outcome State Fault Refusal := .next (s.advance a).recordWrite

/-- The store compacts and the write that waited follows (R448). -/
def State.compaction (s : State) : State :=
  if !s.nv.compacting || !s.nv.good then s else
  match s.nv.nextSave with
  | none => { s with nv.compacting := false }
  | some q =>
    let n := { s.nv.compact 2048 (recordPages q.payload.length) with compacting := false, saves := s.nv.saves.erase q }
    match n.findRun (recordPages q.payload.length) with
    | some p => { s with nv := n.queueRecord q p }
    | none => State.storeFullRecord q { s with nv := n }

/-- COMPACTION (R448). -/
def execCompaction (a : At) (s : State) : Host.Outcome State Fault Refusal := .next (s.advance a).compaction

/-! ### Scrubbing -/

/-- Words of a page, as addresses div 8. -/
def pageWord (page w : Nat) : Nat := page * 32 + w

/-- The counters whose value falls when these words go bad write SHEAF_CELL_LOST (R454). -/
def State.sheafLost (before : Nv) (ns : List Nat) (s : State) : State :=
  State.each ns (fun n t =>
    let old := before.sheafValue n
    let new := t.nv.sheafValue n
    if new < old then t.record3 2 3 0x0006 (le 2 n ++ le 6 old ++ le 6 new) 0 else t) s

/-- What a read of a page found: corrected words are rewritten through the journal, uncorrectable ones are recorded (R437). -/
def State.eccFound (page : Nat) (corrected bad : List Nat) (s : State) : State :=
  let n1 := if corrected.isEmpty then s.nv else
    { s.nv with eccCount := s.nv.eccCount + corrected.length, eccLastPage := page }
  let n2 := if corrected.isEmpty || !pageWritable page then n1 else n1.queuePage 8 page (n1.page page)
  let fresh := (bad.map (pageWord page)).filter (fun w => !n2.badWords.contains w)
  let n3 := { n2 with badWords := n2.badWords ++ fresh }
  let t := State.each fresh (fun w u => u.record3 2 4 0x0003 (le 2 page ++ le 1 (w % 32) ++ le 1 (partitionOf page)) 0)
    { s with nv := n3 }
  if page < 0x7400 ∨ 0x7600 ≤ page then t
  else t.sheafLost s.nv (dedup (fresh.map (fun w => (w * 8 - 0x740000) / 128)))

/-- A scrub step is due: 16 turns after the last (R438). -/
def State.scrubDue (s : State) : Bool := s.nv.scrubTurn.all (fun n => decide (n + 16 ≤ s.turn))

/-- MRAM_SCRUB_STEP (R438): the next page is read; the operands are the words ECC corrected and those it could not. -/
def execMramScrubStep (a : At) (corrected bad : List Nat) (s : State) : Host.Outcome State Fault Refusal :=
  let t := s.advance a
  .next (if t.rdy Rdy.nvstore && t.scrubDue then
    let u := t.eccFound t.nv.scrubPage (corrected.filter (fun w => decide (w < 32))) (bad.filter (fun w => decide (w < 32)))
    { u with nv.scrubPage := (t.nv.scrubPage + 1) % 32768, nv.scrubTurn := some t.turn }
  else t)

/-- The ECC_CORRECTED record of a turn boundary, once per 4 096 turns (R437). -/
def State.eccSummary (s : State) : State :=
  if s.nv.eccCount = 0 ∨ s.turn < s.nv.eccLastTurn + 4096 then s else
  State.record3 2 1 0x0002 (le 4 s.nv.eccCount ++ le 2 s.nv.eccLastPage) 0
    { s with nv.eccCount := 0, nv.eccLastTurn := s.turn }

/-! ### Recovery -/

/-- A commit word: SEQ, PAGE and STATE when its ECC is clean and its CHECK matches (R439). -/
def Nv.commitAt (n : Nv) (k : Nat) : Option (Nat × Nat × Nat) :=
  let w := leNat (n.mem.readBytes (commitAddr k) 8)
  let seq := bitsOf w 32 16
  let page := bitsOf w 17 15
  let slot := n.mem.readBytes (slotAddr k) 256
  if (n.badIn (commitAddr k) 8).isEmpty && bitsOf w 48 16 == crc32c (commitLow seq page 0 ++ slot) % 65536 then
    some (seq, page, bitsOf w 0 2)
  else none

/-- Commit words whose CHECK matches, with their slots. -/
def Nv.commits (n : Nv) : List (Nat × Nat × Nat × Nat) :=
  (upTo 15).filterMap (fun k => (n.commitAt k).map (fun c => (k, c)))

/-- Redo one INTENT word: its slot into its page, then DONE (R456). -/
def Nv.redo (n : Nv) (c : Nat × Nat × Nat × Nat) : Nv :=
  let d := n.mem.readBytes (slotAddr c.1) 256
  (n.write (c.2.2.1 * 256) d).write (commitAddr c.1) (commitWord c.2.1 c.2.2.1 2 d)

/-- INTENT words to be redone, in serial order of SEQ (R456). -/
def Nv.intents (n : Nv) : List (Nat × Nat × Nat × Nat) :=
  sortBy (fun a b => newer 16 b.2.1 a.2.1) (n.commits.filter (fun c => c.2.2.2 == 1 && pageWritable c.2.2.1))

/-- INTENT words whose PAGE lies outside the writable partitions: set FREE (R456). -/
def Nv.strays (n : Nv) : List (Nat × Nat × Nat × Nat) :=
  n.commits.filter (fun c => c.2.2.2 == 1 && !pageWritable c.2.2.1)

/-- The newest SEQ among the commit words in force, or 0 (R456). -/
def Nv.newestSeq (n : Nv) : Nat :=
  match (n.commits.filter (fun c => pageWritable c.2.2.1)).map (fun c => c.2.1) with
  | [] => 0
  | x :: xs => xs.foldl (fun b q => if newer 16 q b then q else b) x

/-- Pages of the record store that hold any written byte. -/
def Nv.recordPagesTouched (n : Nv) : List Nat :=
  dedup ((n.mem.keys.filter (fun a => decide (recordBase ≤ a) && decide (a < recordBase + 0x80000))).map (fun a => (a - recordBase) / 256))

/-- All good headers of the store. -/
def Nv.headers (n : Nv) : List RecInfo := n.recordPagesTouched.filterMap n.headerAt

/-- The record index: every valid record (R446, R456). -/
def Nv.reindex (n : Nv) : Nv :=
  let rs := n.headers.filter (fun r => (n.recFault r).isNone)
  { n with index := rs, reserved := []
           logSeq := BitVec.ofNat 32 (rs.foldl (fun b r => if newer 32 r.logseq b then r.logseq else b) 0) }

/-- Failed headers that would otherwise have been in force (R456): type, key and cause. -/
def Nv.invalids (n : Nv) : List (Nat × Nat × Nat) :=
  n.headers.filterMap (fun r => match n.recFault r with
    | some c =>
      if (n.headers.filter (fun o => o.typ == r.typ && o.key == r.key && (n.recFault o).isNone)).all (fun o => newer 32 r.seq o.seq) then
        some (r.typ, r.key, c)
      else none
    | none => none)

/-- The record of a set member as its commit record lists it (R449). -/
def Nv.memberRec (n : Nv) (typ : Nat) (m : Nat × Nat) : Option RecInfo :=
  n.index.find? (fun r => r.typ == typ && r.key == m.1 && r.seq == m.2)

/-- Whether a set in force is complete (R449). -/
def Nv.setWhole (n : Nv) (typ : Nat) : Bool := (n.members typ).all (fun m => (n.memberRec typ m).isSome)

/-- Payloads of a complete set's members by KEY; none where the set is absent or damaged (R449). -/
def Nv.loadSet (n : Nv) (typ : Nat) : Option (List (Nat × List Byte)) :=
  if (n.load typ 0xFFFF).isNone || !n.setWhole typ then none
  else some ((n.members typ).filterMap (fun m => (n.memberRec typ m).map (fun r => (m.1, n.payload r))))

/-- Binnacle's state from its record (R476). -/
def Binnacle.restore (b : Binnacle) (p : List Byte) : Binnacle :=
  let st := fun i => SlotState.ofCode (fieldAt p i 1)
  { b with slotA := st 0, slotB := st 1, bin0 := st 2, bin1 := st 3, failures := fieldAt p 4 1, autopilot := fieldAt p 5 1 == 1
           ackSeq := fieldAt p 6 6, versionA := fieldAt p 12 4, versionB := fieldAt p 16 4, version0 := fieldAt p 20 4
           version1 := fieldAt p 24 4 }

/-- VERSION in the image header of a firmware slot's first address (R27, R483). -/
def Nv.imageVersion (n : Nv) (base : Nat) : Nat := fieldAt (n.mem.readBytes (base + 4) 4) 0 4

/-- An UPDATE record (R487): event 1 begun, 2 verified, 3 rejected, 4 trial, 5 passed, 6 rolled back. -/
def State.updateRecord (binnacle : Bool) (slot event version : Nat) (s : State) : State :=
  s.record 0 2 0x0008 (le 1 (bit binnacle) ++ le 1 slot ++ le 1 event ++ le 4 version) false 0

/-- A firmware slot: service A and B, Binnacle 0 and 1 (R476). -/
def Binnacle.slot (b : Binnacle) (i : Nat) : SlotState :=
  if i = 0 then b.slotA else if i = 1 then b.slotB else if i = 2 then b.bin0 else b.bin1

/-- VERSION of a firmware slot's image. -/
def Binnacle.version (b : Binnacle) (i : Nat) : Nat :=
  if i = 0 then b.versionA else if i = 1 then b.versionB else if i = 2 then b.version0 else b.version1

/-- Put a firmware slot into a state. -/
def Binnacle.setSlot (b : Binnacle) (i : Nat) (x : SlotState) : Binnacle :=
  if i = 0 then { b with slotA := x } else if i = 1 then { b with slotB := x }
  else if i = 2 then { b with bin0 := x } else { b with bin1 := x }

/-- A trial that the reset interrupted fails (R486); one not yet started, in autopilot, stands (R476). -/
def State.failTrial (i : Nat) (s : State) : State :=
  if s.bin.slot i = SlotState.trial && s.bin.trialBin != some (decide (2 ≤ i)) then
    let t := State.updateRecord (decide (2 ≤ i)) (i % 2) 6 (s.bin.version i) { s with bin := s.bin.setSlot i .rejected }
    t.save { typ := 8, key := 0, payload := t.bin.payload }
  else s

/-- Binnacle's persistent state at a start: the copy of the retained area where it awaits writing (R477), else its record, or
the state as delivered with the VERSIONs of the image headers (R476). -/
def State.restoreBinnacle (s : State) : State :=
  let kept := (s.nv.saves.find? (fun q => q.typ == 8)).map (fun q => q.payload)
  let t := match kept.or (s.nv.load 8 0) with
    | some p => { s with bin := s.bin.restore p }
    | none => { s with bin.versionA := s.nv.imageVersion 0, bin.version0 := s.nv.imageVersion 0x500000 }
  State.each (upTo 4) State.failTrial t

/-- TIME_BASE from the record store (R337): invalid where the Almanac reports WRAPPED. -/
def State.loadTimeBase (s : State) : State :=
  match s.nv.load 2 0 with
  | some p =>
    let held := fieldAt p 8 1 == 1
    let tb := sext 64 (fieldAt p 0 8)
    let t := { s with svc.timeBase := tb, svc.timeValid := held && !s.alm.wrapped }
    t.when (held && s.alm.wrapped) (fun u => u.save { typ := 2, key := 0, payload := le 8 (fieldAt p 0 8) ++ le 4 0 })
  | none => s

/-- After a Binnacle restart the operations that waited still wait (R478); after a reset there are none. -/
def Nv.resume (n : Nv) (restart : Bool) (old : Nv) : Nv :=
  if restart then { n with queue := old.queue, reserved := old.reserved } else { n with queue := [], reserved := [] }

/-- The journal redo and the record index of R456, with their records (R458). -/
def State.recoverStore (s : State) : State :=
  let strays := s.nv.strays
  let redone := s.nv.intents
  let n1 := strays.foldl (fun n c => n.write (commitAddr c.1) (List.replicate 8 0)) s.nv
  let n2 := redone.foldl (fun n c => n.redo c) n1
  let n3 := ({ n2 with journalSeq := BitVec.ofNat 16 n2.newestSeq, compacting := false } : Nv).reindex.resume (s.rdy Rdy.meridian) n2
  let t1 := State.each strays (fun _ t => t.record3 2 3 0x0004 (le 2 0 ++ le 2 0 ++ le 1 4) 0) { s with nv := n3 }
  let t2 := if redone.isEmpty then t1 else t1.record3 2 2 0x0001 (le 1 redone.length ++ le 2 n3.journalSeq.toNat) 0
  let unread := n3.headers.filter (fun r => n3.recFault r == some 2)
  let t2 := State.each unread (fun r t => t.unread (recordBase + r.page * 256) (r.pages * 256)) t2
  let t3 := State.each n3.invalids (fun x t => t.record3 2 3 0x0004 (le 2 x.1 ++ le 2 x.2.1 ++ le 1 x.2.2) 0) t2
  State.each ([5, 16].filter (fun ty => !n3.setWhole ty)) (fun ty t => t.record3 2 3 0x0004 (le 2 ty ++ le 2 0xFFFF ++ le 1 3) 0) t3

/-- A Binnacle slot found in one of these states whose image verifies; bit i of `images` says so of slot i. -/
def Binnacle.slotFor (b : Binnacle) (images : Nat) (x : SlotState) : Option Nat :=
  [2, 3].find? (fun i => b.slot i == x && bitOf images (i - 2))

/-- The Binnacle slots after the verification of R1: the image on trial or in the ACTIVE slot starts when it verifies. A trial that
fails verification leaves the former ACTIVE slot to start (R486). An ACTIVE slot that fails gives way to the PREVIOUS one (R484), as
R474 rules for the service image (assumption 149). None where no image verifies: none is started. -/
def Binnacle.imageFor (b : Binnacle) (images : Nat) : Option Binnacle :=
  let c := ([2, 3].filter (fun i => b.slot i == .trial && !bitOf images (i - 2))).foldl (fun x i => x.setSlot i .rejected) b
  if (c.slotFor images .trial).isSome || (c.slotFor images .active).isSome then some c
  else match [2, 3].find? (fun i => c.slot i == .active), c.slotFor images .previous with
    | some i, some j => some ((c.setSlot i .rejected).setSlot j .active)
    | _, _ => none

/-- Binnacle's state at a start, after the verification of its image: a change is recorded and saved (R476, R487). -/
def State.imageVerified (images : Nat) (s : State) : Option State :=
  (s.bin.imageFor images).map (fun b =>
    let gone := [2, 3].filter (fun i => b.slot i == .rejected && s.bin.slot i != .rejected)
    let t := State.each gone (fun i u =>
      State.updateRecord true (i % 2) (if s.bin.slot i = SlotState.trial then 6 else 3) (s.bin.version i) u) { s with bin := b }
    if gone.isEmpty then t else t.save { typ := 8, key := 0, payload := t.bin.payload })

/-- The hold-up measurement counts its turns on the stamp that T0 gives (R524). -/
def State.holdFromT0 (s : State) : State := if s.sup.holdTurn.isSome then { s with sup.holdTurn := some s.turn } else s

/-- NV_RECOVERY (R456, R529, R530, R613): the Binnacle image is verified and started, and NVSTORE and MERIDIAN rise in one update.
What became of the service image's verification is kept for a start in autopilot (R475). After a Binnacle restart MERIDIAN still stands,
and only NVSTORE rises (R478). -/
def State.nvRecovery (found : Recovery) (s : State) : State :=
  if !s.rdy Rdy.binnacle || !s.nv.good || s.rdy Rdy.nvstore || !(s.rdy Rdy.almanac || found.late) then s else
  let t := s.recoverStore
  let again := t.rdy Rdy.meridian
  match (if again then t else t.restoreBinnacle).imageVerified found.images with
  | none => s
  | some v =>
    let u := { v with bin.svcVerified := found.service }
    if again then u.updateReady [Rdy.nvstore] []
    else (u.loadTimeBase.assignT0.holdFromT0).updateReady [Rdy.nvstore, Rdy.meridian] []

/-- NV_RECOVERY (R456). -/
def execNvRecovery (a : At) (found : Recovery) (s : State) : Host.Outcome State Fault Refusal :=
  .next ((s.advance a).nvRecovery found)

/-! ### SHEAF_READ -/

/-- SHEAF_READ (R405): reserved counters are never written and read 0 (R455); an uncorrectable cell is not valid (R437). -/
def opSheafRead : OpDef :=
  { cls := 4, opcode := 7, fns := [2], fallback := true
    len := fun n => n == 0
    content := fun _ r => decide (r.target < 1024)
    body := whileFree 4 7 (fun r s => (s.unread (cellAddr r.target 0) 128).ok (le 6 (s.sheafValue r.target) ++ le 2 0)) }

/-- SHEAF_READ (R453). -/
def execSheafRead (a : At) (r : Req) (s : State) : Host.Outcome State Fault Refusal := .next (serve opSheafRead r (s.advance a))

end Sys2Proof.Machine
end

