-- ==== Sys2Proof/Machine/Almanac.lean ====
section
/-! DEFINITION. Machine/Almanac.lean: the wall clock: commits, alarms, trim, lock-out, domain power and its operations
(R543–R557). -/

namespace Sys2Proof.Machine

/-- One of the two alarms. -/
def Almanac.alarm (m : Almanac) (n : Nat) : AlmAlarm := if n = 0 then m.alarm0 else m.alarm1

/-- Change one of the two alarms. -/
def Almanac.setAlarm (m : Almanac) (n : Nat) (f : AlmAlarm → AlmAlarm) : Almanac :=
  if n = 0 then { m with alarm0 := f m.alarm0 } else { m with alarm1 := f m.alarm1 }

/-- The ALARM record (R549, R551, R557): it posts an event entry. -/
def State.alarmRecord (n : Nat) (offline : Bool) (s : State) : State :=
  let x := s.alm.alarm n
  s.record 1 1 0x0001 (le 1 n ++ le 1 x.cause ++ le 1 (bit offline) ++ le 6 x.value) true n

/-- Alarm `n` fires with a cause (R549); its record waits while ALMANAC is clear (R551). -/
def State.fireAlarm (n cause : Nat) (s : State) : State :=
  let t := { s with alm := s.alm.setAlarm n (fun x => { x with fired := true, cause := cause, owed := !s.rdy Rdy.almanac, woke := true }) }
  if s.rdy Rdy.almanac then t.alarmRecord n false else t

/-- An alarm that is enabled, has not fired and whose value the count has reached (R549). -/
def Almanac.due (m : Almanac) (n : Nat) : Bool :=
  let x := m.alarm n
  !m.dead && x.enabled && !x.fired && decide (x.value ≤ m.count.toNat)

/-- ALARM (R549): an alarm fires because the count has reached its value. -/
def execAlarm (a : At) (n : Nat) (s : State) : Host.Outcome State Fault Refusal :=
  let t := s.advance a
  .next (if decide (n < 2) && t.alm.due n then t.fireAlarm n 1 else t)

/-- WRAPPED (R543, R553): the record of a roll-over, once ALMANAC is set; the services lose TIME_BASE (R337). -/
def execWrapped (a : At) (s : State) : Host.Outcome State Fault Refusal :=
  let t := s.advance a
  .next (if t.alm.wrapOwed then
    let u := { t with svc.timeValid := false }
    if t.rdy Rdy.almanac then State.record3 1 3 0x0005 [] 0 { u with alm.wrapOwed := false } else u
  else t)

/-- POWER_LOST (R553): the record of a domain power-on, written when ALMANAC rises. -/
def execPowerLost (a : At) (s : State) : Host.Outcome State Fault Refusal :=
  let t := s.advance a
  .next (if t.alm.powerLostOwed && t.rdy Rdy.almanac then
    State.record3 1 3 0x0004 [] 0 { t with alm.powerLostOwed := false }
  else t)

/-! ### Commits -/

/-- The next waiting write goes to the registers (R547, R550, R556). -/
def Almanac.start (m : Almanac) : Almanac :=
  match m.writes with
  | [] => m
  | w :: _ => match w.alarm with
    | none => { m with pendingHi := some (w.value / 2 ^ 32), lastHi := w.value / 2 ^ 32, pendingLo := some (w.value % 2 ^ 32) }
    | some n => m.setAlarm n (fun x => { x with pendingHi := w.value / 2 ^ 32, pendingEn := w.enable, commit := some (w.value, w.enable) })

/-- A write joins those that are performed one at a time (R556). -/
def Almanac.enqueue (m : Almanac) (w : AlmWrite) : Almanac :=
  let m' := { m with writes := m.writes ++ [w] }
  if m.writes.isEmpty then m'.start else m'

/-- Whether a commit waits for its crystal edge. -/
def Almanac.committing (m : Almanac) : Bool := m.pendingLo.isSome || m.alarm0.commit.isSome || m.alarm1.commit.isSome

/-- The count the domain reaches at the next edge without a commit: tick and trim action (R543, R544). -/
def Almanac.edge (m : Almanac) : Almanac :=
  let m0 := if m.cycle < grainsPerTurn then m else { m with cycle := 0, trim := m.trimNew }
  let total := m0.count.toNat + ticksOver m0.trim m0.cycle (m0.cycle + 1)
  { m0 with
    cycle := m0.cycle + 1
    count := BitVec.ofNat 48 total
    wrapped := m0.wrapped || decide (2 ^ 48 ≤ total)
    wrapOwed := m0.wrapOwed || decide (2 ^ 48 ≤ total) }

/-- A running plan is discarded (R179): cause 1 commit, 2 Almanac write, 3 WAYPOINT clear. -/
def State.discardPlan (cause : Nat) (s : State) : State :=
  if s.plan.running || s.plan.readySet then
    State.record 14 1 0x0001 (le 1 cause ++ le 8 s.plan.startStamp.toNat) false 0 { s with plan.running := false, plan.readySet := false }
  else s

/-- The TIME_BASE record (R337): 48 bits of ticks with a fraction of 16. -/
def State.saveTimeBase (s : State) : State :=
  s.save { typ := 2, key := 0, payload := le 8 (ofSigned 64 s.svc.timeBase) ++ le 1 (bit s.svc.timeValid) ++ le 3 0 }

/-- A count commit at an edge (R547, R548, R61, R338, R179): `before` is the count without it. -/
def State.countCommit (before value : Nat) (s : State) : State :=
  let oldEpoch := s.alm.epoch.toNat
  let epoch := s.alm.epoch + 1
  let shift : Int := (value : Int) - before
  let m := { s.alm with
    count := BitVec.ofNat 48 value, pendingLo := none, pendingHi := none, epoch := epoch, wrapped := false, powerLost := false
    lastCheck := ofSigned 48 ((s.alm.lastCheck : Int) + shift) }
  let t := State.record3 1 2 0x0002 (le 6 before ++ le 6 value ++ le 1 epoch.toNat) 0 { s with alm := m }
  let u := if t.rdy Rdy.meridian then (t.takeSetPoint before oldEpoch).takeSetPoint value epoch.toNat else t
  let v := if u.svc.timeValid then State.saveTimeBase { u with svc.timeBase := u.svc.timeBase + shift * 65536 } else u
  let w := v.discardPlan 2
  { w with plan.replan := true, plan.lastTicks := none }

/-- The alarm commits of an edge (R550): a commit clears FIRED and CAUSE. -/
def Almanac.alarmCommits (m : Almanac) : Almanac :=
  let f := fun (x : AlmAlarm) => match x.commit with
    | some (v, e) => { x with value := v, enabled := e, fired := false, cause := 0, owed := false, commit := none }
    | none => x
  { m with alarm0 := f m.alarm0, alarm1 := f m.alarm1 }

/-- Evaluation of alarm `n` after an edge (R549, R550): ARM when it was committed here, SET when a count commit moved the count
from below its value, TICK otherwise. -/
def State.alarmEval (n : Nat) (armed : Bool) (moved : Option Nat) (s : State) : State :=
  if !s.alm.due n then s else
  let cause := if armed then 3 else match moved with
    | some before => if before < (s.alm.alarm n).value then 2 else 1
    | none => 1
  s.fireAlarm n cause

/-- The crystal edge at which waiting commits take effect, in the order of R550; the write that waited is answered and the next
one starts (R556). -/
def State.commitEdge (s : State) : State :=
  if !s.alm.committing || s.alm.dead then s else
  let armed0 := s.alm.alarm0.commit.isSome
  let armed1 := s.alm.alarm1.commit.isSome
  let m := s.alm.edge
  let before := m.count.toNat
  let value := s.alm.pendingLo.map (fun lo => (s.alm.pendingHi.getD s.alm.lastHi) * 2 ^ 32 + lo)
  let t := match value with
    | some v => State.countCommit before v { s with alm := { m with wrapped := s.alm.wrapped, wrapOwed := s.alm.wrapOwed } }
    | none => { s with alm := m }
  let u := { t with alm := t.alm.alarmCommits }
  let moved := value.map (fun _ => before)
  let w := (u.alarmEval 0 armed0 moved).alarmEval 1 armed1 moved
  match w.alm.writes with
  | [] => w
  | x :: rest =>
    State.finish x.session x.tag (w.resp .done) { w with alm := ({ w.alm with writes := rest } : Almanac).start }

/-- ALMANAC_COMMIT_EDGE (R547). -/
def execAlmanacCommitEdge (a : At) (s : State) : Host.Outcome State Fault Refusal := .next (s.advance a).commitEdge

/-! ### Registers (R546, R547, R550, R555) -/

/-- COUNT_LO_READ (R546): the shadow takes bits 47:32. -/
def execCountLoRead (a : At) (s : State) : Host.Outcome State Fault Refusal :=
  let t := s.advance a
  .next (if t.alm.locked then t else { t with alm.shadow := t.alm.count.toNat / 2 ^ 32 })

/-- COUNT_LO_WRITE (R547): the commit waits for the next crystal edge. -/
def execCountLoWrite (a : At) (lo : Nat) (s : State) : Host.Outcome State Fault Refusal :=
  let t := s.advance a
  .next (if t.alm.locked then t else
    { t with alm.pendingLo := some (lo % 2 ^ 32), alm.lastHi := t.alm.pendingHi.getD t.alm.lastHi })

/-- ALARM_LO_WRITE (R550): value and enable wait for the next crystal edge. -/
def execAlarmLoWrite (a : At) (n lo : Nat) (s : State) : Host.Outcome State Fault Refusal :=
  let t := s.advance a
  .next (if t.alm.locked || decide (2 ≤ n) then t else
    { t with alm := t.alm.setAlarm n (fun x => { x with commit := some (x.pendingHi * 2 ^ 32 + lo % 2 ^ 32, x.pendingEn) }) })

/-- TRIM as written: values outside −536 to +536 are ignored (R544, R555). -/
def Almanac.writeTrim (m : Almanac) (v : Int) : Almanac := if -536 ≤ v ∧ v ≤ 536 then { m with trimNew := v } else m

/-- A write of a domain register that has no row of its own (R555). -/
def Almanac.writeReg (m : Almanac) (off v : Nat) : Almanac :=
  if m.locked then m
  else if off = 0x04 then { m with pendingHi := some (v % 65536) }
  else if off = 0x08 then m.writeTrim (sext 16 v)
  else if off = 0x0C then
    { m with alarm0 := { m.alarm0 with pendingEn := bitOf v 0 }, alarm1 := { m.alarm1 with pendingEn := bitOf v 1 } }
  else if off = 0x18 then m.setAlarm 0 (fun x => { x with pendingHi := v % 65536 })
  else if off = 0x20 then m.setAlarm 1 (fun x => { x with pendingHi := v % 65536 })
  else if 0x40 ≤ off ∧ off < 0x80 ∧ off % 4 = 0 then { m with backup := m.backup.writeBytes (off - 0x40) (le 4 v) }
  else m

/-- TRIM_PERIOD_START (R544): the cycles left of the period pass, and a new TRIM takes effect. -/
def execTrimPeriodStart (a : At) (s : State) : Host.Outcome State Fault Refusal :=
  let t := s.advance a
  let m := t.alm.advance (grainsPerTurn - t.alm.cycle)
  .next (if t.alm.committing || t.alm.dead then t else { t with alm := { m with cycle := 0, trim := m.trimNew } })

/-! ### Lock-out, the crystal check and domain power -/

/-- High parts written without their low parts are discarded (R547, R550): the next low part commits with that of the previous commit. -/
def Almanac.dropPending (m : Almanac) : Almanac :=
  let f := fun (x : AlmAlarm) => { x with pendingHi := (x.commit.map (fun c => c.1)).getD x.value / 2 ^ 32 }
  { m with pendingHi := none, alarm0 := f m.alarm0, alarm1 := f m.alarm1 }

/-- The interface locks (R552): Binnacle reads the count once, a pending high part is discarded, operations that wait are
aborted (R535); a commit that waits for its edge completes inside the domain. -/
def State.lockAlmanac (s : State) : State :=
  let m := { s.alm.dropPending with locked := true, lockCount := some s.alm.count.toNat, lockClock := s.clock, writes := [] }
  State.abortFn 1 { s with alm := m }

/-- The interface opens: ALMANAC rises, and alarms that fired meanwhile write their records with OFFLINE (R551, R552). -/
def State.openAlmanac (s : State) : State :=
  if s.alm.dead || s.alm.tickFault || s.rdy Rdy.almanac then s else
  let t := State.updateReady [Rdy.almanac] []
    { s with alm := { s.alm with locked := false, lockCount := none, lastCheck := s.alm.count.toNat } }
  if !t.rdy Rdy.almanac then s else
  State.each ((upTo 2).filter (fun n => (t.alm.alarm n).owed)) (fun n u =>
    State.alarmRecord n true { u with alm := u.alm.setAlarm n (fun x => { x with owed := false }) }) t

/-- ALMANAC clears and the interface locks (R545, R552). -/
def State.closeAlmanac (s : State) : State := if s.rdy Rdy.almanac then (s.lockAlmanac).lower [Rdy.almanac] else s

/-- The check of R545 against `expected` ticks. -/
def State.crystalCheck (expected : Nat) (s : State) : State :=
  let adv := (s.alm.count - BitVec.ofNat 48 s.alm.lastCheck).toNat
  let pass := decide (((adv : Int) - expected).natAbs * 100 ≤ expected)
  let fail := decide (2 * adv < expected)
  let t := { s with alm := { s.alm with
    lastCheck := s.alm.count.toNat
    checkTurn := some s.turn
    passRun := if pass then s.alm.passRun + 1 else 0
    failRun := if fail then s.alm.failRun + 1 else 0 } }
  if !t.alm.tickFault && decide (2 ≤ t.alm.failRun) then
    State.record3 1 3 0x0006 (le 1 1 ++ le 4 adv) 0 (State.closeAlmanac { t with alm.tickFault := true })
  else if t.alm.tickFault && decide (2 ≤ t.alm.passRun) then
    State.record3 1 3 0x0006 (le 1 0 ++ le 4 adv) 0 
      (State.when (decide (10 ≤ t.sen.railGood)) State.openAlmanac { t with alm.tickFault := false })
  else t

/-- ALMANAC_CRYSTAL_CHECK (R545), once every 64 turns: `expected` is the number of ticks that the crystal, or the disciplined RC, gives for the
interval, TRIM allowed for. -/
def execAlmanacCrystalCheck (a : At) (expected : Nat) (s : State) : Host.Outcome State Fault Refusal :=
  let t := s.advance a
  .next (if t.rdy Rdy.binnacle && t.rdy Rdy.meridian && !t.alm.dead && t.alm.checkTurn.all (fun n => decide (n + 64 ≤ t.turn)) then
      t.crystalCheck expected
    else t)

/-- Domain power-on (R553): every register takes its reset value, WRAPPED and POWER_LOST are set, and T0 and UTC can no longer
use the count. -/
def State.domainPowerOn (s : State) : State :=
  { s with alm := { dead := false, powerLostOwed := true, locked := s.alm.locked }, svc.timeValid := false }

/-- DOMAIN_POWER_ON (R553): while the module is OFF nothing else reports that VBAT had fallen below 1.8 V. -/
def execDomainPowerOn (a : At) (s : State) : Host.Outcome State Fault Refusal :=
  let t := s.advance a
  .next (if t.alm.dead || !t.powered then t.domainPowerOn else t)

/-! ### Operations (R406, R556) -/

/-- ALMANAC_READ (R546, R556). -/
def opAlmanacRead : OpDef :=
  { cls := 5, opcode := 0x0013, fns := [1], fallback := true
    len := fun n => n == 0
    content := fun _ r => r.target == 0
    body := fun _ s =>
      let m := s.alm
      let flags := bit m.wrapped + 2 * bit m.alarm0.fired + 4 * bit m.alarm1.fired + 8 * bit m.powerLost + 16 * bit m.tickFault
      State.ok { s with alm.shadow := m.count.toNat / 2 ^ 32 }
        (le 6 m.count.toNat ++ le 1 flags ++ le 1 m.epoch.toNat ++ le 2 (ofSigned 16 m.trimNew) ++ le 6 0) }

/-- ALMANAC_READ (R556). -/
def execAlmanacRead (a : At) (r : Req) (s : State) : Host.Outcome State Fault Refusal := .next (serve opAlmanacRead r (s.advance a))

/-- ALMANAC_WRITE (R556): performed one at a time, answered after its own commit edge. -/
def opAlmanacWrite : OpDef :=
  { cls := 5, opcode := 0x0014, fns := [1], fallback := true
    len := fun n => n == 8
    content := fun _ r => r.target == 0 && allZero (r.payload.drop 6)
    expert := fun _ _ => true
    body := fun r s => ({ s with alm := s.alm.enqueue { session := r.session, tag := r.tag, value := fieldAt r.payload 0 6 } }, none) }

/-- ALMANAC_WRITE (R556). -/
def execAlmanacWrite (a : At) (r : Req) (s : State) : Host.Outcome State Fault Refusal := .next (serve opAlmanacWrite r (s.advance a))

/-- ALMANAC_TRIM (R544, R556). -/
def opAlmanacTrim : OpDef :=
  { cls := 5, opcode := 0x0015, fns := [1], fallback := true
    len := fun n => n == 4
    content := fun _ r => r.target == 0 && allZero (r.payload.drop 2) && decide ((sext 16 (fieldAt r.payload 0 2)).natAbs ≤ 536)
    expert := fun _ _ => true
    body := fun r s =>
      let v := sext 16 (fieldAt r.payload 0 2)
      State.ok (State.record3 1 1 0x0003 (le 2 (ofSigned 16 s.alm.trimNew) ++ le 2 (ofSigned 16 v)) 0
        { s with alm := s.alm.writeTrim v }) }

/-- ALMANAC_TRIM (R544). -/
def execAlmanacTrim (a : At) (r : Req) (s : State) : Host.Outcome State Fault Refusal := .next (serve opAlmanacTrim r (s.advance a))

/-- ALMANAC_ALARM (R550, R556). -/
def opAlmanacAlarm : OpDef :=
  { cls := 5, opcode := 0x0016, fns := [1], fallback := true
    len := fun n => n == 12
    content := fun _ r => r.target == 0 && decide (fieldAt r.payload 0 1 ≤ 1) && decide (fieldAt r.payload 1 1 ≤ 1) &&
      allZero ((r.payload.drop 2).take 2) && allZero (r.payload.drop 10)
    expert := fun _ _ => true
    body := fun r s =>
      let w : AlmWrite :=
        { session := r.session, tag := r.tag, alarm := some (fieldAt r.payload 0 1)
          enable := fieldAt r.payload 1 1 == 1, value := fieldAt r.payload 4 6 }
      ({ s with alm := s.alm.enqueue w }, none) }

/-- ALMANAC_ALARM (R550). -/
def execAlmanacAlarm (a : At) (r : Req) (s : State) : Host.Outcome State Fault Refusal := .next (serve opAlmanacAlarm r (s.advance a))

/-- BACKUP_READ (R556). COUNT bytes from OFFSET must lie in the 64. -/
def opBackupRead : OpDef :=
  { cls := 5, opcode := 0x0017, fns := [1], fallback := true
    len := fun n => n == 4
    content := fun _ r =>
      let off := fieldAt r.payload 0 1
      let n := fieldAt r.payload 1 1
      r.target == 0 && decide (off ≤ 63) && decide (1 ≤ n ∧ n ≤ 64) && decide (off + n ≤ 64) && allZero (r.payload.drop 2)
    body := fun r s => s.ok (s.alm.backup.readBytes (fieldAt r.payload 0 1) (fieldAt r.payload 1 1)) }

/-- BACKUP_READ (R556). -/
def execBackupRead (a : At) (r : Req) (s : State) : Host.Outcome State Fault Refusal := .next (serve opBackupRead r (s.advance a))

/-- BACKUP_WRITE (R556): LENGTH is 4 + COUNT. -/
def opBackupWrite : OpDef :=
  { cls := 5, opcode := 0x0018, fns := [1], fallback := true
    len := fun n => decide (4 ≤ n)
    fits := fun r => r.payload.length == 4 + fieldAt r.payload 1 1
    content := fun _ r =>
      let off := fieldAt r.payload 0 1
      let n := fieldAt r.payload 1 1
      r.target == 0 && decide (off + n ≤ 64) && allZero ((r.payload.drop 2).take 2)
    expert := fun _ _ => true
    body := fun r s => State.ok { s with alm.backup := s.alm.backup.writeBytes (fieldAt r.payload 0 1) (r.payload.drop 4) } }

/-- BACKUP_WRITE (R556). -/
def execBackupWrite (a : At) (r : Req) (s : State) : Host.Outcome State Fault Refusal := .next (serve opBackupWrite r (s.advance a))

end Sys2Proof.Machine
end

