-- ==== Sys2Proof/Machine/Float32.lean ====
section
/-! DEFINITION. Machine/Float32.lean: binary32 as R146 computes it: exact, rounded once to nearest with ties to even, and
subnormals flushed to zero of the same sign. Values are 32-bit patterns. -/

namespace Sys2Proof

namespace F32

/-- Not a number: exponent all ones, fraction not zero. -/
def isNaN (w : Word32) : Bool := bitsOf w.toNat 23 8 == 255 && bitsOf w.toNat 0 23 != 0

/-- An infinity. -/
def isInf (w : Word32) : Bool := bitsOf w.toNat 23 8 == 255 && bitsOf w.toNat 0 23 == 0

/-- Neither NaN nor infinite. -/
def isFin (w : Word32) : Bool := bitsOf w.toNat 23 8 != 255

/-- Sign bit. -/
def isNeg (w : Word32) : Bool := w.getLsbD 31

/-- The NaN that stands for "no value". -/
def nan : Word32 := 0x7FC00000#32

/-- Infinity and zero of a sign. -/
def inf (neg : Bool) : Word32 := if neg then 0xFF800000#32 else 0x7F800000#32
def zero (neg : Bool) : Word32 := if neg then 0x80000000#32 else 0#32

/-- 1.0. -/
def one : Word32 := 0x3F800000#32

/-- Magnitude of a finite pattern as significand and power of two; a subnormal operand counts as zero (R146). -/
def mag (w : Word32) : Nat × Int :=
  let e := bitsOf w.toNat 23 8
  if e = 0 then (0, 0) else (2 ^ 23 + bitsOf w.toNat 0 23, (e : Int) - 150)

/-- Significand of a finite pattern with its sign. -/
def smag (w : Word32) : Int × Int := (if isNeg w then -((mag w).1 : Int) else (mag w).1, (mag w).2)

/-- Drop the low `k` bits of `m`, rounding to nearest with ties to even. -/
def shiftRne (m k : Nat) : Nat :=
  let q := m / 2 ^ k
  let r := m % 2 ^ k
  if 2 * r < 2 ^ k then q else if 2 ^ k < 2 * r then q + 1 else q + q % 2

/-- The pattern of a significand of at most 25 bits times a power of two, once it is rounded (R146). -/
def packed (neg : Bool) (q : Nat) (e : Int) : Word32 :=
  if q = 0 then zero neg else
  let n := Nat.log2 q
  let q' := if n ≤ 23 then q * 2 ^ (23 - n) else q / 2 ^ (n - 23)
  let b := e + (n : Int) + 127
  if b < 1 then zero neg
  else if 255 ≤ b then inf neg
  else BitVec.ofNat 32 ((if neg then 2 ^ 31 else 0) + b.toNat * 2 ^ 23 + (q' - 2 ^ 23))

/-- The magnitude `m · 2^e` rounded once (R146). -/
def round (neg : Bool) (m : Nat) (e : Int) : Word32 :=
  if Nat.log2 m ≤ 23 then packed neg m e
  else packed neg (shiftRne m (Nat.log2 m - 23)) (e + ((Nat.log2 m - 23 : Nat) : Int))

/-- A signed dyadic number rounded once; an exact zero takes the sign given. -/
def roundInt (zeroNeg : Bool) (m : Int) (e : Int) : Word32 :=
  if m = 0 then zero zeroNeg else round (decide (m < 0)) m.natAbs e

/-- `a · b + c` rounded once (R146). -/
def fma (a b c : Word32) : Word32 :=
  if isNaN a || isNaN b || isNaN c then nan else
  let sp := xor (isNeg a) (isNeg b)
  if isInf a || isInf b then
    if (isInf a && (mag b).1 == 0 && isFin b) || (isInf b && (mag a).1 == 0 && isFin a) then nan
    else if isInf c && isNeg c != sp then nan else inf sp
  else if isInf c then c else
  let ma := smag a
  let mb := smag b
  let mc := smag c
  let p := ma.1 * mb.1
  let pe := ma.2 + mb.2
  let bothNeg := sp && isNeg c
  if p = 0 then (if mc.1 = 0 then zero bothNeg else roundInt false mc.1 mc.2)
  else if mc.1 = 0 then roundInt false p pe
  else
    let e := min pe mc.2
    roundInt false (p * 2 ^ (pe - e).toNat + mc.1 * 2 ^ (mc.2 - e).toNat) e

/-- Negation. -/
def neg (a : Word32) : Word32 := a ^^^ 0x80000000#32

/-- Magnitude. -/
def abs (a : Word32) : Word32 := a &&& 0x7FFFFFFF#32

def add (a b : Word32) : Word32 := fma one a b
def sub (a b : Word32) : Word32 := fma one a (neg b)
def mul (a b : Word32) : Word32 := fma a b 0x80000000#32

/-- The quotient `n / d` of naturals as a magnitude with a sticky bit, times `2^e`, rounded once. -/
def quot (neg : Bool) (n d : Nat) (e : Int) : Word32 :=
  if n = 0 then zero neg else
  let k := 30 + Nat.log2 d
  let q := n * 2 ^ k / d
  let s := if n * 2 ^ k % d = 0 then 0 else 1
  round neg (2 * q + s) (e - (k : Int) - 1)

/-- `a / b` rounded once. -/
def div (a b : Word32) : Word32 :=
  if isNaN a || isNaN b then nan else
  let s := xor (isNeg a) (isNeg b)
  if isInf a then (if isInf b then nan else inf s)
  else if isInf b then zero s
  else if (mag b).1 = 0 then (if (mag a).1 = 0 then nan else inf s)
  else quot s (mag a).1 (mag b).1 ((mag a).2 - (mag b).2)

/-- The rational `n / d` rounded once. -/
def ofRat (n : Int) (d : Nat) : Word32 := if d = 0 then nan else quot (decide (n < 0)) n.natAbs d 0

/-- An integer rounded once. -/
def ofInt (n : Int) : Word32 := roundInt false n 0

/-- A natural rounded once. -/
def ofNat (n : Nat) : Word32 := ofInt n

/-- A finite pattern, exactly, in units of 2^-149. -/
def exact (w : Word32) : Int := (smag w).1 * 2 ^ ((smag w).2 + 149).toNat

/-- A finite pattern against `n / d` as binary32 holds it. -/
def cmpQ (w : Word32) (n : Int) (d : Nat) : Ordering := compare (exact w) (exact (ofRat n d))

/-- A finite pattern as a fraction. -/
def rat (w : Word32) : Int × Nat :=
  let m := smag w
  if 0 ≤ m.2 then (m.1 * 2 ^ m.2.toNat, 1) else (m.1, 2 ^ (-m.2).toNat)

/-- Ordered comparison; false where an operand is NaN. -/
def lt (a b : Word32) : Bool :=
  if isNaN a || isNaN b then false
  else if isInf a then isNeg a && !(isInf b && isNeg b)
  else if isInf b then !isNeg b
  else
    let x := smag a
    let y := smag b
    let e := min x.2 y.2
    decide (x.1 * 2 ^ (x.2 - e).toNat < y.1 * 2 ^ (y.2 - e).toNat)

def le (a b : Word32) : Bool := !isNaN a && !isNaN b && !lt b a

/-- Clamp between two limits. -/
def clamp (lo hi v : Word32) : Word32 := if lt v lo then lo else if lt hi v then hi else v

def max2 (a b : Word32) : Word32 := if lt a b then b else a
def min2 (a b : Word32) : Word32 := if lt b a then b else a

/-- A finite pattern times `k`, rounded to an integer with ties away from zero (R79). -/
def scaled (w : Word32) (k : Nat) : Int :=
  let m := smag w
  if 0 ≤ m.2 then m.1 * 2 ^ m.2.toNat * k else divRound (m.1 * k) (2 ^ (-m.2).toNat)

/-- A pattern times `k` as an integer between two limits: infinities saturate, NaN has no value (R79). -/
def toRange (w : Word32) (k : Nat) (lo hi : Int) : Option Int :=
  if isNaN w then none
  else if isInf w then some (if isNeg w then lo else hi)
  else some (clampI lo hi (scaled w k))

/-- Sum, from left to right. -/
def sum (ws : List Word32) : Word32 := ws.foldl add 0

/-- The whole square root of a number of at most `2 k` bits, bit by bit. -/
def wholeRoot (k n : Nat) : Nat :=
  (upTo k).reverse.foldl (fun r i => if (r + 2 ^ i) * (r + 2 ^ i) ≤ n then r + 2 ^ i else r) 0

/-- The square root rounded once; a negative number has none. -/
def sqrt (a : Word32) : Word32 :=
  if isNaN a then nan
  else if (mag a).1 = 0 && isFin a then zero (isNeg a)
  else if isNeg a then nan
  else if isInf a then inf false
  else
    let odd := (mag a).2 % 2
    let m := (mag a).1 * 2 ^ (40 + odd.toNat)
    let r := wholeRoot 33 m
    round false (2 * r + if r * r = m then 0 else 1) (((mag a).2 - odd) / 2 - 21)

/-! ### Fixed point: whole numbers in units of 2^−96 -/

/-- Twice the inverse hyperbolic tangent of n / d, for a quotient within ±1/3: its series to 32 terms. -/
def twiceAtanh (n : Int) (d : Nat) : Int :=
  let z := 2 ^ 96 * n / d
  let zz := z * z / 2 ^ 96
  2 * ((upTo 32).reverse.foldl (fun acc k => 2 ^ 96 / ((2 * k + 1 : Nat) : Int) + acc * zz / 2 ^ 96) (0 : Int) * z / 2 ^ 96)

/-- The natural logarithm to the nearest binary32; a number that is not positive has none. -/
def ln (a : Word32) : Word32 :=
  if isNaN a || isNeg a || (mag a).1 = 0 && isFin a then nan
  else if isInf a then inf false
  else
    let m := (mag a).1
    ofRat (((mag a).2 + 23) * twiceAtanh 1 3 + twiceAtanh ((m : Int) - 2 ^ 23) (m + 2 ^ 23)) (2 ^ 96)

/-- 4 π² in units of 2^−96. -/
def fourPiSq : Nat := 3127802485764025003062641505888

/-- The cosine of n / d turns, folded into the first quarter turn: its series to 24 terms. -/
def cosTurn (n d : Nat) : Int :=
  let t := min (n % d) (d - n % d)
  let flip := decide (d < 4 * t)
  let u := if flip then d - 2 * t else 2 * t
  let y := fourPiSq * u * u / (4 * d * d)
  let c := (upTo 24).reverse.foldl (fun (acc : Int) k => 2 ^ 96 - acc * y / (2 ^ 96 * ((2 * k + 1) * (2 * k + 2) : Nat))) (2 ^ 96)
  if flip then -c else c

end F32

/-! ### Kinds of signals (R78, R79) -/

/-- Factor from model unit to basic format of a kind; none where the kind has no basic format. -/
def kindScale : Nat → Option Nat
  | 1 => some 100
  | 2 => some 100
  | 3 => some 1
  | 4 => some 100
  | 5 => some 1000
  | _ => none

/-- Smallest and largest value of a kind's basic format, without its no-value code (R17). -/
def kindRange : Nat → Int × Int
  | 1 => (-32767, 32767)
  | 2 => (0, 65534)
  | 3 => (0, 65534)
  | 4 => (-32767, 32767)
  | _ => (0, 4294967294)

/-- The no-value code of a kind's basic format (R17). -/
def kindNoValue : Nat → Nat
  | 1 => 0x8000
  | 2 => 0xFFFF
  | 3 => 0xFFFF
  | 4 => 0x8000
  | 5 => 0xFFFFFFFF
  | _ => 0

/-- Width in bits of a kind's basic format. -/
def kindBits : Nat → Nat
  | 5 => 32
  | _ => 16

/-- A model value in basic format (R79), in the low bytes of a number; NaN and no value give the no-value code. -/
def toBasic (kind : Nat) (v : Option Word32) : Nat :=
  match kindScale kind, v with
  | some k, some w => match F32.toRange w k (kindRange kind).1 (kindRange kind).2 with
    | some i => ofSigned (kindBits kind) i
    | none => kindNoValue kind
  | _, _ => kindNoValue kind

/-- A basic value in the model unit (R78); none for the no-value code. -/
def ofBasic (kind raw : Nat) : Option Word32 :=
  let u := raw % 2 ^ kindBits kind
  if u = kindNoValue kind then none else
  match kindScale kind with
  | some k => some (F32.ofRat (if kind = 1 ∨ kind = 4 then sext 16 u else (u : Int)) k)
  | none => none

/-- A temperature in 0.01 °C, or 8000h. -/
def toCenti (v : Option Word32) : Nat := toBasic 1 v

/-- 50.0. -/
def fifty : Word32 := 0x42480000#32

end Sys2Proof
end

