-- ==== Sys2Proof/Machine/Bacnet.lean ====
section
/-! DEFINITION. Machine/Bacnet.lean: the application-tagged encoding of BACnet values, the conversions of R325, and the calendar
arithmetic of R337–R340 and R351. Tag numbers and encodings are those of ANSI/ASHRAE 135, which the specification cites
(assumption 16). -/

namespace Sys2Proof.Machine

/-! ### Tags -/

/-- `n` bytes of `v`, most significant first. -/
def be (n v : Nat) : List Byte := (le n v).reverse

/-- The number a run of bytes spells, most significant first. -/
def beNat (bs : List Byte) : Nat := leNat bs.reverse

/-- Bytes an unsigned number needs, at least one. -/
def uintLen (v : Nat) : Nat := if v < 256 then 1 else if v < 65536 then 2 else if v < 16777216 then 3 else 4

/-- An application tag with its contents. -/
def appTag (n : Nat) (body : List Byte) : List Byte :=
  (if body.length < 5 then [BitVec.ofNat 8 (n * 16 + body.length)]
   else if body.length < 254 then [BitVec.ofNat 8 (n * 16 + 5), BitVec.ofNat 8 body.length]
   else [BitVec.ofNat 8 (n * 16 + 5), 254] ++ be 2 body.length) ++ body

def bNull : List Byte := [0]
def bBool (b : Bool) : List Byte := [if b then 0x11 else 0x10]
def bUint (v : Nat) : List Byte := appTag 2 (be (uintLen v) v)
def bInt (v : Int) : List Byte :=
  let n := if -128 ≤ v ∧ v < 128 then 1 else if -32768 ≤ v ∧ v < 32768 then 2 else 4
  appTag 3 (be n (ofSigned (8 * n) v))
def bReal (w : Word32) : List Byte := appTag 4 (be 4 w.toNat)
def bString (bs : List Byte) : List Byte := appTag 7 (0 :: bs)
def bText (t : String) : List Byte := bString (ascii t)
def bEnum (v : Nat) : List Byte := appTag 9 (be (uintLen v) v)
def bObject (id : Nat) : List Byte := appTag 12 (be 4 id)

/-- Bits packed from the most significant bit of each byte. -/
def packBits : List Bool → List Byte
  | [] => []
  | b0 :: b1 :: b2 :: b3 :: b4 :: b5 :: b6 :: b7 :: r => BitVec.ofNat 8 (maskOf [b7, b6, b5, b4, b3, b2, b1, b0]) :: packBits r
  | r => [BitVec.ofNat 8 (maskOf (List.replicate (8 - r.length) false ++ r.reverse))]

/-- A bit string. -/
def bBits (bs : List Bool) : List Byte := appTag 8 (BitVec.ofNat 8 ((8 - bs.length % 8) % 8) :: packBits bs)

/-- A date: year since 1900, month, day, day of the week; 255 is unspecified. -/
def bDate (y m d w : Nat) : List Byte := appTag 10 [BitVec.ofNat 8 y, BitVec.ofNat 8 m, BitVec.ofNat 8 d, BitVec.ofNat 8 w]

/-- A time: hour, minute, second, hundredths; 255 is unspecified. -/
def bTime (h m s c : Nat) : List Byte := appTag 11 [BitVec.ofNat 8 h, BitVec.ofNat 8 m, BitVec.ofNat 8 s, BitVec.ofNat 8 c]

/-! ### Tokens -/

/-- One tag of an encoding: an application value, a context value, an opening or a closing tag. -/
inductive Tok where
  | app (n : Nat) (body : List Byte)
  | ctx (n : Nat) (body : List Byte)
  | opn (n : Nat)
  | cls (n : Nat)
  deriving DecidableEq, Repr, Inhabited

/-- Length field of a tag: value and bytes it takes. -/
def tagLen (lvt : Nat) (bs : List Byte) : Nat × Nat :=
  if lvt < 5 then (lvt, 0)
  else match bs with
    | a :: b :: c :: d :: e :: _ => if a = 254 then (beNat [b, c], 3) else if a = 255 then (beNat [b, c, d, e], 5) else (a.toNat, 1)
    | a :: b :: c :: _ => if a = 254 then (beNat [b, c], 3) else (a.toNat, 1)
    | a :: _ => (a.toNat, 1)
    | [] => (0, 0)

/-- The first tag of an encoding and what follows it; none where the bytes do not hold it whole. -/
def nextTok : List Byte → Option (Tok × List Byte)
  | [] => none
  | t :: r =>
    let (num, r1) := if bitsOf t.toNat 4 4 = 15 then ((r.headD 0).toNat, r.drop 1) else (bitsOf t.toNat 4 4, r)
    let lvt := t.toNat % 8
    if bitOf t.toNat 3 then
      if lvt = 6 then some (.opn num, r1) else if lvt = 7 then some (.cls num, r1)
      else
        let (len, used) := tagLen lvt r1
        let r2 := r1.drop used
        if r2.length < len then none else some (.ctx num (r2.take len), r2.drop len)
    else if num = 1 then some (.app 1 [BitVec.ofNat 8 lvt], r1)
    else
      let (len, used) := tagLen lvt r1
      let r2 := r1.drop used
      if r2.length < len then none else some (.app num (r2.take len), r2.drop len)

/-- All tags of an encoding; none where it is not whole. `fuel` bounds their number. -/
def toks : Nat → List Byte → Option (List Tok)
  | _, [] => some []
  | 0, _ => none
  | fuel + 1, bs => match nextTok bs with
    | some (t, r) => (toks fuel r).map (fun ts => t :: ts)
    | none => none

/-- All tags of an encoding. -/
def tokens (bs : List Byte) : Option (List Tok) := toks bs.length bs

/-- A tag written out again. -/
def Tok.bytes : Tok → List Byte
  | .app n body => if n = 1 then bBool (body.headD 0 != 0) else appTag n body
  | .ctx n body =>
    (if body.length < 5 then [BitVec.ofNat 8 (n * 16 + 8 + body.length)]
     else [BitVec.ofNat 8 (n * 16 + 13), BitVec.ofNat 8 body.length]) ++ body
  | .opn n => [BitVec.ofNat 8 (n * 16 + 14)]
  | .cls n => [BitVec.ofNat 8 (n * 16 + 15)]

/-! ### Conversions (R325) -/

/-- A binary64 pattern rounded to binary32. -/
def ofDouble (bs : List Byte) : Word32 :=
  let w := beNat bs
  let neg := bitOf w 63
  let e := bitsOf w 52 11
  let m := bitsOf w 0 52
  if e = 2047 then (if m = 0 then F32.inf neg else F32.nan)
  else if e = 0 then F32.zero neg
  else F32.round neg (2 ^ 52 + m) ((e : Int) - 1075)

/-- A single application value as binary32 (R325): none for NULL and for what the table does not list. -/
def tokValue : Tok → Option Word32
  | .app 1 b => some (if b.headD 0 = 0 then 0 else 0x42C80000#32)
  | .app 2 b => some (F32.ofNat (beNat b))
  | .app 3 b => some (F32.ofInt (sext (8 * b.length) (beNat b)))
  | .app 4 b => some (BitVec.ofNat 32 (beNat b))
  | .app 5 b => some (ofDouble b)
  | .app 9 b => some (if beNat b = 0 then 0 else 0x42C80000#32)
  | _ => none

/-- The same of an encoding that holds exactly one value. -/
def valueOf (bs : List Byte) : Option Word32 :=
  match tokens bs with
  | some [t] => tokValue t
  | _ => none

/-- round(v), at least `lo` and at most `hi`. -/
def roundTo (lo hi : Nat) (v : Word32) : Nat := (((F32.toRange v 1 lo hi).getD lo)).toNat

/-- A binary32 value as written to an object of a type (R325): REAL to analog, ENUMERATED to binary, Unsigned to multi-state. -/
def writeForm (typ : Nat) (v : Word32) : List Byte :=
  if [3, 4, 5].contains typ then bEnum (bit (F32.le fifty v))
  else if [13, 14, 19].contains typ then bUint (roundTo 1 4294967295 v)
  else bReal v

/-! ### Calendar arithmetic -/

/-- A day of the proleptic Gregorian calendar. -/
structure Day where
  year : Nat := 2000
  month : Nat := 1
  day : Nat := 1
  /-- 1 Monday to 7 Sunday -/
  dow : Nat := 6
  deriving DecidableEq, Repr, Inhabited

/-- The day `n` days after 2000-01-01. -/
def dayOf (n : Nat) : Day :=
  let z := n + 730425
  let era := z / 146097
  let doe := z % 146097
  let yoe := (doe - doe / 1460 + doe / 36524 - doe / 146096) / 365
  let doy := doe - (365 * yoe + yoe / 4 - yoe / 100)
  let mp := (5 * doy + 2) / 153
  let m := if mp < 10 then mp + 3 else mp - 9
  { year := yoe + era * 400 + (if m ≤ 2 then 1 else 0), month := m, day := doy - (153 * mp + 2) / 5 + 1, dow := (n + 5) % 7 + 1 }

/-- Days from 2000-01-01 to a date. -/
def dayNumber (y m d : Nat) : Nat :=
  let y' := if m ≤ 2 then y - 1 else y
  let mp := if 2 < m then m - 3 else m + 9
  365 * y' + y' / 4 - y' / 100 + y' / 400 + (153 * mp + 2) / 5 + d - 1 - 730425

/-- Days of a month. -/
def monthDays (y m : Nat) : Nat := if m = 12 then 31 else dayNumber y (m + 1) 1 - dayNumber y m 1

/-- The day of a month that a rule of SVC_DST_START names: week 5 is the last (R366). -/
def ruleDay (y m week dow : Nat) : Nat :=
  let first := dayNumber y m 1
  let off := (dow + 7 - (dayOf first).dow) % 7
  let n := off + 7 * (week - 1)
  if n < monthDays y m then first + n else first + n - 7

/-- The instant of a rule in a year, seconds since 2000 of local standard time. -/
def ruleInstant (rule y : Nat) : Nat :=
  ruleDay y (bitsOf rule 24 8) (bitsOf rule 16 8) (bitsOf rule 8 8) * 86400 + (rule % 256) * 3600

/-- Daylight saving is in force at a second of local standard time (R339). -/
def dstInForce (start end_ stdSecs : Nat) : Bool :=
  let y := (dayOf (stdSecs / 86400)).year
  let a := ruleInstant start y
  let b := ruleInstant end_ y
  if a ≤ b then decide (a ≤ stdSecs) && decide (stdSecs < b) else !(decide (b ≤ stdSecs) && decide (stdSecs < a))

/-- A date pattern of four bytes matches a day: 255 matches anything, months 13 and 14 are the odd and even ones, days 32, 33
and 34 the last, the odd and the even ones. -/
def datePattern (p : List Byte) (x : Day) : Bool :=
  match p.map (fun b => b.toNat) with
  | [y, m, d, w] =>
    (y == 255 || y + 1900 == x.year) &&
    (m == 255 || m == x.month || (m == 13 && x.month % 2 == 1) || (m == 14 && x.month % 2 == 0)) &&
    (d == 255 || d == x.day || (d == 32 && x.day == monthDays x.year x.month) || (d == 33 && x.day % 2 == 1) ||
      (d == 34 && x.day % 2 == 0)) &&
    (w == 255 || w == x.dow)
  | _ => false

/-- Day number of a date of a range; none where it is unspecified. -/
def dateBound (p : List Byte) : Option Nat :=
  match p.map (fun b => b.toNat) with
  | [y, m, d, _] => if y = 255 ∨ m = 255 ∨ d = 255 then none else some (dayNumber (y + 1900) m d)
  | _ => none

/-- A date range matches a day number; an unspecified end is open. -/
def dateRange (a b : List Byte) (n : Nat) : Bool := (dateBound a).all (fun x => decide (x ≤ n)) && (dateBound b).all (fun x => decide (n ≤ x))

/-- A WeekNDay matches a day: month, week of the month (1–5, 6 the last seven days, 7–9 the weeks before), day of the week. -/
def weekNDay (p : List Byte) (x : Day) : Bool :=
  let left := monthDays x.year x.month - x.day
  match p.map (fun b => b.toNat) with
  | [m, w, d] =>
    (m == 255 || m == x.month || (m == 13 && x.month % 2 == 1) || (m == 14 && x.month % 2 == 0)) &&
    (w == 255 || (decide (w ≤ 5) && (x.day - 1) / 7 + 1 == w) || (decide (6 ≤ w) && left / 7 == w - 6)) &&
    (d == 255 || d == x.dow)
  | _ => false

/-- A calendar entry: date, date range or WeekNDay (R351). -/
inductive CalEntry where
  | date (p : List Byte)
  | range (a b : List Byte)
  | week (p : List Byte)
  deriving DecidableEq, Repr, Inhabited

/-- Whether an entry matches a day number. -/
def CalEntry.matches_ (e : CalEntry) (n : Nat) : Bool :=
  match e with
  | .date p => datePattern p (dayOf n)
  | .range a b => dateRange a b n
  | .week p => weekNDay p (dayOf n)

/-- The first calendar entry of a run of tags, and what follows it. -/
def calEntry : List Tok → Option (CalEntry × List Tok)
  | .ctx 0 p :: r => if p.length = 4 then some (.date p, r) else none
  | .opn 1 :: .app 10 a :: .app 10 b :: .cls 1 :: r => if a.length = 4 ∧ b.length = 4 then some (.range a b, r) else none
  | .ctx 2 p :: r => if p.length = 3 then some (.week p, r) else none
  | _ => none

/-- A Date_List; none where the tags are not one. -/
def calEntries : Nat → List Tok → Option (List CalEntry)
  | _, [] => some []
  | 0, _ => none
  | fuel + 1, ts => match calEntry ts with
    | some (e, r) => (calEntries fuel r).map (fun es => e :: es)
    | none => none

/-! ### Schedules (R352) -/

/-- A time of the day in hundredths of a second and a value. -/
structure TimeValue where
  time : Nat := 0
  value : Tok := .app 0 []
  deriving DecidableEq, Repr, Inhabited

/-- Hundredths of a second of a time. -/
def timeOf (p : List Byte) : Option Nat :=
  match p.map (fun b => b.toNat) with
  | [h, m, s, c] => if h < 24 ∧ m < 60 ∧ s < 60 ∧ c < 100 then some (((h * 60 + m) * 60 + s) * 100 + c) else none
  | _ => none

/-- TimeValues up to the closing tag `n`, and what follows it. -/
def timeValues (n : Nat) : Nat → List Tok → Option (List TimeValue × List Tok)
  | 0, _ => none
  | fuel + 1, ts => match ts with
    | .cls k :: r => if k = n then some ([], r) else none
    | .app 11 p :: v :: r => match timeOf p, timeValues n fuel r with
      | some t, some (xs, r1) => some ({ time := t, value := v } :: xs, r1)
      | _, _ => none
    | _ => none

/-- The days of a Weekly_Schedule, Monday first; none where the tags are not one. -/
def weekDays : Nat → List Tok → Option (List (List TimeValue))
  | _, [] => some []
  | 0, _ => none
  | fuel + 1, ts => match ts with
    | .opn 0 :: r => match timeValues 0 ts.length r with
      | some (xs, r1) => (weekDays fuel r1).map (fun ds => xs :: ds)
      | none => none
    | _ => none

/-- A special event: its entry or the calendar it names, its values and its priority. -/
structure SpecialEvent where
  entry : Option CalEntry := none
  calendar : Option Nat := none
  values : List TimeValue := []
  priority : Nat := 16
  deriving DecidableEq, Repr, Inhabited

/-- The period of a special event. -/
def specialPeriod : List Tok → Option (SpecialEvent × List Tok)
  | .opn 0 :: r => match calEntry r with
    | some (e, .cls 0 :: r1) => some ({ entry := some e }, r1)
    | _ => none
  | .ctx 1 p :: r => if p.length = 4 then some ({ calendar := some (beNat p) }, r) else none
  | _ => none

/-- The events of an Exception_Schedule; none where the tags are not one. -/
def specialEvents : Nat → List Tok → Option (List SpecialEvent)
  | _, [] => some []
  | 0, _ => none
  | fuel + 1, ts => match specialPeriod ts with
    | some (e, .opn 2 :: r) => match timeValues 2 ts.length r with
      | some (xs, .ctx 3 p :: r1) =>
        (specialEvents fuel r1).map (fun es => { e with values := xs, priority := beNat p } :: es)
      | _ => none
    | _ => none

/-- The value of a day's list at a time: that of the latest TimeValue not after it. -/
def valueAt (xs : List TimeValue) (t : Nat) : Option Tok :=
  (xs.foldl (fun (best : Option TimeValue) x =>
    if t < x.time then best else match best with
      | some b => if b.time ≤ x.time then some x else best
      | none => some x) none).map (fun x => x.value)

/-- NULL as a tag. -/
def Tok.isNull : Tok → Bool
  | .app 0 _ => true
  | _ => false

end Sys2Proof.Machine
end

