-- ==== Sys2Proof/Machine/Sources.lean ====
section
/-! DEFINITION. Machine/Sources.lean: the sources that descriptors name (R87–R89, R92) and the classes of what they deliver
(R93–R95, R184, R242, R256, R327). -/

namespace Sys2Proof.Machine

/-! ### Units -/

/-- Units of R81 in one model unit of a kind. -/
def limitScale (kind : Nat) : Nat := (kindScale kind).getD 1000

/-- A limit of R81 in the model unit, rounded once (R138); none for "no value". -/
def modelLimit (kind raw : Nat) : Option Word32 :=
  if raw = 0x80000000 then none else some (F32.ofRat (sext 32 raw) (limitScale kind))

/-- Whether a model value lies outside two limits of R81; 80000000h is no limit. -/
def outsideLimits (kind lo hi : Nat) (v : Word32) : Bool :=
  (lo != 0x80000000 && F32.cmpQ v (sext 32 lo) (limitScale kind) == .lt) ||
  (hi != 0x80000000 && F32.cmpQ v (sext 32 hi) (limitScale kind) == .gt)

/-- A value through the scaler a descriptor names (R92). -/
def State.scale (s : State) (desc : Nat) (v : Word32) : Word32 :=
  if descScaler desc = 0 then v
  else F32.fma (s.cfgW Fid.SCALER_GAIN (descScaler desc)) v (s.cfgW Fid.SCALER_OFFSET (descScaler desc))

/-- A value back through the scaler; none where the gain is 0 (R139). -/
def State.unscale (s : State) (desc : Nat) (v : Word32) : Option Word32 :=
  if descScaler desc = 0 then some v
  else
    let g := s.cfgW Fid.SCALER_GAIN (descScaler desc)
    if (F32.mag g).1 = 0 then none else some (F32.div (F32.sub v (s.cfgW Fid.SCALER_OFFSET (descScaler desc))) g)

/-! ### What a source delivers -/

/-- A source's value before the scaler, its stamp, whether it reports a fault, and whether its own rules let it be VALID. -/
structure Src where
  value : Option Word32 := none
  stamp : Stamp := 0
  fault : Bool := false
  live : Bool := false
  deriving DecidableEq, Repr, Inhabited

/-- 100.0 for true, 0.0 for false (R88, R325). -/
def onOff (b : Bool) : Word32 := if b then 0x42C80000#32 else 0

/-- The highest priority that is not NULL (R345). -/
def prioValue (p : Prio) : Option Word32 := p.findSome? (fun x => x.2)

/-- The core of an input has failed 16 calibration turns (R227). -/
def State.calCause (s : State) (n : Nat) : Bool := decide (16 ≤ (s.inp.cores.get (n / 4)).failedTurns)

/-- UI n (R232). -/
def State.uiSource (s : State) (n : Nat) : Src :=
  let u := s.inp.ui.get n
  { value := u.value, stamp := u.stamp, fault := u.fault || s.calCause n, live := s.rdy Rdy.ui && u.value.isSome }

/-- Conditions of R256 on channel n. -/
def State.fieldSource (s : State) (n : Nat) (v : Option Word32) (stamp : Stamp) : Src :=
  let c := s.fld.ins.get n
  { value := if c.reported then v else none, stamp := stamp, fault := c.wireBreak || (s.fld.groups.get (n / 8)).uv
    live := s.rdy (Rdy.fg (n / 8)) && c.reported && v.isSome }

/-- The frequency of channel n, once a gate has ended (R255). -/
def State.freqNow (s : State) (n : Nat) : Option Word32 :=
  if (s.fld.ins.get n).freqStamp = 0 then none else some (s.fld.ins.get n).freq

/-- I2C recipe n (R240). -/
def State.i2cSource (s : State) (n : Nat) : Src :=
  let r := s.inp.recipes.get n
  { value := r.value, stamp := r.stamp, fault := r.fault, live := s.rdy Rdy.i2c && r.value.isSome }

/-- A port's READY bit, or port 6's connection (R297). -/
def State.portReady (s : State) (p : Nat) : Bool :=
  if p = 0 then s.rdy Rdy.eth0 || s.rdy Rdy.eth1
  else if p = 1 then s.rdy Rdy.t1s
  else if p ≤ 5 then s.rdy (Rdy.line (p - 2))
  else (s.bus.sc == .primary && s.bus.scLost.isNone) || s.bus.sc == .failover

/-- Whether a BIND_PARTNER value names a Modbus partner, and the identity it names (R317, R331). -/
def State.partnerKey (s : State) (v : Nat) : Bool × Nat :=
  if bitsOf v 28 4 = 2 then (true, s.cfgN Fid.MB_PARTNER (v % 256)) else (false, v % 2 ^ 22)

/-- The entry of a partner. -/
def State.partnerIdx (s : State) (key : Bool × Nat) : Option Nat :=
  (s.bus.partners.find? (fun p => p.2.state != .free && (p.2.kind == 5) == key.1 && p.2.identity == key.2)).map (fun p => p.1)

/-- The partner entry that a binding names. -/
def State.bindPartner (s : State) (b : Nat) : Option Nat := s.partnerIdx (s.partnerKey (s.cfgN Fid.BIND_PARTNER b))

/-- A binding's partner is IDENTIFIED, its port is ready and initiation is not disabled: the bus is not stopped for it
(R328, R358). -/
def State.bindRuns (s : State) (b : Nat) : Bool :=
  s.svc.dcc == .enabled &&
  match s.bindPartner b with
  | some i => (s.bus.partners.get i).state == .identified && s.portReady (s.bus.partners.get i).port
  | none => false

/-- A read binding's value (R327). -/
def State.busSource (s : State) (b : Nat) : Src :=
  let x := s.bus.binds.get b
  { value := x.value, stamp := x.stamp
    live := s.bindRuns b && x.value.isSome && !s.olderThan x.stamp (s.cfgN Fid.BIND_STALE b) && !x.faultFlag }

/-- A HOST value (R93, R99). -/
def hostSource (h : HostVal) : Src := if h.valid then { value := some h.value, stamp := h.stamp, live := true } else {}

/-- Schedule n: evaluated at every turn boundary (R353), so it bears the stamp of the last one. -/
def State.scheduleSource (s : State) (n : Nat) : Src :=
  let v := s.svc.schedules.get n
  { value := v, stamp := mkStamp s.turn 0
    live := s.rdy Rdy.services && s.cfgN Fid.SCHED_ENABLE n == 1 && v.isSome }

/-- Occupancy of a zone (R189). -/
def State.occSource (s : State) (z idx : Nat) : Src :=
  let o := s.occ.get z
  { value := if o.stamp = 0 then none else some (if idx = 0 then o.gain else if idx = 1 then o.persons else o.prob), stamp := o.stamp
    live := s.rdy Rdy.helm && s.rdy Rdy.services && o.valid }

/-- A CONSTANT of a kind's R81 unit, computed at the sample (R88, R94). -/
def State.constSource (s : State) (kind idx : Nat) : Src :=
  { value := some (F32.ofRat (sext 16 idx) (limitScale kind)), stamp := s.now, live := true }

/-- Ticks of a plan step (R164). -/
def planStep : Nat := 29491200

/-- The trajectory of a reference at the present sample angle: current under R184, interpolated under R183. -/
def State.wpSource (s : State) (z k : Nat) : Src :=
  let t := s.plan.traj.get (z * 16 + k)
  match s.wall16 s.now with
  | none => {}
  | some w =>
    let d := w - (t.start : Int) * 65536
    if s.rdy Rdy.waypoint && t.present && !s.olderThan t.publish (s.cfgN Fid.WP_MAX_AGE) && t.epoch == s.alm.epoch.toNat &&
        decide (0 ≤ d) && decide (d ≤ (96 * planStep * 65536 : Nat)) then
      let span := planStep * 65536
      let i := d.toNat / span
      let p := t.points.get i
      let q := t.points.get (min 96 (i + 1))
      { value := some (F32.fma (F32.sub q p) (F32.ofRat (d.toNat % span : Nat) span) p), stamp := t.publish, live := true }
    else {}

/-- Any source but a ZONE one. `sig` is the kind of the signal it feeds, `z` and `k` the zone and reference it serves. -/
def State.plainSource (s : State) (z k sig : Nat) (host : HostVal) (desc : Nat) : Src :=
  let i := descIndex desc
  match descKind desc with
  | 1 => s.uiSource i
  | 2 => s.fieldSource i (some (onOff (s.fld.ins.get i).image)) (s.fld.groups.get (i / 8)).lastUp
  | 3 => s.fieldSource i (s.freqNow i) (s.fld.ins.get i).freqStamp
  | 4 => s.i2cSource i
  | 5 => s.busSource i
  | 7 => hostSource host
  | 8 => s.scheduleSource i
  | 9 => s.wpSource z k
  | 10 => s.occSource z i
  | 11 => s.constSource sig i
  | _ => {}

/-- The class of what a source delivers and its value after the scaler (R92, R93). `age` is the age limit in turns, none where
the source carries none; `bad` is the plausibility check of a measured output. -/
def State.classify (s : State) (desc : Nat) (age : Option Nat) (bad : Word32 → Bool) (x : Src) : Bound :=
  if descKind desc = 0 then {} else
  let v := x.value.map (s.scale desc)
  let w := v.getD F32.nan
  let cls : Validity :=
    if x.fault || (x.value.isSome && (!F32.isFin w || bad w)) then .fault
    else if !x.live || (match age with
        | some n => s.olderThan x.stamp n
        | none => false) then .stale
    else .valid
  { value := w, stamp := x.stamp, validity := cls }

/-- Index of a signal of a zone in its configuration fields (R106). -/
def sigIdx (z k : Nat) : Nat := z * 16 + k

/-- The plausibility check of a measured output (R93). -/
def State.implausible (s : State) (z k : Nat) (v : Word32) : Bool :=
  outsideLimits (s.cfgN Fid.Y_KIND (sigIdx z k)) (s.cfgN Fid.Y_MIN (sigIdx z k)) (s.cfgN Fid.Y_MAX (sigIdx z k)) v

/-- A measured output whose source is not another zone's signal. -/
def State.plainY (s : State) (z k : Nat) : Bound :=
  let d := s.cfgN Fid.Y_SOURCE (sigIdx z k)
  if descKind d = 6 then {} else
  s.classify d (some (s.cfgN Fid.Y_MAX_AGE (sigIdx z k))) (s.implausible z k)
    (s.plainSource z k (s.cfgN Fid.Y_KIND (sigIdx z k)) ((s.zio.get z).hostY.get k) d)

/-- A disturbance whose source is not another zone's signal. -/
def State.plainD (s : State) (z k : Nat) : Bound :=
  let d := s.cfgN Fid.D_SOURCE (sigIdx z k)
  if descKind d = 6 then {} else
  s.classify d (some (s.cfgN Fid.D_MAX_AGE (sigIdx z k))) (fun _ => false)
    (s.plainSource z k (s.cfgN Fid.D_KIND (sigIdx z k)) ((s.zio.get z).hostD.get k) d)

/-- What another zone's bound value delivers. -/
def Bound.source (b : Bound) : Src :=
  { value := some b.value, stamp := b.stamp, fault := b.validity == .fault, live := b.validity == .valid }

/-- A ZONE source (R88, R89): u and references from the previous sample, y and d from this snapshot. DESIGN CHOICE: the reference "of the
previous sample" is the one formed after that sample's apply angle; a named y or d that is FAULT or whose value is NaN gives FAULT, any other
that is not VALID gives STALE, and one that is ABSENT delivers no live value (assumption 155). -/
def State.zoneSource (s : State) (desc : Nat) : Src :=
  let z := bitsOf desc 8 8
  let k := desc % 16
  match bitsOf desc 4 4 with
  | 0 => (s.plainY z k).source
  | 1 => { value := some ((s.zones.get z).u.get k), stamp := s.helm.sampleAt, live := (s.zones.get z).applied }
  | 2 => (s.plainD z k).source
  | 3 => { value := (s.zio.get z).ref.get k, stamp := s.helm.sampleAt, live := ((s.zio.get z).ref.get k).isSome }
  | _ => {}

/-- Any source. -/
def State.source (s : State) (z k sig : Nat) (host : HostVal) (desc : Nat) : Src :=
  if descKind desc = 6 then s.zoneSource desc else s.plainSource z k sig host desc

/-- Measured output k of a zone as it stands now (R93). -/
def State.boundY (s : State) (z k : Nat) : Bound :=
  let d := s.cfgN Fid.Y_SOURCE (sigIdx z k)
  if descKind d = 6 then
    s.classify d (some (s.cfgN Fid.Y_MAX_AGE (sigIdx z k))) (s.implausible z k) (s.zoneSource d)
  else s.plainY z k

/-- Disturbance k of a zone as it stands now (R93). -/
def State.boundD (s : State) (z k : Nat) : Bound :=
  let d := s.cfgN Fid.D_SOURCE (sigIdx z k)
  if descKind d = 6 then s.classify d (some (s.cfgN Fid.D_MAX_AGE (sigIdx z k))) (fun _ => false) (s.zoneSource d)
  else s.plainD z k

/-- Key of a host input (R100). -/
def hostKey (field idx : Nat) : Nat := field * 65536 + idx

/-- The value of a field that may name a host input, under an age limit or none (R100): none unless VALID. -/
def State.fieldInput (s : State) (field idx : Nat) (age : Option Nat) (z sig : Nat) : Bound :=
  let d := s.cfgN field idx
  s.classify d age (fun _ => false) (s.source z 0 sig (s.hostIn.get (hostKey field idx)) d)

/-- A VALID value, else none. -/
def Bound.get? (b : Bound) : Option Word32 := if b.validity = .valid then some b.value else none

/-- Age limit of a reference source: none for HOST, CONSTANT, WAYPOINT and SCHEDULE (R95). -/
def refAge (desc maxAge : Nat) : Option Nat :=
  if [7, 8, 9, 11].contains (descKind desc) then none else some maxAge

/-- The value of one source of reference k of zone z while it is valid (R95, R99). -/
def State.refSource (s : State) (z k field : Nat) : Option Word32 :=
  let d := s.cfgN field (sigIdx z k)
  let h := prioValue ((s.zio.get z).prioR.get k)
  let host : HostVal := { valid := h.isSome, value := h.getD 0, stamp := (s.zio.get z).hostRStamp.get k }
  (s.classify d (refAge d (s.cfgN Fid.R_MAX_AGE (sigIdx z k))) (fun _ => false)
    (s.source z k (s.cfgN Fid.Y_KIND (sigIdx z k)) host d)).get?

end Sys2Proof.Machine
end

