-- ==== Sys2Proof/Machine/Owners.lean ====
section
/-! DEFINITION. Machine/Owners.lean: which owner drives an output (R32, R289, R349, R362, R480, R502) and what Helm is fed back
(R139, R260). -/

namespace Sys2Proof.Machine

/-- Destination kinds (R90). -/
abbrev Dest.ao : Nat := 1
abbrev Dest.ago : Nat := 2
abbrev Dest.field : Nat := 3
abbrev Dest.bus : Nat := 4
abbrev Dest.fast : Nat := 5

/-- A descriptor names a destination. -/
def descNames (desc kind idx : Nat) : Bool := descKind desc == kind && descIndex desc == idx

/-- An actuator input of a present zone within its NU. -/
def State.inputAt (s : State) (i : Nat) : Bool := s.present (i / 16) && decide (i % 16 < s.nu (i / 16))

/-- Actuator inputs that name a destination, as signal indices with the descriptor. -/
def State.inputsOn (s : State) (kind idx : Nat) : List (Nat × Nat) :=
  [Fid.U_DEST0, Fid.U_DEST1].flatMap (fun f =>
    ((s.cfg.listed f).filter (fun i => s.inputAt i && descNames (s.cfgN f i) kind idx)).map (fun i => (i, s.cfgN f i)))

/-- The actuator input bound to a destination (R91: at most one). -/
def State.inputOn (s : State) (kind idx : Nat) : Option (Nat × Nat) := (s.inputsOn kind idx).head?

/-- The enabled fast loop bound to a destination (R153). -/
def State.loopOn (s : State) (kind idx : Nat) : Option Nat :=
  (s.cfg.listed Fid.FL_DEST).find? (fun n => s.cfgN Fid.FL_ENABLE n == 1 && descNames (s.cfgN Fid.FL_DEST n) kind idx)

/-- The actuator input at whose command a destination stands, directly or through a fast loop. -/
def State.commander (s : State) (kind idx : Nat) : Option Nat :=
  match s.inputOn kind idx with
  | some (i, _) => some i
  | none => match s.loopOn kind idx with
    | some n => (s.inputOn Dest.fast n).map (fun p => p.1)
    | none => none

/-- What an engaged guard drives on an actuator input: on, off, or nothing (R362). -/
def guardDrive (g : Guard) (use : Nat) : Option Bool :=
  match g, use with
  | .frost, 1 => some true
  | .frost, 2 => some false
  | .hot, 1 => some false
  | .hot, 2 => some true
  | _, _ => none

/-- The guard's drive of an actuator input (R362). -/
def State.guardOf (s : State) (i : Nat) : Option Bool :=
  guardDrive (s.policy.get (i / 16)).owner (s.cfgN Fid.U_GUARD i)

/-- The drive in percent of a commanded value of an output object (R349). -/
def State.pointPercent (s : State) (n : Nat) (v : Word32) : Word32 :=
  let p := if s.cfgN Fid.OBJ_TYPE n = 14 then
      F32.mul (F32.div (F32.sub v F32.one) (F32.ofNat (s.cfgN Fid.OBJ_STATES n - 1))) 0x42C80000#32
    else v
  s.scale (s.cfgN Fid.OBJ_POINT n) p

/-- An output object is of a commandable type (R349). -/
def isOutputType (t : Nat) : Bool := [1, 4, 14].contains t

/-- The commanded output object that overrides a destination (R349). -/
def State.pointOn (s : State) (kind idx : Nat) : Option Word32 :=
  ((s.cfg.listed Fid.OBJ_POINT).filter (fun n =>
      isOutputType (s.cfgN Fid.OBJ_TYPE n) && descNames (s.cfgN Fid.OBJ_POINT n) kind idx && !s.svc.pointHeld.contains n)).findSome?
    (fun n => (prioValue (s.svc.pointPrio.get n)).map (s.pointPercent n))

/-- Who drives an output, with what it drives (R32). -/
inductive Driver where
  /-- no owner -/
  | nobody
  /-- owner 1: the standby hold of R502 -/
  | hold
  /-- owner 1: a safe state -/
  | safe
  /-- owner 2: on or off -/
  | guard (on : Bool)
  /-- owner 3: a disruptive self-test, in the output's own unit -/
  | test (v : Nat)
  /-- owner 3: a host override, in the output's own unit -/
  | force (v : Nat)
  /-- owner 3: an output object, in percent -/
  | point (v : Word32)
  /-- owner 4 -/
  | loop (n : Nat) (v : Word32)
  /-- owner 5: signal index of the actuator input -/
  | zone (i : Nat) (v : Word32)
  deriving DecidableEq, Repr, Inhabited

/-- Its place in R32, 0 for none. -/
def Driver.rank : Driver → Nat
  | .nobody => 0
  | .hold => 1
  | .safe => 1
  | .guard _ => 2
  | .test _ => 3
  | .force _ => 3
  | .point _ => 3
  | .loop _ _ => 4
  | .zone _ _ => 5

/-- The value a zone's output image delivers to a destination (R31, R92). -/
def State.imageOf (s : State) (i desc : Nat) : Word32 := s.scale desc ((s.zones.get (i / 16)).img.get (i % 16))

/-- Owners 4 and 5 of a destination. -/
def State.boundDriver (s : State) (kind idx : Nat) : Driver :=
  match s.loopOn kind idx with
  | some n => if (s.helm.loops.get n).applied then .loop n (s.scale (s.cfgN Fid.FL_DEST n) (s.helm.loops.get n).img) else .nobody
  | none => match s.inputOn kind idx with
    | some (i, d) => if (s.zones.get (i / 16)).applied then .zone i (s.imageOf i d) else .nobody
    | none => .nobody

/-- The owner of a physical output (R32): `safe` says that owner 1 holds it after a failure. -/
def State.driver (s : State) (safe : Bool) (test force : Option Nat) (kind idx : Nat) : Driver :=
  match s.peerHolds, test with
  | true, some t => .test t
  | true, none => .hold
  | false, _ =>
    if safe then .safe else
    match (s.commander kind idx).bind s.guardOf, test, force, s.pointOn kind idx with
    | some on, _, _, _ => .guard on
    | none, some t, _, _ => .test t
    | none, none, some f, _ => .force f
    | none, none, none, some p => .point p
    | none, none, none, none => s.boundDriver kind idx

/-- The owner of AO n (R277, R278). -/
def State.aoDriver (s : State) (n : Nat) : Driver :=
  let o := s.out.ao.get n
  s.driver (s.out.expired || o.owned1) o.test (o.force.map (fun f => f.value)) Dest.ao n

/-- The owner of AGO n (R287, R289). -/
def State.agoDriver (s : State) (n : Nat) : Driver :=
  let o := s.out.ago.get n
  s.driver (s.out.expired || o.stopped) (o.test.map (fun b => bit b)) (o.force.map (fun f => f.value)) Dest.ago n

/-- The owner of channel n (R258, R265). -/
def State.chDriver (s : State) (n : Nat) : Driver :=
  let o := s.fld.owns.get n
  s.driver (s.fld.groups.get (n / 8)).safe (o.test.map (fun b => bit b)) (o.force.map (fun f => f.value)) Dest.field n

/-- The owner of a write binding: a guard or its zone (R362). -/
def State.bindDriver (s : State) (b : Nat) : Driver :=
  match s.inputOn Dest.bus b with
  | none => .nobody
  | some (i, d) => match s.guardOf i with
    | some on => .guard on
    | none => if (s.zones.get (i / 16)).applied then .zone i (s.imageOf i d) else .nobody

/-- The owner of any destination. For a fast loop: the guard that takes the loop's output, else the zone. -/
def State.destDriver (s : State) (kind idx : Nat) : Driver :=
  match kind with
  | 1 => s.aoDriver idx
  | 2 => s.agoDriver idx
  | 3 => s.chDriver idx
  | 4 => s.bindDriver idx
  | 5 => match s.inputOn Dest.fast idx with
    | some (i, d) => match s.guardOf i with
      | some on => .guard on
      | none => .zone i (s.imageOf i d)
    | none => .nobody
  | _ => .nobody

/-- Volts in mV as a percentage of an output's span; none where the span is empty (R289). -/
def State.aoPercent (s : State) (n : Nat) (mv : Int) (den : Nat) : Option Word32 :=
  let lo : Int := s.cfgN Fid.AO_V_LO n
  let span : Int := (s.cfgN Fid.AO_V_HI n : Int) - lo
  if span = 0 then none
  else
    let num := 100 * (mv - lo * den)
    some (if span < 0 then F32.ofRat (-num) (den * span.natAbs) else F32.ofRat num (den * span.natAbs))

/-- Level a channel is commanded to after its protections (R260). -/
def State.chCmd (s : State) (n : Nat) : Bool :=
  let o := s.fld.outs.get n
  let g := s.fld.groups.get (n / 8)
  o.level && !o.tripped && !o.latched && !g.cut && g.vPresent

/-- What a FIELD destination drives, in percent (R260). -/
def State.chFedBack (s : State) (n : Nat) : Word32 :=
  let o := s.fld.outs.get n
  if s.fcN Fid.FC_OUT_DRIVE n = 1 && decide (4 ≤ (s.chDriver n).rank) && !o.tripped && !o.latched &&
      !(s.fld.groups.get (n / 8)).cut && (s.fld.groups.get (n / 8)).vPresent then
    (if o.tpoActive then o.duty else 0)
  else onOff (s.chCmd n)

/-- What a higher owner drives on a destination, in percent (R139, R289); none where the value of R138 step 3 stands. -/
def State.drivenPercent (s : State) (kind idx : Nat) (d : Driver) : Option Word32 :=
  match d with
  | .guard on => some (onOff on)
  | .point v => some v
  | .force v => if kind = Dest.ao then s.aoPercent idx v 1 else some (F32.ofRat (sext 16 v) 100)
  | .test v => if kind = Dest.ao then s.aoPercent idx v 1 else some (onOff (v != 0))
  | .safe =>
    if kind = Dest.ao then s.aoPercent idx (s.cfgN Fid.AO_SAFE idx) 1 else some 0
  | .hold =>
    if kind = Dest.ao then s.aoPercent idx ((s.out.ao.get idx).code * 15625 : Nat) 100000 else some 0
  | _ => none

/-- The governing destination of an actuator input (R139). -/
def State.governing (s : State) (i : Nat) : Nat :=
  if descKind (s.cfgN Fid.U_DEST0 i) = 0 then s.cfgN Fid.U_DEST1 i else s.cfgN Fid.U_DEST0 i

/-- A BUS destination of the input whose bus is stopped (R139, R328). -/
def State.stoppedBus (s : State) (i : Nat) : Option Nat :=
  [s.cfgN Fid.U_DEST0 i, s.cfgN Fid.U_DEST1 i].find? (fun d => descKind d == Dest.bus && !s.bindRuns (descIndex d))

/-- A higher owner holds the destination of a descriptor. -/
def State.higher (s : State) (desc : Nat) : Bool :=
  let r := (s.destDriver (descKind desc) (descIndex desc)).rank
  decide (0 < r) && decide (r < (if descKind desc = Dest.fast then 5 else 4))

/-- The fed-back value of actuator input `i` whose value after R138 step 3 is `v` (R139). -/
def State.fedBack (s : State) (i : Nat) (v : Word32) : Word32 :=
  let d := s.governing i
  let kind := descKind d
  let idx := descIndex d
  if kind = Dest.field then (s.unscale d (s.chFedBack idx)).getD v
  else if s.higher d then
    match s.drivenPercent kind idx (s.destDriver kind idx) with
    | some p => (s.unscale d p).getD v
    | none => v
  else match s.stoppedBus i with
    | some b => match (s.bus.binds.get (descIndex b)).lastSent with
      | some x => (s.unscale b x).getD v
      | none => v
    | none => v

/-- The same for a fast loop (R149, R139). -/
def State.loopFedBack (s : State) (n : Nat) (v : Word32) : Word32 :=
  let d := s.cfgN Fid.FL_DEST n
  let kind := descKind d
  let idx := descIndex d
  if kind = Dest.field then (s.unscale d (s.chFedBack idx)).getD v
  else
    let w := s.destDriver kind idx
    if decide (0 < w.rank) && decide (w.rank < 4) then
      match s.drivenPercent kind idx w with
      | some p => (s.unscale d p).getD v
      | none => v
    else v

/-- An output is in maintenance (R481): no guard or failure holds it, and every zone that commands it is in MAINTENANCE. -/
def State.inMaintenance (s : State) (kind idx : Nat) : Bool :=
  let r := (s.destDriver kind idx).rank
  (s.peerHolds || (r != 1 && r != 2)) &&
  (match s.commander kind idx with
   | some i => (s.zones.get (i / 16)).mode == .maintenance
   | none => true)

/-- A host override of an output has to wait (R273): a zone in another mode than MAINTENANCE commands it. -/
def State.overrideWaits (s : State) (kind idx : Nat) : Bool :=
  match s.commander kind idx with
  | some i => (s.zones.get (i / 16)).mode != .maintenance
  | none => false

/-- Zones of a destination that have a running sounding bound to it (R209). -/
def State.soundingOn (s : State) (kind idx : Nat) : Bool :=
  match s.commander kind idx with
  | some i =>
    let st := (s.snd.zones.get (i / 16)).state
    st == .settle || st == .capture
  | none => false

/-- The guard that drives: with both engaged, the one engaged last. -/
def Policy.drives (p : Policy) : Guard :=
  match p.frost.on, p.hot.on with
  | false, false => .released
  | true, false => .frost
  | false, true => .hot
  | true, true => if p.frost.since < p.hot.since then .hot else .frost

/-- Ownership follows the guards at a floor apply angle. -/
def State.policyOwners (s : State) : State :=
  { s with policy := s.policy.updAll s.policy.keys (fun _ p => { p with owner := p.drives }) }

end Sys2Proof.Machine
end

