-- ==== Sys2Proof/Machine/Outputs.lean ====
section
/-! DEFINITION. Machine/Outputs.lean: analogue outputs (R275–R279) and angle outputs (R280–R287), the PA watchdog, and their
operations and records (R293–R296). -/

namespace Sys2Proof.Machine

/-! ### Analogue outputs -/

/-- The code of a voltage in mV (R276). -/
def codeOfMv (mv : Nat) : Nat := (mv * 64 + 5) / 10

/-- The voltage of a code in mV, rounded. -/
def mvOfCode (code : Nat) : Nat := (code * 15625 + 50000) / 100000

/-- The code of a value in percent, ties upward; none for a non-finite value (R276). -/
def State.aoCode (s : State) (n : Nat) (v : Word32) : Option Nat :=
  if !F32.isFin v then none else
  let q := F32.rat (F32.clamp 0 0x42C80000#32 v)
  let lo : Int := s.cfgN Fid.AO_V_LO n
  let hi : Int := s.cfgN Fid.AO_V_HI n
  some (((lo * 100 * q.2 + (hi - lo) * q.1) * 128 + 1000 * q.2) / (2000 * q.2)).toNat

/-- What a latch gives AO n: code and value in percent (R277, R289, R502). -/
def State.aoTakes (s : State) (n : Nat) : Nat × Word32 :=
  let safe := s.cfgN Fid.AO_SAFE n
  let atMv (mv : Nat) : Nat × Word32 := (codeOfMv mv, (s.aoPercent n mv 1).getD F32.nan)
  let atPercent (v : Word32) : Nat × Word32 := match s.aoCode n v with
    | some c => (c, v)
    | none => atMv safe
  match s.aoDriver n with
  | .nobody => atMv safe
  | .safe => atMv safe
  | .hold => match s.cfgN Fid.PAIR_AO_STANDBY with
    | 0 => ((s.out.ao.get n).peerCode, (s.aoPercent n ((s.out.ao.get n).peerCode * 15625 : Nat) 100000).getD F32.nan)
    | 1 => atMv safe
    | _ => (0, F32.nan)
  | .guard on => atPercent (onOff on)
  | .test mv => atMv mv
  | .force mv => atMv mv
  | .point v => atPercent v
  | .loop _ v => atPercent v
  | .zone _ v => atPercent v

/-- AO n latches the value of the owner in force (R277); a value that rises to 1.00 % or above is a start (R455). -/
def State.aoLatchOne (n : Nat) (s : State) : State :=
  if s.cfgN Fid.AO_ROLE n != 1 then s else
  let x := s.aoTakes n
  let d := s.aoDriver n
  let starts := !F32.le F32.one (s.out.ao.get n).value && F32.le F32.one x.2
  let s := s.when starts (State.count (40 + n) 1)
  { s with out.ao := s.out.ao.upd n (fun o =>
      { o with
        code := x.1, value := x.2, latched := s.now, held := false
        safe := d == .safe || (d == .hold && s.cfgN Fid.PAIR_AO_STANDBY == 1), guard := d.rank == 2, forced := d.rank == 3
        changed := if o.code = x.1 then o.changed else s.now }) }

/-- An AO_LATCH slot with its mask (R277), which ends the time of owner 1 since an expiry; without AO the outputs keep AO_SAFE (R278). -/
def State.aoLatch (mask : Nat) (s : State) : State :=
  if s.rdy Rdy.ao then
    State.each ((upTo 8).filter (fun n => bitOf mask n))
      (fun n t => State.aoLatchOne n { t with out.ao := t.out.ao.upd n (fun o => { o with owned1 := false }) }) s
  else s

/-- AO n drives AO_SAFE until its next latch (R277, R278). -/
def State.aoToSafe (n : Nat) (s : State) : State :=
  { s with out.ao := s.out.ao.upd n (fun o =>
      { o with
        code := o.safeCode, safe := o.owned1, guard := false, forced := false, held := false
        value := (s.aoPercent n (s.cfgN Fid.AO_SAFE n) 1).getD F32.nan
        changed := if o.code = o.safeCode then o.changed else s.now }) }

/-- AGO rises: an output in HOST mode leaves high impedance with the level it has kept, but not on a standby (R286, R502; assumption
154). -/
def State.agoHostRises (s : State) : State :=
  if s.peerHolds then s else
  { s with out.ago := s.out.ago.updAll ((upTo 8).filter (fun n => (s.out.ago.get n).mode == 1)) (fun _ o =>
      { o with highZ := false, safe := false }) }

/-- The PA watchdog receives a refresh (R278). The first one after MERIDIAN rises, or after an expiry, raises AO and AGO
(R290); an output of role 01h that holds no code from before a reset then drives AO_SAFE, and an angle output in HOST mode its level. -/
def State.refreshWatchdog (s : State) : State :=
  let t := { s with out.lastRefresh := s.now, out.refreshed := true, out.expired := false }
  if t.rdy Rdy.ao then t else
  (State.each ((upTo 8).filter (fun n => (t.out.ao.get n).role && !(t.out.ao.get n).held)) State.aoToSafe t.agoHostRises).updateReady
    [Rdy.ao, Rdy.ago] []

/-- AO_WATCHDOG_REFRESH (R278). -/
def execAoWatchdogRefresh (a : At) (s : State) : Host.Outcome State Fault Refusal :=
  let t := s.advance a
  .next (if t.rdy Rdy.meridian then t.refreshWatchdog else t)

/-- Angle output n goes to high impedance (R34, R278). -/
def State.agoHighZ (n : Nat) (s : State) : State :=
  { s with out.ago := s.out.ago.upd n (fun o => { o.yield 1 with highZ := true, safe := true, watchdog := true }) }

/-- The PA watchdog expires (R278): AO_SAFE and high impedance. Its records need Binnacle. -/
def State.watchdogExpires (s : State) : State :=
  let last := s.out.lastRefresh
  let aos := (upTo 8).filter (fun n => (s.out.ao.get n).role)
  let t := State.each aos (fun n u =>
    State.aoToSafe n { u with out.ao := u.out.ao.upd n (fun o => { o with watchdog := true, owned1 := true, held := false }) })
      { s with out.expired := true, out.refreshed := false }
  let v := (State.each ((upTo 8).filter (fun n => (s.out.ago.get n).mode != 0)) State.agoHighZ t).lower [Rdy.ao, Rdy.ago]
  if s.rdy Rdy.binnacle then
    (v.record3 11 4 0x0001 (le 8 last.toNat) 0).record3 12 4 0x0001 (le 8 last.toNat) 0
  else v

/-- WATCHDOG (R278): 16 ms without a refresh. -/
def execWatchdog (a : At) (s : State) : Host.Outcome State Fault Refusal :=
  let t := s.advance a
  .next (if t.out.expired then t else t.watchdogExpires)

/-- The monitor's bound between the measured voltage and the code in force (R279). -/
def aoMismatch (code measured : Nat) : Bool :=
  decide (500000000 + code * 15625 < ((measured * 10000000 : Nat) - (code * 1562500 : Nat) : Int).natAbs)

/-- Two consecutive samples set or clear LIMIT (R279). -/
def Ao.limitStep (o : Ao) (limiting : Bool) : Ao :=
  if limiting = o.limit then { o with limitRun := 0 }
  else if 1 ≤ o.limitRun then { o with limit := limiting, limitRun := 0 }
  else { o with limitRun := o.limitRun + 1 }

/-- Three consecutive samples set or clear MISMATCH (R279). -/
def Ao.mismatchStep (o : Ao) (off : Bool) : Ao :=
  if off = o.mismatch then { o with mismatchRun := 0 }
  else if 2 ≤ o.mismatchRun then { o with mismatch := off, mismatchRun := 0 }
  else { o with mismatchRun := o.mismatchRun + 1 }

/-- The records of a monitor sample that changed a condition (R296). -/
def State.aoMonitorRecords (n : Nat) (before after : Ao) (s : State) : State :=
  let t := if !before.limit && after.limit then
      s.record3 11 3 0x0002 (le 1 n ++ le 2 (ofSigned 16 after.current)) n
    else if before.limit && !after.limit then s.record3 11 1 0x0004 (le 1 n) n else s
  if !before.mismatch && after.mismatch then
    t.record3 11 3 0x0003 (le 1 n ++ le 2 (mvOfCode after.code) ++ le 2 after.measured) n
  else if before.mismatch && !after.mismatch then t.record3 11 1 0x0004 (le 1 n) n else t

/-- The monitor samples AO n (R279): voltage in mV, current in 0.01 mA, current limit engaged. -/
def State.aoMonitor (n mv : Nat) (current : Int) (limiting : Bool) (s : State) : State :=
  if s.cfgN Fid.AO_ROLE n != 1 then s else
  let o := s.out.ao.get n
  let o1 := { o with measured := mv, current := current }.limitStep limiting
  let settled := decide (grainsPerTurn ≤ s.mer.stamp.toNat - o.changed.toNat)
  let o2 := if settled then o1.mismatchStep (aoMismatch o.code mv) else o1
  State.aoMonitorRecords n o o2 { s with out.ao := s.out.ao.set n o2 }

/-- An angle within each period of `p` grains falls due at the present stamp; on the RC at the step that reaches it (R39, R70). -/
def State.atAngle (s : State) (p a : Nat) : Bool := decide ((s.now.grain + p - a % p) % p < s.stampStep)

/-- AO_MONITOR_SAMPLE (R279): PA samples the outputs in order, once per turn, at grain 786 432. -/
def execAoMonitorSample (a : At) (readings : List (Nat × Int × Bool)) (s : State) : Host.Outcome State Fault Refusal :=
  let t := s.advance a
  .next (if t.rdy Rdy.ao && t.atAngle grainsPerTurn 786432 && t.out.monitorTurn != some t.turn then
      State.each (readings.take 8).zipIdx (fun x u => u.aoMonitor x.2 x.1.1 x.1.2.1 x.1.2.2) { t with out.monitorTurn := some t.turn }
    else t)

/-! ### Angle outputs -/

/-- Grains in a half-cycle (R280). -/
def halfTurn : Nat := 524288

/-- Period of a PWM output (R285). -/
def State.agoPeriod (s : State) (n : Nat) : Nat := 2 ^ (20 - s.cfgN Fid.AGO_DIV n)

/-- The present grain is a latch angle of the output (R280). -/
def State.agoLatchAngle (s : State) (n : Nat) : Bool :=
  let a := s.cfgN Fid.AGO_ANGLE n
  match s.cfgN Fid.AGO_MODE n with
  | 2 => s.atAngle halfTurn a
  | 3 | 4 => s.atAngle grainsPerTurn a
  | 5 => s.atAngle (s.agoPeriod n) a
  | _ => false

/-- Value in percent that the owner of AGO n drives (R281, R289); an output without an owner takes none. -/
def State.agoTakes (s : State) (n : Nat) : Word32 :=
  match s.agoDriver n with
  | .guard on => onOff on
  | .test b => onOff (b != 0)
  | .force v => F32.ofRat (sext 16 v) 100
  | .point v => v
  | .loop _ v => v
  | .zone _ v => v
  | _ => 0

/-- The value an owner drives as a percentage in 0–100; 0 for one that is not finite (R281). d is its hundredth. -/
def drivePercent (v : Word32) : Word32 := if F32.isFin v then F32.clamp 0 0x42C80000#32 v else 0

/-- round(d × k), with d the exact hundredth of the percentage (R259, R281, R284, R285). -/
def driveTimes (v : Word32) (k : Nat) : Nat :=
  let q := F32.rat (drivePercent v)
  (divRound (q.1 * k) (100 * q.2 : Nat)).toNat

/-- 1 + sin(2πu) / (2πu) in units of 2^−96, with `y` = (2πu)² in the same unit: the series of the sine from its 24th term. -/
def sincPlus (y : Nat) : Int :=
  2 ^ 96 + (upTo 24).reverse.foldl (fun (acc : Int) k => 2 ^ 96 - acc * y / (2 ^ 96 * ((2 * k + 2) * (2 * k + 3) : Nat))) (2 ^ 96)

/-- u + sin(2πu) / (2π) in units of 2^−96, with u = h / 2^20: by how much the law falls from 1/2 over `h` half grains past the quarter
turn (R283). -/
def powerFall (h : Nat) : Int := sincPlus (F32.fourPiSq * h * h / 2 ^ 40) * h / 2 ^ 20

/-- The greatest number of half grains over which the law falls by no more than num / den, up to a quarter turn. -/
def powerHalves (num den : Nat) : Nat :=
  (upTo 20).reverse.foldl (fun h k =>
    if h + 2 ^ k ≤ halfTurn ∧ powerFall (h + 2 ^ k) * (den : Int) ≤ (num : Int) * 2 ^ 96 then h + 2 ^ k else h) 0

/-- α of the POWER law at d = num / den to the nearest grain (R283): the solution of d = 1 − θ/π + sin(2θ) / (2π), which turns about the
quarter turn into itself. -/
def powerExact (num den : Nat) : Nat :=
  if 2 * num ≤ den then 262144 + (powerHalves (den - 2 * num) (2 * den) + 1) / 2
  else 262144 - (powerHalves (2 * num - den) (2 * den) + 1) / 2

/-- α of the POWER law (R283): exact where d is a multiple of 1/256; between two of them a free value within 64 grains of the exact one
(assumption 84). -/
def powerDelay (v : Word32) : Nat :=
  let q := F32.rat (drivePercent v)
  let alpha := powerExact q.1.toNat (100 * q.2)
  if (q.1 * 256).toNat % (100 * q.2) = 0 then alpha
  else min (alpha + (Config.powerAngle v).toNat % 127 - 63) halfTurn

/-- The firing delay at a percentage (R283). -/
def State.firingDelay (s : State) (n : Nat) (v : Word32) : Nat :=
  if s.cfgN Fid.AGO_LAW n = 0 then
    let q := F32.rat (drivePercent v)
    (divRound (((100 * q.2 : Nat) - q.1) * (halfTurn : Int)) (100 * q.2 : Nat)).toNat
  else powerDelay v

/-- PHASE (R283). -/
def State.phaseLatch (s : State) (n : Nat) (v : Word32) (o : Ago) : Ago :=
  let alpha := s.firingDelay n v
  { o with firing := alpha
           fires := (F32.mag (drivePercent v)).1 != 0 && decide (alpha ≤ halfTurn - s.cfgN Fid.AGO_END_GUARD n) }

/-- BURST (R284). -/
def Ago.burstLatch (o : Ago) (v : Word32) : Ago :=
  let acc := o.acc + driveTimes v 10000
  if 10000 ≤ acc then { o with acc := acc - 10000, on := true } else { o with acc := acc, on := false }

/-- PWM (R285). -/
def State.pwmLatch (s : State) (n : Nat) (v : Word32) (o : Ago) : Ago :=
  let p := s.agoPeriod n
  let m := s.cfgN Fid.AGO_MIN_WIDTH n
  let w := driveTimes v p
  { o with firing := if w < m then 0 else if p - m < w then p else w }

/-- ZERO_CROSS (R282). -/
def State.zeroLatch (s : State) (n : Nat) (v : Word32) (o : Ago) : Ago :=
  let x := if F32.isFin v then v else 0
  if F32.cmpQ x (s.cfgI Fid.AGO_ON_LEVEL n) 100 != .lt then { o with on := true }
  else if F32.cmpQ x (s.cfgI Fid.AGO_OFF_LEVEL n) 100 == .lt then { o with on := false } else o

/-- What the mode does with a latched value (R282–R285). -/
def State.agoModeLatch (s : State) (n : Nat) (v : Word32) (o : Ago) : Ago :=
  match s.cfgN Fid.AGO_MODE n with
  | 2 => s.zeroLatch n v o
  | 3 => s.phaseLatch n v o
  | 4 => o.burstLatch v
  | 5 => s.pwmLatch n v o
  | _ => o

/-- An output leaves high impedance with its inactive level (R280). -/
def State.agoDrive (n : Nat) (s : State) : State :=
  if (s.out.ago.get n).highZ then
    State.agoPin n false { s with out.ago := s.out.ago.upd n (fun o => { o with highZ := false, safe := false }) }
  else s

/-- AGO n latches (R281): a change of owner empties the accumulator (R284). -/
def State.agoLatchOne (n : Nat) (s : State) : State :=
  let v := s.agoTakes n
  let r := (s.agoDriver n).rank
  let t := s.agoDrive n
  let o := t.out.ago.get n
  let o1 := { o with
    acc := if o.lastOwner = r then o.acc else 0, lastOwner := r, value := v, latched := s.now
    guard := r == 2, forced := r == 3 }
  { t with out.ago := t.out.ago.set n (s.agoModeLatch n v o1) }

/-- A stopped output resumes at its first latch angle with MERIDIAN_LOCK (R287, R296). -/
def State.agoResume (n : Nat) (s : State) : State :=
  if (s.out.ago.get n).stopped && s.rdy Rdy.lock then
    State.record3 12 2 0x0002 (le 1 0 ++ le 1 (2 ^ n)) 0
      { s with out.ago := s.out.ago.upd n (fun o => { o with stopped := false }) }
  else s

/-- The latch of output n at its latch angle (R281, R287, R502). -/
def State.agoLatch (n : Nat) (s : State) : State :=
  let t := s.agoResume n
  match t.agoDriver n with
  | .hold => { t with out.ago := t.out.ago.upd n (fun o => { o.yield 1 with highZ := true, safe := false, latched := s.now }) }
  | .safe => t
  | _ => t.agoLatchOne n

/-- Grains since the half-cycle start (R280). -/
def State.halfPhase (s : State) (n : Nat) : Nat := (s.now.grain + halfTurn - s.cfgN Fid.AGO_ANGLE n % halfTurn) % halfTurn

/-- Whether the pin of a Helm-driven output is active at this grain (R282–R285). -/
def State.agoActive (s : State) (n : Nat) : Bool :=
  let o := s.out.ago.get n
  let w := s.cfgN Fid.AGO_PULSE n
  let h := s.halfPhase n
  match s.cfgN Fid.AGO_MODE n with
  | 2 | 4 => o.on && (w == 0 || decide (h < w))
  | 3 =>
    let last := halfTurn - s.cfgN Fid.AGO_END_GUARD n
    o.fires && decide (o.firing ≤ h) && decide (h < (if w = 0 then last else min last (o.firing + w)))
  | 5 => decide ((s.now.grain + s.agoPeriod n - s.cfgN Fid.AGO_ANGLE n % s.agoPeriod n) % s.agoPeriod n < o.firing)
  | _ => false

/-- A host slot action on an output in HOST mode (R286): 0 set, 1 clear, 2 toggle. A standby's output stays in high impedance (R502). -/
def State.agoHostAction (n act : Nat) (s : State) : State :=
  if s.rdy Rdy.ago && s.cfgN Fid.AGO_MODE n == 1 && !s.peerHolds then
    let o := s.out.ago.get n
    let now := xor o.pin o.invert
    State.agoPin n (if act = 0 then true else if act = 1 then false else !now)
      { s with out.ago := s.out.ago.upd n (fun x => { x with highZ := false, safe := false }) }
  else s

/-! ### Overrides -/

/-- Override an output, or release it (R273, R295). -/
def State.setForce (kind n : Nat) (f : Option Force) (s : State) : State :=
  if kind = Dest.ao then { s with out.ao := s.out.ao.upd n (fun o => { o with force := f }) }
  else if kind = Dest.ago then { s with out.ago := s.out.ago.upd n (fun o => { o with force := f }) }
  else { s with fld.owns := s.fld.owns.upd n (fun o => { o with force := f }) }

/-- The override of an output. -/
def State.forceOf (s : State) (kind n : Nat) : Option Force :=
  if kind = Dest.ao then (s.out.ao.get n).force
  else if kind = Dest.ago then (s.out.ago.get n).force
  else (s.fld.owns.get n).force

/-- FORCE_DURATION_END (R273, R295): the DURATION of an override has passed. -/
def execForceDurationEnd (a : At) (kind n : Nat) (s : State) : Host.Outcome State Fault Refusal :=
  let t := s.advance a
  .next (match (t.forceOf kind n).bind (fun f => f.until_) with
    | some u => if u ≤ t.turn then t.setForce kind n none else t
    | none => t)

/-- The override a request asks for: its value and, for a DURATION other than 0, its last turn. -/
def State.forceAsked (s : State) (value : Nat) (duration : Nat) : Force :=
  { value := value, until_ := if duration = 0 then none else some (s.turn + duration) }

/-- Perform a force request on an output: MODE 00h releases it. -/
def State.performForce (kind n : Nat) (release : Bool) (value duration : Nat) (s : State) : State :=
  s.setForce kind n (if release then none else some (s.forceAsked value duration))

/-- The answer to an override request (R273): DEFERRED while a zone in another mode commands the output. -/
def State.askForce (kind n : Nat) (release : Bool) (value duration : Nat) (s : State) : State × Option Resp :=
  if !release && s.overrideWaits kind n then s.fail .deferred
  else State.ok (s.performForce kind n release value duration)

/-- AO_FORCE (R295). -/
def opAoForce : OpDef :=
  { cls := 2, opcode := 0x0031, fns := [11]
    len := fun n => n == 8
    content := fun s r => decide (r.target < 8) && decide (fieldAt r.payload 0 1 ≤ 1) && fieldAt r.payload 1 1 == 0 &&
      decide (fieldAt r.payload 2 2 ≤ 10000) && s.cfgN Fid.AO_ROLE r.target == 1
    expert := fun _ _ => true
    holds := true
    body := fun r s => s.askForce Dest.ao r.target (fieldAt r.payload 0 1 == 0) (fieldAt r.payload 2 2) (fieldAt r.payload 4 4) }

/-- AO_FORCE (R295). -/
def execAoForce (a : At) (r : Req) (s : State) : Host.Outcome State Fault Refusal := .next (serve opAoForce r (s.advance a))

/-- AGO_FORCE (R295). -/
def opAgoForce : OpDef :=
  { cls := 2, opcode := 0x0032, fns := [12]
    len := fun n => n == 8
    content := fun s r => decide (r.target < 8) && decide (fieldAt r.payload 0 1 ≤ 1) && fieldAt r.payload 1 1 == 0 &&
      decide (2 ≤ s.cfgN Fid.AGO_MODE r.target)
    expert := fun _ _ => true
    holds := true
    body := fun r s => s.askForce Dest.ago r.target (fieldAt r.payload 0 1 == 0) (fieldAt r.payload 2 2) (fieldAt r.payload 4 4) }

/-- AGO_FORCE (R295). -/
def execAgoForce (a : At) (r : Req) (s : State) : Host.Outcome State Fault Refusal := .next (serve opAgoForce r (s.advance a))

/-! ### Reads -/

/-- The status word of an analogue output (R293). -/
def State.aoStatus (s : State) (n : Nat) : Nat :=
  let o := s.out.ao.get n
  o.code + 2 ^ 25 * bit o.watchdog + 2 ^ 26 * bit o.mismatch + 2 ^ 27 * bit o.limit + 2 ^ 28 * bit o.forced +
    2 ^ 29 * bit o.guard + 2 ^ 30 * bit o.safe + 2 ^ 31 * bit (s.cfgN Fid.AO_ROLE n == 1)

/-- The status word of an angle output (R294). -/
def State.agoStatus (s : State) (n : Nat) : Nat :=
  let o := s.out.ago.get n
  o.edges + 2 ^ 23 * bit o.watchdog + 2 ^ 24 * bit o.pin + 2 ^ 25 * bit o.forced + 2 ^ 26 * bit o.guard +
    2 ^ 27 * bit o.stopped + 2 ^ 28 * bit o.safe + 2 ^ 29 * s.cfgN Fid.AGO_MODE n

/-- AO_READ (R295): the read clears WATCHDOG. -/
def opAoRead : OpDef :=
  { cls := 1, opcode := 0x0030, fns := [11]
    len := fun n => n == 0
    content := fun _ r => decide (r.target < 8)
    off := fun s r => s.cfgN Fid.AO_ROLE r.target == 0
    ready := fun s _ => s.rdy Rdy.services
    body := fun r s =>
      let o := s.out.ao.get r.target
      State.ok { s with out.ao := s.out.ao.upd r.target (fun x => { x with watchdog := false }) }
        (le 8 o.latched.toNat ++ le 4 o.value.toNat ++ le 2 (mvOfCode o.code) ++ le 2 o.measured ++
          le 2 (ofSigned 16 o.current) ++ le 2 0 ++ le 4 (s.aoStatus r.target)) }

/-- AO_READ (R295). -/
def execAoRead (a : At) (r : Req) (s : State) : Host.Outcome State Fault Refusal := .next (serve opAoRead r (s.advance a))

/-- AGO_READ (R295): the read clears WATCHDOG. -/
def opAgoRead : OpDef :=
  { cls := 1, opcode := 0x0031, fns := [12]
    len := fun n => n == 0
    content := fun _ r => decide (r.target < 8)
    off := fun s r => s.cfgN Fid.AGO_MODE r.target == 0
    ready := fun s _ => s.rdy Rdy.services
    body := fun r s =>
      let o := s.out.ago.get r.target
      let m := s.cfgN Fid.AGO_MODE r.target
      State.ok { s with out.ago := s.out.ago.upd r.target (fun x => { x with watchdog := false }) }
        (le 8 o.latched.toNat ++ le 4 o.value.toNat ++ le 4 (if m = 3 ∨ m = 5 then o.firing else 0) ++ le 2 o.acc ++ le 2 0 ++
          le 4 (s.agoStatus r.target)) }

/-- AGO_READ (R295). -/
def execAgoRead (a : At) (r : Req) (s : State) : Host.Outcome State Fault Refusal := .next (serve opAgoRead r (s.advance a))

end Sys2Proof.Machine
end

