-- ==== Sys2Proof/Machine/Snapshot.lean ====
section
/-! DEFINITION. Machine/Snapshot.lean: the input image as Helm reads it at a sample angle (R30, R93, R98, R110, R136, R186). -/

namespace Sys2Proof.Machine

/-- Take the source values of a zone's references at the sample angle (R98). -/
def State.snapRefs (z : Nat) (s : State) : State :=
  let src := (upTo (s.ny z)).foldl (fun (t : Tbl (Option Word32)) k =>
    ((t.set (k * 3) (s.refSource z k Fid.R_BASE)).set (k * 3 + 1) (s.refSource z k Fid.R_FALLBACK)).set (k * 3 + 2)
      (s.refSource z k Fid.R_ADJUST)) ([] : Tbl (Option Word32))
  { s with zio := s.zio.upd z (fun o => { o with refSrc := src }) }

/-- The measured outputs and disturbances of a zone as they stand (R93). -/
def State.snapZone (z : Nat) (s : State) : State :=
  let y := (upTo (s.ny z)).foldl (fun (t : Tbl Bound) k => t.set k (s.boundY z k)) ([] : Tbl Bound)
  let d := (upTo (s.nd z)).foldl (fun (t : Tbl Bound) k => t.set k (s.boundD z k)) ([] : Tbl Bound)
  let last := (upTo (s.nd z)).foldl (fun (t : Tbl (Option Word32)) k => match (d.get k).get? with
    | some v => t.set k (some v)
    | none => t) (s.zio.get z).lastD
  let seen := fun (at_ : Nat) (b : Tbl Bound) (n : Nat) (t : Tbl (Option Word32)) =>
    (upTo n).foldl (fun (t : Tbl (Option Word32)) k =>
      if (b.get k).validity != .absent && !F32.isNaN (b.get k).value then t.set (at_ + k) (some (b.get k).value) else t) t
  State.snapRefs z { s with
    zones := s.zones.upd z (fun o => { o with y := y, d := d })
    zio := s.zio.upd z (fun o => { o with
      flowIn := (s.fieldInput Fid.OCC_AIRFLOW z none z 0).get?
      presIn := [(s.fieldInput Fid.OCC_PRESENCE0 z none z 0).get?, (s.fieldInput Fid.OCC_PRESENCE1 z none z 0).get?]
      lastD := last, lastValue := seen 0 y (s.ny z) (seen 16 d (s.nd z) o.lastValue) }) }

/-- A floor sample falls due at the present stamp and has not fired (R70, R614). -/
def State.sampleDue (s : State) : Bool :=
  let e := s.mer.slots.get 0
  e.words.action == 7 && e.dueBy s.now

/-- Fast loops whose sample falls due at the present stamp and has not fired. -/
def State.loopsDue (s : State) : List Nat :=
  (s.mer.slots.filter (fun p => p.2.words.action == 7 && decide (1 ≤ p.2.words.arg) && p.2.dueBy s.now)).map (fun p => p.2.words.arg)

/-- The floor's snapshot of this sample angle, taken once (R30). Before HELM rises only the references' sources are read (R98). -/
def State.snapFloor (s : State) : State :=
  if s.helm.snapAt = some s.now then s else
  State.each s.zonesPresent (if s.rdy Rdy.helm then State.snapZone else State.snapRefs) { s with helm.snapAt := some s.now }

/-- The snapshot of a fast loop at its sample angle. -/
def State.snapLoop (n : Nat) (s : State) : State :=
  if (s.helm.loops.get n).snapAt = some s.now then s else
  { s with helm.loops := s.helm.loops.upd n (fun o =>
      { o with
        snapAt := some s.now
        snapY := (s.fieldInput Fid.FL_Y_SOURCE n (some (s.cfgN Fid.FL_Y_MAX_AGE n)) 256 0).get?
        snapR := (s.fieldInput Fid.FL_R_SOURCE n none 256 0).get? }) }

/-- Before a value is posted: a sample that is due at this stamp reads the image as it stood (R30), for a value posted at the sample angle is
used at the next sample. -/
def State.sampleFirst (s : State) : State :=
  if s.peerHolds then s else
  State.each s.loopsDue State.snapLoop (if s.sampleDue then s.snapFloor else s)

end Sys2Proof.Machine
end

