-- ==== Sys2Proof/Machine/Zones.lean ====
section
/-! DEFINITION. Machine/Zones.lean: references (R95–R98), zone status (R108), saved modes and HOST values (R99, R104), and the
zone operations of the BASIC class (R82, R100, R401, R402). -/

namespace Sys2Proof.Machine

/-! ### References -/

/-- A reference whose three sources are all NONE (R96). -/
def State.refUnused (s : State) (z k : Nat) : Bool :=
  [Fid.R_BASE, Fid.R_FALLBACK, Fid.R_ADJUST].all (fun f => descKind (s.cfgN f (sigIdx z k)) == 0)

/-- Limits of a reference in the model unit (R95); "no value" limits nothing. -/
def State.refClamp (s : State) (z k : Nat) (v : Word32) : Word32 :=
  let kind := s.cfgN Fid.Y_KIND (sigIdx z k)
  let lo := modelLimit kind (s.cfgN Fid.R_MIN (sigIdx z k))
  let hi := modelLimit kind (s.cfgN Fid.R_MAX (sigIdx z k))
  let v1 := match lo with
    | some l => if F32.lt v l then l else v
    | none => v
  match hi with
  | some h => if F32.lt h v1 then h else v1
  | none => v1

/-- The adjustment within its limit (R95). -/
def State.refAdjust (s : State) (z k : Nat) (a : Option Word32) : Word32 :=
  let l := (modelLimit (s.cfgN Fid.Y_KIND (sigIdx z k)) (s.cfgN Fid.R_ADJ_LIMIT (sigIdx z k))).getD 0
  F32.clamp (F32.neg l) l (a.getD 0)

/-- A limit of R81 in 2^-149 of the basic unit. -/
def exactLimit (raw : Nat) : Int := sext 32 raw * 2 ^ 149

/-- The sum of base and adjustment within its limits and the rate limit (R95, R97), exactly, in 2^-149 of the basic unit. -/
def State.refTarget (s : State) (z k : Nat) (prev : Option Int) (base : Word32) (adjust : Option Word32) : Int :=
  let f := fun field => s.cfgN field (sigIdx z k)
  let unit := (limitScale (f Fid.Y_KIND) : Int)
  let l := exactLimit (f Fid.R_ADJ_LIMIT)
  let a := max (-l) (min l (F32.exact (adjust.getD 0) * unit))
  let b := F32.exact base * unit + a
  let v := if f Fid.R_MIN = 0x80000000 then b else max b (exactLimit (f Fid.R_MIN))
  let t := if f Fid.R_MAX = 0x80000000 then v else min v (exactLimit (f Fid.R_MAX))
  match prev with
  | some p =>
    if f Fid.R_RATE = 0 then t else
    let step := (f Fid.R_RATE * 2 ^ 136 : Nat)
    p + max (-(step : Int)) (min step (t - p))
  | none => t

/-- Form reference k (R95, R96). -/
def State.formRef (s : State) (z k : Nat) (o : ZoneIo) : ZoneIo :=
  if s.refUnused z k then { o with ref := o.ref.set k (some 0), refFallback := o.refFallback.set k false } else
  let base := o.refSrc.get (k * 3)
  let b := match base with
    | some v => some v
    | none => o.refSrc.get (k * 3 + 1)
  let held := match b with
    | some v => some v
    | none => o.held.get k
  let from_ := match held with
    | some v => some v
    | none => modelLimit (s.cfgN Fid.Y_KIND (sigIdx z k)) (s.cfgN Fid.R_DEFAULT (sigIdx z k))
  let r := from_.map (fun v => s.refTarget z k (o.previous.get k) v (o.refSrc.get (k * 3 + 2)))
  { o with
    held := o.held.set k held
    previous := match r with
      | some v => o.previous.set k (some v)
      | none => o.previous
    ref := o.ref.set k (r.map (fun v => F32.ofRat v (2 ^ 149 * limitScale (s.cfgN Fid.Y_KIND (sigIdx z k)))))
    refFallback := o.refFallback.set k base.isNone
    noRef := o.noRef || r.isNone }

/-- References of a zone, computed after the apply angle from the values of the sample angle (R98). -/
def State.formRefs (z : Nat) (s : State) : State :=
  { s with zio := s.zio.upd z (fun o => (upTo (s.ny z)).foldl (fun t k => s.formRef z k t) { o with noRef := false }) }

/-! ### Modes -/

/-- The mode a saved record holds: MAINTENANCE and SOUNDING come back as HOLD_SAFE (R104). -/
def ZMode.saved : ZMode → Nat
  | .auto => 1
  | .manual => 2
  | _ => 0

/-- A zone's mode changes: the change is saved (R104). -/
def State.setMode (z : Nat) (m : ZMode) (s : State) : State :=
  if (s.zones.get z).mode = m then s else
  State.save { typ := 0x0004, key := z, payload := le 1 m.saved }
    { s with zones := s.zones.upd z (fun o => { o with mode := m }) }

/-! ### Status (R108) -/

/-- Descriptors of the destinations of a zone's actuator inputs. -/
def State.zoneDests (s : State) (z : Nat) : List Nat :=
  ((upTo (s.nu z)).flatMap (fun k => [s.cfgN Fid.U_DEST0 (sigIdx z k), s.cfgN Fid.U_DEST1 (sigIdx z k)])).filter
    (fun d => descKind d != 0)

/-- The physical output a descriptor commands: a fast loop's own destination for a fast loop. -/
def State.outputOf (s : State) (d : Nat) : Nat := if descKind d = Dest.fast then s.cfgN Fid.FL_DEST (descIndex d) else d

/-- Rank of the owner of a descriptor's output. -/
def State.destRank (s : State) (d : Nat) : Nat :=
  let o := s.outputOf d
  (s.destDriver (descKind o) (descIndex o)).rank

/-- Four flags of a zone as a nibble. -/
def nibble (f : Nat → Bool) : Nat := maskOf ((upTo 4).map f)

/-- The status word of a present zone (R108). -/
def State.zoneStatus (s : State) (z : Nat) : Nat :=
  let o := s.zones.get z
  let io := s.zio.get z
  let ranks := (s.zoneDests z).map s.destRank
  let ybits := nibble (fun k => decide (k < s.ny z) && (o.y.get k).validity != .valid)
  let dbits := nibble (fun k => decide (k < s.nd z) && (o.d.get k).validity != .valid && (o.d.get k).validity != .absent)
  let owned := nibble (fun k => decide (k < s.nu z) &&
    (s.higher (s.cfgN Fid.U_DEST0 (sigIdx z k)) || s.higher (s.cfgN Fid.U_DEST1 (sigIdx z k))))
  8 * bit io.noRef + 2 ^ 4 * owned + 2 ^ 8 * nibble (fun k => io.refFallback.get k) + 2 ^ 12 * nibble (fun k => io.uSat.get k) +
    2 ^ 16 * dbits + 2 ^ 20 * ybits + 2 ^ 24 * bit o.deferredMode.isSome + 2 ^ 25 * bit (ranks.contains 3) +
    2 ^ 26 * bit (ranks.contains 2) + 2 ^ 27 + 2 ^ 28 * o.mode.code

/-- Refresh the status word of a zone at the apply angle (R108). -/
def State.refreshStatus (z : Nat) (s : State) : State :=
  { s with zio := s.zio.upd z (fun o => { o with status := BitVec.ofNat 32 (s.zoneStatus z) }) }

/-! ### Addresses -/

/-- Zone and signal code of a TARGET (R83). -/
def zoneOf (r : Req) : Nat := r.target % 256
def sigOf (r : Req) : Nat := r.target / 256 % 256

/-- Dimension of a signal class of a zone (R82). -/
def State.classDim (s : State) (z c : Nat) : Nat :=
  match c with
  | 0 => s.ny z
  | 1 => s.nu z
  | 2 => s.nd z
  | 3 => s.ny z
  | 4 => s.nx z
  | _ => 0

/-- A TARGET that addresses a signal (R82, R83): dimensions count only for a present zone. -/
def State.sigTarget (s : State) (r : Req) : Bool :=
  decide (r.target < 65536) && decide ((sigOf r) / 16 ≤ 4) && decide ((sigOf r) % 16 < (if (sigOf r) / 16 = 4 then 8 else 4)) &&
    (!s.present (zoneOf r) || decide ((sigOf r) % 16 < s.classDim (zoneOf r) ((sigOf r) / 16)))

/-- A TARGET that addresses a zone as a whole (R83). -/
def zoneTarget (r : Req) : Bool := decide (r.target < 256)

/-- Kind of a signal (R77, R78). -/
def State.sigKind (s : State) (z sig : Nat) : Nat :=
  let i := sigIdx z (sig % 16)
  match sig / 16 with
  | 0 => s.cfgN Fid.Y_KIND i
  | 1 => s.cfgN Fid.U_KIND i
  | 2 => s.cfgN Fid.D_KIND i
  | 3 => s.cfgN Fid.Y_KIND i
  | _ => 0

/-- A kind without a basic format (R80). -/
def noBasic (kind : Nat) : Bool := (kindScale kind).isNone

/-! ### Reads -/

/-- ZONE_STATUS (R400). -/
def opZoneStatus : OpDef :=
  { cls := 1, opcode := 0x0001, fns := [13]
    len := fun n => n == 0
    content := fun _ r => zoneTarget r
    off := fun s r => !s.present (zoneOf r)
    body := fun r s => s.ok (le 4 (s.zio.get (zoneOf r)).status.toNat ++ le 4 0) }

/-- ZONE_STATUS (R400). -/
def execZoneStatus (a : At) (r : Req) (s : State) : Host.Outcome State Fault Refusal := .next (serve opZoneStatus r (s.advance a))

/-- Stamp, value and validity code of a signal (R401). -/
def State.signal (s : State) (z sig : Nat) : Stamp × Option Word32 × Nat :=
  let o := s.zones.get z
  let k := sig % 16
  match sig / 16 with
  | 0 => ((o.y.get k).stamp, some (o.y.get k).value, (o.y.get k).validity.code)
  | 1 => if o.applied then (o.at_, some (o.u.get k), 0) else (0, none, 3)
  | 2 => ((o.d.get k).stamp, some (o.d.get k).value, (o.d.get k).validity.code)
  | 3 => match (s.zio.get z).ref.get k with
    | some v => (o.at_, some v, 0)
    | none => (0, none, 3)
  | _ => (o.at_, some (o.xhat.get k), 0)

/-- The descriptor SIGNAL_READ reports (R401). -/
def State.sigSource (s : State) (z sig : Nat) : Nat :=
  let i := sigIdx z (sig % 16)
  match sig / 16 with
  | 0 => s.cfgN Fid.Y_SOURCE i
  | 1 => s.cfgN Fid.U_DEST0 i
  | 2 => s.cfgN Fid.D_SOURCE i
  | 3 => s.cfgN Fid.R_BASE i
  | _ => 0

/-- The response of SIGNAL_READ (R401): a value without a valid source has no basic value (R79). -/
def State.signalBytes (s : State) (z sig : Nat) : List Byte :=
  let x := s.signal z sig
  let kind := s.sigKind z sig
  let v := if x.2.2 = 3 then none else x.2.1
  le 8 x.1.toNat ++ le 4 (v.getD F32.nan).toNat ++ le 4 (if noBasic kind then 0 else toBasic kind (if x.2.2 = 0 then v else none)) ++ le 1 kind ++ le 1 x.2.2 ++
    le 2 0 ++ le 4 (s.sigSource z sig)

/-- SIGNAL_READ (R401): estimates and kinds without a basic format only at expert level (R80, R82). -/
def opSignalRead : OpDef :=
  { cls := 1, opcode := 0x0002, fns := [13]
    len := fun n => n == 0
    content := fun s r => s.sigTarget r
    expert := fun s r => (sigOf r) / 16 == 4 || (s.present (zoneOf r) && noBasic (s.sigKind (zoneOf r) (sigOf r)))
    off := fun s r => !s.present (zoneOf r)
    body := fun r s => s.ok (s.signalBytes (zoneOf r) (sigOf r)) }

/-- SIGNAL_READ (R401). -/
def execSignalRead (a : At) (r : Req) (s : State) : Host.Outcome State Fault Refusal := .next (serve opSignalRead r (s.advance a))

/-! ### Writes -/

/-- Source kinds of a reference. -/
def State.refHost (s : State) (z k field : Nat) : Bool := descKind (s.cfgN field (sigIdx z k)) == 7

/-- A reference with a HOST source is written by the host (R82, R345). -/
def State.refHosted (s : State) (z k : Nat) : Bool :=
  s.refHost z k Fid.R_BASE || s.refHost z k Fid.R_FALLBACK || s.refHost z k Fid.R_ADJUST

/-- Whether R82 lets the host write a signal. -/
def State.sigWritable (s : State) (z sig : Nat) : Bool :=
  let k := sig % 16
  match sig / 16 with
  | 0 => descKind (s.cfgN Fid.Y_SOURCE (sigIdx z k)) == 7
  | 1 => (s.zones.get z).mode == .manual
  | 2 => descKind (s.cfgN Fid.D_SOURCE (sigIdx z k)) == 7
  | 3 => s.refHosted z k
  | _ => false

/-- A HOST reference value as it is stored: within R_MIN to R_MAX, or within the adjust limit (R99). -/
def State.storedRef (s : State) (z k : Nat) (v : Word32) : Word32 :=
  let w := if s.refHost z k Fid.R_BASE || s.refHost z k Fid.R_FALLBACK then s.refClamp z k v else v
  if s.refHost z k Fid.R_ADJUST then s.refAdjust z k (some w) else w

/-- Write one priority slot of a u or reference (R345); `none` relinquishes it. -/
def State.setPrio (isRef : Bool) (z k slot : Nat) (v : Option Word32) (s : State) : State :=
  let s := s.sampleFirst
  { s with zio := s.zio.upd z (fun o =>
      if isRef then { o with prioR := o.prioR.upd k (fun p => p.set slot v), hostRStamp := o.hostRStamp.set k s.now, dirty := true }
      else { o with prioU := o.prioU.upd k (fun p => p.set slot v), hostUStamp := o.hostUStamp.set k s.now, dirty := true }) }

/-- Write or clear the HOST value of a measured output or disturbance (R99). -/
def State.setHostValue (isY : Bool) (z k : Nat) (v : Option Word32) (s : State) : State :=
  let h : HostVal := { valid := v.isSome, value := v.getD 0, stamp := s.now }
  let s := s.sampleFirst
  { s with zio := s.zio.upd z (fun o =>
      if isY then { o with hostY := o.hostY.set k h } else { o with hostD := o.hostD.set k h }) }

/-- Write a signal's HOST value in the model unit, through priority `slot` where it has an array; the value stored. -/
def State.writeSignal (z sig slot : Nat) (v : Option Word32) (s : State) : State × Option Word32 :=
  let k := sig % 16
  match sig / 16 with
  | 0 => (s.setHostValue true z k v, v)
  | 1 => (s.setPrio false z k slot v, v)
  | 2 => (s.setHostValue false z k v, v)
  | _ => let w := v.map (s.storedRef z k)
    (s.setPrio true z k slot w, w)

/-- VALUE of a SIGNAL_WRITE has 0 above its format (R402). -/
def basicFits (kind v : Nat) : Bool := decide (v < 2 ^ kindBits kind)

/-- SIGNAL_WRITE (R402). -/
def opSignalWrite : OpDef :=
  { cls := 1, opcode := 0x0003, fns := [13]
    len := fun n => n == 8
    content := fun s r => s.sigTarget r && allZero (r.payload.drop 4) &&
      (!s.present (zoneOf r) || basicFits (s.sigKind (zoneOf r) (sigOf r)) (fieldAt r.payload 0 4) || noBasic (s.sigKind (zoneOf r) (sigOf r)))
    permits := fun s r => !s.present (zoneOf r) || (!noBasic (s.sigKind (zoneOf r) (sigOf r)) && s.sigWritable (zoneOf r) (sigOf r))
    holds := true
    off := fun s r => !s.present (zoneOf r)
    body := fun r s =>
      let kind := s.sigKind (zoneOf r) (sigOf r)
      let v := ofBasic kind (fieldAt r.payload 0 4)
      let x := s.writeSignal (zoneOf r) (sigOf r) (s.cfgN Fid.SVC_HOST_PRIORITY) v
      (x.1, some (x.1.resp (if x.2 = v then .done else .doneClamped) (le 4 (toBasic kind x.2)))) }

/-- SIGNAL_WRITE (R402). -/
def execSignalWrite (a : At) (r : Req) (s : State) : Host.Outcome State Fault Refusal := .next (serve opSignalWrite r (s.advance a))

/-- Fields that may name a host input, with the FUNCTION each is written under (R100). -/
def hostFields : List (Nat × Nat) :=
  [(Fid.FL_Y_SOURCE, 13), (Fid.FL_R_SOURCE, 13), (Fid.OCC_PRESENCE0, 13), (Fid.OCC_PRESENCE1, 13), (Fid.OCC_AIRFLOW, 13),
   (Fid.WP_SCHEDULE, 14), (Fid.CH_TEMP_SOURCE, 25), (Fid.OBJ_POINT, 16)]

/-- The object whose field names a host input is present and enabled (R21): its loop, its zone with occupancy estimation, the planner's
reference, the Chart, its BACnet object. -/
def State.hostOwnerOn (s : State) (field idx : Nat) : Bool :=
  if field = Fid.FL_Y_SOURCE ∨ field = Fid.FL_R_SOURCE then s.cfgN Fid.FL_ENABLE idx == 1
  else if field = Fid.OCC_PRESENCE0 ∨ field = Fid.OCC_PRESENCE1 ∨ field = Fid.OCC_AIRFLOW then s.present idx && s.cfgN Fid.OCC_ENABLE idx == 1
  else if field = Fid.WP_SCHEDULE then s.present idx && s.cfgN Fid.WP_ENABLE == 1
  else if field = Fid.CH_TEMP_SOURCE then s.cfgN Fid.CH_MODE != 0
  else s.cfgN Fid.OBJ_TYPE idx != 255

/-- HOST_INPUT_WRITE (R100): a NaN clears the input. -/
def opHostInputWrite : OpDef :=
  { cls := 1, opcode := 0x0005, fns := [13, 14, 16, 25]
    len := fun n => n == 8
    content := fun s r =>
      let f := r.target / 65536
      let i := r.target % 65536
      hostFields.contains (f, r.fn) && (fieldRow f).any (fun x => x.dom.has i) && allZero (r.payload.drop 4) &&
        (!s.hostOwnerOn f i || descKind (s.cfgN f i) == 7) && !F32.isInf (BitVec.ofNat 32 (fieldAt r.payload 0 4))
    holds := true
    off := fun s r => !s.hostOwnerOn (r.target / 65536) (r.target % 65536)
    body := fun r s =>
      let v := BitVec.ofNat 32 (fieldAt r.payload 0 4)
      let h : HostVal := { valid := !F32.isNaN v, value := if F32.isNaN v then 0 else v, stamp := s.now }
      let t := s.sampleFirst
      State.ok { t with hostIn := t.hostIn.set r.target h } }

/-- HOST_INPUT_WRITE (R100). -/
def execHostInputWrite (a : At) (r : Req) (s : State) : Host.Outcome State Fault Refusal := .next (serve opHostInputWrite r (s.advance a))

/-! ### Saved HOST values -/

/-- The priority arrays of a zone's u0–u3 and references as the record of TYPE 0003h holds them (assumption 13): eight masks of
the slots that are not NULL, then 128 words. -/
def ZoneIo.saved (o : ZoneIo) : List Byte :=
  let arrays := (upTo 4).map o.prioU.get ++ (upTo 4).map o.prioR.get
  leList 2 (arrays.map (fun p => maskOf ((upTo 16).map (fun i => (p.get (i + 1)).isSome)))) ++
    leList 4 (arrays.flatMap (fun p => (upTo 16).map (fun i => ((p.get (i + 1)).getD 0).toNat)))

/-- One array of a saved record. -/
def savedPrio (bs : List Byte) (j : Nat) : Prio :=
  let mask := fieldAt bs (2 * j) 2
  (upTo 16).foldl (fun (p : Prio) i => if bitOf mask i then p.set (i + 1) (some (BitVec.ofNat 32 (fieldAt bs (16 + 64 * j + 4 * i) 4))) else p) []

/-- Restore a zone's HOST values and priority arrays (R99). -/
def ZoneIo.restore (o : ZoneIo) (bs : List Byte) : ZoneIo :=
  { o with
    prioU := (upTo 4).foldl (fun (t : Tbl Prio) j => t.set j (savedPrio bs j)) []
    prioR := (upTo 4).foldl (fun (t : Tbl Prio) j => t.set j (savedPrio bs (4 + j))) [] }

/-- HOST_VALUE_SAVE (R99): at a turn boundary that is a multiple of 64. -/
def execHostValueSave (a : At) (s : State) : Host.Outcome State Fault Refusal :=
  let t := s.advance a
  .next (if t.rdy Rdy.nvstore && t.grain == 0 && t.turn % 64 == 0 then
      State.each (t.zonesPresent.filter (fun z => (t.zio.get z).dirty)) (fun z u =>
        State.save { typ := 0x0003, key := z, payload := (u.zio.get z).saved }
          { u with zio := u.zio.upd z (fun o => { o with dirty := false }) }) t
    else t)

end Sys2Proof.Machine
end

