-- ==== Sys2Proof/Machine/Banks.lean ====
section
/-! DEFINITION. Machine/Banks.lean: the two model banks (R118–R122), the bank operations and their queue (R124–R134), and the
saved form (R155–R157). -/

namespace Sys2Proof.Machine

/-! ### Layout (R119, R120) -/

/-- First word of each part of a zone block. -/
abbrev Zw.a : Nat := 0
abbrev Zw.g (j : Nat) : Nat := 64 + 64 * j
abbrev Zw.b : Nat := 448
abbrev Zw.e : Nat := 480
abbrev Zw.c : Nat := 512
abbrev Zw.l : Nat := 544
abbrev Zw.k : Nat := 576
abbrev Zw.f : Nat := 608
abbrev Zw.u0 : Nat := 624
abbrev Zw.xLimit : Nat := 628
abbrev Zw.xInit : Nat := 636
abbrev Zw.modelId : Nat := 644

/-- First word of each part of a fast-loop block. -/
abbrev Lw.a : Nat := 0
abbrev Lw.b : Nat := 16
abbrev Lw.c : Nat := 20
abbrev Lw.l : Nat := 24
abbrev Lw.k : Nat := 28
abbrev Lw.f : Nat := 32
abbrev Lw.u0 : Nat := 33
abbrev Lw.modelId : Nat := 34

/-- Words of a block: kinds 0 zone, 1 fast loop, 2 header (R118, R124). -/
def blockWords (kind : Nat) : Nat := if kind = 0 then 672 else 64

/-- Words below this hold finite binary32 values (R122). -/
def coefWords (kind : Nat) : Nat := if kind = 0 then Zw.modelId else if kind = 1 then Lw.modelId else 0

/-- Words that can be written: the coefficients, MODEL_ID, LABEL (R119–R121, R126). -/
def writableWords (kind : Nat) : Nat := coefWords kind + 1

/-! ### Banks -/

/-- The bank in a role (R118): `shadow` or active. -/
def Helm.bank (h : Helm) (shadow : Bool) : Bank := if xor h.active1 shadow then h.bank1 else h.bank0

/-- Number of the bank in a role. -/
def Helm.phys (h : Helm) (shadow : Bool) : Nat := bit (xor h.active1 shadow)

/-- Replace the bank in a role. -/
def Helm.setBank (h : Helm) (shadow : Bool) (b : Bank) : Helm :=
  if xor h.active1 shadow then { h with bank1 := b } else { h with bank0 := b }

/-- Apply a change to both banks. -/
def Helm.bothBanks (h : Helm) (f : Bank → Bank) : Helm := { h with bank0 := f h.bank0, bank1 := f h.bank1 }

/-- Word `w` of a block. -/
def Bank.word (b : Bank) (kind num w : Nat) : Word32 :=
  match kind with
  | 0 => b.zones.get (num * 672 + w)
  | 1 => b.loops.get ((num - 1) * 64 + w)
  | _ => if w = 0 then b.label else if w = 1 then b.units else 0

/-- Word `w` of a zone's active block. -/
def State.zw (s : State) (z w : Nat) : Word32 := (s.helm.bank false).word 0 z w

/-- Word `w` of a loop's active block. -/
def State.lw (s : State) (n w : Nat) : Word32 := (s.helm.bank false).word 1 n w

/-- Write words of a block. -/
def Bank.putWords (b : Bank) (kind num first : Nat) (vs : List Word32) : Bank :=
  match kind with
  | 0 => { b with zones := b.zones.writeList (num * 672 + first) vs }
  | 1 => { b with loops := b.loops.writeList ((num - 1) * 64 + first) vs }
  | _ => { b with label := vs.headD b.label }

/-- Clear a run of words of a block (R123). -/
def Bank.clearWords (b : Bank) (kind num first len : Nat) : Bank := b.putWords kind num first (List.replicate len 0)

/-- Key of a block in the counts of R162. -/
def blockKey (kind num : Nat) : Nat := if kind = 0 then num else 255 + num

/-- One write unit on a bank (R121, R127, R162). -/
def Bank.unit (b : Bank) (kind num first : Nat) (vs : List Word32) : Bank :=
  let c := b.putWords kind num first vs
  { c with
    units := c.units + 1
    blockUnits := if kind ≤ 1 then c.blockUnits.upd (blockKey kind num) (fun n => (n + 1) % 65536) else c.blockUnits }

/-- A block's object: the zone is present, the loop enabled. -/
def State.blockOn (s : State) (kind num : Nat) : Bool :=
  if kind = 0 then s.present num else if kind = 1 then s.cfgN Fid.FL_ENABLE num == 1 else true

/-- A range of words meets a part of a block. -/
def touches (first len lo hi : Nat) : Bool := decide (first < hi) && decide (lo < first + len)

/-- Words of K, F and u0 (R140). -/
def gainTouched (kind first len : Nat) : Bool :=
  if kind = 0 then touches first len Zw.k Zw.xLimit else if kind = 1 then touches first len Lw.k Lw.modelId else false

/-- Words of A, G, B, E, K, F and u0 of a zone (R174). -/
def planTouched (kind first len : Nat) : Bool :=
  kind == 0 && (touches first len 0 Zw.c || touches first len Zw.k Zw.xLimit)

/-- The plan model is due again (R174, R179). -/
def State.planModelDue (s : State) : State := { s with plan.modelDue := true, plan.replan := true }

/-- Every zone and loop resets its transfer term at its next sample (R132, R140). -/
def State.resetAllW (s : State) : State :=
  { s with
    zones := s.zones.updAll s.zonesPresent (fun _ o => { o with wReset := true })
    helm.loops := s.helm.loops.updAll (s.cfg.listed Fid.FL_ENABLE) (fun _ o => { o with wReset := true }) }

/-! ### Performing (R127–R134) -/

/-- The waiter's request is a SOUND_DELIVER, whose response carries nothing (R217). -/
def State.delivers (s : State) (v : Waiter) : Bool :=
  s.mb.flights.any (fun f => f.session == v.session && f.tag == v.tag && f.cls == 2 && f.opcode == 0x0025)

/-- Answer a bank operation: at once, or after the mirror frame that carries it (R130, R158). -/
def State.bankAnswer (w : Option Waiter) (y : Resp) (s : State) : State :=
  match w with
  | some v =>
    let x := if s.delivers v then { y with payload := [] } else y
    if s.rdy Rdy.mirror then { s with helm.afterFrame := s.helm.afterFrame ++ [(v, x)] } else s.answer (some v) x
  | none => s

/-- A HELM_WRITE performed (R127, R129, R134). -/
def State.performWrite (host shadow : Bool) (kind num first : Nat) (vs : List Word32) (w : Option Waiter) (s : State) : State :=
  if !s.blockOn kind num then s.bankAnswer w (s.resp .functionOff) else
  let t := { s with
    helm := { s.helm.setBank shadow ((s.helm.bank shadow).unit kind num first vs) with
      changed := s.helm.changed || !shadow }
    snd.hostStaged := s.snd.hostStaged || (host && shadow) }
  let t1 := if shadow || !gainTouched kind first vs.length then t
    else if kind = 0 then { t with zones := t.zones.upd num (fun o => { o with wReset := true }) }
    else { t with helm.loops := t.helm.loops.upd num (fun o => { o with wReset := true }) }
  let t2 := if !shadow && planTouched kind first vs.length then t1.planModelDue else t1
  t2.bankAnswer w (t2.resp .done (le 1 (s.helm.phys shadow) ++ le 3 0))

/-- A BANK_SWAP performed (R132). -/
def State.performSwap (sounded : Option Nat) (w : Option Waiter) (s : State) : State :=
  let h := { s.helm with active1 := !s.helm.active1, changed := true }
  let b := h.bank false
  let t := State.resetAllW { s with helm := h, snd.hostStaged := false }
  let t1 := match sounded with
    | some z => 
      let o := t.snd.newest z (fun x => x.delivered)
      { t with snd := t.snd.put z { o with flags := o.flags ||| 2 } }
    | none => t
  let t2 := State.record 13 1 0x0004 (le 1 (h.phys false) ++ le 4 b.label.toNat ++ le 4 b.units.toNat) false 0 t1.planModelDue
  t2.bankAnswer w (t2.resp .done (le 1 (h.phys false) ++ le 3 0 ++ le 4 b.label.toNat))

/-- A completed BANK_COPY takes effect (R133). DESIGN CHOICE: it carries the active bank as it stood when the copy began, also where a commit
has cleared blocks under R123 since (assumption 155). -/
def State.performCopy (b : Bank) (w : Option Waiter) (s : State) : State :=
  let t := { s with
    helm := { s.helm.setBank true { b with units := 0, blockUnits := [] } with copying := none, copyDone := false }
    snd.hostStaged := false }
  let t1 := State.record 13 1 0x0005 (le 1 (t.helm.phys true)) false 0 t
  t1.bankAnswer w (t1.resp .done (le 1 (t1.helm.phys true) ++ le 3 0))

/-- Words an operation would write, which count against the budget of R128: a unit that is discarded writes none (R134). -/
def State.opWords (s : State) : BankOp → Nat
  | .write _ _ kind num _ vs _ => if s.blockOn kind num then vs.length else 0
  | .copy _ => 0
  | .swap _ _ => 0

/-- An operation takes effect and goes with the next mirror frame, where a pair sends any (R158, R495). -/
def State.mirrored (op : BankOp) (s : State) : State :=
  if s.cfgN Fid.PAIR_ENABLE = 1 ∧ !s.pair.withdrawn then { s with helm.performed := s.helm.performed ++ [op] } else { s with helm.performed := [] }

/-- Serve at most `fuel` operations of the queue at a floor sample angle (R128): `used` words so far, `first` before the first
operation. -/
def State.serveQueue : Nat → Nat → Bool → State → State
  | 0, _, _, s => s
  | fuel + 1, used, first, s =>
    match s.helm.queue with
    | [] => s
    | op :: rest =>
      if !first && decide (4096 < used + s.opWords op) then s else
      let t := { s with helm.queue := rest }
      match op with
      | .write host shadow kind num start vs w =>
        State.serveQueue fuel (used + s.opWords op) false ((t.mirrored op).performWrite host shadow kind num start vs w)
      | .swap z w => State.serveQueue fuel used false ((t.mirrored op).performSwap z w)
      | .copy w => { t with helm.copying := some (t.helm.bank false, w), helm.copyDone := false }

/-- The operations that were accepted before the present sample angle (R128). -/
def State.serveAccepted (s : State) : State :=
  { State.serveQueue (s.helm.queue.length - s.helm.lateOps) 0 true s with helm.lateOps := 0 }

/-- The bank operations of a floor sample angle: a completed copy takes effect first, and a running one holds the queue
(R133). -/
def State.bankOps (s : State) : State :=
  match s.helm.copying with
  | some (b, w) => if s.helm.copyDone then ((s.mirrored (.copy w)).performCopy b w).serveAccepted else { s with helm.lateOps := 0 }
  | none => s.serveAccepted

/-- Queue operations (R128): those accepted at a floor sample angle, before its sample fires, are not performed at it. -/
def State.enqueue (ops : List BankOp) (s : State) : State :=
  { s with
    helm.queue := s.helm.queue ++ ops
    helm.lateOps := if s.sampleDue then s.helm.lateOps + ops.length else s.helm.lateOps }

/-- BANK_COPY_COMPLETE (R133): the background copy is done. -/
def execBankCopyComplete (a : At) (s : State) : Host.Outcome State Fault Refusal :=
  let t := s.advance a
  .next (if t.helm.copying.isSome then { t with helm.copyDone := true } else t)

/-- Discard every queued operation (R134, R159); the answers are the mailbox server's affair (R388). -/
def State.dropBankQueue (s : State) : State :=
  { s with helm.queue := [], helm.lateOps := 0, helm.copying := none, helm.copyDone := false, helm.afterFrame := [] }

/-! ### Operations (R124–R126) -/

/-- Block kind and number of a TARGET (R124), when it is one. -/
def blockTarget (t : Nat) : Option (Nat × Nat) :=
  let n := t % 256
  if t / 256 % 256 ≠ 0 then none
  else match t / 65536 with
  | 0 => some (0, n)
  | 1 => if 1 ≤ n ∧ n ≤ 64 then some (1, n) else none
  | 2 => if n = 0 then some (2, 0) else none
  | _ => none

/-- BANK, OFFSET and COUNT are in form and the range lies in the block (R125, R126). -/
def bankRange (r : Req) : Bool :=
  match blockTarget r.target with
  | none => false
  | some (kind, _) =>
    let off := fieldAt r.payload 2 2
    let n := fieldAt r.payload 4 2
    decide (fieldAt r.payload 0 1 ≤ 1) && fieldAt r.payload 1 1 == 0 && fieldAt r.payload 6 2 == 0 && off % 4 == 0 &&
      decide (1 ≤ n ∧ n ≤ 672) && decide (off / 4 + n ≤ blockWords kind)

/-- The words a payload carries from byte 8 on. -/
def wordsOf (bs : List Byte) : List Word32 :=
  (upTo (bs.length / 4)).map (fun i => BitVec.ofNat 32 (fieldAt bs (4 * i) 4))

/-- A word that a HELM_WRITE may carry at its place (R126). -/
def wordAllowed (kind w : Nat) (v : Word32) : Bool :=
  decide (w < writableWords kind) && (decide (coefWords kind ≤ w) || F32.isFin v) &&
  !(kind == 0 && decide (Zw.xLimit ≤ w) && decide (w < Zw.xInit) && F32.isNeg v && v != 0x80000000#32)

/-- HELM_READ (R124, R125): on the bank as it stands; a read is answered on a standby too (R403, R505; assumption 155). -/
def opHelmRead : OpDef :=
  { cls := 2, opcode := 0x0001, fns := [13]
    len := fun n => n == 8
    content := fun _ r => bankRange r
    expert := fun _ _ => true
    off := fun s r => match blockTarget r.target with
      | some (k, n) => !s.blockOn k n
      | none => false
    body := fun r s => match blockTarget r.target with
      | some (k, n) =>
        let sh := fieldAt r.payload 0 1 == 1
        let b := s.helm.bank sh
        s.ok (le 1 (s.helm.phys sh) ++ le 3 0 ++
          (upTo (fieldAt r.payload 4 2)).flatMap (fun i => le 4 (b.word k n (fieldAt r.payload 2 2 / 4 + i)).toNat))
      | none => s.fail .badFormat }

/-- HELM_READ (R124). -/
def execHelmRead (a : At) (r : Req) (s : State) : Host.Outcome State Fault Refusal := .next (serve opHelmRead r (s.advance a))

/-- The queue holds nothing and no copy runs: a write to SHADOW is performed at once (R124, R128). -/
def State.queueEmpty (s : State) : Bool := s.helm.queue.isEmpty && s.helm.copying.isNone

/-- HELM_WRITE (R124–R130). -/
def opHelmWrite : OpDef :=
  { cls := 2, opcode := 0x0002, fns := [13]
    len := fun n => decide (8 ≤ n)
    fits := fun r => r.payload.length == 8 + 4 * fieldAt r.payload 4 2
    content := fun _ r => bankRange r &&
      (match blockTarget r.target with
       | some (k, _) => ((wordsOf (r.payload.drop 8)).zipIdx).all (fun x => wordAllowed k (fieldAt r.payload 2 2 / 4 + x.2) x.1)
       | none => false)
    expert := fun _ _ => true
    holds := true
    off := fun s r => match blockTarget r.target with
      | some (k, n) => !s.blockOn k n
      | none => false
    body := fun r s => match blockTarget r.target with
      | some (k, n) =>
        let sh := fieldAt r.payload 0 1 == 1
        let first := fieldAt r.payload 2 2 / 4
        let vs := wordsOf (r.payload.drop 8)
        let op := BankOp.write true sh k n first vs (some (Req.waiter r))
        if sh && s.queueEmpty then ((s.mirrored op).performWrite true true k n first vs (some (Req.waiter r)), none)
        else (s.enqueue [op], none)
      | none => s.fail .badFormat }

/-- HELM_WRITE (R124). -/
def execHelmWrite (a : At) (r : Req) (s : State) : Host.Outcome State Fault Refusal := .next (serve opHelmWrite r (s.advance a))

/-- BANK_COPY (R124, R133). -/
def opBankCopy : OpDef :=
  { cls := 2, opcode := 0x0003, fns := [13]
    len := fun n => n == 0
    content := fun _ r => r.target == 0x00020000
    expert := fun _ _ => true
    holds := true
    body := fun r s => (s.enqueue [.copy (some (Req.waiter r))], none) }

/-- BANK_COPY (R133). -/
def execBankCopy (a : At) (r : Req) (s : State) : Host.Outcome State Fault Refusal := .next (serve opBankCopy r (s.advance a))

/-- BANK_SWAP (R124, R132). -/
def opBankSwap : OpDef :=
  { cls := 2, opcode := 0x0004, fns := [13]
    len := fun n => n == 0
    content := fun _ r => r.target == 0x00020000
    expert := fun _ _ => true
    holds := true
    body := fun r s => (s.enqueue [.swap none (some (Req.waiter r))], none) }

/-- BANK_SWAP (R132). -/
def execBankSwap (a : At) (r : Req) (s : State) : Host.Outcome State Fault Refusal := .next (serve opBankSwap r (s.advance a))

/-! ### Diagnostics (R162) -/

/-- The diagnostic word of a zone or a loop. -/
def State.diag (s : State) (kind num : Nat) : Nat :=
  let units := (s.helm.bank false).blockUnits.get (blockKey kind num)
  if kind = 0 then
    let o := s.zones.get num
    units + 2 ^ 16 * nibble (fun k => o.uForced.get k) + 2 ^ 20 * nibble (fun k => decide (k < s.nu num) && (o.w.get k) != 0) +
      2 ^ 26 * bit o.overrun + 2 ^ 27 * bit o.xClamped + 2 ^ 28 * bit o.diverged + 2 ^ 29 * bit o.blindSince.isSome +
      2 ^ 30 * bit (decide (0 < o.warm)) + 2 ^ 31 * bit (s.zw num Zw.modelId == 0)
  else
    let o := s.helm.loops.get num
    units + 2 ^ 16 * bit o.uForced + 2 ^ 20 * bit (o.w != 0) + 2 ^ 26 * bit o.overrun + 2 ^ 28 * bit o.diverged +
      2 ^ 30 * bit (decide (0 < o.warm)) + 2 ^ 31 * bit (s.lw num Lw.modelId == 0)

/-- The read clears the bits that say so (R162). -/
def State.clearDiag (kind num : Nat) (s : State) : State :=
  if kind = 0 then
    { s with zones := s.zones.upd num (fun o => { o with uForced := [], overrun := false, xClamped := false, diverged := false }) }
  else
    { s with helm.loops := s.helm.loops.upd num (fun o => { o with uForced := false, overrun := false, diverged := false }) }

/-- HELM_DIAG (R162): an absent zone reads 0; a loop that is not enabled is off. -/
def opHelmDiag : OpDef :=
  { cls := 2, opcode := 0x0005, fns := [13]
    len := fun n => n == 0
    content := fun _ r => match blockTarget r.target with
      | some (k, _) => decide (k ≤ 1)
      | none => false
    expert := fun _ _ => true
    off := fun s r => match blockTarget r.target with
      | some (k, n) => k == 1 && !s.blockOn k n
      | none => false
    body := fun r s => match blockTarget r.target with
      | some (k, n) => if s.blockOn k n then State.ok (s.clearDiag k n) (le 4 (s.diag k n) ++ le 4 0) else s.ok (le 8 0)
      | none => s.fail .badFormat }

/-- HELM_DIAG (R162). -/
def execHelmDiag (a : At) (r : Req) (s : State) : Host.Outcome State Fault Refusal := .next (serve opHelmDiag r (s.advance a))

/-! ### The saved form (R155–R157) -/

/-- Words of a matrix of `rows` × `cols`, padded to `stride` columns, from word `at_`. -/
def matrixWords (at_ stride rows cols : Nat) : List Nat :=
  (upTo rows).flatMap (fun i => (upTo cols).map (fun j => at_ + i * stride + j))

/-- The neighbour on link j of a zone, when the link is present (R84, R85). -/
def State.neighbour (s : State) (z j : Nat) : Option Nat :=
  let n := s.cfgN Fid.NB_ZONE (sigIdx z j)
  if n < 256 && s.present n then some n else none

/-- NX of the neighbour on a link, 0 without one. -/
def State.linkNx (s : State) (z j : Nat) : Nat :=
  match s.neighbour z j with
  | some n => s.nx n
  | none => 0

/-- The words of a zone block that R112 reads, in the order of R119, with `links` columns in each G_j. -/
def State.zoneWordsBy (s : State) (z : Nat) (links : Nat → Nat) : List Nat :=
  let nx := s.nx z
  matrixWords Zw.a 8 nx nx ++ (upTo 6).flatMap (fun j => matrixWords (Zw.g j) 8 nx (links j)) ++
    matrixWords Zw.b 4 nx (s.nu z) ++ matrixWords Zw.e 4 nx (s.nd z) ++ matrixWords Zw.c 8 (s.ny z) nx ++
    matrixWords Zw.l 4 nx (s.ny z) ++ matrixWords Zw.k 8 (s.nu z) nx ++ matrixWords Zw.f 4 (s.nu z) (s.ny z) ++
    matrixWords Zw.u0 4 1 (s.nu z) ++ matrixWords Zw.xLimit 8 1 nx ++ matrixWords Zw.xInit 8 1 nx ++ [Zw.modelId]

/-- The words of a zone block that R112 reads. -/
def State.zoneWords (s : State) (z : Nat) : List Nat := s.zoneWordsBy z (s.linkNx z)

/-- The words of a fast-loop block that are read. -/
def loopWords (order : Nat) : List Nat :=
  matrixWords Lw.a 4 order order ++ matrixWords Lw.b 1 order 1 ++ matrixWords Lw.c 4 1 order ++ matrixWords Lw.l 1 order 1 ++
    matrixWords Lw.k 4 1 order ++ [Lw.f, Lw.u0, Lw.modelId]

/-- The 16 bytes before a saved zone's coefficients: its dimensions, NX of its neighbours and the neighbours (assumption 13). -/
def State.zoneHead (s : State) (z : Nat) : List Byte :=
  le 1 (s.nx z) ++ le 1 (s.nu z) ++ le 1 (s.ny z) ++ le 1 (s.nd z) ++ leList 1 ((upTo 6).map (s.linkNx z)) ++
    leList 1 ((upTo 6).map (fun j => (s.neighbour z j).getD 0))

/-- Members of the saved set: KEY and payload (R155, R450). -/
def State.bankMembers (s : State) : List (Nat × List Byte) :=
  let b := s.helm.bank false
  s.zonesPresent.map (fun z => (z, s.zoneHead z ++ leList 4 ((s.zoneWords z).map (fun w => (b.word 0 z w).toNat)))) ++
    ((s.cfg.listed Fid.FL_ENABLE).filter (fun n => s.blockOn 1 n)).map (fun n =>
      (255 + n, le 1 (s.cfgN Fid.FL_ORDER n) ++ le 15 0 ++
        leList 4 ((loopWords (s.cfgN Fid.FL_ORDER n)).map (fun w => (b.word 1 n w).toNat))))

/-- Size of the saved form (R156). -/
def State.bankSize (s : State) : Nat := 64 + ((s.bankMembers).map (fun m => m.2.length)).sum

/-- A member as it stands in the store, when the commit record in force lists it with this payload (R449). -/
def Nv.memberKept (n : Nv) (typ key : Nat) (payload : List Byte) : Option (Nat × Nat) :=
  ((n.members typ).find? (fun m => m.1 == key)).filter (fun m => (n.memberRec typ m).map n.payload == some payload)

/-- Write one record whole, when the store takes it. -/
def Nv.putOne (n : Nv) (q : SaveReq) : Option (Nv × Nat) :=
  if !n.admits q then none else
  match n.place (recordPages q.payload.length) with
  | (m, some p) => some (m.putAt q p, (m.headerFor q p).seq)
  | (_, none) => none

/-- Write the members of a set that changed, then its commit record (R449); none where the store refuses. -/
def Nv.putSet (n : Nv) (typ gen : Nat) (members : List (Nat × List Byte)) : Option Nv :=
  let step := fun (acc : Option (Nv × List (Nat × Nat))) (m : Nat × List Byte) => acc.bind (fun x =>
    match n.memberKept typ m.1 m.2 with
    | some k => some (x.1, x.2 ++ [k])
    | none => (x.1.putOne { typ := typ, key := m.1, payload := m.2, flags := 1, setGen := gen }).map
        (fun y => (y.1, x.2 ++ [(m.1, y.2)])))
  match members.foldl step (some (n, [])) with
  | none => none
  | some (m, listed) =>
    (m.putOne { typ := typ, key := 0xFFFF, flags := 2, setGen := gen
                payload := listed.flatMap (fun k => le 2 k.1 ++ le 4 k.2) }).map (fun y => y.1)

/-- Generation of the next set of a type. -/
def Nv.nextGen (n : Nv) (typ : Nat) : Nat :=
  match n.inForce typ 0xFFFF with
  | some r => (r.setGen + 1) % 2 ^ 32
  | none => 1

/-- BANK_NOT_SAVED (R156): a refused save is `pending`, one beyond the limit is not. -/
def State.bankNotSaved (pending : Bool) (s : State) : State :=
  State.record 13 3 0x0008 (le 4 s.bankSize) true 0 { s with helm.changed := false, helm.saveRefused := pending }

/-- Save the active bank (R155, R156). -/
def State.saveBank (s : State) : State :=
  if 448 * 1024 < s.bankSize then s.bankNotSaved false
  else match s.nv.putSet 0x0010 (s.nv.nextGen 0x0010) s.bankMembers with
    | some n => { s with nv := n, helm.changed := false, helm.saveRefused := false }
    | none => (State.storeFullRecord { typ := 0x0010, key := 0xFFFF, payload := List.replicate s.bankSize 0 } s).bankNotSaved true

/-- BANK_SAVE (R155, R451): at a turn boundary that is a multiple of 64; a save the store has refused is tried again at multiples of
4 096. -/
def execBankSave (a : At) (s : State) : Host.Outcome State Fault Refusal :=
  let t := s.advance a
  let due := (t.helm.changed && t.turn % 64 == 0) || (t.helm.saveRefused && t.turn % 4096 == 0)
  .next (if t.grain == 0 && due && t.rdy Rdy.nvstore && t.rdy Rdy.services && t.nv.good then t.saveBank else t)

/-- Word `w` of a saved zone belongs to the active form: not to a G_j whose neighbour or its NX has changed (R123, R157). -/
def State.wordStands (s : State) (z : Nat) (p : List Byte) (w : Nat) : Bool :=
  if decide (w < Zw.g 0) || decide (Zw.b ≤ w) then true else
  let j := (w - Zw.g 0) / 64
  fieldAt p (4 + j) 1 == s.linkNx z j && fieldAt p (10 + j) 1 == (s.neighbour z j).getD 0

/-- A saved zone whose dimensions are the active ones is loaded; one whose dimensions differ is left empty (R157). -/
def State.loadZone (z : Nat) (p : List Byte) (s : State) : State :=
  if p.take 4 = (s.zoneHead z).take 4 then
    let vs := ((s.zoneWordsBy z (fun j => fieldAt p (4 + j) 1)).zip (wordsOf (p.drop 16))).filter (fun x => s.wordStands z p x.1)
    { s with helm := s.helm.bothBanks (fun b => vs.foldl (fun c x => c.putWords 0 z x.1 [x.2]) b) }
  else s

/-- A saved fast loop of the active order. -/
def State.loadLoop (n : Nat) (p : List Byte) (s : State) : State :=
  if fieldAt p 0 1 = s.cfgN Fid.FL_ORDER n then
    let vs := (loopWords (s.cfgN Fid.FL_ORDER n)).zip (wordsOf (p.drop 16))
    { s with helm := s.helm.bothBanks (fun b => vs.foldl (fun c x => c.putWords 1 n x.1 [x.2]) b) }
  else s

/-- Load both banks from the saved form (R157). -/
def State.loadBanks (s : State) : State :=
  let ms := (s.nv.loadSet 0x0010).getD []
  let zs := s.zonesPresent.filterMap (fun z => (ms.find? (fun m => m.1 == z)).map (fun m => (z, m.2)))
  let ls := ((s.cfg.listed Fid.FL_ENABLE).filter (s.blockOn 1)).filterMap (fun n =>
    (ms.find? (fun m => m.1 == 255 + n)).map (fun m => (n, m.2)))
  let t := State.each ls (fun x u => u.loadLoop x.1 x.2) (State.each zs (fun x u => u.loadZone x.1 x.2)
    { s with helm.bank0 := {}, helm.bank1 := {} })
  let full := (zs.filter (fun x => x.2.take 4 == (s.zoneHead x.1).take 4)).length
  State.record 13 1 0x0009 (le 2 full ++ le 2 (s.zonesPresent.length - full) ++
    le 1 (ls.filter (fun x => fieldAt x.2 0 1 == s.cfgN Fid.FL_ORDER x.1)).length) false 0 { t with helm.loaded := true }

end Sys2Proof.Machine
end

