-- ==== Sys2Proof/Machine/Chart.lean ====
section
/-! DEFINITION. Machine/Chart.lean: the Chart panel driver: LCD frames (R558–R561), e-paper updates (R562–R565), the DC-balance
ledger (R566–R569), read-back (R570) and the Chart operations (R581). -/

namespace Sys2Proof.Machine

/-- Modes of R558. -/
def State.isLcd (s : State) : Bool := s.cfgN Fid.CH_MODE == 1
def State.isEpaper (s : State) : Bool := s.cfgN Fid.CH_MODE == 2

/-- Bit `i` of an image. -/
def imageBit (bs : List Byte) (i : Nat) : Bool := (bs.getD (i / 8) 0).getLsbD (i % 8)

/-- Blink attribute of segment `i` (R561). -/
def blinkOf (bs : List Byte) (i : Nat) : Nat := bitsOf ((bs.getD (i / 4) 0).toNat) (i % 4 * 2) 2

/-! ### LCD (R559–R561) -/

/-- A segment of the image shown in the frames of the present turn (R561). -/
def State.lcdOn (s : State) (i : Nat) : Bool :=
  let lit := fun (n : Nat) => decide (s.turn % n < n / 2)
  imageBit s.chart.shown.image i && (match blinkOf s.chart.shown.blink i with
    | 1 => lit (s.cfgN Fid.CH_BLINK_A)
    | 2 => lit (s.cfgN Fid.CH_BLINK_B)
    | _ => true)

/-- Level of an output in thirds of VOP (R559). -/
def State.lcdThirds (s : State) (n : Nat) : Nat :=
  let p := s.chart.phase
  let com := p % 4
  let up :=
    if n < 4 then (if n = com then 3 else 1)
    else if n < 52 then (if s.lcdOn (com * 48 + (n - 4)) then 0 else 2)
    else 0
  if 52 ≤ n then 0 else if p < 4 then up else 3 - up

/-- The panel is driven: CHART has risen since reset and the module is not in ECONOMY (R558, R536). -/
def State.chartDriven (s : State) : Bool := s.chart.risen && !s.sup.economy

/-- Level of driver output `n` in thirds of a millivolt (R558). -/
def State.chartLevel (s : State) (n : Nat) : Int :=
  if !s.chartDriven then 0
  else if s.isLcd then (s.lcdThirds n * s.cfgN Fid.CH_LCD_VOP : Nat)
  else if s.isEpaper && decide (n < 96) && s.chart.frameTurn == some s.turn then s.chart.drive.get n * 45000
  else 0

/-- The CHART_PHASE slot (R559, R560): the phase is that of the grain; a frame start takes the image whole and answers its
CHART_WRITEs. -/
def State.chartPhase (s : State) : State :=
  if !s.isLcd then s else
  let t := { s with chart.phase := s.grain / 65536 % 8 }
  if t.chart.phase != 0 || !t.chartDriven || !t.rdy Rdy.chart then t else
  match t.chart.next with
  | some i =>
    State.each t.chart.waiters (fun w u => u.answer (some w) (u.resp .done))
      { t with chart.shown := i, chart.next := none, chart.waiters := [] }
  | none => t

/-! ### Waveforms and bands (R562, R563, R565) -/

/-- Frames of a transition in a band. -/
def State.waveLen (s : State) (band t : Nat) : Nat := s.cfgN Fid.CH_WAVE_LEN (band * 8 + t)

/-- The 2-bit code of frame `f` (R562). -/
def State.waveCode (s : State) (band t f : Nat) : Nat := bitsOf (s.cfgN Fid.CH_WAVE (band * 32 + 4 * t + f / 16)) (f % 16 * 2) 2

/-- A code as +1, 0 or −1. -/
def codeSign (c : Nat) : Int := if c = 1 then 1 else if c = 2 then -1 else 0

/-- A band is valid (R563). -/
def State.bandValid (s : State) (band : Nat) : Bool :=
  (upTo 6).all (fun t =>
    let codes := (upTo (s.waveLen band t)).map (s.waveCode band t)
    decide (1 ≤ s.waveLen band t) && decide (s.waveLen band t ≤ 64) && !codes.contains 3 && (codes.map codeSign).sum == 0)

/-- The temperature against an edge moved by `off` hundredths. -/
def State.atLeastEdge (s : State) (v : Word32) (k : Nat) (off : Int) : Bool :=
  F32.cmpQ v (s.cfgI Fid.CH_BAND_EDGE k + off) 100 != .lt

/-- The band that a temperature gives from the band before (R565). -/
def State.bandFor (s : State) (v : Word32) (b : Nat) : Nat :=
  let up := (upTo 7).foldl (fun x _ => if x < 7 && s.atLeastEdge v (x + 1) 0 then x + 1 else x) b
  (upTo 7).foldl (fun x _ => if 0 < x && !s.atLeastEdge v x (-100) then x - 1 else x) up

/-- The nearest valid band, the lower on a tie (R565). -/
def State.nearestBand (s : State) (b : Nat) : Nat :=
  ((upTo 8).findSome? (fun d =>
    if d ≤ b && s.bandValid (b - d) then some (b - d) else if b + d < 8 && s.bandValid (b + d) then some (b + d) else none)).getD b

/-- The band of an update that starts (R565), with its record when it changes (R582). -/
def State.chooseBand (s : State) : State :=
  let c := s.chart
  let last := if c.bandChosen then c.band else s.cfgN Fid.CH_DEFAULT_BAND
  let v := (s.fieldInput Fid.CH_TEMP_SOURCE 0 none 256 0).get?
  let b := match v with
    | some w => s.bandFor w last
    | none => last
  let use := s.nearestBand b
  let t := { s with chart.band := b, chart.bandChosen := true, chart.useBand := use }
  if c.bandChosen && c.useBand == use then t else State.record3 25 0 0x0004 (le 1 use ++ le 2 (toCenti v)) 0 t

/-! ### The ledger (R566, R567) -/

/-- A ledger page (R566). -/
def ledgerBytes (state band seq frame : Nat) (target : List Byte) (balance : Tbl Int) : List Byte :=
  let b := le 2 0x434C ++ le 1 state ++ le 1 band ++ le 4 seq ++ le 1 frame ++ le 3 0 ++ padTo 12 target ++
    (upTo 96).flatMap (fun i => le 1 (ofSigned 8 (balance.get i))) ++ List.replicate 132 0
  b ++ le 4 (crc32c b)

/-- First page of the ledger partition (R27). -/
def ledgerBase : Nat := 0x7600

/-- Pages of the ring whose CRC holds, with their place. -/
def Nv.ledgers (n : Nv) : List (Nat × List Byte) :=
  ((upTo 64).map (fun p => (p, n.page (ledgerBase + p)))).filter (fun x =>
    (n.badIn ((ledgerBase + x.1) * 256) 256).isEmpty && fieldAt x.2 0 2 == 0x434C && fieldAt x.2 252 4 == crc32c (x.2.take 252))

/-- The ledger in force (R566). -/
def Nv.ledger (n : Nv) : Option (Nat × List Byte) :=
  n.ledgers.foldl (fun best x => match best with
    | none => some x
    | some b => if newer 32 (fieldAt x.2 4 4) (fieldAt b.2 4 4) then some x else some b) none

/-- BALANCE of a page. -/
def ledgerBalance (bs : List Byte) : Tbl Int :=
  (upTo 96).foldl (fun (t : Tbl Int) i => t.set i (sext 8 (fieldAt bs (24 + i) 1))) ([] : Tbl Int)

/-- Queue the next page of the ring at priority 4 (R567). -/
def State.ledgerPut (state frame : Nat) (balance : Tbl Int) (s : State) : State :=
  let seq := s.chart.ledgerSeq + 1
  let bs := ledgerBytes state s.chart.useBand seq.toNat frame s.chart.target balance
  { s with
    chart.ledgerSeq := seq
    chart.ledgerPage := (s.chart.ledgerPage + 1) % 64
    nv := s.nv.queuePage 4 (ledgerBase + s.chart.ledgerPage) bs }

/-- What the ledger in force says (R566, R568). -/
def State.loadLedger (s : State) : State :=
  match s.nv.ledger with
  | none => { s with chart.ledgerSeq := 0, chart.ledgerPage := 0 }
  | some (p, bs) =>
    let t := { s with chart.ledgerSeq := BitVec.ofNat 32 (fieldAt bs 4 4), chart.ledgerPage := (p + 1) % 64 }
    if fieldAt bs 2 1 = 1 ∨ fieldAt bs 2 1 = 2 then
      { t with
        chart.interrupted := true, chart.frame := fieldAt bs 8 1, chart.balance := ledgerBalance bs
        chart.target := (bs.drop 12).take 12, chart.useBand := fieldAt bs 3 1 }
    else t

/-- Ledger pages not yet written are dropped. -/
def State.dropLedgerOps (s : State) : State :=
  { s with nv.queue := s.nv.queue.filter (fun o => !(o.prio == 4 && decide (ledgerBase ≤ o.page) && decide (o.page < ledgerBase + 64))) }

/-- An update or compensation in progress stops before its last frame (R564, R568). -/
def State.chartInterrupt (s : State) : State :=
  if s.chart.state = .idle then s else
  let t := s.dropLedgerOps
  ({ t with
    chart.state := .idle, chart.interrupted := true, chart.redraw := false, chart.known := [], chart.transitions := [], chart.drive := []
    chart.balance := [], chart.frame := 0, chart.frames := 0, chart.frameTurn := none }).loadLedger

/-! ### Updates (R562–R569) -/

/-- E-paper work may run (R568). -/
def State.epaperRuns (s : State) : Bool := s.rdy Rdy.chart && s.isEpaper && !s.sup.economy

/-- Codes of the frame that comes next. -/
def State.nextDrive (s : State) : Tbl Int :=
  let c := s.chart
  let code := fun (i : Nat) =>
    match c.state with
    | .updating =>
      let t := c.transitions.get i
      if c.frame < s.waveLen c.useBand t then codeSign (s.waveCode c.useBand t c.frame) else 0
    | .compensating => - (c.balance.get i).sign
    | .idle => 0
  (upTo 96).foldl (fun (t : Tbl Int) i => t.set i (code i)) ([] : Tbl Int)

/-- BALANCE as it stands after the coming frame (R567). -/
def State.nextBalance (s : State) : Tbl Int :=
  let d := s.nextDrive
  (upTo 96).foldl (fun (t : Tbl Int) i => t.set i (s.chart.balance.get i + d.get i)) ([] : Tbl Int)

/-- STATE byte of a page (R566). -/
def ChState.code : ChState → Nat
  | .idle => 0
  | .updating => 1
  | .compensating => 2

/-- Queue the page of the coming frame. -/
def State.framePage (s : State) : State := s.ledgerPut s.chart.state.code (s.chart.frame + 1) s.nextBalance

/-- That page has committed. -/
def State.framePaged (s : State) : Bool :=
  s.nv.page (ledgerBase + (s.chart.ledgerPage + 63) % 64) ==
    ledgerBytes s.chart.state.code s.chart.useBand s.chart.ledgerSeq.toNat (s.chart.frame + 1) s.chart.target s.nextBalance

/-- Transition of a segment (R562). -/
def transitionOf (full : Bool) (known : Nat) (on : Bool) : Nat :=
  if full || known == 0 then 4 + bit on else if known = 1 then bit on else 2 + bit on

/-- An update starts (R564, R565). -/
def State.updateStart (s : State) : State :=
  let c := s.chart
  let redo := c.redraw
  let img := if redo then { image := c.target, blink := [], full := true } else c.pending.getD {}
  let t := s.chooseBand
  let tr := (upTo 96).foldl (fun (u : Tbl Nat) i => u.set i (transitionOf img.full (c.known.get i) (imageBit img.image i))) ([] : Tbl Nat)
  let frames := ((upTo 96).map (fun i => t.waveLen t.chart.useBand (tr.get i))).foldl max 0
  let u := { t with
    chart.state := .updating, chart.frame := 0, chart.frames := frames, chart.frameTurn := none, chart.target := img.image.take 12
    chart.transitions := tr, chart.balance := [], chart.drive := []
    chart.pending := if redo then c.pending else none
    chart.running := c.running || !redo }
  u.framePage

/-- An update is due: one to TARGET after a compensation, or one for a CHART_WRITE accepted before this instant (R564, R568). -/
def State.updateDue (s : State) : Bool :=
  s.chart.redraw || (s.chart.pending.isSome && decide (s.chart.pendingAt.toNat < s.now.toNat))

/-- EPAPER_UPDATE_START (R564), at a turn boundary. -/
def execEpaperUpdateStart (a : At) (s : State) : Host.Outcome State Fault Refusal :=
  let t := s.advance a
  .next (if t.epaperRuns && t.chart.state == .idle && !t.chart.interrupted && t.grain == 0 && t.updateDue then t.updateStart else t)

/-- EPAPER_FRAME (R562, R567): the frame is driven from grain 0 of a turn once its page has committed, one frame a turn; a page that
failed is written again. -/
def execEpaperFrame (a : At) (s : State) : Host.Outcome State Fault Refusal :=
  let t := s.advance a
  .next (if t.epaperRuns && t.chart.state != .idle && decide (t.chart.frame < t.chart.frames) && t.grain == 0 && t.chart.frameTurn != some t.turn then
      if t.framePaged then
        let u := { t with
          chart.drive := t.nextDrive, chart.balance := t.nextBalance, chart.frame := t.chart.frame + 1, chart.frameTurn := some t.turn }
        if u.chart.frame < u.chart.frames then u.framePage else u
      else if t.nv.queue.any (fun o => o.prio == 4 && o.page == ledgerBase + (t.chart.ledgerPage + 63) % 64) then t
      else t.framePage
    else t)

/-- The first and the last CHART_WRITE answered ACCEPTED that has not ended. -/
def isChartWrite (i : Interim) : Bool := i.isOp 1 0x0040 0

/-- End one CHART_WRITE: the one whose update ran, or the one that waited. -/
def State.endChartWrite (newest : Bool) (fate : Fate) (s : State) : State :=
  let xs := s.mb.interims.filter isChartWrite
  match (if newest then xs.getLast? else xs.head?) with
  | some i => s.endInterims (fun j => j == i) fate .done []
  | none => s

/-- EPAPER_UPDATE_END (R564, R567): the turn of the last frame has ended. -/
def execEpaperUpdateEnd (a : At) (s : State) : Host.Outcome State Fault Refusal :=
  let t := s.advance a
  .next (if t.epaperRuns && t.chart.state == .updating && t.chart.frame == t.chart.frames && t.grain == 0 && t.chart.frameTurn != some t.turn then
      let known := (upTo 96).foldl (fun (u : Tbl Nat) i => u.set i (1 + bit (imageBit t.chart.target i))) ([] : Tbl Nat)
      let u := (t.ledgerPut 0 t.chart.frame [])
      let v := { u with
        chart.state := .idle, chart.known := known, chart.redraw := false, chart.running := false, chart.last := t.now
        chart.updates := t.chart.updates + 1, chart.drive := [], chart.transitions := [], chart.balance := [] }
      if t.chart.running then v.endChartWrite false .effect else v
    else t)

/-- Largest magnitude of BALANCE. -/
def Chart.worst (c : Chart) : Nat := (c.balance.map (fun p => p.2.natAbs)).foldl max 0

/-- COMPENSATION_START (R568): resumption, at a turn boundary. -/
def execCompensationStart (a : At) (s : State) : Host.Outcome State Fault Refusal :=
  let t := s.advance a
  .next (if t.epaperRuns && t.chart.interrupted && t.chart.state == .idle && t.grain == 0 && decide (64 ≤ t.chart.railTurns) then
      let u := State.record3 25 2 0x0002 (le 1 t.chart.frame ++ le 1 t.chart.worst) 0 t
      let v := { u with
        chart.state := .compensating, chart.frame := 0, chart.frames := t.chart.worst, chart.frameTurn := none
        chart.segments := t.chart.balance.length, chart.interrupted := false }
      if 0 < t.chart.worst then v.framePage else v
    else t)

/-- COMPENSATED (R568, R582): the turn of the last compensating frame has ended. -/
def execCompensated (a : At) (s : State) : Host.Outcome State Fault Refusal :=
  let t := s.advance a
  .next (if t.epaperRuns && t.chart.state == .compensating && t.chart.frame == t.chart.frames && t.grain == 0 && t.chart.frameTurn != some t.turn then
      State.record3 25 1 0x0003 (le 1 t.chart.frames ++ le 1 t.chart.segments) 0
        { t with chart.state := .idle, chart.redraw := true, chart.drive := [], chart.balance := [], chart.known := [] }
    else t)

/-! ### What other events do to Chart -/

/-- CHART rises (R566, R568, R569). -/
def State.chartRises (s : State) : State :=
  ({ s with
    chart.risen := true, chart.bandChosen := false, chart.known := [], chart.interrupted := false, chart.redraw := false
    chart.pending := none, chart.running := false, chart.state := .idle, chart.railTurns := 0 }).loadLedger

/-- SERVICES clears (R568): what waited is gone with the service image; the LCD image stays (R561). -/
def State.chartDown (s : State) : State :=
  let t := s.chartInterrupt
  { t with chart.next := none, chart.waiters := [], chart.pending := none, chart.running := false }

/-- A pump rail of R471 is in its window of 15 000 mV ± 5 %. -/
def State.pumpGood (s : State) (n : Nat) : Bool :=
  decide (14250 ≤ (s.sen.rails.get n).value) && decide ((s.sen.rails.get n).value ≤ 15750)

/-- The turns of R568, counted at turn boundaries: no sample of the turn found a rail outside its window. -/
def State.chartTurn (s : State) : State :=
  { s with
    chart.railTurns := if s.pumpGood 10 && s.pumpGood 11 && !s.chart.railBad then s.chart.railTurns + 1 else 0
    chart.railBad := false }

/-- The pump rails have been sampled (R471): one that has left its window interrupts the drive (R568). -/
def State.pumpSampled (s : State) : State :=
  if s.pumpGood 10 && s.pumpGood 11 then s else ({ s with chart.railBad := true } : State).chartInterrupt

/-- A commit: `old` stands before it (R568, R569). -/
def State.chartCommit (old : State) (s : State) : State :=
  if old.cfgN Fid.CH_MODE = s.cfgN Fid.CH_MODE then s else
  let t := s.chartInterrupt
  { t with chart.known := [], chart.frameBad := [], chart.bad := [], chart.good := [], chart.fault := [] }

/-! ### Read-back (R570) -/

/-- Outputs in use. -/
def State.chartOutputs (s : State) : Nat := if s.isLcd then 52 else if s.isEpaper then 97 else 0

/-- A sample in mV mismatches the level expected by more than 10 % of VOP, or 1.5 V. -/
def State.chartMismatch (s : State) (n : Nat) (mv : Int) : Bool :=
  let off := (3 * mv - s.chartLevel n).natAbs
  if s.isLcd then decide (3 * s.cfgN Fid.CH_LCD_VOP < 10 * off) else decide (4500 < off)

/-- A frame of one output ends. -/
def State.chartJudge (n : Nat) (s : State) : State :=
  let mis := s.chart.frameBad.get n
  let bad := if mis then s.chart.bad.get n + 1 else 0
  let good := if mis then 0 else s.chart.good.get n + 1
  let t := { s with chart.bad := s.chart.bad.set n (min 3 bad), chart.good := s.chart.good.set n (min 3 good) }
  let was := s.chart.fault.get n
  if !was && decide (3 ≤ bad) then State.record3 25 3 0x0001 (le 1 n ++ le 1 1) n { t with chart.fault := t.chart.fault.set n true }
  else if was && decide (3 ≤ good) then State.record3 25 3 0x0001 (le 1 n ++ le 1 0) n { t with chart.fault := t.chart.fault.set n false }
  else t

/-- PA samples the outputs at the middle of an LCD phase, and at grain 524 288 of an e-paper frame (R570). -/
def State.readbackAngle (s : State) : Bool :=
  if s.isLcd then s.grain % 65536 == 32768 else s.grain == 524288 && s.chart.frameTurn == some s.turn

/-- CHART_READBACK (R570): the sampled levels in mV by output; an LCD frame is judged at its last phase. -/
def execChartReadback (a : At) (levels : List Int) (s : State) : Host.Outcome State Fault Refusal :=
  let t := s.advance a
  let n := t.chartOutputs
  let seen := (upTo n).foldl (fun (u : Tbl Bool) i => if t.chartMismatch i (levels.getD i 0) then u.set i true else u) t.chart.frameBad
  let u := { t with chart.frameBad := seen, chart.readAt := some t.mer.stamp }
  .next (if !t.rdy Rdy.binnacle || n == 0 || !t.readbackAngle || t.chart.readAt == some t.mer.stamp then t
    else if t.isLcd && t.chart.phase != 7 then u
    else
      let v := State.each (upTo n) State.chartJudge u
      { v with chart.frameBad := [] })

/-! ### Operations (R581) -/

/-- CHART_WRITE for an LCD: the answer waits for the frame start (R560). For e-paper: ACCEPTED, replacing one that waits (R564). -/
def opChartWrite : OpDef :=
  { cls := 1, opcode := 0x0040, fns := [25], len := fun n => n == 76
    content := fun s r => r.target == 0 && decide (fieldAt r.payload 72 1 ≤ 1) && allZero (r.payload.drop 73) &&
      (upTo 192).all (fun i => blinkOf ((r.payload.drop 24).take 48) i != 3) &&
      (!s.isEpaper || allZero ((r.payload.drop 24).take 48))
    off := fun s _ => s.cfgN Fid.CH_MODE == 0
    body := fun r s =>
      let img : Image := { image := r.payload.take 24, blink := (r.payload.drop 24).take 48, full := bitOf (fieldAt r.payload 72 1) 0 }
      if s.isLcd then ({ s with chart.next := some img, chart.waiters := s.chart.waiters ++ [Req.waiter r] }, none)
      else
        let t := if s.chart.pending.isSome then s.endChartWrite true .replaced else s
        ({ t with chart.pending := some img, chart.pendingAt := t.now }, some (t.resp .accepted)) }

/-- CHART_WRITE (R560). -/
def execChartWrite (a : At) (r : Req) (s : State) : Host.Outcome State Fault Refusal := .next (serve opChartWrite r (s.advance a))

/-- STATE of CHART_STATUS. -/
def State.chartStateCode (s : State) : Nat :=
  if s.cfgN Fid.CH_MODE = 0 then 0 else if s.sup.economy then 4 else 1 + s.chart.state.code

/-- CHART_STATUS (R581). -/
def opChartStatus : OpDef :=
  { cls := 1, opcode := 0x0041, fns := [25], len := fun n => n == 0, content := fun _ r => r.target == 0
    body := fun _ s => s.ok (le 1 s.chartStateCode ++ le 1 s.chart.useBand ++ le 2 0 ++ le 16 (maskOf ((upTo 97).map s.chart.fault.get)) ++
      le 8 s.chart.last.toNat ++ le 4 s.chart.updates.toNat) }

/-- CHART_STATUS. -/
def execChartStatus (a : At) (r : Req) (s : State) : Host.Outcome State Fault Refusal := .next (serve opChartStatus r (s.advance a))

end Sys2Proof.Machine
end

