-- ==== Sys2Proof/Machine/Fit.lean ====
section
/-! DEFINITION. Machine/Fit.lean: the arithmetic of a sounding's fit (R210, R211, R213, R214): small dense matrices in binary32, least
squares by Householder QR, matrix roots, the doubling algorithm, and exact tests of the roots of a polynomial. The order of the binary32
operations is the model's (assumption 68). -/

namespace Sys2Proof

namespace Fit

/-! ### Matrices: lists of rows -/

abbrev Mat := List (List Word32)

/-- Inner product, from the left, each product added with one rounding. -/
def dot (a b : List Word32) : Word32 := (a.zip b).foldl (fun acc x => F32.fma x.1 x.2 acc) 0

/-- Euclidean norm. -/
def norm (v : List Word32) : Word32 := F32.sqrt (dot v v)

/-- The matrix of so many rows and columns with these entries. -/
def build (n m : Nat) (f : Nat → Nat → Word32) : Mat := (upTo n).map (fun i => (upTo m).map (f i))

/-- An entry. -/
def entry (a : Mat) (i j : Nat) : Word32 := (a.getD i []).getD j 0

/-- The identity. -/
def eye (n : Nat) : Mat := build n n (fun i j => if i = j then F32.one else 0)

def transpose (a : Mat) : Mat := (upTo (a.headD []).length).map (fun j => a.map (fun r => r.getD j 0))

def mul (a b : Mat) : Mat := a.map (fun r => (transpose b).map (dot r))

/-- Entry by entry. -/
def zipMat (f : Word32 → Word32 → Word32) (a b : Mat) : Mat := (a.zip b).map (fun x => (x.1.zip x.2).map (fun y => f y.1 y.2))

def add (a b : Mat) : Mat := zipMat F32.add a b
def sub (a b : Mat) : Mat := zipMat F32.sub a b
def scale (k : Word32) (a : Mat) : Mat := a.map (fun r => r.map (F32.mul k))

/-- Largest magnitude of an entry. -/
def size (a : Mat) : Word32 := a.flatten.foldl (fun m x => F32.max2 m (F32.abs x)) 0

def finite (a : Mat) : Bool := a.all (fun r => r.all F32.isFin)

/-- The place of the row with the largest magnitude in a column. -/
def pivotRow (j : Nat) (rows : Mat) : Nat :=
  (rows.zipIdx.foldl (fun (best : Word32 × Nat) x =>
    let v := F32.abs (x.1.getD j 0)
    if F32.lt best.1 v then (v, x.2) else best) (0, 0)).2

/-- `row` less a multiple of a row whose entry in column j is 1, so that its own becomes 0. -/
def clearEntry (j : Nat) (unit row : List Word32) : List Word32 :=
  let k := F32.neg (row.getD j 0)
  (row.zip unit).map (fun x => F32.fma k x.2 x.1)

/-- One column of the Gauss–Jordan elimination: rows that are done, rows that remain, and the smallest pivot so far. -/
def eliminate (acc : Mat × Mat × Word32) (j : Nat) : Mat × Mat × Word32 :=
  let p := pivotRow j acc.2.1
  let row := acc.2.1.getD p []
  let unit := row.map (fun x => F32.div x (row.getD j 0))
  (acc.1.map (clearEntry j unit) ++ [unit], (acc.2.1.eraseIdx p).map (clearEntry j unit), F32.min2 acc.2.2 (F32.abs (row.getD j 0)))

/-- The inverse, by elimination with row pivots, and whether the matrix is regular within binary32 precision: no pivot is as small as
2^−23 of its largest entry. -/
def inverse (a : Mat) : Mat × Bool :=
  let n := a.length
  let wide := (a.zip (eye n)).map (fun x => x.1 ++ x.2)
  let r := (upTo n).foldl eliminate ([], wide, F32.inf false)
  (r.1.map (fun x => x.drop n), F32.lt (F32.mul 0x34000000#32 (size a)) r.2.2)

/-! ### Least squares (R210) -/

/-- Least squares of `rhs` by as many columns as `fuel`: one Householder reflection per column, then back substitution. -/
def householder : Nat → List (List Word32) → List Word32 → List Word32
  | fuel + 1, c :: cs, rhs =>
    let head := c.headD 0
    let r := if F32.isNeg head then norm c else F32.neg (norm c)
    let v := F32.sub head r :: c.tail
    let vv := dot v v
    let reflect := fun (x : List Word32) =>
      let k := F32.neg (F32.div (F32.mul 0x40000000#32 (dot v x)) vv)
      (v.zip x).map (fun y => F32.fma k y.1 y.2)
    let cs' := cs.map reflect
    let rhs' := reflect rhs
    let xs := householder fuel (cs'.map (fun x => x.tail)) rhs'.tail
    F32.div (F32.sub (rhs'.headD 0) (dot (cs'.map (fun x => x.headD 0)) xs)) r :: xs
  | _, _, _ => []

/-- The solution with columns scaled to unit norm. -/
def leastSquares (cols : List (List Word32)) (rhs : List Word32) : List Word32 :=
  let norms := cols.map norm
  let unit := (cols.zip norms).map (fun x => x.1.map (fun v => F32.div v x.2))
  ((householder cols.length unit rhs).zip norms).map (fun x => F32.div x.1 x.2)

/-! ### The floor sample period (R211) -/

/-- Denman–Beavers square root from Y = A and Z = I, until the change of Y is below 2^−20 or `fuel` iterations are done. -/
def sqrtSteps : Nat → Mat → Mat → Mat
  | 0, y, _ => y
  | fuel + 1, y, z =>
    let y' := scale 0x3F000000#32 (add y (inverse z).1)
    let z' := scale 0x3F000000#32 (add z (inverse y).1)
    if F32.lt (size (sub y' y)) 0x35800000#32 then y' else sqrtSteps fuel y' z'

/-- The principal 2^d-th root. -/
def root : Nat → Mat → Mat
  | 0, a => a
  | d + 1, a => root d (sqrtSteps 32 a (eye a.length))

/-- S over 2^d powers of a matrix, by doubling. -/
def powerSum (d : Nat) (a : Mat) : Mat :=
  ((upTo d).foldl (fun (x : Mat × Mat) _ => (mul x.1 (add (eye a.length) x.2), mul x.2 x.2)) (eye a.length, a)).1

/-! ### Gains (R213) -/

/-- The doubling algorithm of a discrete Riccati equation: the solution H and whether it converged to 2^−16 within `fuel` doublings. -/
def doubling : Nat → Mat → Mat → Mat → Mat × Bool
  | 0, _, _, h => (h, false)
  | fuel + 1, a, g, h =>
    let w := (inverse (add (eye a.length) (mul g h))).1
    let at_ := transpose a
    let h' := add h (mul (mul at_ h) (mul w a))
    if F32.lt (size (sub h' h)) (F32.mul 0x37800000#32 (size h')) && finite h' then (h', true)
    else doubling fuel (mul (mul a w) a) (add g (mul (mul (mul a w) g) at_)) h'

/-- Solution for state matrix a, input matrix b, state weight q and input weight r · I. -/
def riccati (a b q : Mat) (r : Word32) : Mat × Bool := doubling 64 a (scale (F32.div F32.one r) (mul b (transpose b))) q

/-- The LQR gain K. -/
def lqr (a b q : Mat) (r : Word32) : Mat × Bool :=
  let x := riccati a b q r
  let bx := mul (transpose b) x.1
  (mul (inverse (add (scale r (eye (transpose b).length)) (mul bx b))).1 (mul bx a), x.2)

/-- The steady-state Kalman gain L of one output row. -/
def kalman (a c : Mat) (q r : Word32) : Mat × Bool :=
  let x := riccati (transpose a) (transpose c) (scale q (eye a.length)) r
  let pc := mul x.1 (transpose c)
  (scale (F32.div F32.one (F32.add (entry (mul c pc) 0 0) r)) (mul a pc), x.2)

/-! ### Roots of a polynomial, exactly: coefficients from the constant term up -/

abbrev Poly := List Int

/-- Every root lies within the unit circle (Schur–Cohn), for a polynomial of degree `n`. -/
def inUnit : Nat → Poly → Bool
  | 0, _ => true
  | n + 1, p =>
    let lo := p.headD 0
    let hi := p.getLastD 0
    decide (lo.natAbs < hi.natAbs) && inUnit n ((p.zip p.reverse).map (fun x => hi * x.1 - lo * x.2)).tail

/-- Every root lies within num / den of 0. -/
def within (p : Poly) (num den : Nat) : Bool :=
  let n := p.length - 1
  inUnit n (p.zipIdx.map (fun x => x.1 * (num : Int) ^ x.2 * (den : Int) ^ (n - x.2)))

/-- The largest magnitude of a root, rounded to binary32: the largest pattern it reaches, then the nearer of two neighbours. -/
def radius (p : Poly) : Word32 :=
  let value := fun (b : Nat) => F32.rat (BitVec.ofNat 32 b)
  let low := (upTo 31).reverse.foldl (fun b k =>
    let v := value (b + 2 ^ k)
    if b + 2 ^ k < 0x7F800000 ∧ within p v.1.toNat v.2 = false then b + 2 ^ k else b) 0
  let u := value low
  let v := value (low + 1)
  BitVec.ofNat 32 (if within p (u.1.toNat * v.2 + v.1.toNat * u.2) (2 * u.2 * v.2) then low else low + 1)

/-- Without leading zeros. -/
def trim (p : Poly) : Poly := (p.reverse.dropWhile (fun c => c == 0)).reverse

/-- Remainder of p by q with a positive factor, in at most `fuel` steps. -/
def remainder : Nat → Poly → Poly → Poly
  | 0, p, _ => p
  | fuel + 1, p, q =>
    if p.length < q.length ∨ p = [] then p else
    let c := q.getLastD 0
    let shifted := List.replicate (p.length - q.length) 0 ++ q
    remainder fuel (trim ((p.zip shifted).map (fun x => c * c * x.1 - c * p.getLastD 0 * x.2))) q

/-- The rest of Sturm's chain from its last two members. -/
def sturm : Nat → Poly → Poly → List Poly
  | 0, _, _ => []
  | fuel + 1, p, q => if q = [] then [] else q :: sturm fuel q ((remainder 8 p q).map (fun c => -c))

/-- Changes of sign in a sequence; zeros do not count. -/
def changes (xs : List Int) : Nat :=
  let ys := xs.filter (fun x => x != 0)
  ((ys.zip ys.tail).filter (fun x => decide (x.1 < 0) != decide (x.2 < 0))).length

/-- A root lies on the closed negative real axis. -/
def negativeRoot (p : Poly) : Bool :=
  let chain := p :: sturm 8 p (trim ((p.zipIdx.map (fun x => x.1 * (x.2 : Int))).tail))
  p.headD 0 == 0 ||
    changes (chain.map (fun q => q.getLastD 0 * (-1) ^ (q.length - 1))) != changes (chain.map (fun q => q.headD 0))

/-- Integer matrices. -/
def mulInt (a b : List (List Int)) : List (List Int) :=
  a.map (fun r => (upTo (b.headD []).length).map (fun j => ((r.zip b).map (fun x => x.1 * x.2.getD j 0)).foldl (· + ·) 0))

/-- Characteristic polynomial by Faddeev and LeVerrier: the coefficients below the leading 1, of which there are `n`. -/
def charCoeffs (a : List (List Int)) (n : Nat) : Poly :=
  ((upTo n).foldl (fun (acc : List (List Int) × Poly) k =>
    let m := mulInt a acc.1
    let c := -((upTo n).map (fun i => (m.getD i []).getD i 0)).foldl (· + ·) 0 / (k + 1 : Int)
    (m.zipIdx.map (fun r => r.1.zipIdx.map (fun x => if x.2 = r.2 then x.1 + c else x.1)), c :: acc.2))
    ((upTo n).map (fun i => (upTo n).map (fun j => if i = j then 1 else 0)), [1])).2

/-- Every eigenvalue of a finite square matrix lies within the unit circle. -/
def stable (a : Mat) : Bool :=
  finite a && within (charCoeffs (a.map (fun r => r.map F32.exact)) a.length) (2 ^ 149) 1

/-! ### The model of R210 -/

/-- α by lag, β by input and lag, and γ. -/
structure Model where
  alpha : List Word32
  beta : List (List Word32)
  gamma : Word32

/-- The parameters in the order of the columns: n outputs, n of each input, and the constant. -/
def Model.of (n inputs : Nat) (xs : List Word32) : Model :=
  { alpha := xs.take n
    beta := (upTo inputs).map (fun c => (xs.drop (n + c * n)).take n)
    gamma := xs.getD (n + inputs * n) 0 }

/-- Value of the model at the last outputs and the last values of each input, latest first. -/
def Model.predict (m : Model) (ys : List Word32) (xs : List (List Word32)) : Word32 :=
  (m.beta.zip xs).foldl (fun acc x => F32.add acc (dot x.1 x.2)) (F32.add (dot m.alpha ys) m.gamma)

/-- A_c (R211). -/
def Model.a (m : Model) : Mat :=
  let n := m.alpha.length
  build n n (fun i j => if j = 0 then m.alpha.getD i 0 else if j = i + 1 then F32.one else 0)

/-- B_c (R211): a column per input. -/
def Model.b (m : Model) : Mat := transpose m.beta

/-- The characteristic polynomial of A_c: α are its coefficients, in units of 2^−149. -/
def Model.poly (m : Model) : Poly := (m.alpha.map (fun x => -F32.exact x)).reverse ++ [2 ^ 149]

/-- ROOT (R214). -/
def Model.rootOk (m : Model) : Bool := m.alpha.all F32.isFin && within m.poly 1 1 && !negativeRoot m.poly

/-- The model at the floor sample period (R211): A_f and B_f for DECIM d. -/
def Model.floor (m : Model) (d : Nat) : Mat × Mat :=
  let a := root d m.a
  (a, mul (inverse (powerSum d a)).1 m.b)

/-- What R213 designs: L over states 0..n, K_q, F, the gain g of each driven input, and whether DESIGN passes (R214). -/
structure Design where
  l : Mat
  kq : Mat
  f : Mat
  gain : List Word32
  ok : Bool

/-- The design for A_f and the driven columns of B_f with the weights SND_QW, SND_RV, SND_QY and SND_RU (R213). -/
def design (a b : Mat) (qw rv qy ru : Word32) : Design :=
  let n := a.length
  let cDyn := build 1 n (fun _ j => if j = 0 then F32.one else 0)
  let aAll := build (n + 1) (n + 1) (fun i j => if i = n ∧ j = n then F32.one else entry a i j)
  let cAll := build 1 (n + 1) (fun _ j => if j = 0 ∨ j = n then F32.one else 0)
  let l := kalman aAll cAll qw rv
  let k := lqr a b (scale qy (mul (transpose cDyn) cDyn)) ru
  let m := mul (inverse (sub (eye n) a)).1 b
  let g := mul cDyn m
  let gg := entry (mul g (transpose g)) 0 0
  let plus := scale (F32.div F32.one gg) (transpose g)
  { l := l.1, kq := k.1, f := mul (add (eye (transpose b).length) (mul k.1 m)) plus, gain := g.headD []
    ok := l.2 && k.2 && F32.lt 0 gg && stable (sub a (mul b k.1)) && stable (sub aAll (mul l.1 cAll)) }

end Fit

end Sys2Proof
end

