-- ==== Sys2Proof/Machine/Sounding.lean ====
section
/-! DEFINITION. Machine/Sounding.lean: model identification in service (R195–R219) and the zone modes it shares (R103, R206). -/

namespace Sys2Proof.Machine

/-! ### The request (R217) -/

namespace Snd
abbrev signal (p : List Byte) : Nat := fieldAt p 0 1
abbrev order (p : List Byte) : Nat := fieldAt p 1 1
abbrev decim (p : List Byte) : Nat := fieldAt p 2 1
abbrev excite (p : List Byte) : Nat := fieldAt p 3 1
abbrev settle (p : List Byte) : Nat := fieldAt p 6 2
abbrev shape (p : List Byte) : Nat := fieldAt p 8 1
abbrev hold (p : List Byte) : Nat := fieldAt p 9 1
abbrev other (p : List Byte) : Nat := fieldAt p 10 1
abbrev deliver (p : List Byte) : Nat := fieldAt p 11 1
abbrev channel (p : List Byte) (i : Nat) : Nat := fieldAt p (12 + 2 * i) 2
abbrev amp (p : List Byte) (k : Nat) : Int := sext 32 (fieldAt p (20 + 4 * k) 4)
abbrev centre (p : List Byte) (k : Nat) : Nat := fieldAt p (36 + 4 * k) 4

/-- LENGTH, rounded down to whole periods for MULTISINE (R200). -/
def length (p : List Byte) : Nat :=
  let n := fieldAt p 4 2
  if signal p = 2 then n / 2 ^ hold p * 2 ^ hold p else n

/-- Floor samples in a capture interval (R203). -/
def span (p : List Byte) : Nat := 2 ^ decim p

/-- Inputs excited. -/
def excited (p : List Byte) : List Nat := (upTo 4).filter (fun k => bitOf (excite p) k)

/-- Channels captured, with their codes. -/
def channels (p : List Byte) : List (Nat × Nat) :=
  ((upTo 4).map (fun i => (i, channel p i))).filter (fun x => x.2 != 0xFFFF)

/-- Fields within their own ranges. -/
def inRange (p : List Byte) : Bool :=
  (signal p == 1 || signal p == 2) && decide (1 ≤ order p ∧ order p ≤ 4) && decide (decim p ≤ 10) &&
  decide (1 ≤ excite p ∧ excite p ≤ 15) && decide (1024 ≤ fieldAt p 4 2 ∧ fieldAt p 4 2 ≤ 16384) && decide (settle p ≤ 16384) &&
  (if signal p = 1 then decide (5 ≤ shape p ∧ shape p ≤ 12) && decide (1 ≤ hold p ∧ hold p ≤ 64)
   else decide (1 ≤ shape p ∧ shape p ≤ 16) && decide (6 ≤ hold p ∧ hold p ≤ 12) &&
     decide ((2 * shape p - 1) * 8 < 2 ^ hold p) && decide (0 < length p)) &&
  decide (other p ≤ 1) && decide (deliver p ≤ 3) && channel p 0 != 0xFFFF &&
  (channels p).all (fun x => decide (x.2 / 16 % 16 ≤ 2) && decide (x.2 % 16 < 4))
end Snd

/-- A captured channel of a request on zone z is one it may name (R203). -/
def State.sndChannelOk (s : State) (z c : Nat) : Bool :=
  let q := c / 256
  if q = z then decide (c % 16 < s.classDim z (c / 16 % 16))
  else c / 16 % 16 == 0 && decide (c % 16 < s.ny q) && (upTo 6).any (fun j => s.neighbour z j == some q)

/-- An actuator input of the zone is captured. -/
def sndCaptures (z k : Nat) (p : List Byte) : Bool := (Snd.channels p).any (fun x => x.2 == z * 256 + 16 + k)

/-- The conditions of R196's first row that read the zone. -/
def State.sndFits (s : State) (z : Nat) (p : List Byte) : Bool :=
  Snd.channel p 0 / 256 == z && Snd.channel p 0 / 16 % 16 == 0 && (Snd.channels p).all (fun x => s.sndChannelOk z x.2) &&
  (Snd.excited p).all (fun k => decide (k < s.nu z) && sndCaptures z k p) &&
  (upTo (s.nu z)).all (fun k =>
    (descKind (s.cfgN Fid.U_DEST0 (sigIdx z k)) == 0 && descKind (s.cfgN Fid.U_DEST1 (sigIdx z k)) == 0) || sndCaptures z k p) &&
  decide (Snd.order p < s.nx z) && (Snd.signal p == 1 || (Snd.excited p).length == 1)

/-! ### Amplitudes (R201) -/

/-- Requested amplitude within SND_AMP_MAX, in the unit of R81. -/
def State.sndAmp (s : State) (z k : Nat) (p : List Byte) : Int := min (Snd.amp p k) (s.cfgN Fid.SND_AMP_MAX (sigIdx z k))

/-- The scale of an actuator input's unit. -/
def State.uScale (s : State) (z k : Nat) : Nat := limitScale (s.cfgN Fid.U_KIND (sigIdx z k))

/-- A value within U_MIN to U_MAX in model units (R138). -/
def State.uClamp (s : State) (z k : Nat) (v : Word32) : Word32 :=
  let kind := s.cfgN Fid.U_KIND (sigIdx z k)
  let v1 := match modelLimit kind (s.cfgN Fid.U_MIN (sigIdx z k)) with
    | some l => if F32.lt v l then l else v
    | none => v
  match modelLimit kind (s.cfgN Fid.U_MAX (sigIdx z k)) with
  | some h => if F32.lt h v1 then h else v1
  | none => v1

/-- Centre and amplitude of an excited input, from the value last applied. -/
def State.sndDrive (s : State) (z k : Nat) (p : List Byte) : Word32 × Word32 :=
  let kind := s.cfgN Fid.U_KIND (sigIdx z k)
  let raw := match modelLimit kind (Snd.centre p k) with
    | some v => v
    | none => (s.zones.get z).u.get k
  let c := s.uClamp z k raw
  let a := F32.ofRat (s.sndAmp z k p) (s.uScale z k)
  let a1 := match modelLimit kind (s.cfgN Fid.U_MIN (sigIdx z k)) with
    | some l => F32.min2 a (F32.sub c l)
    | none => a
  let a2 := match modelLimit kind (s.cfgN Fid.U_MAX (sigIdx z k)) with
    | some h => F32.min2 a1 (F32.sub h c)
    | none => a1
  (c, a2)

/-- An excited input cannot be excited: SND_AMP_MAX 0, or an amplitude of 0 that needs no value of the start angle (R196, R201). -/
def State.sndNoAmp (s : State) (z : Nat) (p : List Byte) : Bool :=
  (Snd.excited p).any (fun k => s.cfgN Fid.SND_AMP_MAX (sigIdx z k) == 0 || s.sndAmp z k p == 0 ||
    (Snd.centre p k != 0x80000000 && (s.sndDrive z k p).2 &&& 0x7FFFFFFF#32 == 0))

/-! ### Areas (R195, R197) -/

/-- A sounding that is accepted and has not ended its capture. -/
def Sounding.runs (o : Sounding) : Bool := [SndState.pending, .settle, .capture].contains o.state

/-- A sounding that has ended (R205). -/
def Sounding.over (o : Sounding) : Bool := [SndState.accepted, .rejected, .aborted].contains o.state

/-- The area an accepted start takes (R197): a free one, else that of the ended sounding with the oldest end stamp. -/
def State.sndArea (s : State) : Option Nat :=
  let held := s.snd.all.filter (fun x => x.2.area != 255)
  match (upTo 16).find? (fun a => held.all (fun x => x.2.area != a)) with
  | some a => some a
  | none =>
    ((held.filter (fun x => x.2.over)).foldl (fun (best : Option Sounding) x => match best with
      | none => some x.2
      | some b => if (x.2.ended : Stamp) < b.ended then some x.2 else some b) none).map (fun x => x.area)

/-- The source of a captured signal of a sounding (R209). -/
def State.capturedSource (s : State) (c : Nat) : Nat :=
  let z := c / 256
  if c / 16 % 16 = 0 then s.cfgN Fid.Y_SOURCE (sigIdx z (c % 16))
  else if c / 16 % 16 = 2 then s.cfgN Fid.D_SOURCE (sigIdx z (c % 16)) else 0

/-- A running sounding captures a source with a property (R209). -/
def State.soundingReads (p : Nat → Bool) (s : State) : Bool :=
  s.snd.zones.any (fun x => (x.2.state == .settle || x.2.state == .capture) &&
    (Snd.channels x.2.request).any (fun ch => p (s.capturedSource ch.2)))

/-- An override or a disruptive test owns a destination of the zone or holds a captured source (R196, R209). -/
def State.sndHeld (s : State) (z : Nat) (p : List Byte) : Bool :=
  (s.zoneDests z).any (fun d => s.destRank d == 3) ||
  (Snd.channels p).any (fun x =>
    let d := s.capturedSource x.2
    (descKind d == 1 && decide (0 < (s.inp.cores.get (descIndex d / 4)).demand)) ||
    ((descKind d == 2 || descKind d == 3) && ((s.fld.owns.get (descIndex d)).test.isSome || (s.fld.owns.get (descIndex d)).force.isSome)))

/-- A start of zone z has to wait (R196). -/
def State.sndWaits (s : State) (z : Nat) (p : List Byte) : Bool := (s.snd.zones.get z).runs || s.sndHeld z p

/-! ### Starting -/

/-- The samples of an area are lost. -/
def State.sndErase (area : Nat) (s : State) : State :=
  { s with snd.capture := s.snd.capture.filter (fun x => x.1 / 65536 != area) }

/-- What holds an area is forgotten with its capture and its result (R197). -/
def State.sndEvict (area : Nat) (s : State) : State :=
  let zs := (s.snd.zones.filter (fun x => x.2.area == area)).map (fun x => x.1)
  { s.sndErase area with
    snd.zones := s.snd.zones.updAll zs (fun _ o => { deferredReq := o.deferredReq })
    snd.older := s.snd.older.filter (fun x => x.2.area != area) }

/-- A start is accepted: it takes its area and waits for its start angle; an earlier sounding of the zone keeps its own (R197). -/
def State.sndAccept (z area : Nat) (p : List Byte) (s : State) : State :=
  let t := s.sndEvict area
  let o := t.snd.zones.get z
  { t with
    snd.older := if o.area = 255 then t.snd.older else (z, { o with deferredReq := none }) :: t.snd.older
    snd.zones := t.snd.zones.set z { state := .pending, area := area, request := p } }

/-- The 20-byte response of SOUND_START (R201). -/
def State.sndResponse (s : State) (z area : Nat) (p : List Byte) : List Byte :=
  let cut := (Snd.excited p).any (fun k => decide (s.sndAmp z k p < Snd.amp p k))
  le 1 area ++ le 1 (bit cut) ++ le 2 0 ++ (upTo 4).flatMap (fun k => le 4 (ofSigned 32 (s.sndAmp z k p)))

/-- Accept or refuse a start whose checks have passed and that need not wait (R196). -/
def State.sndTake (z : Nat) (p : List Byte) (s : State) : State × Option Resp :=
  match s.sndArea with
  | some a => (s.sndAccept z a p, some (s.resp .accepted (s.sndResponse z a p)))
  | none => s.fail .storeFull

/-- SOUND_START (R196). -/
def opSoundStart : OpDef :=
  { cls := 2, opcode := 0x0020, fns := [15]
    len := fun n => n == 52
    content := fun s r => zoneTarget r && Snd.inRange r.payload && (!s.present r.target || s.sndFits r.target r.payload)
    expert := fun _ _ => true
    holds := true
    off := fun s r => s.cfgN Fid.SND_ENABLE == 0 || !s.present r.target || s.cfgN Fid.SND_ALLOW r.target == 0 ||
      s.sndNoAmp r.target r.payload
    body := fun r s =>
      let waits := s.sndWaits r.target r.payload
      let t := State.endInterims (fun i => i.isOp 2 0x0020 r.target && i.isDeferred) .replaced .done []
        { s with snd.zones := s.snd.zones.upd r.target (fun o => { o with deferredReq := if waits then some r.payload else none }) }
      if waits then t.fail .deferred
      else if s.sndArea.isNone then s.fail .storeFull
      else t.sndTake r.target r.payload }

/-- SOUND_START (R196). -/
def execSoundStart (a : At) (r : Req) (s : State) : Host.Outcome State Fault Refusal := .next (serve opSoundStart r (s.advance a))

/-! ### Test signals (R199, R200) -/

/-- Second taps of the feedback polynomials, as stage numbers. -/
def prbsTaps : Nat → List Nat
  | 5 => [3]
  | 6 => [5]
  | 7 => [6]
  | 8 => [6, 5, 4]
  | 9 => [5]
  | 10 => [7]
  | 11 => [9]
  | 12 => [6, 4, 1]
  | _ => []

/-- One shift of the register of degree n: stage j is bit j − 1, the sum of the tapped stages enters at stage 1. -/
def prbsShift (n reg : Nat) : Nat :=
  let fb := (prbsTaps n).foldl (fun b t => xor b (bitOf reg (t - 1))) (bitOf reg (n - 1))
  (reg * 2 + bit fb) % 2 ^ n

/-- `k` shifts. -/
def prbsSteps : Nat → Nat → Nat → Nat
  | 0, _, reg => reg
  | k + 1, n, reg => prbsSteps k n (prbsShift n reg)

/-- Output bit `i` of excited input e of a zone (R199). -/
def prbsBit (n zone e i : Nat) : Bool :=
  let l := 2 ^ n - 1
  let steps := ((zone % 16 * 4 + e) * max 1 (l / 64) + i) % l
  bitOf (prbsSteps steps n l) (n - 1)

/-- The sum of R200 at sample `i` of a period, in units of 2^−96: tone j + 1 has phase −j (j + 1) / 2K turns. -/
def tones (k period i : Nat) : Int :=
  ((upTo k).map (fun j => F32.cosTurn ((2 * j + 1) * i * 2 * k + 2 * k * period * k - j * (j + 1) * period) (2 * k * period))).foldl (· + ·) 0

/-- s[i] of a multisine of so many tones (R200), rounded to binary32 once. -/
def multisine (k period i : Nat) : Word32 :=
  F32.ofRat (tones k period i) ((upTo period).foldl (fun c n => max c (tones k period n).natAbs) 0)

/-- The test signal of excited input k at capture interval `i` since the start angle. -/
def sndSignal (z k i : Nat) (p : List Byte) : Word32 :=
  if Snd.signal p = 1 then
    (if prbsBit (Snd.shape p) z k (i / Snd.hold p) then F32.one else F32.neg F32.one)
  else
    let period := 2 ^ Snd.hold p
    multisine (Snd.shape p) period ((i + Snd.settle p * (period - 1)) % period)

/-! ### The sounded zone's actuator inputs (R198) -/

/-- Value of an actuator input of a zone in SOUNDING before steps 3 and 4 of R138; `law` is its law value. -/
def State.sndInput (s : State) (z k : Nat) (law : Word32) : Word32 :=
  let o := s.snd.zones.get z
  if bitOf (Snd.excite o.request) k then
    F32.fma (o.amp.get k) (sndSignal z k (o.floorSamples / Snd.span o.request) o.request) (o.centre.get k)
  else if Snd.other o.request = 0 then o.held.get k
  else law

/-! ### Beginning (R197) -/

/-- Floor samples since turn 0 at the present sample angle. -/
def State.floorCount (s : State) : Nat := 2 * s.turn + bit (decide (524288 ≤ s.grain))

/-- An amplitude vanished once the centre was known: the start is off after all (R201). -/
def State.sndVanish (z : Nat) (s : State) : State :=
  State.endInterims (fun i => i.isOp 2 0x0020 z && !i.isDeferred) .effect .functionOff []
    { s with snd.zones := s.snd.zones.upd z (fun o => { deferredReq := o.deferredReq }) }

/-- A zone changes its mode at a sample angle: MAINTENANCE keeps what was applied, AUTO resets its transfer term (R101, R140). -/
def State.enterMode (z : Nat) (m : ZMode) (s : State) : State :=
  let o := s.zones.get z
  let o1 := { o with
    wReset := o.wReset || (m == .auto && o.mode != .auto)
    uHeld := if m = .maintenance && o.mode != .maintenance then o.u else o.uHeld }
  State.setMode z m { s with zones := s.zones.set z o1 }

/-- The sounding of a zone begins at the present sample angle. -/
def State.sndBegin (z : Nat) (s : State) : State :=
  let o := s.snd.zones.get z
  let p := o.request
  let drives := (Snd.excited p).map (fun k => (k, s.sndDrive z k p))
  if drives.any (fun d => (F32.mag d.2.2).1 == 0) then s.sndVanish z else
  let seq := s.snd.seq + 1
  let zone := s.zones.get z
  let ampCut := (Snd.excited p).any (fun k => (s.sndDrive z k p).2 != F32.ofRat (Snd.amp p k) (s.uScale z k))
  let centreCut := (Snd.excited p).any (fun k => match modelLimit (s.cfgN Fid.U_KIND (sigIdx z k)) (Snd.centre p k) with
    | some v => v != (s.sndDrive z k p).1
    | none => zone.u.get k != (s.sndDrive z k p).1)
  let y0 := (s.boundY z (Snd.channel p 0 % 16)).get?
  let o1 := { o with
    state := .settle, seq := seq.toNat, start := s.now, y0 := y0, held := zone.u
    centre := drives.foldl (fun (t : Tbl Word32) d => t.set d.1 d.2.1) ([] : Tbl Word32)
    amp := drives.foldl (fun (t : Tbl Word32) d => t.set d.1 d.2.2) ([] : Tbl Word32)
    flags := 16 * bit ampCut + 32 * bit centreCut }
  let zone1 := { zone with returnMode := zone.mode, nextMode := none }
  let t := { s with snd := { s.snd with seq := seq, zones := s.snd.zones.set z o1 }, zones := s.zones.set z zone1 }
  let t1 := State.count 2 1 (t.enterMode z .sounding)
  let t2 := State.record 15 1 0x0001 (le 1 z ++ le 4 seq.toNat ++ le 1 o.area ++ le 1 (Snd.signal p)) false z t1
  State.endInterims (fun i => i.isOp 2 0x0020 z && !i.isDeferred) .effect .done (t2.sndResponse z o.area p) t2

/-- Soundings whose start angle this sample is (R197). -/
def State.sndStarts (s : State) : State :=
  if !s.rdy Rdy.sounding then s else
  State.each ((s.snd.zones.filter (fun x => x.2.state == .pending && s.floorCount % Snd.span x.2.request == 0)).map (fun x => x.1))
    State.sndBegin s

/-! ### Capture (R202–R204) -/

/-- STEP of a kind as a fraction (R204). -/
def sndStep : Nat → Nat
  | 1 => 1000
  | 2 => 100
  | 3 => 10
  | 4 => 100
  | 5 => 10
  | 6 => 10
  | _ => 1000

/-- Kind of a captured signal. -/
def State.sndKind (s : State) (c : Nat) : Nat := s.sigKind (c / 256) (c % 256)

/-- Raw capture value (R204), offset by 32 768: 0 is the no-value code. -/
def sndRaw (step : Nat) (base : Word32) (v : Option Word32) : Nat :=
  match v with
  | none => 0
  | some w => match F32.toRange (F32.sub w base) step (-32767) 32767 with
    | some i => (i + 32768).toNat
    | none => 0

/-- Key of a capture sample. -/
def sndKey (area ch i : Nat) : Nat := area * 65536 + ch * 16384 + i

/-- What a channel adds to its interval at this floor sample: `u` the applied inputs of the sample. -/
def State.sndAdd (s : State) (z : Nat) (u : Tbl Word32) (ch c : Nat) (o : Sounding) : Sounding :=
  match c / 16 % 16 with
  | 1 => { o with sums := o.sums.upd ch (F32.add (u.get (c % 16))), counts := o.counts.upd ch (· + 1) }
  | 2 => match ((s.zones.get z).d.get (c % 16)).get? with
    | some v => { o with sums := o.sums.upd ch (F32.add v), counts := o.counts.upd ch (· + 1) }
    | none => o
  | _ => o

/-- The capture sample of a channel at the end of its interval (R203). -/
def State.sndValue (s : State) (span ch c : Nat) (o : Sounding) : Option Word32 :=
  let n := o.counts.get ch
  match c / 16 % 16 with
  | 0 => ((s.zones.get (c / 256)).y.get (c % 16)).get?
  | 1 => some (F32.div (o.sums.get ch) (F32.ofNat span))
  | _ => if 2 * n < span || n = 0 then none else some (F32.div (o.sums.get ch) (F32.ofNat n))

/-- Store the samples of an interval that ends (R204). -/
def State.sndStore (z : Nat) (s : State) : State :=
  let o := s.snd.zones.get z
  let p := o.request
  let vals := (Snd.channels p).map (fun x => (x, s.sndValue (Snd.span p) x.1 x.2 o))
  let base := if o.samples = 0 then vals.foldl (fun (t : Tbl Word32) v => t.set v.1.1 (v.2.getD 0)) ([] : Tbl Word32) else o.base
  let cap := vals.foldl (fun (t : Tbl Nat) v =>
    t.set (sndKey o.area v.1.1 o.samples) (sndRaw (sndStep (s.sndKind v.1.2)) (base.get v.1.1) v.2)) s.snd.capture
  let gap := vals.any (fun v => v.1.1 == 0 && v.2.isNone)
  { s with
    snd.capture := cap
    snd.zones := s.snd.zones.set z { o with
      base := base, samples := o.samples + 1, captured := true, sums := [], counts := [], gaps := if gap then o.gaps + 1 else 0
      rateMin := if o.samples = 0 then s.pointRate else min o.rateMin s.pointRate
      rateMax := if o.samples = 0 then s.pointRate else max o.rateMax s.pointRate } }

/-- A running sounding at a floor sample, once the applied inputs of the sample are known. -/
def State.sndSample (z : Nat) (u : Tbl Word32) (s : State) : State :=
  let o := s.snd.zones.get z
  if !(o.state == .settle || o.state == .capture) then s else
  let p := o.request
  let n := o.floorSamples
  let inCapture := decide (Snd.settle p ≤ n / Snd.span p) && decide (o.samples < Snd.length p)
  let o1 := if inCapture then (Snd.channels p).foldl (fun t x => s.sndAdd z u x.1 x.2 t) o else o
  let t := { s with snd.zones := s.snd.zones.set z { o1 with floorSamples := n + 1 } }
  if inCapture && (n + 1) % Snd.span p == 0 then t.sndStore z else t

/-! ### Course (R205–R207) -/

/-- The zone leaves SOUNDING at the next floor sample angle (R206). -/
def State.sndLeave (z : Nat) (m : Option ZMode) (s : State) : State :=
  { s with zones := s.zones.upd z (fun o =>
      if o.mode = .sounding then
        { o with nextMode := some (match m with
            | some x => x
            | none => o.deferredMode.getD o.returnMode) }
      else o) }

/-- Abort a sounding of a zone that has not ended (R207). -/
def State.sndEnd (cause z : Nat) (o : Sounding) (s : State) : State :=
  let keep := [1, 3, 4].contains cause && o.captured
  let o1 := { o with state := .aborted, cause := cause, ended := s.now, captured := keep, samples := if keep then o.samples else 0 }
  let t := { s with snd := s.snd.put z o1 }
  let t1 := if keep then t else t.sndErase o.area
  let t2 := if o.runs then t1.sndLeave z (if cause = 2 then some .holdSafe else none) else t1
  let t3 := if o.state = .pending then
      State.endInterims (fun i => i.isOp 2 0x0020 z && !i.isDeferred) .discarded .done [] t2
    else t2
  State.record 15 2 0x0002 (le 1 z ++ le 4 o.seq ++ le 1 cause) true z t3

/-- Abort the newest sounding of a zone (R207). -/
def State.sndAbort (cause z : Nat) (s : State) : State := s.sndEnd cause z (s.snd.zones.get z)

/-- A start that waits is discarded. -/
def State.sndDropDeferred (z : Nat) (s : State) : State :=
  State.endInterims (fun i => i.isOp 2 0x0020 z && i.isDeferred) .discarded .done []
    { s with snd.zones := s.snd.zones.upd z (fun o => { o with deferredReq := none }) }

/-- SOUND_SETTLED (R205). -/
def execSoundSettled (a : At) (z : Nat) (s : State) : Host.Outcome State Fault Refusal :=
  let t := s.advance a
  let o := t.snd.zones.get z
  .next (if o.state == .settle && decide (Snd.settle o.request * Snd.span o.request ≤ o.floorSamples) then
      { t with snd.zones := t.snd.zones.set z { o with state := .capture } }
    else t)

/-- SOUND_CAPTURED (R205, R206): fitting begins. -/
def execSoundCaptured (a : At) (z : Nat) (s : State) : Host.Outcome State Fault Refusal :=
  let t := s.advance a
  let o := t.snd.zones.get z
  .next (if o.state == .capture && decide (Snd.length o.request ≤ o.samples) then
      State.record 15 1 0x0003 (le 1 z ++ le 4 o.seq ++ le 2 o.samples) true z
        (State.sndLeave z none { t with snd.zones := t.snd.zones.set z { o with state := .fitting, ended := t.now } })
    else t)

/-- The channel-0 output has left its guard band, or has had no value for too long (R207). -/
def State.sndCauseHolds (s : State) (z cause : Nat) : Bool :=
  let o := s.snd.zones.get z
  let k := Snd.channel o.request 0 % 16
  match cause with
  | 3 => match ((s.zones.get z).y.get k).get?, o.y0 with
    | some v, some v0 =>
      F32.cmpQ (F32.abs (F32.sub v v0)) (s.cfgN Fid.SND_Y_GUARD z) (limitScale (s.cfgN Fid.Y_KIND (sigIdx z k))) == .gt
    | _, _ => false
  | 4 => decide (s.cfgN Fid.SND_MAX_GAP < o.gaps)
  | _ => false

/-- SOUND_ABORTED (R207): causes GUARD and NO_OUTPUT; the others act inside the command that brings them. -/
def execSoundAborted (a : At) (z cause : Nat) (s : State) : Host.Outcome State Fault Refusal :=
  let t := s.advance a
  let o := t.snd.zones.get z
  .next (if (o.state == .settle || o.state == .capture) && t.sndCauseHolds z cause then t.sndAbort cause z else t)

/-! ### Modes (R103) -/

/-- Write a zone's mode; the answer of R103. A mode code is valid here. -/
def State.writeMode (z : Nat) (m : ZMode) (s : State) : State × Status :=
  let o := s.zones.get z
  if o.mode = .sounding then
    let running := (s.snd.zones.get z).runs
    if m = .holdSafe then
      let t := if running then s.sndAbort 2 z else s.sndLeave z (some .holdSafe)
      (State.endInterims (fun i => i.isOp 1 0x0004 z) .replaced .done []
        { t with zones := t.zones.upd z (fun x => { x with deferredMode := none }) }, Status.done)
    else
      (State.endInterims (fun i => i.isOp 1 0x0004 z) .replaced .done []
        { s with zones := s.zones.set z { o with
            deferredMode := some m, nextMode := if running then o.nextMode else some m } }, .deferred)
  else ({ s with zones := s.zones.set z { o with nextMode := some m } }, .done)

/-- MODE_WRITE (R103). -/
def opModeWrite : OpDef :=
  { cls := 1, opcode := 0x0004, fns := [13]
    len := fun n => n == 4
    content := fun _ r => zoneTarget r && decide (fieldAt r.payload 0 1 ≤ 3) && allZero (r.payload.drop 1)
    holds := true
    off := fun s r => !s.present r.target
    body := fun r s =>
      let x := s.writeMode r.target ((ZMode.ofCode (fieldAt r.payload 0 1)).getD .holdSafe)
      (x.1, some (x.1.resp x.2)) }

/-- MODE_WRITE (R103). -/
def execModeWrite (a : At) (r : Req) (s : State) : Host.Outcome State Fault Refusal := .next (serve opModeWrite r (s.advance a))

/-- The modes written since the last sample take effect (R103, R206); a deferred one ends its operation. -/
def State.modesTakeEffect (s : State) : State :=
  State.each (s.zonesPresent.filter (fun z => (s.zones.get z).nextMode.isSome)) (fun z t =>
    let o := t.zones.get z
    let m := o.nextMode.getD o.mode
    let left := o.mode == .sounding && o.deferredMode.isSome
    let o1 := { o with nextMode := none, deferredMode := if left then none else o.deferredMode }
    let t1 := State.enterMode z m { t with zones := t.zones.set z o1 }
    if left then State.endInterims (fun i => i.isOp 1 0x0004 z) .effect .done [] t1 else t1) s

/-! ### The fit (R210–R214) -/

/-- A captured raw value; none for the no-value code. -/
def State.sndRawAt (s : State) (area ch i : Nat) : Option Int :=
  let r := s.snd.capture.get (sndKey area ch i)
  if r = 0 then none else some ((r : Int) - 32768)

/-- EXCITATION (R214) of one channel: population deviation against half the amplitude. -/
def State.sndExcited (s : State) (o : Sounding) (ch step : Nat) (amp : Word32) : Bool :=
  let xs := (upTo o.samples).filterMap (s.sndRawAt o.area ch)
  let n : Int := xs.length
  let sum := xs.foldl (· + ·) 0
  let sq := xs.foldl (fun a x => a + x * x) 0
  let q := F32.rat amp
  decide (n * n * q.1 * q.1 * (step * step : Nat) ≤ 4 * (n * sq - sum * sum) * (q.2 * q.2 : Nat))

/-- Channels that are inputs of the fit: captured channels 1 to 3 (R210). -/
def sndInputs (p : List Byte) : List (Nat × Nat) := (Snd.channels p).filter (fun x => x.1 != 0)

/-- Whether row `i` has every value it contains (R210). -/
def State.sndRowWhole (s : State) (o : Sounding) (i : Nat) : Bool :=
  let n := Snd.order o.request
  (s.sndRawAt o.area 0 i).isSome && (upTo n).all (fun a =>
    (s.sndRawAt o.area 0 (i - a - 1)).isSome && (sndInputs o.request).all (fun x => (s.sndRawAt o.area x.1 (i - a - 1)).isSome))

/-- Estimation rows used (R210): whole rows among the first three quarters. -/
def State.sndRowList (s : State) (o : Sounding) : List Nat :=
  (upTo (3 * o.samples / 4)).filter (fun i => decide (Snd.order o.request ≤ i) && s.sndRowWhole o i)

/-- How many they are. -/
def State.sndRows (s : State) (o : Sounding) : Nat := (s.sndRowList o).length

/-- Parameters of the model (R210). -/
def sndParams (p : List Byte) : Nat := Snd.order p * (1 + (sndInputs p).length) + 1

/-- COVERAGE (R214). -/
def State.sndCovered (s : State) (o : Sounding) : Bool :=
  (Snd.channels o.request).all (fun x =>
    decide (((upTo o.samples).filter (fun i => (s.sndRawAt o.area x.1 i).isNone)).length * 20 ≤ o.samples)) &&
  decide (4 * sndParams o.request ≤ s.sndRows o)

/-- A captured value as its deviation from BASE: rows of R210 are in deviations, which changes γ alone (assumption 68). -/
def State.sndDeviation (s : State) (o : Sounding) (ch i : Nat) : Word32 :=
  F32.ofRat ((s.sndRawAt o.area ch i).getD 0) (sndStep (s.sndKind (Snd.channel o.request ch)))

/-- The last n values of a channel before row `i`, latest first. -/
def State.sndLags (s : State) (o : Sounding) (ch i : Nat) : List Word32 :=
  (upTo (Snd.order o.request)).map (fun a => s.sndDeviation o ch (i - a - 1))

/-- The least-squares model over the estimation rows (R210). -/
def State.sndModel (s : State) (o : Sounding) : Fit.Model :=
  let p := o.request
  let rows := s.sndRowList o
  let chans := 0 :: (sndInputs p).map (fun x => x.1)
  let cols := chans.flatMap (fun ch => (upTo (Snd.order p)).map (fun a => rows.map (fun i => s.sndDeviation o ch (i - a - 1)))) ++
    [rows.map (fun _ => F32.one)]
  Fit.Model.of (Snd.order p) (sndInputs p).length (Fit.leastSquares cols (rows.map (s.sndDeviation o 0)))

/-- The simulation over one validation row (R214): `acc` holds the simulated outputs while a run of whole rows lasts, and the pairs of
measured and simulated values. A run starts from measured outputs (assumption 68). -/
def State.sndSimulate (s : State) (o : Sounding) (m : Fit.Model) (acc : Option (List Word32) × List (Word32 × Word32)) (i : Nat) :
    Option (List Word32) × List (Word32 × Word32) :=
  if !s.sndRowWhole o i then (none, acc.2) else
  let ys := acc.1.getD (s.sndLags o 0 i)
  let y := m.predict ys ((sndInputs o.request).map (fun x => s.sndLags o x.1 i))
  (some ((y :: ys).take (Snd.order o.request)), (s.sndDeviation o 0 i, y) :: acc.2)

/-- FIT in percent (R214). -/
def State.sndFit (s : State) (o : Sounding) (m : Fit.Model) : Word32 :=
  let first := 3 * o.samples / 4
  let pairs := (((upTo (o.samples - first)).map (· + first)).foldl (s.sndSimulate o m) (none, [])).2.reverse
  let ys := pairs.map (fun x => x.1)
  let mean := F32.div (F32.sum ys) (F32.ofNat ys.length)
  let err := Fit.norm (pairs.map (fun x => F32.sub x.1 x.2))
  F32.mul (F32.ofNat 100) (F32.sub F32.one (F32.div err (Fit.norm (ys.map (fun y => F32.sub y mean)))))

/-- The inputs of the fit that are actuator inputs of the zone: place among the fit's inputs, and actuator input. -/
def sndDriven (p : List Byte) : List (Nat × Nat) :=
  ((sndInputs p).zipIdx.filter (fun x => x.1.2 / 16 % 16 == 1)).map (fun x => (x.2, x.1.2 % 16))

/-- Columns of a matrix. -/
def pickColumns (m : Fit.Mat) (cols : List Nat) : Fit.Mat := m.map (fun r => cols.map (fun j => r.getD j 0))

/-- The gains of R213 for a converted model, with the zone's weights. -/
def State.sndDesign (s : State) (z : Nat) (p : List Byte) (f : Fit.Mat × Fit.Mat) : Fit.Design :=
  Fit.design f.1 (pickColumns f.2 ((sndDriven p).map (fun x => x.1)))
    (BitVec.ofNat 32 (s.cfgN Fid.SND_QW z)) (BitVec.ofNat 32 (s.cfgN Fid.SND_RV z))
    (BitVec.ofNat 32 (s.cfgN Fid.SND_QY z)) (BitVec.ofNat 32 (s.cfgN Fid.SND_RU z))

/-- The result block (R212, R213). -/
def State.fitBlock (s : State) (z : Nat) (o : Sounding) (f : Fit.Mat × Fit.Mat) (d : Fit.Design) : Tbl Word32 :=
  let p := o.request
  let n := Snd.order p
  let yo := Snd.channel p 0 % 16
  let put := fun (t : Tbl Word32) (x : Nat × Word32) => t.set x.1 x.2
  let a := (upTo n).flatMap (fun i => (upTo n).map (fun j => (Zw.a + 8 * i + j, Fit.entry f.1 i j))) ++ [(Zw.a + 9 * n, F32.one)]
  let c := [(Zw.c + 8 * yo, F32.one), (Zw.c + 8 * yo + n, F32.one)]
  let cols := (sndInputs p).zipIdx.flatMap (fun x => (upTo n).flatMap (fun i =>
    let b := Fit.entry f.2 i x.2
    let q := x.1.2 / 256
    let k := x.1.2 % 16
    match x.1.2 / 16 % 16 with
    | 1 => [(Zw.b + 4 * i + k, b)]
    | 2 => [(Zw.e + 4 * i + k, b)]
    | _ => (upTo 6).flatMap (fun j => if s.neighbour z j == some q then
        (upTo (s.nx q)).map (fun m => (Zw.g j + 8 * i + m, F32.mul b (s.zw q (Zw.c + 8 * k + m)))) else [])))
  let l := (upTo (n + 1)).map (fun i => (Zw.l + 4 * i + yo, Fit.entry d.l i 0))
  let kf := (sndDriven p).zipIdx.flatMap (fun x =>
    let u := x.1.2
    (upTo n).map (fun j => (Zw.k + 8 * u + j, Fit.entry d.kq x.2 j)) ++
      [(Zw.k + 8 * u + n, Fit.entry d.f x.2 0), (Zw.f + 4 * u + yo, Fit.entry d.f x.2 0)])
  let lim := (upTo 8).map (fun i => (Zw.xLimit + i, s.zw z (Zw.xLimit + i)))
  (a ++ c ++ cols ++ l ++ kf ++ lim ++ [(Zw.modelId, BitVec.ofNat 32 (0x80000000 + o.seq % 2 ^ 31))]).foldl put ([] : Tbl Word32)

/-- The active model's gains of the sounded output, one per actuator input, and whether I − A is regular within binary32 precision
(R214, assumption 68). -/
def State.activeGains (s : State) (z yo : Nat) : List Word32 × Bool :=
  let nx := s.nx z
  let a := Fit.build nx nx (fun i j => s.zw z (Zw.a + 8 * i + j))
  let b := Fit.build nx 4 (fun i j => s.zw z (Zw.b + 4 * i + j))
  let inv := Fit.inverse (Fit.sub (Fit.eye nx) a)
  ((Fit.mul (Fit.build 1 nx (fun _ j => s.zw z (Zw.c + 8 * yo + j))) (Fit.mul inv.1 b)).headD [], inv.2)

/-- GAIN (R214) of one excited input from its two gains: the same sign, and a difference of at most `change` percent of the old one. -/
def gainClose (new old : Word32) (change : Nat) : Bool :=
  F32.isNeg new == F32.isNeg old &&
    (let n := F32.rat new
     let m := F32.rat old
     decide (100 * (n.1 * m.2 - m.1 * n.2).natAbs ≤ change * m.1.natAbs * n.2))

/-- Links of other present zones that name a zone (R215): zone and link. -/
def State.linksTo (s : State) (z : Nat) : List (Nat × Nat) :=
  (s.zonesPresent.filter (fun q => q != z)).flatMap (fun q =>
    ((upTo 6).filter (fun j => s.neighbour q j == some z)).map (fun j => (q, j)))

/-- The sounding of a zone whose fit is the first to complete. -/
def State.sndFitting (s : State) (z : Nat) : Sounding :=
  ((s.snd.older.reverse.find? (fun x => x.1 == z && x.2.state == .fitting)).map (fun x => x.2)).getD (s.snd.zones.get z)

/-- The fit and its tests complete (R210–R214). GAIN_OLD of a singular active model and RADIUS of a model that is not finite are free
values (assumption 68). -/
def State.sndResult (z : Nat) (s : State) : Sounding :=
  let o := s.sndFitting z
  let p := o.request
  let m := s.sndModel o
  let f := m.floor (Snd.decim p)
  let d := s.sndDesign z p f
  let block := s.fitBlock z o f d
  let fit := s.sndFit o m
  let old := s.activeGains z (Snd.channel p 0 % 16)
  let skip := s.zw z Zw.modelId == 0 || !old.2
  let newGain := fun (k : Nat) => ((sndDriven p).zipIdx.find? (fun x => x.1.2 == k)).map (fun x => d.gain.getD x.2 0)
  let gains := (Snd.excited p).map (fun k => ((newGain k).getD 0, old.1.getD k 0))
  let excitation := (Snd.excited p).all (fun k => ((Snd.channels p).filter (fun x => x.2 == z * 256 + 16 + k)).all (fun x =>
    s.sndExcited o x.1 (sndStep (s.sndKind x.2)) (o.amp.get k)))
  let pass := [excitation, s.sndCovered o, decide (o.rateMax * 100 ≤ o.rateMin * 102), m.rootOk,
    F32.isFin fit && F32.cmpQ fit (s.cfgN Fid.SND_MIN_FIT) 100 != .lt,
    skip || gains.all (fun g => F32.isFin g.1 && F32.isFin g.2 && gainClose g.1 g.2 (s.cfgN Fid.SND_MAX_CHANGE z)),
    d.ok, block.all (fun x => F32.isFin x.2 || x.1 == Zw.modelId)]
  let fails := maskOf (pass.map (!·))
  { o with
    state := if fails = 0 then .accepted else .rejected
    fails := fails, flags := o.flags + 8 * bit skip, hasResult := true
    fit := fit, radius := if m.alpha.all F32.isFin then Fit.radius m.poly else s.freeNow
    gainNew := (gains.headD (0, 0)).1, gainOld := if old.2 then (gains.headD (0, 0)).2 else Config.freeWord (s.free + 1)
    incoming := (s.linksTo z).length, rows := s.sndRows o, block := block }

/-! ### Delivery (R215, R216) -/

/-- The units of a delivery, all to SHADOW; `w` waits for the last. -/
def State.deliveryUnits (s : State) (z : Nat) (o : Sounding) (w : Option Waiter) : List BankOp :=
  let whole := BankOp.write false true 0 z 0 ((upTo 672).map o.block.get) none
  let links := (s.linksTo z).map (fun x => BankOp.write false true 0 x.1 (Zw.g x.2) (List.replicate 64 0) none)
  match w, links.reverse with
  | none, _ => whole :: links
  | some _, [] => [BankOp.write false true 0 z 0 ((upTo 672).map o.block.get) w]
  | some _, BankOp.write h sh k n f vs _ :: rest => whole :: (rest.reverse ++ [BankOp.write h sh k n f vs w])
  | some _, _ => whole :: links

/-- Deliver the result of a sounding in mode 2 (SHADOW) or 3 (SWAP) (R215, R216). -/
def State.sndDeliver (z mode force : Nat) (o : Sounding) (w : Option Waiter) (s : State) : State :=
  let withheld := mode == 3 && s.snd.hostStaged
  let ops := if mode = 3 && !withheld then
      [BankOp.copy none] ++ s.deliveryUnits z o none ++ [BankOp.swap (some z) w]
    else s.deliveryUnits z o w
  let o1 := { o with delivered := true, flags := o.flags ||| (1 + 4 * bit withheld) }
  let t := State.enqueue ops { s with snd := s.snd.put z o1 }
  let done := if withheld then 2 else mode
  let t1 := State.record 15 1 0x0005 (le 1 z ++ le 4 o.seq ++ le 1 done ++ le 1 force ++ le 1 (s.linksTo z).length) true z t
  if withheld then State.record 15 2 0x0006 (le 1 z ++ le 4 o.seq) true z t1 else t1

/-! ### Operations (R217) -/

/-- The zone is present and soundings are enabled: otherwise FUNCTION_OFF (R21, R531), and the checks that read the zone's
sounding are not made. -/
def State.sndOpen (s : State) (z : Nat) : Bool := s.cfgN Fid.SND_ENABLE != 0 && s.present z

/-- SOUND_ABORT (R207, R217). -/
def opSoundAbort : OpDef :=
  { cls := 2, opcode := 0x0021, fns := [15]
    len := fun n => n == 0
    content := fun _ r => zoneTarget r
    expert := fun _ _ => true
    off := fun s r => !s.sndOpen r.target
    body := fun r s =>
      let t := if (s.snd.zones.get r.target).deferredReq.isSome then s.sndDropDeferred r.target else s
      State.ok (if (t.snd.zones.get r.target).runs then t.sndAbort 1 r.target else t) }

/-- SOUND_ABORT (R207). -/
def execSoundAbort (a : At) (r : Req) (s : State) : Host.Outcome State Fault Refusal := .next (serve opSoundAbort r (s.advance a))

/-- State codes of R205. -/
def SndState.code : SndState → Nat
  | .none => 1
  | .pending => 1
  | .settle => 2
  | .capture => 3
  | .fitting => 4
  | .accepted => 5
  | .rejected => 6
  | .aborted => 7

/-- The 32 bytes of SOUND_STATUS; a waiting start alone reads PENDING. -/
def Sounding.status (o : Sounding) : List Byte :=
  let p := o.state == .pending || o.state == .none
  le 4 o.seq ++ le 1 o.state.code ++ le 1 (if p then 255 else o.area) ++ le 1 o.cause ++ le 1 0 ++ le 8 o.start.toNat ++
    le 8 o.ended.toNat ++ le 2 o.samples ++ le 2 o.fails ++ le 2 (o.flags + 64 * bit o.deferredReq.isSome) ++ le 2 0

/-- SOUND_STATUS (R217). -/
def opSoundStatus : OpDef :=
  { cls := 2, opcode := 0x0022, fns := [15]
    len := fun n => n == 0
    content := fun s r => zoneTarget r &&
      (!s.sndOpen r.target || (s.snd.zones.get r.target).state != .none || (s.snd.zones.get r.target).deferredReq.isSome)
    expert := fun _ _ => true
    off := fun s r => !s.sndOpen r.target
    body := fun r s => s.ok (s.snd.zones.get r.target).status }

/-- SOUND_STATUS (R217). -/
def execSoundStatus (a : At) (r : Req) (s : State) : Host.Outcome State Fault Refusal := .next (serve opSoundStatus r (s.advance a))

/-- The sounding of a zone that SOUND_CAPTURE reads: the newest that has come to its capture (assumption 156). -/
def State.sndCaptured (s : State) (z : Nat) : Sounding := s.snd.newest z (fun o => o.over || [SndState.capture, .fitting].contains o.state)

/-- The sounding of a zone that SOUND_RESULT and SOUND_DELIVER name: the newest that has ended (assumption 156). -/
def State.sndEnded (s : State) (z : Nat) : Sounding := s.snd.newest z Sounding.over

/-- SOUND_CAPTURE (R217). -/
def opSoundCapture : OpDef :=
  { cls := 2, opcode := 0x0023, fns := [15]
    len := fun n => n == 8
    content := fun s r =>
      let o := s.sndCaptured r.target
      zoneTarget r && decide (fieldAt r.payload 0 1 ≤ 3) && fieldAt r.payload 1 1 == 0 && allZero (r.payload.drop 6) &&
        decide (1 ≤ fieldAt r.payload 4 2 ∧ fieldAt r.payload 4 2 ≤ 2016) &&
        (!s.sndOpen r.target || (o.captured && Snd.channel o.request (fieldAt r.payload 0 1) != 0xFFFF))
    expert := fun _ _ => true
    off := fun s r => !s.sndOpen r.target
    body := fun r s =>
      let o := s.sndCaptured r.target
      let ch := fieldAt r.payload 0 1
      let first := fieldAt r.payload 2 2
      let n := min (fieldAt r.payload 4 2) (o.samples - first)
      s.ok (le 4 (o.base.get ch).toNat ++ le 4 (F32.ofRat 1 (sndStep (s.sndKind (Snd.channel o.request ch)))).toNat ++
        le 2 first ++ le 2 n ++ le 4 0 ++
        (upTo n).flatMap (fun i => le 2 ((s.snd.capture.get (sndKey o.area ch (first + i)) + 32768) % 65536))) }

/-- SOUND_CAPTURE (R217). -/
def execSoundCapture (a : At) (r : Req) (s : State) : Host.Outcome State Fault Refusal := .next (serve opSoundCapture r (s.advance a))

/-- SOUND_RESULT (R217). -/
def opSoundResult : OpDef :=
  { cls := 2, opcode := 0x0024, fns := [15]
    len := fun n => n == 0
    content := fun s r => zoneTarget r && (!s.sndOpen r.target || (s.sndEnded r.target).hasResult)
    expert := fun _ _ => true
    off := fun s r => !s.sndOpen r.target
    body := fun r s =>
      let o := s.sndEnded r.target
      s.ok (le 4 o.seq ++ le 2 o.fails ++ le 2 (o.flags + 64 * bit o.deferredReq.isSome) ++
        leList 4 [o.fit.toNat, o.radius.toNat, o.gainNew.toNat, o.gainOld.toNat] ++ le 1 o.incoming ++
        le 1 (Snd.order o.request) ++ le 2 o.rows ++ le 4 0 ++ (upTo 672).flatMap (fun i => le 4 (o.block.get i).toNat)) }

/-- SOUND_RESULT (R217). -/
def execSoundResult (a : At) (r : Req) (s : State) : Host.Outcome State Fault Refusal := .next (serve opSoundResult r (s.advance a))

/-- SOUND_DELIVER (R215, R217): answered once the delivery is in effect. A result with a value that is not finite is no HELM_WRITE that a
bank may take: R122 and R126 answer it BAD_FORMAT, also with FORCE (assumption 156). -/
def opSoundDeliver : OpDef :=
  { cls := 2, opcode := 0x0025, fns := [15]
    len := fun n => n == 4
    content := fun s r =>
      let o := s.sndEnded r.target
      let m := fieldAt r.payload 0 1
      zoneTarget r && (m == 1 || m == 2) && decide (fieldAt r.payload 1 1 ≤ 1) && allZero (r.payload.drop 2) &&
        (!s.sndOpen r.target ||
          (o.hasResult && !o.delivered && (o.state == .accepted || fieldAt r.payload 1 1 == 1) && !bitOf o.fails 7))
    expert := fun _ _ => true
    holds := true
    off := fun s r => !s.sndOpen r.target
    body := fun r s => 
      (s.sndDeliver r.target (fieldAt r.payload 0 1 + 1) (fieldAt r.payload 1 1) (s.sndEnded r.target) (some (Req.waiter r)), none) }

/-- SOUND_DELIVER (R215). -/
def execSoundDeliver (a : At) (r : Req) (s : State) : Host.Outcome State Fault Refusal := .next (serve opSoundDeliver r (s.advance a))

end Sys2Proof.Machine
end

