-- ==== Sys2Proof/Machine/Helm.lean ====
section
/-! DEFINITION. Machine/Helm.lean: the floor sample and its apply angle (R109–R117, R135–R147), the fast actuator loops
(R149–R153) and what the occupancy estimator takes from floor samples (R186). -/

namespace Sys2Proof.Machine

/-! ### Arithmetic in the order of R147 -/

/-- `acc` after one multiply-add per column of a row of coefficients starting at word `at_`. -/
def fmaRow (m : Nat → Word32) (at_ : Nat) (x : Tbl Word32) (n : Nat) (acc : Word32) : Word32 :=
  (upTo n).foldl (fun a j => F32.fma (m (at_ + j)) (x.get j) a) acc

/-- The same with the coefficients' sign reversed. -/
def fmaRowNeg (m : Nat → Word32) (at_ : Nat) (x : Tbl Word32) (n : Nat) (acc : Word32) : Word32 :=
  (upTo n).foldl (fun a j => F32.fma (F32.neg (m (at_ + j))) (x.get j) a) acc

/-- A transfer term that decays (R141); `span` is the magnitude of U_MAX − U_MIN. -/
def decayed (shift : Nat) (span w : Word32) : Word32 :=
  if shift = 0 then 0 else
  let v := F32.sub w (F32.mul w (F32.ofRat 1 (2 ^ shift)))
  if F32.lt (F32.abs v) (F32.mul span (F32.ofRat 1 (2 ^ 24))) then 0 else v

/-- A transfer term that resets: the law value will equal the input last applied (R140). -/
def resetTerm (shift : Nat) (uPrev law : Word32) : Word32 := if shift = 0 then 0 else F32.sub uPrev law

/-! ### The snapshot (R110, R135–R137) -/

/-- Disturbance k after substitution (R136). -/
def State.dUsed (s : State) (z k : Nat) : Word32 :=
  let b := (s.zones.get z).d.get k
  match b.get? with
  | some v => v
  | none => if b.validity = .absent then 0 else ((s.zio.get z).lastD.get k).getD 0

/-- A zone none of whose connected measured outputs is valid (R137). -/
def State.isBlind (s : State) (z : Nat) : Bool :=
  let ys := ((upTo (s.ny z)).map (s.zones.get z).y.get).filter (fun b => b.validity != .absent)
  !ys.isEmpty && ys.all (fun b => b.validity != .valid)

/-- ZONE_BLIND (R163). -/
def State.blindRecord (z : Nat) (begins reached : Bool) (s : State) : State :=
  State.record 13 2 0x0006 (le 1 z ++ le 1 (bit begins) ++ le 1 (bit reached)) true z s

/-- Blindness of a zone at a sample (R137). -/
def State.blindStep (z : Nat) (s : State) : State :=
  let o := s.zones.get z
  match s.isBlind z, o.blindSince with
  | true, none => State.blindRecord z true false { s with zones := s.zones.set z { o with blindSince := some s.now } }
  | true, some t =>
    let lim := s.cfgN Fid.HELM_BLIND_SAFE
    { s with zones := s.zones.set z { o with blindSafe := o.blindSafe || (lim != 0 && decide (lim * grainsPerTurn ≤ s.now.toNat - t.toNat)) } }
  | false, some _ =>
    State.blindRecord z false o.blindSafe { s with zones := s.zones.set z { o with blindSince := none, blindSafe := false } }
  | false, none => s

/-! ### A zone's sample (R147) -/

/-- Whether a zone in AUTO acts as HOLD_SAFE (R102, R122, R137, R143). -/
def State.actsSafe (s : State) (z : Nat) : Bool :=
  let o := s.zones.get z
  o.mode == .auto && ((upTo (s.ny z)).any (fun k => ((s.zio.get z).ref.get k).isNone) || s.zw z Zw.modelId == 0 || o.blindSafe || decide (0 < o.warm))

/-- U_SAFE in model units (R138). -/
def State.uSafe (s : State) (z k : Nat) : Word32 :=
  (modelLimit (s.cfgN Fid.U_KIND (sigIdx z k)) (s.cfgN Fid.U_SAFE (sigIdx z k))).getD 0

/-- Steps 1 and 2 of R138: the value of an actuator input by mode. -/
def State.uByMode (s : State) (z k : Nat) (safe : Bool) (v : Word32) : Word32 :=
  let o := s.zones.get z
  let law := if F32.isFin v then v else s.uSafe z k
  match o.mode with
  | .holdSafe => s.uSafe z k
  | .auto => if safe then s.uSafe z k else law
  | .manual => (prioValue ((s.zio.get z).prioU.get k)).getD (o.u.get k)
  | .maintenance => o.uHeld.get k
  | .sounding => s.sndInput z k law

/-- Width of an actuator input's range in model units. -/
def State.uSpan (s : State) (z k : Nat) : Word32 :=
  let kind := s.cfgN Fid.U_KIND (sigIdx z k)
  F32.abs (F32.sub ((modelLimit kind (s.cfgN Fid.U_MAX (sigIdx z k))).getD 0) ((modelLimit kind (s.cfgN Fid.U_MIN (sigIdx z k))).getD 0))

/-- A value stands at either limit of its range (R138). -/
def State.uAtLimit (s : State) (z k : Nat) (v : Word32) : Bool :=
  let kind := s.cfgN Fid.U_KIND (sigIdx z k)
  modelLimit kind (s.cfgN Fid.U_MIN (sigIdx z k)) == some v || modelLimit kind (s.cfgN Fid.U_MAX (sigIdx z k)) == some v

/-- What one actuator input's evaluation gives. -/
structure USample where
  w : Word32 := 0
  img : Word32 := 0
  u : Word32 := 0
  forced : Bool := false
  sat : Bool := false
  owned : Bool := false
  deriving DecidableEq, Repr, Inhabited

/-- Actuator input k of a zone at a sample (R138–R141). -/
def State.uSample (s : State) (z k : Nat) (m : Nat → Word32) (safe reset : Bool) : USample :=
  let o := s.zones.get z
  let io := s.zio.get z
  let r := (upTo (s.ny z)).foldl (fun (t : Tbl Word32) i => t.set i ((io.ref.get i).getD 0)) ([] : Tbl Word32)
  let law := fmaRowNeg m (Zw.k + 8 * k) o.xhat (s.nx z) (fmaRow m (Zw.f + 4 * k) r (s.ny z) (m (Zw.u0 + k)))
  let owned := s.higher (s.governing (sigIdx z k))
  let shift := s.cfgN Fid.HELM_BUMP_SHIFT
  let w := if reset || (io.uPrevOwned.get k && !owned) then resetTerm shift (o.u.get k) law
    else decayed shift (s.uSpan z k) (o.w.get k)
  let v := F32.add law w
  let chosen := s.uByMode z k safe v
  let img := s.uClamp z k chosen
  { w := w, img := img, u := s.fedBack (sigIdx z k) img, forced := !F32.isFin v, sat := s.uAtLimit z k img, owned := owned }

/-- Saturation of an element of the next estimate (R145). -/
def xClamp (limit x : Word32) : Word32 × Bool :=
  if (F32.mag limit).1 != 0 && F32.lt limit (F32.abs x) then ((if F32.isNeg x then F32.neg limit else limit), true) else (x, false)

/-- Mean innovation and the other quantities a floor sample gives the occupancy estimator, once its results are applied (R31, R186). -/
def State.occSample (z : Nat) (s : State) : State :=
  if s.cfgN Fid.OCC_ENABLE z != 1 then s else
  let zn := s.zones.get z
  let nu := zn.nuNext
  let kt := s.cfgN Fid.OCC_Y_TEMP z
  let kc := s.cfgN Fid.OCC_Y_CO2 z
  let temp := kt != 255 && (zn.y.get kt).validity == .valid
  let co2 := if kc = 255 then none else (zn.y.get kc).get?
  let flow := (s.zio.get z).flowIn
  let pres := (s.zio.get z).presIn
  let gains := (upTo (s.nd z)).filter (fun k =>
    descKind (s.cfgN Fid.D_SOURCE (sigIdx z k)) == 10 && descIndex (s.cfgN Fid.D_SOURCE (sigIdx z k)) == 0)
  { s with occ := s.occ.upd z (fun o =>
      { o with
        samples := o.samples + 1
        innovSum := if temp then F32.add o.innovSum (nu.get kt) else o.innovSum
        innovN := if temp then o.innovN + 1 else o.innovN
        co2Last := match co2 with
          | some v => some v
          | none => o.co2Last
        flowSum := match flow with
          | some v => F32.add o.flowSum v
          | none => o.flowSum
        flowN := if flow.isSome then o.flowN + 1 else o.flowN
        seen := o.seen || pres.any (fun v => v.any (F32.lt fifty))
        presN0 := o.presN0 + bit (pres.getD 0 none).isSome
        presN1 := o.presN1 + bit (pres.getD 1 none).isSome
        gainSum := gains.foldl (fun a k => F32.add a (s.dUsed z k)) o.gainSum
        gainN := o.gainN + gains.length }) }

/-- The whole evaluation of one zone: everything staged (R110, R147). -/
def State.computeZone (z : Nat) (s : State) : State :=
  let o := s.zones.get z
  let nx := s.nx z
  let ny := s.ny z
  let nun := s.nu z
  let b := s.helm.bank false
  let m := fun w => b.word 0 z w
  let nu := (upTo ny).foldl (fun (t : Tbl Word32) i =>
    let p := fmaRow m (Zw.c + 8 * i) o.xhat nx 0
    t.set i (match (o.y.get i).get? with
      | some y => F32.sub y p
      | none => 0)) ([] : Tbl Word32)
  let safe := s.actsSafe z
  let reset := o.wReset || (o.effSafe && !safe && o.mode == .auto)
  let us := (upTo nun).map (fun k => (k, s.uSample z k m safe reset))
  let tbl := fun (f : USample → Word32) => us.foldl (fun (t : Tbl Word32) x => t.set x.1 (f x.2)) ([] : Tbl Word32)
  let flags := fun (f : USample → Bool) => us.foldl (fun (t : Tbl Bool) x => t.set x.1 (f x.2)) ([] : Tbl Bool)
  let u := tbl (fun x => x.u)
  let d := (upTo (s.nd z)).foldl (fun (t : Tbl Word32) k => t.set k (s.dUsed z k)) ([] : Tbl Word32)
  let links := (upTo 6).filterMap (fun j => (s.neighbour z j).map (fun q => (j, q)))
  let xs := (upTo nx).map (fun i =>
    let a := fmaRow m (Zw.a + 8 * i) o.xhat nx 0
    let g := links.foldl (fun acc l => fmaRow m (Zw.g l.1 + 8 * i) (s.zones.get l.2).xhat (s.nx l.2) acc) a
    (i, fmaRow m (Zw.l + 4 * i) nu ny (fmaRow m (Zw.e + 4 * i) d (s.nd z) (fmaRow m (Zw.b + 4 * i) u nun g))))
  let clamped := xs.map (fun x => (x.1, xClamp (m (Zw.xLimit + x.1)) x.2))
  let bad := match xs.find? (fun x => !F32.isFin x.2) with
    | some x => x.1 + 1
    | none => 0
  let o1 := { o with
    xnext := clamped.foldl (fun (t : Tbl Word32) x => t.set x.1 x.2.1) ([] : Tbl Word32)
    wNext := tbl (fun x => x.w), uNext := u, imgNext := tbl (fun x => x.img)
    stagedBad := bad, stagedClamp := maskOf (clamped.map (fun x => x.2.2))
    staged := true, effNext := safe, wDone := reset, wReset := false
    forcedNext := flags (fun x => x.forced), nuNext := nu }
  let io := s.zio.get z
  let io1 := { io with uSatNext := flags (fun x => x.sat), uOwnedNext := flags (fun x => x.owned) }
  let t := { s with zones := s.zones.set z o1, zio := s.zio.set z io1 }
  t.sndSample z u

/-! ### Fast loops (R149–R152) -/

/-- A limit of a fast loop in model units (R160). DESIGN CHOICE: the "no value" of R81 in such a field acts as 0 (assumption 155). -/
def State.flLimit (s : State) (field n : Nat) : Word32 := (modelLimit 0 (s.cfgN field n)).getD 0

/-- Reference of a fast loop (R151); none while it is not valid. DESIGN CHOICE: FL_R_SOURCE carries no age limit, since no field of the loop
gives one (assumption 155). -/
def State.loopRef (s : State) (n : Nat) : Option Word32 :=
  match s.inputOn Dest.fast n with
  | some (i, d) => if (s.zones.get (i / 16)).applied then some (s.imageOf i d) else none
  | none => (s.helm.loops.get n).snapR

/-- A fast loop's evaluation (R149). -/
def State.computeLoop (n : Nat) (s : State) : State :=
  let o := s.helm.loops.get n
  let ord := s.cfgN Fid.FL_ORDER n
  let b := s.helm.bank false
  let m := fun w => b.word 1 n w
  let y := o.snapY
  let ref := s.loopRef n
  let p := fmaRow m Lw.c o.xhat ord 0
  let nu := match y with
    | some v => F32.sub v p
    | none => 0
  let safe := m Lw.modelId == 0 || ref.isNone || decide (0 < o.warm)
  let d := s.cfgN Fid.FL_DEST n
  let rank := (s.destDriver (descKind d) (descIndex d)).rank
  let owned := decide (0 < rank) && decide (rank < 4)
  let law := fmaRowNeg m Lw.k o.xhat ord (F32.fma (m Lw.f) (ref.getD 0) (m Lw.u0))
  let shift := s.cfgN Fid.HELM_BUMP_SHIFT
  let lo := s.flLimit Fid.FL_U_MIN n
  let hi := s.flLimit Fid.FL_U_MAX n
  let reset := o.wReset || (o.effSafe && !safe) || (o.ownedPrev && !owned)
  let w := if reset then resetTerm shift o.u law else decayed shift (F32.abs (F32.sub hi lo)) o.w
  let v := F32.add law w
  let img := F32.clamp lo hi (if safe || !F32.isFin v then s.flLimit Fid.FL_U_SAFE n else v)
  let u := s.loopFedBack n img
  let xs := (upTo ord).map (fun i =>
    (i, F32.fma (m (Lw.l + i)) nu (F32.fma (m (Lw.b + i)) u (fmaRow m (Lw.a + 4 * i) o.xhat ord 0))))
  let o1 := { o with
    xnext := xs.foldl (fun (t : Tbl Word32) x => t.set x.1 x.2) ([] : Tbl Word32)
    bad := xs.any (fun x => !F32.isFin x.2)
    wNext := w, uNext := u, imgNext := img, staged := true, effNext := safe, wDone := reset, wReset := false, ownedNext := owned
    forcedNext := !F32.isFin v }
  { s with helm.loops := s.helm.loops.set n o1 }

/-- HELM_SAMPLE with ARG n (R150), once at its sample angle. -/
def State.loopSample (n : Nat) (s : State) : State :=
  if s.rdy Rdy.helm && !s.peerHolds && s.cfgN Fid.FL_ENABLE n == 1 && s.helm.loopAt.get n != s.now then
    let t := (s.snapLoop n).computeLoop n
    { t with helm.loopAt := t.helm.loopAt.set n t.now }
  else s

/-! ### The floor sample (R116) -/

/-- Soundings that a loss of SERVICES ends at this sample (R207). -/
def State.sndLost (s : State) : State :=
  State.each ((s.snd.zones.filter (fun x => (x.2.state == .settle || x.2.state == .capture) && x.2.cause == 6)).map (fun x => x.1))
    (State.sndAbort 6) s

/-- HELM_SAMPLE with ARG 0 (R113, R116): the image flips, fast-loop samples due at this grain run first, then bank operations, modes and the
computation. The standby takes its state from the active
module (R505). Ownership that changes at the apply angle of this sample is fed back in it (R139, R362). -/
def State.helmSample (s : State) : State :=
  if s.peerHolds then s else
  if !s.rdy Rdy.helm then s.snapFloor else
  let t := ((State.each s.loopsDue State.loopSample s.snapFloor).bankOps).sndLost.modesTakeEffect.sndStarts
  let zs := t.zonesPresent
  let t1 := State.each zs State.blindStep t
  let t2 := State.each zs State.computeZone { t1.policyOwners with helm.sampleAt := t1.now, helm.sampling := true }
  { t2 with policy := t1.policy }

/-! ### The apply angle -/

/-- X_CLAMP (R145): at most one record a zone in 4 096 turns. -/
def State.clampRecord (z mask : Nat) (s : State) : State :=
  let o := s.zones.get z
  let due := match o.xClampTurn with
    | some t => decide (t + 4096 ≤ s.turn)
    | none => true
  if mask = 0 then s
  else if due then
    State.record 13 2 0x0007 (le 1 z ++ le 1 mask) false z
      { s with zones := s.zones.set z { o with xClamped := true, xClampTurn := some s.turn } }
  else { s with zones := s.zones.set z { o with xClamped := true } }

/-- X_INIT of a zone's active block (R143). -/
def State.xInit (s : State) (z : Nat) : Tbl Word32 :=
  (upTo (s.nx z)).foldl (fun (t : Tbl Word32) i => t.set i (s.zw z (Zw.xInit + i))) ([] : Tbl Word32)

/-- A zone starts, or starts again, from X_INIT (R143). -/
def State.warmUp (z : Nat) (s : State) : State :=
  { s with zones := s.zones.upd z (fun o => { o with xhat := s.xInit z, warm := s.cfgN Fid.HELM_WARMUP }) }

/-- What a zone staged becomes current (R110, R144, R145). -/
def State.applyZone (z : Nat) (s : State) : State :=
  let o := s.zones.get z
  if !o.staged then s else
  let o1 := { o with
    xhat := o.xnext, w := o.wNext, u := o.uNext, img := o.imgNext, staged := false, applied := true, at_ := s.helm.sampleAt
    effSafe := o.effNext, wDone := false, warm := o.warm - 1, wReset := o.wReset || o.warm == 1
    uForced := (upTo 4).foldl (fun (t : Tbl Bool) k => if o.forcedNext.get k then t.set k true else t) o.uForced }
  let t := { s with
    zones := s.zones.set z o1
    zio := s.zio.upd z (fun io => { io with uPrevOwned := io.uOwnedNext, uSat := io.uSatNext }) }
  let t1 := (t.occSample z).clampRecord z o.stagedClamp
  if o.stagedBad = 0 then t1 else
  State.record 13 3 0x0003 (le 1 z ++ le 1 (o.stagedBad - 1)) true z
    (State.warmUp z { t1 with zones := t1.zones.upd z (fun x => { x with diverged := true }) })

/-- A zone's sample is dropped (R117). -/
def State.dropZone (z : Nat) (s : State) : State :=
  { s with zones := s.zones.upd z (fun o =>
      { o with staged := false, overrun := true, wReset := o.wReset || o.wDone, wDone := false }) }

/-- A fast loop starts from an estimate of 0: its block has no X_INIT (R143, R149). -/
def State.warmLoop (n : Nat) (s : State) : State :=
  { s with helm.loops := s.helm.loops.upd n (fun o => { o with xhat := [], warm := s.cfgN Fid.HELM_WARMUP }) }

/-- Enabled fast loops. -/
def State.loopsOn (s : State) : List Nat := (s.cfg.listed Fid.FL_ENABLE).filter (fun n => s.cfgN Fid.FL_ENABLE n == 1)

/-- HELM rises after the load (R157), with SOUNDING when its conditions hold (R218). -/
def State.helmRises (s : State) : State :=
  if !s.helm.loaded || s.rdy Rdy.helm then s else
  let t := State.each s.loopsOn State.warmLoop (State.each s.zonesPresent State.warmUp s)
  t.updateReady (Rdy.helm :: (if t.cfgN Fid.SND_ENABLE = 1 then [Rdy.sounding] else [])) []

/-- HELM_APPLY with ARG 0 (steps 4 and 5 of R116, R117): `late` is the number of grains past the apply angle at which the sample completes. -/
def State.helmApply (late : Nat) (s : State) : State :=
  let t := s.helmRises
  let zs := t.zonesPresent
  let t1 := if !t.helm.sampling then t
    else if 0 < late then
      State.record 13 3 0x0001 (le 8 t.helm.sampleAt.toNat ++ le 4 late) true 0 (State.each zs State.dropZone t)
    else State.each zs State.applyZone t
  let t2 := { t1 with helm.sampling := false }
  if t2.rdy Rdy.helm then { State.each zs State.refreshStatus t2 with helm.capture := true } else t2

/-- The references of sample n + 1, from the snapshot of sample n when one has been taken (R98, R116). -/
def State.formAllRefs (s : State) : State := if s.helm.snapAt.isSome then State.each s.zonesPresent State.formRefs s else s

/-- HELM_APPLY with ARG n (R117, R150). -/
def State.loopApply (n late : Nat) (s : State) : State :=
  let o := s.helm.loops.get n
  if !o.staged then s else
  if 0 < late then
    let o1 := { o with staged := false, overrun := true, wReset := o.wReset || o.wDone, wDone := false }
    State.record 13 3 0x0002 (le 1 n ++ le 8 (s.helm.loopAt.get n).toNat) false n { s with helm.loops := s.helm.loops.set n o1 }
  else
    let o1 := { o with
      xhat := o.xnext, w := o.wNext, u := o.uNext, img := o.imgNext, staged := false, applied := true
      uForced := o.uForced || o.forcedNext
      effSafe := o.effNext, wDone := false, warm := o.warm - 1, wReset := o.wReset || o.warm == 1, ownedPrev := o.ownedNext }
    let t := { s with helm.loops := s.helm.loops.set n o1 }
    if o.bad then State.warmLoop n { t with helm.loops := t.helm.loops.upd n (fun x => { x with diverged := true }) } else t

end Sys2Proof.Machine
end

