-- ==== Sys2Proof/Machine/Field.lean ====
section
/-! DEFINITION. Machine/Field.lean: the field groups and channels (R245–R274, R528, R616). -/

namespace Sys2Proof.Machine

/-! ### Groups and channels -/

/-- Group of a channel. -/
def groupOf (ch : Nat) : Nat := ch / 8

/-- Channels of a group. -/
def channelsOf (g : Nat) : List Nat := (upTo 8).map (fun i => 8 * g + i)

/-- Change a group. -/
def State.group (g : Nat) (f : Group → Group) (s : State) : State := { s with fld.groups := s.fld.groups.upd g f }

/-- Change a channel's output side. -/
def State.chOut (n : Nat) (f : ChOut → ChOut) (s : State) : State := { s with fld.outs := s.fld.outs.upd n f }

/-- Change a channel's input side. -/
def State.chIn (n : Nat) (f : ChIn → ChIn) (s : State) : State := { s with fld.ins := s.fld.ins.upd n f }

/-- The role in force (R248, R249): every role is OFF while the group is ready and CONFIG clear. -/
def State.chRole (s : State) (n : Nat) : Nat :=
  if s.rdy (Rdy.fg (groupOf n)) && !s.rdy Rdy.config then 0 else (s.fld.ins.get n).role

/-- An output role. -/
def State.chIsOut (s : State) (n : Nat) : Bool := decide (2 ≤ s.chRole n)

/-- The module takes part in a pair, so FC_SHARED counts (R268). -/
def State.shared (s : State) (n : Nat) : Bool := s.fcN Fid.FC_SHARED n == 1 && s.pair.role != .none

/-- The effective safe level's kind: 0 OFF, 1 ON, 2 HOLD (R265). -/
def State.safeKind (s : State) (n : Nat) : Nat := if s.fcN Fid.FC_SHARED n = 1 then 0 else s.fcN Fid.FC_SAFE n

/-- The switch follows the commanded level after protections (R260); a transition to ON counts one cycle, whether the logic side runs
or not (R264). -/
def State.chPin (n : Nat) (s : State) : State :=
  let on := s.chCmd n
  let o := s.fld.outs.get n
  if o.pin = on then s else
  let t := { s with
    fld.outs := s.fld.outs.set n { o with pin := on, onSince := if on then s.mer.stamp else o.onSince }
    fld.owns := s.fld.owns.upd n (fun x => { x with changedAt := s.now }) }
  if on then t.count (8 + n) 1 else t

/-- Drive a level on a channel. -/
def State.chLevel (n : Nat) (on : Bool) (s : State) : State := (s.chOut n (fun o => { o with level := on })).chPin n

/-- Every switch of a group after a change that concerns the whole group. -/
def State.groupPins (g : Nat) (s : State) : State := State.each (channelsOf g) State.chPin s

/-! ### Records (R274) and held events (R616) -/

/-- Records that a group holds while its logic side is not running. -/
def heldCodes : List Nat := [0x0001, 0x0002, 0x0008, 0x000A, 0x000C, 0x000D]

/-- An event of a group: recorded, or held by the sequencer while the logic side is down. -/
def State.fieldEvent (g sev code : Nat) (payload : List Byte) (target : Nat) (s : State) : State :=
  let o := s.fld.groups.get g
  if !o.logicDown && s.rdy Rdy.binnacle then s.record3 (6 + g) sev code payload target
  else if heldCodes.contains code && decide (o.held.length < 32) then
    s.group g (fun x => { x with held := x.held ++ [{ code := code, severity := sev, target := target, payload := payload }] })
  else s

/-- FAULT_CLEARED of a channel. -/
def State.faultCleared (n : Nat) (s : State) : State := s.fieldEvent (groupOf n) 1 0x000E (le 1 n) n

/-- Mask of a group's channels that satisfy a condition. -/
def chMask (g : Nat) (f : Nat → Bool) : Nat := maskOf ((channelsOf g).map f)

/-- SAFE_STATE (R274). -/
def State.safeRecord (g : Nat) (entered : Bool) (s : State) : State :=
  s.fieldEvent g 4 0x000A (le 1 (bit entered) ++ le 1 (chMask g (fun n => decide (2 ≤ (s.fld.ins.get n).role) && s.safeKind n == 1)) ++
    le 1 (chMask g (fun n => decide (2 ≤ (s.fld.ins.get n).role) && s.safeKind n == 2))) g

/-- VFIELD (R274): 0 restored, 1 below FG_VFIELD_UV, 2 not present. -/
def State.vfieldRecord (g what : Nat) (s : State) : State :=
  s.fieldEvent g 3 0x0008 (le 1 what ++ le 2 (s.fld.groups.get g).vfield) g

/-! ### Safe state (R265, R266) -/

/-- A group enters its safe state (R265); HOLD keeps the pin level at entry. -/
def State.enterSafe (g : Nat) (s : State) : State :=
  let t := s.group g (fun o => { o with safe := true, paramsSent := false })
  let u := State.each ((channelsOf g).filter (fun n => decide (2 ≤ (s.fld.ins.get n).role))) (fun n v =>
    let on := match v.safeKind n with
      | 0 => false
      | 1 => true
      | _ => (v.fld.outs.get n).pin
    State.chLevel n on (v.chOut n (fun o => { o with tpoActive := false }))) t
  u.safeRecord g true

/-- The conditions of R248 for FGn. -/
def Group.whole (o : Group) : Bool := o.linkDown && o.linkUp && o.barrierPower && o.vPresent

/-- FGn rises outside the safe state as soon as the conditions of R248 hold; its channels have yet to report (R256). -/
def State.fgRise (g : Nat) (s : State) : State :=
  if (s.fld.groups.get g).whole && !(s.fld.groups.get g).safe && s.rdy Rdy.binnacle && !s.rdy (Rdy.fg g) then
    State.updateReady [Rdy.fg g] []
      (State.each (channelsOf g) (fun n t => t.chIn n (fun c => { c with reported := false })) s)
  else s

/-- FGn clears (R248). -/
def State.fgLost (g cause : Nat) (s : State) : State :=
  let last := (s.fld.groups.get g).lastUp
  let t := s.group g (fun o => { o with linkUp := false, lossCause := cause, paramsSent := false })
  if (s.fld.groups.get g).linkUp && s.rdy Rdy.binnacle then
    State.record3 (6 + g) 4 0x0009 (le 1 cause ++ le 8 last.toNat) g (t.lower [Rdy.fg g])
  else t

/-- Group power-on (R247): the sequencer, its parameter block and the levels it holds are reset; a running module loads its parameters
at a turn boundary without a safe state (R528). -/
def State.groupPowerOn (g : Nat) (s : State) : State :=
  let t := s.group g (fun o => { o with
    safe := false, params := false, block := [], paramsSent := false, paramsPending := true, held := [], buffered := []
    linkDown := false, lossCause := 0, cut := false, copy := 0 })
  State.each (channelsOf g) (fun n u => State.chPin n
    { u with
      fld.ins := u.fld.ins.upd n (fun c => { c with role := 0, fresh := true, reported := false, wireFirst := true, wireBreak := false })
      fld.outs := u.fld.outs.upd n (fun o => { pin := o.pin, darkFail := o.darkFail, onSince := o.onSince }) }) t

/-- Without barrier power a group runs on its keep-alive supply, or not at all (R36, R247). -/
def State.groupUnpowered (g : Nat) (s : State) : State :=
  let t := s.group g (fun x => { x with barrierPower := false, lossCause := 2 })
  if (t.fld.groups.get g).vPresent then t else t.groupPowerOn g

/-- In SLEEP barrier power goes once the last group has reached its safe state (R537). -/
def State.sleepBarrier (s : State) : State :=
  if s.sup.asleep && (upTo 4).all (fun g => (s.fld.groups.get g).safe || !(s.fld.groups.get g).linkDown) then
    State.each ((upTo 4).filter (fun g => (s.fld.groups.get g).barrierPower)) State.groupUnpowered s
  else s

/-- Barrier power at step 3 of the timeline of R529. -/
def State.barrierOn (s : State) : State := State.each (upTo 4) (fun g t => t.group g (fun x => { x with barrierPower := true })) s

/-! ### Edges (R252–R255) -/

/-- Put an entry into a group's edge ring (R254). -/
def State.ringEdge (g : Nat) (e : Edge) (s : State) : State :=
  let o := s.fld.groups.get g
  let e1 := { e with seq := (o.ringSeq + 1) % 2 ^ 32 }
  if o.ring.length < 256 then s.group g (fun x => { x with ring := x.ring ++ [e1], ringSeq := e1.seq })
  else
    let gone := (o.ring.headD e1).channel
    State.chIn gone (fun c => { c with edgeLost := true, lostRing := c.lostRing + 1 })
      (s.group g (fun x => { x with ring := x.ring.drop 1 ++ [e1], ringSeq := e1.seq }))

/-- An accepted edge while the link is down: buffered, or lost (R254). -/
def State.bufferEdge (n : Nat) (e : Edge) (s : State) : State :=
  let o := s.fld.groups.get (groupOf n)
  if o.buffered.length < 64 then s.group (groupOf n) (fun x => { x with buffered := x.buffered ++ [{ e with extrapolated := true }] })
  else s.chIn n (fun c => { c with edgeLost := true, lostDown := c.lostDown + 1 })

/-- A counted rising edge (R255). -/
def ChIn.rise (c : ChIn) (x : Stamp) : ChIn :=
  { c with
    count := (c.count + 1) % 2 ^ 32
    gateN := c.gateN + 1
    gateFirst := if c.gateN = 0 then x else c.gateFirst
    edgePrev := c.edgeLast, edgeLast := some x }

/-- The accepted state of the field side; the input image takes it as an uplink frame reports it, at once while the link is up (R254). -/
def ChIn.accept (c : ChIn) (up on : Bool) (x : Stamp) : ChIn :=
  { c with
    fresh := false, state := on, stamp := x
    image := if up then on else c.image
    reported := c.reported || up }

/-- An accepted state of channel n with its stamp (R252, R254, R255). -/
def State.acceptState (n : Nat) (on : Bool) (x : Stamp) (s : State) : State :=
  let s := s.sampleFirst
  let c := s.fld.ins.get n
  let up := (s.fld.groups.get (groupOf n)).linkUp
  if c.fresh then s.chIn n (fun c => c.accept up on x)
  else if c.state = on then s
  else
    let t := s.chIn n (fun c => c.accept up on x)
    if s.fcN Fid.FC_IN_MODE n = 1 && c.role == 1 then (if on then t.chIn n (fun c => c.rise x) else t)
    else
      let e : Edge := { stamp := x, channel := n, state := on, pulsed := s.fcN Fid.FC_IN_SAMPLING n == 0 }
      if up then t.ringEdge (groupOf n) e else t.bufferEdge n e

/-- The WIREBREAK reading of a sink current in µA (R253): none keeps the previous reading. -/
def wireBand (first : Bool) (ua : Nat) : Option (Option Bool) :=
  if 2100 ≤ ua then some (some true)
  else if 350 ≤ ua ∧ ua ≤ 1600 then some (some false)
  else if ua < 250 then some none
  else if first then some none else none

/-- A WIREBREAK reading: BROKEN makes the input FAULT (R253). -/
def State.wireReading (n ua : Nat) (x : Stamp) (s₀ : State) : State :=
  let c := s₀.fld.ins.get n
  let s := s₀.chIn n (fun c => { c with wireFirst := false })
  match wireBand c.wireFirst ua with
  | none => s
  | some none =>
    if c.wireBreak then s else
    State.fieldEvent (groupOf n) 3 0x0007 (le 1 n ++ le 2 ua) n (s.chIn n (fun c => { c with wireBreak := true }))
  | some (some on) =>
    let t := if c.wireBreak then State.faultCleared n (s.chIn n (fun c => { c with wireBreak := false })) else s
    t.acceptState n (xor on (s.fcN Fid.FC_IN_INVERT n == 1)) x

/-- The one-way barrier delay of a group in grains (R246). -/
def State.delayGrains (s : State) (g : Nat) : Nat := s.grainsIn ((s.fld.groups.get g).delay * 1000)

/-- EDGE_ACCEPTED (R252, R253): channel, comparator result of the run, grains since its first sample, and for WIREBREAK the current
in µA. A run shorter than FC_IN_DEBOUNCE accepts nothing; the stamp is that of the first sample less the barrier delay. While the link is
down the sequencer's copy of the angle runs on at the rate it had (assumption 150). -/
def execEdgeAccepted (a : At) (n : Nat) (on : Bool) (ago : Nat) (current : Option Nat) (s : State) : Host.Outcome State Fault Refusal :=
  let t := s.advance a
  let x := t.now - BitVec.ofNat 64 (ago + t.delayGrains (groupOf n))
  .next (if decide (n < 32) && (t.chRole n == 1 || t.chRole n == 3) then
      (if t.fcN Fid.FC_IN_THRESH n = 2 then match current with
        | some ua => t.wireReading n ua x
        | none => t
       else if t.grainsIn (t.fcN Fid.FC_IN_DEBOUNCE n * 1000000) ≤ ago then t.acceptState n (xor on (t.fcN Fid.FC_IN_INVERT n == 1)) x
       else t)
    else t)

/-- EDGE_LOST (R254): entries overwritten since the channel's previous record. -/
def execEdgeLost (a : At) (n : Nat) (s : State) : Host.Outcome State Fault Refusal :=
  let t := s.advance a
  let c := t.fld.ins.get n
  let due := match c.lostTurn with
    | some u => decide (u + 64 ≤ t.turn)
    | none => true
  .next (if decide (0 < c.lostRing) && due && t.rdy Rdy.binnacle then
      State.record3 (6 + groupOf n) 2 0x000F (le 1 n ++ le 2 c.lostRing ++ le 1 1) n
        (t.chIn n (fun c => { c with lostRing := 0, lostTurn := some t.turn }))
    else t)

/-- A frequency from a number of periods over grains, at a turn rate in µHz (R255). -/
def edgeFreq (periods grains rate : Nat) : Word32 := F32.ofRat ((periods * grainsPerTurn * rate : Nat) : Int) (grains * 1000000)

/-- The gate of a channel that ends now (R255). -/
def State.closeGate (n : Nat) (s : State) : State :=
  let c := s.fld.ins.get n
  let rate := s.pointRate
  let (f, x) := match c.edgeLast, c.edgePrev with
    | some l, p =>
      if 2 ≤ c.gateN then (edgeFreq (c.gateN - 1) (l.toNat - c.gateFirst.toNat) rate, l)
      else match p with
        | some q => if s.olderThan l (s.fcN Fid.FC_FREQ_TIMEOUT n) then (0, s.now) else (edgeFreq 1 (l.toNat - q.toNat) rate, l)
        | none => (0, s.now)
    | none, _ => (0, s.now)
  s.sampleFirst.chIn n (fun c => { c with freq := f, freqStamp := x, gateN := 0, gateTurn := some s.turn })

/-- FREQ_GATE (R255): at a turn boundary that is a multiple of FC_FREQ_GATE, once. -/
def execFreqGate (a : At) (n : Nat) (s : State) : Host.Outcome State Fault Refusal :=
  let t := s.advance a
  .next (if decide (n < 32) && t.chRole n == 1 && t.fcN Fid.FC_IN_MODE n == 1 && t.turn % t.fcN Fid.FC_FREQ_GATE n == 0 &&
      t.grain == 0 && (t.fld.ins.get n).gateTurn != some t.turn && t.rdy (Rdy.fg (groupOf n)) then t.closeGate n else t)

/-! ### The barrier link (R245–R248, R528) -/

/-- A link-start frame (R528): a group with a parameter block enters its safe state; buffered edges lose their stamps (R254). -/
def State.linkStart (g : Nat) (s : State) : State :=
  let o := s.fld.groups.get g
  let t := State.each (channelsOf g) (fun n u => u.chIn n (fun c => { c with fresh := true }))
    (s.group g (fun x => { x with
      linkDown := true, delayTurn := none, copy := s.mer.stamp
      buffered := x.buffered.map (fun e => { e with stamp := 0 }), paramsSent := false }))
  if o.params && !o.safe then t.enterSafe g else t

/-- A valid downlink frame (R245): it carries the angle beacon and the levels, and opens the link when it is a link-start frame. -/
def State.downFrame (g seq : Nat) (start : Bool) (s : State) : State :=
  let t := if start then s.linkStart g else s
  (t.group g (fun o => { o with linkDown := true, downSeq := seq, copy := s.mer.stamp })).fgRise g

/-- Edges buffered while the link was down enter the ring, and the losses are recorded (R254). -/
def State.deliverEdges (g : Nat) (s : State) : State :=
  let o := s.fld.groups.get g
  let t := State.each o.buffered (fun e u => u.ringEdge g e) (s.group g (fun x => { x with buffered := [] }))
  State.each ((channelsOf g).filter (fun n => decide (0 < (t.fld.ins.get n).lostDown))) (fun n u =>
    State.record3 (6 + g) 2 0x000F (le 1 n ++ le 2 (u.fld.ins.get n).lostDown ++ le 1 2) n
      (u.chIn n (fun c => { c with lostDown := 0 }))) t

/-- The link returns after a time in which the logic side was down (R616): BARRIER_LOST with the cause the group reports, then the events
it held. A group that had no link since its power-on reports nothing. -/
def State.reportHeld (g : Nat) (s : State) : State :=
  let o := s.fld.groups.get g
  let t := s.group g (fun x => { x with held := [], logicDown := false, lossCause := 0 })
  if !o.logicDown || o.lossCause = 0 then t else
  State.each o.held (fun e u => u.record3 (6 + g) e.severity e.code e.payload e.target)
    (t.record3 (6 + g) 4 0x0009 (le 1 o.lossCause ++ le 8 o.lastUp.toNat) g)

/-- A valid uplink frame (R245, R254): the input image takes the accepted states as of now; what the link's return brings comes with
it. The frame with which FGn rises is the first report since it rose (assumption 150). -/
def State.upFrame (g seq vfield : Nat) (currents : List Nat) (s : State) : State :=
  let back := !(s.fld.groups.get g).linkUp
  let s := s.sampleFirst
  let t := if back then (s.reportHeld g).deliverEdges g else s
  let t1 := t.group g (fun o => { o with linkUp := true, upSeq := seq, lastUp := t.now, vfield := vfield })
  let t2 := State.each ((channelsOf g).zip currents) (fun x u => u.chOut x.1 (fun o => { o with current := x.2 })) t1
  State.each (channelsOf g) (fun n u =>
    u.chIn n (fun c => if c.fresh then c else { c with image := c.state, reported := true })) (t2.fgRise g)

/-- BARRIER_FRAME (R245): group, direction, link-start, CRC, sequence number and what an uplink frame measures. -/
def execBarrierFrame (a : At) (g : Nat) (up start crcOk : Bool) (seq vfield : Nat) (currents : List Nat) (s : State) :
    Host.Outcome State Fault Refusal :=
  let t := s.advance a
  let o := t.fld.groups.get g
  let valid := decide (g < 4) && crcOk && o.barrierPower && (start || newer 16 seq (if up then o.upSeq else o.downSeq))
  .next (if valid && t.rdy Rdy.binnacle then (if up then t.upFrame g seq vfield currents else t.downFrame g seq start) else t)

/-- UPLINK_TIMEOUT (R248). -/
def execUplinkTimeout (a : At) (g : Nat) (s : State) : Host.Outcome State Fault Refusal :=
  let t := s.advance a
  .next (if (t.fld.groups.get g).linkUp then t.fgLost g 1 else t)

/-- BARRIER_TIMEOUT (R265). -/
def execBarrierTimeout (a : At) (g : Nat) (s : State) : Host.Outcome State Fault Refusal :=
  let t := s.advance a
  let o := t.fld.groups.get g
  .next (if o.linkDown then
      let u := t.group g (fun x => { x with linkDown := false, paramsSent := false })
      (if o.safe then u else u.enterSafe g).sleepBarrier
    else t)

/-- BARRIER_POWER_CHANGE (R247, R248). -/
def execBarrierPowerChange (a : At) (g : Nat) (on : Bool) (s : State) : Host.Outcome State Fault Refusal :=
  let t := s.advance a
  let o := t.fld.groups.get g
  .next (if decide (4 ≤ g) || !t.powered || t.sup.asleep then t
    else if on then t.group g (fun x => { x with barrierPower := true })
    else if o.barrierPower then (t.fgLost g 2).groupUnpowered g else t)

/-- VFIELD_CHANGE (R247): the supply in 0.01 V. -/
def execVfieldChange (a : At) (g v : Nat) (s : State) : Host.Outcome State Fault Refusal :=
  let t := s.advance a
  let o := t.fld.groups.get g
  let present := if o.vPresent then decide (1200 ≤ v) else decide (1400 < v)
  let u := t.group g (fun x => { x with vfield := v, vPresent := present })
  .next (if present = o.vPresent then u
    else if present then ((u.vfieldRecord g 0).groupPins g).fgRise g
    else
      let w := (u.vfieldRecord g 2).groupPins g
      let w1 := if w.rdy (Rdy.fg g) then w.lower [Rdy.fg g] else w
      if o.barrierPower then w1 else w1.groupPowerOn g)

/-- VFIELD_UV (R267): below FG_VFIELD_UV for 1 ms, or 1.0 V above it again. -/
def execVfieldUv (a : At) (g v : Nat) (s : State) : Host.Outcome State Fault Refusal :=
  let t := s.advance a
  let o := t.fld.groups.get g
  let lim := 10 * t.fgN Fid.FG_VFIELD_UV g
  let u := t.group g (fun x => { x with vfield := v })
  .next (if v < lim ∧ ¬ o.uv then State.vfieldRecord g 1 (u.group g (fun x => { x with uv := true }))
    else if lim + 100 ≤ v ∧ o.uv then State.vfieldRecord g 0 (u.group g (fun x => { x with uv := false }))
    else u)

/-! ### Parameters and RESUME (R266) -/

/-- The fields of a group as the configuration gives them: its parameter block (R266). -/
def Cfg.blockOf (c : Cfg) (g : Nat) : Tbl (Option Word32) :=
  c.values.filter (fun p => p.1 / 65536 / 256 == 2 &&
    (if p.1 / 65536 < Fid.FG_BARRIER_TIMEOUT then p.1 % 65536 / 8 == g else p.1 % 65536 == g))

/-- A channel takes the block: `old` stands before it. A new role clears its latch, its accepted state and its owner's history; a new
mode its accepted state (R254); a new threshold lets WIREBREAK begin anew (R253). The bits of faults that are no longer looked for clear
(R267). -/
def State.takeBlock (old : State) (n : Nat) (s : State) : State :=
  let role := s.fcN Fid.FC_ROLE n
  let was := (s.fld.ins.get n).role
  let moved := role != was
  let mode := old.fcN Fid.FC_IN_MODE n != s.fcN Fid.FC_IN_MODE n
  let thresh := old.fcN Fid.FC_IN_THRESH n != s.fcN Fid.FC_IN_THRESH n
  let openOff := !(decide (2 ≤ role) && s.fcN Fid.FC_OPEN_LOAD n != 0)
  State.chPin n { s with
    fld.ins := s.fld.ins.upd n (fun c => { c with
      role := role
      fresh := c.fresh || moved || mode
      reported := c.reported && !moved
      wireFirst := c.wireFirst || moved || thresh
      wireBreak := c.wireBreak && !moved && !thresh })
    fld.outs := s.fld.outs.upd n (fun o =>
      if moved then { pin := o.pin, current := o.current, onSince := o.onSince, darkFail := o.darkFail }
      else { o with openLoad := o.openLoad && !openOff }) }

/-- The conditions under which a parameter block is applied (R266): at a turn boundary, with frames in both directions. -/
def State.blockDue (g : Nat) (s : State) : Bool :=
  let o := s.fld.groups.get g
  decide (g < 4) && o.linkDown && o.linkUp && s.grain == 0 && s.rdy Rdy.config && s.rdy Rdy.binnacle && (o.paramsPending || o.safe)

/-- PARAMETER_BLOCK_APPLIED (R266): once the block's CRC has checked. -/
def execParameterBlockApplied (a : At) (g : Nat) (crcOk : Bool) (s : State) : Host.Outcome State Fault Refusal :=
  let t := s.advance a
  .next (if crcOk && t.blockDue g then
      State.each (channelsOf g) (State.takeBlock t)
        (t.group g (fun x => { x with params := true, block := t.cfg.blockOf g, paramsSent := true, paramsPending := false }))
    else t)

/-- RESUME (R266): at a turn boundary. FGn rises with it. -/
def execResume (a : At) (g : Nat) (s : State) : Host.Outcome State Fault Refusal :=
  let t := s.advance a
  let o := t.fld.groups.get g
  .next (if o.safe && o.whole && o.paramsSent && t.grain == 0 && t.rdy Rdy.binnacle then
      ((t.group g (fun x => { x with safe := false })).safeRecord g false).fgRise g
    else t)

/-- BARRIER_DELAY_MEASUREMENT (R246): when the link starts and every 64 turns after that; the one-way delay in ns lies between 600 and
900. -/
def execBarrierDelayMeasurement (a : At) (g ns : Nat) (s : State) : Host.Outcome State Fault Refusal :=
  let t := s.advance a
  let o := t.fld.groups.get g
  .next (if o.linkUp && o.linkDown && o.delayTurn.all (fun n => decide (n + 64 ≤ t.turn)) && decide (600 ≤ ns) && decide (ns ≤ 900) then
      t.group g (fun x => { x with delay := ns, delayTurn := some t.turn })
    else t)

/-! ### Levels (R258, R259) -/

/-- Level of a value in percent by ONOFF (R258): none leaves the level. -/
def State.onOffLevel (s : State) (n : Nat) (v : Word32) : Option Bool :=
  if !F32.isFin v then some false
  else if F32.cmpQ v (s.fcN Fid.FC_OUT_ON_LEVEL n) 100 != .lt then some true
  else if F32.cmpQ v (s.fcN Fid.FC_OUT_OFF_LEVEL n) 100 == .lt then some false else none

/-- Level of a channel that no owner claims (R258). -/
def State.unclaimed (s : State) (n : Nat) : Bool :=
  let o := s.fld.outs.get n
  match s.safeKind n with
  | 0 => false
  | 1 => true
  | _ => o.hadOwner && o.holdLevel

/-- Level of an owner's value: TPO is its own affair (R259). -/
def State.valueLevel (s : State) (n : Nat) (v : Word32) : Bool :=
  let o := s.fld.outs.get n
  if s.fcN Fid.FC_OUT_DRIVE n = 1 then o.tpoActive && o.level
  else (s.onOffLevel n v).getD o.level

/-- The level that a FIELD_APPLY sends to channel n (R258). -/
def State.levelOf (s : State) (n : Nat) : Bool :=
  match s.chDriver n with
  | .nobody => s.unclaimed n
  | .hold => false
  | .safe => (s.fld.outs.get n).level
  | .guard on => on
  | .test v => v != 0
  | .force v => v != 0
  | .point v => F32.le fifty v
  | .loop _ v => s.valueLevel n v
  | .zone _ v => s.valueLevel n v

/-- A FIELD_APPLY on channel n: a lost owner leaves the level to hold, and a driving owner ends TPO. -/
def State.chApply (n : Nat) (s : State) : State :=
  if !s.chIsOut n then s else
  let rank := (s.chDriver n).rank
  let lost := (s.fld.owns.get n).lastOwner != 0 && rank == 0
  let t := { s with
    fld.outs := s.fld.outs.upd n (fun o => { o with
      holdLevel := if lost then o.level else o.holdLevel
      hadOwner := o.hadOwner || rank != 0
      tpoActive := o.tpoActive && decide (4 ≤ rank) })
    fld.owns := s.fld.owns.upd n (fun o => { o with lastOwner := rank }) }
  t.chLevel n (t.levelOf n)

/-- A FIELD_APPLY slot with its group mask (R258): groups in service only. -/
def State.fieldApply (mask : Nat) (s : State) : State :=
  State.each ((upTo 4).filter (fun g => bitOf mask g && s.rdy (Rdy.fg g) && !(s.fld.groups.get g).safe && s.rdy Rdy.config))
    (fun g t => State.each (channelsOf g) State.chApply t) s

/-- The value a zone or a fast loop drives on a channel. -/
def Driver.value : Driver → Option Word32
  | .loop _ v => some v
  | .zone _ v => some v
  | _ => none

/-- A TPO period starts on a channel (R259). -/
def State.tpoStart (n : Nat) (v : Word32) (s : State) : State :=
  let period := s.fcN Fid.FC_TPO_PERIOD n * grainsPerTurn
  let least := s.fcN Fid.FC_TPO_MIN n * grainsPerTurn
  let on := driveTimes v period
  let on' := if on < least then 0 else if period - on < least then period else on
  State.chLevel n (decide (0 < on'))
    (s.chOut n (fun o => { o with tpoActive := true, duty := drivePercent v, onTime := on', tpoStart := s.now }))

/-- TPO periods that start at this floor apply angle: the first of the turn (R259). -/
def State.tpoStarts (s : State) : State :=
  if 524288 ≤ s.grain then s else
  State.each ((upTo 32).filter (fun n => s.chIsOut n && s.fcN Fid.FC_OUT_DRIVE n == 1 && s.rdy (Rdy.fg (groupOf n)) &&
      !(s.fld.groups.get (groupOf n)).safe && s.turn % s.fcN Fid.FC_TPO_PERIOD n == 0))
    (fun n t => match (t.chDriver n).value with
      | some v => t.tpoStart n v
      | none => t) s

/-- TPO_OFF_EDGE (R259): the on time has ended. -/
def execTpoOffEdge (a : At) (n : Nat) (s : State) : Host.Outcome State Fault Refusal :=
  let t := s.advance a
  let o := t.fld.outs.get n
  .next (if o.tpoActive && o.level && decide (o.onTime < t.fcN Fid.FC_TPO_PERIOD n * grainsPerTurn) &&
      decide (o.tpoStart.toNat + o.onTime ≤ t.mer.stamp.toNat) then t.chLevel n false else t)

/-! ### Protections (R261) -/

/-- A trip (R261): after FC_RETRY retries of one series the channel latches. -/
def State.trip (n : Nat) (f : ChOut → ChOut) (s : State) : State :=
  let latch := decide (s.fcN Fid.FC_RETRY n ≤ (s.fld.outs.get n).retries)
  State.chPin n (s.chOut n (fun o => { f o with tripped := true, tripAt := s.mer.stamp, latched := o.latched || latch }))

/-- Record of an overload or a thermal trip. -/
def State.tripRecord (n code : Nat) (s : State) : State :=
  let o := s.fld.outs.get n
  s.fieldEvent (groupOf n) 3 code (le 1 n ++ le 1 o.retries ++ le 1 (bit o.latched)) n

/-- OVERLOAD (R261). -/
def execOverload (a : At) (n : Nat) (s : State) : Host.Outcome State Fault Refusal :=
  let t := s.advance a
  .next (if t.chCmd n then (t.trip n (fun o => { o with overload := true })).tripRecord n 0x0001 else t)

/-- THERMAL (R261). -/
def execThermal (a : At) (n : Nat) (s : State) : Host.Outcome State Fault Refusal :=
  let t := s.advance a
  .next (if t.chCmd n then (t.trip n (fun o => { o with thermal := true })).tripRecord n 0x0002 else t)

/-- The ON channel of a group with the largest current. -/
def State.largest (s : State) (g : Nat) : Option Nat :=
  ((channelsOf g).filter s.chCmd).foldl (fun best n => match best with
    | none => some n
    | some b => if (s.fld.outs.get b).current < (s.fld.outs.get n).current then some n else some b) none

/-- GROUP_OVERLOAD (R261): the group's current in mA has stayed above FG_GROUP_LIMIT for 5 ms. -/
def execGroupOverload (a : At) (g current : Nat) (s : State) : Host.Outcome State Fault Refusal :=
  let t := s.advance a
  .next (if t.fgN Fid.FG_GROUP_LIMIT g < current then
      match t.largest g with
      | some n => State.fieldEvent g 3 0x000C (le 1 n ++ le 2 current) n (t.trip n (fun o => { o with groupOverload := true }))
      | none => t
    else t)

/-- Turns have passed since a stamp, counted on the sequencer's copy of the angle while the logic side is down (assumption 78). -/
def State.turnsPassed (s : State) (x : Stamp) (n : Nat) : Bool :=
  !s.rdy Rdy.meridian || decide (x.toNat + n * grainsPerTurn ≤ s.mer.stamp.toNat)

/-- A channel's level is applied again after a trip: the bits of the trip clear. -/
def ChOut.retried (o : ChOut) : ChOut :=
  { o with tripped := false, retries := o.retries + 1, overload := false, thermal := false, groupOverload := false }

/-- A retry (R261); while the logic side is down the sequencer holds it as an event (R616). -/
def State.retry (n : Nat) (s : State) : State :=
  let o := s.fld.outs.get n
  let t := State.chPin n (s.chOut n ChOut.retried)
  if (s.fld.groups.get (groupOf n)).logicDown || !s.rdy Rdy.binnacle then
    t.fieldEvent (groupOf n) 3 (if o.thermal then 0x0002 else 0x0001) (le 1 n ++ le 1 (o.retries + 1) ++ le 1 0) n
  else t

/-- TRIP_RETRY (R261): at the first turn boundary at least FC_RETRY_DELAY turns after the trip; a thermal trip also needs the channel
cooled by 15 °C. -/
def execTripRetry (a : At) (n : Nat) (cooled : Bool) (s : State) : Host.Outcome State Fault Refusal :=
  let t := s.advance a
  let o := t.fld.outs.get n
  .next (if o.tripped && !o.latched && (!o.thermal || cooled) && t.grain == 0 && t.turnsPassed o.tripAt (t.fcN Fid.FC_RETRY_DELAY n) then
      t.retry n
    else t)

/-- RETRY_SERIES_END (R261): ON for FC_RETRY_DELAY turns without a trip. -/
def execRetrySeriesEnd (a : At) (n : Nat) (s : State) : Host.Outcome State Fault Refusal :=
  let t := s.advance a
  let o := t.fld.outs.get n
  .next (if decide (0 < o.retries) && o.pin && !o.tripped && t.turnsPassed o.onSince (t.fcN Fid.FC_RETRY_DELAY n) then
      t.chOut n (fun o => { o with retries := 0 })
    else t)

/-! ### Diagnostics (R262, R263, R267) -/

/-- A condition of a channel that sets or clears with its record. -/
def State.chCondition (n sev code : Nat) (payload : List Byte) (was is : Bool) (f : ChOut → ChOut) (s : State) : State :=
  if was = is then s
  else if is then (s.chOut n f).fieldEvent (groupOf n) sev code payload n
  else (s.chOut n f).faultCleared n

/-- What open-load detection finds (R262): in the ON state from the load current in mA, in the OFF state from the pin voltage in mV; none
while neither condition holds. -/
def State.openFinding (s : State) (n level : Nat) (on : Bool) : Option Bool :=
  if on then some (decide (level < s.fcN Fid.FC_OPEN_I n))
  else if level < 3000 then some false
  else if level ≤ 8000 then some true else none

/-- OPEN_LOAD (R262): `level` is what has stood for 10 ms, the load current in mA while the level is ON, else the pin voltage in mV. -/
def execOpenLoad (a : At) (n level : Nat) (s : State) : Host.Outcome State Fault Refusal :=
  let t := s.advance a
  let on := t.chCmd n
  let enabled := if on then bitOf (t.fcN Fid.FC_OPEN_LOAD n) 0
    else bitOf (t.fcN Fid.FC_OPEN_LOAD n) 1 && t.chRole n == 3 && !(t.peerHolds && t.shared n)
  .next (match t.openFinding n level on with
    | some holds =>
      if enabled && t.chIsOut n then
        t.chCondition n 2 0x0006 (le 1 n ++ le 1 (bit (!on))) (t.fld.outs.get n).openLoad holds (fun o => { o with openLoad := holds })
      else t
    | none => t)

/-- BACKFEED (R267, R268): an OFF output reads ON with little switch current. A shared channel of the standby reports PEER_DRIVE. The
bit clears when the detection no longer holds. -/
def execBackfeed (a : At) (n : Nat) (holds : Bool) (s : State) : Host.Outcome State Fault Refusal :=
  let t := s.advance a
  let o := t.fld.outs.get n
  .next (if !holds || (t.chRole n == 3 && !t.chCmd n) then
      (if t.peerHolds && t.shared n then t.chOut n (fun o => { o with peerDrive := holds })
       else t.chCondition n 3 0x0003 (le 1 n ++ le 1 (bit o.peerDrive) ++ le 1 (t.fcN Fid.FC_SHARED n)) o.backfeed holds
        (fun o => { o with backfeed := holds }))
    else t)

/-- A switch found stuck on: the group disconnect opens with FG_CUT (R267). -/
def State.stuckFound (n current : Nat) (s : State) : State :=
  let g := groupOf n
  let t := State.fieldEvent g 4 0x0004 (le 1 n ++ le 2 current) n (s.chOut n (fun o => { o with stuckOn := true }))
  if t.fgN Fid.FG_CUT g = 1 && !(t.fld.groups.get g).cut then
    State.fieldEvent g 4 0x000D (le 1 1) g (State.groupPins g (t.group g (fun o => { o with cut := true })))
  else t

/-- STUCK_ON (R267): an OFF switch carries 20 mA or more, or no longer does. -/
def execStuckOn (a : At) (n current : Nat) (s : State) : Host.Outcome State Fault Refusal :=
  let t := s.advance a
  let o := t.fld.outs.get n
  .next (if decide (20 ≤ current) && !t.chCmd n && t.chIsOut n && !o.stuckOn then t.stuckFound n current
    else if decide (current < 20) && o.stuckOn then t.chCondition n 4 0x0004 [] true false (fun o => { o with stuckOn := false })
    else t)

/-- SWITCH_FAIL (R267): an ON output reads OFF. -/
def execSwitchFail (a : At) (n : Nat) (holds : Bool) (s : State) : Host.Outcome State Fault Refusal :=
  let t := s.advance a
  let o := t.fld.outs.get n
  .next (if !holds || (t.chRole n == 3 && t.chCmd n) then
      t.chCondition n 3 0x0005 (le 1 n) o.switchFail holds (fun o => { o with switchFail := holds })
    else t)

/-- A TPO edge of channel n within 1 ms of a pulse of FC_DARK_WIDTH that starts now (R263). -/
def State.nearEdge (s : State) (n : Nat) : Bool :=
  let o := s.fld.outs.get n
  let ms := s.grainsIn 1000000000
  let near := fun (edge : Nat) => decide (edge ≤ s.mer.stamp.toNat + s.grainsIn (s.fcN Fid.FC_DARK_WIDTH n * 1000000) + ms) &&
    decide (s.mer.stamp.toNat ≤ edge + ms)
  o.tpoActive && (near (o.tpoStart.toNat + o.onTime) || near o.tpoStart.toNat ||
    near (o.tpoStart.toNat + s.fcN Fid.FC_TPO_PERIOD n * grainsPerTurn))

/-- Shared channels with a dark pulse due within the next half turn, which the frame of an active module announces (R268, R495). -/
def State.darkAnnounced (s : State) : List Nat :=
  let turn := if s.grain < 262144 then s.turn else s.turn + 1
  if grainsPerTurn / 2 < turn * grainsPerTurn + 262144 - s.mer.stamp.toNat then [] else
  (upTo 32).filter (fun n =>
    let period := s.fcN Fid.FC_DARK_PERIOD n
    s.shared n && s.fcN Fid.FC_DARK n == 1 && s.chRole n == 3 && turn % period == 8 * n % period)

/-- A dark pulse of channel n is due and may run (R263); on a shared channel only on the active module (R268). -/
def State.darkDue (s : State) (n : Nat) : Bool :=
  let period := s.fcN Fid.FC_DARK_PERIOD n
  s.fcN Fid.FC_DARK n == 1 && s.chRole n == 3 && s.turn % period == 8 * n % period && s.grain == 262144 && (s.fld.outs.get n).pin &&
    decide ((s.fld.owns.get n).changedAt.toNat + grainsPerTurn ≤ s.turn * grainsPerTurn) && !s.nearEdge n &&
    (s.chDriver n).rank != 3 && !(s.fld.groups.get (groupOf n)).safe && !(s.peerHolds && s.shared n)

/-- DARK_PULSE (R263): whether the pin read OFF before the pulse ended, and the load current in mA. -/
def execDarkPulse (a : At) (n : Nat) (readOff : Bool) (current : Nat) (s : State) : Host.Outcome State Fault Refusal :=
  let t := s.advance a
  .next (if decide (n < 32) && t.darkDue n then
      if readOff then t else
      let u := State.fieldEvent (groupOf n) 3 0x000B (le 1 n ++ le 2 current) n (t.chOut n (fun o => { o with darkFail := true }))
      if 20 ≤ current then u.stuckFound n current else u
    else t)

/-! ### Operations (R271–R273) -/

/-- The status word of a channel (R271). -/
def State.chStatus (s : State) (n : Nat) : Nat :=
  let o := s.fld.outs.get n
  let c := s.fld.ins.get n
  let g := s.fld.groups.get (groupOf n)
  let forced := match s.chDriver n with
    | .force _ => true
    | .point _ => true
    | _ => false
  2 ^ 30 * s.chRole n + 2 ^ 29 * bit g.safe + 2 ^ 28 * bit forced + 2 ^ 27 * bit o.latched + 2 ^ 26 * bit c.image +
    2 ^ 25 * bit (s.chCmd n) + 2 ^ 24 * bit o.overload + 2 ^ 23 * bit o.thermal + 2 ^ 22 * bit o.groupOverload +
    2 ^ 21 * bit o.backfeed + 2 ^ 20 * bit o.stuckOn + 2 ^ 19 * bit o.switchFail + 2 ^ 18 * bit o.openLoad +
    2 ^ 17 * bit c.wireBreak + 2 ^ 16 * bit g.uv + 2 ^ 15 * bit o.peerDrive + 2 ^ 14 * bit o.peerDisagree +
    2 ^ 13 * bit o.darkFail + 2 ^ 12 * bit c.edgeLost + 2 ^ 8 * (o.retries % 16)

/-- The status word of a group (R272). -/
def State.groupStatus (s : State) (g : Nat) : Nat :=
  let o := s.fld.groups.get g
  2 ^ 31 * bit o.vPresent + 2 ^ 30 * bit o.barrierPower + 2 ^ 29 * bit (o.linkDown && o.linkUp) + 2 ^ 28 * bit o.safe +
    2 ^ 27 * bit o.cut + 2 ^ 26 * bit o.uv + o.vfield % 65536

/-- A TARGET that names a channel of the group of its FUNCTION (R273). -/
def chTarget (r : Req) : Bool := decide (r.target < 32) && r.fn == 6 + groupOf r.target

/-- FC_READ (R273): the read clears DARK_FAIL and EDGE_LOST. -/
def opFcRead : OpDef :=
  { cls := 1, opcode := 0x0028, fns := [6, 7, 8, 9]
    len := fun n => n == 0
    content := fun _ r => chTarget r
    off := fun s r => s.chRole r.target == 0
    ready := fun s _ => s.rdy Rdy.services
    body := fun r s =>
      let n := r.target
      let c := s.fld.ins.get n
      let freq := if s.fcN Fid.FC_IN_MODE n = 1 then c.freq else F32.nan
      State.ok (State.chIn n (fun c => { c with edgeLost := false }) (s.chOut n (fun o => { o with darkFail := false })))
        (le 8 (s.fld.groups.get (groupOf n)).lastUp.toNat ++ le 1 (bit c.image) ++ le 3 0 ++ le 4 (s.chStatus n) ++
          le 4 (s.groupStatus (groupOf n)) ++ le 4 freq.toNat ++ le 4 c.count ++ le 2 (s.fld.outs.get n).current ++ le 2 0) }

/-- FC_READ (R273). -/
def execFcRead (a : At) (r : Req) (s : State) : Host.Outcome State Fault Refusal := .next (serve opFcRead r (s.advance a))

/-- The 16 bytes of an edge-ring entry (R273). -/
def Edge.bytes (e : Edge) : List Byte :=
  le 8 e.stamp.toNat ++ le 4 e.seq ++ le 1 e.channel ++ le 1 (bit e.state) ++ le 1 (bit e.extrapolated + 2 * bit e.pulsed) ++ le 1 0

/-- FC_EDGE_READ (R273). -/
def opFcEdgeRead : OpDef :=
  { cls := 1, opcode := 0x0029, fns := [6, 7, 8, 9]
    len := fun n => n == 8
    content := fun _ r => decide (r.target < 32) && r.target % 8 == 0 && r.fn == 6 + r.target / 8 &&
      decide (1 ≤ fieldAt r.payload 4 2 ∧ fieldAt r.payload 4 2 ≤ 250) && allZero (r.payload.drop 6)
    ready := fun s _ => s.rdy Rdy.services
    body := fun r s =>
      let o := s.fld.groups.get (r.target / 8)
      let from_ := fieldAt r.payload 0 4
      let oldest := match o.ring with
        | e :: _ => e.seq
        | [] => (o.ringSeq + 1) % 2 ^ 32
      let got := (o.ring.filter (fun e => e.seq == from_ || newer 32 e.seq from_)).take (fieldAt r.payload 4 2)
      let next := match got.getLast? with
        | some e => (e.seq + 1) % 2 ^ 32
        | none => (o.ringSeq + 1) % 2 ^ 32
      let lost := if newer 32 oldest (max 1 from_) then (oldest + 2 ^ 32 - max 1 from_) % 2 ^ 32 else 0
      s.ok (le 4 next ++ le 4 lost ++ le 2 got.length ++ le 6 0 ++ got.flatMap Edge.bytes) }

/-- FC_EDGE_READ (R273). -/
def execFcEdgeRead (a : At) (r : Req) (s : State) : Host.Outcome State Fault Refusal := .next (serve opFcEdgeRead r (s.advance a))

/-- FC_FORCE (R273): OFF is held as 0, ON as 10 000 (100.00 %). -/
def opFcForce : OpDef :=
  { cls := 2, opcode := 0x0030, fns := [6, 7, 8, 9]
    len := fun n => n == 8
    content := fun s r => chTarget r && decide (fieldAt r.payload 0 1 ≤ 2) && allZero ((r.payload.drop 1).take 3) &&
      s.chIsOut r.target
    expert := fun _ _ => true
    holds := true
    body := fun r s => s.askForce Dest.field r.target (fieldAt r.payload 0 1 == 0) (if fieldAt r.payload 0 1 = 2 then 10000 else 0)
      (fieldAt r.payload 4 4) }

/-- FC_FORCE (R273). -/
def execFcForce (a : At) (r : Req) (s : State) : Host.Outcome State Fault Refusal := .next (serve opFcForce r (s.advance a))

/-- A channel without its latch and its retry series. One that was switched off stays OFF until its owner next drives it; one that is
ON goes on. -/
def ChOut.cleared (o : ChOut) : ChOut :=
  let off := o.tripped || o.latched
  { o with
    latched := false, tripped := false, retries := 0, overload := false, thermal := false, groupOverload := false
    level := o.level && !off, tpoActive := o.tpoActive && !off }

/-- A channel that FC_CLEAR has something to clear on. -/
def ChOut.clearable (o : ChOut) : Bool := o.latched || o.tripped || o.retries != 0

/-- Clear LATCHED and the retry series of a channel (R273). -/
def State.clearLatch (n : Nat) (s : State) : State :=
  if (s.fld.outs.get n).clearable then State.chPin n (s.chOut n ChOut.cleared) else s

/-- Close the group disconnect (R273). -/
def State.clearCut (g : Nat) (s : State) : State :=
  if !(s.fld.groups.get g).cut then s else
  State.fieldEvent g 4 0x000D (le 1 0) g
    (State.each (channelsOf g) (fun n u => State.chPin n (u.chOut n (fun o => { o with level := false, tpoActive := false, stuckOn := false })))
      (s.group g (fun o => { o with cut := false })))

/-- FC_CLEAR of a channel, with its record. -/
def State.clearChannel (n : Nat) (s : State) : State :=
  if (s.fld.outs.get n).clearable then (s.clearLatch n).faultCleared n else s

/-- FC_CLEAR of a group, with its records: FAULT_CLEARED names the group as FFh. -/
def State.clearGroup (g : Nat) (s : State) : State :=
  let any := (s.fld.groups.get g).cut || (channelsOf g).any (fun n => (s.fld.outs.get n).clearable)
  let t := State.each (channelsOf g) State.clearLatch (s.clearCut g)
  if any then t.fieldEvent g 1 0x000E (le 1 0xFF) g else t

/-- FC_CLEAR (R273). -/
def opFcClear : OpDef :=
  { cls := 5, opcode := 0x0041, fns := [6, 7, 8, 9], fallback := true
    len := fun n => n == 4
    content := fun _ r => chTarget r && decide (fieldAt r.payload 0 1 ≤ 1) && allZero (r.payload.drop 1)
    expert := fun _ _ => true
    holds := true
    body := fun r s =>
      State.ok (if fieldAt r.payload 0 1 = 0 then s.clearChannel r.target else s.clearGroup (groupOf r.target)) }

/-- FC_CLEAR (R273). -/
def execFcClear (a : At) (r : Req) (s : State) : Host.Outcome State Fault Refusal := .next (serve opFcClear r (s.advance a))

end Sys2Proof.Machine
end

