-- ==== Sys2Proof/Machine/UInputs.lean ====
section
/-! DEFINITION. Machine/UInputs.lean: the universal inputs and their ADC cores (R220–R235, R243, R244). -/

namespace Sys2Proof.Machine

/-! ### The schedule (R222–R226) -/

/-- P_c of R222. -/
def calPhase : Nat → Nat
  | 0 => 48
  | 1 => 0
  | 2 => 16
  | _ => 32

/-- cal_c(n) of R222: calibration turns of core `c` in the turns 0 … `n`. -/
def calCount (c n : Nat) : Nat := (n + 64 - calPhase c) / 64

/-- What core `c` integrates in turn `n` by the rotation: 0–3 an input, 4 zero, 5 gain (R222, R226). -/
def calWhat (c n : Nat) : Nat :=
  if n % 64 = calPhase c then (if calCount c n % 2 = 0 then 4 else 5) else (n - calCount c n) % 4

/-- Change a core. -/
def State.core (c : Nat) (f : AdcCore → AdcCore) (s : State) : State := { s with inp.cores := s.inp.cores.upd c f }

/-- Change an input. -/
def State.uiIn (n : Nat) (f : Ui → Ui) (s : State) : State := { s with inp.ui := s.inp.ui.upd n f }

/-- The selector of a core for a turn: start calibration (R233), an on-demand calibration (R228), else the rotation. -/
def AdcCore.selects (o : AdcCore) (uiReady : Bool) (c n : Nat) : Nat :=
  if !uiReady && !o.startZero then 4
  else if !uiReady && !o.startGain then 5
  else if 0 < o.demand then (if o.demand % 2 = 0 then 6 else 7)
  else calWhat c n

/-- An ADC slot fires: the core starts the integration of this turn (R224); the shunt of its input is connected again (R232). -/
def State.adcStart (c : Nat) (s : State) : State :=
  let o := s.inp.cores.get c
  let what := o.selects (s.rdy Rdy.ui) c s.turn
  State.core c (fun o => { o with
    cur := some { what := what, turn := s.turn, capture := s.mer.state == .capture, offLock := s.mer.state != .locked }
    startZero := o.startZero || !s.rdy Rdy.ui
    startGain := o.startGain || (!s.rdy Rdy.ui && o.startZero)
    demand := if what = 6 ∨ what = 7 then o.demand - 1 else o.demand })
    (if what < 4 then s.uiIn (4 * c + what) (fun u => { u with shuntOff := false }) else s)

/-- The integrations end with their turn; `s` still stands as before the boundary (R225). -/
def State.adcBoundary (s : State) : State :=
  let off := s.mer.state != .locked
  { s with inp.cores := s.inp.cores.updAll (upTo 4) (fun c o =>
      { o with cur := none, ended := o.cur.map (fun x => { x with
          offLock := x.offLock || off, shuntOff := decide (x.what < 4) && (s.inp.ui.get (4 * c + x.what)).shuntOff }) }) }

/-- START_CALIBRATION (R233): UI rises when every core has had its zero and its gain turn. -/
def execStartCalibration (a : At) (s : State) : Host.Outcome State Fault Refusal :=
  let t := s.advance a
  .next (if t.rdy Rdy.meridian && !t.rdy Rdy.ui && (upTo 4).all (fun c =>
      let o := t.inp.cores.get c
      o.startZero && o.startGain && o.cur.all (fun x => x.what != 5 || decide (x.turn < t.turn))) then
      t.updateReady [Rdy.ui] []
    else t)

/-! ### From measurement to value (R229–R231) -/

/-- Resistive types. -/
def uiResistive (typ : Nat) : Bool := [1, 2, 3, 4, 7, 8].contains typ

/-- Temperature types, whose value UI_READ also gives in 0.01 °C. -/
def uiThermal (typ : Nat) : Bool := [1, 2, 3, 4].contains typ

/-- R_NOM and β in force, with the type's defaults (R230). -/
def Ui.rNom (u : Ui) : Nat := if u.nominal = 0 then (if u.typ = 2 then 20000 else 10000) else u.nominal
def Ui.betaNow (u : Ui) : Nat := if u.beta = 0 then (if u.typ = 2 then 4260 else 3950) else u.beta

/-- The NTC curve (R230). -/
def Ui.ntc (u : Ui) (p : Word32) : Word32 :=
  let l := F32.ln (F32.div p (F32.ofNat u.rNom))
  let inv := F32.add (F32.div F32.one (F32.ofRat 29815 100)) (F32.div l (F32.ofNat u.betaNow))
  F32.sub (F32.div F32.one inv) (F32.ofRat 27315 100)

/-- A polynomial by Horner's rule, lowest coefficient first. -/
def poly (cs : List Word32) (t : Word32) : Word32 := cs.foldr (fun c acc => F32.add c (F32.mul acc t)) 0

/-- `n` Newton steps on a curve and its derivative, both in Ω. -/
def newton (f d : List Word32) (p : Word32) : Nat → Word32 → Word32
  | 0, t => t
  | n + 1, t => newton f d p n (F32.sub t (F32.div (F32.sub (poly f t) p) (poly d t)))

/-- Coefficients of IEC 60751 in Ω, below 0 °C with C · (t − 100) · t³ written out (R230). -/
def ptCurve : List Word32 :=
  [F32.ofNat 1000, F32.ofRat 39083 10000, F32.ofRat (-5775) 10000000, F32.ofRat 4183 10000000000, F32.ofRat (-4183) 1000000000000]

/-- Its derivative. -/
def ptSlope : List Word32 :=
  [F32.ofRat 39083 10000, F32.ofRat (-11550) 10000000, F32.ofRat 12549 10000000000, F32.ofRat (-16732) 1000000000000]

/-- Coefficients of the nickel curve in Ω (R230). -/
def niCurve : List Word32 :=
  [F32.ofNat 1000, F32.ofRat 5485 1000, F32.ofRat 6650 1000000, 0, F32.ofRat 2805 100000000000, 0, F32.ofRat (-2000) 100000000000000000]

/-- Its derivative. -/
def niSlope : List Word32 :=
  [F32.ofRat 5485 1000, F32.ofRat 13300 1000000, 0, F32.ofRat 11220 100000000000, 0, F32.ofRat (-12000) 100000000000000000]

/-- The closed form of the platinum curve at and above 0 °C (R230). -/
def ptClosed (p : Word32) : Word32 :=
  let a := F32.ofRat 39083 10000000
  let b := F32.ofRat (-5775) 10000000000
  let disc := F32.sub (F32.mul a a) (F32.mul (F32.mul (F32.ofNat 4) b) (F32.sub F32.one (F32.div p (F32.ofNat 1000))))
  F32.div (F32.sub (F32.sqrt disc) a) (F32.mul (F32.ofNat 2) b)

/-- linearise(p) (R229, R230). The order of the binary32 operations is the model's (assumption 15). -/
def Ui.linearise (u : Ui) (p : Word32) : Word32 :=
  match u.typ with
  | 1 => u.ntc p
  | 2 => u.ntc p
  | 3 => if F32.lt p (F32.ofNat 1000) then newton ptCurve ptSlope p 4 (ptClosed p) else ptClosed p
  | 4 => newton niCurve niSlope p 4 (F32.div (F32.sub p (F32.ofNat 1000)) (F32.ofRat 618 100))
  | _ => p

/-- The rated range of R220 in thousandths of the delivered unit. -/
def uiRange : Nat → Option (Int × Int)
  | 1 => some (-40000, 120000)
  | 2 => some (-40000, 120000)
  | 3 => some (-50000, 150000)
  | 4 => some (-50000, 150000)
  | 5 => some (-500, 11000)
  | 6 => some (0, 24000)
  | 8 => some (0, 100000000)
  | _ => none

/-- Whether a linearised value lies outside the rated range. -/
def uiOutside (typ : Nat) (v : Word32) : Bool :=
  match uiRange typ with
  | some (lo, hi) => F32.lt v (F32.ofRat lo 1000) || F32.lt (F32.ofRat hi 1000) v
  | none => false

/-- Causes of a fault conversion (R232): OPEN, SHORT, OVER. -/
structure UiBand where
  isOpen : Bool := false
  short : Bool := false
  over_ : Bool := false
  deriving DecidableEq, Repr, Inhabited

/-- Whether a conversion is a fault conversion. -/
def UiBand.bad (b : UiBand) : Bool := b.isOpen || b.short || b.over_

/-- The fault band a primary value lies in (R232). -/
def State.uiBand (s : State) (n typ : Nat) (p : Word32) : UiBand :=
  let above (k : Nat) := F32.lt (F32.ofNat k) p
  let below (k : Nat) := F32.lt p (F32.ofNat k)
  match typ with
  | 1 => { short := below 100, isOpen := above 1500000 }
  | 2 => { short := below 200, isOpen := above 3000000 }
  | 3 => { short := below 500, isOpen := above 3000 }
  | 4 => { short := below 500, isOpen := above 3000 }
  | 5 => { over_ := above 12 || F32.lt p (F32.ofInt (-1)) }
  | 6 => { isOpen := F32.lt p (F32.ofRat (s.cfgN Fid.UI_MA_LO n) 1000), over_ := F32.lt (F32.ofRat (s.cfgN Fid.UI_MA_HI n) 1000) p }
  | 8 => { isOpen := above 150000 }
  | _ => {}

/-- A contact after a conversion: closed below 500 Ω, open above 5 000 Ω, else as before (R231). -/
def contactClosed (before : Bool) (p : Word32) : Bool :=
  if F32.lt p (F32.ofNat 500) then true else if F32.lt (F32.ofNat 5000) p then false else before

/-- The value before the filter (R229). -/
def State.uiValue (s : State) (n : Nat) (u : Ui) (p : Word32) : Word32 :=
  if u.typ = 7 then onOff (xor (contactClosed u.closed p) (s.cfgN Fid.UI_INVERT n == 1))
  else F32.add (u.linearise p) (F32.ofRat (s.cfgI Fid.UI_OFFSET n) 1000)

/-- The filter step (R229). -/
def filtered (k : Nat) (f : Option Word32) (v : Word32) : Word32 :=
  match f with
  | some x => if k = 0 then v else F32.add x (F32.div (F32.sub v x) (F32.ofNat (2 ^ k)))
  | none => v

/-- Classed FAULT under R227 or R232. -/
def State.uiFault (s : State) (n : Nat) : Bool := (s.inp.ui.get n).fault || s.calCause n

/-- The status word (R235). -/
def State.uiStatus (s : State) (n : Nat) : Nat :=
  let u := s.inp.ui.get n
  2 ^ 28 * u.typ + 2 ^ 27 * bit (s.uiFault n) + 2 ^ 26 * bit u.isOpen + 2 ^ 25 * bit u.short + 2 ^ 24 * bit u.overload +
    2 ^ 23 * bit (s.calCause n) + 2 ^ 22 * bit u.range + 2 ^ 21 * bit u.hum + 2 ^ 20 * bit (s.inp.cores.get (n / 4)).calFault +
    2 ^ 19 * bit u.discarded + u.conversions % 65536

/-- INPUT_FAULT (R244). -/
def State.inputFault (n : Nat) (s : State) : State :=
  s.record 10 3 0x0001 (le 1 n ++ le 1 (bitsOf (s.uiStatus n) 23 5) ++ le 4 ((s.inp.ui.get n).primary.getD F32.nan).toNat) true n

/-- INPUT_RESTORED (R244). -/
def State.inputRestored (n : Nat) (s : State) : State := s.record 10 1 0x0002 (le 1 n) false n

/-- A good conversion posts its value with its stamp (R224, R229). -/
def State.uiPost (n : Nat) (x : Integ) (p : Word32) (s : State) : State :=
  let u := s.inp.ui.get n
  let v := filtered (s.cfgN Fid.UI_FILTER n) u.filter (s.uiValue n u p)
  s.uiIn n (fun u => { u with
    value := some v, filter := some v, stamp := mkStamp (x.turn + 1) 0
    closed := u.typ == 7 && contactClosed u.closed p
    range := uiOutside u.typ (u.linearise p), hum := x.offLock
    conversions := (u.conversions + 1) % 65536 })

/-- A fault conversion: the second in a row classes the input FAULT (R232). -/
def State.uiBad (n : Nat) (b : UiBand) (s : State) : State :=
  let u := s.inp.ui.get n
  let classed := u.fault || decide (1 ≤ u.faultRun)
  let t := s.uiIn n (fun u => { u with
    faultRun := u.faultRun + 1, goodRun := 0, fault := classed
    isOpen := classed && b.isOpen, short := classed && b.short, overload := classed && b.over_ })
  if classed && !s.uiFault n then t.inputFault n else t

/-- A conversion outside the fault bands: a FAULT input is restored by the second in a row (R232); none posts while the core's
calibration has failed (R227). -/
def State.uiGood (n : Nat) (x : Integ) (p : Word32) (s : State) : State :=
  let u := s.inp.ui.get n
  let t := s.uiIn n (fun u => { u with faultRun := 0, goodRun := u.goodRun + 1 })
  if !u.fault then (if s.calCause n then t else t.uiPost n x p)
  else if u.goodRun = 0 then t
  else
    let v := t.uiIn n (fun u => { u with fault := false, isOpen := false, short := false, overload := false })
    if s.calCause n then v else (v.uiPost n x p).inputRestored n

/-- The calibrated primary quantity (R226, R227, R229): `raw` is what the reading gives with the manufacturing calibration. How a reading
of the core maps into the rated range of a type is not stated, so what an applied deviation makes of it is a free value (assumption 157). -/
def State.calibrated (s : State) (n typ : Nat) (raw : Word32) : Word32 :=
  let o := s.inp.cores.get (n / 4)
  if o.zero = 0 ∧ o.gain = 0 then raw else Config.calibrated typ o.zero o.gain raw

/-- A conversion of input n: discarded when it overlaps a CAPTURE turn (R225), not its own before a full turn of the present
circuit (R234); a disconnected shunt is an OVER (R232). -/
def State.convert (n : Nat) (x : Integ) (raw : Word32) (s : State) : State :=
  let s := s.sampleFirst
  let u := s.inp.ui.get n
  if u.typ = 0 || decide (x.turn < u.since + 1) then s
  else if x.capture then State.record 10 0 0x0005 (le 1 (n / 4) ++ le 1 n) false n (s.uiIn n (fun u => { u with discarded := true }))
  else
    let q := s.calibrated n u.typ raw
    let p := if uiResistive u.typ then F32.sub q (F32.ofRat u.lead 1000) else q
    let b : UiBand := if u.typ = 6 ∧ x.shuntOff then { over_ := true } else s.uiBand n u.typ p
    let t := s.uiIn n (fun u => { u with primary := some p })
    if b.bad then t.uiBad n b else t.uiGood n x p

/-- CONVERSION_DONE (R229): core and primary quantity, by the manufacturing calibration, of the integration turn that ended last. -/
def execConversionDone (a : At) (c : Nat) (p : Word32) (s : State) : Host.Outcome State Fault Refusal :=
  let t := s.advance a
  .next (match (t.inp.cores.get c).ended with
    | some x =>
      if decide (c < 4) && decide (x.what < 4) then
        (t.core c (fun o => { o with ended := none })).convert (4 * c + x.what) x p
      else t
    | none => t)

/-- SHUNT_DISCONNECT (R232): the loop current of an MA_20 input exceeds 30 mA. -/
def execShuntDisconnect (a : At) (n : Nat) (s : State) : Host.Outcome State Fault Refusal :=
  let t := s.advance a
  .next (if decide (n < 16) && (t.inp.ui.get n).typ == 6 then t.uiIn n (fun u => { u with shuntOff := true }) else t)

/-! ### Calibration (R226–R228) -/

/-- Limits of R227: 0.10 % of 2.5 V in nV, 0.20 % in 1E-9. -/
def calLimit (isGain : Bool) : Nat := if isGain then 2000000 else 2500000

/-- A deviation in 1E-6 of full scale (R244). -/
def calPpm (isGain : Bool) (dev : Int) : Int := divRound dev (if isGain then 1000 else 2500)

/-- Inputs of a core that are in use. -/
def State.coreInputs (s : State) (c : Nat) : List Nat :=
  ((upTo 4).map (fun i => 4 * c + i)).filter (fun n => (s.inp.ui.get n).typ != 0)

/-- A calibration result within the limits is applied and ends a series of failures (R227, R244). -/
def State.calPass (c : Nat) (isGain : Bool) (dev : Int) (s : State) : State :=
  let o := s.inp.cores.get c
  let t := s.core c (fun o => { o with
    zero := if isGain then o.zero else dev, gain := if isGain then dev else o.gain, calFault := false, failedTurns := 0 })
  let u := if o.calFault then t.record 10 1 0x0004 (le 1 c) false c else t
  State.each ((s.coreInputs c).filter (fun n => s.calCause n && !(s.inp.ui.get n).fault)) State.inputRestored u

/-- A calibration result outside the limits is not applied; the first of a series is recorded, the sixteenth classes the
inputs FAULT (R227, R244). -/
def State.calReject (c : Nat) (isGain : Bool) (dev : Int) (s : State) : State :=
  let o := s.inp.cores.get c
  let t := s.core c (fun o => { o with calFault := true, failedTurns := o.failedTurns + 1 })
  let u := if o.calFault then t
    else t.record 10 2 0x0003 (le 1 c ++ le 1 (bit isGain) ++ le 4 (ofSigned 32 (calPpm isGain dev))) false c
  State.each ((s.coreInputs c).filter (fun n => !s.uiFault n && u.calCause n)) State.inputFault u

/-- A result is judged (R227). -/
def State.calJudge (c : Nat) (isGain : Bool) (dev : Int) (s : State) : State :=
  if dev.natAbs ≤ calLimit isGain then s.calPass c isGain dev else s.calReject c isGain dev

/-- Mean of a list of results. -/
def meanInt (xs : List Int) : Int := divRound xs.sum xs.length

/-- Opcode of UI_CALIBRATE (R411). -/
abbrev uiCalOpcode : Nat := 0x0040

/-- Start an on-demand calibration of a core for a waiter (R228). -/
def State.calBegin (c : Nat) (w : Waiter) (interim : Bool) (s : State) : State :=
  s.core c (fun o => { o with demand := 8, results := 8, zeros := [], gains := [], waiter := some w, byInterim := interim })

/-- The eight results are in: their means are applied and the answer given (R228, R243). -/
def State.calFinish (c : Nat) (s : State) : State :=
  let o := s.inp.cores.get c
  let t := if o.zeros.isEmpty then s else s.calJudge c false (meanInt o.zeros)
  let u := if o.gains.isEmpty then t else t.calJudge c true (meanInt o.gains)
  let n := u.inp.cores.get c
  let body := le 4 (ofSigned 32 (n.zero - o.zero)) ++ le 4 (ofSigned 32 (n.gain - o.gain))
  let v := match o.waiter with
    | some w =>
      if o.byInterim then
        u.endInterims (fun i => i.isOp 5 uiCalOpcode c && i.session == w.session && i.tag == w.tag) .effect .done body
      else u.answer (some w) (u.resp .done body)
    | none => u
  let v1 := v.core c (fun o => { o with waiter := none, byInterim := false })
  match o.waiting with
  | w :: rest => State.calBegin c w false (v1.core c (fun o => { o with waiting := rest }))
  | [] => v1

/-- A calibration turn of an on-demand calibration has ended; one that overlaps a CAPTURE turn gives no result (R225, R228). -/
def State.calDemand (c : Nat) (isGain : Bool) (dev : Option Int) (s : State) : State :=
  let t := s.core c (fun o => { o with
    results := o.results - 1
    zeros := if isGain then o.zeros else o.zeros ++ dev.toList
    gains := if isGain then o.gains ++ dev.toList else o.gains })
  if (t.inp.cores.get c).results = 0 then t.calFinish c else t

/-- CALIBRATION_RESULT (R226, R227): core and deviation from the manufacturing value, a zero in nV, a gain in 1E-9. -/
def execCalibrationResult (a : At) (c : Nat) (dev : Int) (s : State) : Host.Outcome State Fault Refusal :=
  let t := s.advance a
  .next (match (t.inp.cores.get c).ended with
    | some x =>
      if decide (c < 4) && decide (4 ≤ x.what) then
        let u := t.core c (fun o => { o with ended := none })
        let isGain := x.what % 2 == 1
        if 6 ≤ x.what then u.calDemand c isGain (if x.capture then none else some dev)
        else if x.capture then u else u.calJudge c isGain dev
      else t
    | none => t)

/-! ### Type changes (R234) -/

/-- A commit that changes the circuit of an input takes effect at the next turn boundary. -/
def State.uiCommit (s : State) : State :=
  { s with inp.ui := s.inp.ui.updAll (upTo 16) (fun n u =>
      if u.typ == s.cfgN Fid.UI_TYPE n && u.nominal == s.cfgN Fid.UI_NTC_NOMINAL n && u.beta == s.cfgN Fid.UI_NTC_BETA n &&
        u.lead == s.cfgN Fid.UI_LEAD n then { u with change := false } else { u with change := true }) }

/-- The new circuit of an input is applied at a boundary; a FAULT under R232 is closed by INPUT_RESTORED. -/
def State.uiChange (n : Nat) (s : State) : State :=
  let u := s.inp.ui.get n
  if !u.change then s else
  let v : Ui :=
    { typ := s.cfgN Fid.UI_TYPE n, nominal := s.cfgN Fid.UI_NTC_NOMINAL n, beta := s.cfgN Fid.UI_NTC_BETA n
      lead := s.cfgN Fid.UI_LEAD n, since := s.turn, discarded := u.discarded, conversions := u.conversions }
  let t := { s with inp.ui := s.inp.ui.set n v }
  if u.fault then t.inputRestored n else t

/-- Every waiting type change (R234). -/
def State.uiChanges (s : State) : State := State.each (upTo 16) State.uiChange s

/-! ### Operations (R228, R243) -/

/-- UI_READ (R243): the read clears DISCARDED. -/
def opUiRead : OpDef :=
  { cls := 1, opcode := 0x0020, fns := [10]
    len := fun n => n == 0
    content := fun _ r => decide (r.target < 16)
    off := fun s r => s.cfgN Fid.UI_TYPE r.target == 0
    ready := fun s _ => s.rdy Rdy.services
    body := fun r s =>
      let u := s.inp.ui.get r.target
      State.ok (s.uiIn r.target (fun u => { u with discarded := false }))
        (le 8 u.stamp.toNat ++ le 4 (u.value.getD F32.nan).toNat ++ le 4 (u.primary.getD F32.nan).toNat ++
          le 4 (s.uiStatus r.target) ++ le 2 (if uiThermal u.typ then toCenti u.value else 0x8000) ++ le 2 0) }

/-- UI_READ (R243). -/
def execUiRead (a : At) (r : Req) (s : State) : Host.Outcome State Fault Refusal := .next (serve opUiRead r (s.advance a))

/-- A descriptor that names an input of the core. -/
def namesCore (c desc : Nat) : Bool := descKind desc == 1 && descIndex desc / 4 == c

/-- Sources of the signals of a zone: measured outputs, disturbances and the three of each reference. -/
def State.zoneSources (s : State) (z : Nat) : List Nat :=
  (upTo (s.ny z)).map (fun k => s.cfgN Fid.Y_SOURCE (sigIdx z k)) ++
  (upTo (s.nd z)).map (fun k => s.cfgN Fid.D_SOURCE (sigIdx z k)) ++
  (upTo (s.ny z)).flatMap (fun k => [Fid.R_BASE, Fid.R_FALLBACK, Fid.R_ADJUST].map (fun f => s.cfgN f (sigIdx z k)))

/-- An on-demand calibration of a core has to wait (R228). -/
def State.calWaits (s : State) (c : Nat) : Bool :=
  s.zonesPresent.any (fun z => (s.zones.get z).mode != .maintenance && (s.zoneSources z).any (namesCore c)) ||
  ((s.cfg.listed Fid.FL_ENABLE).any (fun n => s.cfgN Fid.FL_ENABLE n == 1 &&
    (namesCore c (s.cfgN Fid.FL_Y_SOURCE n) || namesCore c (s.cfgN Fid.FL_R_SOURCE n)))) ||
  s.soundingReads (namesCore c)

/-- UI_CALIBRATE (R228, R243): answered when its result is applied, or DEFERRED. -/
def opUiCalibrate : OpDef :=
  { cls := 5, opcode := uiCalOpcode, fns := [10]
    len := fun n => n == 0
    content := fun _ r => decide (r.target < 4)
    expert := fun _ _ => true
    body := fun r s =>
      let w := Req.waiter r
      if s.calWaits r.target then s.fail .deferred
      else if 0 < (s.inp.cores.get r.target).results then (s.core r.target (fun o => { o with waiting := o.waiting ++ [w] }), none)
      else (s.calBegin r.target w false, none) }

/-- UI_CALIBRATE (R228). -/
def execUiCalibrate (a : At) (r : Req) (s : State) : Host.Outcome State Fault Refusal := .next (serve opUiCalibrate r (s.advance a))

/-- A deferred calibration starts once its condition has ended (R228). -/
def State.calDeferred (i : Interim) (s : State) : State :=
  if s.calWaits i.target || decide (0 < (s.inp.cores.get i.target).results) then s
  else
    let w : Waiter := { session := i.session, tag := i.tag }
    let js := s.mb.interims.map (fun j => if j = i then Interim.begun j else j)
    State.calBegin i.target w true { s with mb.interims := js }

end Sys2Proof.Machine
end

