-- ==== Sys2Proof/Machine/I2c.lean ====
section
/-! DEFINITION. Machine/I2c.lean: the I2C sensor recipes (R236–R240, R243, R244). -/

namespace Sys2Proof.Machine

/-- Change a recipe. -/
def State.recipe (n : Nat) (f : Recipe → Recipe) (s : State) : State := { s with inp.recipes := s.inp.recipes.upd n f }

/-- Fields of a step word (R238). -/
def stepOp (w : Nat) : Nat := bitsOf w 28 4
def stepCount (w : Nat) : Nat := bitsOf w 16 8
def stepData (w : Nat) : Nat := bitsOf w 0 16

/-- One bit and one byte of CRC-8 with polynomial 31h, most significant bit first (R238). -/
def crc8Bit (c : Byte) : Byte := if c.getLsbD 7 then (c <<< 1) ^^^ 0x31#8 else c <<< 1
def crc8Byte (c b : Byte) : Byte :=
  crc8Bit (crc8Bit (crc8Bit (crc8Bit (crc8Bit (crc8Bit (crc8Bit (crc8Bit (c ^^^ b))))))))

/-- CRC-8 with initial value FFh (R238). -/
def crc8 (bs : List Byte) : Byte := bs.foldl crc8Byte 0xFF#8

/-- Put bytes into the 16-byte buffer. -/
def bufferPut (buf : List Byte) (off : Nat) (bs : List Byte) : List Byte :=
  padTo 16 ((padTo 16 buf).take off ++ bs ++ (padTo 16 buf).drop (off + bs.length))

/-- Cause of a transfer that fails (R240). -/
def xferCause : I2cXfer → Nat
  | .ok _ => 0
  | .addrNack => 1
  | .dataNack => 2
  | .stretch => 3
  | .stuck => 4

/-- Run the steps from number `i` on (R238): the buffer, the cause and the step that failed. A transfer the bus says nothing
about finds no target. -/
def runSteps : List Nat → Nat → List I2cXfer → List Byte → List Byte × Nat × Nat
  | [], i, _, buf => (buf, 0, i)
  | w :: ws, i, xs, buf =>
    match stepOp w with
    | 1 => match xs with
      | .ok _ :: rest => runSteps ws (i + 1) rest buf
      | x :: _ => (buf, xferCause x, i)
      | [] => (buf, 1, i)
    | 2 => match xs with
      | .ok bs :: rest => runSteps ws (i + 1) rest (bufferPut buf (stepData w % 16) (padTo (stepCount w) bs))
      | x :: _ => (buf, xferCause x, i)
      | [] => (buf, 1, i)
    | 3 => runSteps ws (i + 1) xs buf
    | 4 =>
      let off := stepData w % 16
      let b := padTo 16 buf
      if crc8 ((b.drop off).take (stepCount w)) = b.getD (off + stepCount w) 0 then runSteps ws (i + 1) xs buf else (buf, 5, i)
    | _ => (buf, 0, i)

/-- The next transfer of the steps that are left is a READ. -/
def nextReads : List Nat → Bool
  | [] => false
  | w :: ws => match stepOp w with
    | 1 => false
    | 2 => true
    | 3 | 4 => nextReads ws
    | _ => false

/-- What the steps drive on the bus (R238): `again` after a WRITE that ended without STOP. A WRITE with NOSTOP that a READ follows goes on into
a repeated START; every other transfer, and the last of a run, ends with STOP. -/
def runMoves (addr : Nat) : List Nat → Bool → List I2cXfer → List Byte → List I2cMove
  | [], _, _, _ => []
  | w :: ws, again, xs, buf =>
    let ok := match xs with
      | .ok _ :: _ => true
      | _ => false
    match stepOp w with
    | 1 =>
      let goes := ok && bitOf w 27 && nextReads ws
      let m : I2cMove := { address := addr, bytes := le (stepCount w) (stepData w), again := again, stop := !goes }
      m :: (if ok then runMoves addr ws goes (xs.drop 1) buf else [])
    | 2 =>
      let m : I2cMove := { address := addr, read := true, count := stepCount w, again := again }
      let got := match xs with
        | .ok bs :: _ => bufferPut buf (stepData w % 16) (padTo (stepCount w) bs)
        | _ => buf
      m :: (if ok then runMoves addr ws false (xs.drop 1) got else [])
    | 3 => runMoves addr ws again xs buf
    | 4 =>
      let off := stepData w % 16
      let b := padTo 16 buf
      if crc8 ((b.drop off).take (stepCount w)) = b.getD (off + stepCount w) 0 then runMoves addr ws again xs buf else []
    | _ => []

/-- The steps of a recipe (R241). -/
def State.recipeSteps (s : State) (n : Nat) : List Nat := (upTo 8).map (fun i => s.cfgN Fid.I2C_STEP (n * 8 + i))

/-- Steps that END does not cut off (R238). -/
def liveSteps : List Nat → List Nat
  | [] => []
  | w :: ws => if stepOp w = 0 ∨ 5 ≤ stepOp w then [] else w :: liveSteps ws

/-- The recipe delivers a value: it has a READ step, or its source has (R239). -/
def State.recipeReads (s : State) (n : Nat) : Bool :=
  let m := if s.cfgN Fid.I2C_FROM n = 255 then n else s.cfgN Fid.I2C_FROM n
  (liveSteps (s.recipeSteps m)).any (fun w => stepOp w == 2)

/-- raw of R239. -/
def extractRaw (e : Nat) (buf : List Byte) : Int :=
  let width := bitsOf e 26 2 + 1
  let bs := ((padTo 16 buf).drop (bitsOf e 28 4)).take width
  let v := leNat (if bitOf e 25 then bs.reverse else bs)
  let shift := bitsOf e 19 5
  let kept := if bitsOf e 13 6 = 0 then 8 * width - shift else bitsOf e 13 6
  let u := v / 2 ^ shift % 2 ^ kept
  if bitOf e 24 && decide (1 ≤ kept) then sext kept u else u

/-- The value of a recipe from a buffer (R239). -/
def State.recipeValue (s : State) (n : Nat) (buf : List Byte) : Word32 :=
  F32.add (F32.mul (s.cfgW Fid.I2C_GAIN n) (F32.ofInt (extractRaw (s.cfgN Fid.I2C_EXTRACT n) buf))) (s.cfgW Fid.I2C_OFFSET n)

/-- Whether SDA of a bus (1 or 2) is known to be held low (R240). -/
def State.sdaStuck (s : State) (b : Nat) : Bool := if b = 1 then s.inp.stuck0 else s.inp.stuck1

/-- The recovery of a bus: nine clocks and STOP, and whether SDA is then released (R240, R244). -/
def State.busRecover (b : Nat) (released : Bool) (s : State) : State :=
  State.record 24 2 0x0003 (le 1 (b - 1) ++ le 1 (bit released)) false 0
    (if b = 1 then { s with inp.stuck0 := !released } else { s with inp.stuck1 := !released })

/-- An attempt of recipe n: a bus known to be stuck is recovered first; after STRETCH or BUS_STUCK it is recovered (R240). -/
def State.recipeAttempt (n attempt : Nat) (xs : List I2cXfer) (released : Bool) (s : State) : State :=
  let b := s.cfgN Fid.I2C_BUS n
  let t := if s.sdaStuck b then s.busRecover b released else s
  let (buf, cause, step) := if t.sdaStuck b then ((s.inp.recipes.get n).buffer, 4, 0)
    else runSteps (s.recipeSteps n) 0 xs (s.inp.recipes.get n).buffer
  let u := t.recipe n (fun r => { r with
    buffer := buf, outcome := (cause, step), attempt := attempt, running := true, queued := false, failedAt := t.clock
    moves := if t.sdaStuck b then [] else runMoves (s.cfgN Fid.I2C_ADDR n) (s.recipeSteps n) false xs (s.inp.recipes.get n).buffer })
  if (cause = 3 ∨ cause = 4) ∧ !t.sdaStuck b then u.busRecover b released else u

/-- Recipes that transfer on a bus (R237). -/
def State.recipesOn (s : State) (b : Nat) : List Nat :=
  (s.cfg.listed Fid.I2C_BUS).filter (fun n => decide (n < 64) && s.cfgN Fid.I2C_BUS n == b && s.cfgN Fid.I2C_FROM n == 255)

/-- Recipe n is due in this turn and has not been taken up (R237). -/
def State.recipeDue (s : State) (n : Nat) : Bool :=
  let p := s.cfgN Fid.I2C_PERIOD n
  s.turn % p == s.cfgN Fid.I2C_PHASE n % p && (s.inp.recipes.get n).dueTurn != some s.turn

/-- The turn a waiting recipe is due for; none when it does not wait. -/
def State.recipeWaits (s : State) (n : Nat) : Option Nat :=
  let r := s.inp.recipes.get n
  if r.queued then some (r.dueTurn.getD 0)
  else if s.recipeDue n && !r.running then some s.turn else none

/-- The bus of recipe n is free for it: none runs, and none that waits comes before it (R237). -/
def State.recipeTurn (s : State) (n : Nat) : Bool :=
  let mine := (s.recipeWaits n).getD s.turn
  (s.recipesOn (s.cfgN Fid.I2C_BUS n)).all (fun m => m == n ||
    (!(s.inp.recipes.get m).running && (match s.recipeWaits m with
      | some d => decide (mine < d) || (mine == d && decide (n < m))
      | none => true)))

/-- RECIPE_RUN (R237): recipe, what its transfers meet, and whether a recovery releases SDA. A recipe that is due while it
still waits or runs counts an overrun; one whose bus is busy waits for another RECIPE_RUN. -/
def State.recipeRun (n : Nat) (xs : List I2cXfer) (released : Bool) (s : State) : State :=
  let r := s.inp.recipes.get n
  let due := s.recipeDue n
  if due && (r.queued || r.running) then
    s.recipe n (fun r => { r with overruns := (r.overruns + 1) % 2 ^ 32, dueTurn := some s.turn })
  else if due || r.queued then
    let t := s.recipe n (fun r => { r with queued := true, dueTurn := if due then some s.turn else r.dueTurn })
    if s.recipeTurn n then t.recipeAttempt n 0 xs released else t
  else s

/-- The recipe is one that transfers, and the function serves. -/
def State.recipeOn (s : State) (n : Nat) : Bool :=
  decide (n < 64) && s.rdy Rdy.i2c && s.cfgN Fid.I2C_BUS n != 0 && s.cfgN Fid.I2C_FROM n == 255

/-- RECIPE_RUN (R237). -/
def execRecipeRun (a : At) (n : Nat) (xs : List I2cXfer) (released : Bool) (s : State) : Host.Outcome State Fault Refusal :=
  let t := s.advance a
  .next (if t.recipeOn n then t.recipeRun n xs released else t)

/-- A failed run of recipe n may be repeated, within the turn it was due (R240). -/
def State.recipeRepeats (s : State) (n : Nat) : Bool :=
  let r := s.inp.recipes.get n
  decide (r.attempt < s.cfgN Fid.I2C_RETRY n) && r.dueTurn == some s.turn

/-- RECIPE_RETRY (R240): a failed run is repeated 1 ms after its failure. -/
def execRecipeRetry (a : At) (n : Nat) (xs : List I2cXfer) (released : Bool) (s : State) : Host.Outcome State Fault Refusal :=
  let t := s.advance a
  let r := t.inp.recipes.get n
  .next (if t.recipeOn n && r.running && r.outcome.1 != 0 && t.recipeRepeats n && decide (r.failedAt + 1000 ≤ t.clock) then
      t.recipeAttempt n (r.attempt + 1) xs released
    else t)

/-- A run of recipe n has ended well at `stamp`: its value is extracted from `buf` (R239, R240). -/
def State.recipeGood (n : Nat) (buf : List Byte) (stamp : Stamp) (s : State) : State :=
  let was := (s.inp.recipes.get n).fault
  let v := s.recipeValue n buf
  let t := s.recipe n (fun r => { r with
    value := if s.recipeReads n then some v else r.value
    stamp := if s.recipeReads n then stamp else r.stamp
    cause := 0, fails := 0, fault := false, running := false })
  if was then t.record 24 1 0x0002 (le 1 n) false n else t

/-- Every attempt of recipe n has failed (R240, R244). -/
def State.recipeBad (n cause step : Nat) (s : State) : State :=
  let was := (s.inp.recipes.get n).fault
  let t := s.recipe n (fun r => { r with cause := cause, fails := r.fails + 1, fault := true, running := false })
  if was then t else t.record 24 3 0x0001 (le 1 n ++ le 1 cause ++ le 1 step) true n

/-- Recipes that take their bytes from recipe m (R237). -/
def State.derived (s : State) (m : Nat) : List Nat :=
  (s.cfg.listed Fid.I2C_FROM).filter (fun n => decide (n < 64) && s.cfgN Fid.I2C_FROM n == m && s.cfgN Fid.I2C_BUS n != 0)

/-- A run of recipe n ends, and with it those derived from it (R237, R240). -/
def State.recipeEnd (n : Nat) (stamp : Stamp) (s : State) : State :=
  let r := s.inp.recipes.get n
  let u := s.sampleFirst
  if r.outcome.1 = 0 then
    State.each (u.derived n) (fun m t => t.recipeGood m r.buffer stamp) (u.recipeGood n r.buffer stamp)
  else State.each (u.derived n) (fun m t => t.recipeBad m 6 0) (u.recipeBad n r.outcome.1 r.outcome.2)

/-- RECIPE_COMPLETE (R240): recipe, and grains since the STOP of its last READ. -/
def execRecipeComplete (a : At) (n ago : Nat) (s : State) : Host.Outcome State Fault Refusal :=
  let t := s.advance a
  let r := t.inp.recipes.get n
  .next (if t.recipeOn n && r.running && (r.outcome.1 == 0 || !t.recipeRepeats n) then
      t.recipeEnd n (t.now - BitVec.ofNat 64 ago)
    else t)

/-- The I2C function stops: no run goes on (R236). -/
def State.i2cStops (s : State) : State :=
  { s with inp.recipes := s.inp.recipes.updAll s.inp.recipes.keys (fun _ r => { r with queued := false, running := false }) }

/-- I2C_READ (R243): a derived recipe shows the buffer it takes its bytes from. -/
def opI2cRead : OpDef :=
  { cls := 1, opcode := 0x0021, fns := [24]
    len := fun n => n == 0
    content := fun _ r => decide (r.target < 64)
    off := fun s r => s.cfgN Fid.I2C_BUS r.target == 0
    ready := fun s _ => s.rdy Rdy.services
    body := fun r s =>
      let x := s.inp.recipes.get r.target
      let m := if s.cfgN Fid.I2C_FROM r.target = 255 then r.target else s.cfgN Fid.I2C_FROM r.target
      s.ok (le 8 x.stamp.toNat ++ le 4 (x.value.getD F32.nan).toNat ++ le 1 x.cause ++ le 3 0 ++ le 4 x.fails ++ le 4 x.overruns ++
        padTo 16 (s.inp.recipes.get m).buffer) }

/-- I2C_READ (R243). -/
def execI2cRead (a : At) (r : Req) (s : State) : Host.Outcome State Fault Refusal := .next (serve opI2cRead r (s.advance a))

end Sys2Proof.Machine
end

