-- ==== Sys2Proof/Machine/Schedule.lean ====
section
/-! DEFINITION. Machine/Schedule.lean: service time (R337–R340), calendars and schedules as functions of it (R351–R353). -/

namespace Sys2Proof.Machine

/-! ### Service time -/

/-- 1/65 536 ticks in a second. -/
def tick16PerSecond : Nat := 2147483648

/-- UTC seconds since 2000 of an Almanac time in 1/65 536 ticks (R337); not below 0. -/
def State.utcSecs (s : State) (t16 : Int) : Nat := ((t16 - s.svc.timeBase) / (tick16PerSecond : Int)).toNat

/-- The fraction of that second in 1/65 536 s. -/
def State.utcFrac (s : State) (t16 : Int) : Nat := (((t16 - s.svc.timeBase) % (tick16PerSecond : Int)) / 32768).toNat

/-- UTC_Offset in minutes, positive west (R339). -/
def State.utcOffset (s : State) : Int := s.svc.utcOffset.getD (s.cfgI Fid.SVC_UTC_OFFSET)

/-- Local standard time of a UTC second. -/
def State.stdSecs (s : State) (utc : Nat) : Nat := ((utc : Int) - s.utcOffset * 60).toNat

/-- Daylight saving is in force at a UTC second (R339). -/
def State.dst (s : State) (utc : Nat) : Bool :=
  s.cfgN Fid.SVC_DST == 1 && dstInForce (s.cfgN Fid.SVC_DST_START) (s.cfgN Fid.SVC_DST_END) (s.stdSecs utc)

/-- Local seconds since 2000 of a UTC second (R339). -/
def State.localOf (s : State) (utc : Nat) : Nat := s.stdSecs utc + (if s.dst utc then 3600 else 0)

/-- Local time in hundredths of a second at an Almanac time; none while the services hold no UTC (R340). -/
def State.localAt (s : State) (t16 : Int) : Option Nat :=
  if s.svc.timeValid then some (s.localOf (s.utcSecs t16) * 100 + s.utcFrac t16 * 100 / 65536) else none

/-- The Almanac time now. -/
def State.wallNow (s : State) : Option Int := s.wall16 s.now

/-- Local time now. -/
def State.localNow (s : State) : Option Nat := s.wallNow.bind s.localAt

/-! ### Stored properties (R350) -/

/-- Property identifiers of ANSI/ASHRAE 135 (assumption 16). -/
abbrev Prop_.ackedTransitions : Nat := 0
abbrev Prop_.ackRequired : Nat := 1
abbrev Prop_.alarmValue : Nat := 6
abbrev Prop_.alarmValues : Nat := 7
abbrev Prop_.apduTimeout : Nat := 11
abbrev Prop_.notificationClass : Nat := 17
abbrev Prop_.covIncrement : Nat := 22
abbrev Prop_.dateList : Nat := 23
abbrev Prop_.dstStatus : Nat := 24
abbrev Prop_.deadband : Nat := 25
abbrev Prop_.effectivePeriod : Nat := 32
abbrev Prop_.eventEnable : Nat := 35
abbrev Prop_.eventState : Nat := 36
abbrev Prop_.exceptionSchedule : Nat := 38
abbrev Prop_.feedbackValue : Nat := 40
abbrev Prop_.highLimit : Nat := 45
abbrev Prop_.limitEnable : Nat := 52
abbrev Prop_.referenceList : Nat := 54
abbrev Prop_.localDate : Nat := 56
abbrev Prop_.localTime : Nat := 57
abbrev Prop_.lowLimit : Nat := 59
abbrev Prop_.maxApdu : Nat := 62
abbrev Prop_.notifyType : Nat := 72
abbrev Prop_.apduRetries : Nat := 73
abbrev Prop_.numberOfStates : Nat := 74
abbrev Prop_.objectIdentifier : Nat := 75
abbrev Prop_.objectList : Nat := 76
abbrev Prop_.objectName : Nat := 77
abbrev Prop_.objectType : Nat := 79
abbrev Prop_.outOfService : Nat := 81
abbrev Prop_.presentValue : Nat := 85
abbrev Prop_.priority : Nat := 86
abbrev Prop_.priorityArray : Nat := 87
abbrev Prop_.writePriority : Nat := 88
abbrev Prop_.recipientList : Nat := 102
abbrev Prop_.reliability : Nat := 103
abbrev Prop_.relinquishDefault : Nat := 104
abbrev Prop_.segmentation : Nat := 107
abbrev Prop_.stateText : Nat := 110
abbrev Prop_.statusFlags : Nat := 111
abbrev Prop_.systemStatus : Nat := 112
abbrev Prop_.timeDelay : Nat := 113
abbrev Prop_.units : Nat := 117
abbrev Prop_.utcOffset : Nat := 119
abbrev Prop_.weeklySchedule : Nat := 123
abbrev Prop_.bufferSize : Nat := 126
abbrev Prop_.clientCovIncrement : Nat := 127
abbrev Prop_.logReference : Nat := 132
abbrev Prop_.enable : Nat := 133
abbrev Prop_.logInterval : Nat := 134
abbrev Prop_.notificationThreshold : Nat := 137
abbrev Prop_.recordsSince : Nat := 140
abbrev Prop_.recordCount : Nat := 141
abbrev Prop_.startTime : Nat := 142
abbrev Prop_.stopTime : Nat := 143
abbrev Prop_.stopWhenFull : Nat := 144
abbrev Prop_.totalRecordCount : Nat := 145
abbrev Prop_.databaseRevision : Nat := 155
abbrev Prop_.scheduleDefault : Nat := 174
abbrev Prop_.alignIntervals : Nat := 193
abbrev Prop_.intervalOffset : Nat := 195
abbrev Prop_.restartReason : Nat := 196
abbrev Prop_.loggingType : Nat := 197
abbrev Prop_.trigger : Nat := 205
abbrev Prop_.timeDelayNormal : Nat := 356

/-- An object identifier. -/
def objId (typ inst : Nat) : Nat := typ * 2 ^ 22 + inst

/-- An identifier as stored: the instance FFFFFh stands for the Device's own (assumption 16). -/
def State.ident (s : State) (id : Nat) : Nat := if id = objId 8 4194303 then objId 8 (s.cfgN Fid.SVC_DEVICE_INSTANCE) else id

/-- Key of a stored property. -/
def propKey (id prop : Nat) : Nat := id * 2 ^ 22 + prop

/-- A stored property's bytes; none where it has never been written. -/
def State.stored (s : State) (id prop : Nat) : Option (List Byte) :=
  match s.svc.store.get (propKey id prop) with
  | [] => none
  | bs => some bs

/-- A stored property as tags. -/
def State.storedToks (s : State) (id prop : Nat) : List Tok := ((s.stored id prop).bind tokens).getD []

/-- A stored property that is one unsigned or enumerated number. -/
def State.storedNat (s : State) (id prop : Nat) (default_ : Nat) : Nat :=
  match s.storedToks id prop with
  | [.app 2 b] => beNat b
  | [.app 9 b] => beNat b
  | [.app 1 b] => (b.headD 0).toNat
  | _ => default_

/-- A stored bit string's bit `i`. -/
def State.storedBit (s : State) (id prop i : Nat) : Bool :=
  match s.storedToks id prop with
  | [.app 8 b] => (b.getD (1 + i / 8) 0).getLsbD (7 - i % 8)
  | _ => false

/-- A stored number as binary32. -/
def State.storedReal (s : State) (id prop : Nat) : Option Word32 := (s.stored id prop).bind valueOf

/-! ### Calendars (R351) -/

/-- Entries of Calendar n. -/
def State.calendarEntries (s : State) (n : Nat) : List CalEntry :=
  let ts := s.storedToks (objId 6 n) Prop_.dateList
  (calEntries ts.length ts).getD []

/-- Present_Value of Calendar n at a local time in hundredths: FALSE without UTC and while disabled. -/
def State.calendarAt (s : State) (n : Nat) (at_ : Option Nat) : Bool :=
  match at_ with
  | some h => s.cfgN Fid.CAL_ENABLE n == 1 && (s.calendarEntries n).any (fun e => e.matches_ (h / 8640000))
  | none => false

/-! ### Schedules (R352, R353) -/

/-- Schedule_Default. -/
def State.scheduleDefault (s : State) (n : Nat) : Tok :=
  match s.storedToks (objId 17 n) Prop_.scheduleDefault with
  | [t] => t
  | _ => .app 0 []

/-- A special event applies on a day. -/
def State.eventApplies (s : State) (e : SpecialEvent) (h : Nat) : Bool :=
  match e.entry, e.calendar with
  | some c, _ => c.matches_ (h / 8640000)
  | none, some id => id / 2 ^ 22 == 6 && s.calendarAt (id % 2 ^ 22) (some h)
  | none, none => false

/-- The value the special events give at a local time: that of the highest priority that is not NULL. -/
def State.exceptionAt (s : State) (n h : Nat) : Option Tok :=
  let ts := s.storedToks (objId 17 n) Prop_.exceptionSchedule
  let es := ((specialEvents ts.length ts).getD []).filter (fun e => s.eventApplies e h)
  (sortBy (fun (x y : SpecialEvent) => decide (x.priority < y.priority)) es).findSome? (fun e =>
    match valueAt e.values (h % 8640000) with
    | some t => if t.isNull then none else some t
    | none => none)

/-- The weekly value at a local time. -/
def State.weeklyAt (s : State) (n h : Nat) : Option Tok :=
  let ts := s.storedToks (objId 17 n) Prop_.weeklySchedule
  let days := (weekDays ts.length ts).getD []
  match valueAt (days.getD ((dayOf (h / 8640000)).dow - 1) []) (h % 8640000) with
  | some t => if t.isNull then none else some t
  | none => none

/-- A day lies in the Effective_Period. -/
def State.scheduleEffective (s : State) (n h : Nat) : Bool :=
  match s.storedToks (objId 17 n) Prop_.effectivePeriod with
  | [.app 10 a, .app 10 b] => dateRange a b (h / 8640000)
  | _ => true

/-- Present_Value of Schedule n at a local time (R340, R352): a NULL gives Schedule_Default. -/
def State.scheduleAt (s : State) (n : Nat) (at_ : Option Nat) : Tok :=
  match at_ with
  | some h =>
    if s.scheduleEffective n h then
      match s.exceptionAt n h with
      | some t => t
      | none => (s.weeklyAt n h).getD (s.scheduleDefault n)
    else s.scheduleDefault n
  | none => s.scheduleDefault n

/-- The instants of a day at which a schedule can change, in hundredths. -/
def State.scheduleTimes (s : State) (n : Nat) : List Nat :=
  let ts := s.storedToks (objId 17 n) Prop_.weeklySchedule
  let es := s.storedToks (objId 17 n) Prop_.exceptionSchedule
  (((weekDays ts.length ts).getD []).flatMap (fun d => d.map (fun x => x.time))) ++
    (((specialEvents es.length es).getD []).flatMap (fun e => e.values.map (fun x => x.time)))

/-- Day class of a step, by its number since the epoch (R165). -/
def State.dayClass (s : State) (n : Nat) : Nat :=
  let c := s.cfgN Fid.WP_DAY_CALENDAR
  if c = 255 then 0 else bit (s.calendarAt c (s.localAt ((n * planStep * 65536 : Nat) : Int)))

/-- Instants of step `n` at which Schedule `k` can change, in local hundredths: its start, midnight and the schedule's times. -/
def State.scheduleInstants (s : State) (k h : Nat) : List Nat :=
  let day := h / 8640000
  h :: ((0 :: s.scheduleTimes k).flatMap (fun x => [day * 8640000 + x, (day + 1) * 8640000 + x])).filter
    (fun t => decide (h < t) && decide (t < h + 90000))

/-- A step is scheduled-occupied for a zone (R167). -/
def State.scheduledOccupied (s : State) (z n : Nat) : Bool :=
  let d := s.cfgN Fid.WP_SCHEDULE z
  let positive := fun (v : Option Word32) => v.any (fun w => F32.lt 0 (s.scale d w))
  match descKind d with
  | 0 => false
  | 8 =>
    let k := descIndex d
    let at_ := s.localAt ((n * planStep * 65536 : Nat) : Int)
    s.cfgN Fid.SCHED_ENABLE k == 1 && (match at_ with
      | some h => (s.scheduleInstants k h).any (fun t => positive (tokValue (s.scheduleAt k (some t))))
      | none => positive (tokValue (s.scheduleAt k none)))
  | _ => (s.fieldInput Fid.WP_SCHEDULE z none z 0).get?.any (F32.lt 0)

/-- What Schedules and Calendars say of the 96 steps from the present one on: the day class of each and whether each zone is
scheduled-occupied in it (R165, R167). -/
def State.horizon (s : State) : List (Nat × List Bool) :=
  let n0 := s.alm.count.toNat / planStep
  (upTo 96).map (fun i => (s.dayClass (n0 + i), s.zonesPresent.map (fun z => s.scheduledOccupied z (n0 + i))))

end Sys2Proof.Machine
end

