-- ==== Sys2Proof/Machine/Objects.lean ====
section
/-! DEFINITION. Machine/Objects.lean: the BACnet objects, their properties as read and the rules of writing them (R341–R352). -/

namespace Sys2Proof.Machine

/-! ### Which objects exist (R342, R343, R349) -/

/-- What an object identifier names. -/
inductive Obj where
  | device
  | y (z k : Nat)
  | u (z k : Nat)
  | d (z k : Nat)
  | r (z k : Nat)
  | mode (z : Nat)
  | point (n : Nat)
  | cal (n : Nat)
  | sched (n : Nat)
  | trend (n : Nat)
  | nc (n : Nat)
  deriving DecidableEq, Repr, Inhabited

/-- Identifiers of the zone objects of a zone (R343). -/
def State.zoneObjects (s : State) (z : Nat) : List Nat :=
  let e := s.cfgN Fid.SVC_ZONE_EXPOSE z
  let has := fun (b : Nat) (field n typ base : Nat) =>
    if bitOf e b then ((upTo n).filter (fun k => !noBasic (s.cfgN field (sigIdx z k)))).map (fun k => objId typ (base + z * 4 + k))
    else []
  has 0 Fid.Y_KIND (s.ny z) 0 0 ++ has 1 Fid.U_KIND (s.nu z) 1 0 ++ has 2 Fid.D_KIND (s.nd z) 0 1024 ++
    has 3 Fid.Y_KIND (s.ny z) 2 0 ++ (if bitOf e 4 then [objId 19 z] else [])

/-- Identifier of point object n. -/
def State.pointId (s : State) (n : Nat) : Nat := objId (s.cfgN Fid.OBJ_TYPE n) (s.cfgN Fid.OBJ_INSTANCE n)

/-- Point objects configured, ascending. -/
def State.points (s : State) : List Nat := (s.cfg.listed Fid.OBJ_TYPE).filter (fun n => s.cfgN Fid.OBJ_TYPE n != 255)

/-- The pool as a commit allocates it (R342): its objects, the zones and the point objects that do not fit. -/
structure Pool where
  ids : List Nat := []
  zonesOut : List Nat := []
  pointsOut : List Nat := []
  deriving DecidableEq, Repr, Inhabited

/-- Allocate the pool of 4 096 objects. -/
def State.allocate (s : State) : Pool :=
  let zs := s.zonesPresent.foldl (fun (p : Pool) z =>
    let os := s.zoneObjects z
    if p.ids.length + os.length ≤ 4096 then { p with ids := p.ids ++ os } else { p with zonesOut := p.zonesOut ++ [z] }) {}
  s.points.foldl (fun (p : Pool) n =>
    if p.ids.length < 4096 then { p with ids := p.ids ++ [s.pointId n] } else { p with pointsOut := p.pointsOut ++ [n] }) zs

/-- The object an identifier names. -/
def State.objOf (s : State) (id : Nat) : Option Obj :=
  let t := id / 2 ^ 22
  let i := id % 2 ^ 22
  if t = 8 then (if i = s.cfgN Fid.SVC_DEVICE_INSTANCE ∨ i = 4194303 then some .device else none)
  else if t = 6 then (if i < 16 ∧ s.cfgN Fid.CAL_ENABLE i = 1 then some (.cal i) else none)
  else if t = 17 then (if i < 256 ∧ s.cfgN Fid.SCHED_ENABLE i = 1 then some (.sched i) else none)
  else if t = 20 then (if i < 256 ∧ s.cfgN Fid.TL_LOG_ENABLE i = 1 then some (.trend i) else none)
  else if t = 15 then (if i < 32 ∧ s.cfgN Fid.NC_ENABLE i = 1 then some (.nc i) else none)
  else if !s.svc.pool.contains id then none
  else if 4096 ≤ i then ((s.points).find? (fun n => s.pointId n == id)).map Obj.point
  else match t with
    | 0 => if i < 1024 then some (.y (i / 4) (i % 4)) else some (.d ((i - 1024) / 4) (i % 4))
    | 1 => some (.u (i / 4) (i % 4))
    | 2 => some (.r (i / 4) (i % 4))
    | _ => some (.mode i)

/-- Every object, the device first. -/
def State.objectIds (s : State) : List Nat :=
  [objId 8 (s.cfgN Fid.SVC_DEVICE_INSTANCE)] ++ s.svc.pool ++
    ((s.cfg.listed Fid.CAL_ENABLE).filter (fun n => s.cfgN Fid.CAL_ENABLE n == 1)).map (objId 6) ++
    ((s.cfg.listed Fid.SCHED_ENABLE).filter (fun n => s.cfgN Fid.SCHED_ENABLE n == 1)).map (objId 17) ++
    ((s.cfg.listed Fid.TL_LOG_ENABLE).filter (fun n => s.cfgN Fid.TL_LOG_ENABLE n == 1)).map (objId 20) ++
    ((s.cfg.listed Fid.NC_ENABLE).filter (fun n => s.cfgN Fid.NC_ENABLE n == 1)).map (objId 15)

/-! ### Names -/

/-- A number in at least `w` decimal digits. -/
def digits (w n : Nat) : String :=
  let d := toString n
  String.ofList (List.replicate (w - d.length) '0') ++ d

/-- Object_Name where none has been written (R341, R343, R349). -/
def State.defaultName (s : State) (o : Obj) : String :=
  match o with
  | .device => "UX7256-" ++ toString (s.cfgN Fid.SVC_DEVICE_INSTANCE)
  | .y z k => "Z" ++ digits 3 z ++ ".Y" ++ toString k
  | .u z k => "Z" ++ digits 3 z ++ ".U" ++ toString k
  | .d z k => "Z" ++ digits 3 z ++ ".D" ++ toString k
  | .r z k => "Z" ++ digits 3 z ++ ".R" ++ toString k
  | .mode z => "Z" ++ digits 3 z ++ ".MODE"
  | .point n => "P" ++ digits 4 n
  | .cal n => "CALENDAR " ++ toString n
  | .sched n => "SCHEDULE " ++ toString n
  | .trend n => "TREND LOG " ++ toString n
  | .nc n => "NOTIFICATION CLASS " ++ toString n

/-- Object_Name as encoded. -/
def State.nameOf (s : State) (id : Nat) (o : Obj) : List Byte := (s.stored id Prop_.objectName).getD (bText (s.defaultName o))

/-! ### Values and status (R343, R344, R349) -/

/-- Source of a point input (R349). -/
def State.pointInput (s : State) (n : Nat) : Bound := s.fieldInput Fid.OBJ_POINT n none 256 0

/-- The value y or d reads (R343): the bound one, or the last it had. -/
def State.boundValue (s : State) (z code : Nat) (b : Bound) : Word32 :=
  if b.validity = .absent ∨ F32.isNaN b.value then ((s.zio.get z).lastValue.get code).getD F32.nan else b.value

/-- The commanded value of a point output, or its Relinquish_Default (R349). -/
def State.pointCommand (s : State) (n : Nat) : Word32 :=
  (prioValue (s.svc.pointPrio.get n)).getD
    ((s.storedReal (s.pointId n) Prop_.relinquishDefault).getD (if s.cfgN Fid.OBJ_TYPE n = 14 then F32.one else 0))

/-- Present_Value as a number, for what has one; binary objects as 0.0 and 100.0. -/
def State.numeric (s : State) (id : Nat) (o : Obj) : Option Word32 :=
  match o with
  | .y z k => some (s.boundValue z k ((s.zones.get z).y.get k))
  | .d z k => some (s.boundValue z (16 + k) ((s.zones.get z).d.get k))
  | .u z k => some ((s.zones.get z).u.get k)
  | .r z k => some (((s.zio.get z).ref.get k).getD F32.nan)
  | .mode z => some (F32.ofNat ((s.zones.get z).mode.code + 1))
  | .point n =>
    let t := s.cfgN Fid.OBJ_TYPE n
    if isOutputType t then some (s.pointCommand n)
    else if [2, 5, 19].contains t then some ((s.storedReal id Prop_.presentValue).getD (if t = 19 then F32.one else 0))
    else some ((s.pointInput n).value)
  | .cal n => some (onOff (s.calendarAt n s.localNow))
  | .sched n => (s.svc.schedules.get n)
  | _ => none

/-- A number in the form of an object's type. -/
def State.formOf (s : State) (o : Obj) (v : Word32) : List Byte :=
  match o with
  | .mode _ => bUint (roundTo 1 5 v)
  | .point n =>
    let t := s.cfgN Fid.OBJ_TYPE n
    if [3, 4, 5].contains t then bEnum (bit (F32.le fifty v))
    else if [13, 14, 19].contains t then bUint (roundTo 1 (s.cfgN Fid.OBJ_STATES n) v)
    else bReal v
  | .cal _ => bBool (F32.le fifty v)
  | _ => bReal v

/-- Reliability of a bound value with its source (R344). -/
def State.boundReliability (s : State) (desc : Nat) (b : Bound) : Nat :=
  let u := s.inp.ui.get (descIndex desc)
  match b.validity with
  | .absent => 1
  | .valid => 0
  | .stale => 12
  | .fault => if descKind desc = 1 ∧ u.isOpen then 4 else if descKind desc = 1 ∧ u.short then 5 else 7

/-- Reliability (R344). -/
def State.reliability (s : State) (o : Obj) : Nat :=
  match o with
  | .y z k => s.boundReliability (s.cfgN Fid.Y_SOURCE (sigIdx z k)) ((s.zones.get z).y.get k)
  | .d z k => s.boundReliability (s.cfgN Fid.D_SOURCE (sigIdx z k)) ((s.zones.get z).d.get k)
  | .point n => if [0, 3, 13].contains (s.cfgN Fid.OBJ_TYPE n) then s.boundReliability (s.cfgN Fid.OBJ_POINT n) (s.pointInput n) else 0
  | .sched _ => if s.svc.timeValid then 0 else 7
  | _ => 0

/-- OVERRIDDEN (R344, R349): U_NOT_OWNED of an actuator input, or an output object's command that applies. -/
def State.overridden (s : State) (o : Obj) : Bool :=
  match o with
  | .u z k => bitOf (s.zoneStatus z) (4 + k)
  | .point n => (prioValue (s.svc.pointPrio.get n)).isSome && !s.svc.pointHeld.contains n
  | _ => false

/-- Status_Flags: IN_ALARM, FAULT, OVERRIDDEN, OUT_OF_SERVICE. -/
def State.statusFlags (s : State) (id : Nat) (o : Obj) : List Bool :=
  [(s.svc.events.get id).state != .normal, s.reliability o != 0, s.overridden o, false]

/-- Engineering units of a kind (R343), of the standard's enumeration. -/
def unitsOf : Nat → Nat
  | 1 => 62
  | 2 => 29
  | 3 => 96
  | 4 => 98
  | 5 => 135
  | _ => 95

/-! ### Reading a property -/

/-- A property's value: one encoding, or an array of them. -/
inductive PropVal where
  | one (bs : List Byte)
  | arr (es : List (List Byte))
  deriving DecidableEq, Repr, Inhabited

/-- A BACnet error: class and code. -/
abbrev BErr := Nat × Nat

def errUnknownObject : BErr := (1, 31)
def errUnknownProperty : BErr := (2, 32)
def errWriteDenied : BErr := (2, 40)
def errValueRange : BErr := (2, 37)
def errDataType : BErr := (2, 9)
def errArrayIndex : BErr := (2, 42)
def errNotArray : BErr := (2, 50)
def errNoSpace : BErr := (3, 20)
def errResources : BErr := (3, 0)
def errOptional : BErr := (5, 45)

/-- A priority array as encoded. -/
def State.prioBytes (s : State) (o : Obj) (p : Prio) : List (List Byte) :=
  (upTo 16).map (fun i => match p.get (i + 1) with
    | some v => s.formOf o v
    | none => bNull)

/-- Split a run of tags into array elements: each ends with a tag that `last` accepts, outside every pair of opening and closing
tags. -/
def splitElems (last : Tok → Bool) : Nat → List Tok → List Tok → List (List Tok)
  | _, cur, [] => if cur.isEmpty then [] else [cur.reverse]
  | depth, cur, t :: r =>
    let d := match t with
      | .opn _ => depth + 1
      | .cls _ => depth - 1
      | _ => depth
    if d = 0 ∧ last t then (t :: cur).reverse :: splitElems last 0 [] r else splitElems last d (t :: cur) r

/-- What ends an element of an array property. -/
def elemEnd (prop : Nat) (t : Tok) : Bool :=
  if prop = Prop_.weeklySchedule then t == .cls 0
  else if prop = Prop_.exceptionSchedule then (match t with
    | .ctx 3 _ => true
    | _ => false)
  else true

/-- Properties that are arrays in the store. -/
def storedArray (prop : Nat) : Bool := [Prop_.weeklySchedule, Prop_.exceptionSchedule, Prop_.priority].contains prop

/-- Elements of a stored array property. -/
def State.storedElems (s : State) (id prop : Nat) : List (List Byte) :=
  (splitElems (elemEnd prop) 0 [] (s.storedToks id prop)).map (fun e => e.flatMap Tok.bytes)

/-- The commandable priority array of an object. -/
def State.prioOf (s : State) (o : Obj) : Option Prio :=
  match o with
  | .u z k => some ((s.zio.get z).prioU.get k)
  | .r z k => if s.refHosted z k then some ((s.zio.get z).prioR.get k) else none
  | .point n => if isOutputType (s.cfgN Fid.OBJ_TYPE n) then some (s.svc.pointPrio.get n) else none
  | _ => none

/-- What a schedule may write: a commandable Present_Value (R352), or that of a Value object of the point table, which serves as a schedule
target (R349). -/
def State.schedulable (s : State) (o : Obj) : Bool :=
  (s.prioOf o).isSome || (match o with
    | .point n => [2, 5, 19].contains (s.cfgN Fid.OBJ_TYPE n)
    | _ => false)

/-- Relinquish_Default (R346). -/
def State.relinquish (s : State) (o : Obj) : Word32 :=
  match o with
  | .u z k => s.uSafe z k
  | .r z k => (modelLimit (s.cfgN Fid.Y_KIND (sigIdx z k)) (s.cfgN Fid.R_DEFAULT (sigIdx z k))).getD F32.nan
  | .point n => (s.storedReal (s.pointId n) Prop_.relinquishDefault).getD (if s.cfgN Fid.OBJ_TYPE n = 14 then F32.one else 0)
  | _ => 0

/-- The properties of intrinsic reporting, with the values they have before a write (R356). -/
def State.intrinsicProp (s : State) (id prop : Nat) : Option (List Byte) :=
  if prop = Prop_.eventState then some (bEnum (match (s.svc.events.get id).state with
    | .normal => 0
    | .fault => 1
    | .offnormal => 2
    | .highLimit => 3
    | .lowLimit => 4))
  else if prop = Prop_.ackedTransitions then some (bBits ((upTo 3).map (fun i => !(s.svc.events.get id).unacked.contains i)))
  else if prop = Prop_.eventEnable then some ((s.stored id prop).getD (bBits [false, false, false]))
  else if prop = Prop_.limitEnable then some ((s.stored id prop).getD (bBits [false, false]))
  else if prop = Prop_.notifyType ∨ prop = Prop_.alarmValue then some ((s.stored id prop).getD (bEnum 0))
  else if prop = Prop_.timeDelay ∨ prop = Prop_.timeDelayNormal then some ((s.stored id prop).getD (bUint 0))
  else if prop = Prop_.notificationClass then some ((s.stored id prop).getD (bUint 4194303))
  else if prop = Prop_.highLimit ∨ prop = Prop_.lowLimit ∨ prop = Prop_.deadband ∨ prop = Prop_.covIncrement then
    some ((s.stored id prop).getD (bReal 0))
  else if prop = Prop_.alarmValues then some ((s.stored id prop).getD [])
  else none

/-- Units of an object. -/
def State.unitsOfObj (s : State) (o : Obj) : Nat :=
  match o with
  | .y z k => unitsOf (s.cfgN Fid.Y_KIND (sigIdx z k))
  | .r z k => unitsOf (s.cfgN Fid.Y_KIND (sigIdx z k))
  | .u z k => unitsOf (s.cfgN Fid.U_KIND (sigIdx z k))
  | .d z k => unitsOf (s.cfgN Fid.D_KIND (sigIdx z k))
  | .point n => s.cfgN Fid.OBJ_UNITS n
  | _ => 95

/-- Maximum APDU of a port (R308). -/
def maxApdu (port : Nat) : Nat := if 2 ≤ port ∧ port ≤ 5 then 480 else 1476

/-- Properties required of the Device whose values stand nowhere in the specification: firmware and software versions, address bindings,
model, protocol conformance and vendor (R341). -/
def requiredOfDevice : List Nat := [12, 30, 44, 70, 96, 97, 98, 120, 121, 139]

/-- The Device's properties (R341). -/
def State.deviceProp (s : State) (prop : Nat) : Option PropVal :=
  let h := s.localNow
  if prop = Prop_.systemStatus then some (.one (bEnum (if !s.rdy Rdy.config then 4 else if s.peerHolds then 1 else 0)))
  else if prop = Prop_.maxApdu then some (.one (bUint (maxApdu (s.cfgN Fid.BAC_HOME_PORT))))
  else if prop = Prop_.segmentation then some (.one (bEnum 0))
  else if prop = Prop_.apduTimeout then some (.one (bUint 3000))
  else if prop = Prop_.apduRetries then some (.one (bUint 2))
  else if prop = Prop_.databaseRevision then some (.one (bUint s.svc.databaseRevision))
  else if prop = Prop_.restartReason then some (.one (bEnum s.svc.restartReason))
  else if prop = Prop_.utcOffset then some (.one (bInt s.utcOffset))
  else if prop = Prop_.dstStatus then some (.one (bBool (match s.wallNow with
    | some t => s.svc.timeValid && s.dst (s.utcSecs t)
    | none => false)))
  else if prop = Prop_.localDate then some (.one (match h with
    | some x => let d := dayOf (x / 8640000); bDate (d.year - 1900) d.month d.day d.dow
    | none => bDate 255 255 255 255))
  else if prop = Prop_.localTime then some (.one (match h with
    | some x => bTime (x / 360000 % 24) (x / 6000 % 60) (x / 100 % 60) (x % 100)
    | none => bTime 255 255 255 255))
  else if prop = Prop_.objectList then some (.arr (s.objectIds.map bObject))
  else if requiredOfDevice.contains prop then some (.one (Config.deviceProperty prop))
  else none

/-- A trend log's properties (R354). -/
def State.trendProp (s : State) (id n prop : Nat) : Option PropVal :=
  let t := s.svc.trends.get n
  if prop = Prop_.bufferSize then some (.one (bUint 1024))
  else if prop = Prop_.recordCount then some (.one (bUint t.records.length))
  else if prop = Prop_.totalRecordCount then some (.one (bUint t.total.toNat))
  else if prop = Prop_.recordsSince then some (.one (bUint t.sinceNotify))
  else if prop = Prop_.trigger then some (.one (bBool (t.due != 0)))
  else if prop = Prop_.enable then some (.one ((s.stored id prop).getD (bBool false)))
  else if [Prop_.stopWhenFull, Prop_.alignIntervals].contains prop then some (.one ((s.stored id prop).getD (bBool false)))
  else if [Prop_.logInterval, Prop_.intervalOffset, Prop_.notificationThreshold].contains prop then
    some (.one ((s.stored id prop).getD (bUint 0)))
  else if prop = Prop_.loggingType then some (.one ((s.stored id prop).getD (bEnum 0)))
  else if [Prop_.startTime, Prop_.stopTime].contains prop then
    some (.one ((s.stored id prop).getD (bDate 255 255 255 255 ++ bTime 255 255 255 255)))
  else if [Prop_.clientCovIncrement].contains prop then some (.one ((s.stored id prop).getD bNull))
  else if prop = Prop_.logReference then (s.stored id prop).map PropVal.one
  else none

/-- The properties that only some objects have. -/
def State.ownProp (s : State) (id : Nat) (o : Obj) (prop : Nat) : Option PropVal :=
  let pv := if prop = Prop_.presentValue then (s.numeric id o).map (fun v => PropVal.one (s.formOf o v)) else none
  let flags := if prop = Prop_.statusFlags then some (PropVal.one (bBits (s.statusFlags id o))) else none
  let rel := if prop = Prop_.reliability then some (PropVal.one (bEnum (s.reliability o))) else none
  let oos := if prop = Prop_.outOfService then some (PropVal.one (bBool false)) else none
  let units := if prop = Prop_.units then some (PropVal.one (bEnum (s.unitsOfObj o))) else none
  let prios := match s.prioOf o with
    | some p =>
      if prop = Prop_.priorityArray then some (PropVal.arr (s.prioBytes o p))
      else if prop = Prop_.relinquishDefault then some (PropVal.one (s.formOf o (s.relinquish o)))
      else none
    | none => none
  let intr := (s.intrinsicProp id prop).map PropVal.one
  let states := fun (n : Nat) => if prop = Prop_.numberOfStates then some (PropVal.one (bUint n)) else none
  match o with
  | .device => s.deviceProp prop
  | .mode _ => pv <|> flags <|> rel <|> oos <|> states 5 <|> intr <|>
      (if prop = Prop_.stateText then some (.arr (["Hold safe", "Auto", "Manual", "Maintenance", "Sounding"].map bText)) else none)
  | .point n =>
    let t := s.cfgN Fid.OBJ_TYPE n
    pv <|> flags <|> rel <|> oos <|> prios <|> intr <|> (if [0, 1, 2].contains t then units else none) <|>
      (if [13, 14, 19].contains t then states (s.cfgN Fid.OBJ_STATES n) else none) <|>
      (if t = 4 ∧ prop = Prop_.feedbackValue ∧ descKind (s.cfgN Fid.OBJ_POINT n) = Dest.field ∧
          s.chRole (descIndex (s.cfgN Fid.OBJ_POINT n)) = 3 then
        some (.one (bEnum (bit (s.fld.ins.get (descIndex (s.cfgN Fid.OBJ_POINT n))).image))) else none)
  | .cal _ => pv <|> (if prop = Prop_.dateList then some (.one ((s.stored id prop).getD [])) else none)
  | .sched n =>
    if prop = Prop_.presentValue then some (.one (s.svc.schedNow.get n))
    else if storedArray prop then some (.arr (s.storedElems id prop))
    else if prop = Prop_.scheduleDefault then some (.one ((s.scheduleDefault n).bytes))
    else if prop = Prop_.effectivePeriod then some (.one ((s.stored id prop).getD (bDate 255 255 255 255 ++ bDate 255 255 255 255)))
    else if prop = Prop_.referenceList then some (.one ((s.stored id prop).getD []))
    else if prop = Prop_.writePriority then some (.one ((s.stored id prop).getD (bUint 16)))
    else flags <|> rel <|> oos <|> intr
  | .trend n => s.trendProp id n prop <|> flags <|> rel <|> intr
  | .nc _ =>
    if prop = Prop_.priority then some (.arr (if (s.stored id prop).isSome then s.storedElems id prop else [bUint 255, bUint 255, bUint 255]))
    else if prop = Prop_.ackRequired then some (.one ((s.stored id prop).getD (bBits [false, false, false])))
    else if prop = Prop_.recipientList then some (.one ((s.stored id prop).getD []))
    else if prop = Prop_.notificationClass then some (.one (bUint (id % 2 ^ 22)))
    else none
  | _ => pv <|> flags <|> rel <|> oos <|> units <|> prios <|> intr

/-- A property of an object (R307). -/
def State.property (s : State) (id prop : Nat) : Except BErr PropVal :=
  match s.objOf id with
  | none => .error errUnknownObject
  | some o =>
    if prop = Prop_.objectIdentifier then .ok (.one (bObject (s.ident id)))
    else if prop = Prop_.objectType then .ok (.one (bEnum (id / 2 ^ 22)))
    else if prop = Prop_.objectName then .ok (.one (s.nameOf (s.ident id) o))
    else match s.ownProp id o prop with
      | some v => .ok v
      | none => .error errUnknownProperty

/-- Read a property, whole or at an array index (0 the number of elements). -/
def State.readProp (s : State) (id prop : Nat) (idx : Option Nat) : Except BErr (List Byte) :=
  match s.property id prop, idx with
  | .error e, _ => .error e
  | .ok (.one bs), none => .ok bs
  | .ok (.one _), some _ => .error errNotArray
  | .ok (.arr es), none => .ok es.flatten
  | .ok (.arr es), some i =>
    if i = 0 then .ok (bUint es.length)
    else match es[i - 1]? with
      | some e => .ok e
      | none => .error errArrayIndex

end Sys2Proof.Machine
end

