-- ==== Sys2Proof/Machine/ObjWrite.lean ====
section
/-! DEFINITION. Machine/ObjWrite.lean: writing the BACnet objects (R338, R341, R345–R352), the evaluation of schedules and
calendars (R353), and trend records (R354, R355). -/

namespace Sys2Proof.Machine

/-- How a property write ends: done, a BACnet error, or a mailbox status of the store (R348). -/
inductive WrRes where
  | ok
  | err (e : BErr)
  | status (st : Status)
  deriving DecidableEq, Repr, Inhabited

/-- The BACnet error of a result (R348). -/
def WrRes.error : WrRes → Option BErr
  | .ok => none
  | .err e => some e
  | .status .functionOff => some errUnknownObject
  | .status .badFormat => some errValueRange
  | .status .nvBusy => some errResources
  | .status .storeFull => some errNoSpace
  | .status _ => some errWriteDenied

/-! ### The object store (R350) -/

/-- KEY of a stored property: that of its record, or the lowest unused one. -/
def State.entryKey (s : State) (id prop : Nat) : Nat :=
  let rs := s.nv.index.filter (fun r => r.typ == 0x0020)
  match rs.find? (fun r => let p := s.nv.payload r; fieldAt p 0 4 == id && fieldAt p 4 4 == prop) with
  | some r => r.key
  | none => ((upTo (rs.length + 1)).find? (fun k => rs.all (fun r => r.key != k))).getD rs.length

/-- Store a property: its record is written before the write is answered. -/
def State.storeProp (id prop : Nat) (bs : List Byte) (s : State) : State × WrRes :=
  let q : SaveReq := { typ := 0x0020, key := s.entryKey id prop, payload := le 4 id ++ le 4 prop ++ bs }
  match s.saveNow q with
  | (.done, t) => ({ t with svc.store := t.svc.store.set (propKey id prop) bs }, .ok)
  | (.storeFull, t) => (t.record 16 3 0x0204 (le 4 bs.length) true 0, .status .storeFull)
  | (st, t) => (t, .status st)

/-- Read the object store back at the start of the services. -/
def State.loadStore (s : State) : State :=
  let rs := s.nv.index.filter (fun r => r.typ == 0x0020 && s.nv.inForce 0x0020 r.key == some r)
  let m := rs.foldl (fun (t : Tbl (List Byte)) r =>
    let p := s.nv.payload r
    t.set (propKey (fieldAt p 0 4) (fieldAt p 4 4)) (p.drop 8)) ([] : Tbl (List Byte))
  let t := { s with svc.store := m }
  { t with svc.utcOffset := match t.storedToks (t.ident (objId 8 4194303)) Prop_.utcOffset with
      | [.app 3 b] => some (sext (8 * b.length) (beNat b))
      | _ => none }

/-- A stored property goes with its record. -/
def State.dropProp (id prop : Nat) (s : State) : State :=
  let t := s.when (s.stored id prop).isSome (fun u => u.forget 0x0020 (u.entryKey id prop))
  { t with svc.store := t.svc.store.set (propKey id prop) [] }

/-! ### What may be written -/

/-- A reference of a schedule: object, property, and whether it names an array index and another device. -/
structure PropRef where
  object : Nat := 0
  prop : Nat := 85
  index : Option Nat := none
  device : Bool := false
  deriving DecidableEq, Repr, Inhabited

/-- References written as device object property references; none where the tags are not. -/
def propRefs : Nat → List Tok → Option (List PropRef)
  | _, [] => some []
  | 0, _ => none
  | fuel + 1, .ctx 0 a :: .ctx 1 b :: r =>
    let (i, r1) := match r with
      | .ctx 2 c :: r' => (some (beNat c), r')
      | _ => (none, r)
    let (dev, r2) := match r1 with
      | .ctx 3 _ :: r' => (true, r')
      | _ => (false, r1)
    (propRefs fuel r2).map (fun rs => { object := beNat a, prop := beNat b, index := i, device := dev } :: rs)
  | _, _ => none

/-- A recipient of a notification class (R357). -/
structure Recipient where
  days : List Byte := []
  fromTime : Nat := 0
  toTime : Nat := 0
  /-- a device by its identifier, or an address -/
  device : Option Nat := none
  net : Nat := 0
  mac : List Byte := []
  process : Nat := 0
  confirmed : Bool := false
  transitions : List Byte := []
  deriving DecidableEq, Repr, Inhabited

/-- Who a recipient is: the tags of its choice, and what follows. -/
def recipientWho : List Tok → Option ((Option Nat × Nat × List Byte) × List Tok)
  | .ctx 0 d :: r => some ((some (beNat d), 0, []), r)
  | .opn 1 :: .app 2 n :: .app 6 m :: .cls 1 :: r => some ((none, beNat n, m), r)
  | _ => none

/-- A Recipient_List; none where the tags are not one. -/
def recipients : Nat → List Tok → Option (List Recipient)
  | _, [] => some []
  | 0, _ => none
  | fuel + 1, .app 8 days :: .app 11 f :: .app 11 t :: r =>
    match recipientWho r, timeOf f, timeOf t with
    | some (who, .app 2 p :: .app 1 c :: .app 8 tr :: r1), some a, some b =>
      (recipients fuel r1).map (fun rs =>
        { days := days, fromTime := a, toTime := b, device := who.1, net := who.2.1, mac := who.2.2, process := beNat p
          confirmed := c.headD 0 != 0, transitions := tr } :: rs)
    | _, _, _ => none
  | _, _ => none

/-- Tag number of an application value. -/
def Tok.tag : Tok → Nat
  | .app n _ => n
  | _ => 255

/-- Tags of the values a schedule holds that are not NULL (R352). -/
def State.scheduleTags (s : State) (n : Nat) : List Nat :=
  let w := s.storedToks (objId 17 n) Prop_.weeklySchedule
  let e := s.storedToks (objId 17 n) Prop_.exceptionSchedule
  ((((weekDays w.length w).getD []).flatMap (fun d => d.map (fun x => x.value.tag))) ++
    (((specialEvents e.length e).getD []).flatMap (fun x => x.values.map (fun v => v.value.tag))) ++
    [(s.scheduleDefault n).tag]).filter (fun t => t != 0)

/-- Values of one datatype that a schedule accepts (R352). -/
def State.typesFit (s : State) (n : Nat) (new : List Nat) : Bool :=
  let xs := new.filter (fun t => t != 0)
  let held := (s.scheduleTags n).head?
  xs.all (fun t => [1, 2, 4, 9].contains t && t == (held.getD (xs.headD t)))

/-- Tags that a simple property accepts; none where the object has no such writable property. -/
def simpleTags (id : Nat) (o : Obj) (prop : Nat) : Option (List Nat) :=
  let t := id / 2 ^ 22
  let evented := decide (t ≤ 5) || [13, 14, 17, 19, 20].contains t
  if prop = Prop_.objectName then some [7]
  else if o = .device then (if prop = Prop_.utcOffset then some [3] else none)
  else if t ≤ 2 ∧ [Prop_.highLimit, Prop_.lowLimit, Prop_.deadband, Prop_.covIncrement].contains prop then some [4]
  else if t ≤ 2 ∧ prop = Prop_.limitEnable then some [8]
  else if (t = 3 ∨ t = 5) ∧ prop = Prop_.alarmValue then some [9]
  else if evented && prop == Prop_.eventEnable then some [8]
  else if evented && prop == Prop_.notifyType then some [9]
  else if evented && [Prop_.timeDelay, Prop_.timeDelayNormal, Prop_.notificationClass].contains prop then some [2]
  else if t = 20 ∧ [Prop_.enable, Prop_.stopWhenFull, Prop_.alignIntervals].contains prop then some [1]
  else if t = 20 ∧ [Prop_.logInterval, Prop_.intervalOffset, Prop_.notificationThreshold].contains prop then some [2]
  else if t = 20 ∧ prop = Prop_.loggingType then some [9]
  else if t = 20 ∧ prop = Prop_.clientCovIncrement then some [0, 4]
  else if t = 15 ∧ prop = Prop_.ackRequired then some [8]
  else if t = 17 ∧ prop = Prop_.writePriority then some [2]
  else if t = 17 ∧ prop = Prop_.scheduleDefault then some [0, 1, 2, 4, 9]
  else none

/-- Range of a simple property's value. -/
def simpleRange (prop : Nat) (t : Tok) : Bool :=
  match t with
  | .app 2 b =>
    if prop = Prop_.logInterval then decide (100 ≤ beNat b) && decide (beNat b ≤ 8640000)
    else if prop = Prop_.writePriority then decide (1 ≤ beNat b) && decide (beNat b ≤ 16) else true
  | .app 9 b => if prop = Prop_.loggingType then decide (beNat b ≤ 2) else decide (beNat b ≤ 1)
  | .app 3 b => decide ((sext (8 * b.length) (beNat b)).natAbs ≤ 900)
  | .app 7 b => b.headD 1 == 0 && decide (2 ≤ b.length) && decide ((b.drop 1).countP (fun x => x &&& 0xC0 != 0x80) ≤ 64)
  | _ => true

/-- Why a simple property refuses a value. -/
def State.simpleError (s : State) (o : Obj) (prop : Nat) (ts : List Tok) (tags : List Nat) : Option BErr :=
  match ts with
  | [t] =>
    if !tags.contains t.tag then some errDataType
    else if !simpleRange prop t then some errValueRange
    else match o with
      | .sched n => if prop = Prop_.scheduleDefault && !s.typesFit n [t.tag] then some errDataType else none
      | _ => none
  | _ => some errDataType

/-- Why a structured property refuses its whole value: `some none` accepts it, `none` is no such property of the object. -/
def State.complexError (s : State) (id : Nat) (o : Obj) (prop : Nat) (ts : List Tok) : Option (Option BErr) :=
  let t := id / 2 ^ 22
  let fits := fun (ok : Bool) => some (if ok then none else some errDataType)
  match o with
  | .cal _ => if prop = Prop_.dateList then
      some (match calEntries ts.length ts with
        | some es => if es.length ≤ 32 then none else some errNoSpace
        | none => some errDataType)
    else none
  | .sched n =>
    if prop = Prop_.weeklySchedule then
      some (match weekDays ts.length ts with
        | some ds => if ds.length != 7 || !s.typesFit n (ds.flatMap (fun d => d.map (fun x => x.value.tag))) then some errDataType
          else if ds.all (fun d => decide (d.length ≤ 16)) then none else some errNoSpace
        | none => some errDataType)
    else if prop = Prop_.exceptionSchedule then
      some (match specialEvents ts.length ts with
        | some es =>
          if !s.typesFit n (es.flatMap (fun e => e.values.map (fun x => x.value.tag))) then some errDataType
          else if es.any (fun e => e.calendar.any (fun c => c / 2 ^ 22 != 6)) then some errValueRange
          else if es.any (fun e => decide (e.priority < 1) || decide (16 < e.priority)) then some errValueRange
          else if decide (es.length ≤ 16) && es.all (fun e => decide (e.values.length ≤ 8)) then none else some errNoSpace
        | none => some errDataType)
    else if prop = Prop_.effectivePeriod then fits (ts.map Tok.tag == [10, 10])
    else if prop = Prop_.referenceList then
      some (match propRefs ts.length ts with
        | some rs =>
          if rs.any (fun r => r.device) then some errOptional
          else if rs.any (fun r => r.prop != Prop_.presentValue || !(s.objOf r.object).any s.schedulable) then some errValueRange
          else if rs.length ≤ 4 then none else some errNoSpace
        | none => some errDataType)
    else none
  | .trend _ =>
    if prop = Prop_.startTime ∨ prop = Prop_.stopTime then fits (ts.map Tok.tag == [10, 11])
    else if prop = Prop_.logReference then
      some (match propRefs ts.length ts with
        | some [r] => if r.device then some errOptional else none
        | _ => some errDataType)
    else none
  | .nc _ =>
    if prop = Prop_.priority then fits (ts.map Tok.tag == [2, 2, 2])
    else if prop = Prop_.recipientList then
      some (match recipients ts.length ts with
        | some rs => if rs.length ≤ 8 then none else some errNoSpace
        | none => some errDataType)
    else none
  | _ => if (t = 13 ∨ t = 19) ∧ prop = Prop_.alarmValues then fits (ts.all (fun x => x.tag == 2)) else none

/-! ### Commands (R345–R347, R349) -/

/-- A REAL that is written as a value. -/
def realOf (t : Tok) : Option Word32 :=
  match t with
  | .app 4 b => some (BitVec.ofNat 32 (beNat b))
  | _ => none

/-- The value an output or value object of a type accepts (R349): an error, or the number it stands for. -/
def pointValue (typ states : Nat) (t : Tok) : Except BErr Word32 :=
  match t with
  | .app 4 b =>
    let w : Word32 := BitVec.ofNat 32 (beNat b)
    if [1, 2].contains typ then (if F32.isFin w then .ok w else .error errValueRange) else .error errDataType
  | .app 9 b =>
    if [4, 5].contains typ then (if beNat b ≤ 1 then .ok (onOff (beNat b == 1)) else .error errValueRange) else .error errDataType
  | .app 2 b =>
    if [14, 19].contains typ then (if 1 ≤ beNat b ∧ beNat b ≤ states then .ok (F32.ofNat (beNat b)) else .error errValueRange)
    else .error errDataType
  | _ => .error errDataType

/-- Write or relinquish a slot of an output object (R349): its acceptance follows R273. -/
def State.commandPoint (n slot : Nat) (v : Option Word32) (s : State) : State :=
  let p := (s.svc.pointPrio.get n).set slot v
  let d := s.cfgN Fid.OBJ_POINT n
  let wait := (prioValue p).isSome && ((prioValue (s.svc.pointPrio.get n)).isNone || s.svc.pointHeld.contains n) &&
    s.overrideWaits (descKind d) (descIndex d)
  let rest := s.svc.pointHeld.filter (fun m => m != n)
  { s with svc := { s.svc with pointPrio := s.svc.pointPrio.set n p, pointHeld := if wait then n :: rest else rest } }

/-- Output objects whose wait has ended take their output (R349, R273). -/
def State.pointsStart (s : State) : State :=
  { s with svc.pointHeld := s.svc.pointHeld.filter (fun n =>
      s.overrideWaits (descKind (s.cfgN Fid.OBJ_POINT n)) (descIndex (s.cfgN Fid.OBJ_POINT n))) }

/-- Write Present_Value at a priority slot (R345–R347, R349). -/
def State.writePv (id slot : Nat) (o : Obj) (t : Tok) (s : State) : State × WrRes :=
  match o with
  | .u z k =>
    if t.isNull then (s.setPrio false z k slot none, .ok)
    else match realOf t with
      | some v => if (s.zones.get z).mode != .manual then (s, .err errWriteDenied)
        else if F32.isFin v then (s.setPrio false z k slot (some v), .ok) else (s, .err errValueRange)
      | none => (s, .err errDataType)
  | .r z k =>
    if !s.refHosted z k then (s, .err errWriteDenied)
    else if t.isNull then (s.setPrio true z k slot none, .ok)
    else match realOf t with
      | some v => if F32.isFin v then (s.setPrio true z k slot (some (s.storedRef z k v)), .ok) else (s, .err errValueRange)
      | none => (s, .err errDataType)
  | .y z k =>
    if descKind (s.cfgN Fid.Y_SOURCE (sigIdx z k)) != 7 then (s, .err errWriteDenied)
    else match realOf t with
      | some v => if F32.isFin v then (s.setHostValue true z k (some v), .ok) else (s, .err errValueRange)
      | none => (s, .err errDataType)
  | .d z k =>
    if descKind (s.cfgN Fid.D_SOURCE (sigIdx z k)) != 7 then (s, .err errWriteDenied)
    else match realOf t with
      | some v => if F32.isFin v then (s.setHostValue false z k (some v), .ok) else (s, .err errValueRange)
      | none => (s, .err errDataType)
  | .mode z =>
    match t with
    | .app 2 b =>
      if 1 ≤ beNat b ∧ beNat b ≤ 4 then
        match s.writeMode z ((ZMode.ofCode (beNat b - 1)).getD .holdSafe) with
        | (u, .done) => (u, .ok)
        | (u, .deferred) => (u, .ok)
        | (u, st) => (u, .status st)
      else (s, .err errValueRange)
    | _ => (s, .err errDataType)
  | .point n =>
    let typ := s.cfgN Fid.OBJ_TYPE n
    if isOutputType typ then
      if t.isNull then (s.commandPoint n slot none, .ok)
      else match pointValue typ (s.cfgN Fid.OBJ_STATES n) t with
        | .ok v => (s.commandPoint n slot (some v), .ok)
        | .error e => (s, .err e)
    else if [2, 5, 19].contains typ then
      match pointValue typ (s.cfgN Fid.OBJ_STATES n) t with
      | .ok v => s.storeProp id Prop_.presentValue (if typ = 19 then t.bytes else if typ = 5 then t.bytes else bReal v)
      | .error e => (s, .err e)
    else (s, .err errWriteDenied)
  | _ => (s, .err errWriteDenied)

/-! ### Trend logs -/

/-- Put a record into a trend log (R354): the oldest goes when the buffer is full; a log that stops when full takes none, and its Enable
turns FALSE as the record fills the buffer. -/
def State.trendAdd (n kind : Nat) (v : Word32) (s : State) : State :=
  let t := s.svc.trends.get n
  let full := decide (1024 ≤ t.records.length)
  let stops := s.storedNat (objId 20 n) Prop_.stopWhenFull 0 == 1
  if full && stops then s else
  let total := if t.total = 0xFFFFFFFF then 1 else t.total + 1
  let rec_ : TrendRec := { seq := total.toNat, stamp := s.now, kind := kind, value := v }
  let u := { s with svc.trends := s.svc.trends.set n { t with
      records := (if full then t.records.drop 1 else t.records) ++ [rec_], total := total, sinceNotify := t.sinceNotify + 1 } }
  if stops && decide (t.records.length = 1023) then (u.storeProp (objId 20 n) Prop_.enable (bBool false)).1 else u

/-- Enabled trend logs. -/
def State.trendsOn (s : State) : List Nat := (s.cfg.listed Fid.TL_LOG_ENABLE).filter (fun n => s.cfgN Fid.TL_LOG_ENABLE n == 1)

/-- Empty a buffer: a log-status record with buffer-purged stands in it (R354, R355). -/
def State.trendPurge (n : Nat) (s : State) : State :=
  State.trendAdd n 1 2 { s with svc.trends := s.svc.trends.upd n (fun t => { t with records := [], sinceNotify := 0 }) }

/-- The first record of every enabled log after start-up (R355). -/
def State.startTrends (s : State) : State :=
  State.each s.trendsOn (fun n t =>
    let u := t.trendPurge n
    { u with svc.trends := u.svc.trends.upd n (fun x => { x with on := true }) }) s

/-! ### Writing a property -/

/-- A Schedule or Calendar has changed since `old`: a plan is due where the horizon is affected (R179). -/
def State.replanIfMoved (old s : State) : State :=
  if s.cfgN Fid.WP_ENABLE = 1 ∧ old.horizon ≠ s.horizon then { s with plan.replan := true } else s

/-- What a stored write changes beside the store (R341, R339, R179); `old` stands before it. -/
def State.afterStore (old : State) (o : Obj) (prop : Nat) (ts : List Tok) (s : State) : State :=
  if prop = Prop_.objectName then { s with svc.databaseRevision := s.svc.databaseRevision + 1 }
  else match o with
    | .device => (match ts with
      | [.app 3 b] => { s with svc.utcOffset := some (sext (8 * b.length) (beNat b)) }
      | _ => s)
    | .cal _ => State.replanIfMoved old s
    | .sched _ => State.replanIfMoved old s
    | _ => s

/-- Store a checked property and what follows from it. -/
def State.storeWrite (id prop : Nat) (o : Obj) (ts : List Tok) (s : State) : State × WrRes :=
  match s.storeProp id prop (ts.flatMap Tok.bytes) with
  | (t, .ok) => (State.afterStore s o prop ts t, .ok)
  | x => x

/-- The whole value after a write of one element; none where the element does not exist. -/
def State.withElem (s : State) (id prop i : Nat) (bs : List Byte) : Option (List Byte) :=
  let es := if (s.stored id prop).isSome then s.storedElems id prop
    else if prop = Prop_.weeklySchedule then List.replicate 7 [0x0E, 0x0F]
    else if prop = Prop_.priority then List.replicate 3 (bUint 255) else []
  if 1 ≤ i ∧ i ≤ es.length then some (es.set (i - 1) bs).flatten else none

/-- Write a property of an existing object. -/
def State.writeObj (id prop : Nat) (idx : Option Nat) (slot : Nat) (o : Obj) (bs : List Byte) (s : State) : State × WrRes :=
  let whole := match idx with
    | some i => if storedArray prop then s.withElem id prop i bs else none
    | none => some bs
  match whole.map tokens with
  | none => (s, .err (if storedArray prop then errArrayIndex else errNotArray))
  | some none => (s, .err errDataType)
  | some (some ts) =>
    if prop = Prop_.presentValue then
      (match ts with
       | [t] => s.writePv id slot o t
       | _ => (s, .err errDataType))
    else if prop = Prop_.outOfService then (s, .err errWriteDenied)
    else match simpleTags id o prop, o with
      | some tags, _ => (match s.simpleError o prop ts tags with
        | some e => (s, .err e)
        | none => s.storeWrite id prop o ts)
      | none, .trend n =>
        if prop = Prop_.recordCount then
          (match ts with
           | [.app 2 b] => if beNat b = 0 then (s.trendPurge n, .ok) else (s, .err errValueRange)
           | _ => (s, .err errDataType))
        else if prop = Prop_.trigger then
          (match ts with
           | [.app 1 b] => ({ s with svc.trends := s.svc.trends.upd n (fun t => { t with due := t.due + bit (b.headD 0 != 0) }) }, .ok)
           | _ => (s, .err errDataType))
        else (match s.complexError id o prop ts with
          | some (some e) => (s, .err e)
          | some none => s.storeWrite id prop o ts
          | none => (s, .err (if (s.ownProp id o prop).isSome then errWriteDenied else errUnknownProperty)))
      | none, _ => (match s.complexError id o prop ts with
        | some (some e) => (s, .err e)
        | some none => s.storeWrite id prop o ts
        | none => (s, .err (if (s.ownProp id o prop).isSome then errWriteDenied else errUnknownProperty)))

/-! ### Evaluation (R353) -/

/-- A schedule's references. -/
def State.scheduleRefs (s : State) (n : Nat) : List PropRef :=
  let ts := s.storedToks (objId 17 n) Prop_.referenceList
  (propRefs ts.length ts).getD []

/-- The value as a reference's object takes it: a schedule's own datatype where the object has it, else converted by R325. -/
def State.refValue (s : State) (o : Obj) (t : Tok) : Tok :=
  if t.isNull then t else
  match tokValue t, tokens (s.formOf o ((tokValue t).getD 0)) with
  | some _, some [x] => x
  | _, _ => t

/-- Write a schedule's value to its references (R353). -/
def State.scheduleWrite (n : Nat) (t : Tok) (s : State) : State :=
  let slot := s.storedNat (objId 17 n) Prop_.writePriority 16
  State.each (s.scheduleRefs n) (fun r u => match u.objOf r.object with
    | some o => if u.schedulable o then (u.writePv r.object slot o (u.refValue o t)).1 else u
    | none => u) s

/-- Enabled schedules. -/
def State.schedulesOn (s : State) : List Nat := (s.cfg.listed Fid.SCHED_ENABLE).filter (fun n => s.cfgN Fid.SCHED_ENABLE n == 1)

/-- Evaluate the calendars and the schedules: a value that changes, or every value when `all`, is written to the references
(R353). The standby writes nothing (R505). -/
def State.scheduleRun (all : Bool) (s : State) : State :=
  if !s.rdy Rdy.services then s else
  let h := s.localNow
  let cals := (upTo 16).foldl (fun (t : Tbl Bool) n => t.set n (s.calendarAt n h)) ([] : Tbl Bool)
  State.each s.schedulesOn (fun n u =>
    let v := u.scheduleAt n h
    let bs := v.bytes
    let w := { u with svc := { u.svc with
      schedules := u.svc.schedules.set n (tokValue v), schedNow := u.svc.schedNow.set n bs } }
    if (all || u.svc.schedNow.get n != bs) && !u.peerHolds then w.scheduleWrite n v else w)
    { s with svc.calendars := cals }

/-- Write a property of an object by its identifier (R346–R348): what SVC_WRITE_PROPERTY and WriteProperty share. `slot` 0 is no
priority, which counts as 16. -/
def State.writeProp (id prop : Nat) (idx : Option Nat) (slot : Nat) (bs : List Byte) (s : State) : State × WrRes :=
  match s.objOf id with
  | none => (s, .err errUnknownObject)
  | some o =>
    if s.peerHolds then (s, .err errWriteDenied)
    else match s.writeObj (s.ident id) prop idx (if slot = 0 then 16 else slot) o bs with
      | (t, .ok) => ((match o with
        | .cal _ => t.scheduleRun false
        | .sched _ => t.scheduleRun false
        | _ => t), .ok)
      | x => x

/-! ### Setting the time (R338) -/

/-- TIME_BASE from a UTC time, in 1/65 536 s since 2000, received at an Almanac time. A set that moves UTC by more than 1 s is
recorded, and every enabled trend log stores it. -/
def State.setTime (source : Nat) (utc16 t16 : Int) (s : State) : State :=
  let tb := t16 - utc16 * 32768
  let moved := s.svc.timeBase - tb
  let t := State.saveTimeBase { s with svc := { s.svc with timeBase := tb, timeValid := true } }
  let u := if s.svc.timeValid && decide (tick16PerSecond < moved.natAbs) then
      State.each t.trendsOn (fun n v => v.trendAdd n 2 (F32.ofRat moved tick16PerSecond))
        (t.record 16 2 0x0201 (le 8 (ofSigned 64 (moved * 1000 / tick16PerSecond)) ++ le 1 source) true 0)
    else t
  u.scheduleRun false

end Sys2Proof.Machine
end

