-- ==== Sys2Proof/Machine/Bus.lean ====
section
/-! DEFINITION. Machine/Bus.lean: the building bus: ports, frames, the partner table and the bindings (R297–R336). -/

namespace Sys2Proof.Machine

/-! ### Ports (R297, R330, R333) -/

/-- Change a port. -/
def State.port (p : Nat) (f : Port → Port) (s : State) : State := { s with bus.ports := s.bus.ports.upd p f }

/-- Key of the switch side of port 0: ETH0 or ETH1. -/
def sideKey (side : Nat) : Nat := if side = 0 then 0 else 7

/-- An IP interface has an address (R300). -/
def State.addressed (s : State) (i : Nat) : Bool :=
  if s.cfgN Fid.IP_MODE i = 0 then s.cfgN Fid.IP_ADDR i != 0 else (s.bus.ports.get i).dhcpBound

/-- The link condition behind each READY bit from ETH0 to LINE3 (R297); on the internal RC only the LINEs run, with
MERIDIAN_LOCK (R39). -/
def State.linkHolds (s : State) (bit_ : Nat) : Bool :=
  if bit_ = Rdy.eth0 then s.sen.crystal && (s.bus.ports.get 0).link && s.addressed 0
  else if bit_ = Rdy.eth1 then s.sen.crystal && (s.bus.ports.get 7).link && s.addressed 0
  else if bit_ = Rdy.t1s then
    s.sen.crystal && s.cfgN Fid.T1S_ENABLE == 1 && (s.cfgN Fid.PLCA_ID == 255 || s.cfgN Fid.PLCA_ID == 0 || (s.bus.ports.get 1).beacons == 4)
  else
    let n := bit_ - 20
    (s.sen.crystal || s.rdy Rdy.lock) && (match s.cfgN Fid.LINE_PROTOCOL n with
      | 0 => false
      | 1 => (s.bus.ports.get (2 + n)).link
      | _ => true)

/-- Bits of the ports. -/
def portBits : List Nat := [17, 18, 19, 20, 21, 22, 23]

/-- BACnet runs on a port (R303, R331): it has a network number, and a line carries MS/TP. -/
def State.bacnetPort (s : State) (p : Nat) : Bool :=
  s.cfgN Fid.BAC_NET p != 0 && (decide (p < 2) || p == 6 || s.cfgN Fid.LINE_PROTOCOL (p - 2) == 1)

/-- BACnet ports. -/
def State.bacnetPorts (s : State) : List Nat := (upTo 7).filter s.bacnetPort

/-! ### Transmission (R304–R306, R330) -/

/-- The module transmits on a port now. -/
def State.transmits (s : State) (p : Nat) : Bool :=
  s.rdy Rdy.services && !s.peerHolds && s.portReady p && (s.bus.ports.get p).dupUntil.isNone

/-- A transmit buffer is free (R305); port 6 shares its four buffers with reception. -/
def State.txRoom (s : State) (p : Nat) : Bool :=
  if p ≤ 1 then decide ((s.bus.ports.get 0).tx.length + (s.bus.ports.get 1).tx.length < 128)
  else if p ≤ 5 then decide ((s.bus.ports.get p).tx.length < 32)
  else decide ((s.bus.ports.get p).rx.length + (s.bus.ports.get p).tx.length < 4)

/-- A frame that DISABLE and DISABLE_INITIATION hold back (R358): what the module starts of itself. -/
def initiated (f : TxFrame) : Bool := decide (3 ≤ f.cls) && f.what != .iAm && f.what != .iHave

/-- Queue a whole frame; a response that finds no buffer waits, any other frame is not queued. -/
def State.queueFrame (p : Nat) (f : TxFrame) (s : State) : State :=
  if !s.transmits p || (s.svc.dcc != .enabled && initiated f) then s
  else if s.txRoom p then s.port p (fun x => { x with tx := x.tx ++ [{ f with since := s.clock }] })
  else if f.cls = 2 then s.port p (fun x => { x with waiting := x.waiting ++ [{ f with since := s.clock }] })
  else s

/-- Registration as a foreign device (R309), once port 0 transmits. -/
def State.fdRegister (s : State) : State :=
  if s.cfgN Fid.BAC_FD_BBMD = 0 ∨ s.transmits 0 = false then s else
  State.queueFrame 0 { cls := 1, what := .bvlcRegister, address := s.cfgN Fid.BAC_FD_BBMD, data := [s.cfgN Fid.BAC_FD_TTL] }
    { s with bus.fdAt := some s.clock }

/-- The global Who-Is of the start of BACnet services on every BACnet port that transmits and has not sent it yet (R318). -/
def State.greet (s : State) : State :=
  State.each (s.bacnetPorts.filter (fun p => s.transmits p && !s.bus.greeted.contains p))
    (fun p t => t.queueFrame p { cls := 6, what := .whoIs } |> fun u => { u with bus.greeted := u.bus.greeted ++ [p] }) s

/-! ### The BACnet/SC connection (R312) -/

/-- SC_STATE (R336). -/
def State.scRecord (code : Nat) (s : State) : State := s.record3 16 2 0x0111 (le 1 s.bus.sc.code ++ le 2 code) 0

/-- Frames for port 6 are discarded while it is not connected (R312). -/
def State.scFlush (s : State) : State :=
  if s.portReady 6 then s else s.port 6 (fun p => { p with tx := [], waiting := [] })

/-- Enter a state of the BACnet/SC connection; an attempt begins with its connect request, which carries the Device UUID and the VMAC
(R313). -/
def State.scEnter (st : ScState) (code : Nat) (s : State) : State :=
  let tries := st == .connectingPrimary || st == .connectingFailover
  let t := { s with bus.sc := st, bus.scDue := none, bus.scLost := none, bus.scTrying := if tries then some s.clock else none }
  let u := if tries then t.queueFrame 0 { cls := 1, what := .connect, data := [Config.deviceUuid.toNat, (s.bus.vmac.getD 0)] } else t
  (if s.bus.sc = st then u else u.scRecord code).scFlush

/-- IDLE is left and returned to with port 0 and SC_ENABLE (R312). -/
def State.scCheck (s : State) : State :=
  let up := s.portReady 0 && s.cfgN Fid.SC_ENABLE == 1
  if !up then (if s.bus.sc = .idle then s else s.scEnter .idle 0) else if s.bus.sc = .idle then s.scEnter .connectingPrimary 0 else s

/-- The ports' READY bits follow their link conditions (R297). -/
def State.refreshPorts (s : State) : State :=
  if !s.rdy Rdy.services then s else
  (s.updateReady (portBits.filter s.linkHolds) (portBits.filter (fun b => !s.linkHolds b))).scCheck
    |> fun t => (t.when t.bus.fdAt.isNone State.fdRegister).greet

/-- MDIO_POLL (R298): PHY, link, speed code of R333, full duplex. A half-duplex link is not supported. -/
def execMdioPoll (a : At) (phy : Nat) (link : Bool) (speed : Nat) (full : Bool) (s : State) : Host.Outcome State Fault Refusal :=
  let t := s.advance a
  .next (if t.rdy Rdy.services && decide (phy < 2) then
      (t.port (sideKey phy) (fun p => { p with link := link && full, speed := if link then speed else 0 })).refreshPorts
    else t)

/-- PLCA_BEACON (R301): a beacon cycle with or without a beacon. -/
def execPlcaBeacon (a : At) (seen : Bool) (s : State) : Host.Outcome State Fault Refusal :=
  let t := s.advance a
  .next (if t.rdy Rdy.services && t.cfgN Fid.T1S_ENABLE == 1 && decide (t.cfgN Fid.PLCA_ID ≤ 31) then
      (t.port 1 (fun p => { p with beacons := if seen then min 4 (p.beacons + 1) else 0 })).refreshPorts
    else t)

/-- MSTP_TIMEOUT (R310): line, whether the station is now in the token loop or sole master, whether it holds the token. -/
def execMstpTimeout (a : At) (n : Nat) (inLoop token : Bool) (s : State) : Host.Outcome State Fault Refusal :=
  let t := s.advance a
  .next (if t.rdy Rdy.services && decide (n < 4) && t.cfgN Fid.LINE_PROTOCOL n == 1 && !t.peerHolds then
      (t.port (2 + n) (fun p => { p with link := inLoop, token := token && inLoop, infoSent := 0 })).refreshPorts
    else t)

/-- DHCP_LEASE_EXPIRY (R300): the lease of an interface is renewed at an address, or lost. -/
def execDhcpLeaseExpiry (a : At) (i : Nat) (lease : Option Nat) (s : State) : Host.Outcome State Fault Refusal :=
  let t := s.advance a
  .next (if t.rdy Rdy.services && decide (i < 2) && t.cfgN Fid.IP_MODE i == 1 then
      (t.port i (fun p => { p with dhcpBound := lease.isSome, address := lease.getD 0 })).refreshPorts
    else t)

/-! ### Transmit queues (R306) -/

/-- The frame a port sends next: the first of the lowest class (R306). -/
def nextFrame (fs : List TxFrame) : Option TxFrame :=
  fs.foldl (fun (best : Option TxFrame) f => match best with
    | none => some f
    | some b => if f.cls < b.cls then some f else some b) none

/-- RESPONSE_TIMEOUT_DISCARD (R306): responses that have waited 3 s are discarded. -/
def execResponseTimeoutDiscard (a : At) (p : Nat) (s : State) : Host.Outcome State Fault Refusal :=
  let t := s.advance a
  .next (t.port p (fun x => { x with waiting := x.waiting.filter (fun f => decide (t.clock < f.since + 3000000)) }))

/-- The abort reason OUT_OF_RESOURCES of the standard. -/
def outOfResources : Nat := 9

/-- A response to a peer, segmented beyond the maximum APDU: at most 32 segments, and at most four segmented
transactions at once (R308). The specification names no reason for a response that 32 segments do not hold. -/
def State.respond (p peer : Nat) (what : TxKind) (data : List Nat) (s : State) : State :=
  let f : TxFrame := { cls := 2, what := what, address := peer, data := data }
  if data.length ≤ maxApdu p then s.queueFrame p f
  else if 32 * maxApdu p < data.length then s.queueFrame p { cls := 2, what := .abort, address := peer }
  else if 4 ≤ s.bus.segments then s.queueFrame p { cls := 2, what := .abort, address := peer, data := [outOfResources] }
  else State.queueFrame p f { s with bus.segments := s.bus.segments + 1 }

/-! ### The partner table (R317–R324) -/

/-- Kind of a BACnet partner on a port (R317). -/
def partnerKind (p : Nat) : Nat := if p = 0 then 1 else if p = 1 then 4 else if p ≤ 5 then 3 else 2

/-- Change an entry. -/
def State.entry (i : Nat) (f : Partner → Partner) (s : State) : State := { s with bus.partners := s.bus.partners.upd i f }

/-- The generation moves (R323). -/
def State.churn (n : Nat) (s : State) : State :=
  if n = 0 then s else { s with bus.generation := s.bus.generation + BitVec.ofNat 16 n, bus.changedDue := true }

/-- Bindings configured (R325). -/
def State.bindsOn (s : State) : List Nat := (s.cfg.listed Fid.BIND_PARTNER).filter (fun b => (s.bus.binds.get b).inForce)

/-- Bindings that name an entry. -/
def State.bindsOf (s : State) (i : Nat) : List Nat := s.bindsOn.filter (fun b => s.bindPartner b == some i)

/-- An entry is bound (R317). -/
def State.bound (s : State) (i : Nat) : Bool := !(s.bindsOf i).isEmpty

/-- The entry at an address of a port. -/
def State.partnerAt (s : State) (p addr : Nat) : Option Nat :=
  (s.bus.partners.find? (fun x => x.2.state != .free && x.2.port == p && x.2.address == addr && addr != 0)).map (fun x => x.1)

/-- PARTNER records (R336). -/
def State.partnerRecord (sev code i : Nat) (extra : List Byte) (s : State) : State :=
  s.record3 16 sev code (le 2 i ++ le 4 (s.bus.partners.get i).identity ++ extra) 0

/-- The entry to evict (R320): unbound, unconfigured, oldest LAST_HEARD, lower INDEX. -/
def State.victim (s : State) : Option Nat :=
  ((s.bus.partners.filter (fun x => !x.2.configured && !s.bound x.1)).foldl (fun (best : Option (Nat × Partner)) x => match best with
    | none => some x
    | some b => if x.2.lastHeard < b.2.lastHeard then some x else some b) none).map (fun x => x.1)

/-- Enter a new partner (R320). -/
def State.newPartner (e : Partner) (s : State) : State :=
  match (upTo 2048).find? (fun i => (s.bus.partners.get i).state == .free) with
  | some i => (s.entry i (fun _ => e)).churn 1
  | none => match s.victim with
    | some i => State.churn 2 ((s.partnerRecord 0 0x0105 i []).entry i (fun _ => e))
    | none =>
      let t := { s with bus.notEntered := s.bus.notEntered + 1 }
      if t.bus.fullTurn.all (fun u => decide (u + 4096 ≤ t.turn)) then
        State.record3 16 3 0x0104 (le 4 t.bus.notEntered) 0 { t with bus.fullTurn := some t.turn, bus.notEntered := 0 }
      else t

/-- Remove an entry. -/
def State.dropPartner (i : Nat) (s : State) : State := (s.entry i (fun _ => {})).churn 1

/-- A directed Who-Is to an entry (R318, R319). -/
def State.whoIsTo (i : Nat) (s : State) : State :=
  s.queueFrame (s.bus.partners.get i).port { cls := 6, what := .whoIs, dest := i, address := (s.bus.partners.get i).address }

/-- Bindings of an entry that has become IDENTIFIED: COV is subscribed again, writes send their value at once (R329). -/
def State.bindsReturn (i : Nat) (s : State) : State :=
  let bs := s.bindsOf i
  { s with bus.binds := s.bus.binds.updAll bs (fun _ b => { b with covActive := false, covRefused := false, sendNow := true }) }

/-- A whole valid frame from an entry's ADDRESS (R319, R329). -/
def State.heard (i : Nat) (s : State) : State :=
  let e := s.bus.partners.get i
  let back := e.state == .silent || e.state == .wanted
  let t := s.entry i (fun e => { e with lastHeard := s.now, asked := false, state := if back then .identified else e.state })
  if back then
    let u := (t.churn 1).bindsReturn i
    if e.state = .silent then u.partnerRecord 1 0x0106 i [] else u
  else t

/-- The PROVISIONAL entry at an address goes (R322). -/
def State.dropProvisional (p addr : Nat) (s : State) : State :=
  match s.partnerAt p addr with
  | some j => if (s.bus.partners.get j).state = .provisional then s.dropPartner j else s
  | none => s

/-- An I-Am of a known instance (R318, R322). -/
def State.iAmKnown (i p addr net : Nat) (s : State) : State :=
  let e := s.bus.partners.get i
  if e.port = p ∧ e.address = addr then s.heard i
  else
    let t := s.dropProvisional p addr
    if e.address != 0 && e.lastHeard != 0 && !s.olderThan e.lastHeard 64 then
      (t.entry i (fun e => { e with duplicate := true })).partnerRecord 3 0x0103 i (le 8 addr)
    else
      let u := ((t.entry i (fun e => { e with
        port := p, kind := partnerKind p, address := addr, net := net, routed := net != 0, duplicate := false, asked := false
        state := .identified, lastHeard := s.now })).churn 1).bindsReturn i
      if e.address = 0 then u else u.partnerRecord 2 0x0102 i (le 8 addr)

/-- A received I-Am: port, ADDRESS, device instance, source network of a routed partner (R318). -/
def State.iAm (p addr inst net : Nat) (s : State) : State :=
  match s.partnerIdx (false, inst) with
  | some i => s.iAmKnown i p addr net
  | none =>
    let e : Partner :=
      { kind := partnerKind p, state := .identified, port := p, routed := net != 0, identity := inst, address := addr, net := net
        lastHeard := s.now, since := s.turn }
    match s.partnerAt p addr with
    | some j =>
      if (s.bus.partners.get j).state = .provisional then ((s.entry j (fun _ => e)).churn 1).bindsReturn j else s.newPartner e
    | none => s.newPartner e

/-- A frame leaves its receive buffer for a protocol layer. -/
def State.rxTake (p : Nat) (s : State) : State := s.port p (fun x => { x with rx := x.rx.tail })

/-- The stamp of receipt of the frame whose contents a protocol layer takes now (R29). -/
def State.rxStamp (s : State) (p : Nat) : Stamp := ((s.bus.ports.get p).rx.head?).getD s.now

/-- BACnet services run on a port: SERVICES, and communication is not disabled (R358). -/
def State.bacnetOn (s : State) : Bool := s.rdy Rdy.services && s.svc.dcc != .disabled

/-- I_AM (R318). -/
def execIAm (a : At) (p addr inst net : Nat) (s : State) : Host.Outcome State Fault Refusal :=
  let t := s.advance a
  .next (if t.rdy Rdy.services && !t.peerHolds && decide (p < 7) && t.bacnetPort p then (t.rxTake p).iAm p addr (inst % 2 ^ 22) net else t)

/-- PARTNER_CHANGED (R323). -/
def execPartnerChanged (a : At) (s : State) : Host.Outcome State Fault Refusal :=
  let t := s.advance a
  .next (if t.bus.changedDue && t.rdy Rdy.services && t.bus.changedTurn.all (fun u => decide (u + 64 ≤ t.turn)) then
      State.postEvent { source := 16, severity := 1, code := 0xF020, stamp := t.now, payload := le 2 t.bus.generation.toNat }
        { t with bus.changedDue := false, bus.changedTurn := some t.turn }
    else t)

/-- PROVISIONAL_TIMEOUT (R318): 4 096 turns unidentified. -/
def execProvisionalTimeout (a : At) (i : Nat) (s : State) : Host.Outcome State Fault Refusal :=
  let t := s.advance a
  let e := t.bus.partners.get i
  .next (if t.rdy Rdy.services && e.state == .provisional && decide (e.since + 4096 ≤ t.turn) then t.dropPartner i else t)

/-- PARTNER_HALF_SILENCE (R319). -/
def execPartnerHalfSilence (a : At) (i : Nat) (s : State) : Host.Outcome State Fault Refusal :=
  let t := s.advance a
  let e := t.bus.partners.get i
  .next (if t.rdy Rdy.services && !t.peerHolds && e.state == .identified && e.kind != 5 && !e.asked &&
      decide (t.cfgN Fid.BUS_SILENCE / 2 ≤ t.turnsSince e.lastHeard) then
      (t.entry i (fun e => { e with asked := true })).whoIsTo i
    else t)

/-- An entry falls silent (R319, R329). -/
def State.fallSilent (i : Nat) (s : State) : State :=
  if s.bound i || (s.bus.partners.get i).configured then
    ((s.entry i (fun e => { e with state := .silent })).churn 1).partnerRecord 3 0x0101 i []
  else s.dropPartner i

/-- PARTNER_SILENT (R319). -/
def execPartnerSilent (a : At) (i : Nat) (s : State) : Host.Outcome State Fault Refusal :=
  let t := s.advance a
  let e := t.bus.partners.get i
  .next (if t.rdy Rdy.services && !t.peerHolds && e.state == .identified && e.kind != 5 &&
      decide (t.cfgN Fid.BUS_SILENCE ≤ t.turnsSince e.lastHeard) then t.fallSilent i
    else t)

/-- A global Who-Is on every BACnet port (R318). -/
def State.whoIsAll (s : State) : State :=
  State.each s.bacnetPorts (fun p t => t.queueFrame p { cls := 6, what := .whoIs }) { s with bus.whoIsTurn := s.turn }

/-- WHOIS_PERIOD (R318). -/
def execWhoisPeriod (a : At) (s : State) : Host.Outcome State Fault Refusal :=
  let t := s.advance a
  .next (if t.rdy Rdy.services && !t.peerHolds && decide (t.bus.whoIsTurn + t.cfgN Fid.BUS_WHOIS_PERIOD ≤ t.turn) then t.whoIsAll else t)

/-- The 16 bytes of a bound entry (R450). -/
def Partner.saved (e : Partner) : List Byte := le 4 e.identity ++ le 1 e.kind ++ le 1 e.port ++ le 2 e.net ++ le 8 e.address

/-- Groups of 128. -/
def chunks128 : Nat → List (List Byte) → List (List Byte)
  | 0, _ => []
  | _, [] => []
  | n + 1, xs => (xs.take 128).flatten :: chunks128 n (xs.drop 128)

/-- Save the bound entries as a set (R324, R449): members not changed are listed again. -/
def State.savePartners (s : State) : State :=
  let es := (s.bus.partners.filter (fun x => s.bound x.1)).map (fun x => x.2.saved)
  let gs := (chunks128 14 es).zipIdx
  let t := State.each (gs.filter (fun g => s.nv.load 5 g.2 != some g.1)) (fun g u => u.save { typ := 5, key := g.2, payload := g.1, flags := 1 }) s
  let seqOf := fun (g : List Byte × Nat) => match s.nv.inForceRaw 5 g.2 with
    | some r => if s.nv.payload r = g.1 then r.seq else (r.seq + 1) % 2 ^ 32
    | none => 1
  State.save { typ := 5, key := 0xFFFF, payload := gs.flatMap (fun g => le 2 g.2 ++ le 4 (seqOf g)), flags := 2 }
    { t with bus.savedTurn := s.turn }

/-- PARTNER_SAVE (R324). -/
def execPartnerSave (a : At) (s : State) : Host.Outcome State Fault Refusal :=
  let t := s.advance a
  .next (if t.rdy Rdy.services && decide (t.bus.savedTurn + 65536 ≤ t.turn) then t.savePartners else t)

/-- Entries of a saved member. -/
def savedEntries : Nat → List Byte → List Partner
  | 0, _ => []
  | n + 1, bs =>
    if bs.length < 16 then [] else
    { kind := fieldAt bs 4 1, state := .wanted, port := fieldAt bs 5 1, identity := fieldAt bs 0 4, net := fieldAt bs 6 2
      address := fieldAt bs 8 8, routed := fieldAt bs 6 2 != 0 } :: savedEntries n (bs.drop 16)

/-- The bound entries as restored at the start: WANTED (R324). -/
def State.restorePartners (s : State) : State :=
  let ms := s.nv.members 5
  let whole := ms.all (fun m => (s.nv.inForce 5 m.1).any (fun r => r.seq == m.2))
  let es := if whole then ms.flatMap (fun m => savedEntries 128 ((s.nv.load 5 m.1).getD [])) else []
  let es := es.filter (fun e => e.kind != 5)
  { s with bus.partners := (es.zipIdx).foldl (fun (t : Tbl Partner) x => t.set x.2 x.1) ([] : Tbl Partner) }

/-! ### Requests of the module (R308, R314) -/

/-- Change a binding. -/
def State.bind (b : Nat) (f : Bind → Bind) (s : State) : State := { s with bus.binds := s.bus.binds.upd b f }

/-- ADDRESS a request goes to. -/
def State.requestTo (s : State) (o : Outstanding) : Nat :=
  if o.partner = 65535 then o.address else (s.bus.partners.get o.partner).address

/-- The Modbus function that a request uses (R314): that of its bindings, and 16 to write a 32-bit item. -/
def State.mbRequestFn (s : State) (o : Outstanding) : Nat :=
  if o.what != .modbusRequest then 0
  else if 2 ≤ o.encoded.length then 16 else bitsOf (s.cfgN Fid.BIND_OBJECT (o.binds.headD 0)) 24 8

/-- The frame of a request. -/
def State.requestFrame (s : State) (o : Outstanding) : TxFrame :=
  { cls := o.cls, what := o.what, dest := o.partner, address := s.requestTo o, data := o.id :: o.binds, fn := s.mbRequestFn o }

/-- Send a confirmed request: its frame is queued and it waits for an answer. -/
def State.request (cls : Nat) (o : Outstanding) (s : State) : State :=
  let id := s.bus.nextRequest
  let r := { o with id := id, cls := cls, sent := none, turn := s.turn }
  State.queueFrame o.port (s.requestFrame r) { s with bus := { s.bus with nextRequest := id + 1, requests := s.bus.requests ++ [r] } }

/-- A request without an answer is sent again, in its own class (R306). -/
def State.repeatRequest (o : Outstanding) (s : State) : State :=
  State.queueFrame o.port (s.requestFrame o) { s with
    bus.requests := s.bus.requests.map (fun (r : Outstanding) => if r.id = o.id then { r with retries := r.retries + 1, sent := none } else r) }

/-- A request has stood without an answer for so many microseconds since it was sent; one that no queue took counts from its turn. -/
def State.overdue (s : State) (o : Outstanding) (us : Nat) : Bool := o.sent.any (fun c => decide (c + us ≤ s.clock))

/-- A binding's last read has failed, or its last write (R327, R328). -/
def Bind.fails (x : Bind) (write : Bool) : Bind :=
  { x with errors := x.errors + 1, writeFailed := x.writeFailed || write, repeats := x.repeats || write, readFailed := x.readFailed || !write }

/-- The value a binding has read, with the stamp at which its frame was received (R29, R325). -/
def State.bindValue (b : Nat) (at_ : Stamp) (v : Option Word32) (fault : Bool) (s : State) : State :=
  s.sampleFirst.bind b (fun x => { x with value := v, stamp := at_, faultFlag := fault })

/-- Take a request out of those outstanding. -/
def State.closeRequest (id : Nat) (s : State) : State :=
  { s with bus.requests := s.bus.requests.filter (fun o => o.id != id) }

/-- NOTIFY_FAILED (R357). -/
def State.notifyFailed (cls missed : Nat) (s : State) : State :=
  if missed = 0 then s else s.record 16 2 0x0203 (le 1 cls ++ le 1 missed) true 0

/-- A request has failed for good. -/
def State.requestFails (o : Outstanding) (s : State) : State :=
  let t := s.closeRequest o.id
  match o.what with
  | .subscribe => State.each o.binds (fun b u => u.bind b (fun x => { x with covRefused := true, covActive := false })) t
  | .eventNotification => t.notifyFailed (o.binds.headD 0) 1
  | .readRequest => State.each o.binds (fun b u => u.bind b (fun x => x.fails false)) t
  | .writeRequest => State.each o.binds (fun b u => u.bind b (fun x => x.fails true)) t
  | .modbusRequest =>
    State.each o.binds (fun b u => u.bind b (fun x => x.fails (s.cfgN Fid.BIND_DIR b == 1))) t
  | _ => t

/-- A request is acknowledged with these values, one for each binding it reads. -/
def State.requestDone (at_ : Stamp) (o : Outstanding) (vs : List (List Byte × Bool)) (s : State) : State :=
  let t := s.closeRequest o.id
  match o.what with
  | .subscribe => State.each o.binds (fun b u => u.bind b (fun x => { x with covActive := true, covRefused := false, covSince := s.clock })) t
  | .readRequest => State.each (o.binds.zip vs) (fun x u => u.bindValue x.1 at_ (valueOf x.2.1) x.2.2) t
  | .writeRequest => State.each o.binds (fun b u => u.bind b (fun x => { x with writeFailed := false, repeats := false })) t
  | _ => t

/-- The answer a frame carries (R325). -/
def State.answerApdu (at_ : Stamp) (x : BusApdu) (s : State) : State :=
  match x with
  | .other => s
  | .unrecognized => s
  | .ack id vs => match s.bus.requests.find? (fun o => o.id == id) with
    | some o => s.requestDone at_ o vs
    | none => s
  | .refused id => match s.bus.requests.find? (fun o => o.id == id) with
    | some o => s.requestFails o
    | none => s

/-- APDU_TIMEOUT (R308): 3 s without an answer since it was sent; two retries. -/
def execApduTimeout (a : At) (id : Nat) (s : State) : Host.Outcome State Fault Refusal :=
  let t := s.advance a
  .next (match t.bus.requests.find? (fun o => o.id == id && o.what != .modbusRequest) with
    | some o =>
      if !t.overdue o 3000000 then t else if o.retries < 2 then t.repeatRequest o else t.requestFails o
    | none => t)

/-! ### Frames (R299–R304, R310) -/

/-- The switch learns a source address, ages the others after 300 s, and keeps 1 024 (R299). -/
def State.learn (src side : Nat) (s : State) : State :=
  let kept := s.bus.macs.filter (fun m => m.1 != src && decide (s.clock < m.2.2 + 300000000))
  if kept.length < 1024 then { s with bus.macs := kept ++ [(src, side, s.clock)] } else { s with bus.macs := kept }

/-- A group address: the first bit of the first byte on the wire. -/
def groupAddress (mac : Nat) : Bool := bitOf mac 40

/-- The internal port (0) or the T1S interface (1) takes a frame to this destination (R299, R300). -/
def toInterface (i dst : Nat) : Bool := groupAddress dst || dst == (Config.mac i).toNat

/-- LD is powered and runs, so that the switch forwards (R299). -/
def State.switchRuns (s : State) : Bool := s.sup.state != .off && !s.sup.asleep && s.bin.resetHeld == 0 && s.sen.crystal

/-- The switch forwards to the other side unless the destination is known to lie on this one or is the internal port's own; a full egress
memory drops the frame (R299). -/
def State.forward (dst side : Nat) (s : State) : State :=
  let near := (!groupAddress dst && toInterface 0 dst) || s.bus.macs.any (fun m => m.1 == dst && m.2.1 == side)
  let k := sideKey (1 - side)
  if near || decide (64 ≤ (s.bus.ports.get k).egress) then s else s.port k (fun p => { p with egress := p.egress + 1 })

/-- A receive buffer is free (R305). -/
def State.rxRoom (s : State) (p : Nat) : Bool :=
  if p ≤ 1 then decide ((s.bus.ports.get 0).rx.length + (s.bus.ports.get 1).rx.length < 256)
  else if p ≤ 5 then decide ((s.bus.ports.get p).rx.length < 32)
  else decide ((s.bus.ports.get p).rx.length + (s.bus.ports.get p).tx.length < 4)

/-- Size of a port's receive buffers (R305). -/
def rxSize (p : Nat) : Nat := if p ≤ 1 then 1536 else if p ≤ 5 then 512 else 16384

/-- The second of the module clock, for the 4 000 frames of R300. -/
def State.second (s : State) : Nat := s.clock / 1000000

/-- The ARP cache of 256 entries (R300). -/
def State.arpLearn (p ip mac : Nat) (s : State) : State :=
  if ip = 0 ∨ 1 < p then s else
  let rest := s.bus.arp.filter (fun x => x.1 != p || x.2.1 != ip)
  let mine := rest.filter (fun x => x.1 == p)
  let gone := if mine.length < 256 then rest else rest.erase (mine.headD (0, 0, 0))
  { s with bus.arp := gone ++ [(p, ip, mac)] }

/-- The node in whose transmit opportunity a T1S frame began, while the port runs PLCA (R301). -/
def State.plcaNode (s : State) (f : BusFrame) : Option Nat :=
  if f.port = 1 ∧ s.cfgN Fid.T1S_ENABLE = 1 ∧ s.cfgN Fid.PLCA_ID ≤ 31 then
    f.node.filter (fun n => n != s.cfgN Fid.PLCA_ID && decide (n < s.cfgN Fid.PLCA_COUNT))
  else none

/-- The node ID is recorded against the source address; the segment has at most 32 nodes (R301). -/
def State.recordNode (f : BusFrame) (s : State) : State :=
  match s.plcaNode f with
  | some n => { s with bus.nodes := (s.bus.nodes.filter (fun x => x.2 != n && x.1 != f.src)) ++ [(f.src, n)] }
  | none => s

/-- Discovery by a frame: a station that answers poll-for-master, or a T1S node (R301, R318). -/
def State.discover (f : BusFrame) (s : State) : State :=
  let found := (decide (2 ≤ f.port) && decide (f.port ≤ 5) && s.cfgN Fid.LINE_PROTOCOL (f.port - 2) == 1 && f.pollReply &&
      decide (f.src ≤ s.cfgN Fid.MSTP_MAX_MASTER (f.port - 2))) || (s.plcaNode f).isSome
  if !found || f.address == 0 || (s.partnerAt f.port f.address).isSome then s else
  let t := s.newPartner { kind := partnerKind f.port, state := .provisional, port := f.port, address := f.address, lastHeard := s.now, since := s.turn }
  match t.partnerAt f.port f.address with
  | some i => t.whoIsTo i
  | none => t

/-- A frame that carries this station's MS/TP address (R310). -/
def State.dupMac (p : Nat) (s : State) : State :=
  State.record3 (18 + p) 3 0x0110 (le 1 (p - 2) ++ le 1 (s.cfgN Fid.MSTP_MAC (p - 2))) 0
    (s.port p (fun x => { x with dupUntil := some (s.turn + 64) }))

/-- A frame from this module's own MS/TP address. -/
def State.ownMac (s : State) (f : BusFrame) : Bool :=
  decide (2 ≤ f.port) && decide (f.port ≤ 5) && s.cfgN Fid.LINE_PROTOCOL (f.port - 2) == 1 && f.src == s.cfgN Fid.MSTP_MAC (f.port - 2)

/-- The standby hears a beat from the active (R506): on an MS/TP line, a frame from the pair's own address. -/
def State.hearBeat (f : BusFrame) (s : State) : State :=
  if s.pair.role == .standby && bitOf (s.cfgN Fid.PAIR_HB_PORTS) f.port && (f.beat || s.ownMac f) then { s with pair.lastBeat := s.mer.stamp } else s

/-- A received segmented APDU begins or ends: a fifth transaction is answered Abort (R308). -/
def State.segments (f : BusFrame) (s : State) : State :=
  if f.segFirst && decide (4 ≤ s.bus.segments) then s.queueFrame f.port { cls := 2, what := .abort, address := f.address, data := [outOfResources] }
  else { s with bus.segments := s.bus.segments + bit f.segFirst - bit f.segLast }

/-- A frame passes to its protocol layer, or is dropped whole (R300, R304, R305). -/
def State.accept (f : BusFrame) (s0 : State) : State :=
  let s := s0.hearBeat f
  let x := s.bus.ports.get f.port
  let limited := f.port == 0 && x.second == s.second && decide (4000 ≤ x.inSecond)
  if limited || !s.rxRoom f.port || decide (rxSize f.port < f.length) then
    s.port f.port (fun x => { x with dropped := min 65535 (x.dropped + 1) })
  else
    let t := s.port f.port (fun x => { x with
      rx := x.rx ++ [s.now], second := s.second, inSecond := if x.second = s.second then x.inSecond + 1 else 1
      framesIn := if f.port = 0 then x.framesIn else x.framesIn + 1 })
    let u := (t.arpLearn f.port f.ip f.src).recordNode f
    let v := match u.partnerAt f.port f.address with
      | some i => u.heard i
      | none => u.discover f
    let w := (if v.ownMac f && !v.peerHolds then v.dupMac f.port else v).segments f
    match f.apdu with
    | .other => w
    | .unrecognized =>
      let x := w.rxTake f.port
      if x.bacnetOn && !x.peerHolds && x.bacnetPort f.port then x.respond f.port f.address .reject [9] else x
    | y => if w.bacnetPort f.port then (w.rxTake f.port).answerApdu (w.rxStamp f.port) y else w.rxTake f.port

/-- A frame on a port other than the switch's reaches its port engine: the port is set up and its clock runs (R39, R303, R312). -/
def State.portHears (s : State) (f : BusFrame) : Bool :=
  if f.port = 1 then s.sen.crystal && s.cfgN Fid.T1S_ENABLE == 1
  else if f.port ≤ 5 then (s.sen.crystal || s.rdy Rdy.lock) && s.cfgN Fid.LINE_PROTOCOL (f.port - 2) != 0
  else s.sen.crystal && s.portReady 6

/-- BUS_FRAME_RECEIVED (R304). -/
def execBusFrameReceived (a : At) (f : BusFrame) (s : State) : Host.Outcome State Fault Refusal :=
  let t := s.advance a
  let whole := f.fcsOk && (decide (2 ≤ f.port) || (decide (64 ≤ f.length) && decide (f.length ≤ 1522)))
  .next (if !whole || decide (7 ≤ f.port) then t
    else if f.port = 0 then
      if !t.switchRuns then t else
      let u := ((t.port (sideKey f.side) (fun p => { p with framesIn := p.framesIn + 1 })).learn f.src f.side).forward f.dst f.side
      if t.rdy Rdy.services && toInterface 0 f.dst && !f.tagged then u.accept f else u
    else if t.rdy Rdy.services && t.portHears f then t.accept f
    else t)

/-- DUP_MAC_HOLD_END (R310). -/
def execDupMacHoldEnd (a : At) (n : Nat) (s : State) : Host.Outcome State Fault Refusal :=
  let t := s.advance a
  .next (if (t.bus.ports.get (2 + n)).dupUntil.any (fun u => decide (u ≤ t.turn)) then t.port (2 + n) (fun p => { p with dupUntil := none }) else t)

/-! ### Reading bindings (R325, R326) -/

/-- Whether a binding's partner is a Modbus one. -/
def State.bindModbus (s : State) (b : Nat) : Bool := bitsOf (s.cfgN Fid.BIND_PARTNER b) 28 4 == 2

/-- Modbus function and address of a binding (R331). -/
def State.mbFunction (s : State) (b : Nat) : Nat := bitsOf (s.cfgN Fid.BIND_OBJECT b) 24 8
def State.mbAddress (s : State) (b : Nat) : Nat := s.cfgN Fid.BIND_OBJECT b % 65536

/-- Registers or bits that an encoding takes. -/
def mbWidth (enc : Nat) : Nat := if enc ≤ 1 ∨ enc = 8 then 1 else 2

/-- The bus works for a binding now: a Modbus partner need not answer yet (R318). -/
def State.bindCanPoll (s : State) (b : Nat) : Bool :=
  s.svc.dcc == .enabled && (match s.bindPartner b with
    | some i => s.transmits (s.bus.partners.get i).port && ((s.bus.partners.get i).state == .identified || s.bindModbus b)
    | none => false)

/-- A read binding polls at a due turn (R326): a COV binding only when refused or not notified for a period. -/
def State.pollDue (s : State) (b : Nat) : Bool :=
  let p := s.cfgN Fid.BIND_PERIOD b
  let x := s.bus.binds.get b
  x.inForce && s.cfgN Fid.BIND_DIR b == 0 && s.turn % p == b % p && x.pollTurn != some s.turn &&
    (s.cfgN Fid.BIND_METHOD b == 0 || x.covRefused || decide (x.lastNotified + p ≤ s.turn))

/-- A request of this turn that a due read joins (R314, R326). -/
def State.mergeInto (s : State) (b i : Nat) : Option Outstanding :=
  s.bus.requests.find? (fun o => o.partner == i && o.turn == s.turn && o.sent.isNone && !o.binds.contains b &&
    (if s.bindModbus b then
      o.what == .modbusRequest && o.binds.all (fun c => s.cfgN Fid.BIND_DIR c == 0 && s.mbFunction c == s.mbFunction b) &&
        o.binds.any (fun c => decide (s.mbAddress c ≤ s.mbAddress b + 8) && decide (s.mbAddress b ≤ s.mbAddress c + 8)) &&
        o.binds.all (fun c => decide (s.mbAddress b + mbWidth (s.cfgN Fid.BIND_ENCODING b) ≤
            s.mbAddress c + (if s.mbFunction b ≤ 2 then 2000 else 125)) &&
          decide (s.mbAddress c + mbWidth (s.cfgN Fid.BIND_ENCODING c) ≤ s.mbAddress b + (if s.mbFunction b ≤ 2 then 2000 else 125)))
    else o.what == .readRequest && decide (o.binds.length < 64)))

/-- Poll a binding. -/
def State.poll (b i : Nat) (s0 : State) : State :=
  let s := s0.bind b (fun x => { x with pollTurn := some s0.turn })
  match s.mergeInto b i with
  | some o =>
    let p := o.port
    let t := { s with bus.requests := s.bus.requests.map (fun (r : Outstanding) => if r.id = o.id then { r with binds := r.binds ++ [b] } else r) }
    t.port p (fun x => { x with tx := x.tx.map (fun (f : TxFrame) => if f.data.head? = some o.id ∧ f.cls = 4 then { f with data := f.data ++ [b] } else f) })
  | none => s.request 4
      { port := (s.bus.partners.get i).port, what := if s.bindModbus b then .modbusRequest else .readRequest, partner := i, binds := [b] }

/-- BINDING_POLL (R326). -/
def execBindingPoll (a : At) (b : Nat) (s : State) : Host.Outcome State Fault Refusal :=
  let t := s.advance a
  .next (match t.bindPartner b with
    | some i => if t.pollDue b && t.bindCanPoll b then t.poll b i else t
    | none => t)

/-- COV_RENEW (R326): the first subscription, and a renewal at three quarters of the lifetime. -/
def execCovRenew (a : At) (b : Nat) (s : State) : Host.Outcome State Fault Refusal :=
  let t := s.advance a
  let x := t.bus.binds.get b
  let due := if x.covActive then decide (x.covSince + t.cfgN Fid.BIND_COV_LIFE b * 750000 ≤ t.clock) else !x.covRefused
  let open_ := t.bus.requests.any (fun o => o.what == .subscribe && o.binds == [b])
  .next (match t.bindPartner b with
    | some i =>
      if x.inForce && t.cfgN Fid.BIND_DIR b == 0 && t.cfgN Fid.BIND_METHOD b == 1 && due && !open_ && t.bindCanPoll b then
        t.request 4 { port := (t.bus.partners.get i).port, what := .subscribe, partner := i, binds := [b] }
      else t
    | none => t)

/-- COV_NOTIFICATION (R325): port and ADDRESS it comes from, object, value, FAULT flag, and whether it asks for an answer. -/
def execCovNotification (a : At) (p addr object : Nat) (value : List Byte) (fault confirmed : Bool) (s : State) :
    Host.Outcome State Fault Refusal :=
  let t := s.advance a
  .next (if t.bacnetOn && !t.peerHolds && decide (p < 7) && t.bacnetPort p then
      let at_ := t.rxStamp p
      let u := t.rxTake p
      let v := match u.partnerAt p addr with
        | some i => State.each ((u.bindsOf i).filter (fun b => u.cfgN Fid.BIND_DIR b == 0 && u.cfgN Fid.BIND_METHOD b == 1 &&
            u.cfgN Fid.BIND_OBJECT b == object && u.cfgN Fid.BIND_PROPERTY b % 65536 == Prop_.presentValue))
            (fun b w => (w.bindValue b at_ (valueOf value) fault).bind b (fun x => { x with lastNotified := w.turn })) u
        | none => u
      if confirmed then v.respond p addr .response [] else v
    else t)

/-! ### Modbus as master (R314) -/

/-- A value from registers or bits, from `off` on (R325). -/
def mbDecode (enc : Nat) (regs : List Nat) (off : Nat) : Option Word32 :=
  let r0 := regs.getD off 0 % 65536
  let r1 := regs.getD (off + 1) 0 % 65536
  let w := if enc % 2 = 0 then r0 * 65536 + r1 else r1 * 65536 + r0
  if regs.length < off + mbWidth enc then none
  else match enc with
    | 0 => some (F32.ofNat r0)
    | 1 => some (F32.ofInt (sext 16 r0))
    | 2 => some (F32.ofNat w)
    | 3 => some (F32.ofNat w)
    | 4 => some (F32.ofInt (sext 32 w))
    | 5 => some (F32.ofInt (sext 32 w))
    | 8 => some (onOff (r0 != 0))
    | _ => some (BitVec.ofNat 32 w)

/-- A value as registers or a bit (R325). -/
def mbEncode (enc : Nat) (v : Word32) : List Nat :=
  let int := fun (bits : Nat) (lo hi : Int) => ofSigned bits ((F32.toRange v 1 lo hi).getD 0)
  let pair := fun (w : Nat) => if enc % 2 = 0 then [w / 65536, w % 65536] else [w % 65536, w / 65536]
  match enc with
  | 0 => [int 16 0 65535]
  | 1 => [int 16 (-32768) 32767]
  | 2 => pair (int 32 0 4294967295)
  | 3 => pair (int 32 0 4294967295)
  | 4 => pair (int 32 (-2147483648) 2147483647)
  | 5 => pair (int 32 (-2147483648) 2147483647)
  | 8 => [bit (F32.le fifty v)]
  | _ => pair v.toNat

/-- Lowest address of a merged read. -/
def State.mbBase (s : State) (bs : List Nat) : Nat := bs.foldl (fun m b => min m (s.mbAddress b)) 65535

/-- MODBUS_REPLY (R314): request that was sent, whether the reply is an exception, and the registers or bits from the lowest address on. -/
def execModbusReply (a : At) (id : Nat) (exception : Bool) (regs : List Nat) (s : State) : Host.Outcome State Fault Refusal :=
  let t := s.advance a
  .next (match t.bus.requests.find? (fun o => o.id == id && o.what == .modbusRequest && o.sent.isSome) with
    | some o =>
      let at_ := t.rxStamp o.port
      let u := (t.rxTake o.port).heard o.partner
      if exception then u.requestFails o
      else State.each o.binds (fun b v =>
        if v.cfgN Fid.BIND_DIR b = 1 then v.bind b (fun x => { x with writeFailed := false, repeats := false })
        else v.bindValue b at_ (mbDecode (v.cfgN Fid.BIND_ENCODING b) regs (v.mbAddress b - v.mbBase o.binds)) false) (u.closeRequest id)
    | none => t)

/-- MODBUS_TIMEOUT (R314): MB_TIMEOUT without a valid reply to a request that was sent; after the last repeat the partner is SILENT (R318). -/
def execModbusTimeout (a : At) (id : Nat) (s : State) : Host.Outcome State Fault Refusal :=
  let t := s.advance a
  .next (match t.bus.requests.find? (fun o => o.id == id && o.what == .modbusRequest) with
    | some o =>
      let line := o.port - 2
      if !t.overdue o (t.cfgN Fid.MB_TIMEOUT line * 1000) then t
      else if o.retries < t.cfgN Fid.MB_RETRY line then t.repeatRequest o
      else
        let u := t.requestFails o
        if (u.bus.partners.get o.partner).state = .identified then u.fallSilent o.partner else u
    | none => t)

/-! ### Writing bindings (R328) -/

/-- The destination value of a write binding after the scaler; none while nothing owns it. -/
def State.bindDestination (s : State) (b : Nat) : Option Word32 :=
  match s.bindDriver b with
  | .guard on => some (onOff on)
  | .point v => some v
  | .loop _ v => some v
  | .zone _ v => some v
  | _ => none

/-- The fast loop that owns a write binding. -/
def State.bindLoop (s : State) (b : Nat) : Option Nat :=
  match s.bindDriver b with
  | .loop n _ => some n
  | _ => none

/-- A write of this binding stands unsent in its queue. -/
def State.writeUnsent (s : State) (p b : Nat) : Option Nat :=
  ((s.bus.ports.get p).tx.find? (fun f => f.cls == 3 && f.what != .relinquish && f.data.drop 1 == [b])).bind (fun f => f.data.head?)

/-- A binding's value as its partner takes it (R325): registers in its encoding, or the BACnet form of its object's type. -/
def State.bindEncoded (s : State) (b : Nat) (v : Word32) : List Nat :=
  if s.bindModbus b then mbEncode (s.cfgN Fid.BIND_ENCODING b) v
  else (writeForm (s.cfgN Fid.BIND_OBJECT b / 2 ^ 22) v).map (fun x => x.toNat)

/-- Queue a binding's value: it replaces an unsent one; without a buffer it stays pending (R306, R328). -/
def State.sendWrite (b i : Nat) (v : Word32) (s : State) : State :=
  let p := (s.bus.partners.get i).port
  let queued := fun (x : Bind) => { x with pending := some v, sendNow := false, repeats := false }
  match s.writeUnsent p b with
  | some id => State.bind b queued
      { s with bus.requests := s.bus.requests.map (fun (r : Outstanding) => if r.id = id then { r with value := v, encoded := s.bindEncoded b v } else r) }
  | none =>
    if s.txRoom p then
      State.bind b queued (s.request 3
        { port := p, what := if s.bindModbus b then .modbusRequest else .writeRequest, partner := i, binds := [b], value := v
          encoded := s.bindEncoded b v })
    else s.bind b (fun x => { x with pending := some v })

/-- Whether a binding's value is sent now (R328): compared with the value that awaits sending, else with the last one sent. -/
def State.writeDue (s : State) (b : Nat) (v : Word32) : Bool :=
  let x := s.bus.binds.get b
  match x.pending.orElse (fun _ => x.lastSent) with
  | none => true
  | some u => F32.lt (s.cfgW Fid.BIND_DEADBAND b) (F32.abs (F32.sub v u)) || x.sendNow ||
      (x.pending.isNone && decide (x.lastSentTurn + s.cfgN Fid.BIND_HEARTBEAT b ≤ s.turn))

/-- At an apply angle of their owner the write bindings take their destination values after the scaler (R28, R328): those that fast loop
`n` owns at its own, every other at the floor's. -/
def State.offerWrites (n : Option Nat) (s : State) : State :=
  State.each (s.bindsOn.filter (fun b => s.cfgN Fid.BIND_DIR b == 1 && s.bindLoop b == n))
    (fun b t => t.bind b (fun x => { x with offered := (t.bindDestination b).orElse (fun _ => x.offered) })) s

/-- BINDING_WRITE (R328): the value taken at the apply angle is sent when it is due. -/
def execBindingWrite (a : At) (b : Nat) (s : State) : Host.Outcome State Fault Refusal :=
  let t := s.advance a
  let u := t.bind b (fun x => { x with offered := none })
  .next (match t.bindPartner b, (t.bus.binds.get b).offered with
    | some i, some v =>
      if (t.bus.binds.get b).inForce && t.cfgN Fid.BIND_DIR b == 1 && t.bindCanPoll b && t.writeDue b v then u.sendWrite b i v else u
    | _, _ => t)

/-- BINDING_WRITE_RETRY (R328): a failed write is repeated every BIND_PERIOD turns. -/
def execBindingWriteRetry (a : At) (b : Nat) (s : State) : Host.Outcome State Fault Refusal :=
  let t := s.advance a
  let x := t.bus.binds.get b
  let p := t.cfgN Fid.BIND_PERIOD b
  .next (match t.bindPartner b, x.pending.orElse (fun _ => x.lastSent) with
    | some i, some v =>
      if x.inForce && x.repeats && t.turn % p == b % p && t.bindCanPoll b then t.sendWrite b i v else t
    | _, _ => t)

/-- Ports that share the transmit buffers of a port (R305). -/
def bufferMates (p : Nat) : List Nat := if p ≤ 1 then [0, 1] else [p]

/-- Room in a queue lets a waiting response, and then a pending binding write, be queued (R306). -/
def State.roomMade (p : Nat) (s : State) : State :=
  match (bufferMates p).find? (fun q => !(s.bus.ports.get q).waiting.isEmpty) with
  | some q =>
    let fs := (s.bus.ports.get q).waiting
    State.queueFrame q (fs.headD {}) (s.port q (fun x => { x with waiting := fs.tail }))
  | none =>
    match s.bindsOn.find? (fun b => (s.bus.binds.get b).pending.isSome &&
        (s.bindPartner b).any (fun i => (bufferMates p).contains (s.bus.partners.get i).port && (s.writeUnsent (s.bus.partners.get i).port b).isNone)) with
    | some b => match s.bindPartner b, (s.bus.binds.get b).pending with
      | some i, some v => s.sendWrite b i v
      | _, _ => s
    | none => s

/-- A frame of the module is sent from a port: a request waits for its answer from now on, and a binding write has been sent. -/
def State.frameSent (p side : Nat) (f : TxFrame) (s : State) : State :=
  let t := s.port p (fun x => { x with
    tx := x.tx.erase f, framesOut := if p = 0 then x.framesOut else x.framesOut + 1, infoSent := if f.cls = 1 then x.infoSent else x.infoSent + 1 })
  let u := if p = 0 then t.port (sideKey side) (fun x => { x with framesOut := x.framesOut + 1 }) else t
  let v := { u with
    bus.segments := if maxApdu p < f.data.length then u.bus.segments - 1 else u.bus.segments
    bus.requests := u.bus.requests.map (fun (r : Outstanding) => if r.cls = f.cls ∧ r.what = f.what ∧ f.data.head? = some r.id ∧ r.port = p then { r with sent := some u.clock } else r) }
  let w := if f.cls = 3 && f.what != .relinquish then
      State.each (f.data.drop 1) (fun b x => x.bind b (fun y => match y.pending with
        | some q => { y with pending := none, lastSent := some q, lastSentTurn := x.turn }
        | none => { y with lastSentTurn := x.turn })) v
    else v
  w.roomMade p

/-- A port may send this frame now: a line in MS/TP with the token and up to MSTP_MAX_INFO frames, but for network control (R310); a Modbus
master one request at a time (R314). -/
def State.maySend (s : State) (p : Nat) (f : TxFrame) : Bool :=
  let x := s.bus.ports.get p
  if 2 ≤ p ∧ p ≤ 5 then
    if s.cfgN Fid.LINE_PROTOCOL (p - 2) = 1 then f.cls == 1 || (x.token && decide (x.infoSent < s.cfgN Fid.MSTP_MAX_INFO (p - 2)))
    else f.what != .modbusRequest || !s.bus.requests.any (fun r => r.port == p && r.what == .modbusRequest && r.sent.isSome)
  else true

/-- BUS_FRAME_SENT (R306): port, side of the switch, and whether it is a frame the switch forwards. -/
def execBusFrameSent (a : At) (p side : Nat) (forwarded : Bool) (s : State) : Host.Outcome State Fault Refusal :=
  let t := s.advance a
  .next (if forwarded then
      if 0 < (t.bus.ports.get (sideKey side)).egress && t.switchRuns then
        t.port (sideKey side) (fun x => { x with egress := x.egress - 1, framesOut := x.framesOut + 1 })
      else t
    else match nextFrame ((t.bus.ports.get p).tx.filter (t.maySend p)) with
      | some f => if t.transmits p then t.frameSent p side f else t
      | none => t)

/-! ### BACnet/SC (R312, R313) -/

/-- The clock at which SC_RECONNECT seconds have passed. -/
def State.scWait (s : State) : Option Nat := some (s.clock + s.cfgN Fid.SC_RECONNECT * 1000000)

/-- A connection stands: its certificates are checked for their dates only while the services hold UTC (R313). -/
def State.scConnected (st : ScState) (code : Nat) (s : State) : State :=
  (s.scEnter st code).port 6 (fun p => { p with certUnchecked := !s.svc.timeValid })

/-- SC_CONNECT_RESULT (R312): whether the attempt that runs succeeded, and the TLS alert or close code. One that took more than 10 s has
failed. -/
def execScConnectResult (a : At) (ok : Bool) (code : Nat) (s : State) : Host.Outcome State Fault Refusal :=
  let t := s.advance a
  let done := ok && t.bus.scTrying.any (fun c => decide (t.clock ≤ c + 10000000))
  .next (if !t.rdy Rdy.services || t.bus.scTrying.isNone then t
    else match t.bus.sc, done with
    | .connectingPrimary, true => t.scConnected .primary code
    | .connectingPrimary, false => t.scEnter .connectingFailover code
    | .connectingFailover, true =>
      let u := t.scConnected .failover code
      { u with bus.scDue := u.scWait }
    | .connectingFailover, false => { t with bus.scTrying := none, bus.scLost := some code, bus.scDue := t.scWait }
    | .failover, true => t.scConnected .primary code
    | .failover, false => { t with bus.scTrying := none }
    | _, _ => t)

/-- SC_CONNECTION_LOST (R312): PRIMARY is left once SC_RECONNECT has passed, FAILOVER at once. -/
def execScConnectionLost (a : At) (code : Nat) (s : State) : Host.Outcome State Fault Refusal :=
  let t := s.advance a
  .next (match t.bus.sc with
    | .primary => if t.bus.scLost.isSome then t else State.scFlush { t with bus.scLost := some code, bus.scDue := t.scWait }
    | .failover => t.scEnter .connectingPrimary code
    | _ => t)

/-- SC_RECONNECT (R312): the wait has passed: CONNECTING_PRIMARY, or in FAILOVER another attempt to the primary hub. -/
def execScReconnect (a : At) (s : State) : Host.Outcome State Fault Refusal :=
  let t := s.advance a
  .next (if t.rdy Rdy.services && t.bus.scDue.any (fun d => decide (d ≤ t.clock)) then
      (if t.bus.sc = .failover then { t with bus.scTrying := some t.clock, bus.scDue := t.scWait }
       else t.scEnter .connectingPrimary (t.bus.scLost.getD 0))
    else t)

/-! ### Network layer (R309, R311) -/

/-- Networks of the module's ports. -/
def State.ownNets (s : State) : List (Nat × Nat) :=
  ((upTo 7).filter (fun p => s.cfgN Fid.BAC_NET p != 0)).map (fun p => (s.cfgN Fid.BAC_NET p, p))

/-- How a network is reached: a port of its own, or the next router. -/
def State.routeTo (s : State) (net : Nat) : Option Route :=
  match s.ownNets.find? (fun x => x.1 == net) with
  | some x => some { net := net, port := x.2 }
  | none => s.bus.routes.find? (fun x => x.net == net)

/-- The routing table of 256 networks takes the networks of a router (R311). -/
def State.addRoutes (p router : Nat) (nets : List Nat) (s : State) : State :=
  nets.foldl (fun (t : State) n =>
    let rest := t.bus.routes.filter (fun x => x.net != n)
    if rest.length < 256 then { t with bus.routes := rest ++ [{ net := n, port := p, router := router }] } else t) s

/-- Mark networks of a router busy or available; no network stands for all of them. -/
def State.markRoutes (p router : Nat) (nets : List Nat) (busy : Bool) (s : State) : State :=
  { s with bus.routes := s.bus.routes.map (fun x =>
      if x.port = p ∧ x.router = router ∧ (nets.isEmpty ∨ nets.contains x.net) then { x with busy := busy } else x) }

/-- A routing message from the module. -/
def State.routing (p peer : Nat) (data : List Nat) (s : State) : State :=
  s.queueFrame p { cls := 1, what := .routing, address := peer, data := data }

/-- Longest NPDU of a port: the APDU with a network header of 21 bytes. -/
def npduMax (q : Nat) : Nat := maxApdu q + 21

/-- An NPDU goes on through a port to a router, or as a broadcast to address 0; one too long is rejected with reason 4 (R311). -/
def State.passOn (p peer net len q router : Nat) (s : State) : State :=
  if npduMax q < len then s.routing p peer [3, 4, net]
  else if q = p then s else s.queueFrame q { cls := 1, what := .routing, address := router, data := [net, len] }

/-- NETWORK_LAYER_MESSAGE (R311): port and ADDRESS it comes from. Message types and the reasons 1 unknown and 2 busy are those of the
standard; DNET FFFFh is every network. -/
def State.netMessage (p peer : Nat) (m : NetMsg) (s : State) : State :=
  match m with
  | .whoIsRouter net =>
    let nets := ((s.ownNets.filter (fun x => x.2 != p)).map (fun x => x.1)) ++
      ((s.bus.routes.filter (fun x => x.port != p)).map (fun x => x.net))
    let got := match net with
      | some n => nets.filter (fun x => x == n)
      | none => nets
    if got.isEmpty || s.cfgN Fid.BAC_ROUTE == 0 then s else s.routing p 0 (1 :: got)
  | .iAmRouter nets => s.addRoutes p peer nets
  | .rejectMessage reason net =>
    if reason = 1 then { s with bus.routes := s.bus.routes.filter (fun x => x.net != net || x.port != p || x.router != peer) }
    else if reason = 2 then s.markRoutes p peer [net] true else s
  | .routerBusy nets => s.markRoutes p peer nets true
  | .routerAvailable nets => s.markRoutes p peer nets false
  | .whatIsNetworkNumber => s.routing p 0 [19, s.cfgN Fid.BAC_NET p]
  | .networkNumberIs _ => s
  | .initRoutingTable => s.routing p peer (7 :: (s.ownNets.map (fun x => x.1) ++ s.bus.routes.map (fun x => x.net)))
  | .npdu net len =>
    if s.cfgN Fid.BAC_ROUTE = 0 then s
    else if net = 0xFFFF then State.each ((s.ownNets.map (fun x => x.2)).filter (fun q => q != p)) (fun q t => t.passOn p peer net len q 0) s
    else match s.routeTo net with
      | some r => if r.busy then s.routing p peer [3, 2, net] else s.passOn p peer net len r.port r.router
      | none => s.routing p peer [3, 1, net]

/-- NETWORK_LAYER_MESSAGE (R311): on a port that is a BACnet network. -/
def execNetworkLayerMessage (a : At) (p peer : Nat) (m : NetMsg) (s : State) : Host.Outcome State Fault Refusal :=
  let t := s.advance a
  .next (if t.rdy Rdy.services && !t.peerHolds && decide (p < 7) && t.bacnetPort p then (t.rxTake p).netMessage p peer m else t)

/-- FOREIGN_DEVICE_REREGISTER (R309): half the time-to-live has passed since the last registration, or none has been sent. -/
def execForeignDeviceReregister (a : At) (s : State) : Host.Outcome State Fault Refusal :=
  let t := s.advance a
  .next (if t.bus.fdAt.all (fun c => decide (c + t.cfgN Fid.BAC_FD_TTL * 500000 ≤ t.clock)) then t.fdRegister else t)

/-! ### What a commit changes (R318, R324, R328, R329) -/

/-- The fields that make a binding what it is. -/
def bindShape : List Nat := [Fid.BIND_PARTNER, Fid.BIND_OBJECT, Fid.BIND_PROPERTY, Fid.BIND_DIR, Fid.BIND_ENCODING, Fid.BIND_METHOD]

/-- A binding goes: its subscription is cancelled, and a write relinquishes (R328, R329). `old` stands before the commit. -/
def State.bindRemoved (old : State) (b : Nat) (s : State) : State :=
  let x := s.bus.binds.get b
  match old.bindPartner b with
  | some i =>
    let e := s.bus.partners.get i
    let t := if old.cfgN Fid.BIND_DIR b = 1 ∧ old.cfgN Fid.BIND_RELINQUISH b = 1 ∧ !old.bindModbus b then
        s.queueFrame e.port { cls := 3, what := .relinquish, dest := i, address := e.address, data := [b, old.cfgN Fid.BIND_PRIORITY b] }
      else if x.covActive then
        s.queueFrame e.port { cls := 4, what := .unsubscribe, dest := i, address := e.address, data := [b] }
      else s
    { t with bus.binds := t.bus.binds.set b {} }
  | none => { s with bus.binds := s.bus.binds.set b {} }

/-- A partner that a binding names has an entry (R318). -/
def State.wantPartner (b : Nat) (s : State) : State :=
  let v := s.cfgN Fid.BIND_PARTNER b
  if (s.bindPartner b).isSome || bitsOf v 28 4 != 1 then s
  else s.newPartner { kind := 1, state := .wanted, identity := v % 2 ^ 22, since := s.turn }

/-- Modbus partners configured (R318). -/
def State.mbPartners (s : State) : List Nat :=
  ((s.cfg.listed Fid.MB_PARTNER).map (fun i => s.cfgN Fid.MB_PARTNER i)).filter (fun v => v != 0)

/-- The table and the bindings after a commit. -/
def State.busCommit (old : State) (s : State) : State :=
  let was := (s.bus.binds.filter (fun x => x.2.inForce)).map (fun x => x.1)
  let gone := was.filter (fun b => bindShape.any (fun f => old.cfgN f b != s.cfgN f b))
  let t := State.each gone (fun b u => State.bindRemoved old b u) s
  let mbGone := (t.bus.partners.filter (fun x => x.2.kind == 5 && !t.mbPartners.contains x.2.identity)).map (fun x => x.1)
  let t1 := State.each mbGone State.dropPartner t
  let t2 := State.each (t1.mbPartners.filter (fun v => (t1.partnerIdx (true, v)).isNone)) (fun v u =>
    u.newPartner { kind := 5, state := .silent, port := 2 + v / 256, configured := true, identity := v, address := v, since := u.turn }) t1
  let t3 := { t2 with bus.binds := t2.bus.binds.updAll (t2.cfg.listed Fid.BIND_PARTNER) (fun _ x => { x with inForce := true }) }
  let t4 := State.each t3.bindsOn State.wantPartner t3
  let wantedGone := (t4.bus.partners.filter (fun x => x.2.state == .wanted && !t4.bound x.1)).map (fun x => x.1)
  let t5 := State.each wantedGone State.dropPartner t4
  let fd := old.cfgN Fid.BAC_FD_BBMD != s.cfgN Fid.BAC_FD_BBMD || old.cfgN Fid.BAC_FD_TTL != s.cfgN Fid.BAC_FD_TTL
  (t5.when fd State.fdRegister).savePartners

/-- The bus stops with SERVICES (R330): what was queued, waiting or outstanding is gone. -/
def State.busStops (s : State) : State :=
  { s with bus := { s.bus with
    sc := .idle, scDue := none, scTrying := none, scLost := none, fdAt := none, greeted := [], requests := [], segments := 0, routes := [], arp := []
    ports := s.bus.ports.updAll s.bus.ports.keys (fun _ p => { p with
      link := false, token := false, beacons := 0, dhcpBound := false, rx := [], infoSent := 0, tx := [], waiting := [], dupUntil := none, certUnchecked := false })
    binds := s.bus.binds.updAll s.bus.binds.keys (fun _ b => { b with covActive := false }) } }

/-! ### Operations (R333–R335) -/

/-- Port that a PORT_STATUS addresses (R335). -/
def statusPort (fn target : Nat) : Option Nat :=
  if (fn = 17 ∨ fn = 18) ∧ target = 0 then some 0
  else if fn = 17 ∧ target = 6 then some 6
  else if fn = 19 ∧ target = 1 then some 1
  else if 20 ≤ fn ∧ fn ≤ 23 ∧ target = fn - 18 then some target else none

/-- The status word of a port as FUNCTION `fn` shows it (R333). -/
def State.portStatus (s : State) (fn p : Nat) : Nat :=
  let key := if fn = 18 ∧ p = 0 then 7 else p
  let x := s.bus.ports.get key
  let link := if p = 0 then x.link else if p = 6 then s.portReady 6 else s.rdy Rdy.services && s.linkHolds fn
  let ready := if p = 6 then s.portReady 6 else s.rdy fn
  2 ^ 31 * bit link + 2 ^ 30 * bit ready + 2 ^ 29 * bit x.token + 2 ^ 28 * bit x.dupUntil.isSome +
    2 ^ 27 * bit (p == 1 && s.cfgN Fid.PLCA_ID == 0 && s.rdy Rdy.t1s) + 2 ^ 26 * bit (decide (p ≤ 1) && (s.bus.ports.get p).dhcpBound) +
    2 ^ 25 * bit x.certUnchecked + 2 ^ 22 * (x.speed % 8) + 2 ^ 19 * (if p = 6 then s.bus.sc.code else 0) + (s.bus.ports.get p).dropped

/-- The configuration disables the port: T1S with T1S_ENABLE 00h, a line with LINE_PROTOCOL 00h (R531). -/
def State.portOff (s : State) (p : Nat) : Bool :=
  (p == 1 && s.cfgN Fid.T1S_ENABLE == 0) ||
    (decide (2 ≤ p) && decide (p ≤ 5) && s.cfgN Fid.LINE_PROTOCOL (p - 2) == 0)

/-- PORT_STATUS (R335): the read clears DROPPED. -/
def opPortStatus : OpDef :=
  { cls := 1, opcode := 0x0038, fns := [17, 18, 19, 20, 21, 22, 23]
    len := fun n => n == 0
    content := fun _ r => (statusPort r.fn r.target).isSome
    off := fun s r => match statusPort r.fn r.target with
      | some p => s.portOff p
      | none => false
    ready := fun s _ => s.rdy Rdy.services
    body := fun r s =>
      let p := (statusPort r.fn r.target).getD 0
      let x := s.bus.ports.get (if r.fn = 18 then 7 else p)
      let n := (s.bus.partners.filter (fun e => e.2.port == p)).length
      State.ok (s.port p (fun x => { x with dropped := 0 }))
        (le 4 (s.portStatus r.fn p) ++ le 4 x.framesIn.toNat ++ le 4 x.framesOut.toNat ++ le 2 n ++ le 2 0) }

/-- PORT_STATUS (R335). -/
def execPortStatus (a : At) (r : Req) (s : State) : Host.Outcome State Fault Refusal := .next (serve opPortStatus r (s.advance a))

/-- The 32 bytes of an entry (R317). -/
def State.partnerBytes (s : State) (i : Nat) : List Byte :=
  let e := s.bus.partners.get i
  let bs := s.bindsOf i
  le 2 i ++ le 1 e.kind ++ le 1 e.state.code ++ le 1 e.port ++
    le 1 (bit (!bs.isEmpty) + 2 * bit e.configured + 4 * bit e.duplicate + 8 * bit e.routed) ++ le 2 bs.length ++ le 4 e.identity ++
    le 8 e.address ++ le 2 (if e.routed then e.net else 0) ++ le 2 0 ++ le 8 e.lastHeard.toNat

/-- PARTNER_LIST (R335). -/
def opPartnerList : OpDef :=
  { cls := 1, opcode := 0x0039, fns := [16]
    len := fun n => n == 4
    content := fun _ r => r.target == 0 && decide (fieldAt r.payload 0 2 < 2048) &&
      decide (1 ≤ fieldAt r.payload 2 2 ∧ fieldAt r.payload 2 2 ≤ 126)
    body := fun r s =>
      let got := ((s.bus.partners.keys).filter (fun i => decide (fieldAt r.payload 0 2 ≤ i))).take (fieldAt r.payload 2 2)
      let next := match got.getLast? with
        | some i => i + 1
        | none => 2048
      s.ok (le 2 s.bus.generation.toNat ++ le 2 s.bus.partners.length ++ le 2 next ++ le 2 got.length ++ got.flatMap s.partnerBytes) }

/-- PARTNER_LIST (R335). -/
def execPartnerList (a : At) (r : Req) (s : State) : Host.Outcome State Fault Refusal := .next (serve opPartnerList r (s.advance a))

/-- The status word of a binding (R334). -/
def State.bindStatus (s : State) (b : Nat) : Nat :=
  let x := s.bus.binds.get b
  let write := s.cfgN Fid.BIND_DIR b == 1
  let known := (s.bindPartner b).any (fun i => (s.bus.partners.get i).state == .identified)
  2 ^ 31 * bit x.inForce + 2 ^ 30 * bit write + 2 ^ 29 * bit x.covActive + 2 ^ 28 * bit x.covRefused +
    2 ^ 27 * bit (!write && !(s.busSource b).live) + 2 ^ 26 * bit x.faultFlag + 2 ^ 25 * bit (!known) + 2 ^ 24 * bit x.pending.isSome +
    2 ^ 23 * bit x.writeFailed + 2 ^ 22 * bit x.readFailed + x.errors.toNat

/-- BIND_READ (R334, R335): the read clears WRITE_FAILED and READ_FAILED. -/
def opBindRead : OpDef :=
  { cls := 1, opcode := 0x003A, fns := [16]
    len := fun n => n == 0
    content := fun _ r => decide (r.target < 8192)
    off := fun s r => !(s.bus.binds.get r.target).inForce
    body := fun r s =>
      let x := s.bus.binds.get r.target
      State.ok (s.bind r.target (fun x => { x with writeFailed := false, readFailed := false }))
        (le 8 x.stamp.toNat ++ le 4 (x.value.getD F32.nan).toNat ++ le 4 (s.bindStatus r.target) ++ le 2 ((s.bindPartner r.target).getD 0xFFFF) ++
          le 2 0 ++ le 4 (x.lastSent.getD F32.nan).toNat) }

/-- BIND_READ (R335). -/
def execBindRead (a : At) (r : Req) (s : State) : Host.Outcome State Fault Refusal := .next (serve opBindRead r (s.advance a))

end Sys2Proof.Machine
end

