-- ==== Sys2Proof/Machine/Services.lean ====
section
/-! DEFINITION. Machine/Services.lean: the BACnet services the module executes (R307), COV and event notifications (R356, R357),
trend capture and ReadRange (R354), DeviceCommunicationControl (R358) and the SERVICE operations (R368). -/

namespace Sys2Proof.Machine

/-! ### Requests of BACnet peers -/

/-- Bytes as a frame carries them. -/
def frameOf (bs : List Byte) : List Nat := bs.map (fun b => b.toNat)

/-- A BACnet request on a port that is a BACnet network leaves its receive buffer and is executed, unless communication is disabled (R358) or
the module does not transmit (R505). -/
def State.bacnet (p : Nat) (f : State → State) (s : State) : State :=
  if s.rdy Rdy.services && decide (p < 7) && s.bacnetPort p then
    let t := s.rxTake p
    if t.bacnetOn && !t.peerHolds then f t else t
  else s

/-- An Error answer: class and code. -/
def State.respondError (p peer : Nat) (e : BErr) (s : State) : State := s.respond p peer .error [e.1, e.2]

/-- Tags that name a property and an index, from context tag `base` on. -/
def propTags (base : Nat) (it : PropItem) : List Byte :=
  (Tok.ctx base (be (uintLen it.prop) it.prop)).bytes ++ (match it.index with
    | some i => (Tok.ctx (base + 1) (be (uintLen i) i)).bytes
    | none => [])

/-- One result of ReadPropertyMultiple: the value, or its error. -/
def State.readResult (s : State) (it : PropItem) : List Byte :=
  (Tok.ctx 0 (be 4 it.object)).bytes ++ (Tok.opn 1).bytes ++ propTags 2 it ++ (match s.readProp it.object it.prop it.index with
    | .ok v => (Tok.opn 4).bytes ++ v ++ (Tok.cls 4).bytes
    | .error e => (Tok.opn 5).bytes ++ bEnum e.1 ++ bEnum e.2 ++ (Tok.cls 5).bytes) ++ (Tok.cls 1).bytes

/-- ReadProperty, or ReadPropertyMultiple. -/
def State.answerRead (p peer : Nat) (multiple : Bool) (items : List PropItem) (s : State) : State :=
  if multiple then s.respond p peer .response (frameOf (items.flatMap s.readResult))
  else
    let it := items.headD {}
    match s.readProp it.object it.prop it.index with
    | .ok v => s.respond p peer .response
        (frameOf ((Tok.ctx 0 (be 4 it.object)).bytes ++ propTags 1 it ++ (Tok.opn 3).bytes ++ v ++ (Tok.cls 3).bytes))
    | .error e => s.respondError p peer e

/-- BACNET_READ_PROPERTY (R307): port and ADDRESS of the peer, and whether it is ReadPropertyMultiple. -/
def execBacnetReadProperty (a : At) (p peer : Nat) (multiple : Bool) (items : List PropItem) (s : State) :
    Host.Outcome State Fault Refusal :=
  .next (State.bacnet p (fun t => t.answerRead p peer multiple items) (s.advance a))

/-- Write items in order, up to the first that fails. -/
def State.writeItems : List PropItem → State → State × Option (PropItem × BErr)
  | [], s => (s, none)
  | it :: rest, s =>
    match s.writeProp it.object it.prop it.index it.priority it.value with
    | (t, r) => match r.error with
      | some e => (t, some (it, e))
      | none => State.writeItems rest t

/-- WriteProperty, or WritePropertyMultiple. -/
def State.answerWrite (p peer : Nat) (multiple : Bool) (items : List PropItem) (s : State) : State :=
  match s.writeItems items with
  | (t, none) => t.respond p peer .response []
  | (t, some (it, e)) => t.respond p peer .error (if multiple then [e.1, e.2, it.object, it.prop] else [e.1, e.2])

/-- BACNET_WRITE_PROPERTY (R346). -/
def execBacnetWriteProperty (a : At) (p peer : Nat) (multiple : Bool) (items : List PropItem) (s : State) :
    Host.Outcome State Fault Refusal :=
  .next (State.bacnet p (fun t => t.answerWrite p peer multiple items) (s.advance a))

/-! ### COV of the module's objects (R307) -/

/-- Status_Flags as a number. -/
def State.flagsOf (s : State) (id : Nat) (o : Obj) : Nat := maskOf (s.statusFlags id o)

/-- Objects that report a change of value: those with a numeric Present_Value. -/
def covObject (o : Obj) : Bool :=
  match o with
  | .device => false
  | .trend _ => false
  | .nc _ => false
  | .cal _ => false
  | .sched _ => false
  | _ => true

/-- A subscription of a peer. -/
def CovSub.of (x : CovSub) (p peer process object : Nat) : Bool :=
  x.port == p && x.peer == peer && x.process == process && x.object == object

/-- SubscribeCOV: a lifetime of 0 or none lasts indefinitely; its first notification follows at the next turn boundary. -/
def State.subscribe (p peer process object : Nat) (confirmed : Bool) (lifetime : Option Nat) (cancel : Bool) (s : State) : State :=
  let rest := s.svc.subs.filter (fun x => !x.of p peer process object)
  if cancel then ({ s with svc.subs := rest } : State).respond p peer .response []
  else match s.objOf object with
    | none => s.respondError p peer errUnknownObject
    | some o =>
      if !covObject o then s.respondError p peer errOptional
      else
        let sub : CovSub :=
          { object := object, port := p, peer := peer, process := process, confirmed := confirmed
            expires := if lifetime.getD 0 = 0 then none else some (s.clock + lifetime.getD 0 * 1000000) }
        ({ s with svc.subs := rest ++ [sub] } : State).respond p peer .response []

/-- BACNET_SUBSCRIBE_COV (R307). -/
def execBacnetSubscribeCov (a : At) (p peer process object : Nat) (confirmed : Bool) (lifetime : Option Nat) (cancel : Bool)
    (s : State) : Host.Outcome State Fault Refusal :=
  .next (State.bacnet p (fun t => t.subscribe p peer process object confirmed lifetime cancel) (s.advance a))

/-- A value has moved enough for a notification. -/
def State.covMoved (s : State) (id : Nat) (o : Obj) (x : CovSub) (v : Word32) : Bool :=
  match x.last with
  | none => true
  | some u =>
    let inc := if id / 2 ^ 22 ≤ 2 then (s.storedReal id Prop_.covIncrement).getD 0 else 0
    x.flags != s.flagsOf id o || (u != v && F32.le inc (F32.abs (F32.sub v u)))

/-- Send one COV notification. -/
def State.covNotify (x : CovSub) (v : Word32) (s : State) : State :=
  let data := [x.process, x.object, v.toNat]
  if x.confirmed then s.request 5 { port := x.port, what := .covNotification, address := x.peer, binds := data }
  else s.queueFrame x.port { cls := 5, what := .covNotification, address := x.peer, data := data }

/-- The subscriptions at a turn boundary: ended lifetimes go, and changed values are notified. -/
def State.covSend (s : State) : State :=
  if !s.rdy Rdy.services || s.peerHolds || s.svc.dcc != .enabled then s else
  let live := s.svc.subs.filter (fun x => x.expires.all (fun e => decide (s.clock < e)) && (s.objOf x.object).isSome)
  let t := State.each live (fun x u => match u.objOf x.object with
    | some o =>
      let v := (u.numeric x.object o).getD F32.nan
      let moved := u.covMoved x.object o x v
      let keep := if moved then { x with last := some v, flags := u.flagsOf x.object o } else x
      let w := if moved then u.covNotify x v else u
      { w with svc.subs := w.svc.subs ++ [keep] }
    | none => u) { s with svc.subs := [] }
  t

/-! ### Who-Is and Who-Has (R307) -/

/-- The Device's instance. -/
def State.instance_ (s : State) : Nat := s.cfgN Fid.SVC_DEVICE_INSTANCE

/-- I-Have for an object. -/
def State.iHave (p object : Nat) (s : State) : State :=
  s.queueFrame p { cls := 6, what := .iHave, data := [s.instance_, object] }

/-- The answer to Who-Is or Who-Has. -/
def State.answerWho (p : Nat) (w : WhoWhat) (s : State) : State :=
  let iAm := s.queueFrame p { cls := 6, what := .iAm, data := [s.instance_, maxApdu p] }
  match w with
  | .everyone => iAm
  | .range lo hi => if lo ≤ s.instance_ ∧ s.instance_ ≤ hi then iAm else s
  | .hasId object => if (s.objOf object).isSome then s.iHave p object else s
  | .hasName name =>
    match s.objectIds.find? (fun id => (s.objOf id).any (fun o => s.nameOf id o == bString name)) with
    | some id => s.iHave p id
    | none => s

/-- WHO_IS (R307). -/
def execWhoIs (a : At) (p : Nat) (w : WhoWhat) (s : State) : Host.Outcome State Fault Refusal :=
  .next (State.bacnet p (fun t => t.answerWho p w) (s.advance a))

/-! ### Time (R338) -/

/-- UTC of a local time with the UTC_Offset and daylight-saving state that stand now. -/
def State.utcOf (s : State) (local_ : Nat) : Int :=
  let dst := s.svc.timeValid && (match s.wallNow with
    | some t => s.dst (s.utcSecs t)
    | none => false)
  (local_ : Int) + s.utcOffset * 60 - (if dst then 3600 else 0)

/-- TIME_SYNCHRONIZATION (R338): local time or UTC, in seconds since 2000 and hundredths, at the receipt of its frame (R29). -/
def execTimeSynchronization (a : At) (p : Nat) (isLocal : Bool) (secs hundredths : Nat) (s : State) : Host.Outcome State Fault Refusal :=
  let at_ := (s.advance a).rxStamp p
  .next (State.bacnet p (fun t => match t.wall16 at_ with
    | some w =>
      let utc := if isLocal then t.utcOf secs else (secs : Int)
      t.setTime (if isLocal then 1 else 2) (utc * 65536 + ((hundredths % 100 * 65536 / 100 : Nat) : Int)) w
    | none => t) (s.advance a))

/-! ### Intrinsic reporting (R356) -/

/-- Kind of a transition by the state it enters: 0 to-offnormal, 1 to-fault, 2 to-normal. -/
def EvState.kind : EvState → Nat
  | .normal => 2
  | .fault => 1
  | _ => 0

/-- The code of an event state in ANSI/ASHRAE 135. -/
def EvState.code : EvState → Nat
  | .normal => 0
  | .fault => 1
  | .offnormal => 2
  | .highLimit => 3
  | .lowLimit => 4

/-- OUT_OF_RANGE: the state a value asks for. -/
def State.rangeState (s : State) (id : Nat) (now : EvState) (v : Word32) : EvState :=
  let high := s.storedBit id Prop_.limitEnable 1
  let low := s.storedBit id Prop_.limitEnable 0
  let hi := (s.storedReal id Prop_.highLimit).getD 0
  let lo := (s.storedReal id Prop_.lowLimit).getD 0
  let band := (s.storedReal id Prop_.deadband).getD 0
  let above := high && F32.lt hi v
  let below := low && F32.lt v lo
  match now with
  | .highLimit => if below then .lowLimit else if high && F32.le (F32.sub hi band) v then .highLimit else .normal
  | .lowLimit => if above then .highLimit else if low && F32.le v (F32.add lo band) then .lowLimit else .normal
  | _ => if above then .highLimit else if below then .lowLimit else .normal

/-- CHANGE_OF_STATE: the value is one of the alarm values that have been written. -/
def State.alarmed (s : State) (id : Nat) (o : Obj) (v : Word32) : Bool :=
  let t := id / 2 ^ 22
  if t = 3 ∨ t = 5 then (s.stored id Prop_.alarmValue).isSome && s.storedNat id Prop_.alarmValue 0 == bit (F32.le fifty v)
  else match s.formOf o v with
    | bs => (s.storedToks id Prop_.alarmValues).any (fun x => x.bytes == bs)

/-- COMMAND_FAILURE of a binary output with a feedback value. -/
def State.commandFails (s : State) (id : Nat) (o : Obj) (v : Word32) : Bool :=
  match s.ownProp id o Prop_.feedbackValue with
  | some (.one bs) => bs != bEnum (bit (F32.le fifty v))
  | _ => false

/-- The event state an object's condition asks for. -/
def State.wantedState (s : State) (id : Nat) (o : Obj) (now : EvState) : EvState :=
  let t := id / 2 ^ 22
  if s.reliability o != 0 then .fault
  else match s.numeric id o with
    | none => .normal
    | some v =>
      if t ≤ 2 then s.rangeState id now v
      else if t = 4 then (if s.commandFails id o v then .offnormal else .normal)
      else if [3, 5, 13, 19].contains t then (if s.alarmed id o v then .offnormal else .normal)
      else .normal

/-- Objects whose conditions are evaluated: those of the pool, and the Schedules for their Reliability. -/
def State.reporting (s : State) : List Nat := s.svc.pool ++ s.schedulesOn.map (objId 17)

/-- Class of an object's notifications, where it names one that exists (R357). -/
def State.classOf (s : State) (id : Nat) : Option Nat :=
  let c := s.storedNat id Prop_.notificationClass 4194303
  if c < 32 ∧ s.cfgN Fid.NC_ENABLE c = 1 then some c else none

/-- An event of an object: its stamp, what is unacknowledged, and its notification. The Logbook SEQ of the event's record is
not stated where no record is (assumption 3). -/
def State.transition (id : Nat) (to_ : EvState) (s : State) : State :=
  let k := to_.kind
  let seq := s.freeNow.toNat % 65536
  let x := s.svc.events.get id
  let c := s.classOf id
  let needs := c.any (fun c => s.storedBit (objId 15 c) Prop_.ackRequired k)
  let un := x.unacked.filter (fun j => j != k) ++ (if needs then [k] else [])
  let x' : Intrinsic := { x with state := to_, pending := none, unacked := un, times := x.times.set k (s.now.toNat, seq) }
  let note : List Note := match c with
    | some c => if s.storedBit id Prop_.eventEnable k then [{ object := id, cls := c, target := to_, stamp := s.now, seq := seq }] else []
    | none => []
  State.freeNext { s with svc := { s.svc with events := s.svc.events.set id x', notes := s.svc.notes ++ note } }

/-- The delay of a transition in Almanac ticks. -/
def State.evDelay (s : State) (id : Nat) (to_ : EvState) : Nat :=
  32768 * (if to_ = .normal then s.storedNat id Prop_.timeDelayNormal 0 else s.storedNat id Prop_.timeDelay 0)

/-- One object at a turn boundary: a condition that has stood for its delay makes the transition; FAULT is entered and left at
once. -/
def State.evalObject (id : Nat) (s : State) : State :=
  match s.objOf id with
  | none => s
  | some o =>
    let x := s.svc.events.get id
    let want := s.wantedState id o x.state
    let t := s.alm.count.toNat
    let setPending := fun (q : Option (EvState × Nat)) => { s with svc.events := s.svc.events.set id { x with pending := q } }
    if want = x.state then (if x.pending.isSome then setPending none else s)
    else if want = .fault ∨ x.state = .fault then s.transition id want
    else match x.pending with
      | some (st, t0) =>
        if st = want then (if s.evDelay id want ≤ (t + 2 ^ 48 - t0) % 2 ^ 48 then s.transition id want else s)
        else if s.evDelay id want = 0 then s.transition id want else setPending (some (want, t))
      | none => if s.evDelay id want = 0 then s.transition id want else setPending (some (want, t))

/-- BUFFER_READY of a trend log. -/
def State.bufferReady (n : Nat) (s : State) : State :=
  let id := objId 20 n
  let limit := s.storedNat id Prop_.notificationThreshold 0
  if limit != 0 && decide (limit ≤ (s.svc.trends.get n).sinceNotify) then
    State.transition id .normal { s with svc.trends := s.svc.trends.upd n (fun t => { t with sinceNotify := 0 }) }
  else s

/-- EVENT_CONDITION_EVALUATION (R356): at every turn boundary, while the services run; the standby mirrors. -/
def State.eventEval (s : State) : State :=
  if !s.rdy Rdy.services || s.peerHolds then s else
  State.each s.trendsOn State.bufferReady (State.each s.reporting State.evalObject s)

/-! ### Notifications (R357) -/

/-- The time of an event as notified and checked: local hundredths while UTC is held, else its sequence number (R340). -/
def State.eventTime (s : State) (stamp : Stamp) (seq : Nat) : Bool × Nat :=
  match (s.wall16 stamp).bind s.localAt with
  | some h => (false, h)
  | none => (true, seq)

/-- A recipient takes a transition of a kind at a local time; without UTC the day and the time restrict nothing. -/
def Recipient.takes (r : Recipient) (k : Nat) (now : Option Nat) : Bool :=
  (r.transitions.getD 1 0).getLsbD (7 - k) && (match now with
    | some h =>
      (r.days.getD 1 0).getLsbD (8 - (dayOf (h / 8640000)).dow) && decide (r.fromTime ≤ h % 8640000) && decide (h % 8640000 ≤ r.toTime)
    | none => true)

/-- Where a recipient is reached: port, partner entry and ADDRESS; none when it cannot be resolved. -/
def State.recipientAt (s : State) (r : Recipient) : Option (Nat × Nat × Nat) :=
  match r.device with
  | some id => match s.partnerIdx (false, id % 2 ^ 22) with
    | some i =>
      let e := s.bus.partners.get i
      if e.state = .identified then some (e.port, i, e.address) else none
    | none => none
  | none =>
    let port := if r.net = 0 then some (s.cfgN Fid.BAC_HOME_PORT) else (s.routeTo r.net).map (fun x => x.1)
    port.map (fun p => (p, 65535, leNat r.mac))

/-- Send a notification to one recipient; the second part counts a miss. -/
def State.notifyOne (n : Note) (r : Recipient) (x : State × Nat) : State × Nat :=
  let s := x.1
  let tm := s.eventTime n.stamp n.seq
  let prio := match s.readProp (objId 15 n.cls) Prop_.priority (some (n.target.kind + 1)) with
    | .ok bs => ((valueOf bs).map (fun v => roundTo 0 255 v)).getD 255
    | .error _ => 255
  match s.recipientAt r with
  | none => (s, x.2 + 1)
  | some (p, i, addr) =>
    if r.confirmed then
      (s.request 5 { port := p, what := .eventNotification, partner := i, address := addr
                     binds := [n.cls, r.process, n.object, n.target.code, bit tm.1, tm.2, prio, bit n.ack] }, x.2)
    else
      (s.queueFrame p
        { cls := 5, what := .eventNotification, dest := i, address := addr
          data := [n.cls, r.process, n.object, n.target.code, bit tm.1, tm.2, prio, bit n.ack] }, x.2)

/-- Recipients of a class. -/
def State.recipientsOf (s : State) (c : Nat) : List Recipient :=
  let ts := s.storedToks (objId 15 c) Prop_.recipientList
  (recipients ts.length ts).getD []

/-- EVENT_NOTIFICATION_SEND (R357): the oldest waiting notification. -/
def execEventNotificationSend (a : At) (s : State) : Host.Outcome State Fault Refusal :=
  let t := s.advance a
  .next (if !t.rdy Rdy.services || t.peerHolds || t.svc.dcc != .enabled then t
    else match t.svc.notes with
    | n :: rest =>
      let u := { t with svc.notes := rest }
      let rs := (u.recipientsOf n.cls).filter (fun r => r.takes n.target.kind u.localNow)
      let x := rs.foldl (fun (x : State × Nat) r => State.notifyOne n r x) (u, 0)
      x.1.notifyFailed n.cls x.2
    | [] => t)

/-- Error INVALID_TIME_STAMP. -/
def errTimeStamp : BErr := (5, 14)
/-- Error INVALID_EVENT_STATE. -/
def errEventState : BErr := (5, 73)

/-- AcknowledgeAlarm: object, kind of the transition, and its time as notified. -/
def State.acknowledge (p peer object kind : Nat) (isSeq : Bool) (time : Nat) (s : State) : State :=
  if (s.objOf object).isNone then s.respondError p peer errUnknownObject
  else
    let x := s.svc.events.get object
    let tm := x.times.get kind
    if tm.1 = 0 then s.respondError p peer errEventState
    else if s.eventTime (BitVec.ofNat 64 tm.1) tm.2 != (isSeq, time) then s.respondError p peer errTimeStamp
    else
      let x' := { x with unacked := x.unacked.filter (fun k => k != kind) }
      let note : List Note := match s.classOf object with
        | some c => [{ object := object, cls := c, target := x.state, stamp := s.now, seq := tm.2, ack := true }]
        | none => []
      State.respond p peer .response []
        { s with svc := { s.svc with events := s.svc.events.set object x', notes := s.svc.notes ++ note } }

/-- ACKNOWLEDGE_ALARM (R357). -/
def execAcknowledgeAlarm (a : At) (p peer object kind : Nat) (isSeq : Bool) (time : Nat) (s : State) : Host.Outcome State Fault Refusal :=
  .next (State.bacnet p (fun t => t.acknowledge p peer object (kind % 3) isSeq time) (s.advance a))

/-- An event summary: object, state, acknowledged transitions, notification type, event enable, and the time of each transition. -/
def State.eventSummary (s : State) (id : Nat) : List Nat :=
  let x := s.svc.events.get id
  [id, x.state.code, maskOf ((upTo 3).map (fun k => !x.unacked.contains k)), s.storedNat id Prop_.notifyType 0,
    maskOf ((upTo 3).map (s.storedBit id Prop_.eventEnable))] ++
  (upTo 3).flatMap (fun k =>
    let tm := x.times.get k
    let e := s.eventTime (BitVec.ofNat 64 tm.1) tm.2
    [bit e.1, e.2])

/-- Objects with an active or unacknowledged event. -/
def State.activeEvents (s : State) : List Nat :=
  ((s.svc.events.filter (fun x => x.2.state != .normal || !x.2.unacked.isEmpty)).map (fun x => x.1)).filter (fun id => (s.objOf id).isSome)

/-- GET_EVENT_INFORMATION (R357): up to 32 events after an object, and More_Events. -/
def execGetEventInformation (a : At) (p peer : Nat) (after : Option Nat) (s : State) : Host.Outcome State Fault Refusal :=
  .next (State.bacnet p (fun t =>
    let ids := match after with
      | some id => t.activeEvents.filter (fun x => decide (id < x))
      | none => t.activeEvents
    t.respond p peer .response ((ids.take 32).flatMap t.eventSummary ++ [bit (decide (32 < ids.length))])) (s.advance a))

/-! ### Trend logs (R354) -/

/-- Local time in hundredths that polled logs count by: without UTC, Almanac time. -/
def State.pollClock (s : State) : Option Nat := s.localNow <|> (s.wallNow.map (fun t => (t * 100 / (tick16PerSecond : Int)).toNat))

/-- Hundredths of a stored date and time; none where a field is not specified. -/
def State.storedInstant (s : State) (id prop : Nat) : Option Nat :=
  match s.storedToks id prop with
  | [.app 10 d, .app 11 t] => match dateBound d, timeOf t with
    | some n, some h => some (n * 8640000 + h)
    | _, _ => none
  | _ => none

/-- A log records now: Enable, and between its start and stop times. -/
def State.trendRuns (s : State) (n : Nat) : Bool :=
  let id := objId 20 n
  s.storedNat id Prop_.enable 0 == 1 &&
    (match s.storedInstant id Prop_.startTime, s.localNow with
      | some x, some h => decide (x ≤ h)
      | _, _ => true) &&
    (match s.storedInstant id Prop_.stopTime, s.localNow with
      | some x, some h => decide (h < x)
      | _, _ => true)

/-- Number of polled instants passed: Start_Time + k × Log_Interval, or the aligned instants. -/
def State.trendK (s : State) (n h : Nat) : Nat :=
  let id := objId 20 n
  let every := max 1 (s.storedNat id Prop_.logInterval 100)
  let offset := if s.storedNat id Prop_.alignIntervals 0 = 1 then s.storedNat id Prop_.intervalOffset 0 % every
    else (s.storedInstant id Prop_.startTime).getD 0
  (h - offset) / every + 1

/-- The reference a log records: its bytes as a number. -/
def State.trendValue (s : State) (n : Nat) : Word32 :=
  let ts := s.storedToks (objId 20 n) Prop_.logReference
  match propRefs ts.length ts with
  | some [r] => match s.readProp r.object r.prop r.index with
    | .ok bs => (valueOf bs).getD F32.nan
    | .error _ => F32.nan
  | _ => F32.nan

/-- The change a COV log waits for; a binary or multi-state value need only change. -/
def State.trendIncrement (s : State) (n : Nat) : Word32 :=
  let ts := s.storedToks (objId 20 n) Prop_.logReference
  match s.storedReal (objId 20 n) Prop_.clientCovIncrement, propRefs ts.length ts with
  | own, some [r] =>
    if [3, 4, 5, 13, 14, 19].contains (r.object / 2 ^ 22) then 0 else own.getD ((s.storedReal r.object Prop_.covIncrement).getD 0)
  | own, _ => own.getD 0

/-- One log at a floor apply angle. -/
def State.trendStep (n : Nat) (s : State) : State :=
  let t := s.svc.trends.get n
  let runs := s.trendRuns n
  let s1 := if runs == t.on then s
    else State.trendAdd n 1 (if runs then 0 else 1) { s with svc.trends := s.svc.trends.set n { t with on := runs } }
  if !runs then s1 else
  let v := s1.trendValue n
  match s1.storedNat (objId 20 n) Prop_.loggingType 0 with
  | 0 => match s1.pollClock with
    | some h =>
      let k := s1.trendK n h
      let u := { s1 with svc.trends := s1.svc.trends.upd n (fun x => { x with lastK := k }) }
      if t.lastK != 0 && decide (t.lastK < k) then u.trendAdd n 0 v else u
    | none => s1
  | 1 =>
    let moved := match t.last with
      | none => true
      | some w => w != v && F32.le (s1.trendIncrement n) (F32.abs (F32.sub v w))
    if moved then State.trendAdd n 0 v { s1 with svc.trends := s1.svc.trends.upd n (fun x => { x with last := some v }) } else s1
  | _ =>
    State.each (upTo t.due) (fun _ u => u.trendAdd n 0 v) { s1 with svc.trends := s1.svc.trends.upd n (fun x => { x with due := 0 }) }

/-- TREND_RECORD (R354): the records that are due, at a floor apply angle. -/
def State.trendCapture (s : State) : State :=
  if !s.rdy Rdy.services || s.peerHolds then s else State.each s.trendsOn State.trendStep s

/-- The time of a trend record: local hundredths, or unspecified (R340). -/
def State.recTime (s : State) (r : TrendRec) : Option Nat := (s.wall16 r.stamp).bind s.localAt

/-- Up to `count` records forward from a place, or backward to it. -/
def windowOf (rs : List TrendRec) (i : Nat) (count : Int) : List TrendRec :=
  if 0 ≤ count then (rs.drop i).take count.toNat
  else ((rs.take (i + 1)).reverse.take (-count).toNat).reverse

/-- Records a ReadRange asks for: mode 0 all, 1 by position, 2 by sequence number, 3 by time. -/
def State.rangeOf (s : State) (rs : List TrendRec) (mode ref : Nat) (count : Int) : List TrendRec :=
  match mode with
  | 0 => rs
  | 1 => if ref = 0 ∨ rs.length < ref then [] else windowOf rs (ref - 1) count
  | 2 => match rs.findIdx? (fun r => r.seq == ref) with
    | some i => windowOf rs i count
    | none => []
  | _ =>
    if 0 ≤ count then
      match rs.findIdx? (fun r => (s.recTime r).any (fun h => decide (ref < h))) with
      | some i => windowOf rs i count
      | none => []
    else ((rs.filter (fun r => (s.recTime r).any (fun h => decide (h < ref)))).reverse.take (-count).toNat).reverse

/-- A record as sent: sequence number, kind, value and its time, 0 standing for an unspecified one. -/
def State.recData (s : State) (r : TrendRec) : List Nat :=
  [r.seq, r.kind, r.value.toNat] ++ (match s.recTime r with
    | some h => [1, h]
    | none => [0, 0])

/-- READ_RANGE (R354): the answer gives whether the first and the last record are among those sent, and the records. -/
def execReadRange (a : At) (p peer object mode ref : Nat) (count : Int) (s : State) : Host.Outcome State Fault Refusal :=
  .next (State.bacnet p (fun t => match t.objOf object with
    | some (.trend n) =>
      let rs := (t.svc.trends.get n).records
      let got := t.rangeOf rs mode ref count
      let has := fun (x : Option TrendRec) => bit (x.any (fun r => got.contains r))
      t.respond p peer .response ([has rs.head?, has rs.getLast?, got.length] ++ got.flatMap t.recData)
    | some _ => t.respondError p peer (5, 22)
    | none => t.respondError p peer errUnknownObject) (s.advance a))

/-! ### DeviceCommunicationControl (R358) -/

/-- BACNET_PASSWORD (R399); empty while it is not installed. -/
def State.password (s : State) : List Byte := (s.nv.load 0x0007 0x0600).getD []

/-- A password is accepted: an empty one set accepts every request. -/
def State.passwordFits (s : State) (given : List Byte) : Bool := s.password.isEmpty || s.password == given

/-- Error PASSWORD_FAILURE. -/
def errPassword : BErr := (4, 26)

/-- Requests executed even while communication is disabled. -/
def State.bacnetAlways (p : Nat) (f : State → State) (s : State) : State :=
  if s.rdy Rdy.services && decide (p < 7) && s.bacnetPort p then
    let t := s.rxTake p
    if t.peerHolds then t else f t
  else s

/-- DEVICE_COMMUNICATION_CONTROL (R358): the state asked for, the duration in minutes, the password. -/
def execDeviceCommunicationControl (a : At) (p peer : Nat) (state : Dcc3) (minutes : Option Nat) (password : List Byte) (s : State) :
    Host.Outcome State Fault Refusal :=
  .next (State.bacnetAlways p (fun t =>
    if !t.passwordFits password then t.respondError p peer errPassword
    else
      let u := t.respond p peer .response []
      let dcc := match state with
        | .enable => Dcc.enabled
        | .disable => Dcc.disabled
        | .disableInitiation => Dcc.initiationDisabled
      { u with svc := { u.svc with
        dcc := dcc, dccUntil := if dcc = .enabled then none else minutes.map (fun m => u.clock + m * 60000000) } }) (s.advance a))

/-- DCC_DURATION_END (R358). -/
def execDccDurationEnd (a : At) (s : State) : Host.Outcome State Fault Refusal :=
  let t := s.advance a
  .next (if t.svc.dccUntil.any (fun d => decide (d ≤ t.clock)) then
      { t with svc := { t.svc with dcc := .enabled, dccUntil := none } }
    else t)

/-! ### SERVICE operations (R368) -/

/-- RESULT of a BACnet error: class in bits 31:16, code in bits 15:0. -/
def resultOf (e : BErr) : List Byte := le 4 (e.1 * 65536 + e.2)

/-- ARRAY_INDEX: FFFFFFFFh is none. -/
def arrayIndex (v : Nat) : Option Nat := if v = 0xFFFFFFFF then none else some v

/-- SVC_READ_PROPERTY (R368). -/
def opSvcReadProperty : OpDef :=
  { cls := 3, opcode := 0x0001, fns := [16]
    len := fun n => n == 8
    body := fun r s => match s.readProp r.target (fieldAt r.payload 0 4) (arrayIndex (fieldAt r.payload 4 4)) with
      | .ok v => s.ok (le 4 0 ++ le 2 v.length ++ le 2 0 ++ v)
      | .error e => s.ok (resultOf e ++ le 2 0 ++ le 2 0) }

/-- SVC_READ_PROPERTY (R368). -/
def execSvcReadProperty (a : At) (r : Req) (s : State) : Host.Outcome State Fault Refusal := .next (serve opSvcReadProperty r (s.advance a))

/-- SVC_WRITE_PROPERTY (R368): what the store refuses is the mailbox's status (R350). -/
def opSvcWriteProperty : OpDef :=
  { cls := 3, opcode := 0x0002, fns := [16]
    len := fun n => decide (12 ≤ n)
    content := fun _ r => decide (fieldAt r.payload 8 1 ≤ 16) && allZero ((r.payload.drop 9).take 3)
    holds := true
    body := fun r s =>
      match s.writeProp r.target (fieldAt r.payload 0 4) (arrayIndex (fieldAt r.payload 4 4)) (fieldAt r.payload 8 1) (r.payload.drop 12) with
      | (t, .status .storeFull) => t.fail .storeFull
      | (t, .status .nvBusy) => t.fail .nvBusy
      | (t, x) => t.ok (match x.error with
        | some e => resultOf e
        | none => le 4 0) }

/-- SVC_WRITE_PROPERTY (R368). -/
def execSvcWriteProperty (a : At) (r : Req) (s : State) : Host.Outcome State Fault Refusal := .next (serve opSvcWriteProperty r (s.advance a))

/-- SVC_TIME_SET (R338, R368). -/
def opSvcTimeSet : OpDef :=
  { cls := 3, opcode := 0x0003, fns := [16]
    len := fun n => n == 16
    content := fun _ r => r.target == 0 && allZero (r.payload.drop 10)
    holds := true
    ready := fun s _ => s.rdy Rdy.services && s.wallNow.isSome
    body := fun r s => match s.wallNow with
      | some w => (s.setTime 3 ((fieldAt r.payload 0 8 * 65536 + fieldAt r.payload 8 2 : Nat) : Int) w).ok
      | none => s.fail .notReady }

/-- SVC_TIME_SET (R338). -/
def execSvcTimeSet (a : At) (r : Req) (s : State) : Host.Outcome State Fault Refusal := .next (serve opSvcTimeSet r (s.advance a))

/-- SVC_TIME_READ (R368): 0 while the services hold no UTC. -/
def opSvcTimeRead : OpDef :=
  { cls := 3, opcode := 0x0004, fns := [16]
    len := fun n => n == 0
    content := fun _ r => r.target == 0
    body := fun _ s =>
      let held := if s.svc.timeValid then s.wallNow else none
      let utc := held.map s.utcSecs
      let frac := held.map s.utcFrac
      s.ok (le 8 (utc.getD 0) ++ le 2 (frac.getD 0) ++ le 1 (bit held.isSome + 2 * bit (utc.any s.dst)) ++ le 1 0 ++
        le 2 (ofSigned 16 s.utcOffset) ++ le 2 0) }

/-- SVC_TIME_READ (R368). -/
def execSvcTimeRead (a : At) (r : Req) (s : State) : Host.Outcome State Fault Refusal := .next (serve opSvcTimeRead r (s.advance a))

end Sys2Proof.Machine
end

