-- ==== Sys2Proof/Machine/Policy.lean ====
section
/-! DEFINITION. Machine/Policy.lean: the safe-climate policy (R360–R364) and POLICY_READ (R368). -/

namespace Sys2Proof.Machine

/-! ### Evaluation (R360, R361) -/

/-- Guard temperature of a zone in 0.01 °C: the measured output of kind TEMPERATURE with the lowest index whose class is VALID
(R360); none for a blind zone. -/
def State.guardTemp (s : State) (z : Nat) : Option Int :=
  ((upTo (s.ny z)).filter (fun k => s.cfgN Fid.Y_KIND (sigIdx z k) == 1)).findSome? (fun k =>
    let b := s.boundY z k
    if b.validity = .valid then some (sext 16 (toBasic 1 (some b.value))) else none)

/-- Threshold of a guard: none while it is disarmed (R361). -/
def State.guardLimit (s : State) (hot : Bool) : Option Int :=
  let f := if hot then Fid.SCP_HOT else Fid.SCP_FROST
  if s.cfgN f = 0x8000 then none else some (s.cfgI f)

/-- A guard of a zone. -/
def Policy.guardRun (p : Policy) (hot : Bool) : GuardRun := if hot then p.hot else p.frost

/-- Change a guard of a zone. -/
def Policy.setRun (p : Policy) (hot : Bool) (g : GuardRun) : Policy := if hot then { p with hot := g } else { p with frost := g }

/-- Whether a temperature asks a guard to change: to engage, or once engaged to release (R361). -/
def State.guardAsks (s : State) (hot on : Bool) (limit temp : Int) : Bool :=
  let hyst := (s.cfgN Fid.SCP_HYST : Int)
  match hot, on with
  | false, false => decide (temp < limit)
  | false, true => decide (limit + hyst ≤ temp)
  | true, false => decide (limit < temp)
  | true, true => decide (temp ≤ limit - hyst)

/-- One guard at one evaluation: consecutive evaluations count; a blind one breaks the run. -/
def State.guardStep (s : State) (hot : Bool) (temp : Option Int) (g : GuardRun) : GuardRun :=
  match s.guardLimit hot, temp with
  | some l, some t => { g with run := if s.guardAsks hot g.on l t then g.run + 1 else 0 }
  | _, _ => { g with run := 0 }

/-- Actuator inputs of a zone that a guard drives (R362). -/
def State.guardInputs (s : State) (z : Nat) : List Nat :=
  ((upTo (s.nu z)).map (sigIdx z)).filter (fun i => s.cfgN Fid.U_GUARD i != 0)

/-- The evaluation of one zone, with GUARD_NO_ACTUATOR once per commit (R363). -/
def State.policyZone (z : Nat) (s : State) : State :=
  let p := s.policy.get z
  let t := s.guardTemp z
  let p' := { p with
    frost := s.guardStep false t p.frost, hot := s.guardStep true t p.hot, blind := t.isNone
    blindTurns := if t.isNone then p.blindTurns + 1 else 0, temp := t.getD p.temp }
  let armed := (s.guardLimit false).isSome || (s.guardLimit true).isSome
  let tell := armed && (s.guardInputs z).isEmpty && !p.noActuatorNoted
  let u := { s with policy := s.policy.set z { p' with noActuatorNoted := p.noActuatorNoted || tell } }
  if tell then u.record 0 3 0x0204 (le 1 z) true z else u

/-- POLICY_EVALUATION (R360): every present zone at every turn boundary while CONFIG is set. -/
def State.policyEval (s : State) : State := if s.rdy Rdy.config then State.each s.zonesPresent State.policyZone s else s

/-! ### Engaging and releasing (R361) -/

/-- Turns a guard has been engaged. -/
def State.engagedTurns (s : State) (g : GuardRun) : Nat := s.turnsSince g.since

/-- GUARD_ENGAGED (R361): a guard whose condition has held for SCP_DELAY evaluations. -/
def execGuardEngaged (a : At) (z : Nat) (hot : Bool) (s : State) : Host.Outcome State Fault Refusal :=
  let t := s.advance a
  let p := t.policy.get z
  let g := p.guardRun hot
  .next (if t.rdy Rdy.config && t.present z && !g.on && (t.guardLimit hot).isSome && decide (t.cfgN Fid.SCP_DELAY ≤ g.run) then
      State.record 0 4 0x0201 (le 1 z ++ le 1 (if hot then 2 else 1) ++ le 2 (ofSigned 16 p.temp)) true z
        { t with policy := t.policy.set z (p.setRun hot { on := true, since := t.now }) }
    else t)

/-- GUARD_RELEASED (R361): a guard whose release condition has held, after SCP_MIN_ON turns; or one that is no longer armed. -/
def execGuardReleased (a : At) (z : Nat) (hot : Bool) (s : State) : Host.Outcome State Fault Refusal :=
  let t := s.advance a
  let p := t.policy.get z
  let g := p.guardRun hot
  let due := (t.guardLimit hot).isNone ||
    (decide (t.cfgN Fid.SCP_DELAY ≤ g.run) && decide (t.cfgN Fid.SCP_MIN_ON ≤ t.engagedTurns g))
  .next (if t.rdy Rdy.config && g.on && due then
      State.record 0 2 0x0202
        (le 1 z ++ le 1 (if hot then 2 else 1) ++ le 2 (ofSigned 16 p.temp) ++ le 4 (t.engagedTurns g)) true z
        { t with policy := t.policy.set z (p.setRun hot {}) }
    else t)

/-- GUARD_BLIND (R361): an engaged guard of a zone that has been blind for SCP_BLIND_LIMIT turns. -/
def execGuardBlind (a : At) (z : Nat) (hot : Bool) (s : State) : Host.Outcome State Fault Refusal :=
  let t := s.advance a
  let p := t.policy.get z
  let limit := t.cfgN Fid.SCP_BLIND_LIMIT
  .next (if t.rdy Rdy.config && (p.guardRun hot).on && limit != 0 && p.blind && decide (limit ≤ p.blindTurns) then
      State.record 0 3 0x0203 (le 1 z ++ le 1 (if hot then 2 else 1)) true z
        { t with policy := t.policy.set z (p.setRun hot {}) }
    else t)

/-! ### Ownership (R362) -/

/-- What a commit leaves of the guards (R364): those of zones that stay present with unchanged U_GUARD fields. `old` stands before
the commit. -/
def State.policyCommit (old : State) (s : State) : State :=
  let kept := s.policy.keys.filter (fun z => s.present z && old.present z &&
    (upTo 4).all (fun k => old.cfgN Fid.U_GUARD (sigIdx z k) == s.cfgN Fid.U_GUARD (sigIdx z k)))
  let m := kept.foldl (fun (t : Tbl Policy) z => t.set z { s.policy.get z with noActuatorNoted := false }) ([] : Tbl Policy)
  { s with policy := m }

/-! ### POLICY_READ (R368) -/

/-- POLICY_READ (R368). -/
def opPolicyRead : OpDef :=
  { cls := 5, opcode := 0x0042, fns := [0], fallback := true
    len := fun n => n == 0
    content := fun _ r => decide (r.target < 256)
    off := fun s r => !s.present r.target
    body := fun r s =>
      let p := s.policy.get r.target
      let g := p.drives
      let since := match g with
        | .released => 0
        | .frost => p.frost.since.toNat
        | .hot => p.hot.since.toNat
      let t := s.guardTemp r.target
      s.ok (le 1 g.code ++ le 1 (bit t.isNone) ++ le 2 0 ++ le 2 (match t with
        | some v => ofSigned 16 v
        | none => 0x8000) ++ le 2 0 ++ le 8 since) }

/-- POLICY_READ (R368). -/
def execPolicyRead (a : At) (r : Req) (s : State) : Host.Outcome State Fault Refusal := .next (serve opPolicyRead r (s.advance a))

end Sys2Proof.Machine
end

