-- ==== Sys2Proof/Machine/Occupancy.lean ====
section
/-! DEFINITION. Machine/Occupancy.lean: the occupancy estimator (R186–R190) and OCC_READ (R193). -/

namespace Sys2Proof.Machine

/-! ### The mark (R186) -/

/-- Mean of a sum of `n` values; none without values. -/
def meanOf (sum : Word32) (n : Nat) : Option Word32 := if n = 0 then none else some (F32.div sum (F32.ofNat n))

/-- Mean of a list of values. -/
def meanList (xs : List Word32) : Option Word32 := meanOf (F32.sum xs) xs.length

/-- Marks of a window (R186). -/
def State.occWindow (s : State) : Nat := s.cfgN Fid.OCC_WINDOW / 64

/-- The mark of a zone from the floor samples since the previous one. -/
def State.occMark (s : State) (o : Occ) : OccMark :=
  { innov := meanOf o.innovSum o.innovN, co2 := o.co2Last, flow := meanOf o.flowSum o.flowN, seen := o.seen
    presValid0 := decide (0 < o.presN0), presValid1 := decide (0 < o.presN1), gain := meanOf o.gainSum o.gainN, turn := s.turn }

/-- Record a mark; the accumulation starts again. -/
def State.occAddMark (s : State) (o : Occ) : Occ :=
  { o with
    marks := (s.occMark o :: o.marks).take s.occWindow
    innovSum := 0, innovN := 0, co2Last := none, flowSum := 0, flowN := 0, seen := false, presN0 := 0, presN1 := 0, samples := 0
    gainSum := 0, gainN := 0 }

/-! ### The paths (R187) -/

/-- Hours that `turns` turns last at the turn rate of the latest concordance point. -/
def State.hoursOf (s : State) (turns : Nat) : Word32 := F32.ofRat (turns * 1000000 : Nat) (s.pointRate * 3600)

/-- Least-squares slope of values over times; none for fewer than two times. -/
def slopeOf (pts : List (Word32 × Word32)) : Option Word32 :=
  match meanList (pts.map (fun p => p.1)), meanList (pts.map (fun p => p.2)) with
  | some tm, some vm =>
    let sxx := F32.sum (pts.map (fun p => F32.mul (F32.sub p.1 tm) (F32.sub p.1 tm)))
    let sxy := F32.sum (pts.map (fun p => F32.mul (F32.sub p.1 tm) (F32.sub p.2 vm)))
    if (F32.mag sxx).1 = 0 then none else some (F32.div sxy sxx)
  | _, _ => none

/-- At least half of the marks satisfy a condition. -/
def halfOf (marks : List OccMark) (p : OccMark → Bool) : Bool := !marks.isEmpty && decide (marks.length ≤ 2 * (marks.filter p).length)

/-- The CO2 path in person-equivalents; its slope is a free value where the marks give none (assumption 3). -/
def State.co2Path (s : State) (z : Nat) (marks : List OccMark) : Option Word32 :=
  if s.cfgN Fid.OCC_Y_CO2 z = 255 ∨ !halfOf marks (fun m => m.co2.isSome) then none else
  let pts := marks.filterMap (fun m => m.co2.map (fun c => (F32.neg (s.hoursOf (s.turn - m.turn)), c)))
  let mean := (meanList (pts.map (fun p => p.2))).getD 0
  let slope := (slopeOf pts).getD s.freeNow
  let q := (meanList (marks.filterMap (fun m => m.flow))).getD 0
  let v := F32.ofRat (s.cfgN Fid.OCC_VOLUME z : Nat) 10
  let net := F32.fma v slope (F32.mul q (F32.sub mean (F32.ofNat (s.cfgN Fid.OCC_CO2_SUPPLY))))
  some (F32.mul (F32.div net (F32.ofRat (s.cfgN Fid.OCC_CO2_PERSON : Nat) 10)) (F32.ofRat 1 1000))

/-- The heat path in person-equivalents. -/
def State.heatPath (s : State) (z : Nat) (marks : List OccMark) : Option Word32 :=
  let o := s.zones.get z
  if s.cfgN Fid.OCC_Y_TEMP z = 255 ∨ !s.present z ∨ o.mode = .sounding ∨ 0 < o.warm ∨ o.blindSince.isSome ∨
      !halfOf marks (fun m => m.innov.isSome) then none else
  let nu := (meanList (marks.filterMap (fun m => m.innov))).getD 0
  let h := (meanList (marks.filterMap (fun m => m.gain))).getD 0
  some (F32.div (F32.fma (F32.ofNat (s.cfgN Fid.OCC_INNOV_W z)) nu h) (F32.ofNat (s.cfgN Fid.OCC_W_PERSON)))

/-- The presence path is valid: one source that is not NONE was VALID in at least half the marks (R187). -/
def State.presPath (s : State) (z : Nat) (marks : List OccMark) : Bool :=
  (s.cfgN Fid.OCC_PRESENCE0 z != 0 && halfOf marks (fun m => m.presValid0)) ||
    (s.cfgN Fid.OCC_PRESENCE1 z != 0 && halfOf marks (fun m => m.presValid1))

/-! ### The update (R188) -/

/-- The count the paths give, before its limits. -/
def State.occCount (s : State) (co2 heat : Option Word32) : Option Word32 :=
  let wc := F32.ofRat (s.cfgN Fid.OCC_WEIGHT_CO2 : Nat) 100
  let wh := F32.sub F32.one wc
  match co2, heat with
  | none, none => none
  | some c, none => some (if (F32.mag wc).1 = 0 then s.freeNow else F32.div (F32.mul wc c) wc)
  | none, some h => some (if (F32.mag wh).1 = 0 then s.freeNow else F32.div (F32.mul wh h) wh)
  | some c, some h => some (F32.div (F32.fma wc c (F32.mul wh h)) (F32.add wc wh))

/-- The estimate of a zone from its marks. -/
def State.occEstimate (s : State) (z : Nat) (o : Occ) : Occ :=
  let marks := o.marks.take s.occWindow
  let co2 := s.co2Path z marks
  let heat := s.heatPath z marks
  let pres := s.presPath z marks
  let seen := marks.any (fun m => m.seen)
  let full := F32.ofRat (s.cfgN Fid.OCC_P_FULL : Nat) 100
  let trust := F32.ofRat (s.cfgN Fid.OCC_PRES_TRUST : Nat) 10000
  let count := s.occCount co2 heat
  let p0 := F32.clamp 0 (F32.ofRat (s.cfgN Fid.OCC_MAX_PERSONS z : Nat) 10) (count.getD 0)
  let prob0 := F32.min2 F32.one (F32.div p0 full)
  let vacant := pres && !seen
  let prob := if pres && seen then F32.max2 prob0 trust else if vacant then F32.min2 prob0 (F32.sub F32.one trust) else prob0
  let p := if vacant then F32.min2 p0 (F32.mul prob full) else p0
  let valid := count.isSome || pres
  let busy := F32.le 0x3F000000#32 prob
  { o with
    stamp := s.now, valid := valid, gain := F32.mul p (F32.ofNat (s.cfgN Fid.OCC_W_PERSON)), persons := p, prob := prob
    paths := bit co2.isSome + 2 * bit heat.isSome + 4 * bit pres + 8 * bit (pres && seen) + 16 * bit ((s.zones.get z).mode == .sounding)
    stepProb := if valid then F32.add o.stepProb prob else o.stepProb
    stepN := if valid then o.stepN + 1 else o.stepN
    stepPers := if valid && busy then F32.add o.stepPers p else o.stepPers
    stepPersN := if valid && busy then o.stepPersN + 1 else o.stepPersN }

/-- Zones whose estimator runs. -/
def State.occZones (s : State) : List Nat := s.zonesPresent.filter (fun z => s.cfgN Fid.OCC_ENABLE z == 1)

/-- One zone's mark and update. -/
def State.occZone (z : Nat) (s : State) : State :=
  let o := s.occ.get z
  if o.marks.head?.any (fun m => m.turn == s.turn) then s
  else State.freeNext { s with occ := s.occ.set z (s.occEstimate z (s.occAddMark o)) }

/-- OCC_UPDATE (R186): every turn boundary whose count is a multiple of 64. -/
def execOccUpdate (a : At) (s : State) : Host.Outcome State Fault Refusal :=
  let t := s.advance a
  .next (if t.rdy Rdy.helm && t.rdy Rdy.services && !t.peerHolds && t.grain == 0 && t.turn % 64 == 0 then State.each t.occZones State.occZone t else t)

/-! ### The learned profile (R190) -/

/-- Key of a bin. -/
def binKey (z cls i : Nat) : Nat := z * 256 + cls * 96 + i

/-- A bin after a step. -/
def OccBin.learn (b : OccBin) (days : Nat) (m : Word32) (pers : Option Word32) : OccBin :=
  let toward := fun (old new : Word32) => F32.add old (F32.div (F32.sub new old) (F32.ofNat days))
  { prob := toward b.prob m, updates := b.updates + 1
    persons := match pers with
      | some p => toward b.persons p
      | none => b.persons
    personUpdates := if pers.isSome then b.personUpdates + 1 else b.personUpdates }

/-- Learn the step that has ended for a zone. -/
def State.learnZone (cls i z : Nat) (s : State) : State :=
  let o := s.occ.get z
  let t := { s with occ := s.occ.set z { o with stepProb := 0, stepN := 0, stepPers := 0, stepPersN := 0 } }
  match meanOf o.stepProb o.stepN with
  | some m => { t with profile := t.profile.upd (binKey z cls i) (fun b => b.learn (s.cfgN Fid.OCC_LEARN_DAYS) m (meanOf o.stepPers o.stepPersN)) }
  | none => t

/-- The saved form of a bin (assumption 13): probability in 0.0001, persons in 0.01, updates, and bit 7 once persons are learned. -/
def OccBin.saved (b : OccBin) : List Byte :=
  le 2 ((F32.toRange b.prob 10000 0 10000).getD 0).toNat ++ le 2 ((F32.toRange b.persons 100 0 65535).getD 0).toNat ++
    le 1 (min 127 b.updates + 128 * bit (decide (0 < b.personUpdates)))

/-- A bin as restored. -/
def savedBin (bs : List Byte) : OccBin :=
  { prob := F32.ofRat (fieldAt bs 0 2 : Nat) 10000, persons := F32.ofRat (fieldAt bs 2 2 : Nat) 100
    updates := fieldAt bs 4 1 % 128, personUpdates := fieldAt bs 4 1 / 128 }

/-- Save a zone's profile: 192 bins. -/
def State.saveProfile (z : Nat) (s : State) : State :=
  s.save { typ := 0x0011, key := z, payload := (upTo 192).flatMap (fun i => (s.profile.get (binKey z (i / 96) (i % 96))).saved) }

/-- Restore the profiles at start-up. -/
def State.loadProfiles (s : State) : State :=
  { s with profile := s.zonesPresent.foldl (fun (t : Tbl OccBin) z => match s.nv.load 0x0011 z with
      | some bs => (upTo 192).foldl (fun (u : Tbl OccBin) i => u.set (binKey z (i / 96) (i % 96)) (savedBin (bs.drop (5 * i)))) t
      | none => t) ([] : Tbl OccBin) }

/-- Clear a zone's profile (R190, R194): cause 1 presence change, 2 field change. -/
def State.clearProfile (cause z : Nat) (s : State) : State :=
  if s.profile.any (fun b => b.1 / 256 == z) || (s.nv.inForce 0x0011 z).isSome then
    State.record 14 1 0x0010 (le 1 z ++ le 1 cause) false z
      (State.forget 0x0011 z { s with profile := s.profile.filter (fun b => b.1 / 256 != z) })
  else s

/-- What a commit changes: `old` stands before it. -/
def State.occCommit (old : State) (s : State) : State :=
  let zs := dedup (old.zonesPresent ++ s.zonesPresent)
  State.each zs (fun z t =>
    if old.present z != s.present z then State.clearProfile 1 z { t with occ := t.occ.set z {} }
    else if [Fid.OCC_ENABLE, Fid.OCC_Y_TEMP, Fid.OCC_Y_CO2].any (fun f => old.cfgN f z != s.cfgN f z) then
      State.clearProfile 2 z { t with occ := t.occ.set z {} }
    else t) s

/-! ### OCC_READ (R193) -/

/-- OCC_READ (R193): before a zone's first update, STAMP 0 and the no-value codes. -/
def opOccRead : OpDef :=
  { cls := 1, opcode := 0x0018, fns := [13]
    len := fun n => n == 0
    content := fun _ r => zoneTarget r
    off := fun s r => !s.present r.target || s.cfgN Fid.OCC_ENABLE r.target == 0
    body := fun r s =>
      let o := s.occ.get r.target
      let code := fun (k : Nat) (v : Word32) => match F32.toRange v k 0 65534 with
        | some i => i.toNat
        | none => 0xFFFF
      if o.stamp = 0 then s.ok (le 8 0 ++ le 4 F32.nan.toNat ++ le 2 0xFFFF ++ le 2 0xFFFF ++ le 4 0)
      else s.ok (le 8 o.stamp.toNat ++ le 4 o.gain.toNat ++ le 2 (code 100 o.persons) ++ le 2 (code 10000 o.prob) ++ le 1 o.paths ++ le 3 0) }

/-- OCC_READ (R193). -/
def execOccRead (a : At) (r : Req) (s : State) : Host.Outcome State Fault Refusal := .next (serve opOccRead r (s.advance a))

end Sys2Proof.Machine
end

