-- ==== Sys2Proof/Machine/Waypoint.lean ====
section
/-! DEFINITION. Machine/Waypoint.lean: the Waypoint planner: the plan model (R173, R174), what a plan reads (R164–R172), its
forward pass and update (R175–R178), the plan cycle (R179–R182), and the WP operations (R193). -/

namespace Sys2Proof.Machine

/-! ### Matrices in binary32 (assumption 15) -/

/-- Rows of a matrix. -/
abbrev Mat := List (List Word32)

/-- A row times a column. -/
def rowTimes (r x : List Word32) : Word32 := (r.zip x).foldl (fun a p => F32.fma p.1 p.2 a) 0

/-- A matrix times a column. -/
def matVec (m : Mat) (x : List Word32) : List Word32 := m.map (fun r => rowTimes r x)

/-- The `n` columns of a matrix. -/
def matCols (n : Nat) (m : Mat) : Mat := (upTo n).map (fun j => m.map (fun r => r.getD j 0))

/-- The product of two matrices; the second has `n` columns. -/
def matMul (n : Nat) (a b : Mat) : Mat := a.map (fun r => (matCols n b).map (fun c => rowTimes r c))

/-- Sum and difference. -/
def matAdd (a b : Mat) : Mat := List.zipWith (List.zipWith F32.add) a b
def matSub (a b : Mat) : Mat := List.zipWith (List.zipWith F32.sub) a b

/-- Sum of two columns. -/
def vecAdd (a b : List Word32) : List Word32 := List.zipWith F32.add a b

/-- A matrix of zeros. -/
def matZero (r n : Nat) : Mat := List.replicate r (List.replicate n 0)

/-! ### The plan model (R173, R174) -/

/-- A block of a zone's active bank as a matrix. -/
def State.bankMat (s : State) (z first stride rows cols : Nat) : Mat :=
  (upTo rows).map (fun i => (upTo cols).map (fun j => s.zw z (first + stride * i + j)))

/-- The one-sample map of a zone (R173). -/
def State.planOne (s : State) (z : Nat) : PlanModel :=
  let b := s.bankMat z Zw.b 4 (s.nx z) (s.nu z)
  let bk := matMul (s.nx z) b (s.bankMat z Zw.k 8 (s.nu z) (s.nx z))
  let links := (upTo 6).filterMap (fun j => (s.neighbour z j).map (fun q => (q, s.bankMat z (Zw.g j) 8 (s.nx z) (s.nx q))))
  { blocks := (z, matSub (s.bankMat z Zw.a 8 (s.nx z) (s.nx z)) bk) :: links
    gamma := matMul (s.ny z) b (s.bankMat z Zw.f 4 (s.nu z) (s.ny z))
    psi := s.bankMat z Zw.e 4 (s.nx z) (s.nd z)
    phi := matVec b ((upTo (s.nu z)).map (fun k => s.zw z (Zw.u0 + k))) }

/-- The block of a zone's model that multiplies zone `q`'s state. -/
def PlanModel.block (m : PlanModel) (q : Nat) : Mat := ((m.blocks.find? (fun b => b.1 == q)).map (fun b => b.2)).getD []

/-- One zone of "`first`, then `m`": blocks are kept only for the zone and its links (R173). -/
def PlanModel.after (m : PlanModel) (z : Nat) (first : Tbl PlanModel) : PlanModel :=
  let dim := fun q => (first.get q).phi.length
  let entry := fun q => m.blocks.foldl (fun acc p => matAdd acc (matMul (dim q) p.2 ((first.get p.1).block q))) (matZero m.phi.length (dim q))
  let own := m.block z
  let f := first.get z
  let times := fun (g : Mat) => matMul ((g.headD []).length) own g
  { blocks := m.blocks.map (fun b => (b.1, entry b.1))
    gamma := matAdd (times f.gamma) m.gamma
    psi := matAdd (times f.psi) m.psi
    phi := m.blocks.foldl (fun acc p => vecAdd acc (matVec p.2 (first.get p.1).phi)) m.phi }

/-- The floor map `first` followed by the floor map `next`. -/
def planThen (first next : Tbl PlanModel) : Tbl PlanModel := next.map (fun p => (p.1, p.2.after p.1 first))

/-- A step of repeated squaring: the result so far and the power reached. -/
def planSquare (n : Nat) (acc : Option (Tbl PlanModel) × Tbl PlanModel) (i : Nat) : Option (Tbl PlanModel) × Tbl PlanModel :=
  let r := if bitOf n i then (match acc.1 with
    | some m => some (planThen m acc.2)
    | none => some acc.2) else acc.1
  (r, planThen acc.2 acc.2)

/-- The N-fold map (R173). -/
def planPower (n : Nat) (one : Tbl PlanModel) : Tbl PlanModel := ((upTo 18).foldl (planSquare n) (none, one)).1.getD []

/-- Floor samples in 900 s at the turn rate of the latest concordance point: two a turn (R173). -/
def State.planSamples (s : State) : Nat := (1800 * s.pointRate + 500000) / 1000000

/-- The plan model of the whole floor. -/
def State.planFloor (s : State) : Tbl PlanModel :=
  planPower s.planSamples (s.zonesPresent.foldl (fun (t : Tbl PlanModel) z => t.set z (s.planOne z)) ([] : Tbl PlanModel))

/-- Derivation is due (R174): none has been made, an event asks for it, or the turn rate has moved by more than 2 %. -/
def State.planModelWanted (s : State) : Bool :=
  s.plan.modelDue || s.plan.modelRate == 0 || decide (s.plan.modelRate < 50 * ((s.pointRate : Int) - s.plan.modelRate).natAbs)

/-- PLAN_MODEL_DERIVED (R174, R194): `us` is the derivation time. -/
def execPlanModelDerived (a : At) (us : Nat) (s : State) : Host.Outcome State Fault Refusal :=
  let t := s.advance a
  .next (if t.rdy Rdy.helm && t.planModelWanted then
      State.record 14 0 0x0003 (le 4 t.planSamples ++ le 2 t.zonesPresent.length ++ le 4 us) false 0
        { t with plan.model := t.planFloor, plan.modelN := t.planSamples, plan.modelRate := t.pointRate, plan.modelDue := false }
    else t)

/-! ### What a plan reads (R165–R172) -/

/-- Reference k of a zone is planned (R166). -/
def State.wpPlanned (s : State) (z k : Nat) : Bool :=
  decide (k < s.ny z) && (descKind (s.cfgN Fid.R_BASE (sigIdx z k)) == 9 || descKind (s.cfgN Fid.R_FALLBACK (sigIdx z k)) == 9)

/-- Planned references of a zone. -/
def State.wpRefs (s : State) (z : Nat) : List Nat := (upTo 4).filter (s.wpPlanned z)

/-- The bin of a step. -/
def State.stepBin (s : State) (z n : Nat) : OccBin := s.profile.get (binKey z (s.dayClass n) (n % 96))

/-- The occupancy probability of step `i` of a plan that starts at step `n0` (R168). -/
def State.occProbability (s : State) (z n0 i : Nat) : Word32 :=
  let b := s.stepBin z (n0 + i)
  if i = 0 && (s.occSource z 2).live then (s.occ.get z).prob
  else if 7 ≤ b.updates then b.prob
  else if s.scheduledOccupied z (n0 + i) then F32.ofRat (s.cfgN Fid.OCC_SCHED_PRIOR : Nat) 10000
  else F32.ofRat 5 100

/-- Zone is occupied in occupancy index `o` (R171). -/
def occupiedIn (p : Word32) (o : Nat) : Bool := F32.le (F32.ofRat (2 * o + 1 : Nat) 16) p

/-- q_i in thousandths (R171). -/
def wxQuantile (i : Nat) : Int := ([-1534, -887, -489, -157, 157, 489, 887, 1534] : List Int).getD i 0

/-- σ[s] in K (R171). -/
def State.wxSpread (s : State) (i : Nat) : Word32 :=
  let a : Int := s.cfgN Fid.WP_WX_SPREAD0
  let b : Int := s.cfgN Fid.WP_WX_SPREAD96
  F32.ofRat (96 * a + (b - a) * (i : Int)) 9600

/-- Entry of a forecast or tariff list that starts at tick `start` for step number `n`. -/
def stepEntry (start : Nat) (xs : List Nat) (n : Nat) : Option Nat := if start / planStep ≤ n then xs[n - start / planStep]? else none

/-- The forecast outdoor temperature of a step (R170). -/
def State.forecastOutdoor (s : State) (n : Nat) : Option Word32 :=
  match s.forecast.start with
  | some st => (stepEntry st s.forecast.outdoor n).bind (fun v => if v = 0x8000 then none else some (F32.ofRat (sext 16 v) 100))
  | none => none

/-- The forecast irradiance of a step (R170); persistence is 0. -/
def State.forecastSolar (s : State) (n : Nat) : Word32 :=
  match s.forecast.start with
  | some st => ((stepEntry st s.forecast.solar n).bind (fun v => if v = 0xFFFF then none else some (F32.ofNat v))).getD 0
  | none => 0

/-- The energy price of a step in 0.0001 units (R172). -/
def State.stepPrice (s : State) (n : Nat) : Nat :=
  (s.forecast.tariffs.findSome? (fun t => (stepEntry t.1 t.2 n).bind (fun v => if v = 0xFFFF then none else some v))).getD
    (s.cfgN Fid.WP_PRICE (n % 96))

/-- Disturbance k of a zone in step `i`, weather index `wx`, the zone occupied or not (R169, R171). -/
def State.planDist (s : State) (z k n0 i wx : Nat) (occ : Bool) : Word32 :=
  match s.cfgN Fid.WP_D_ROLE (sigIdx z k) with
  | 1 =>
    let base := (s.forecastOutdoor (n0 + i)).getD (s.dUsed z k)
    F32.fma (F32.ofRat (wxQuantile wx) 1000) (s.wxSpread i) base
  | 2 => s.forecastSolar (n0 + i)
  | 3 =>
    let b := s.stepBin z (n0 + i)
    if occ then F32.mul (F32.ofNat (s.cfgN Fid.OCC_W_PERSON)) (if 0 < b.personUpdates then b.persons else F32.one) else 0
  | 4 => 0
  | _ => s.dUsed z k

/-! ### Comfort fields (R166) -/

/-- A field of R81 of reference k in the model unit. -/
def State.refField (s : State) (field z k : Nat) : Option Word32 :=
  modelLimit (s.cfgN Fid.Y_KIND (sigIdx z k)) (s.cfgN field (sigIdx z k))

/-- Band and target of a reference. -/
structure Comfort where
  lo : Word32 := 0
  hi : Word32 := 0
  target : Word32 := 0
  deriving DecidableEq, Repr, Inhabited

/-- The comfort fields that apply. -/
def State.comfort (s : State) (z k : Nat) (occ : Bool) : Comfort :=
  if occ then
    { lo := (s.refField Fid.WP_OCC_LO z k).getD 0, hi := (s.refField Fid.WP_OCC_HI z k).getD 0, target := (s.refField Fid.WP_OCC_TARGET z k).getD 0 }
  else
    { lo := (s.refField Fid.WP_UNOCC_LO z k).getD 0, hi := (s.refField Fid.WP_UNOCC_HI z k).getD 0, target := (s.refField Fid.WP_UNOCC_TARGET z k).getD 0 }

/-- The limits of a waypoint (R177). -/
def State.wpClamp (s : State) (z k : Nat) (v : Word32) : Word32 :=
  let lo := match s.refField Fid.WP_UNOCC_LO z k, s.refField Fid.R_MIN z k with
    | some a, some b => some (F32.max2 a b)
    | some a, none => some a
    | none, b => b
  let hi := match s.refField Fid.WP_UNOCC_HI z k, s.refField Fid.R_MAX z k with
    | some a, some b => some (F32.min2 a b)
    | some a, none => some a
    | none, b => b
  let v1 := match lo with
    | some l => if F32.lt v l then l else v
    | none => v
  match hi with
  | some h => if F32.lt h v1 then h else v1
  | none => v1

/-! ### The forward pass (R175, R176) -/

/-- The zone's waypoints drive it: AUTO. Another zone follows its present reference (R175). -/
def State.wpDrives (s : State) (z : Nat) : Bool := (s.zones.get z).mode == .auto

/-- A zone's previous waypoints laid to the new START; fresh ones where there is no previous plan (R177, R178). -/
def State.wpShift (s : State) (z k n0 : Nat) : List Word32 :=
  let t := s.plan.traj.get (z * 16 + k)
  if t.present && (s.plan.zones.get z).begun then
    let by_ := n0 - t.start / planStep
    let w := (upTo 96).map (fun i => t.points.get (min 96 (i + by_)))
    w ++ [w.getD 95 0]
  else
    let w := (upTo 96).map (fun i => (s.comfort z k (F32.le 0x3F000000#32 (s.occProbability z n0 i))).target)
    w ++ [w.getD 95 0]

/-- What the plan reads of a zone, once for all scenarios. -/
structure PlanInput where
  z : Nat := 0
  drives : Bool := false
  refs : List Nat := []
  /-- waypoints by reference -/
  w : Tbl (List Word32) := []
  /-- present references -/
  present : List Word32 := []
  prob : List Word32 := []
  deriving DecidableEq, Repr, Inhabited

/-- Gather it. -/
def State.planInput (s : State) (n0 z : Nat) : PlanInput :=
  { z := z, drives := s.wpDrives z, refs := s.wpRefs z
    w := (s.wpRefs z).foldl (fun (t : Tbl (List Word32)) k => t.set k (s.wpShift z k n0)) ([] : Tbl (List Word32))
    present := (upTo (s.ny z)).map (fun k => ((s.zio.get z).ref.get k).getD 0)
    prob := (upTo 96).map (s.occProbability z n0) }

/-- References of a zone in step `i`. -/
def PlanInput.r (p : PlanInput) (i : Nat) : List Word32 :=
  (upTo p.present.length).map (fun k => if p.drives && p.refs.contains k then (p.w.get k).getD i 0 else p.present.getD k 0)

/-- Signed amount by which `v` lies outside two limits. -/
def outBy (lo hi v : Word32) : Word32 := if F32.lt v lo then F32.sub v lo else if F32.lt hi v then F32.sub v hi else 0

/-- Sign of a value; 0 for 0. -/
def signOf (v : Word32) : Word32 := if F32.lt 0 v then F32.one else if F32.lt v 0 then F32.neg F32.one else 0

/-- What one zone and step of one scenario gives: cost, gradients by state and by planned reference, outputs, risk by output. -/
structure StepCost where
  cost : Word32 := 0
  dx : List Word32 := []
  dw : List Word32 := []
  y : List Word32 := []
  out : List Bool := []
  deriving DecidableEq, Repr, Inhabited

/-- Add `c` times row `r` to a gradient. -/
def addScaled (c : Word32) (r g : List Word32) : List Word32 := List.zipWith (fun a b => F32.fma c a b) r g

/-- Derivative of the energy and saturation terms by u_k, and their cost (R176). -/
def State.inputCost (s : State) (z k price : Nat) (u : Word32) : Word32 × Word32 :=
  let kind := s.cfgN Fid.U_KIND (sigIdx z k)
  let lo := (modelLimit kind (s.cfgN Fid.U_MIN (sigIdx z k))).getD (F32.inf true)
  let hi := (modelLimit kind (s.cfgN Fid.U_MAX (sigIdx z k))).getD (F32.inf false)
  let rate := F32.mul (F32.mul (F32.ofRat (price : Nat) 40000) (s.cfgW Fid.WP_U_POWER (sigIdx z k))) (F32.ofRat 1 1000)
  let o := outBy lo hi u
  let wsat := s.cfgW Fid.WP_W_SAT
  (F32.fma (F32.mul wsat o) o (F32.mul rate (F32.abs u)), F32.fma (F32.mul (F32.ofNat 2) wsat) o (F32.mul rate (signOf u)))

/-- The terms of R176 of one zone in one step of one scenario. -/
def State.stepCost (s : State) (p : PlanInput) (n0 i : Nat) (occ : Bool) (x : List Word32) : StepCost :=
  let z := p.z
  let r := p.r i
  let two := F32.ofNat 2
  let c := s.bankMat z Zw.c 8 (s.ny z) (s.nx z)
  let kmat := s.bankMat z Zw.k 8 (s.nu z) (s.nx z)
  let fmat := s.bankMat z Zw.f 4 (s.nu z) (s.ny z)
  let y := matVec c x
  let h := if occ then F32.one else s.cfgW Fid.WP_W_UNOCC
  let comfortW := F32.mul (s.cfgW Fid.WP_W_COMFORT) h
  let us := (upTo (s.nu z)).map (fun k =>
    (k, s.inputCost z k (s.stepPrice (n0 + i))
      (F32.add (F32.sub (rowTimes (fmat.getD k []) r) (rowTimes (kmat.getD k []) x)) (s.zw z (Zw.u0 + k)))))
  let inputs := F32.sum (us.map (fun v => v.2.1))
  let dx0 := us.foldl (fun g v => addScaled (F32.neg v.2.2) (kmat.getD v.1 []) g) (List.replicate (s.nx z) 0)
  let refs := p.refs.map (fun k =>
    let q := s.comfort z k occ
    let o := outBy q.lo q.hi (y.getD k 0)
    let wk := p.w.get k
    let w := wk.getD i 0
    let up := F32.sub (wk.getD (i + 1) 0) w
    let down := if i = 0 then 0 else F32.sub w (wk.getD (i - 1) 0)
    let dt := F32.sub w q.target
    let cost := F32.fma (F32.mul comfortW o) o (F32.fma (F32.mul (s.cfgW Fid.WP_W_TARGET) dt) dt (F32.mul (F32.mul (s.cfgW Fid.WP_W_SMOOTH) up) up))
    let du := F32.sum (us.map (fun v => F32.mul v.2.2 ((fmat.getD v.1 []).getD k 0)))
    let dw := F32.add (F32.mul two (F32.fma (s.cfgW Fid.WP_W_TARGET) dt (F32.mul (s.cfgW Fid.WP_W_SMOOTH) (F32.sub down up)))) du
    (k, cost, F32.mul two (F32.mul comfortW o), dw))
  { cost := F32.add inputs (F32.sum (refs.map (fun v => v.2.1)))
    dx := refs.foldl (fun g v => addScaled v.2.2.1 (c.getD v.1 []) g) dx0
    dw := refs.map (fun v => v.2.2.2)
    y := y
    out := p.refs.map (fun k =>
      let q := s.comfort z k occ
      F32.lt (y.getD k 0) q.lo || F32.lt q.hi (y.getD k 0)) }

/-- Weighted accumulation of a zone over scenarios, by step. -/
structure PlanAcc where
  cost : Word32 := 0
  dx : List (List Word32) := []
  dw : List (List Word32) := []
  y : List (List Word32) := []
  out : List (List Nat) := []
  deriving DecidableEq, Repr, Inhabited

/-- Sum of two lists of which one may not have begun. -/
def accAdd (old new : List Word32) : List Word32 := if old.isEmpty then new else vecAdd old new

/-- Add one step of one scenario, its weight 1/64. -/
def PlanAcc.add (a : PlanAcc) (i : Nat) (c : StepCost) : PlanAcc :=
  let wt := F32.ofRat 1 64
  let weigh := fun (xs : List Word32) => xs.map (F32.mul wt)
  let at_ := fun (l : List (List Word32)) (v : List Word32) =>
    if i < l.length then l.modify i (fun o => accAdd o (weigh v)) else l ++ [weigh v]
  { cost := F32.fma wt c.cost a.cost, dx := at_ a.dx c.dx, dw := at_ a.dw c.dw, y := at_ a.y c.y
    out := if i < a.out.length then a.out.modify i (fun o => List.zipWith (· + ·) o (c.out.map bit)) else a.out ++ [c.out.map bit] }

/-- One plan step of the floor (R173). -/
def planAdvance (m : Tbl PlanModel) (x : Tbl (List Word32)) (r d : Nat → List Word32) : Tbl (List Word32) :=
  m.map (fun p =>
    let links := p.2.blocks.foldl (fun acc b => vecAdd acc (matVec b.2 (x.get b.1))) p.2.phi
    (p.1, vecAdd (vecAdd links (matVec p.2.gamma (r p.1))) (matVec p.2.psi (d p.1))))

/-- One step of one scenario over the floor. -/
def State.scenarioStep (s : State) (ps : List PlanInput) (n0 wx o : Nat) (acc : Tbl PlanAcc × Tbl (List Word32)) (i : Nat) :
    Tbl PlanAcc × Tbl (List Word32) :=
  let busy := fun (p : PlanInput) => occupiedIn (p.prob.getD i 0) o
  let accs := ps.foldl (fun (t : Tbl PlanAcc) p => t.upd p.z (fun a => a.add i (s.stepCost p n0 i (busy p) (acc.2.get p.z)))) acc.1
  let find := fun z => (ps.find? (fun p => p.z == z)).getD {}
  (accs, planAdvance s.plan.runModel acc.2 (fun z => (find z).r i)
    (fun z => (upTo (s.nd z)).map (fun k => s.planDist z k n0 i wx (busy (find z)))))

/-- The forward pass over 64 scenarios (R171, R177). -/
def State.forwardPass (s : State) (ps : List PlanInput) (n0 : Nat) : Tbl PlanAcc :=
  let x0 := ps.foldl (fun (t : Tbl (List Word32)) p => t.set p.z ((upTo (s.nx p.z)).map (s.zones.get p.z).xhat.get)) ([] : Tbl (List Word32))
  (upTo 64).foldl (fun t m => ((upTo 96).foldl (s.scenarioStep ps n0 (m / 8) (m % 8)) (t, x0)).1) ([] : Tbl PlanAcc)

/-! ### The update (R177) -/

/-- The own-block adjoint: gradients g[0..95] of one planned reference, each from lambda of the next step. `j` is its place among the planned
ones. -/
def adjoint (own gamma : Mat) (k j : Nat) (a : PlanAcc) : List Word32 :=
  let n := own.length
  let col := gamma.map (fun r => r.getD k 0)
  ((upTo 96).foldl (fun (acc : List Word32 × List Word32) i =>
    let t := 95 - i
    let lam := vecAdd (matVec (matCols n own) acc.1) (a.dx.getD t [])
    (lam, F32.add (rowTimes col acc.1) ((a.dw.getD t []).getD j 0) :: acc.2)) (List.replicate n 0, [])).2

/-- step[z] after a plan (R177, R178). -/
def State.nextStep (s : State) (z : Nat) (j : Word32) : Word32 :=
  let limit := F32.ofInt (sext 32 (s.cfgN Fid.WP_STEP_MAX))
  match (s.plan.zones.get z).cost with
  | none => limit
  | some old =>
    let st := (s.plan.zones.get z).step
    if F32.lt old j then F32.max2 (F32.mul st (F32.ofRat 1 2)) (F32.mul limit (F32.ofRat 1 64))
    else F32.min2 (F32.mul st (F32.ofNat 2)) limit

/-- New waypoints of one reference. The gradient of the last is a free value (assumption 3): R177 gives none. -/
def State.moveWaypoints (s : State) (z k : Nat) (step : Word32) (g w : List Word32) : List Word32 :=
  let gmax := g.foldl (fun m v => F32.max2 m (F32.abs v)) 0
  let st := F32.mul step (F32.ofRat 1 (limitScale (s.cfgN Fid.Y_KIND (sigIdx z k))))
  (upTo 97).map (fun i =>
    let v := w.getD i 0
    let gi := g.getD i s.freeNow
    s.wpClamp z k (if F32.lt 0 gmax then F32.sub v (F32.div (F32.mul st gi) gmax) else v))

/-- Result of one zone: its trajectories, and what R177 keeps of it. -/
def State.planZone (s : State) (n0 : Nat) (p : PlanInput) (a : PlanAcc) : List (Nat × Traj) × PlanZone :=
  let m := s.plan.runModel.get p.z
  let step := s.nextStep p.z a.cost
  let trajs := p.refs.zipIdx.map (fun kj =>
    let w := p.w.get kj.1
    let g := adjoint (m.block p.z) m.gamma kj.1 kj.2 a
    let w1 := if p.drives then s.moveWaypoints p.z kj.1 step g w else w
    let t : Traj :=
      { present := true, start := n0 * planStep, epoch := s.plan.epoch, carried := !p.drives
        points := Tbl.writeList [] 0 w1
        expected := Tbl.writeList [] 0 (a.y.map (fun y => y.getD kj.1 0))
        risk := Tbl.writeList [] 0 (a.out.map (fun o => (o.getD kj.2 0 * 10000 + 32) / 64)) }
    (p.z * 16 + kj.1, t))
  (trajs, if p.drives then { cost := some a.cost, step := step, begun := true } else { s.plan.zones.get p.z with begun := true })

/-- A trajectory holds a value that is not finite. -/
def Traj.bad (t : Traj) : Bool := t.points.any (fun p => !F32.isFin p.2) || t.expected.any (fun p => !F32.isFin p.2)

/-- The plan takes x[0] at the first floor apply angle after its start, and its results follow from it (R175–R177). -/
def State.planTake (s : State) : State :=
  if !s.plan.running || s.plan.taken then s else
  let n0 := s.plan.start / planStep
  let ps := s.zonesPresent.map (s.planInput n0)
  let acc := s.forwardPass ps n0
  let res := ps.map (fun p => (p.z, s.planZone n0 p (acc.get p.z)))
  let bad := (res.filter (fun r => !F32.isFin (acc.get r.1).cost || r.2.1.any (fun t => t.2.bad))).map (fun r => r.1)
  State.freeNext { s with
    plan.taken := true
    plan.ready := res.foldl (fun (t : Tbl Traj) r => r.2.1.foldl (fun (u : Tbl Traj) x => u.set x.1 x.2) t) ([] : Tbl Traj)
    plan.readyZones := res.foldl (fun (t : Tbl PlanZone) r => t.set r.1 r.2.2) ([] : Tbl PlanZone)
    plan.readyBad := bad
    plan.readyEpoch := s.plan.epoch
    plan.readyCost := F32.sum (ps.map (fun p => (acc.get p.z).cost)) }

/-! ### The plan cycle (R179–R182) -/

/-- The planner may run: enabled, with what R33 asks, on the module that plans, not in ECONOMY (R182, R185, R536). -/
def State.planRuns (s : State) : Bool :=
  s.cfgN Fid.WP_ENABLE == 1 && s.rdy Rdy.helm && s.rdy Rdy.services && s.rdy Rdy.almanac && !s.peerHolds && !s.sup.economy

/-- A start is due (R179). -/
def State.planDue (s : State) : Bool :=
  s.plan.replan || (match s.plan.lastTicks with
    | some t => decide (t + s.cfgN Fid.WP_PERIOD * 32768 ≤ s.alm.count.toNat)
    | none => true)

/-- Occupancy updates of this turn boundary are still to be made: they go before plans (R180, R186). -/
def State.occFirst (s : State) : Bool :=
  s.grain == 0 && s.turn % 64 == 0 && s.occZones.any (fun z => !((s.occ.get z).marks.head?.any (fun m => m.turn == s.turn)))

/-- PLAN_START (R179): at a turn boundary, with no plan running. -/
def execPlanStart (a : At) (s : State) : Host.Outcome State Fault Refusal :=
  let t := s.advance a
  .next (if t.planRuns && t.grain == 0 && t.planDue && !t.plan.running && !t.plan.modelDue && t.plan.modelRate != 0 && !t.occFirst then
      let c := t.alm.count.toNat
      { t with
        plan.running := true, plan.taken := false, plan.replan := false
        plan.startStamp := t.now, plan.startTicks := c, plan.start := c / planStep * planStep, plan.epoch := t.alm.epoch.toNat
        plan.lastTicks := some c, plan.lastStart := t.now, plan.runModel := t.plan.model }
    else t)

/-- PLAN_COMPLETE (R180): `us` is the time the plan took. -/
def execPlanComplete (a : At) (us : Nat) (s : State) : Host.Outcome State Fault Refusal :=
  let t := s.advance a
  .next (if t.plan.running && t.plan.taken && !t.occFirst then { t with plan.running := false, plan.readySet := true, plan.readyTime := us } else t)

/-! ### A sounding's fit: priority 4, after due occupancy updates and plans (R180, R208) -/

/-- The fit of the first sounding of a zone that waits for it, with its tests and its delivery (R214, R215). -/
def State.sndFitEnds (z : Nat) (t : State) : State :=
  let o := t.sndResult z
  let u := { t with snd := t.snd.put z o, free := t.free + 2 }
  let v := State.record 15 1 0x0004 (le 1 z ++ le 4 o.seq ++ le 2 o.fails ++ le 4 o.fit.toNat) true z u
  let mode := if Snd.deliver o.request = 0 then v.cfgN Fid.SND_DELIVER else Snd.deliver o.request
  if o.state == .accepted && decide (2 ≤ mode) then v.sndDeliver z mode 0 o none else v

/-- SOUND_FIT_COMPLETE (R180, R214): not while a plan computes, which preempts it, and not before an occupancy update that is due. -/
def execSoundFitComplete (a : At) (z : Nat) (s : State) : Host.Outcome State Fault Refusal :=
  let t := s.advance a
  .next (if (t.sndFitting z).state == .fitting && t.rdy Rdy.services && !(t.plan.running && t.plan.taken) && !t.occFirst then
      t.sndFitEnds z
    else t)

/-! ### Publication (R181, R182) -/

/-- ZONE_NONFINITE (R181, R194). -/
def State.zoneNonfinite (seq z : Nat) (s : State) : State := State.record 14 3 0x0004 (le 1 z ++ le 4 seq) true z s

/-- Publication at the first floor apply angle after completion (R181, R182). -/
def State.planPublish (s : State) : State :=
  if !s.plan.readySet then s else
  let p := s.plan
  let seq := p.seq + 1
  let kept := (p.traj.filter (fun t => p.readyBad.contains (t.1 / 16))).foldl
    (fun (u : Tbl Traj) t => u.set t.1 { t.2 with kept := true }) ([] : Tbl Traj)
  let traj := (p.ready.filter (fun t => !p.readyBad.contains (t.1 / 16))).foldl
    (fun (u : Tbl Traj) t => u.set t.1 { t.2 with planSeq := seq.toNat, publish := s.now, kept := false }) kept
  let zones := p.readyZones.foldl (fun (u : Tbl PlanZone) z => if p.readyBad.contains z.1 then u else u.set z.1 z.2) p.zones
  let t := { s with
    plan.traj := traj, plan.zones := zones, plan.seq := seq, plan.cost := p.readyCost, plan.time := p.readyTime
    plan.pubEpoch := p.readyEpoch
    plan.planned := (dedup (p.ready.map (fun x => x.1 / 16))).length, plan.lastPublish := s.now, plan.readySet := false
    plan.ready := [], plan.readyZones := [], plan.readyBad := [], plan.staleNoted := false }
  let t1 := State.each p.readyBad (State.zoneNonfinite seq.toNat) t
  if t1.planRuns && !t1.rdy Rdy.waypoint then t1.updateReady [Rdy.waypoint] [] else t1

/-- PLAN_DISCARDED (R179): WAYPOINT has cleared, or what the planner needs has; the next plan starts when the planner runs again. -/
def execPlanDiscarded (a : At) (s : State) : Host.Outcome State Fault Refusal :=
  let t := s.advance a
  .next (if t.planRuns then t else
    let u := if t.plan.running || t.plan.readySet then t.discardPlan 3 else t
    { u with plan.replan := true })

/-- PLAN_STALE (R194): once for each published plan. -/
def execPlanStale (a : At) (s : State) : Host.Outcome State Fault Refusal :=
  let t := s.advance a
  let old := dedup ((t.plan.traj.filter (fun x => t.olderThan x.2.publish (t.cfgN Fid.WP_MAX_AGE))).map (fun x => x.1 / 16))
  .next (if t.rdy Rdy.waypoint && !old.isEmpty && !t.plan.staleNoted then
      State.record 14 2 0x0002 (le 2 old.length ++ le 4 t.plan.seq.toNat) true 0 { t with plan.staleNoted := true }
    else t)

/-- A forecast whose last step is past (R194). -/
def State.forecastEnds (s : State) : State :=
  match s.forecast.start with
  | some st =>
    if st + 96 * planStep ≤ s.alm.count.toNat then
      State.record 14 1 0x0005 (le 6 st) false 0 { s with forecast.start := none, forecast.outdoor := [], forecast.solar := [] }
    else s
  | none => s

/-- PLAN_STEP_END (R190): a step of 900 s of Almanac time has ended. -/
def execPlanStepEnd (a : At) (s : State) : Host.Outcome State Fault Refusal :=
  let t := s.advance a
  let n := t.alm.count.toNat / planStep
  .next (if !t.rdy Rdy.almanac then t else
    match t.plan.lastStep with
    | none => { t with plan.lastStep := some n }
    | some m =>
      if m = n then t else
      let u := State.each t.occZones (State.learnZone (t.dayClass m) (m % 96)) { t with plan.lastStep := some n }
      let v := if n % 16 = 0 then State.each u.occZones State.saveProfile u else u
      v.forecastEnds)

/-- The zone whose own field this is, at an INDEX: per-zone and per-signal fields have one (R106). -/
def fieldZone (f i : Nat) : Option Nat :=
  match fieldRow f with
  | none => none
  | some x => match x.dom with
    | .zone => some i
    | .sig _ => some (i / 16)
    | _ => none

/-- What a commit changes: `old` stands before it (R174, R178, R179). -/
def State.planCommit (old : State) (s : State) : State :=
  let zs := dedup (old.zonesPresent ++ s.zonesPresent)
  let moved := fun (z : Nat) => (old.cfg.values ++ s.cfg.values).any (fun v =>
    v.1 / 65536 / 256 == 6 && fieldZone (v.1 / 65536) (v.1 % 65536) == some z &&
      old.cfgN (v.1 / 65536) (v.1 % 65536) != s.cfgN (v.1 / 65536) (v.1 % 65536))
  let any := (old.cfg.values ++ s.cfg.values).any (fun v => decide (0x0500 ≤ v.1 / 65536) && decide (v.1 / 65536 < 0x0700) &&
    old.cfgN (v.1 / 65536) (v.1 % 65536) != s.cfgN (v.1 / 65536) (v.1 % 65536))
  let t := State.each zs (fun z t =>
    if old.present z != s.present z || moved z then { t with plan.zones := t.plan.zones.set z {} } else t) s
  let shape := zs.any (fun z => [Fid.ZONE_NX, Fid.ZONE_NU, Fid.ZONE_NY, Fid.ZONE_ND].any (fun f => old.cfgN f z != s.cfgN f z) ||
    (upTo 6).any (fun j => old.cfgN Fid.NB_ZONE (sigIdx z j) != s.cfgN Fid.NB_ZONE (sigIdx z j)))
  let t1 := if shape then t.planModelDue else t
  if any then
    let t2 := t1.discardPlan 1
    { t2 with plan.replan := true }
  else t1

/-! ### Operations (R193) -/

/-- WAYPOINT operations are off while WP_ENABLE is 00h (R182). -/
def wpOff (s : State) (_ : Req) : Bool := s.cfgN Fid.WP_ENABLE == 0

/-- On the standby, reads are answered from the mirrored state (R185). -/
def wpReadable (s : State) (_ : Req) : Bool := s.rdy Rdy.waypoint || (s.peerHolds && s.rdy Rdy.services)

/-- A START is a multiple of a step and at most 96 steps from the present count (R193). -/
def State.wpStartOk (s : State) (r : Req) : Bool :=
  let st := fieldAt r.payload 0 6
  st % planStep == 0 && decide (((st : Int) - s.alm.count.toNat).natAbs ≤ 96 * planStep) && fieldAt r.payload 6 2 == 0

/-- The 96 16-bit values of a payload at an offset. -/
def steps96 (p : List Byte) (at_ : Nat) : List Nat := (upTo 96).map (fun i => fieldAt p (at_ + 2 * i) 2)

/-- WP_FORECAST (R170, R193). -/
def opWpForecast : OpDef :=
  { cls := 1, opcode := 0x0010, fns := [14], len := fun n => n == 392
    content := fun s r => r.target == 0 && s.wpStartOk r
    holds := true, off := wpOff
    body := fun r s => State.ok { s with
      forecast.start := some (fieldAt r.payload 0 6), forecast.outdoor := steps96 r.payload 8, forecast.solar := steps96 r.payload 200, plan.replan := true } }

/-- WP_FORECAST. -/
def execWpForecast (a : At) (r : Req) (s : State) : Host.Outcome State Fault Refusal := .next (serve opWpForecast r (s.advance a))

/-- WP_TARIFF (R172, R193): tariffs none of whose steps is still to come are dropped. -/
def opWpTariff : OpDef :=
  { cls := 1, opcode := 0x0011, fns := [14], len := fun n => n == 200
    content := fun s r => r.target == 0 && s.wpStartOk r
    holds := true, off := wpOff
    body := fun r s =>
      let live := s.forecast.tariffs.filter (fun t => decide (s.alm.count.toNat < t.1 + 96 * planStep))
      State.ok { s with forecast.tariffs := (fieldAt r.payload 0 6, steps96 r.payload 8) :: live, plan.replan := true } }

/-- WP_TARIFF. -/
def execWpTariff (a : At) (r : Req) (s : State) : Host.Outcome State Fault Refusal := .next (serve opWpTariff r (s.advance a))

/-- WP_REPLAN (R179, R193). -/
def opWpReplan : OpDef :=
  { cls := 1, opcode := 0x0012, fns := [14], len := fun n => n == 0, content := fun _ r => r.target == 0
    holds := true, off := wpOff
    body := fun _ s => State.ok { s with plan.replan := true } }

/-- WP_REPLAN. -/
def execWpReplan (a : At) (r : Req) (s : State) : Host.Outcome State Fault Refusal := .next (serve opWpReplan r (s.advance a))

/-- WP_STATUS (R193). -/
def opWpStatus : OpDef :=
  { cls := 1, opcode := 0x0013, fns := [14], len := fun n => n == 0, content := fun _ r => r.target == 0
    off := wpOff, ready := wpReadable
    body := fun _ s => s.ok (le 4 s.plan.seq.toNat ++ le 8 s.plan.lastStart.toNat ++ le 8 s.plan.lastPublish.toNat ++ le 4 s.plan.time ++
      le 4 s.plan.cost.toNat ++ le 2 s.plan.planned ++ le 1 s.plan.pubEpoch ++ le 1 0) }

/-- WP_STATUS. -/
def execWpStatus (a : At) (r : Req) (s : State) : Host.Outcome State Fault Refusal := .next (serve opWpStatus r (s.advance a))

/-- A model value in the R81 units of a kind, rounded as R79 rounds. -/
def toR81 (kind : Nat) (v : Word32) : Nat :=
  match F32.toRange v (limitScale kind) (-2147483647) 2147483647 with
  | some i => ofSigned 32 i
  | none => 0x80000000

/-- The trajectory is current at the present stamp (R184). -/
def State.wpCurrent (s : State) (z k : Nat) : Bool := (s.wpSource z k).live

/-- The response of WP_TRAJECTORY (R193). -/
def State.trajBytes (s : State) (z k : Nat) : List Byte :=
  let t := s.plan.traj.get (z * 16 + k)
  let kind := s.cfgN Fid.Y_KIND (sigIdx z k)
  le 4 t.planSeq ++ le 8 t.publish.toNat ++ le 6 t.start ++
    le 2 (bit (s.wpCurrent z k) + 2 * bit t.carried + 4 * bit t.kept) ++ le 4 0 ++
    leList 4 ((upTo 97).map (fun i => toR81 kind (t.points.get i))) ++ leList 4 ((upTo 96).map (fun i => toR81 kind (t.expected.get i))) ++
    leList 2 ((upTo 96).map t.risk.get)

/-- WP_TRAJECTORY (R193). -/
def opWpTrajectory : OpDef :=
  { cls := 1, opcode := 0x0014, fns := [14], len := fun n => n == 0
    content := fun s r => s.sigTarget r && sigOf r / 16 == 3
    off := fun s r => wpOff s r || !s.present (zoneOf r), ready := wpReadable
    body := fun r s =>
      if s.wpPlanned (zoneOf r) (sigOf r % 16) && (s.plan.traj.get (zoneOf r * 16 + sigOf r % 16)).present then
        s.ok (s.trajBytes (zoneOf r) (sigOf r % 16))
      else s.fail .notReady }

/-- WP_TRAJECTORY. -/
def execWpTrajectory (a : At) (r : Req) (s : State) : Host.Outcome State Fault Refusal := .next (serve opWpTrajectory r (s.advance a))

end Sys2Proof.Machine
end

