-- ==== Sys2Proof/Machine/Evaluate.lean ====
section
/-! DEFINITION. Machine/Evaluate.lean: the evaluation of a set image: parsing (R419), the ten stages of R427 with the clamp
rules of every chapter, and the clamp report (R430–R432). -/

namespace Sys2Proof.Machine

/-- An evaluation in progress. The state carries the values as they stand after every earlier check (R427), so that the
configuration functions of the other files read them. -/
structure Eval where
  s : State
  /-- the raw value of each field that the set names (R418) -/
  req : Tbl (Option Word32) := []
  /-- the report, latest entry first -/
  report : List Clamp := []
  /-- descriptors set to NONE at stage 2, which are not checked again (R427) -/
  dropped : List Nat := []
  /-- destinations claimed under R91, as kind × 65 536 + INDEX -/
  claimed : List Nat := []
  deriving Inhabited

/-- The key of a field's element. -/
def fieldKey (id idx : Nat) : Nat := id * 65536 + idx

/-- A raw value cut to the width of its field (R418). -/
def fieldCut (id raw : Nat) : Nat :=
  match fieldRow id with
  | some r => raw % 2 ^ (8 * r.size)
  | none => raw

/-- A field's value as it stands. -/
def Eval.n (e : Eval) (id : Nat) (idx : Nat := 0) : Nat := e.s.cfgN id idx

/-- The same, signed. -/
def Eval.i (e : Eval) (id : Nat) (idx : Nat := 0) : Int := e.s.cfgI id idx

/-- INDEX values at which any of some fields is listed, ascending. -/
def Eval.listed (e : Eval) (ids : List Nat) : List Nat :=
  dedup (sortBy (fun a b => decide (a < b)) (ids.flatMap e.s.cfg.listed))

/-- Hold a value; the default stays unlisted. -/
def Eval.store (e : Eval) (id idx v : Nat) : Eval :=
  let v := fieldCut id v
  let w := if v = defaultOf id idx then none else some (BitVec.ofNat 32 v)
  let t := e.s.cfg.values.set (fieldKey id idx) w
  { e with s := { e.s with cfg.values := t } }

/-- What REQUESTED shows: the raw value from the set, else the default (R430, R431). -/
def Eval.requested (e : Eval) (id idx : Nat) : Nat :=
  match e.req.get (fieldKey id idx) with
  | some w => w.toNat
  | none => defaultOf id idx

/-- An adjustment: the value and its report entry (R430). -/
def Eval.put (e : Eval) (id idx v reason sev : Nat) : Eval :=
  let v := fieldCut id v
  let c : Clamp := { field := id, index := idx, requested := e.requested id idx, applied := v, reason := reason, severity := sev }
  let e := e.store id idx v
  { e with report := c :: e.report }

/-- An adjustment to a signed value. -/
def Eval.putI (e : Eval) (id idx : Nat) (v : Int) (reason sev : Nat) : Eval := e.put id idx (ofSigned 32 v) reason sev

/-- "Ignored": a value other than the default gives way to it (REASON 04h, no effect in its context). -/
def Eval.ignore (e : Eval) (id idx : Nat) : Eval :=
  if e.n id idx = defaultOf id idx then e else e.put id idx (defaultOf id idx) 4 1

/-- An adjustment where a condition holds. -/
def Eval.when (b : Bool) (f : Eval → Eval) (e : Eval) : Eval := if b then f e else e

/-- A value held between two limits, each with its REASON. -/
def Eval.within (e : Eval) (id idx : Nat) (lo hi : Int) : Eval :=
  if e.i id idx < lo then e.putI id idx lo 1 1 else if hi < e.i id idx then e.putI id idx hi 2 1 else e

/-- Run a check over some INDEX values, ascending. -/
def Eval.over (e : Eval) (idxs : List Nat) (f : Nat → Eval → Eval) : Eval := idxs.foldl (fun x i => f i x) e

/-! ### Stage 1: parsing (R417, R419) -/

/-- What parsing meets: an element, or an entry of the report. -/
inductive Parsed where
  | elem (id idx raw : Nat)
  | bad (c : Clamp)
  deriving DecidableEq, Repr, Inhabited

/-- The elements of one entry. -/
def entryElems (row : FieldRow) (id idx stride : Nat) (raws : List Nat) : List Parsed :=
  raws.mapIdx (fun k raw =>
    let i := idx + k * stride
    if 65535 < i ∨ row.dom.has i = false then
      .bad { field := id, index := i % 65536, requested := raw, applied := 0, reason := 5, severity := 0 }
    else .elem id i raw)

/-- The words of a run of bytes. -/
def words4 : Nat → List Byte → List Nat
  | 0, _ => []
  | n + 1, bs => leNat (bs.take 4) :: words4 n (bs.drop 4)

/-- Parse the body from an offset; `fuel` bounds the number of entries. -/
def parseBody : Nat → Nat → List Byte → List Parsed
  | 0, _, _ => []
  | fuel + 1, off, bs =>
    if bs.isEmpty then [] else
    let id := fieldAt bs 0 2
    let idx := fieldAt bs 2 2
    let count := fieldAt bs 4 2 % 32768
    let fill := decide (32768 ≤ fieldAt bs 4 2)
    let stride := fieldAt bs 6 2
    let len := 8 + 4 * (if fill then 1 else count)
    if bs.length < 8 ∨ count = 0 ∨ 8192 < count ∨ stride = 0 ∨ 4095 < stride ∨ bs.length < len then
      [.bad { field := id, index := idx, requested := off, applied := 0, reason := 5, severity := 0 }]
    else
      let body := bs.drop 8
      let here := match fieldRow id with
        | none => [Parsed.bad { field := id, index := idx, requested := fieldAt body 0 4, applied := 0, reason := 5, severity := 0 }]
        | some row => entryElems row id idx stride (if fill then List.replicate count (fieldAt body 0 4) else words4 count body)
      here ++ parseBody fuel (off + len) (bs.drop len)

/-- The last raw value of every element (R419: the last occurrence stands). -/
def lastRaws (ps : List Parsed) : Tbl (Option Word32) :=
  ps.foldl (fun (t : Tbl (Option Word32)) p => match p with
    | .elem id idx raw => t.set (fieldKey id idx) (some (BitVec.ofNat 32 raw))
    | .bad _ => t) []

/-- The report of stage 1, in image order. -/
def parseReport (req : Tbl (Option Word32)) : List Parsed → List Clamp
  | [] => []
  | .bad c :: ps => c :: parseReport req ps
  | .elem id idx raw :: ps =>
    let again := ps.any (fun p => match p with
      | .elem i j _ => i == id && j == idx
      | .bad _ => false)
    if again then
      { field := id, index := idx, requested := raw, applied := ((req.get (fieldKey id idx)).map BitVec.toNat).getD 0, reason := 4,
        severity := 0 } :: parseReport req ps
    else parseReport req ps

/-! ### Stage 2: each field on its own (R615, R87) -/

/-- Whether a 32-bit pattern is a contiguous mask (R331). -/
def maskContiguous (v : Nat) : Bool := (upTo 33).any (fun k => v == 2 ^ 32 - 2 ^ k)

/-- Fields whose table states a set of values that is neither an interval nor an enumeration: an IP mask, a Modbus
partner and the kind of a binding's partner (R331), and a step of a recipe (R238). -/
def ownShape (id v : Nat) : Bool :=
  if id = Fid.IP_MASK then maskContiguous v
  else if id = Fid.MB_PARTNER then v == 0 || (decide (v / 256 < 4) && decide (1 ≤ v % 256) && decide (v % 256 ≤ 247))
  else if id = Fid.BIND_PARTNER then decide (v / 2 ^ 28 ≤ 2)
  else if id = Fid.I2C_STEP then decide (stepOp v ≤ 4) && bitsOf v 24 3 == 0
  else true

/-- Gains and offsets, whose tables give a value that is not finite, or of magnitude above 1.0E9, the default with REASON 02h
(R107, R242). -/
def gainField (id : Nat) : Bool := [Fid.SCALER_GAIN, Fid.SCALER_OFFSET, Fid.I2C_GAIN, Fid.I2C_OFFSET].contains id

/-- Finite and of magnitude at most 1.0E9. -/
def gainOk (w : Word32) : Bool := F32.isFin w && !F32.lt 0x4E6E6B28#32 (F32.abs w)

/-- The severity of falling back to the default there: a partner dropped, or a value adjusted. -/
def shapeSev (id : Nat) : Nat := if id = Fid.MB_PARTNER ∨ id = Fid.BIND_PARTNER then 2 else 1

/-- Highest INDEX of a source kind (R88). -/
def sourceTop (kind : Nat) : Nat :=
  match kind with
  | 1 => 15
  | 2 => 31
  | 3 => 31
  | 4 => 63
  | 5 => 8191
  | 7 => 0
  | 8 => 255
  | 9 => 0
  | 10 => 2
  | _ => 65535

/-- Whether an INDEX lies in the range of its destination kind (R90). -/
def destIndexOk (kind idx : Nat) : Bool :=
  match kind with
  | 1 => decide (idx ≤ 7)
  | 2 => decide (idx ≤ 7)
  | 3 => decide (idx ≤ 31)
  | 4 => decide (idx ≤ 8191)
  | 5 => decide (1 ≤ idx) && decide (idx ≤ 64)
  | _ => true

/-- The structure of a descriptor: the REASON, or 0 (R87, R88, R90). -/
def descFault (dest : Bool) (d : Nat) : Nat :=
  let kind := descKind d
  if bitsOf d 16 6 ≠ 0 then 3
  else if kind = 0 then 0
  else if dest then (if 5 < kind then 3 else if destIndexOk kind (descIndex d) then 0 else 6)
  else if 11 < kind then 3
  else if sourceTop kind < descIndex d then 6
  else 0

/-- Object types of R349 that name a source, and those that name a destination. -/
def objInput (t : Nat) : Bool := t == 0 || t == 3 || t == 13
def objOutput (t : Nat) : Bool := t == 1 || t == 4 || t == 14

/-- Stage 2 on one element. -/
def Eval.own (e : Eval) (row : FieldRow) (idx : Nat) : Eval :=
  let raw := ((e.req.get (fieldKey row.id idx)).map BitVec.toNat).getD (defaultOf row.id idx)
  let v := fieldCut row.id raw
  let keep := e.store row.id idx v
  match row.check with
  | .num lo hi also =>
    let x : Int := if row.signed then sext (8 * row.size) v else v
    if also.contains v then keep
    else if x < lo then keep.putI row.id idx lo 1 1
    else if hi < x then keep.putI row.id idx hi 2 1
    else keep
  | .enum vs => if vs.contains v then keep else keep.put row.id idx (defaultOf row.id idx) 3 1
  | .bits m => if v &&& m = v then keep else keep.put row.id idx (v &&& m) 2 1
  | .real lo hi =>
    let w := BitVec.ofNat 32 v
    if F32.isNaN w || F32.lt w (BitVec.ofNat 32 lo) then keep.put row.id idx lo 1 1
    else if F32.lt (BitVec.ofNat 32 hi) w then keep.put row.id idx hi 2 1
    else keep
  | .desc use =>
    let dest := match use with
      | .source => false
      | .dest => true
      | .point => objOutput (e.n Fid.OBJ_TYPE idx)
    let r := descFault dest v
    if r = 0 then keep else
    let e := keep.put row.id idx 0 r 2
    { e with dropped := fieldKey row.id idx :: e.dropped }
  | .any =>
    if gainField row.id then (if gainOk (BitVec.ofNat 32 v) then keep else keep.put row.id idx (defaultOf row.id idx) 2 1)
    else if ownShape row.id v then keep else keep.put row.id idx (defaultOf row.id idx) 3 (shapeSev row.id)

/-- Stage 2 over every field of the set, in ascending FIELD_ID and INDEX. -/
def Eval.stage2 (e : Eval) : Eval :=
  e.req.foldl (fun (x : Eval) p => match fieldRow (p.1 / 65536) with
    | some row => x.own row (p.1 % 65536)
    | none => x) e

/-! ### Descriptors against the objects they name (R88, R89, R91, R332) -/

/-- The four columns of R88: y, d, reference base or fallback, reference adjust. -/
inductive SrcUse where
  | y | d | base | adjust
  deriving DecidableEq, Repr

/-- Whether R88 allows a source kind there. -/
def kindAllowed (use : SrcUse) (kind : Nat) : Bool :=
  if kind ≤ 7 then true
  else if kind = 8 then use == .d || use == .base
  else if kind = 9 then use == .base
  else if kind = 10 then use == .d
  else if kind = 11 then use != .y
  else false

/-- The fields that are a signal's own source (R89). -/
def ownSources (sig : Nat) : List Nat :=
  match sig / 16 with
  | 0 => [Fid.Y_SOURCE]
  | 2 => [Fid.D_SOURCE]
  | 3 => [Fid.R_BASE, Fid.R_FALLBACK, Fid.R_ADJUST]
  | _ => []

/-- How many signals of a class a zone has (R82). -/
def Eval.signals (e : Eval) (z sig : Nat) : Nat :=
  match sig / 16 with
  | 0 => e.s.ny z
  | 1 => e.s.nu z
  | 2 => e.s.nd z
  | 3 => e.s.ny z
  | _ => 0

/-- Whether a ZONE source stands (R89); `own` is the zone that reads it. -/
def Eval.zoneNamed (e : Eval) (own : Option Nat) (idx : Nat) : Bool :=
  let z := idx / 256
  let sig := idx % 256
  e.s.present z && decide (sig % 16 < e.signals z sig) && own != some z &&
    (ownSources sig).all (fun f => descKind (e.n f (z * 16 + sig % 16)) != 6)

/-- A binding stands, in a direction (R332). -/
def Eval.bound (e : Eval) (b dir : Nat) : Bool := e.n Fid.BIND_PARTNER b != 0 && e.n Fid.BIND_DIR b == dir

/-- FIELD_STATE and FIELD_FREQ name a channel in a matching input role (R88, R107). -/
def Eval.fieldMatches (e : Eval) (d : Nat) : Bool :=
  let c := descIndex d
  if descKind d = 2 then e.n Fid.FC_ROLE c == 1 || e.n Fid.FC_ROLE c == 3
  else if descKind d = 3 then e.n Fid.FC_ROLE c == 1 && e.n Fid.FC_IN_MODE c == 1
  else true

/-- The REASON that drops a source, or 0: kind (R88), ZONE (R89), BUS (R332). -/
def Eval.sourceFault (e : Eval) (use : SrcUse) (own : Option Nat) (d : Nat) : Nat :=
  let kind := descKind d
  if kind = 0 then 0
  else if !kindAllowed use kind then 4
  else if kind = 6 && !e.zoneNamed own (descIndex d) then 6
  else if kind = 5 && !e.bound (descIndex d) 0 then 6
  else 0

/-- Drop a source that cannot stand. -/
def Eval.checkSource (e : Eval) (use : SrcUse) (own : Option Nat) (id idx : Nat) : Eval :=
  let r := e.sourceFault use own (e.n id idx)
  if r = 0 then e else e.put id idx 0 r 2

/-- Drop a source on a channel that is not in a matching input role (R107). -/
def Eval.checkChannel (e : Eval) (id idx : Nat) : Eval :=
  if e.fieldMatches (e.n id idx) then e else e.put id idx 0 4 2

/-- The REASON that drops a destination for its object, or 0 (R90, R91, R332). -/
def Eval.destObject (e : Eval) (d : Nat) : Nat :=
  let x := descIndex d
  match descKind d with
  | 1 => if e.n Fid.AO_ROLE x = 1 then 0 else 6
  | 2 => if e.n Fid.AGO_MODE x = 0 then 6 else if e.n Fid.AGO_MODE x = 1 then 4 else 0
  | 3 => if e.n Fid.FC_ROLE x = 0 then 6 else if e.n Fid.FC_ROLE x = 1 then 4 else 0
  | 4 => if e.bound x 1 then 0 else 4
  | 5 => if e.n Fid.FL_ENABLE x = 1 then 0 else 6
  | _ => 0

/-- Check a destination and claim it (R91). -/
def Eval.checkDest (e : Eval) (id idx : Nat) : Eval :=
  let d := e.n id idx
  if descKind d = 0 then e else
  let key := descKind d * 65536 + descIndex d
  let r := if e.destObject d ≠ 0 then e.destObject d else if e.claimed.contains key then 4 else 0
  if r = 0 then { e with claimed := key :: e.claimed } else e.put id idx 0 r 2

/-! ### Stage 3: Meridian, Chart, Tiller, pair, power and security -/

/-- The kind of the signal that a ZONE source of class y, u, d or reference delivers (R78, R88). -/
def Eval.zoneKind (e : Eval) (d : Nat) : Nat :=
  let z := descIndex d / 256
  let sig := descIndex d % 256
  let f := if sig / 16 = 1 then Fid.U_KIND else if sig / 16 = 2 then Fid.D_KIND else Fid.Y_KIND
  e.n f (z * 16 + sig % 16)

/-- A ZONE source of a kind other than the one wanted (R192, R580). -/
def Eval.kindDiffers (e : Eval) (d want : Nat) : Bool := descKind d == 6 && e.zoneKind d != want

/-- The CH_ fields other than CH_MODE, with the checks of R580 that concern them. -/
def Eval.chart (e : Eval) : Eval :=
  let e := e.when (e.n Fid.CH_MODE == 2 && !(upTo 8).any e.s.bandValid) (fun e => e.put Fid.CH_MODE 0 0 4 3)
  let rest := [Fid.CH_LCD_VOP, Fid.CH_BLINK_A, Fid.CH_BLINK_B, Fid.CH_TEMP_SOURCE, Fid.CH_BAND_EDGE, Fid.CH_DEFAULT_BAND,
    Fid.CH_WAVE_LEN, Fid.CH_WAVE]
  if e.n Fid.CH_MODE = 0 then rest.foldl (fun (x : Eval) f => x.over (x.listed [f]) (fun i y => y.ignore f i)) e
  else
    let src := e.n Fid.CH_TEMP_SOURCE
    let r := if e.kindDiffers src 1 && e.zoneNamed none (descIndex src) then 4
      else if descKind src = 5 then (if kindAllowed .y 5 then 0 else 4) else e.sourceFault .y none src
    let e := e.when (r != 0) (fun e => e.put Fid.CH_TEMP_SOURCE 0 0 r 2)
    let e := e.over [2, 3, 4, 5, 6, 7] (fun k e =>
      if e.i Fid.CH_BAND_EDGE k ≤ e.i Fid.CH_BAND_EDGE (k - 1) then
        e.putI Fid.CH_BAND_EDGE k (e.i Fid.CH_BAND_EDGE (k - 1) + 100) 4 1
      else e)
    let e := e.over (e.listed [Fid.CH_WAVE_LEN]) (fun i e =>
      e.when (!e.s.bandValid (i / 8)) (fun e => e.put Fid.CH_WAVE_LEN i (e.n Fid.CH_WAVE_LEN i) 4 1))
    e.over (e.listed [Fid.CH_WAVE]) (fun i e =>
      e.when (!e.s.bandValid (i / 32)) (fun e => e.put Fid.CH_WAVE i (e.n Fid.CH_WAVE i) 4 1))

/-- The bit of TL_ENABLE that a TL_ element belongs to; TL_DEBOUNCE and TL_STUCK_TIME serve keys and buttons (R571, R572,
R574, R575), so either bit keeps them. -/
def tillerParts (id idx : Nat) : List Nat :=
  if id = Fid.TL_FILTER then [idx]
  else if id = Fid.TL_DEBOUNCE ∨ id = Fid.TL_STUCK_TIME then [0, 1]
  else if id = Fid.TL_KEY_MASK then [0]
  else [2]

/-- The TL_ fields (R580). -/
def Eval.tiller (e : Eval) : Eval :=
  [Fid.TL_FILTER, Fid.TL_DEBOUNCE, Fid.TL_STUCK_TIME, Fid.TL_ENC_CPD, Fid.TL_ENC_INVERT, Fid.TL_KEY_MASK].foldl
    (fun (x : Eval) f => x.over (x.listed [f]) (fun i y =>
      if (tillerParts f i).any (bitOf (y.n Fid.TL_ENABLE)) then y else y.ignore f i)) e

/-- A field that conflicts with a lower one, where no rule of a chapter decides, takes its default (R428). -/
def Eval.yields (e : Eval) (id idx sev : Nat) : Eval :=
  if e.n id idx = defaultOf id idx then e else e.put id idx (defaultOf id idx) 4 sev

/-- Pair fields (R517), power fields (R541) and security fields (R411); two functions cannot listen on one UDP port, and SEC_UDP_PORT
yields to BAC_UDP_PORT (R428). -/
def Eval.pairPowerSecurity (key : Bool) (e : Eval) : Eval :=
  let e := if e.n Fid.PAIR_ENABLE = 1 then e else
    [Fid.PAIR_HB_PORTS, Fid.PAIR_HB_TIMEOUT, Fid.PAIR_ELECT_WAIT, Fid.PAIR_AO_STANDBY, Fid.PAIR_PHASE_ALIGN, Fid.PAIR_STALE_LIMIT].foldl
      (fun (x : Eval) f => x.ignore f 0) e
  let e := e.when (e.n Fid.PWR_BACKUP_MODE == 2 && e.n Fid.PAIR_ENABLE == 1) (fun e => e.put Fid.PWR_BACKUP_MODE 0 1 4 2)
  let e := if e.n Fid.PWR_BACKUP_MODE = 2 then e else (e.ignore Fid.PWR_SLEEP_DELAY 0).ignore Fid.PWR_WAKE 0
  let e := e.when (!key && e.n Fid.SEC_QSPI_AUTH == 1) (fun e => e.put Fid.SEC_QSPI_AUTH 0 0 4 2)
  let e := e.when (!key && e.n Fid.SEC_UART_AUTH == 1) (fun e => e.put Fid.SEC_UART_AUTH 0 0 4 2)
  e.when (e.n Fid.SEC_UDP_PORT == e.n Fid.BAC_UDP_PORT) (fun e => e.yields Fid.SEC_UDP_PORT 0 1)

def Eval.stage3 (key : Bool) (e : Eval) : Eval := (e.chart.tiller).pairPowerSecurity key

/-! ### Stage 4: field channels, inputs and recipes, outputs, bus -/

/-- Input fields and output fields of a channel (R270). -/
def channelIn : List Nat := [Fid.FC_IN_THRESH, Fid.FC_IN_SAMPLING, Fid.FC_IN_PULSE_PERIOD, Fid.FC_IN_DEBOUNCE, Fid.FC_IN_MODE,
  Fid.FC_IN_INVERT, Fid.FC_FREQ_GATE, Fid.FC_FREQ_TIMEOUT]
def channelOut : List Nat := [Fid.FC_OUT_DRIVE, Fid.FC_OUT_ON_LEVEL, Fid.FC_OUT_OFF_LEVEL, Fid.FC_TPO_PERIOD, Fid.FC_TPO_MIN,
  Fid.FC_SAFE, Fid.FC_OVL_TIME, Fid.FC_RETRY, Fid.FC_RETRY_DELAY, Fid.FC_OPEN_LOAD, Fid.FC_OPEN_I, Fid.FC_DARK,
  Fid.FC_DARK_WIDTH, Fid.FC_DARK_PERIOD, Fid.FC_SHARED]

/-- The rows of R270 that adjust one channel field, for channel `c`. -/
def Eval.channelRow (e : Eval) (f c : Nat) : Eval :=
  let role := e.n Fid.FC_ROLE c
  if f = Fid.FC_IN_DEBOUNCE then
    e.when (e.n Fid.FC_IN_SAMPLING c == 0 && decide (e.n Fid.FC_IN_DEBOUNCE c < e.n Fid.FC_IN_PULSE_PERIOD c))
      (fun e => e.put f c (e.n Fid.FC_IN_PULSE_PERIOD c) 1 1)
  else if f = Fid.FC_IN_THRESH then e.when (role == 3 && e.n f c == 2) (fun e => e.put f c 1 4 2)
  else if f = Fid.FC_IN_MODE then e.when (role == 3 && e.n f c == 1) (fun e => e.put f c 0 4 2)
  else if f = Fid.FC_OUT_OFF_LEVEL then
    e.when (decide (e.i Fid.FC_OUT_ON_LEVEL c < e.i f c)) (fun e => e.put f c (e.n Fid.FC_OUT_ON_LEVEL c) 4 1)
  else if f = Fid.FC_TPO_MIN then
    e.when (decide (e.n Fid.FC_TPO_PERIOD c < 2 * e.n f c)) (fun e => e.put f c (e.n Fid.FC_TPO_PERIOD c / 2) 4 1)
  else if f = Fid.FC_SAFE then e.when (e.n f c != 0 && e.n Fid.FC_SHARED c == 1) (fun e => e.put f c 0 4 2)
  else if f = Fid.FC_OPEN_LOAD then e.when (role == 2 && bitOf (e.n f c) 1) (fun e => e.put f c (e.n f c % 2) 4 2)
  else if f = Fid.FC_DARK ∨ f = Fid.FC_SHARED then e.when (role == 2 && e.n f c == 1) (fun e => e.put f c 0 4 2)
  else e

/-- R270, field by field. -/
def Eval.channels (e : Eval) : Eval :=
  (channelIn ++ channelOut).foldl (fun (x : Eval) f => x.over (upTo 32) (fun c y =>
    let role := y.n Fid.FC_ROLE c
    let off := if channelIn.contains f then role == 0 || role == 2 else role == 0 || role == 1
    Eval.channelRow (if off then y.ignore f c else y) f c)) e

/-- A step reaches outside the buffer or its COUNT is out of range (R238, R242). -/
def stepBad (w : Nat) : Bool :=
  let n := stepCount w
  let off := stepData w % 16
  match stepOp w with
  | 1 => n == 0 || decide (2 < n)
  | 2 => n == 0 || decide (16 < n) || decide (16 < off + n)
  | 4 => decide (15 < off + n)
  | _ => false

/-- An extraction reaches outside the buffer, keeps more than 32 bits or has reserved bits (R239, R242). -/
def extractBad (w : Nat) : Bool :=
  decide (16 < bitsOf w 28 4 + bitsOf w 26 2 + 1) || decide (32 < bitsOf w 13 6) || bitsOf w 0 13 != 0

/-- The rows of R242 that do not concern sources. -/
def Eval.inputs (e : Eval) : Eval :=
  let ntc := fun (f n : Nat) (e : Eval) => if e.n Fid.UI_TYPE n = 1 ∨ e.n Fid.UI_TYPE n = 2 then e else e.ignore f n
  let e := e.over (e.listed [Fid.UI_NTC_NOMINAL]) (ntc Fid.UI_NTC_NOMINAL)
  let e := e.over (e.listed [Fid.UI_NTC_BETA]) (ntc Fid.UI_NTC_BETA)
  let e := e.over (e.listed [Fid.UI_LEAD]) (fun n e =>
    if 5 ≤ e.n Fid.UI_TYPE n ∧ e.n Fid.UI_TYPE n ≤ 7 then e.ignore Fid.UI_LEAD n else e)
  let e := e.over (e.listed [Fid.I2C_BUS]) (fun n e =>
    e.when (e.n Fid.I2C_BUS n != 0 && e.n Fid.I2C_SPEED (e.n Fid.I2C_BUS n - 1) == 0) (fun e => e.put Fid.I2C_BUS n 0 4 3))
  let e := e.over (e.listed [Fid.I2C_FROM]) (fun n e =>
    let m := e.n Fid.I2C_FROM n
    e.when (e.n Fid.I2C_BUS n != 0 && m != 255 && (m == n || e.n Fid.I2C_BUS m == 0 || e.n Fid.I2C_FROM m != 255))
      (fun e => e.put Fid.I2C_BUS n 0 6 3))
  let e := e.over (e.listed [Fid.I2C_STEP]) (fun i e => e.when (stepBad (e.n Fid.I2C_STEP i)) (fun e => e.put Fid.I2C_STEP i 0 4 2))
  e.over (e.listed [Fid.I2C_EXTRACT]) (fun i e =>
    e.when (extractBad (e.n Fid.I2C_EXTRACT i)) (fun e => e.put Fid.I2C_EXTRACT i 0 4 1))

/-- R292. -/
def Eval.outputs (e : Eval) : Eval :=
  let e := [Fid.AO_V_LO, Fid.AO_V_HI, Fid.AO_SAFE].foldl (fun (x : Eval) f =>
    x.over (x.listed [f]) (fun n y => if y.n Fid.AO_ROLE n = 0 then y.ignore f n else y)) e
  let e := e.over (upTo 8) (fun n e =>
    e.when (e.n Fid.AGO_MODE n == 3 && decide (524288 - e.n Fid.AGO_END_GUARD n ≤ e.n Fid.AGO_PULSE n))
      (fun e => e.put Fid.AGO_PULSE n 0 4 1))
  let e := e.over (upTo 8) (fun n e =>
    e.when (e.n Fid.AGO_MODE n == 5 && decide (2 ^ (19 - e.n Fid.AGO_DIV n) < e.n Fid.AGO_MIN_WIDTH n))
      (fun e => e.put Fid.AGO_MIN_WIDTH n (2 ^ (19 - e.n Fid.AGO_DIV n)) 4 1))
  e.over (upTo 8) (fun n e =>
    e.when (decide (e.i Fid.AGO_ON_LEVEL n < e.i Fid.AGO_OFF_LEVEL n))
      (fun e => e.put Fid.AGO_OFF_LEVEL n (e.n Fid.AGO_ON_LEVEL n) 4 1))

/-- Configured Modbus partners, and BACnet instances that standing bindings below `b` name: the distinct partners so far (R321). -/
def Eval.partnersBelow (e : Eval) (b : Nat) : List Nat :=
  dedup (sortBy (fun x y => decide (x < y))
    (((e.listed [Fid.BIND_PARTNER]).filter (fun x => decide (x < b) && e.n Fid.BIND_PARTNER x / 2 ^ 28 == 1)).map
      (fun x => bitsOf (e.n Fid.BIND_PARTNER x) 0 22)))

/-- The number of configured Modbus partners. -/
def Eval.modbusPartners (e : Eval) : Nat :=
  ((e.listed [Fid.MB_PARTNER]).filter (fun n => e.n Fid.MB_PARTNER n != 0)).length

/-- Ports with BACnet (R311). -/
def Eval.bacPorts (e : Eval) : List Nat := (upTo 7).filter (fun p => e.n Fid.BAC_NET p != 0)

/-- A Modbus binding's function and encoding agree with its direction (R332). -/
def Eval.functionFits (e : Eval) (b : Nat) : Bool :=
  let f := e.s.mbFunction b
  let isBit := e.n Fid.BIND_ENCODING b == 8
  if e.n Fid.BIND_DIR b = 0 then decide (1 ≤ f) && decide (f ≤ 4) && (isBit == decide (f ≤ 2))
  else (f == 5 || f == 15) && isBit || (f == 6 || f == 16) && !isBit

/-- The REASON that drops a binding, or 0. -/
def Eval.bindFault (e : Eval) (b : Nat) : Nat :=
  let p := e.n Fid.BIND_PARTNER b
  if p / 2 ^ 28 = 2 then
    let m := e.n Fid.MB_PARTNER (p % 256)
    if m = 0 ∨ e.n Fid.LINE_PROTOCOL (m / 256) ≠ 2 then 6 else if e.functionFits b then 0 else 4
  else if p / 2 ^ 28 = 1 then
    if e.bacPorts.isEmpty then 6
    else
      let known := e.partnersBelow b
      if known.contains (bitsOf p 0 22) ∨ known.length + e.modbusPartners < 1792 then 0 else 4
  else 0

/-- R332, but for the sources and destinations. -/
def Eval.bus (e : Eval) : Eval :=
  let e := e.over [0, 1, 2, 3] (fun l e =>
    e.when (e.n Fid.LINE_PROTOCOL l == 1 && decide (e.n Fid.MSTP_MAX_MASTER l < e.n Fid.MSTP_MAC l))
      (fun e => e.put Fid.MSTP_MAX_MASTER l (e.n Fid.MSTP_MAC l) 4 1))
  let e := e.over (e.listed [Fid.MB_PARTNER]) (fun n e =>
    e.when (e.n Fid.MB_PARTNER n != 0 && (e.listed [Fid.MB_PARTNER]).any (fun m => decide (m < n) && e.n Fid.MB_PARTNER m == e.n Fid.MB_PARTNER n))
      (fun e => e.put Fid.MB_PARTNER n 0 4 2))
  let e := e.over (e.listed [Fid.BAC_NET]) (fun p e =>
    e.when (e.n Fid.BAC_NET p != 0 && (upTo p).any (fun q => e.n Fid.BAC_NET q == e.n Fid.BAC_NET p)) (fun e => e.put Fid.BAC_NET p 0 4 2))
  let e := match e.bacPorts.head? with
    | some p => e.when (e.n Fid.BAC_NET (e.n Fid.BAC_HOME_PORT) == 0) (fun e => e.put Fid.BAC_HOME_PORT 0 p 4 1)
    | none => e
  let e := e.over (e.listed [Fid.BIND_PARTNER]) (fun b e =>
    let r := e.bindFault b
    e.when (r != 0) (fun e => e.put Fid.BIND_PARTNER b 0 r 2))
  let e := e.over (e.listed [Fid.BIND_PARTNER]) (fun b e =>
    e.when (e.n Fid.BIND_METHOD b == 1 && (e.n Fid.BIND_PARTNER b / 2 ^ 28 == 2 || e.n Fid.BIND_DIR b == 1))
      (fun e => e.put Fid.BIND_METHOD b 0 4 2))
  let e := e.over (e.listed [Fid.BIND_PERIOD, Fid.BIND_STALE]) (fun b e =>
    e.when (decide (e.n Fid.BIND_STALE b < min 65535 (2 * e.n Fid.BIND_PERIOD b)))
      (fun e => e.put Fid.BIND_STALE b (min 65535 (2 * e.n Fid.BIND_PERIOD b)) 1 1))
  let ports := e.n Fid.PAIR_HB_PORTS
  let ok := fun (p : Nat) => if p = 0 then true else if p = 1 then e.n Fid.T1S_ENABLE == 1 else e.n Fid.LINE_PROTOCOL (p - 2) != 0
  let kept := maskOf ((upTo 6).map (fun p => bitOf ports p && ok p))
  e.when (kept != ports) (fun e => e.put Fid.PAIR_HB_PORTS 0 kept 4 1)

def Eval.stage4 (e : Eval) : Eval := e.channels.inputs.outputs.bus

/-! ### Stage 5: zones -/

/-- The fields of a zone, ascending, but for ZONE_NX (R106). -/
def zoneFields : List Nat := ((fieldGroup 5).map (fun r => r.id)).filter (fun f => decide (f ≤ Fid.NB_ZONE) && f != Fid.ZONE_NX)

/-- The zone an element of a zone field belongs to. -/
def zoneOfField (f idx : Nat) : Nat := if f ≤ Fid.ZONE_ND then idx else idx / 16

/-- Whether a signal field's k lies within the zone's dimension for its class (R107). -/
def Eval.inDimension (e : Eval) (f idx : Nat) : Bool :=
  let z := idx / 16
  let k := idx % 16
  if f ≤ Fid.ZONE_ND ∨ f = Fid.NB_ZONE then true
  else if Fid.U_KIND ≤ f ∧ f ≤ Fid.U_GUARD then decide (k < e.s.nu z)
  else if Fid.D_KIND ≤ f ∧ f ≤ Fid.D_MAX_AGE then decide (k < e.s.nd z)
  else decide (k < e.s.ny z)

/-- The rows of R107 that adjust one field of a present zone. DESIGN CHOICE: where a maximum is compared with a minimum, 80000000h is compared
as the number it spells (assumption 155). -/
def Eval.zoneRow (e : Eval) (f i : Nat) : Eval :=
  let above := fun (lo : Nat) => e.when (decide (e.i f i < e.i lo i)) (fun e => e.putI f i (e.i lo i) 4 1)
  if f = Fid.Y_MAX then above Fid.Y_MIN
  else if f = Fid.U_MAX then above Fid.U_MIN
  else if f = Fid.R_MAX then above Fid.R_MIN
  else if f = Fid.U_SAFE then e.within f i (e.i Fid.U_MIN i) (e.i Fid.U_MAX i)
  else if f = Fid.R_DEFAULT then
    if e.n f i = 0x80000000 then e else e.within f i (e.i Fid.R_MIN i) (e.i Fid.R_MAX i)
  else if f = Fid.Y_SOURCE ∨ f = Fid.D_SOURCE ∨ f = Fid.R_BASE ∨ f = Fid.R_FALLBACK then e.checkChannel f i
  else if f = Fid.R_ADJUST then
    let host := fun (g : Nat) => descKind (e.n g i) == 7
    (e.checkChannel f i).when (host f && (host Fid.R_BASE || host Fid.R_FALLBACK)) (fun e => e.put f i 0 4 2)
  else e

/-- The fields whose listing can bring about an adjustment of a field. -/
def zoneCauses (f : Nat) : List Nat :=
  if f = Fid.Y_MAX then [Fid.Y_MIN, f]
  else if f = Fid.U_MAX then [Fid.U_MIN, f]
  else if f = Fid.R_MAX then [Fid.R_MIN, f]
  else if f = Fid.U_SAFE then [Fid.U_MIN, Fid.U_MAX, f]
  else [f]

/-- R107 after the dimensions, field by field. -/
def Eval.zoneValues (e : Eval) : Eval :=
  zoneFields.foldl (fun (x : Eval) f => x.over (x.listed (zoneCauses f)) (fun i y =>
    if y.s.present (zoneOfField f i) && y.inDimension f i then y.zoneRow f i else y.ignore f i)) e

/-- The REASON that drops link `i`, or 0 (R85). -/
def Eval.linkFault (e : Eval) (i : Nat) : Nat :=
  let nb := e.n Fid.NB_ZONE i
  let z := i / 16
  if nb = 65535 then 0
  else if 255 < nb ∨ e.s.present nb = false then 6
  else if nb = z then 4
  else if (upTo (i % 16)).any (fun k => e.n Fid.NB_ZONE (z * 16 + k) == nb) then 4
  else 0

/-- The sources of the zones, by field and column (R88). -/
def zoneSources : List (Nat × SrcUse) :=
  [(Fid.Y_SOURCE, .y), (Fid.D_SOURCE, .d), (Fid.R_BASE, .base), (Fid.R_FALLBACK, .base), (Fid.R_ADJUST, .adjust)]

def Eval.stage5 (e : Eval) : Eval :=
  let e := e.over (e.listed [Fid.ZONE_NX]) (fun z e =>
    e.when (e.s.present z && e.s.ny z == 0) (fun e => e.put Fid.ZONE_NY z 1 1 1))
  let e := e.zoneValues
  let e := e.over (e.listed [Fid.NB_ZONE]) (fun i e =>
    let r := e.linkFault i
    e.when (r != 0) (fun e => e.put Fid.NB_ZONE i 65535 r 2))
  let e := zoneSources.foldl (fun (x : Eval) p => x.over (x.listed [p.1]) (fun i y => y.checkSource p.2 (some (i / 16)) p.1 i)) e
  let e := e.checkChannel Fid.CH_TEMP_SOURCE 0
  let e := e.when (descKind (e.n Fid.CH_TEMP_SOURCE) == 5) (fun e => e.checkSource .y none Fid.CH_TEMP_SOURCE 0)
  e.over (e.listed [Fid.U_DEST0, Fid.U_DEST1]) (fun i e => (e.checkDest Fid.U_DEST0 i).checkDest Fid.U_DEST1 i)

/-! ### Stages 6 and 7: fast loops, UI and I2C sources -/

/-- R161 and R153, field by field over the loops. -/
def Eval.stage6 (e : Eval) : Eval :=
  let loops := e.listed [Fid.FL_ENABLE, Fid.FL_DIV, Fid.FL_APPLY_DELAY, Fid.FL_Y_SOURCE, Fid.FL_R_SOURCE, Fid.FL_DEST, Fid.FL_U_MIN,
    Fid.FL_U_MAX, Fid.FL_U_SAFE]
  let e := e.over loops (fun l e =>
    let half := 2 ^ (19 - e.n Fid.FL_DIV l)
    e.when (decide (half ≤ e.n Fid.FL_APPLY_DELAY l)) (fun e => e.put Fid.FL_APPLY_DELAY l (half - 1) 4 1))
  let e := e.over loops (fun l e => (e.checkChannel Fid.FL_Y_SOURCE l).checkSource .y none Fid.FL_Y_SOURCE l)
  let e := e.over loops (fun l e =>
    let d := e.n Fid.FL_R_SOURCE l
    if descKind d ≠ 0 ∧ e.claimed.contains (5 * 65536 + l) then e.ignore Fid.FL_R_SOURCE l
    else (e.checkChannel Fid.FL_R_SOURCE l).checkSource .base none Fid.FL_R_SOURCE l)
  let e := e.over loops (fun l e =>
    let k := descKind (e.n Fid.FL_DEST l)
    if e.n Fid.FL_ENABLE l = 0 ∨ e.dropped.contains (fieldKey Fid.FL_DEST l) then e
    else if k = 0 ∨ k = 4 ∨ k = 5 then e.put Fid.FL_DEST l 0 4 2
    else e.checkDest Fid.FL_DEST l)
  let e := e.over loops (fun l e =>
    e.when (decide (e.i Fid.FL_U_MAX l < e.i Fid.FL_U_MIN l)) (fun e => e.putI Fid.FL_U_MAX l (e.i Fid.FL_U_MIN l) 4 1))
  e.over loops (fun l e => e.within Fid.FL_U_SAFE l (e.i Fid.FL_U_MIN l) (e.i Fid.FL_U_MAX l))

/-- The REASON that drops a UI or I2C source, or 0 (R242). -/
def Eval.localFault (e : Eval) (d : Nat) : Nat :=
  let x := descIndex d
  if descKind d = 1 ∧ e.n Fid.UI_TYPE x = 0 then 4
  else if descKind d = 4 ∧ (e.n Fid.I2C_BUS x = 0 ∨ e.s.recipeReads x = false) then 6
  else 0

/-- Every field that names a source, ascending. -/
def sourceFields : List Nat := [Fid.Y_SOURCE, Fid.D_SOURCE, Fid.R_BASE, Fid.R_FALLBACK, Fid.R_ADJUST, Fid.FL_Y_SOURCE,
  Fid.FL_R_SOURCE, Fid.OCC_PRESENCE0, Fid.OCC_PRESENCE1, Fid.OCC_AIRFLOW, Fid.OBJ_POINT, Fid.CH_TEMP_SOURCE]

def Eval.stage7 (e : Eval) : Eval :=
  sourceFields.foldl (fun (x : Eval) f => x.over (x.listed [f]) (fun i y =>
    let r := if f = Fid.OBJ_POINT ∧ objInput (y.n Fid.OBJ_TYPE i) = false then 0 else y.localFault (y.n f i)
    y.when (r != 0) (fun y => y.put f i 0 r 2))) e

/-! ### Stage 8: Waypoint, occupancy and soundings -/

/-- The references of the present zones. -/
def Eval.references (e : Eval) : List Nat := e.s.zonesPresent.flatMap (fun z => (upTo (e.s.ny z)).map (fun k => z * 16 + k))

/-- A band limit held between R_MIN and R_MAX of its reference (R192). -/
def Eval.inReference (e : Eval) (f i : Nat) : Eval :=
  let v := clampI (e.i Fid.R_MIN i) (e.i Fid.R_MAX i) (e.i f i)
  e.when (v != e.i f i) (fun e => e.putI f i v 4 1)

/-- Raise a field to at least a value; lower it to at most one (REASON 04h). -/
def Eval.atLeast (e : Eval) (f i : Nat) (v : Int) : Eval := e.when (decide (e.i f i < v)) (fun e => e.putI f i v 4 1)
def Eval.atMost (e : Eval) (f i : Nat) (v : Int) : Eval := e.when (decide (v < e.i f i)) (fun e => e.putI f i v 4 1)

/-- The band rows of R192 on one field of one reference. -/
def Eval.bandRow (e : Eval) (f i : Nat) : Eval :=
  if f = Fid.WP_OCC_LO then e.inReference f i
  else if f = Fid.WP_OCC_HI then (e.atLeast f i (e.i Fid.WP_OCC_LO i)).inReference f i
  else if f = Fid.WP_OCC_TARGET then e.within f i (e.i Fid.WP_OCC_LO i) (e.i Fid.WP_OCC_HI i)
  else if f = Fid.WP_UNOCC_LO then (e.atMost f i (e.i Fid.WP_OCC_LO i)).inReference f i
  else if f = Fid.WP_UNOCC_HI then
    let e := e.atLeast f i (e.i Fid.WP_UNOCC_LO i)
    (e.atLeast f i (e.i Fid.WP_OCC_HI i)).inReference f i
  else e.within f i (e.i Fid.WP_UNOCC_LO i) (e.i Fid.WP_UNOCC_HI i)

/-- OCC_Y_TEMP and OCC_Y_CO2 name an output of the right kind (R192). -/
def Eval.occOutput (e : Eval) (f want z : Nat) : Eval :=
  let k := e.n f z
  e.when (k != 255 && (decide (e.s.ny z ≤ k) || e.n Fid.Y_KIND (z * 16 + k) != want)) (fun e => e.put f z 255 4 2)

/-- R192. -/
def Eval.waypoint (e : Eval) : Eval :=
  let least := 130 * e.n Fid.WP_PERIOD
  let e := e.when (decide (e.n Fid.WP_MAX_AGE < least)) (fun e => e.put Fid.WP_MAX_AGE 0 least 4 1)
  let cal := e.n Fid.WP_DAY_CALENDAR
  let e := e.when (cal != 255 && e.n Fid.CAL_ENABLE cal == 0) (fun e => e.put Fid.WP_DAY_CALENDAR 0 255 6 2)
  let e := [Fid.WP_OCC_LO, Fid.WP_OCC_HI, Fid.WP_OCC_TARGET, Fid.WP_UNOCC_LO, Fid.WP_UNOCC_HI, Fid.WP_UNOCC_TARGET].foldl
    (fun (x : Eval) f => x.over x.references (fun i y => y.bandRow f i)) e
  let e := e.over (e.listed [Fid.WP_SCHEDULE]) (fun z e =>
    let k := descKind (e.n Fid.WP_SCHEDULE z)
    e.when (!(k == 0 || k == 7 || k == 8 || k == 11)) (fun e => e.put Fid.WP_SCHEDULE z 0 4 2))
  let e := e.over (e.listed [Fid.WP_D_ROLE]) (fun i e =>
    e.when (e.n Fid.WP_D_ROLE i == 1 && e.n Fid.D_KIND i != 1) (fun e => e.put Fid.WP_D_ROLE i 0 4 2))
  let e := e.over (e.listed [Fid.OCC_Y_TEMP]) (fun z e => e.occOutput Fid.OCC_Y_TEMP 1 z)
  let e := e.over (e.listed [Fid.OCC_Y_CO2]) (fun z e => e.occOutput Fid.OCC_Y_CO2 3 z)
  let src := fun (f z : Nat) (e : Eval) => (e.checkChannel f z).checkSource .y (some z) f z
  let e := e.over (e.listed [Fid.OCC_PRESENCE0]) (src Fid.OCC_PRESENCE0)
  let e := e.over (e.listed [Fid.OCC_PRESENCE1]) (src Fid.OCC_PRESENCE1)
  e.over (e.listed [Fid.OCC_AIRFLOW]) (fun z e =>
    let e := src Fid.OCC_AIRFLOW z e
    e.when (e.kindDiffers (e.n Fid.OCC_AIRFLOW z) 5) (fun e => e.put Fid.OCC_AIRFLOW z 0 4 2))

/-- R218: zone and signal fields of absent zones. -/
def Eval.soundings (e : Eval) : Eval :=
  let e := [Fid.SND_ALLOW, Fid.SND_Y_GUARD, Fid.SND_QY, Fid.SND_RU, Fid.SND_QW, Fid.SND_RV].foldl
    (fun (x : Eval) f => x.over (x.listed [f]) (fun z y => if y.s.present z then y else y.ignore f z)) e
  e.over (e.listed [Fid.SND_AMP_MAX]) (fun i e => if e.s.present (i / 16) then e else e.ignore Fid.SND_AMP_MAX i)

def Eval.stage8 (e : Eval) : Eval := e.waypoint.soundings

/-! ### Stage 9: services, policy and the object pool -/

/-- A daylight-saving rule within its range (R366). -/
def dstRuleOk (v : Nat) : Bool :=
  let m := bitsOf v 24 8
  let w := bitsOf v 16 8
  let d := bitsOf v 8 8
  decide (1 ≤ m) && decide (m ≤ 12) && decide (1 ≤ w) && decide (w ≤ 5) && decide (1 ≤ d) && decide (d ≤ 7) && decide (v % 256 ≤ 23)

/-- Whether R349 allows a descriptor's kind for an object type. -/
def pointAllowed (t d : Nat) : Bool :=
  let k := descKind d
  if objInput t then k != 0 && kindAllowed .y k
  else if t = 1 then decide (1 ≤ k) && decide (k ≤ 3)
  else if t = 4 then k == 2 || k == 3
  else if t = 14 then k == 1 || k == 2
  else k == 0

/-- A point output object that names the output of one with a lower INDEX: two commands of one rank cannot both own it, and the higher INDEX
yields (R428). -/
def Eval.pointTwin (e : Eval) (n : Nat) : Bool :=
  let d := e.n Fid.OBJ_POINT n
  (e.listed [Fid.OBJ_POINT]).any (fun m => decide (m < n) && objOutput (e.n Fid.OBJ_TYPE m) &&
    descKind (e.n Fid.OBJ_POINT m) == descKind d && descIndex (e.n Fid.OBJ_POINT m) == descIndex d)

/-- R367. -/
def Eval.services (e : Eval) : Eval :=
  let e := e.when (e.n Fid.SVC_DST == 1 && !(dstRuleOk (e.n Fid.SVC_DST_START) && dstRuleOk (e.n Fid.SVC_DST_END)))
    (fun e => e.put Fid.SVC_DST 0 0 4 3)
  let e := e.over (e.listed [Fid.OBJ_TYPE]) (fun n e =>
    let t := e.n Fid.OBJ_TYPE n
    let twin := (e.listed [Fid.OBJ_TYPE]).any (fun m =>
      decide (m < n) && e.n Fid.OBJ_TYPE m == t && e.n Fid.OBJ_INSTANCE m == e.n Fid.OBJ_INSTANCE n)
    e.when (t != 255 && (twin || !pointAllowed t (e.n Fid.OBJ_POINT n))) (fun e => e.put Fid.OBJ_TYPE n 255 4 3))
  let e := e.over (e.listed [Fid.OBJ_POINT]) (fun n e =>
    let t := e.n Fid.OBJ_TYPE n
    if objInput t then (e.checkChannel Fid.OBJ_POINT n).checkSource .y none Fid.OBJ_POINT n
    else if objOutput t then
      let r := e.destObject (e.n Fid.OBJ_POINT n)
      if r != 0 then e.put Fid.OBJ_POINT n 0 r 2 else e.when (e.pointTwin n) (fun e => e.yields Fid.OBJ_POINT n 2)
    else e)
  let e := e.over (e.listed [Fid.OBJ_STATES]) (fun n e =>
    let t := e.n Fid.OBJ_TYPE n
    if t = 13 ∨ t = 14 ∨ t = 19 then e else e.ignore Fid.OBJ_STATES n)
  let frost := e.i Fid.SCP_FROST
  let hot := e.i Fid.SCP_HOT
  let least := frost + 2 * e.i Fid.SCP_HYST
  e.when (frost != -32768 && hot != -32768 && decide (hot < least)) (fun e => e.putI Fid.SCP_HOT 0 least 4 1)

/-- R342: zones and point objects that do not fit in the pool. -/
def Eval.pool (e : Eval) : Eval :=
  let p := e.s.allocate
  let e := e.over p.zonesOut (fun z e => e.put Fid.SVC_ZONE_EXPOSE z 0 4 3)
  e.over p.pointsOut (fun n e => e.put Fid.OBJ_TYPE n 255 4 3)

/-! Stage 10 adjusts nothing: 64 fast loops need at most 164 slots of the pool of 448 (R154, R614). -/

/-! ### The evaluation -/

/-- The report as it is held (R432). -/
def capReport (r : List Clamp) : List Clamp :=
  if r.length ≤ 8192 then r else
  r.take 8191 ++ [{ field := 65535, index := 65535, requested := r.length - 8191, applied := 0, reason := 5, severity := 3 }]

/-- What an evaluation gives: the values, the report and how many adjustments there were. -/
structure Evaluated where
  values : Tbl (Option Word32) := []
  report : List Clamp := []
  /-- zones without objects and point objects not created (R342, R369) -/
  zonesOut : Nat := 0
  pointsOut : Nat := 0
  deriving DecidableEq, Repr, Inhabited

/-- Evaluate an image of `size` bytes (R425): its inputs are the image, whether a key is installed, and the manufacturing value in
the defaults. For a set taken from the peer, `inst` is the active's applied Device instance, which stands in place of that
default (R515). -/
def evaluate (image : List Byte) (size : Nat) (key : Bool) (inst : Option Nat := none) : Evaluated :=
  let ps := parseBody size 32 ((image.take size).drop 32)
  let req := lastRaws ps
  let blank : State := {}
  let e : Eval := { s := blank, req := req, report := (parseReport req ps).reverse }
  let e := match inst, e.req.get (fieldKey Fid.SVC_DEVICE_INSTANCE 0) with
    | some v, none => e.store Fid.SVC_DEVICE_INSTANCE 0 v
    | _, _ => e
  let f := ((((((e.stage2).stage3 key).stage4).stage5).stage6).stage7).stage8.services
  let p := f.s.allocate
  let g := f.pool
  { values := g.s.cfg.values, report := capReport g.report.reverse, zonesOut := p.zonesOut.length, pointsOut := p.pointsOut.length }

/-- The highest severity of a report (R434). -/
def worstSeverity (r : List Clamp) : Nat := r.foldl (fun m c => max m c.severity) 0

end Sys2Proof.Machine
end

