-- ==== Sys2Proof/Machine/CfgSets.lean ====
section
/-! DEFINITION. Machine/CfgSets.lean: the four configuration sets (R413–R425): states and generations, staging, commit up to
instant E, selection at start-up, the set taken from the peer (R515), and CFG_INFO, CFG_READ and CLAMP_READ. -/

namespace Sys2Proof.Machine

/-! ### Sets -/

/-- Set n, 0 A to 3 D. -/
def Cfg.set (c : Cfg) (n : Nat) : CfgSet :=
  match n with
  | 0 => c.setA
  | 1 => c.setB
  | 2 => c.setC
  | _ => c.setD

/-- Change set n. -/
def State.cfgSet (n : Nat) (f : CfgSet → CfgSet) (s : State) : State :=
  match n with
  | 0 => { s with cfg.setA := f s.cfg.setA }
  | 1 => { s with cfg.setB := f s.cfg.setB }
  | 2 => { s with cfg.setC := f s.cfg.setC }
  | _ => { s with cfg.setD := f s.cfg.setD }

/-- VALID or ACTIVE. -/
def CfgSet.live (x : CfgSet) : Bool := x.state == .valid || x.state == .active

/-- First address of a set's partition (R27). -/
def setBase (n : Nat) : Nat := 0x540000 + n * 0x40000

/-- The page of a set's commit record (R421). -/
def commitPage (n : Nat) : Nat := (setBase n + 0x3FF00) / 256

/-- A set's first `len` bytes. -/
def State.image (s : State) (n len : Nat) : List Byte := s.nv.mem.readBytes (setBase n) len

/-- An EXPERT_KEY is installed (R399, R411). -/
def State.expertKey (s : State) : Bool := (s.nv.load 7 0x1100).isSome

/-- GENERATION of the header a set's partition holds, or 0 where its MAGIC does not stand (R416, R434). -/
def State.headerGeneration (s : State) (n : Nat) : Nat :=
  if fieldAt (s.image n 8) 0 2 = 0x4643 then fieldAt (s.image n 8) 4 4 else 0

/-- A set becomes INCOMPLETE while the module runs (R424, R434). -/
def State.setIncomplete (n : Nat) (s : State) : State :=
  State.record 28 2 0x0002 (le 1 n ++ le 4 (s.headerGeneration n)) true n (s.cfgSet n (fun x => { x with state := .incomplete }))

/-- Every set in STAGING other than `n` becomes INCOMPLETE (R415, R423). -/
def State.endStaging (keep : Option Nat) (s : State) : State :=
  State.each (upTo 4) (fun n t => if (t.cfg.set n).state = .staging ∧ keep ≠ some n then t.setIncomplete n else t) s

/-! ### Staging (R420) -/

/-- CFG_BEGIN on set n with a generation. -/
def State.cfgBegin (n gen : Nat) (s : State) : State × Option Resp :=
  if (s.cfg.set n).state = .active ∨ (upTo 4).any (fun m => (s.cfg.set m).live && !newer 32 gen (s.cfg.set m).generation) then
    s.fail .badFormat
  else if !s.nv.good then s.fail .nvBusy
  else
    let t := s.endStaging (some n)
    let u := State.cfgSet n (fun _ => { state := .staging, generation := gen }) { t with nv := t.nv.journal (commitPage n) [] }
    u.ok

/-- CFG_BEGIN (R420). -/
def opCfgBegin : OpDef :=
  { cls := 4, opcode := 2, fns := [2], holds := true
    len := fun n => n == 8
    content := fun _ r => decide (r.target < 4) && fieldAt r.payload 4 4 == 0
    expert := fun _ _ => true
    body := whileFree 4 2 (fun r s => s.cfgBegin r.target (fieldAt r.payload 0 4)) }

/-- A rewrite of these bytes would have to read a word that is uncorrectable and stays (R437). -/
def Nv.blocked (n : Nv) (a len : Nat) : Bool :=
  (pagesOf a len).any (fun p => (n.badIn (p * 256) 256).any (fun w => decide (w * 8 < a) || decide (a + len < w * 8 + 8)))

/-- CFG_WRITE into set n. -/
def State.cfgWrite (n off : Nat) (data : List Byte) (s : State) : State × Option Resp :=
  if (s.cfg.set n).state ≠ .staging ∨ 0x3FF00 < off + data.length then s.fail .badFormat
  else if !s.nv.good then s.fail .nvBusy
  else if s.nv.blocked (setBase n + off) data.length then (s.setIncomplete n).fail .nvFault
  else
    let t := { s with nv := s.nv.storeBytes (setBase n + off) data }
    t.ok

/-- CFG_WRITE (R420). -/
def opCfgWrite : OpDef :=
  { cls := 4, opcode := 3, fns := [2], holds := true
    len := fun n => decide (9 ≤ n) && decide (n ≤ 4064)
    content := fun _ r => decide (r.target < 4) && fieldAt r.payload 4 4 == 0
    expert := fun _ _ => true
    body := whileFree 4 3 (fun r s => s.cfgWrite r.target (fieldAt r.payload 0 4) (r.payload.drop 8)) }

/-! ### Commit (R421, R422) -/

/-- The commit record of a set (R421). -/
def commitRecord (gen size crc : Nat) (stamp : Stamp) (ticks : Nat) : List Byte :=
  let b := le 4 0x4A43574D ++ le 4 gen ++ le 4 size ++ le 4 crc ++ le 8 stamp.toNat ++ le 6 ticks ++ List.replicate 222 0
  b ++ le 4 (crc32c b)

/-- A refused commit writes COMMIT_REFUSED with its status (R434). -/
def State.commitRefused (n : Nat) (st : Status) (s : State) : State × Option Resp :=
  (s.record 28 2 0x0005 (le 1 n ++ le 1 st.code) true n).fail st

/-- The header of an image holds for a generation (R416, R420). -/
def headerOk (image : List Byte) (gen : Nat) : Bool :=
  fieldAt image 0 2 == 0x4643 && fieldAt image 2 1 == 1 && fieldAt image 4 4 == gen

/-- Steps 2 and 3 of R422: the commit record is written, the set is VALID and newest, and its evaluation waits for E. -/
def State.commitSet (n gen size crc : Nat) (waiter : Option (Nat × Nat)) (inst : Option Nat) (s : State) : State :=
  let ev := evaluate (s.image n size) size s.expertKey inst
  let nv := s.nv.journal (commitPage n) (commitRecord gen size crc s.now (s.recordTicks.getD 0))
  State.cfgSet n (fun _ => { state := .valid, generation := gen, size := size, crc := crc })
    { s with nv := nv, cfg.pending := some { set := n, values := ev.values, report := ev.report, waiter := waiter } }

/-- CFG_COMMIT on set n. -/
def State.cfgCommit (n size crc : Nat) (waiter : Nat × Nat) (s : State) : State × Option Resp :=
  if (s.cfg.set n).state ≠ .staging ∨ size < 32 ∨ 0x3FF00 < size then s.commitRefused n .badFormat
  else if !(s.nv.badIn (setBase n) size).isEmpty then (s.setIncomplete n).commitRefused n .nvFault
  else
    let image := s.image n size
    let gen := (s.cfg.set n).generation
    if crc32c image ≠ crc ∨ headerOk image gen = false then s.commitRefused n .badFormat
    else if !s.nv.good then s.commitRefused n .nvBusy
    else (s.commitSet n gen size crc (some waiter) none, none)

/-- CFG_COMMIT (R420, R422); it answers at E. -/
def opCfgCommit : OpDef :=
  { cls := 4, opcode := 4, fns := [2], holds := true
    len := fun n => n == 8
    content := fun _ r => decide (r.target < 4)
    expert := fun _ _ => true
    body := whileFree 4 4 (fun r s => s.cfgCommit r.target (fieldAt r.payload 0 4) (fieldAt r.payload 4 4) (r.session, r.tag)) }

/-! ### Reading (R413, R420, R431) -/

/-- CFG_INFO (R405, R413). -/
def opCfgInfo : OpDef :=
  { cls := 4, opcode := 1, fns := [2], fallback := true
    len := fun n => n == 0
    content := fun _ r => r.target == 0
    body := whileFree 4 1 (fun _ s => s.ok ((upTo 4).flatMap (fun n =>
      let x := s.cfg.set n
      le 1 n ++ le 1 x.state.code ++ le 2 0 ++ le 4 x.generation ++ le 4 x.size ++ le 4 x.crc))) }

/-- CFG_READ (R405, R420): any set in any state; an uncorrectable word fails it (R437). The specification states nothing about
bytes from 40000h of a set on: they are free values. -/
def opCfgRead : OpDef :=
  { cls := 4, opcode := 5, fns := [2], fallback := true
    len := fun n => n == 8
    content := fun _ r =>
      decide (r.target < 4) && decide (1 ≤ fieldAt r.payload 4 2) && decide (fieldAt r.payload 4 2 ≤ 4048) &&
        fieldAt r.payload 6 2 == 0
    body := whileFree 4 5 (fun r s =>
      let a := setBase r.target + fieldAt r.payload 0 4
      let n := min (fieldAt r.payload 4 2) (0x40000 - fieldAt r.payload 0 4)
      let k := fieldAt r.payload 4 2 - n
      if !(s.nv.badIn a n).isEmpty then (s.unread a n).fail .nvFault
      else State.ok { s with free := s.free + k }
        (s.nv.mem.readBytes a n ++ (upTo k).map (fun i => (Config.freeWord (s.free + i)).setWidth 8))) }

/-- The 16 bytes of a report entry (R431). -/
def Clamp.bytes (c : Clamp) : List Byte :=
  le 2 c.field ++ le 2 c.index ++ le 4 c.requested ++ le 4 c.applied ++ le 1 c.reason ++ le 1 c.severity ++ le 2 0

/-- CLAMP_READ (R405, R431, R432). -/
def opClampRead : OpDef :=
  { cls := 4, opcode := 6, fns := [2], fallback := true
    len := fun n => n == 8
    content := fun _ r =>
      r.target == 0 && decide (1 ≤ fieldAt r.payload 2 2) && decide (fieldAt r.payload 2 2 ≤ 253) && fieldAt r.payload 4 4 == 0
    body := whileFree 4 6 (fun r s =>
      let es := (s.cfg.report.drop (fieldAt r.payload 0 2)).take (fieldAt r.payload 2 2)
      s.ok (le 2 s.cfg.report.length ++ le 2 es.length ++ le 4 s.cfg.generation ++ es.flatMap Clamp.bytes)) }

/-! ### The set taken from the peer (R515) -/

/-- The set that a received image goes into: an EMPTY one, else the oldest that is not ACTIVE, those without a generation in
force first. -/
def Cfg.receiver (c : Cfg) : Nat :=
  match (upTo 4).find? (fun n => (c.set n).state == .empty) with
  | some n => n
  | none =>
    let others := (upTo 4).filter (fun n => (c.set n).state != .active)
    match others.find? (fun n => !(c.set n).live) with
    | some n => n
    | none => others.foldl (fun b n => if newer 32 (c.set b).generation (c.set n).generation then n else b) (others.headD 0)

/-- Take the active's set: its own newer sets lose their commit pages, then the set is written and committed (R515). -/
def State.cfgReceive (gen : Nat) (image : List Byte) (inst : Option Nat) (s : State) : State :=
  if s.cfg.pending.isSome ∨ !s.nv.good ∨ image.length < 32 ∨ 0x3FF00 < image.length ∨ headerOk image gen = false then s else
  let n := s.cfg.receiver
  let taken := (upTo 4).filter (fun m => (s.cfg.set m).live && newer 32 (s.cfg.set m).generation gen)
  let t := State.each taken (fun m t =>
    let u := { t with nv := t.nv.journal (commitPage m) [] }
    u.setIncomplete m) s
  let u := { t with nv := (t.nv.journal (commitPage n) []).storeBytes (setBase n) image }
  State.record 27 2 0x0007 (le 4 gen ++ le 1 taken.length) false 0 (u.commitSet n gen image.length (crc32c image) none inst)

/-! ### Selection at start-up (R424) -/

/-- Whether the body of a set's partition has been written. -/
def State.bodyWritten (s : State) (n : Nat) : Bool :=
  s.nv.mem.any (fun p => decide (setBase n ≤ p.1) && decide (p.1 < setBase n + 0x3FF00))

/-- A set as its partition shows it, and the cause of SET_DAMAGED or 0: an uncorrectable word, the record's check, the image's. -/
def State.classSet (s : State) (n : Nat) : CfgSet × Nat :=
  let rec_ := s.nv.page (commitPage n)
  let gen := fieldAt rec_ 4 4
  let size := fieldAt rec_ 8 4
  let x : CfgSet := { generation := gen, size := size, crc := fieldAt rec_ 12 4 }
  if allZero rec_ && (s.nv.badIn (commitPage n * 256) 256).isEmpty then
    if s.bodyWritten n then ({ state := .incomplete, generation := s.headerGeneration n }, 0) else ({}, 0)
  else if !(s.nv.badIn (commitPage n * 256) 256).isEmpty then ({ x with state := .damaged }, 3)
  else if fieldAt rec_ 252 4 ≠ crc32c (rec_.take 252) ∨ fieldAt rec_ 0 4 ≠ 0x4A43574D ∨ size < 32 ∨ 0x3FF00 < size then
    ({ x with state := .damaged }, 1)
  else if !(s.nv.badIn (setBase n) size).isEmpty then ({ x with state := .damaged }, 3)
  else if crc32c (s.image n size) ≠ x.crc then ({ x with state := .damaged }, 2)
  else ({ x with state := .valid }, 0)

/-- Sets that no other valid set is newer than (R424). -/
def Cfg.candidates (c : Cfg) : List Nat :=
  (upTo 4).filter (fun n => (c.set n).live && (upTo 4).all (fun m =>
    !((c.set m).live && newer 32 (c.set m).generation (c.set n).generation)))

/-- Class every set, with the records of R434. -/
def State.classSets (s : State) : State :=
  let t := State.each (upTo 4) (fun n t =>
    let (x, cause) := t.classSet n
    let u := t.cfgSet n (fun _ => x)
    if cause = 0 then u else u.record 28 3 0x0003 (le 1 n ++ le 4 x.generation ++ le 1 cause) true n) s
  State.each (upTo 4) (fun n u =>
    let x := u.cfg.set n
    if x.state = .incomplete ∧ fieldAt (u.image n 2) 0 2 = 0x4643 ∧
        (upTo 4).all (fun m => !(u.cfg.set m).live || newer 32 x.generation (u.cfg.set m).generation) then
      u.record 28 2 0x0002 (le 1 n ++ le 4 x.generation) true n
    else u) t

/-- How many sets are in a state. -/
def Cfg.countIn (c : Cfg) (x : SetState) : Nat := ((upTo 4).filter (fun n => (c.set n).state == x)).length

/-- The selection of R424: CONFIG rises when the selected set takes effect. -/
def State.configSelection (s : State) : State :=
  if !s.rdy Rdy.nvstore || s.rdy Rdy.config || s.cfg.pending.isSome then s else
  let t := s.classSets
  match t.cfg.candidates.head? with
  | none => t.record 28 4 0x0004 (le 1 (t.cfg.countIn .incomplete) ++ le 1 (t.cfg.countIn .damaged)) true 0
  | some n =>
    let size := (t.cfg.set n).size
    let ev := evaluate (t.image n size) size t.expertKey
    { t with cfg.pending := some { set := n, values := ev.values, report := ev.report, atStart := true } }

/-- CONFIG_SELECTION (R424). -/
def execConfigSelection (a : At) (s : State) : Host.Outcome State Fault Refusal := .next (s.advance a).configSelection

/-! ### Loss of the server (R423) -/

/-- Staging sets become INCOMPLETE; a commit whose record page is whole takes effect when the server returns, without a
response; requests that waited for E are gone. -/
def State.cfgDown (s : State) : State :=
  let t := s.endStaging none
  { t with
    cfg.held := []
    cfg.pending := t.cfg.pending.map (fun p => { p with waiter := none }) }

/-! ### Commands -/

/-- CFG_INFO (R413). -/
def execCfgInfo (a : At) (r : Req) (s : State) : Host.Outcome State Fault Refusal := .next (serve opCfgInfo r (s.advance a))

/-- CFG_BEGIN (R420). -/
def execCfgBegin (a : At) (r : Req) (s : State) : Host.Outcome State Fault Refusal := .next (serve opCfgBegin r (s.advance a))

/-- CFG_WRITE (R420). -/
def execCfgWrite (a : At) (r : Req) (s : State) : Host.Outcome State Fault Refusal := .next (serve opCfgWrite r (s.advance a))

/-- CFG_COMMIT (R422). -/
def execCfgCommit (a : At) (r : Req) (s : State) : Host.Outcome State Fault Refusal := .next (serve opCfgCommit r (s.advance a))

/-- CFG_READ (R420). -/
def execCfgRead (a : At) (r : Req) (s : State) : Host.Outcome State Fault Refusal := .next (serve opCfgRead r (s.advance a))

/-- CLAMP_READ (R431). -/
def execClampRead (a : At) (r : Req) (s : State) : Host.Outcome State Fault Refusal := .next (serve opClampRead r (s.advance a))

end Sys2Proof.Machine
end

