-- ==== Sys2Proof/Machine/Pair.lean ====
section
/-! DEFINITION. Machine/Pair.lean: mirrored pairs (R489–R518): the angle offset, frames sent and received, roles and election,
takeover, two active modules, withdrawal, handover and the shared channels. -/

namespace Sys2Proof.Machine

/-! ### Angle offset (R497–R499) -/

/-- D: the peer's stamp minus this module's, the mean of the last 8 values (R497). -/
def Pair.offset (p : Pair) : Int := if p.dSamples.isEmpty then 0 else divRound p.dSamples.sum p.dSamples.length

/-- The phase offset φ: D wrapped into −524 288 to +524 287 (R497). -/
def Pair.phase (p : Pair) : Int := (p.offset + 524288) % 1048576 - 524288

/-- A stamp of the peer in this module's angle (R499). -/
def State.fromPeer (s : State) (x : Stamp) : Stamp := x - BitVec.ofInt 64 s.pair.offset

/-- A turn count of the peer in this module's angle. -/
def State.turnFromPeer (s : State) (n : Nat) : Nat := (((n * grainsPerTurn : Nat) - s.pair.offset) / (grainsPerTurn : Nat)).toNat

/-! ### Link, signs and lines (R490, R500, R506) -/

/-- The last valid frame's SEND_STAMP in this module's angle; its receipt while no D has been measured. -/
def State.lastFrame (s : State) : Option Stamp :=
  s.pair.peer.map (fun p => if s.pair.dSamples.isEmpty then p.received else s.fromPeer p.sendStamp)

/-- A valid frame has arrived within 1 572 864 grains: SILENCE does not hold (R506). -/
def State.linkFresh (s : State) : Bool := s.lastFrame.any (fun x => decide (s.now.toNat < x.toNat + 1572864))

/-- The signs that hold: bit 0 SILENCE, bit 1 HEARTBEAT, bit 2 ALIVE (R506, R518). -/
def State.signs (s : State) : List Bool :=
  [!s.linkFresh,
   s.cfgN Fid.PAIR_HB_PORTS != 0 && decide (s.cfgN Fid.PAIR_HB_TIMEOUT ≤ s.turnsSince s.pair.lastBeat),
   !s.pair.peerAlive]

/-- How many signs hold. -/
def State.signCount (s : State) : Nat := (s.signs.filter id).length

/-- This module is a member of a pair (R500). -/
def State.member (s : State) : Bool := s.cfgN Fid.PAIR_ENABLE == 1 && s.pair.role != .none

/-- A reason to withdraw stands (R512). -/
def State.mustWithdraw (s : State) : Bool := !s.rdy Rdy.services || !s.sen.crystal || s.bin.autopilot

/-- PAIR_ALIVE is driven high (R490). -/
def State.pairAlive (s : State) : Bool :=
  s.cfgN Fid.PAIR_ENABLE == 1 && s.rdy Rdy.services && s.rdy Rdy.meridian && s.sen.crystal && !s.pair.withdrawn

/-- PAIR_ACTIVE is driven high (R490, R512). -/
def State.pairActive (s : State) : Bool := s.pair.role == .active && !s.pair.withdrawn

/-- The PEER code of R408. -/
def State.peerCode (s : State) : Nat := if s.pair.peer.isNone then 0 else if s.linkFresh then 1 else 2

/-- The conditions of MIRROR (R500): frames pass both ways while the peer echoes one of the last frames sent. -/
def State.mirrorHolds (s : State) : Bool :=
  s.cfgN Fid.PAIR_ENABLE == 1 && s.rdy Rdy.services && s.rdy Rdy.meridian && !s.pair.withdrawn && s.linkFresh &&
  (match s.pair.peer with
   | none => false
   | some p => decide ((s.pair.txSeq - BitVec.ofNat 32 p.echoSeq).toNat < 4) &&
     (match s.pair.role with
      | .active => p.role == 2 && bitOf p.flags 0
      | .standby => s.pair.current
      | _ => false))

/-! ### Records (R518) -/

/-- ROLE. -/
def State.roleRecord (cause : Nat) (s : State) : State := s.record3 27 2 0x0001 (le 1 s.pair.role.code ++ le 1 cause) 0

/-- PEER_STATE, when the code has changed. -/
def State.peerRecord (s : State) : State :=
  if s.peerCode = s.pair.peerCode then s else
  State.record3 27 3 0x0003 (le 1 s.peerCode) 0 { s with pair.peerCode := s.peerCode }

/-- STRAP_CONFLICT, once: both straps read the same (R501). -/
def State.strapRecord (s : State) : State :=
  match s.pair.peer with
  | some p =>
    if bitOf p.flags 5 = s.pair.strapSecond ∧ s.pair.strapNoted = false then
      State.record3 27 3 0x0006 (le 8 Config.serial.toNat) 0 { s with pair.strapNoted := true }
    else s
  | none => s

/-- This module counts as FIRST: by its strap, or by the lower SERIAL where both straps read the same (R501). -/
def State.isFirst (s : State) : Bool :=
  match s.pair.peer with
  | some p => if bitOf p.flags 5 = s.pair.strapSecond then decide (Config.serial.toNat < p.serial) else !s.pair.strapSecond
  | none => !s.pair.strapSecond

/-! ### MIRROR -/

/-- Answers that waited for a mirror frame are given (R158). -/
def State.releaseAnswers (s : State) : State :=
  State.each s.helm.afterFrame (fun p t => t.answer (some p.1) p.2) { s with helm.afterFrame := [] }

/-- A planned handover is abandoned (R513). -/
def State.abandonHandover (s : State) : State :=
  match s.pair.handover with
  | some (n, tag) => State.finish n tag (s.resp .notReady) { s with pair.handover := none, pair.handoverAt := 0 }
  | none => s

/-- MIRROR follows its conditions. -/
def State.refreshMirror (s : State) : State :=
  if s.mirrorHolds then s.updateReady [Rdy.mirror] []
  else if s.rdy Rdy.mirror then s.releaseAnswers.abandonHandover.lower [Rdy.mirror]
  else s

/-! ### Sending (R493–R495) -/

/-- The beats that go with a frame of the active (R506). -/
def State.sendBeats (s : State) : State :=
  if s.pair.role != .active then s else
  State.each ([0, 1].filter (fun p => bitOf (s.cfgN Fid.PAIR_HB_PORTS) p)) (fun p t => t.queueFrame p { cls := 1, what := .link }) s

/-- FLAGS of a frame sent now (R494). -/
def State.frameFlags (s : State) : Nat :=
  maskOf [s.pair.current, s.pair.handover.isSome, s.mustWithdraw, s.pair.yielded, s.rdy Rdy.config, s.pair.strapSecond, s.rdy Rdy.lock]

/-- Section 06h (R495): the read-back that feeds PEER_DRIVE, the switch current and STUCK_ON of every shared channel. -/
def State.sharedReads (s : State) : List SharedRead :=
  ((upTo 32).filter (fun n => s.shared n && s.chIsOut n)).map (fun n =>
    let o := s.fld.outs.get n
    { channel := n, on := o.peerDrive, current := o.current, stuck := o.stuckOn })

/-- The ACTIVE set's generation and image, and the Device instance in force (R515). -/
def State.activeImage (s : State) : Option (Nat × List Byte × Nat) :=
  ((upTo 4).find? (fun n => (s.cfg.set n).state == .active)).map (fun n =>
    (s.cfg.generation, s.image n (s.cfg.set n).size, s.cfgN Fid.SVC_DEVICE_INSTANCE))

/-- The frame that this module sends now (R493–R495): the active its state, 0Ch while the standby is not CURRENT (R504); the standby its
shared channels; both the records written since the last frame. -/
def State.frameOut (s : State) : MirrorFrame :=
  let head : MirrorFrame :=
    { role := s.pair.role.code, seq := (s.pair.txSeq + 1).toNat, sendStamp := s.now
      echoSeq := (s.pair.peer.map (fun p => p.seq)).getD 0, echoHold := (s.pair.peer.map (fun p => s.now.toNat - p.received.toNat)).getD 0
      generation := if s.rdy Rdy.config then s.cfg.generation else 0, flags := s.frameFlags, takeover := s.pair.takeover
      handoverAt := s.pair.handoverAt, serial := Config.serial.toNat, records := s.log.toPeer }
  match s.pair.role with
  | .active =>
    let bulk := !s.pair.peer.any (fun p => bitOf p.flags 0)
    { head with
      bits := [s.rdy Rdy.helm, s.rdy Rdy.waypoint, s.rdy Rdy.sounding]
      zones := some (s.zones, s.zio), loops := some s.helm.loops, ops := some s.helm.performed, guards := some s.policy
      outputs := some (s.fld, s.out)
      plans := some
        { traj := s.plan.traj, seq := s.plan.seq, lastStart := s.plan.lastStart, lastPublish := s.plan.lastPublish, time := s.plan.time
          cost := s.plan.cost, planned := s.plan.planned, pubEpoch := s.plan.pubEpoch, forecast := s.forecast, occ := s.occ
          profile := s.profile, epoch := s.alm.epoch.toNat }
      services := some (s.svc, s.hostIn), trends := some s.svc.trends, partners := some (s.bus.partners, s.bus.binds)
      banks := if bulk then some (s.helm.bank false, s.helm.bank true) else none
      set := if bulk then s.activeImage else none, whole := bulk }
  | .standby => { head with reads := some s.sharedReads }
  | _ => head

/-- A MIRROR_FRAME slot fires: a frame with the state just applied goes out over the lanes that are up; `waiting` is how many bytes of its
content do not fit (R493). -/
def State.pairFrame (waiting : Nat) (s : State) : State :=
  if !s.member || s.pair.withdrawn || s.mustWithdraw || s.pair.lanesOut == 0 then s else
  let seq := s.pair.txSeq + 1
  let t := { s with
    pair.frame := some (State.frameOut { s with fld.announce := s.darkAnnounced })
    fld.announce := s.darkAnnounced
    pair.txSeq := seq
    pair.sent := ((seq.toNat, s.now) :: s.pair.sent).take 32
    pair.electSent := if s.pair.role = .electing then s.pair.electSent + 1 else s.pair.electSent
    helm.performed := []
    log.toPeer := [] }
  let told := s.pair.frameLimitTurn.any (fun n => decide (s.turn < n + 4096))
  let u := if waiting = 0 || told then t
    else State.record3 27 2 0x0009 (le 4 waiting) 0 { t with pair.frameLimitTurn := some t.turn }
  u.releaseAnswers.sendBeats

/-! ### Receiving (R496–R499, R503, R515) -/

/-- A table of an arriving frame, entry by entry. -/
def Tbl.carry {α : Type} [Inhabited α] [DecidableEq α] (t : Tbl α) (f : α → α) : Tbl α :=
  t.foldl (fun (u : Tbl α) p => u.set p.1 (f p.2)) ([] : Tbl α)

/-- D is measured from a frame that echoes one of this module's (R497). -/
def State.measureD (f : MirrorFrame) (s : State) : State :=
  match s.pair.sent.find? (fun x => x.1 == f.echoSeq) with
  | some (_, sk) =>
    let t : Int := s.now.toNat
    let lambda : Int := (t - sk.toNat - f.echoHold) / 2
    { s with pair.dSamples := ((f.sendStamp.toNat + lambda - t) :: s.pair.dSamples).take 8 }
  | none => s

/-- Section 01h and the references and HOST values (R503). -/
def State.takeZones (f : MirrorFrame) (s : State) : State :=
  match f.zones with
  | some (zs, io) =>
    let host := fun (t : Tbl HostVal) => Tbl.carry t (fun h => { h with stamp := s.fromPeer h.stamp })
    { s with
      zones := Tbl.carry zs (fun z => { z with staged := false, at_ := s.fromPeer z.at_, blindSince := z.blindSince.map s.fromPeer, xClampTurn := z.xClampTurn.map s.turnFromPeer })
      zio := Tbl.carry io (fun o => { o with hostY := host o.hostY, hostD := host o.hostD, hostUStamp := Tbl.carry o.hostUStamp s.fromPeer, hostRStamp := Tbl.carry o.hostRStamp s.fromPeer }) }
  | none => s

/-- Section 02h. -/
def State.takeLoops (f : MirrorFrame) (s : State) : State :=
  match f.loops with
  | some ls => { s with helm.loops := Tbl.carry ls (fun l => { l with staged := false }) }
  | none => s

/-- Section 03h: the active's bank operations are performed (R503). -/
def State.takeOps (f : MirrorFrame) (s : State) : State :=
  State.each (f.ops.getD []) (fun op t => match op with
    | .write host shadow kind num first vs _ => t.performWrite host shadow kind num first vs none
    | .copy _ => t.performCopy (t.helm.bank false) none
    | .swap z _ => t.performSwap z none) s

/-- Section 04h. -/
def State.takeGuards (f : MirrorFrame) (s : State) : State :=
  match f.guards with
  | some ps =>
    let run := fun (g : GuardRun) => { g with since := if g.on then s.fromPeer g.since else 0 }
    { s with policy := Tbl.carry ps (fun p => { p with frost := run p.frost, hot := run p.hot }) }
  | none => s

/-- An override with its remaining DURATION. -/
def State.takeForce (s : State) (f : Option Force) : Option Force := f.map (fun x => { x with until_ := x.until_.map s.turnFromPeer })

/-- Section 05h: commanded levels, TPO, codes, values and overrides (R495, R508). -/
def State.takeOutputs (f : MirrorFrame) (s : State) : State :=
  match f.outputs with
  | some (fld, out) =>
    let t := State.each (upTo 32) (fun n (t : State) =>
      let o := fld.outs.get n
      let u := { t with fld.owns := t.fld.owns.upd n (fun x => { x with peerLevel := o.level, force := t.takeForce (fld.owns.get n).force }) }
      if u.shared n then
        u.chOut n (fun x => { x with tpoActive := o.tpoActive, onTime := o.onTime, duty := o.duty, tpoStart := u.fromPeer o.tpoStart })
      else u) { s with fld.windows := fld.announce }
    State.each (upTo 8) (fun n (t : State) =>
      let a := out.ao.get n
      let g := out.ago.get n
      { t with
        out.ao := t.out.ao.upd n (fun o => { o with peerCode := a.code, force := t.takeForce a.force })
        out.ago := t.out.ago.upd n (fun o => { o with value := g.value, acc := g.acc, force := t.takeForce g.force }) }) t
  | none => s

/-- Section 06h, taken by the active (R514). -/
def State.takeReads (f : MirrorFrame) (s : State) : State :=
  State.each (f.reads.getD []) (fun r (t : State) =>
    { t with fld.owns := t.fld.owns.upd (r.channel % 32) (fun o => { o with peerStuck := r.stuck }) }) s

/-- Section 07h: a trajectory of the active's present EPOCH stands for this module's (R499). -/
def State.takePlans (f : MirrorFrame) (s : State) : State :=
  match f.plans with
  | some p =>
    { s with
      plan.traj := Tbl.carry p.traj (fun t => { t with publish := s.fromPeer t.publish, epoch := if t.epoch = p.epoch then s.alm.epoch.toNat else t.epoch })
      plan.seq := p.seq, plan.lastStart := s.fromPeer p.lastStart, plan.lastPublish := s.fromPeer p.lastPublish, plan.time := p.time
      plan.cost := p.cost, plan.planned := p.planned, plan.pubEpoch := if p.pubEpoch = p.epoch then s.alm.epoch.toNat else p.pubEpoch
      forecast := p.forecast
      occ := Tbl.carry p.occ (fun o => { o with stamp := s.fromPeer o.stamp })
      profile := Tbl.carry p.profile id }
  | none => s

/-- Section 08h: objects, priority arrays, HOST inputs, the store and UTC; what belongs to this module's own clients stays (R495). -/
def State.takeServices (f : MirrorFrame) (s : State) : State :=
  match f.services with
  | some (v, host) =>
    let times := fun (t : Tbl (Nat × Nat)) => Tbl.carry t (fun x => ((s.fromPeer (BitVec.ofNat 64 x.1)).toNat, x.2))
    { s with
      hostIn := Tbl.carry host (fun h => { h with stamp := s.fromPeer h.stamp })
      svc := { s.svc with
      timeBase := v.timeBase, timeValid := v.timeValid, utcOffset := v.utcOffset
      store := Tbl.carry v.store id, pointPrio := Tbl.carry v.pointPrio id, pointHeld := v.pointHeld
      schedules := Tbl.carry v.schedules id, schedNow := Tbl.carry v.schedNow id, calendars := Tbl.carry v.calendars id
      events := Tbl.carry v.events (fun e => { e with times := times e.times }) } }
  | none => s

/-- Section 09h. -/
def State.takeTrends (f : MirrorFrame) (s : State) : State :=
  match f.trends with
  | some ts => { s with svc.trends := Tbl.carry ts (fun t => { t with records := t.records.map (fun r => { r with stamp := s.fromPeer r.stamp }) }) }
  | none => s

/-- Section 0Ah. -/
def State.takePartners (f : MirrorFrame) (s : State) : State :=
  match f.partners with
  | some (ps, bs) =>
    { s with
      bus.partners := Tbl.carry ps (fun p => { p with lastHeard := s.fromPeer p.lastHeard })
      bus.binds := Tbl.carry bs (fun b => { b with stamp := s.fromPeer b.stamp, covActive := false }) }
  | none => s

/-- Section 0Ch: banks, and the set of another generation (R504, R515). -/
def State.takeBulk (f : MirrorFrame) (s : State) : State :=
  let t := match f.banks with
    | some (a, b) => { s with helm := (s.helm.setBank false a).setBank true b }
    | none => s
  match f.set with
  | some (gen, image, inst) => if gen = t.cfg.generation then t else t.cfgReceive gen image (some inst)
  | none => t

/-- HELM, WAYPOINT and SOUNDING on the standby follow the active's bits (R503). -/
def State.takeBits (f : MirrorFrame) (s : State) : State :=
  let all := [Rdy.helm, Rdy.waypoint, Rdy.sounding].zip f.bits
  s.updateReady ((all.filter (fun x => x.2)).map (fun x => x.1)) ((all.filter (fun x => !x.2)).map (fun x => x.1))

/-- A section that fails its CRC is discarded alone (R496). -/
def MirrorFrame.whole' (f : MirrorFrame) : MirrorFrame :=
  let bad := fun n => f.bad.contains n
  { f with
    plans := if bad 7 then none else f.plans
    services := if bad 8 then none else f.services
    trends := if bad 9 then none else f.trends
    partners := if bad 10 then none else f.partners
    records := if bad 11 then [] else f.records
    banks := if bad 12 then none else f.banks
    set := if bad 12 then none else f.set
    whole := f.whole && !bad 12 }

/-- The peer's records: the 256 most recent are held (R470). -/
def State.takeRecords (f : MirrorFrame) (s : State) : State :=
  let all := s.log.peerTail ++ f.records
  let dropped := all.length - 256
  { s with log.peerTail := all.drop dropped, log.peerStored := s.log.peerStored - dropped }

/-- A standby installs a frame of the active (R503). -/
def State.installFrame (f : MirrorFrame) (s : State) : State :=
  (((((((((((s.takeZones f).takeLoops f).takeOps f).takeGuards f).takeOutputs f).takePlans f).takeServices f).takeTrends f).takePartners f).takeBulk f).takeBits f)

/-- A frame is valid (R496). -/
def State.validFrame (s : State) (f : MirrorFrame) : Bool :=
  f.ok && f.bad.all (fun n => decide (n = 0) || decide (6 < n)) &&
    (match s.pair.peer with
     | some p => newer 32 f.seq p.seq
     | none => true)

/-- A valid frame's header is taken, D is measured, the runs of R498 and R501 go on. -/
def State.takeHeader (f : MirrorFrame) (s : State) : State :=
  let t := State.measureD f { s with
    pair.peer := some { role := f.role, seq := f.seq, sendStamp := f.sendStamp, received := s.now, generation := f.generation, flags := f.flags, takeover := f.takeover, handoverAt := f.handoverAt, serial := f.serial, echoSeq := f.echoSeq }
    pair.noFrameTurns := 0
    pair.electFrames := if f.role = 3 then s.pair.electFrames + 1 else 0 }
  let apart := t.rdy Rdy.lock && bitOf f.flags 6 && decide (200 < t.pair.phase.natAbs)
  { t with pair.phiRun := if apart then t.pair.phiRun + 1 else 0 }

/-- A gap in SEQ, or a discarded section of type 07h–0Ah, clears CURRENT (R496); so does another generation (R504). -/
def State.keepsCurrent (old : Option PeerHeader) (f : MirrorFrame) (s : State) : State :=
  let gap := match old with
    | some p => decide ((p.seq + 1) % 2 ^ 32 ≠ f.seq)
    | none => true
  let lost := gap || [7, 8, 9, 10].any f.bad.contains || f.generation != s.cfg.generation
  { s with
    pair.current := s.pair.current && !lost
    pair.bulk := (s.pair.bulk && !lost) || (f.whole && !f.bad.contains 12 && f.generation == s.cfg.generation) }

/-- MIRROR_FRAME_RECEIVED (R496). -/
def State.mirrorFrame (f : MirrorFrame) (s : State) : State :=
  if !s.member || s.pair.withdrawn || s.mustWithdraw || s.pair.lanesIn == 0 || !s.validFrame f then s else
  let t := ((s.takeHeader f).takeRecords f.whole').strapRecord
  let u := match s.pair.role with
    | .standby => if f.role = 1 then (t.keepsCurrent s.pair.peer f).installFrame f.whole' else t
    | .active => t.takeReads f
    | _ => t
  u.peerRecord.refreshMirror

/-- MIRROR_FRAME_RECEIVED (R496). -/
def execMirrorFrameReceived (a : At) (f : MirrorFrame) (s : State) : Host.Outcome State Fault Refusal :=
  .next ((s.advance a).mirrorFrame f)

/-- SYNCHRONISATION_COMPLETE (R504): the whole of section 0Ch and every frame since are held. -/
def execSynchronisationComplete (a : At) (s : State) : Host.Outcome State Fault Refusal :=
  let t := s.advance a
  .next (if t.pair.role == .standby && t.pair.bulk && t.linkFresh then ({ t with pair.current := true } : State).refreshMirror else t)

/-! ### Changing role (R501, R502, R508, R509) -/

/-- What a bus keeps queued or asked is gone: the standby transmits nothing (R330). -/
def State.busQuiet (s : State) : State :=
  { s with bus := { s.bus with
    sc := .idle, scDue := none, scTrying := none, scLost := none, fdAt := none, greeted := [], requests := [], segments := 0
    ports := s.bus.ports.updAll s.bus.ports.keys (fun _ p => { p with tx := [], waiting := [] })
    binds := s.bus.binds.updAll s.bus.binds.keys (fun _ b => { b with covActive := false }) } }

/-- The hold of R502 at a turn boundary: channels off, AGO high impedance; AO follow at their AO_LATCH angles. -/
def State.applyHold (s : State) : State :=
  let t := State.each (upTo 32) State.chApply s
  { t with out.ago := t.out.ago.updAll (upTo 8) (fun _ o => { o.yield 1 with highZ := true, safe := false }) }

/-- Soundings run only on the active module: those that stand here end with cause TAKEOVER (R207). -/
def State.endSoundings (s : State) : State :=
  State.each (s.snd.all.filter (fun x => [SndState.pending, .settle, .capture, .fitting].contains x.2.state))
    (fun x => State.sndEnd 7 x.1 x.2) s

/-- ELECTING (R501). -/
def State.enterElecting (s : State) : State :=
  { s with pair := { s.pair with
    role := .electing, electTurns := 0, electFrames := 0, electSent := 0, current := false, bulk := false } }

/-- The hold starts: this module is no longer the active one. -/
def State.leaveFloor (s : State) : State :=
  (({ s with helm.sampling := false } : State).endSoundings.busQuiet).applyHold

/-- STANDBY (R501, R502, R504). -/
def State.becomeStandby (cause : Nat) (s : State) : State :=
  let t := { s with pair := { s.pair with role := .standby, current := false, bulk := false, lastBeat := s.mer.stamp } }
  (t.leaveFloor.roleRecord cause).refreshMirror

/-- Saved mode and HOST values of a zone as at the start (R99, R104). -/
def State.restoreZone (z : Nat) (s : State) : State :=
  let io : ZoneIo := match s.nv.load 0x0003 z with
    | some bs => ({} : ZoneIo).restore bs
    | none => {}
  let m := match s.nv.load 0x0004 z with
    | some bs => fieldAt bs 0 1
    | none => s.cfgN Fid.ZONE_MODE z
  { s with
    zio := s.zio.set z io
    zones := s.zones.set z { mode := (ZMode.ofCode m).getD .holdSafe } }

/-- A stale takeover: what is not held current starts as at reset (R509). -/
def State.startStale (s : State) : State :=
  let t := State.each s.zonesPresent (fun z u => (u.restoreZone z).warmUp z) s
  let t1 := State.each t.loopsOn State.warmLoop { t with helm.loops := [] }
  let t2 := State.each t1.trendsOn State.trendPurge t1
  let t3 := ({ t2 with svc.events := t2.svc.events.updAll t2.svc.events.keys (fun _ e => { e with state := .normal, pending := none }) } : State).restorePartners
  State.each t3.bindsOn State.wantPartner t3

/-- The bus of a new active module (R508). -/
def State.busTakes (s : State) : State :=
  let t := s.refreshPorts
  let t1 := State.each ((upTo 7).filter (fun p => t.cfgN Fid.BAC_NET p != 0)) (fun p u => u.queueFrame p { cls := 6, what := .iAm }) t
  let t2 := State.each ([0, 1].filter (fun p => t1.cfgN Fid.IP_MODE p == 0 && t1.cfgN Fid.IP_ADDR p != 0))
    (fun p u => u.queueFrame p { cls := 1, what := .link }) t1
  State.each ((t2.bus.partners.filter (fun x => x.2.state == .identified)).map (fun x => x.1)) State.bindsReturn t2

/-- The copy of a peer's record (R470): it receives the next SEQ and carries PEER. -/
def peerCopy (bs : List Byte) : LogRec :=
  { source := fieldAt bs 6 1, severity := fieldAt bs 7 1, code := fieldAt bs 8 2, flags := fieldAt bs 10 2 ||| 2
    ticks := fieldAt bs 12 6, stamp := BitVec.ofNat 64 (fieldAt bs 20 8), payload := (bs.drop 28).take 32 }

/-- The peer's tail: PEER_TAIL and the copies not yet stored (R470). -/
def State.pushTail (s : State) : State :=
  let new := s.log.peerTail.drop s.log.peerStored
  if new.isEmpty then s else
  let t := State.record3 3 2 0x0005 (le 6 (fieldAt (new.headD []) 0 6) ++ le 2 new.length) 0
    { s with log.peerStored := s.log.peerTail.length }
  { t with log := new.foldl (fun (l : Logbook) bs => l.push (peerCopy bs)) t.log }

/-- Missed frames of R518: half turns since the last one was sent. -/
def State.missedFrames (s : State) : Nat :=
  match s.lastFrame with
  | some x => min 65535 ((s.now.toNat - x.toNat) / halfTurn)
  | none => 65535

/-- A takeover is stale (R509). -/
def State.staleTakeover (s : State) : Bool :=
  !s.pair.current || (match s.lastFrame with
    | some x => s.olderThan x (s.cfgN Fid.PAIR_STALE_LIMIT)
    | none => true)

/-- Shared channels take the level commanded in the last valid frame (R508). -/
def State.takeShared (s : State) : State :=
  State.each ((upTo 32).filter (fun n => s.shared n && s.chIsOut n)) (fun n t => t.chLevel n (t.fld.owns.get n).peerLevel) s

/-- This module becomes active at boundary B (R508): cause 1 election, 2 takeover, 3 handover. -/
def State.becomeActive (cause : Nat) (s : State) : State :=
  let stale := cause != 1 && s.staleTakeover
  let signs := if cause = 3 then 0 else maskOf s.signs
  let seq := (s.pair.peer.map (fun p => p.seq)).getD 0
  let missed := s.missedFrames
  let t := { s with
    pair := { s.pair with role := .active, takeover := s.now, current := false, bulk := false, handover := none, handoverAt := 0 }
    fld.windows := []
    fld.outs := s.fld.outs.updAll s.fld.outs.keys (fun _ o => { o with peerDrive := false }) }
  let t1 := t.roleRecord cause
  if cause = 1 then (t1.resetAllW.busTakes).refreshMirror else
  let t2 := t1.record3 27 4 0x0002 (le 1 signs ++ le 1 (bit stale) ++ le 4 seq ++ le 2 missed) 0
  let t3 := (if stale then t2.startStale else t2).takeShared.resetAllW
  let t4 := State.each (t3.zonesPresent.filter (fun z => (t3.zones.get z).mode == .sounding)) (State.sndAbort 7) t3
  let t5 := { t4 with plan.replan := true }
  (t5.busTakes.pushTail).refreshMirror

/-- The module with SERVICES enters ELECTING (R501). -/
def State.pairServicesRise (s : State) : State :=
  if s.cfgN Fid.PAIR_ENABLE = 1 then
    ({ s with pair.withdrawn := false } : State).enterElecting.leaveFloor
  else { s with pair.role := .none }

/-- The winner of an election by frames (R501): CONFIG, then FIRST, then the lower SERIAL. -/
def State.wins (s : State) (p : PeerHeader) : Bool :=
  if s.rdy Rdy.config != bitOf p.flags 4 then s.rdy Rdy.config else s.isFirst

/-- The role that the first applying row of R501 gives, if any. -/
def State.elected (s : State) : Option PairRole :=
  match s.pair.peer, s.linkFresh with
  | some p, true =>
    if p.role = 1 then some .standby
    else if p.role = 3 ∧ 2 ≤ s.pair.electFrames ∧ 2 ≤ s.pair.electSent then some (if s.wins p then .active else .standby)
    else none
  | _, _ =>
    if s.pair.peerActive then some .standby
    else
      let wait := s.cfgN Fid.PAIR_ELECT_WAIT * (if s.isFirst then 1 else 4)
      if wait ≤ s.pair.electTurns then some .active else none

/-- ELECTION (R501): at a turn boundary. -/
def execElection (a : At) (s : State) : Host.Outcome State Fault Refusal :=
  let t := s.advance a
  .next (if t.pair.role == .electing && !t.pair.withdrawn && !t.mustWithdraw && t.grain == 0 then
      (match t.elected with
       | some .active => t.becomeActive 1
       | some .standby => t.becomeStandby 1
       | _ => t)
    else t)

/-- TAKEOVER (R507): the standby sees two signs, or with YIELDED all three, at a turn boundary. -/
def execTakeover (a : At) (s : State) : Host.Outcome State Fault Refusal :=
  let t := s.advance a
  .next (if t.pair.role == .standby && !t.pair.withdrawn && !t.mustWithdraw && t.grain == 0 &&
      decide ((if t.pair.yielded then 3 else 2) ≤ t.signCount) then t.becomeActive 2
    else t)

/-- Whether a second active module makes this one yield (R510); with the link, and the peer's TAKEOVER. -/
def State.mustYield (s : State) : Option Bool :=
  if 2 ≤ s.pair.noFrameTurns then (if 2 ≤ s.pair.peerActiveTurns ∧ s.isFirst = false then some false else none) else
  match s.pair.peer with
  | some p =>
    let other := s.fromPeer p.takeover
    if p.role = 1 ∧ (other < s.pair.takeover ∨ (other = s.pair.takeover ∧ s.isFirst = false)) then some true else none
  | none => none

/-- DUAL_ACTIVE (R510): at a turn boundary. -/
def execDualActive (a : At) (s : State) : Host.Outcome State Fault Refusal :=
  let t := s.advance a
  .next (if t.pairActive && t.grain == 0 then
      (match t.mustYield with
       | some link =>
         let other := (t.pair.peer.map (fun p => t.fromPeer p.takeover)).getD 0
         ((t.record3 27 4 0x0005 (le 1 (bit link) ++ le 8 other.toNat) 0).becomeStandby 4 |> fun u => { u with pair.yielded := true, pair.noSignTurns := 0 })
       | none => t)
    else t)

/-- YIELDED_CLEAR (R511). -/
def execYieldedClear (a : At) (s : State) : Host.Outcome State Fault Refusal :=
  let t := s.advance a
  .next (if t.pair.yielded && decide (64 ≤ t.pair.noSignTurns) then { t with pair.yielded := false } else t)

/-! ### Withdrawal and lines (R490, R492, R512) -/

/-- WITHDRAWAL (R512): the frames stop, both lines drop; an active module keeps driving until the peer does. -/
def execWithdrawal (a : At) (s : State) : Host.Outcome State Fault Refusal :=
  let t := s.advance a
  .next (if t.member && !t.pair.withdrawn && t.mustWithdraw then
      let u := ({ t with pair.withdrawn := true } : State).refreshMirror
      if u.pair.role = .active then u else u.enterElecting.roleRecord 5
    else t)

/-- LANE_CHANGE (R492): lanes up in each direction; on the internal RC the link is stopped (R39). -/
def execLaneChange (a : At) (lanesIn lanesOut : Nat) (s : State) : Host.Outcome State Fault Refusal :=
  let t := s.advance a
  let i := if t.sen.crystal then lanesIn % 4 else 0
  let o := if t.sen.crystal then lanesOut % 4 else 0
  let u := { t with pair.lanesIn := i, pair.lanesOut := o }
  .next (if (i == t.pair.lanesIn && o == t.pair.lanesOut) || t.cfgN Fid.PAIR_ENABLE != 1 then u
    else u.record3 27 3 0x0004 (le 1 i ++ le 1 o) 0)

/-- PEER_LINE_CHANGE (R490): PEER_ALIVE and PEER_ACTIVE as they have stood for 1 ms. -/
def execPeerLineChange (a : At) (alive active : Bool) (s : State) : Host.Outcome State Fault Refusal :=
  let t := s.advance a
  .next { t with
    pair.peerAlive := alive, pair.peerActive := active
    pair.peerActiveTurns := if active then t.pair.peerActiveTurns else 0 }

/-! ### Handover (R513) -/

/-- Nothing stands in the way of a handover boundary: the bank queue is empty and no commit waits for E. -/
def State.handoverClear (s : State) : Bool :=
  s.helm.queue.isEmpty && s.helm.copying.isNone && !(s.cfg.pending.any (fun p => !p.atStart))

/-- Interim operations a handover discards: all but a deferred mode write, which travels in section 01h. -/
def Interim.handedOver (i : Interim) : Bool := !(i.cls == 1 && i.opcode == 4)

/-- The active hands the floor over at B. -/
def State.handOver (s : State) : State :=
  let t := match s.pair.handover with
    | some (n, tag) => s.finish n tag (s.resp .done)
    | none => s
  let u := { t with pair.handover := none, pair.handoverAt := 0 }
  (u.endInterims Interim.handedOver .discarded .abortedByReset []).becomeStandby 3

/-- HANDOVER_BOUNDARY (R513): on the active at B, on the standby at its turn boundary at B. -/
def execHandoverBoundary (a : At) (s : State) : Host.Outcome State Fault Refusal :=
  let t := s.advance a
  .next (if t.grain != 0 || t.pair.withdrawn then t
    else match t.pair.role with
      | .active => if t.pair.handover.isSome ∧ t.pair.handoverAt = t.now ∧ t.handoverClear = true then t.handOver else t
      | .standby => (match t.pair.peer with
        | some p =>
          let b := t.fromPeer p.handoverAt
          if p.role = 1 ∧ bitOf p.flags 1 = true ∧ p.handoverAt ≠ 0 ∧ t.linkFresh = true ∧ b.toNat < t.now.toNat + halfTurn then t.becomeActive 3 else t
        | none => t)
      | _ => t)

/-! ### What a turn boundary does for a pair -/

/-- A withdrawn module: the hold once the peer is active, ELECTING once nothing makes it withdraw (R512). -/
def State.withdrawnTurn (s : State) : State :=
  if !s.pair.withdrawn then s
  else if !s.mustWithdraw && s.rdy Rdy.meridian then
    let t := ({ s with pair.withdrawn := false } : State).enterElecting
    (if s.pair.role = .active then t.leaveFloor else t).roleRecord 5
  else if s.pair.role = .active && s.pair.peerActive then (s.enterElecting.leaveFloor).roleRecord 5
  else s

/-- A planned handover whose conditions do not hold yet moves on (R513); so does one whose boundary has passed. -/
def State.postponeHandover (s : State) : State :=
  if s.pair.handover.isSome && ((!s.handoverClear && decide (s.pair.handoverAt.turn ≤ s.turn + 1)) || decide (s.pair.handoverAt.turn < s.turn)) then
    { s with pair.handoverAt := mkStamp (s.turn + 2) 0 }
  else s

/-- The turn boundary of a pair member. -/
def State.pairTurn (s : State) : State :=
  if !s.member then s else
  let t := s.withdrawnTurn
  let u := { t with pair := { t.pair with
    electTurns := if t.pair.role = PairRole.electing && !t.pair.withdrawn then t.pair.electTurns + 1 else 0
    noFrameTurns := t.pair.noFrameTurns + 1
    peerActiveTurns := if t.pair.peerActive then t.pair.peerActiveTurns + 1 else 0
    noSignTurns := if t.signCount = 0 then t.pair.noSignTurns + 1 else 0 } }
  let v := u.peerRecord.refreshMirror.postponeHandover
  if v.pairActive && decide (2 ≤ v.signCount) then v.pushTail else v

/-! ### Shared channels, phase and Almanac (R498, R499, R514) -/

/-- SHARED_CHANNEL_COMPARISON (R514): the read-back of channel n, whether the active's own read-back equals its command, and whether no
commanded edge lies within 1 ms; none is made of a channel with an announced dark pulse (R268). -/
def execSharedChannelComparison (a : At) (n : Nat) (readback activeAgrees settled : Bool) (s : State) : Host.Outcome State Fault Refusal :=
  let t := s.advance a
  let o := t.fld.owns.get n
  let x := t.fld.outs.get n
  .next (if !(t.pair.role == .standby && t.pair.current && settled && decide (n < 32) && t.shared n && t.chIsOut n && !t.fld.windows.contains n) then t
    else if readback = o.peerLevel then
      let agree := o.agreeRun + 1
      { t with
        fld.owns := t.fld.owns.set n { o with agreeRun := agree, disagreeRun := 0 }
        fld.outs := t.fld.outs.set n { x with peerDrive := o.peerLevel, peerDisagree := x.peerDisagree && decide (agree < 2) } }
    else if activeAgrees then
      let run := o.disagreeRun + 1
      let u := { t with
        fld.owns := t.fld.owns.set n { o with disagreeRun := run, agreeRun := 0 }
        fld.outs := t.fld.outs.set n { x with peerDisagree := x.peerDisagree || decide (2 ≤ run) } }
      if run = 2 && !x.peerDisagree then u.record3 (6 + groupOf n) 3 0x0010 (le 1 n ++ le 1 (bit o.peerLevel) ++ le 1 (bit readback)) n else u
    else { t with fld.owns := t.fld.owns.set n { o with disagreeRun := 0, agreeRun := 0 } })

/-- PHASE_ALIGN (R498): the standby moves its grain 0 onto the active's. -/
def execPhaseAlign (a : At) (s : State) : Host.Outcome State Fault Refusal :=
  let t := s.advance a
  let phi := t.pair.phase
  .next (if t.pair.role == .standby && t.cfgN Fid.PAIR_PHASE_ALIGN == 1 && t.rdy Rdy.lock && decide (16 ≤ t.pair.phiRun) then
      (State.record3 27 1 0x0008 (le 4 (ofSigned 32 phi)) 0 { t with pair.phiRun := 0 }).moveOffset t.mer.zeroOffset (t.mer.pairOffset - phi)
    else t)

/-- ALMANAC_ALIGN (R499): `peerTicks` is the active's count at this instant, found through R63 and D. -/
def execAlmanacAlign (a : At) (peerTicks : Nat) (s : State) : Host.Outcome State Fault Refusal :=
  let t := s.advance a
  let apart := ((peerTicks % 2 ^ 48 : Nat) : Int) - t.alm.count.toNat
  .next (if t.pair.role == .standby && t.rdy Rdy.almanac && t.linkFresh && decide (32768 < apart.natAbs) && t.alm.writes.isEmpty then
      { t with alm := t.alm.enqueue { value := peerTicks % 2 ^ 48 } }
    else t)

/-! ### Operations (R408) -/

/-- PAIR_STATUS (R408), served whenever SERVICES is set (R500). -/
def opPairStatus : OpDef :=
  { cls := 6, opcode := 1, fns := [27]
    len := fun n => n == 0
    content := fun _ r => r.target == 0
    off := fun s _ => s.cfgN Fid.PAIR_ENABLE != 1
    ready := fun s _ => s.rdy Rdy.services
    body := fun _ s => s.ok (le 1 s.pair.role.code ++ le 1 s.peerCode ++
      le 1 (s.pair.lanesIn % 4 + 4 * (s.pair.lanesOut % 4)) ++ le 1 0 ++ le 4 s.pair.txSeq.toNat ++
      le 4 ((s.pair.peer.map (fun p => p.seq)).getD 0) ++ le 4 (ofSigned 32 s.pair.phase) ++
      le 4 ((s.pair.peer.map (fun p => p.generation)).getD 0) ++ le 4 0 ++ le 8 s.pair.takeover.toNat) }

/-- PAIR_STATUS (R408). -/
def execPairStatus (a : At) (r : Req) (s : State) : Host.Outcome State Fault Refusal := .next (serve opPairStatus r (s.advance a))

/-- PAIR_HANDOVER (R513): answered at B. -/
def opPairHandover : OpDef :=
  { cls := 6, opcode := 2, fns := [27], holds := true
    len := fun n => n == 0
    content := fun _ r => r.target == 0
    expert := fun _ _ => true
    off := fun s _ => s.cfgN Fid.PAIR_ENABLE != 1
    ready := fun s _ => s.rdy Rdy.mirror && s.pair.role == .active
    body := fun r s =>
      ({ s with
        pair.handover := some (r.session, r.tag)
        pair.handoverAt := mkStamp (s.turn + (if s.grain = 0 then 2 else 3)) 0 }, none) }

/-- PAIR_HANDOVER (R513). -/
def execPairHandover (a : At) (r : Req) (s : State) : Host.Outcome State Fault Refusal := .next (serve opPairHandover r (s.advance a))

end Sys2Proof.Machine
end

