-- ==== Sys2Proof/Machine/Tiller.lean ====
section
/-! DEFINITION. Machine/Tiller.lean: the Tiller keypad, buttons and encoders (R571–R578) and their operations (R581). -/

namespace Sys2Proof.Machine

/-! ### Events (R577) -/

/-- CODE of an entry. -/
def tlCode (typ flags index arg : Nat) : Word32 := BitVec.ofNat 32 (typ * 2 ^ 28 + flags * 2 ^ 24 + index * 2 ^ 16 + arg % 65536)

/-- Fields of a CODE. -/
def tlType (c : Word32) : Nat := bitsOf c.toNat 28 4
def tlIndex (c : Word32) : Nat := bitsOf c.toNat 16 8
def tlArg (c : Word32) : Nat := c.toNat % 65536

/-- A record of R582. -/
def State.tlRecord (sev code : Nat) (payload : List Byte) (s : State) : State := State.record3 26 sev code payload 0 s

/-- An event that finds the queue full. -/
def State.tlDrop (s : State) : State := { s with tiller.overflow := s.tiller.overflow + 1, tiller.lost := s.tiller.lost + 1 }

/-- Put an entry into the queue of 64. -/
def State.tlPush (e : KeyEvent) (s : State) : State :=
  if s.tiller.queue.length < 64 then { s with tiller.queue := s.tiller.queue ++ [e] } else s.tlDrop

/-- The OVERFLOW entry that precedes the next event once there is room. -/
def State.tlOverflow (s : State) : State :=
  if s.tiller.overflow = 0 ∨ 64 ≤ s.tiller.queue.length then s else
  let n := min s.tiller.overflow 65535
  let t := s.tlPush { code := tlCode 8 0 0 n, stamp := s.now }
  State.tlRecord 2 0x0003 (le 2 n) { t with tiller.overflow := 0 }

/-- Two entries are steps of one encoder in one direction, and the older has room for another (R577). -/
def mergeable (old : KeyEvent) (code : Word32) : Bool :=
  tlType old.code == 6 && tlType code == 6 && tlIndex old.code == tlIndex code &&
    (decide (sext 16 (tlArg old.code) < 0) == decide (sext 16 (tlArg code) < 0)) && decide ((sext 16 (tlArg old.code)).natAbs < 32767)

/-- Post an event (R577). -/
def State.tlPost (code : Word32) (stamp : Stamp) (s : State) : State :=
  match s.tiller.queue.getLast? with
  | some e =>
    if mergeable e code then
      let c := tlCode 6 0 (tlIndex code) (ofSigned 16 (sext 16 (tlArg e.code) + sext 16 (tlArg code)))
      let kept : KeyEvent := { code := c, stamp := e.stamp }
      { s with tiller.queue := s.tiller.queue.dropLast ++ [kept] }
    else (s.tlOverflow).tlPush { code := code, stamp := stamp }
  | none => (s.tlOverflow).tlPush { code := code, stamp := stamp }

/-! ### Keys (R572, R573, R575) -/

/-- Parts enabled: bit 0 matrix, 1 buttons, 2 encoders. -/
def State.tlEnabled (s : State) (n : Nat) : Bool := bitOf (s.cfgN Fid.TL_ENABLE) n

/-- Key k is not masked by the configuration (R571). -/
def State.keyThere (s : State) (k : Nat) : Bool := bitOf (s.cfgN Fid.TL_KEY_MASK (k / 32)) (k % 32)

/-- Keys of the matrix that are read. -/
def State.keys (s : State) : List Nat := (upTo 64).filter s.keyThere

/-- A key counts as pressed for the ghost test: accepted, and no ghost (R573). -/
def State.keyCounts (s : State) (k : Nat) : Bool := s.keyThere k && (s.tiller.keys.get k).pressed && !(s.tiller.keys.get k).ghost

/-- The rectangle that makes key k a ghost: a in its row, b in its column, c at their crossing (R573). -/
def State.rectangle (s : State) (k : Nat) : Option (List Nat) :=
  let r := k / 8
  let c := k % 8
  ((upTo 64).map (fun i => (r * 8 + i % 8, i / 8 * 8 + c, i / 8 * 8 + i % 8))).findSome? (fun x =>
    if x.1 % 8 != c && x.2.1 / 8 != r && s.keyCounts x.1 && s.keyCounts x.2.1 && s.keyCounts x.2.2 then some [x.1, x.2.1, x.2.2] else none)

/-- Change a key. -/
def State.updKey (k : Nat) (f : Key → Key) (s : State) : State := { s with tiller.keys := s.tiller.keys.upd k f }

/-- One more sample of a key, `closed` or open: how many in a row differ from its accepted state, and the stamp of the first
(R572). -/
def Key.sampled (x : Key) (closed : Bool) (now : Stamp) : Key :=
  if closed = x.pressed then { x with raw := closed, run := 0 }
  else { x with raw := closed, run := x.run + 1, first := if x.run = 0 then now else x.first }

/-- A key whose new state is accepted after so many samples (R572). -/
def State.keyDue (s : State) (k : Nat) : Bool := decide (s.cfgN Fid.TL_DEBOUNCE ≤ (s.tiller.keys.get k).run)

/-- INDEX and event types of a key or button (R577): keys are 0–63, buttons 64–67. -/
def keyIndex (k : Nat) : Nat := if k < 64 then k else k - 64
def pressCode (k flags : Nat) : Word32 := if k < 64 then tlCode 1 flags k 0 else tlCode 7 flags (k - 64) 1
def releaseCode (k : Nat) : Word32 := if k < 64 then tlCode 2 0 k 0 else tlCode 7 0 (k - 64) 0

/-- A release is accepted: RELEASE, or UNSTUCK for a masked key (R575); a ghost's own opening posts nothing. -/
def State.keyRelease (k : Nat) (s : State) : State :=
  let x := s.tiller.keys.get k
  let t := s.updKey k (fun y => { y with pressed := false, run := 0, masked := false })
  if x.ghost then t
  else if x.masked then
    let c := tlCode 5 0 (keyIndex k) 0
    State.tlRecord 1 0x0002 (le 4 c.toNat) (t.tlPost c x.first)
  else t.tlPost (releaseCode k) x.first

/-- A closure is accepted: PRESS, or GHOST while a rectangle makes it one (R573). -/
def State.keyPress (k : Nat) (s : State) : State :=
  let x := s.tiller.keys.get k
  if x.ghost then s.updKey k (fun y => { y with pressed := true, run := 0 }) else
  match (if k < 64 then s.rectangle k else none) with
  | some rect =>
    (s.updKey k (fun y => { y with pressed := true, run := 0, ghost := true, rect := rect, since := s.clock })).tlPost (tlCode 3 0 k 1) x.first
  | none => (s.updKey k (fun y => { y with pressed := true, run := 0, since := s.clock })).tlPost (pressCode k 0) x.first

/-- Ghosts one of whose rectangle has been released are resolved (R573); `x0` is the stamp of the key's sample. -/
def State.ghostResolve (released : List Nat) (x0 : Stamp) (k : Nat) (s : State) : State :=
  let x := s.tiller.keys.get k
  if !x.ghost || !x.rect.any released.contains then s else
  let t := s.updKey k (fun y => { y with ghost := false, rect := [], pressed := y.raw, run := 0, since := s.clock })
  if x.raw then t.tlPost (pressCode k 0) x0 else t.tlPost (tlCode 3 0 k 0) x0

/-- One scan's samples of some keys, each at its stamp, and what they make accepted: releases, then resolved ghosts, then closures,
each in ascending key number. -/
def State.scanKeys (ks closed : List Nat) (at_ : Nat → Stamp) (s : State) : State :=
  let t := State.each ks (fun k u => u.updKey k (fun x => x.sampled (closed.contains k) (at_ k))) s
  let rel := ks.filter (fun k => (t.tiller.keys.get k).pressed && t.keyDue k)
  let opened := rel.filter (fun k => !(t.tiller.keys.get k).ghost)
  let t1 := State.each rel State.keyRelease t
  let t2 := State.each ks (fun k => State.ghostResolve opened (at_ k) k) t1
  State.each (ks.filter (fun k => !(t.tiller.keys.get k).pressed && t.keyDue k)) State.keyPress t2

/-- The scan starts at the present clock. -/
def State.scanStarts (s : State) : State := { s with tiller.scanning := true, tiller.idleScans := 0, tiller.scanAt := s.clock }

/-- TILLER_ROW_FALL (R572): scanning starts. -/
def execTillerRowFall (a : At) (s : State) : Host.Outcome State Fault Refusal :=
  let t := s.advance a
  .next (if t.rdy Rdy.tiller && t.tlEnabled 0 && !t.tiller.scanning then t.scanStarts else t)

/-- The stamp of a key's sample in the scan that ends now: its column was read 125 µs per later column ago (R572). -/
def State.columnStamp (s : State) (k : Nat) : Stamp := s.now - BitVec.ofNat 64 (s.grainsIn ((7 - k % 8) * 125000000))

/-- TILLER_SCAN (R572): a scan of 1 ms ends; the keys that read closed. -/
def execTillerScan (a : At) (closed : List Nat) (s : State) : Host.Outcome State Fault Refusal :=
  let t := s.advance a
  .next (if t.rdy Rdy.tiller && t.tlEnabled 0 && t.tiller.scanning && decide (t.tiller.scanAt + 1000 ≤ t.clock) then
      let u := State.scanKeys t.keys closed t.columnStamp { t with tiller.scanAt := t.clock }
      let busy := u.keys.any (fun k => closed.contains k && !(u.tiller.keys.get k).masked)
      let n := if busy then 0 else u.tiller.idleScans + 1
      { u with tiller.idleScans := n % 16, tiller.scanning := decide (n < 16) }
    else t)

/-! ### Buttons and encoders (R572, R574) -/

/-- Place of a pair of lines in the Gray sequence in which A leads B (assumption 17); A is bit 0. -/
def grayPlace (ab : Nat) : Nat := match ab % 4 with
  | 0 => 0
  | 1 => 1
  | 3 => 2
  | _ => 3

/-- One sample of encoder `n` (R574); its first sample is where it stands. -/
def State.encoderSample (n ab : Nat) (s : State) : State :=
  let e := s.tiller.encoders.get n
  let d := (grayPlace ab + 4 - grayPlace (e.ab.getD ab)) % 4
  if d = 0 then { s with tiller.encoders := s.tiller.encoders.set n { e with ab := some ab } }
  else if d = 2 then
    { s with tiller.invalid := s.tiller.invalid + 1, tiller.encoders := s.tiller.encoders.set n { e with ab := some ab } }
  else
    let up := (d == 1) != (s.cfgN Fid.TL_ENC_INVERT n == 1)
    let p := e.p + (if up then 1 else -1)
    if p.natAbs < s.cfgN Fid.TL_ENC_CPD n then { s with tiller.encoders := s.tiller.encoders.set n { e with ab := some ab, p := p } }
    else
      let pos := if up then e.position + 1 else e.position - 1
      State.tlPost (tlCode 6 0 n (if up then 1 else 65535)) s.now
        { s with tiller.encoders := s.tiller.encoders.set n { ab := some ab, p := 0, position := pos } }

/-- The lines of encoder `n` among eight: A at bit 2n, B above it. -/
def encLines (lines n : Nat) : Nat := bitsOf lines (2 * n) 2

/-- A repeated measurement of Tiller is due: `us` whole microseconds have passed since the last. -/
def State.tlDue (s : State) (last : Option Nat) (us : Nat) : Bool := last.all (fun c => decide (c + us ≤ s.clock))

/-- TILLER_SAMPLE (R572), every 62.5 µs: buttons that read closed and the lines of the encoders. -/
def execTillerSample (a : At) (buttons lines : Nat) (s : State) : Host.Outcome State Fault Refusal :=
  let t := s.advance a
  .next (if !t.rdy Rdy.tiller || !t.tlDue t.tiller.sampleAt 62 then t else
    let t := { t with tiller.sampleAt := some t.clock }
    let u := if t.tlEnabled 1 then
        t.scanKeys [64, 65, 66, 67] (((upTo 4).filter (bitOf buttons)).map (· + 64)) (fun _ => t.now)
      else t
    if u.tlEnabled 2 then State.each (upTo 4) (fun n v => v.encoderSample n (encLines lines n)) u else u)

/-- STUCK (R575): a key or button that has stayed pressed for TL_STUCK_TIME. -/
def execStuck (a : At) (key : Nat) (s : State) : Host.Outcome State Fault Refusal :=
  let t := s.advance a
  let x := t.tiller.keys.get key
  .next (if t.rdy Rdy.tiller && decide (key < 68) && x.pressed && !x.ghost && !x.masked &&
        decide (t.cfgN Fid.TL_STUCK_TIME * 1000000 ≤ t.clock - x.since) then
      let c := tlCode 4 0 (keyIndex key) 0
      State.tlRecord 2 0x0001 (le 4 c.toNat) ((t.updKey key (fun y => { y with masked := true })).tlPost c t.now)
    else t)

/-- TILLER_MASKED_POLL (R576), once every 50 ms: the columns of masked keys are scanned; a closure of an unmasked key there starts scanning. -/
def execTillerMaskedPoll (a : At) (closed : List Nat) (s : State) : Host.Outcome State Fault Refusal :=
  let t := s.advance a
  let masked := t.keys.filter (fun k => (t.tiller.keys.get k).masked)
  let cols := masked.map (· % 8)
  .next (if t.rdy Rdy.tiller && t.tlEnabled 0 && !t.tiller.scanning && !masked.isEmpty && t.tlDue t.tiller.pollAt 50000 then
      let u := State.scanKeys masked (closed.filter (fun k => cols.contains (k % 8))) (fun _ => t.now) { t with tiller.pollAt := some t.clock }
      if t.keys.any (fun k => cols.contains (k % 8) && closed.contains k && !masked.contains k) then u.scanStarts else u
    else t)

/-- TILLER_INITIAL (R578): TILLER rises; the keys and buttons found pressed post their events, and every p is 0. -/
def execTillerInitial (a : At) (closed : List Nat) (buttons lines : Nat) (s : State) : Host.Outcome State Fault Refusal :=
  let t := s.advance a
  .next (if !t.rdy Rdy.services || t.rdy Rdy.tiller then t else
    let ks := if t.tlEnabled 0 then t.keys.filter closed.contains else []
    let bs := if t.tlEnabled 1 then ((upTo 4).filter (bitOf buttons)).map (· + 64) else []
    let encs := if t.tlEnabled 2 then
        (upTo 4).foldl (fun (e : Tbl Encoder) n => e.set n { ab := some (encLines lines n) }) ([] : Tbl Encoder)
      else []
    let u := (t.updateReady [Rdy.tiller] [])
    let v := { u with tiller.keys := [], tiller.encoders := encs, tiller.scanning := !ks.isEmpty, tiller.idleScans := 0, tiller.scanAt := u.clock }
    State.each (ks ++ bs) (fun k w =>
      (w.updKey k (fun x => { x with raw := true, pressed := true, since := w.clock })).tlPost (pressCode k 1) w.now) v)

/-- A commit: parts that are disabled and keys that are masked out are not read, and nothing of them stands (R571, R579;
assumption 162). -/
def State.tillerCommit (s : State) : State :=
  { s with
    tiller.keys := s.tiller.keys.filter (fun k => if k.1 < 64 then s.tlEnabled 0 && s.keyThere k.1 else s.tlEnabled 1)
    tiller.scanning := s.tiller.scanning && s.tlEnabled 0
    tiller.encoders := if s.tlEnabled 2 then s.tiller.encoders
      else s.tiller.encoders.updAll s.tiller.encoders.keys (fun _ e => { e with ab := none, p := 0 }) }

/-! ### Operations (R581) -/

/-- TILLER operations are off with every part disabled. -/
def tlOff (s : State) (_ : Req) : Bool := s.cfgN Fid.TL_ENABLE == 0

/-- TILLER_READ (R581). -/
def opTillerRead : OpDef :=
  { cls := 1, opcode := 0x0048, fns := [26], len := fun n => n == 4
    content := fun _ r => r.target == 0 && decide (1 ≤ fieldAt r.payload 0 1) && decide (fieldAt r.payload 0 1 ≤ 63) && allZero (r.payload.drop 1)
    off := tlOff
    body := fun r s =>
      let n := fieldAt r.payload 0 1
      let es := s.tiller.queue.take n
      State.ok { s with tiller.queue := s.tiller.queue.drop n }
        (le 1 es.length ++ le 3 0 ++ le 4 s.tiller.lost.toNat ++ es.flatMap (fun e => le 4 e.code.toNat ++ le 8 e.stamp.toNat)) }

/-- TILLER_READ. -/
def execTillerRead (a : At) (r : Req) (s : State) : Host.Outcome State Fault Refusal := .next (serve opTillerRead r (s.advance a))

/-- A mask over some keys. -/
def State.keyMask (s : State) (from_ n : Nat) (f : Key → Bool) : Nat := maskOf ((upTo n).map (fun i => f (s.tiller.keys.get (from_ + i))))

/-- TILLER_STATE (R581). -/
def opTillerState : OpDef :=
  { cls := 1, opcode := 0x0049, fns := [26], len := fun n => n == 0, content := fun _ r => r.target == 0
    off := tlOff
    body := fun _ s =>
      let down := fun (x : Key) => x.pressed && !x.ghost
      let stuck := fun (x : Key) => x.masked
      s.ok (le 8 (s.keyMask 0 64 down) ++ le 8 (s.keyMask 0 64 stuck) ++ le 1 (s.keyMask 64 4 down) ++ le 1 (s.keyMask 64 4 stuck) ++ le 2 0 ++
        le 4 s.tiller.invalid.toNat ++ (upTo 4).flatMap (fun n => le 2 (s.tiller.encoders.get n).position.toNat) ++ le 4 0) }

/-- TILLER_STATE. -/
def execTillerState (a : At) (r : Req) (s : State) : Host.Outcome State Fault Refusal := .next (serve opTillerState r (s.advance a))

end Sys2Proof.Machine
end

