-- ==== Sys2Proof/Machine/Effect.lean ====
section
/-! DEFINITION. Machine/Effect.lean: instant E of a commit or of the start-up selection (R422, R424, R426): what each function takes
from the changed fields. -/

namespace Sys2Proof.Machine

/-! ### What has changed -/

/-- Fields and INDEX values whose applied value differs between two configurations (R426). -/
def Cfg.diff (a b : Cfg) : List (Nat × Nat) :=
  let ks := dedup (sortBy (fun x y => decide (x < y)) (a.values.keys ++ b.values.keys))
  (ks.filter (fun k => a.raw (k / 65536) (k % 65536) != b.raw (k / 65536) (k % 65536))).map (fun k => (k / 65536, k % 65536))

/-- A changed field of a zone in one of these groups. -/
def touchesZone (groups : List Nat) (z : Nat) (ds : List (Nat × Nat)) : Bool :=
  ds.any (fun d => groups.contains (d.1 / 256) && fieldZone d.1 d.2 == some z)

/-- Descriptors of a zone's signals and references. -/
def State.zoneDescs (s : State) (z : Nat) : List Nat :=
  [Fid.Y_SOURCE, Fid.U_DEST0, Fid.U_DEST1, Fid.D_SOURCE, Fid.R_BASE, Fid.R_FALLBACK, Fid.R_ADJUST].flatMap (fun f =>
    (upTo 4).map (fun k => s.cfgN f (sigIdx z k)))

/-- A commit changes a field of the zone, or a scaler that one of its descriptors names (R617). -/
def State.zoneTouched (s : State) (z : Nat) (ds : List (Nat × Nat)) : Bool :=
  touchesZone [5] z ds ||
  ds.any (fun d => (d.1 == Fid.SCALER_GAIN || d.1 == Fid.SCALER_OFFSET) && (s.zoneDescs z).any (fun x => descScaler x == d.2))

/-- The dimensions of a zone differ. -/
def State.dimsDiffer (old s : State) (z : Nat) : Bool :=
  [Fid.ZONE_NX, Fid.ZONE_NU, Fid.ZONE_NY, Fid.ZONE_ND].any (fun f => old.cfgN f z != s.cfgN f z)

/-! ### Zones, loops and banks (R104, R123, R207, R617) -/

/-- A commit changes the source of a captured signal, or a scaler that it names. -/
def State.sourceTouched (s : State) (c : Nat) (ds : List (Nat × Nat)) : Bool :=
  let f := if c / 16 % 16 = 0 then Fid.Y_SOURCE else Fid.D_SOURCE
  c / 16 % 16 != 1 && ds.any (fun d => d == (f, sigIdx (c / 256) (c % 16)) ||
    ((d.1 == Fid.SCALER_GAIN || d.1 == Fid.SCALER_OFFSET) && descScaler (s.capturedSource c) == d.2))

/-- Running soundings that a commit ends (R207). -/
def State.commitSoundings (old : State) (ds : List (Nat × Nat)) (s : State) : State :=
  let gone := (old.snd.zones.filter (fun x => x.2.runs)).filter (fun x =>
    !s.present x.1 || touchesZone [5, 7] x.1 ds || s.zoneTouched x.1 ds ||
    (Snd.channels x.2.request).any (fun c => s.sourceTouched c.2 ds))
  State.each (gone.map (fun x => x.1)) (State.sndAbort 5) s

/-- A zone block is cleared in both banks; the zone starts anew (R123, R143). DESIGN CHOICE: a sample staged before the commit is applied at
its apply angle all the same (assumption 155). -/
def State.clearBlock (z : Nat) (s : State) : State :=
  let t := { s with helm := s.helm.bothBanks (fun b => b.clearWords 0 z 0 672) }
  if t.present z then t.warmUp z else t

/-- A zone that becomes absent loses its mode, its HOST values and its priority arrays (R99, R104). -/
def State.zoneGoes (z : Nat) (s : State) : State :=
  (({ s with zones := s.zones.set z {}, zio := s.zio.set z {} } : State).forget 0x0003 z).forget 0x0004 z

/-- A zone that becomes present takes ZONE_MODE (R104). -/
def State.zoneComes (z : Nat) (s : State) : State :=
  { s with
    zio := s.zio.set z {}
    zones := s.zones.set z { mode := (ZMode.ofCode (s.cfgN Fid.ZONE_MODE z)).getD .holdSafe } }

/-- One zone at a commit. -/
def State.commitZone (old : State) (ds : List (Nat × Nat)) (z : Nat) (s : State) : State :=
  let t := if old.present z && !s.present z then (s.zoneGoes z).clearBlock z
    else if !old.present z && s.present z then (s.zoneComes z).clearBlock z
    else if s.present z && s.dimsDiffer old z then s.clearBlock z else s
  let links := (upTo 6).filter (fun j => t.present z &&
    (old.cfgN Fid.NB_ZONE (sigIdx z j) != t.cfgN Fid.NB_ZONE (sigIdx z j) || old.linkNx z j != t.linkNx z j))
  let t1 := State.each links (fun j u => { u with helm := u.helm.bothBanks (fun b => b.clearWords 0 z (Zw.g j) 64) }) t
  if t1.zoneTouched z ds then
    { t1 with zio := t1.zio.upd z (fun o => { o with held := [], previous := [], lastD := [] }) }
  else t1

/-- One fast loop at a commit (R123). -/
def State.commitLoop (old : State) (n : Nat) (s : State) : State :=
  if old.cfgN Fid.FL_ENABLE n = s.cfgN Fid.FL_ENABLE n ∧ old.cfgN Fid.FL_ORDER n = s.cfgN Fid.FL_ORDER n then s else
  let t := { s with
    helm := { s.helm.bothBanks (fun b => b.clearWords 1 n 0 64) with loops := s.helm.loops.set n {} } }
  if t.cfgN Fid.FL_ENABLE n = 1 then t.warmLoop n else t

/-- Zones and loops at a commit; `old` stands before it. -/
def State.commitHelm (old : State) (ds : List (Nat × Nat)) (s : State) : State :=
  let zs := dedup (sortBy (fun a b => decide (a < b)) (old.zonesPresent ++ s.zonesPresent))
  let ls := dedup (sortBy (fun a b => decide (a < b)) (old.loopsOn ++ s.loopsOn))
  State.each ls (State.commitLoop old) (State.each zs (State.commitZone old ds) (State.commitSoundings old ds s))

/-! ### Outputs and field groups (R266, R275, R278) -/

/-- An analogue output takes its role and AO_SAFE; one that a commit sets to role 01h drives AO_SAFE (R277). -/
def State.commitAo (n : Nat) (s : State) : State :=
  let on := s.cfgN Fid.AO_ROLE n == 1
  let o := s.out.ao.get n
  let t := { s with out.ao := s.out.ao.upd n (fun x => { x with safeCode := codeOfMv (s.cfgN Fid.AO_SAFE n) }) }
  if on && !o.role then
    let u := { t with out.ao := t.out.ao.upd n (fun x => { x with role := true }) }
    if o.held then u else u.aoToSafe n
  else if !on && o.role then
    { t with out.ao := t.out.ao.upd n (fun x => { x with role := false, code := 0, value := 0, safe := false, owned1 := false, guard := false, forced := false, held := false, force := none, limit := false, mismatch := false }) }
  else t

/-- An angle output takes its mode and AGO_INVERT (R280, R284, R286): a mode other than OFF is entered with the pin inactive, driven where
AGO is ready and no peer holds the outputs; AGO_INVERT alone swaps the level. -/
def State.commitAgo (n : Nat) (s : State) : State :=
  let m := s.cfgN Fid.AGO_MODE n
  let inv := s.cfgN Fid.AGO_INVERT n == 1
  let o := s.out.ago.get n
  let active := xor o.pin o.invert
  if o.mode = m then
    State.agoPin n active { s with out.ago := s.out.ago.upd n (fun o => { o with invert := inv }) }
  else
    let drives := decide (1 ≤ m) && s.rdy Rdy.ago && !s.peerHolds
    let o1 : Ago :=
      { mode := m, edges := o.edges, watchdog := o.watchdog, pin := if o.highZ then inv else o.pin, highZ := !drives
        safe := o.safe && !drives, invert := inv, stopped := o.stopped }
    State.agoPin n false { s with out.ago := s.out.ago.set n o1 }

/-- Groups whose fields changed get a new parameter block; every group does at the start (R266). -/
def State.commitGroups (ds : List (Nat × Nat)) (all : Bool) (s : State) : State :=
  { s with fld.groups := s.fld.groups.updAll (upTo 4) (fun g o =>
      if all || ds.any (fun d => d.1 / 256 == 2 && (if d.1 < Fid.FG_BARRIER_TIMEOUT then d.2 / 8 == g else d.2 == g)) then
        { o with paramsPending := true }
      else o) }

/-! ### Event slots (R67, R68, R154, R614) -/

/-- The floor apply angle within a half turn. -/
def State.applyAngle (s : State) : Nat := (s.cfgN Fid.HELM_SAMPLE_ANGLE + s.cfgN Fid.HELM_APPLY_DELAY) % halfTurn

/-- The apply angle of a fast loop within its period. -/
def State.loopApplyAngle (s : State) (n : Nat) : Nat :=
  (s.cfgN Fid.FL_ANGLE n + s.cfgN Fid.FL_APPLY_DELAY n) % 2 ^ (20 - s.cfgN Fid.FL_DIV n)

/-- The latch of an enabled fast loop bound to an AO or a FIELD channel: action and TARGET. -/
def State.loopLatch (s : State) (n : Nat) : Option (Nat × Nat) :=
  let d := s.cfgN Fid.FL_DEST n
  if descKind d = Dest.ao then some (4, 2 ^ descIndex d)
  else if descKind d = Dest.field then some (5, 2 ^ (descIndex d / 8))
  else none

/-- The words that the configuration gives to slots (R614): slot number and words. -/
def State.cfgSlots (s : State) : List (Nat × SlotWords) :=
  let sa := s.applyAngle
  let loops := s.loopsOn
  let pairs := (loops.zipIdx).flatMap (fun x =>
    let base := if x.2 < 7 then 2 + 2 * x.2 else 64 + 2 * (x.2 - 7)
    let div := s.cfgN Fid.FL_DIV x.1
    [(base, slotWords 1 7 div (s.cfgN Fid.FL_ANGLE x.1) 0 x.1), (base + 1, slotWords 1 8 div (s.loopApplyAngle x.1) 0 x.1)])
  let pool := 64 + 2 * (loops.length - 7)
  let latches := ((loops.filterMap (fun n => (s.loopLatch n).map (fun l => (n, l)))).zipIdx).map (fun x =>
    (if x.2 < 14 then 34 + x.2 else pool + (x.2 - 14),
     slotWords 1 x.1.2.1 (s.cfgN Fid.FL_DIV x.1.1) (s.loopApplyAngle x.1.1) x.1.2.2 0))
  let aos := maskOf ((upTo 8).map (fun n => s.cfgN Fid.AO_ROLE n == 1))
  let chart := match s.cfgN Fid.CH_MODE with
    | 1 => [(49, slotWords 1 10 4 0 0 0)]
    | 2 => [(49, slotWords 0 10 0 0 0 0 1)]
    | _ => []
  [(0, slotWords 1 7 1 (s.cfgN Fid.HELM_SAMPLE_ANGLE) 0 0), (1, slotWords 1 8 1 sa 0 0)] ++ pairs ++
    (if aos = 0 then [] else [(32, slotWords 1 4 1 sa aos 0)]) ++ [(33, slotWords 1 5 1 sa 15 0)] ++ latches ++
    (if s.cfgN Fid.PAIR_ENABLE = 1 then [(48, slotWords 1 11 1 sa 0 0)] else []) ++ chart

/-- The configuration takes a slot; a host's entry there is disabled and reported (R68). -/
def State.takeSlot (n : Nat) (w : SlotWords) (s : State) : State :=
  let e := s.mer.slots.get n
  if e.owner = .config ∧ e.held.getD e.words = w then s else
  if e.owner = .host ∨ e.heldByHost = true then
    let former := if e.owner = .host then e.words else e.held.getD {}
    State.record 4 2 0x0008 (le 2 n ++ le 4 former.control.toNat) true n
      { s with mer.slots := s.mer.slots.set n { owner := .config, held := some w } }
  else { s with mer.slots := s.mer.slots.upd n (fun e => { e with owner := .config, held := some w }) }

/-- Slots at a commit: changed contents are held until the next turn boundary (R69). -/
def State.commitSlots (s : State) : State :=
  let want := s.cfgSlots
  let gone := (s.mer.slots.filter (fun p => p.2.owner == .config && !(want.any (fun w => w.1 == p.1)))).map (fun p => p.1)
  State.each want (fun w t => t.takeSlot w.1 w.2)
    { s with mer.slots := s.mer.slots.updAll gone (fun _ e => { e with held := some {} }) }

/-! ### Services -/

/-- The objects with their names, but for the Device. -/
def State.namedObjects (s : State) : List (Nat × Option (List Byte)) :=
  s.objectIds.tail.map (fun id => (id, (s.objOf id).map (s.nameOf id)))

/-- Objects at a commit (R339, R341, R342, R369): `lost` counts zones and point objects that found no place. A commit that changes
SVC_UTC_OFFSET ends what a write has set. -/
def State.commitObjects (old : State) (ds : List (Nat × Nat)) (start : Bool) (lost : Nat × Nat) (s : State) : State :=
  let t := { s with svc.pool := s.allocate.ids }
  let changed := t.namedObjects != old.namedObjects || ds.any (fun d => d.1 == Fid.SVC_DEVICE_INSTANCE)
  let t1 := { t with svc := { t.svc with
    databaseRevision := if changed then t.svc.databaseRevision + 1 else t.svc.databaseRevision
    trends := t.svc.trends.updAll (t.svc.trends.keys.filter (fun n => t.cfgN Fid.TL_LOG_ENABLE n != 1)) (fun _ _ => {}) } }
  let t2 := if !start && ds.any (fun d => d.1 == Fid.SVC_UTC_OFFSET) then
      ({ t1 with svc.utcOffset := none } : State).dropProp (t1.ident (objId 8 4194303)) Prop_.utcOffset
    else t1
  if lost = (0, 0) then t2 else t2.record 16 3 0x0202 (le 2 lost.1 ++ le 2 lost.2) true 0

/-- READY bits of functions that a commit disables or enables (R531). -/
def State.commitReady (s : State) : State :=
  let off := (if s.cfgN Fid.WP_ENABLE = 1 then [] else [Rdy.waypoint]) ++ (if s.cfgN Fid.SND_ENABLE = 1 then [] else [Rdy.sounding])
  let t := if (off.filter s.rdy).isEmpty then s else s.lower off
  if t.cfgN Fid.SND_ENABLE = 1 && t.rdy Rdy.helm && t.rdy Rdy.services && !t.rdy Rdy.sounding then t.updateReady [Rdy.sounding] []
  else t

/-- Membership of a pair at a commit (R500); a new generation on the active clears CURRENT on the standby (R504). -/
def State.commitPair (old s : State) : State :=
  if s.cfgN Fid.PAIR_ENABLE != 1 then
    (if s.pair.role = .none then s else ({ s with pair := { s.pair with role := .none, withdrawn := false, current := false, bulk := false } } : State).refreshMirror)
  else if old.cfgN Fid.PAIR_ENABLE != 1 && s.rdy Rdy.services then s.pairServicesRise
  else ({ s with pair.current := false, pair.bulk := false } : State).refreshMirror

/-! ### ECONOMY (R536) -/

/-- A LOW_POWER record (R542): 1 ECONOMY, 2 SLEEP, 0 left. -/
def State.lowPower (what : Nat) (s : State) : State := s.record3 0 2 0x0013 (le 1 what) 0

/-- ECONOMY is entered and left with BACKUP and with PWR_BACKUP_MODE: the planner stops, the panel blanks and the e-paper pump
stops (R536, R568). -/
def State.refreshEconomy (s : State) : State :=
  let want := s.sup.state == .backup && s.cfgN Fid.PWR_BACKUP_MODE == 1
  if want == s.sup.economy then s
  else if want then
    let t := ((s.discardPlan 3).chartInterrupt).lower [Rdy.waypoint]
    ({ t with sup.economy := true } : State).lowPower 1
  else ({ s with sup.economy := false, plan.replan := true } : State).lowPower 0

/-! ### Instant E -/

/-- What every function takes at E; `old` stands before it. -/
def State.effects (old : State) (start : Bool) (lost : Nat × Nat) (s : State) : State :=
  let ds := old.cfg.diff s.cfg
  let hz := start || ds.any (fun d => d.1 == Fid.NOMINAL_HZ)
  let t := ({ s with mer.nominalDue := s.mer.nominalDue || hz } : State).moveOffset (s.cfgI Fid.ZERO_OFFSET) s.mer.pairOffset
  let t1 := if start then (State.each t.zonesPresent State.restoreZone t).loadProfiles else State.commitHelm old ds t
  let t2 := State.each (upTo 8) (fun n u => (u.commitAo n).commitAgo n) t1 |>.agoStopsAnew
  let t3 := (t2.commitGroups ds start).uiCommit.commitSlots
  let t4 := if start then t3 else State.chartCommit old (State.occCommit old (State.planCommit old t3.tillerCommit))
  let first := !old.rdy Rdy.config
  let t5 := State.busCommit old ((if start then t4 else State.policyCommit old t4).when first State.restorePartners)
  let t6 := (State.commitObjects old ds start lost t5).when (first && t5.rdy Rdy.services) State.startTrends
  State.commitPair old t6.commitReady.refreshPorts.refreshEconomy

/-- COMMITTED (R434). -/
def State.committedRecord (p : PendingCommit) (s : State) : State :=
  let x := s.cfg.set p.set
  State.record 28 1 0x0001 (le 1 p.set ++ le 4 x.generation ++ le 4 (fieldAt (s.image p.set 32) 8 4) ++
    le 2 (min 65535 p.report.length) ++ le 1 (worstSeverity p.report) ++ le 1 (bit p.atStart)) false p.set s

/-- The request that a held STORE operation was. -/
def Interim.req (i : Interim) : Req :=
  { session := i.session, tag := i.tag, fn := i.fn, seq := i.seq, target := i.target, payload := i.payload }

/-- The body of a STORE operation by its opcode. -/
def storeBody (opcode : Nat) : Req → State → State × Option Resp :=
  match opcode with
  | 1 => opCfgInfo.body
  | 2 => opCfgBegin.body
  | 3 => opCfgWrite.body
  | 4 => opCfgCommit.body
  | 5 => opCfgRead.body
  | 6 => opClampRead.body
  | _ => opSheafRead.body

/-- STORE requests that waited for E run in order of acceptance (R422). -/
def State.runHeld (s : State) : State :=
  State.each s.cfg.held (fun i t =>
    if !t.inFlight i.session i.tag then t else
    match storeBody i.opcode i.req t with
    | (u, none) => u
    | (u, some x) => u.finish i.session i.tag x) { s with cfg.held := [] }

/-- Instant E (R422 steps 4 and 5; R424). -/
def State.cfgEffect (s : State) : State :=
  match s.cfg.pending with
  | none => s
  | some p =>
    let x := s.cfg.set p.set
    let ev := evaluate (s.image p.set x.size) x.size s.expertKey
    let was := (upTo 4).filter (fun n => (s.cfg.set n).state == .active)
    let t := State.each was (fun n u => u.cfgSet n (fun c => { c with state := .valid })) s
    let u := State.cfgSet p.set (fun c => { c with state := .active })
      { t with cfg := { t.cfg with values := p.values, report := p.report, generation := x.generation, pending := none } }
    let v := (State.effects s p.atStart (ev.zonesOut, ev.pointsOut) (u.committedRecord p))
    let w := if v.rdy Rdy.config then v else v.updateReady [Rdy.config] []
    let y := match p.waiter with
      | some (n, tag) =>
        let st := if p.report.isEmpty then Status.done else .doneClamped
        State.finish n tag { status := st, payload := le 4 x.generation ++ le 2 (min 65535 p.report.length) ++ le 2 0, stamp := w.now } w
      | none => w
    y.runHeld

/-- CFG_EFFECT (R426): at the first turn boundary after the evaluation. At start-up the selected set takes effect as CONFIG rises; a
commit whose server has gone takes effect when it returns (R423). -/
def execCfgEffect (a : At) (s : State) : Host.Outcome State Fault Refusal :=
  let t := s.advance a
  .next (match t.cfg.pending with
    | some p => if t.grain = 0 ∧ (p.atStart = true ∨ t.rdy Rdy.services = true ∨ !t.rdy Rdy.config = true) then t.cfgEffect else t
    | none => t)

end Sys2Proof.Machine
end

