-- ==== Sys2Proof/Machine/Life.lean ====
section
/-! DEFINITION. Machine/Life.lean: module resets and starts (R34, R35, R526–R530, R613) and the life of the service firmware
(R388, R473–R476, R535). -/

namespace Sys2Proof.Machine

/-! ### SERVICES clears (R134, R207, R330, R386, R388, R423, R475) -/

/-- What the SC0 server answered ACCEPTED or DEFERRED is discarded; its COMPLETED entries wait for the server (R386, R388). A mode
write that waits is one of these. -/
def State.parkInterims (s : State) : State :=
  let gone := s.mb.interims.filter (fun i => !binnacleSide i.session)
  let modes := (gone.filter (fun i => i.cls == 1 && i.opcode == 4)).map (fun i => i.target)
  let zones := s.zones.updAll modes (fun _ o => { o with deferredMode := none, nextMode := none })
  { s with
    mb.interims := s.mb.interims.filter (fun i => binnacleSide i.session)
    mb.discarded := s.mb.discarded ++ gone
    zones := zones }

/-- Zones whose sounding is in one of these states. -/
def State.sndIn (s : State) (xs : List SndState) : List Nat :=
  (s.snd.zones.filter (fun x => xs.contains x.2.state)).map (fun x => x.1)

/-- Cause SERVICES of R207: fits and pending starts end now, a running sounding at the next floor sample angle; a deferred start
is discarded. -/
def State.soundingsStop (s : State) : State :=
  let t := State.each (s.snd.all.filter (fun x => [SndState.pending, .fitting].contains x.2.state)) (fun x => State.sndEnd 6 x.1 x.2) s
  let zs := t.snd.zones.updAll (t.sndIn [.settle, .capture]) (fun _ o => { o with cause := 6 })
  let ws := zs.updAll ((zs.filter (fun x => x.2.deferredReq.isSome)).map (fun x => x.1)) (fun _ o => { o with deferredReq := none })
  { t with snd.zones := ws }

/-- Nobody waits any longer for a calibration on demand (R386). -/
def State.dropWaiters (s : State) : State :=
  let cores := s.inp.cores.updAll s.inp.cores.keys (fun _ c => { c with waiter := none, byInterim := false, waiting := [] })
  { s with inp.cores := cores, tiller.scanning := false, pair.handover := none }

/-- SC0–SC3 stop: SERVICES clears with every function that requires it (R33, R474). -/
def State.servicesDown (s : State) : State :=
  let t := s.parkInterims.soundingsStop.dropBankQueue.busStops.i2cStops.chartDown.cfgDown
  ((t.discardPlan 3).dropWaiters).lower [Rdy.services]

/-! ### The server starts (R388) -/

/-- Post complete responses of the SC0 sessions while there is room: at most `fuel` rounds. -/
def State.postServer : Nat → State → State
  | 0, s => s
  | fuel + 1, s => State.postServer fuel (State.each (1 :: s.tr.udp.map (fun u => u.id)) State.postNext s)

/-- Tags in flight at the SC0 server without a response, in ascending TAG order. -/
def State.unanswered (s : State) : List Flight :=
  sortBy (fun a b => decide (a.tag < b.tag)) (s.mb.flights.filter (fun f => !binnacleSide f.session && f.resp.isNone))

/-- Complete responses of the SC0 server not yet posted. -/
def State.unposted (s : State) : Nat := (s.mb.flights.filter (fun f => !binnacleSide f.session && f.resp.isSome)).length

/-- The steps of R388. Responses that find no room stay first in line. -/
def State.serverStart (s : State) : State :=
  let kept := s.unposted
  let lost := s.unanswered
  let t1 := s.postServer s.mb.flights.length
  let t2 := (State.each lost (fun f t => t.finish f.session f.tag (t.resp .abortedByReset)) t1).postServer s.mb.flights.length
  let t3 := State.each t2.mb.discarded (fun i t => t.postEvent (completedEntry i .discarded 0x30 [] t.now)) t2
  let t4 := State.irq Irq.serverStart { t3 with
    mb.discarded := [], mb.qspi := {}, tr.udp := [], mb.waiting := t3.mb.waiting.filter (fun w => decide (w.1 < 16))
    mb.flights := t3.mb.flights.filter (fun f => decide (f.session < 16))
    mb.serverStarts := t3.mb.serverStarts + 1 }
  let n := t4.mb.serverStarts.toNat
  let t5 := t4.postEvent { source := 16, severity := 1, code := 0xF003, stamp := t4.now, payload := le 2 n ++ le 2 lost.length }
  t5.record 16 1 0x0301 (le 2 n ++ le 2 kept ++ le 2 lost.length) false 0

/-- What the services do at their first start after a module reset: the object store, the VMAC and the trend logs (R313,
R350, R355). -/
def State.firstServices (s : State) : State :=
  let vmac := match s.nv.load 6 0 with
    | some p => leNat (p.take 6)
    | none => (Config.randomVmac s.free).toNat
  let t := ({ s with bus.vmac := some vmac } : State).freeNext.loadStore
  (t.when (s.nv.load 6 0).isNone (fun u => u.save { typ := 6, key := 0, payload := le 6 vmac })).startTrends

/-- The functions of SERVICES begin (R318, R353, R501, R532, R558). -/
def State.servicesBegin (s : State) : State :=
  let t := (s.updateReady [Rdy.i2c, Rdy.chart] []).commitReady
  let u := (State.refreshPorts { t with bus.whoIsTurn := t.turn }).scheduleRun true
  let v := ({ u with plan.replan := true } : State).chartRises
  v.pairServicesRise

/-- SERVICES rises (R68, R388, R475, R532). -/
def State.servicesRise (s : State) : State :=
  let first := s.mb.serverStarts == 0
  let t := (s.updateReady [Rdy.services] []).clearHostSlots.serverStart
  let u := { t with bin.svc := SvcRun.running, bin.since := t.clock, bin.servicesSince := t.turn, bin.deliberate := false }
  let v := u.when u.bin.autopilot (fun w =>
    (State.record3 0 5 0x0006 (le 1 0 ++ le 1 (bit (w.rdy Rdy.helm))) 0 { w with bin.autopilot := false }).saveBinnacle)
  (v.when first State.firstServices).servicesBegin

/-- SERVICES_RISES (R532): the image started completes its start. -/
def execServicesRises (a : At) (s : State) : Host.Outcome State Fault Refusal :=
  let t := s.advance a
  .next (if t.bin.svc = .starting && t.rdy Rdy.nvstore && !t.rdy Rdy.services then t.servicesRise else t)

/-! ### Starting and supervising the service image (R473, R474, R486) -/

/-- The slot of an image (0 service, 1 Binnacle: slots 2 and 3) in some state, if there is one. -/
def Binnacle.find (b : Binnacle) (isBin : Bool) (x : SlotState) : Option Nat :=
  (if isBin then [2, 3] else [0, 1]).find? (fun i => b.slot i == x)

/-- The slot that runs or is started: the one on trial, else the ACTIVE one (R474, R486). -/
def Binnacle.running (b : Binnacle) (isBin : Bool) : Nat :=
  ((b.find isBin .trial).or (b.find isBin .active)).getD (if isBin then 2 else 0)

/-- A trial ends badly (R486): the slot is REJECTED and the former ACTIVE slot stays ACTIVE. -/
def State.trialFails (isBin : Bool) (s : State) : State :=
  match s.bin.find isBin .trial with
  | some i =>
    let b := s.bin.setSlot i .rejected
    State.updateRecord isBin (i % 2) 6 (b.version i) { s with bin := { b with trialBin := none } }
  | none => s

/-- The image in the ACTIVE slot failed verification: the PREVIOUS slot takes its place when there is one (R474, R484). -/
def Binnacle.verifyFails (b : Binnacle) : Binnacle :=
  match b.find false .active, b.find false .previous with
  | some i, some j => (b.setSlot i .rejected).setSlot j .active
  | _, _ => b

/-- The image in the ACTIVE service slot fails its verification at a start (R474, R487). -/
def State.activeRejected (s : State) : State :=
  match s.bin.find false .active, s.bin.find false .previous with
  | some i, some _ => State.updateRecord false i 3 (s.bin.version i) { s with bin := s.bin.verifyFails }
  | _, _ => s

/-- A service-firmware failure (R473–R475). `core` is 255 where no core is named. -/
def State.serviceFailure (cause core : Nat) (s : State) : State :=
  let slot := s.bin.running false
  let t := s.servicesDown.count 5 1
  let n := min 3 (t.bin.failures + 1)
  let t1 := State.record3 0 4 0x0005 (le 1 cause ++ le 1 slot ++ le 1 n ++ le 1 core) 0
    { t with bin.failures := n, bin.svc := SvcRun.paused, bin.since := t.clock, bin.deliberate := false, svc.restartReason := 5 }
  let t2 := if (s.bin.find false .trial).isSome then t1.trialFails false
    else if cause = 4 then t1.activeRejected else t1
  let t3 := if n < 3 || t2.bin.autopilot then t2
    else State.record3 0 5 0x0006 (le 1 1 ++ le 1 (bit (t2.rdy Rdy.helm))) 0 { t2 with bin.autopilot := true }
  ({ t3 with bin.svc := if n < 3 then SvcRun.paused else SvcRun.stopped } : State).saveBinnacle

/-- SC0–SC3 run or are being started. -/
def State.svcOn (s : State) : Bool := s.bin.svc == .running || s.bin.svc == .starting

/-- SERVICE_HEARTBEAT_TIMEOUT (R473). -/
def execServiceHeartbeatTimeout (a : At) (core : Nat) (s : State) : Host.Outcome State Fault Refusal :=
  let t := s.advance a
  .next (if t.svcOn && t.rdy Rdy.binnacle && decide (core < 4) then t.serviceFailure 1 core else t)

/-- SERVICE_START_TIMEOUT (R473): SERVICES has not risen within 2 s. -/
def execServiceStartTimeout (a : At) (s : State) : Host.Outcome State Fault Refusal :=
  let t := s.advance a
  .next (if t.bin.svc = .starting && t.rdy Rdy.binnacle && decide (t.bin.since + 2000000 ≤ t.clock) then t.serviceFailure 2 255 else t)

/-- SERVICE_FAULT_REPORT (R473). -/
def execServiceFaultReport (a : At) (core : Nat) (s : State) : Host.Outcome State Fault Refusal :=
  let t := s.advance a
  .next (if t.svcOn && t.rdy Rdy.binnacle then t.serviceFailure 3 (if core < 4 then core else 255) else t)

/-- Whether Binnacle starts the service image now (R473–R476): 100 ms after a failure, at once after a deliberate restart, not in
autopilot. -/
def State.mayStart (s : State) : Bool :=
  s.rdy Rdy.nvstore && decide (s.bin.failures < 3) &&
    (s.bin.svc == .stopped || (s.bin.svc == .paused && (s.bin.deliberate || decide (s.bin.since + 100000 ≤ s.clock))))

/-- The image starts with the sequencer's program it carries, and a trial begins (R24, R486, R487). -/
def State.imageStarts (s : State) : State :=
  let i := s.bin.running false
  let v := s.bin.version i
  let t := { s with bin.svc := SvcRun.starting, bin.since := s.clock, helm.program := true }
  let u := t.record 0 1 0x0007 (le 1 i ++ le 4 v) false 0
  if s.bin.slot i = .trial then
    State.updateRecord false i 4 v { u with bin.trialSince := s.clock, bin.trialBin := none }
  else u

/-- FAILURE_COUNT_RESET (R474): SERVICES has stayed set for 16 384 turns. -/
def execFailureCountReset (a : At) (s : State) : Host.Outcome State Fault Refusal :=
  let t := s.advance a
  .next (if t.rdy Rdy.services && decide (t.bin.servicesSince + 16384 ≤ t.turn) && t.bin.failures != 0 then
      ({ t with bin.failures := 0 } : State).saveBinnacle
    else t)

/-- First address of a firmware slot (R27). -/
def imageBase (i : Nat) : Nat := if i = 0 then 0 else if i = 1 then 0x280000 else if i = 2 then 0x500000 else 0x520000

/-- Largest image of a kind (R483). -/
def imageMax (isBin : Bool) : Nat := if isBin then 131072 else 2621440

/-- The checks of R483 but the signature: MAGIC, KIND, SIZE and, for a service image, MIN_BINNACLE. -/
def State.headerFits (s : State) (i : Nat) : Bool :=
  let h := s.nv.mem.readBytes (imageBase i) 16
  let isBin := decide (2 ≤ i)
  fieldAt h 0 2 == 0x4958 && fieldAt h 2 1 == bit isBin && decide (128 ≤ fieldAt h 8 4) && decide (fieldAt h 8 4 ≤ imageMax isBin) &&
    decide (fieldAt h 3 1 ≤ 3) && (isBin || decide (fieldAt h 12 4 ≤ s.bin.version (s.bin.running true)))

/-- SERVICE_RESTART (R474): the image verifies under R483 and starts, or fails with cause VERIFY; `verifies` is the outcome of its
signature. -/
def execServiceRestart (a : At) (verifies : Bool) (s : State) : Host.Outcome State Fault Refusal :=
  let t := s.advance a
  .next (if !t.mayStart then t else if verifies && t.headerFits (t.bin.running false) then t.imageStarts else t.serviceFailure 4 255)

/-- The sequencer has its program (R24): from the service image that was started, or in autopilot from the ACTIVE service image, which
Binnacle verified at its start (R475). -/
def State.helmProgram (s : State) : Bool :=
  s.helm.program || (s.bin.autopilot && s.bin.svcVerified && s.headerFits (s.bin.running false))

/-- BANK_LOADED (R157): HELM rises at the next apply angle. -/
def execBankLoaded (a : At) (s : State) : Host.Outcome State Fault Refusal :=
  let t := s.advance a
  .next (if t.rdy Rdy.nvstore && t.rdy Rdy.config && !t.rdy Rdy.helm && t.helmProgram then
      ({ t with helm.program := true } : State).loadBanks
    else t)

/-- A deliberate restart of the service firmware (R473): SC0–SC3 stop, and no failure is counted. -/
def State.restartServices (reason : Nat) (s : State) : State :=
  let t := s.servicesDown
  { t with bin.svc := SvcRun.paused, bin.since := t.clock, bin.deliberate := true, svc.restartReason := reason }

/-! ### Module resets and starts -/

/-- PA's copies of an analogue output through a reset of LD (R278): the code stands until the watchdog or the next refresh. -/
def Ao.kept (o : Ao) : Ao :=
  { role := o.role, safeCode := o.safeCode, code := o.code, held := o.role && !o.owned1, owned1 := o.owned1, safe := o.owned1
    measured := o.measured, watchdog := o.watchdog }

/-- A group's field side through a reset of the logic side (R245, R247, R254, R616): its parameter block stands, its barrier timeout
runs on, and a link that was up is found lost. -/
def Group.kept (o : Group) : Group :=
  { o with
    logicDown := true, linkUp := false, ring := [], ringSeq := 0, lastUp := 0, upSeq := 0, paramsSent := false, delayTurn := none
    lossCause := if o.linkUp then 1 else o.lossCause }

/-- An input's field side. -/
def ChIn.kept (c : ChIn) : ChIn :=
  { role := c.role, fresh := c.fresh, state := c.state, wireFirst := c.wireFirst, wireBreak := c.wireBreak }

/-- The field sides, which no reset of the logic side resets (R247, R265, R528). -/
def Field.kept (f : Field) : Field :=
  { groups := f.groups.updAll f.groups.keys (fun _ g => g.kept)
    ins := f.ins.updAll f.ins.keys (fun _ c => c.kept)
    outs := f.outs
    owns := [] }

/-- The Almanac domain, locked (R552, R555). -/
def Almanac.kept (m : Almanac) : Almanac := { m.dropPending with locked := true, lockCount := none, writes := [], passRun := 0, failRun := 0, checkTurn := none }

/-- The supplies, which no module reset changes (R529); LD's measurements begin anew. -/
def Supply.kept (p : Supply) : Supply :=
  { p with holdTurn := none, measuring := false, holdRetry := false, economy := false, asleep := false, backupTurns := 0 }

/-- Lines and lanes as they stand at the lands. -/
def Pair.kept (p : Pair) : Pair :=
  { strapSecond := p.strapSecond, peerAlive := p.peerAlive, peerActive := p.peerActive, lanesIn := p.lanesIn, lanesOut := p.lanesOut }

/-- Binnacle's persistent state in the retained area, with an image on trial that has not been started (R476, R477). -/
def Binnacle.kept (b : Binnacle) : Binnacle :=
  { slotA := b.slotA, slotB := b.slotB, bin0 := b.bin0, bin1 := b.bin1, failures := b.failures, autopilot := b.autopilot, ackSeq := b.ackSeq,
    versionA := b.versionA, versionB := b.versionB, version0 := b.version0, version1 := b.version1
    trialBin := if b.svc = .stopped then b.trialBin else none }

/-- The record of that state where it is not yet written (R476, R477). -/
def State.retained (s : State) : List SaveReq :=
  if (s.nv.load 8 0).any (fun p => p != s.bin.payload) && s.rdy Rdy.nvstore then [s.bin.save]
  else s.nv.saves.filter (fun q => q.typ == 8)

/-- Everything LD held is lost and READY clears without a record (R19, R388). The MRAM, the Almanac domain, PA, the field sides and
the supplies stay; with `island` Binnacle's retained area does too (R477). -/
def State.moduleReset (island : Bool) (s : State) : State :=
  let ao := s.out.ao.updAll s.out.ao.keys (fun _ o => o.kept)
  { pending := s.pending, free := s.free, clock := s.clock
    nv := { mem := s.nv.mem, badWords := s.nv.badWords, good := s.nv.good
            saves := if island then s.retained else [] }
    log := if island then { queue := s.log.queue, lost := s.log.lost, lostSeverity := s.log.lostSeverity } else {}
    policy := if island then s.policy else []
    bin := if island then s.bin.kept else {}
    sen := { crystal := s.sen.crystal, temps := s.sen.temps, rails := s.sen.rails }
    sup := s.sup.kept
    alm := s.alm.kept
    pair := s.pair.kept
    fld := s.fld.kept
    out := { ao := ao, lastRefresh := s.out.lastRefresh, refreshed := s.out.refreshed, expired := s.out.expired } }

/-- The module is held in reset (R526). -/
def State.hold (cause : Nat) (s : State) : State := { s with bin.resetHeld := cause }

/-- Last_Restart_Reason of a cause (R526, R341): COLDSTART 1, DETECTED_POWER_LOST 3. -/
def restartReasonOf (cause : Nat) : Nat := if [1, 2, 6].contains cause then 3 else 1

/-- Time zero of the timeline of R529: every reset counts in sheaf counter 1, a start from OFF or SLEEP switches barrier power on, every
barrier link opens with a link-start frame
(R528), and Binnacle runs from ROM, unless the test lands hold the module (R591). -/
def State.startUp (cause : Nat) (s : State) : State :=
  let t := { s with bin.resetHeld := 0, bin.resetCause := cause, bin.supplyAtStart := s.sup.state.code, svc.restartReason := restartReasonOf cause }
  if t.sup.testHold then t else
  let u := t.when (cause == 1 || cause == 6) State.barrierOn
  let gs := (upTo 4).filter (fun g => (u.fld.groups.get g).barrierPower)
  (State.each gs State.linkStart (u.count 1 1)).updateReady [Rdy.binnacle] []

/-- POWER_ON_START (R521, R526, R553): `second` is the PAIR_ROLE strap and `test` whether the test lands hold the module (R591). -/
def execPowerOnStart (a : At) (second test : Bool) (s : State) : Host.Outcome State Fault Refusal :=
  let t := s.advance a
  .next (if t.powered || t.sup.startSamples < 20 then t else
    let u := { t with
      sup.state := if t.sup.mainPresent then SupplyState.main else SupplyState.backup
      sup.testHold := test, pair.strapSecond := second }
    (u.when u.alm.dead State.domainPowerOn).startUp 1)

/-- RESET_N_ASSERTED (R527). -/
def execResetNAsserted (a : At) (s : State) : Host.Outcome State Fault Refusal :=
  let t := s.advance a
  .next (if t.powered && t.bin.resetHeld != 3 then (t.moduleReset true).hold 3 else t)

/-- RESET_N_RELEASED (R526). -/
def execResetNReleased (a : At) (s : State) : Host.Outcome State Fault Refusal :=
  let t := s.advance a
  .next (if t.powered && t.bin.resetHeld = 3 then t.startUp 3 else t)

/-- THERMAL_RESET (R526): the LD die has stood at 140 °C or above for 10 samples of 1 ms. -/
def execThermalReset (a : At) (s : State) : Host.Outcome State Fault Refusal :=
  let t := s.advance a
  .next (if t.powered && t.bin.resetHeld = 0 && decide (10 ≤ t.sen.hotRun) then (t.moduleReset true).hold 5 else t)

/-- THERMAL_RESET_RELEASE (R526): the LD die is below 115 °C. -/
def execThermalResetRelease (a : At) (s : State) : Host.Outcome State Fault Refusal :=
  let t := s.advance a
  .next (if t.powered && t.bin.resetHeld = 5 && decide ((t.sen.temps.get 0).value < 11500) then t.startUp 5 else t)

/-- Rails of LD whose loss resets the module while the island survives, with their nominal 800 mV (R35, R471). -/
def lostRail (rail mv : Nat) : Bool := decide (rail ≤ 1) && decide (mv < 720)

/-- RAIL_LOST (R35): Binnacle writes RAIL_LOST and holds the module in reset. -/
def execRailLost (a : At) (rail mv : Nat) (s : State) : Host.Outcome State Fault Refusal :=
  let t := s.advance a
  .next (if t.powered && t.bin.resetHeld = 0 && lostRail rail mv then
      let u := ((t.record3 0 5 0x0002 (le 1 rail ++ le 2 mv) 0).moduleReset true).hold 2
      { u with sen.heldRail := rail, sen.heldGood := 0 }
    else t)

/-- RAIL_GOOD_RELEASE (R35): the lost rail has been good for 10 samples of 1 ms. -/
def execRailGoodRelease (a : At) (s : State) : Host.Outcome State Fault Refusal :=
  let t := s.advance a
  .next (if t.powered && t.bin.resetHeld = 2 && decide (10 ≤ t.sen.heldGood) then t.startUp 2 else t)

/-- LD_LOST (R34): nothing on LD reacts any longer. With the island lost, the core supply is gone and the angle outputs are high
impedance at once; else they stand until the watchdog of PA expires. Only RESET_N or a new supply ends it. -/
def execLdLost (a : At) (island : Bool) (s : State) : Host.Outcome State Fault Refusal :=
  let t := s.advance a
  .next (if !t.powered then t else
    let u := (t.moduleReset false).hold 7
    if island then u else { u with out.ago := t.out.ago })

end Sys2Proof.Machine
end

