-- ==== Sys2Proof/Machine/Power.lean ====
section
/-! DEFINITION. Machine/Power.lean: the supplies, the hold-up store, collapse and the low-power states (R443, R444, R464,
R519–R525, R536–R538). Voltages are in mV. -/

namespace Sys2Proof.Machine

/-! ### Samples (R519–R521) -/

/-- The 1 ms mean of VMAIN is at or above a level (R520): the mean of the last 20 samples. -/
def Supply.meanAtLeast (p : Supply) (mv : Nat) : Bool :=
  decide (p.vmain.length = 20) && decide (mv * 20 ≤ p.vmain.sum)

/-- The last instantaneous sample of VMAIN. -/
def Supply.vmainNow (p : Supply) : Nat := p.vmain.headD 0

/-- A sample of the supplies taken (R519–R521). -/
def Supply.sample (p : Supply) (vmain vback vhold : Nat) : Supply :=
  let q := { p with vmain := (vmain :: p.vmain).take 20, vback := vback, vhold := vhold }
  let main := q.meanAtLeast (if p.mainPresent then 16000 else 18000)
  let back := decide ((if p.backPresent then 8300 else 8800) ≤ vback)
  let low := decide (vmain < 16000) && decide (vback < 8300)
  { q with
    mainPresent := main
    backPresent := back
    startSamples := if p.state = .off && (main || back) then p.startSamples + 1 else 0
    mainSamples := if p.state = .backup && q.meanAtLeast 18000 then p.mainSamples + 1 else 0
    collapseSamples := if low && (p.state = .main || p.state = .backup) then p.collapseSamples + 1 else 0 }

/-- What the hold-up charger does (R523, R524): it runs in MAIN and BACKUP, charges VHOLD up to 30 V and regulates it there; it is
paused while the store is measured. -/
def Supply.charger (p : Supply) : Charger :=
  if p.state = .off || p.state = .holdup then .stopped
  else if p.measuring then .paused
  else if p.vhold < 30000 then .charging else .regulating

/-- The power path changes (R524): a measurement that runs is discarded and will be repeated. -/
def Supply.toState (x : SupplyState) (p : Supply) : Supply :=
  { p with state := x, mainSamples := 0, backupTurns := 0, measuring := false, holdRetry := p.holdRetry || p.measuring }

/-- A change between MAIN and BACKUP (R522): its record, sheaf counter 3 for a change to BACKUP, and ECONOMY. Nothing is recorded
while Binnacle does not run. -/
def State.supplyTo (x : SupplyState) (s : State) : State :=
  let t := { s with sup := s.sup.toState x }
  let toBack := x == .backup
  let u := if !t.rdy Rdy.binnacle && !t.sup.asleep then t else
    (t.when toBack (State.count 3 1)).record3 0 (if toBack then 3 else 1) 0x0010
      (le 1 x.code ++ le 2 t.sup.vmainNow ++ le 2 t.sup.vback) 0
  u.refreshEconomy

/-- VHOLD has reached 29.5 V for the first time since the start: the store is measured (R524). -/
def State.firstMeasure (s : State) : State :=
  if s.rdy Rdy.binnacle && (s.sup.state == .main || s.sup.state == .backup) && s.sup.holdTurn.isNone && !s.sup.holdRetry &&
      decide (29500 ≤ s.sup.vhold) then { s with sup.measuring := true }
  else s

/-- SUPPLY_SAMPLE (R520, R521): one every 50 µs. MAIN leaves for BACKUP when VMAIN is absent and VBACK present. -/
def execSupplySample (a : At) (vmain vback vhold : Nat) (s : State) : Host.Outcome State Fault Refusal :=
  let t := s.advance a
  let u := { t with sup := { t.sup.sample vmain vback vhold with sampledAt := some t.clock } }
  .next (if t.sup.sampledAt.any (fun c => decide (t.clock < c + 50)) then t else State.firstMeasure (if u.sup.state = .main && !u.sup.mainPresent && u.sup.backPresent then u.supplyTo .backup else u))

/-- SWITCH_TO_MAIN (R521): VMAIN present for 100 ms, or VBACK absent while the mean of VMAIN is 16.0 V or more. In SLEEP the return
of VMAIN wakes the module instead (R538). -/
def execSwitchToMain (a : At) (s : State) : Host.Outcome State Fault Refusal :=
  let t := s.advance a
  .next (if t.sup.state = .backup && !t.sup.asleep &&
      (decide (2000 ≤ t.sup.mainSamples) || (!t.sup.backPresent && t.sup.meanAtLeast 16000)) then t.supplyTo .main
    else t)

/-! ### NV-good and the hold-up store (R443, R524) -/

/-- Operations that wait for the NV-good condition. -/
def Nv.waiting (n : Nv) : Nat := n.queue.length + n.saves.length + n.sheaf.length

/-- NV_GOOD_CHANGE (R443): VHOLD rises to 12.0 V or falls below 11.5 V. When the condition returns, what it held goes on, and
WRITE_HELD counts it. -/
def execNvGoodChange (a : At) (s : State) : Host.Outcome State Fault Refusal :=
  let t := s.advance a
  let v := t.sup.vhold
  .next (if !t.powered then t
    else if t.nv.good && decide (v < 11500) then { t with nv.good := false }
    else if !t.nv.good && decide (12000 ≤ v) then
      let u := { t with nv.good := true }
      u.when (u.rdy Rdy.nvstore && u.nv.waiting != 0) (fun w => w.record3 2 2 0x0007 (le 2 v ++ le 2 w.nv.waiting) 0)
    else t)

/-- Class of a store of so many tenths of a µF (R524): 0 OK, 1 LOW, 2 ABSENT. -/
def State.holdClassOf (s : State) (cap10 : Nat) : Nat :=
  if cap10 < 50 then 2 else if cap10 < 10 * s.cfgN Fid.PWR_HOLD_MIN then 1 else 0

/-- HOLD_STORE_MEASUREMENT (R524): VHOLD has fallen to 27.5 V under the load; `cap10` is 10 mA × t / 2 V in tenths of a µF. The charger
is connected again, and a new class writes HOLD_STORE. -/
def execHoldStoreMeasurement (a : At) (cap10 : Nat) (s : State) : Host.Outcome State Fault Refusal :=
  let t := s.advance a
  .next (if !t.sup.measuring then t else
    let c := t.holdClassOf cap10
    let u := { t with sup.measuring := false, sup.holdRetry := false, sup.holdTurn := some t.turn, sup.holdClass := some c }
    u.when (t.sup.holdClass != some c) (fun w => w.record3 0 (if c = 0 then 1 else 3) 0x0011 (le 1 c ++ le 2 cap10) 0))

/-! ### Collapse (R444, R464, R525) -/

/-- What R444 leaves running: Binnacle, the store and the Logbook. -/
def shedMask : Word32 := bitMask [Rdy.binnacle, Rdy.nvstore, Rdy.logbook]

/-- The Logbook's write position is known: it has risen since the start, or had when the module went to sleep (R464). -/
def State.logKnown (s : State) : Bool := s.rdy Rdy.logbook || (s.sup.asleep && !s.log.slots.isEmpty)

/-- The last-gasp record (R464): written at once as one journaled page operation, in the next slot of R463. -/
def State.lastGasp (ready : Word32) (ops : Nat) (s : State) : State :=
  let slot := s.log.place
  let page := logBase / 256 + slot / 4
  let r : LogRec :=
    { source := 0, severity := 5, code := 1, flags := 1 + (if s.recordTicks.isSome then 0 else 4)
      ticks := (s.recordTicks.getD 0) % 2 ^ 48, stamp := s.now, posts := true
      payload := le 2 s.sup.vmainNow ++ le 2 s.sup.vback ++ le 2 s.sup.vhold ++ le 2 ops ++ le 2 s.log.queue.length ++
        le 4 ready.toNat }
  let old := s.nv.page page
  let bs := old.take (slot % 4 * 64) ++ r.bytes s.log.nextSeq ++ old.drop (slot % 4 * 64 + 64)
  State.recordWritten r slot s.log.nextSeq { s with nv := s.nv.journal page bs, log.queue := [] }

/-- The sequence of R444. Operations that wait are abandoned, every load but the island is shed, and the record is written while
VHOLD is NV-good and the Logbook's position is known. -/
def State.collapse (s : State) : State :=
  let ops := s.nv.waiting
  let t := if s.rdy Rdy.almanac then s.lockAlmanac else s
  let u := { t with
    sup := { t.sup.toState SupplyState.holdup with collapseSamples := 0, economy := false }
    nv.queue := [], nv.saves := [], nv.sheaf := []
    ready := t.ready &&& shedMask }
  if s.logKnown && u.nv.good then u.lastGasp s.ready ops else u

/-- COLLAPSE (R521): two samples in a row with both supplies absent. -/
def execCollapse (a : At) (s : State) : Host.Outcome State Fault Refusal :=
  let t := s.advance a
  .next (if (t.sup.state = .main || t.sup.state = .backup) && decide (2 ≤ t.sup.collapseSamples) then t.collapse else t)

/-- The LD and PA rails are removed (R525): AO at 0 V, AGO at high impedance (R37); the MRAM, the Almanac domain and the field sides
remain. The domain is without power when VBAT is below 1.8 V too (R553). -/
def State.powerOff (s : State) : State :=
  let t := s.moduleReset false
  let u : State := { t with
    out := {}, pair := {}, sen := { crystal := t.sen.crystal }
    nv.good := false
    sup := { state := SupplyState.off, vmain := t.sup.vmain, mainPresent := t.sup.mainPresent, backPresent := t.sup.backPresent, vback := t.sup.vback, vhold := t.sup.vhold, vbat := t.sup.vbat }
    alm := { t.alm with dead := t.alm.dead || decide (t.sup.vbat < 1800) } }
  State.each (upTo 4) State.groupUnpowered u

/-- HOLDUP_END (R525). -/
def execHoldupEnd (a : At) (s : State) : Host.Outcome State Fault Refusal :=
  let t := s.advance a
  .next (if t.sup.state = .holdup then t.powerOff else t)

/-! ### SLEEP (R537, R538) -/

/-- Write every queued record: at most 256, four to a page. -/
def State.flushLog : Nat → State → State
  | 0, s => s
  | fuel + 1, s => State.flushLog fuel s.writeLog

/-- No guard of any zone is engaged. -/
def State.noGuard (s : State) : Bool := s.policy.all (fun p => !p.2.frost.on && !p.2.hot.on)

/-- The module may go to sleep (R537). -/
def State.mayDoze (s : State) : Bool :=
  s.rdy Rdy.config && s.sup.state == .backup && !s.sup.asleep && s.cfgN Fid.PWR_BACKUP_MODE == 2 && s.grain == 0 &&
    decide (s.cfgN Fid.PWR_SLEEP_DELAY ≤ s.sup.backupTurns) && s.noGuard

/-- Entry to SLEEP (R537): the turn mark and LOW_POWER are written, then every engine and every port stops, and each READY bit that
clears has its record (R19). The field groups reach their safe states by their own timeout, PA's outputs by its watchdog. -/
def State.enterSleep (s : State) : State :=
  let mark : SaveReq := { typ := 1, key := 0, payload := turnMark s.turn s.alm.count.toNat s.mer.lastMean }
  let r := (s.saveNow mark).2.lowPower 2
  let t := State.flushLog 80 { r.updateReady [] (upTo 29) with ready := r.ready }
  let fld := { t.fld.kept with owns := t.fld.owns }
  State.sleepBarrier { t.chartInterrupt with
    ready := 0, sup.asleep := true, sup.measuring := false, bin.svc := SvcRun.stopped, fld := fld
    plan := {}, helm.sampling := false
    alm := { t.alm.kept with alarm0 := { t.alm.kept.alarm0 with woke := false }, alarm1 := { t.alm.kept.alarm1 with woke := false } } }

/-- SLEEP_ENTRY (R537). -/
def execSleepEntry (a : At) (s : State) : Host.Outcome State Fault Refusal :=
  let t := s.advance a
  .next (if t.mayDoze then t.enterSleep else t)

/-- What wakes the module (R538): 0 VMAIN for 100 ms, 1 a Tiller key or encoder, 2 and 3 the Almanac alarms. -/
def State.wakes (s : State) (source : Nat) : Bool :=
  let w := s.cfgN Fid.PWR_WAKE
  match source with
  | 0 => decide (2000 ≤ s.sup.mainSamples)
  | 1 => bitOf w 0
  | 2 => bitOf w 1 && s.alm.alarm0.woke
  | 3 => bitOf w 2 && s.alm.alarm1.woke
  | _ => false

/-- WAKE (R538): a module reset of cause WAKE. -/
def execWake (a : At) (source : Nat) (s : State) : Host.Outcome State Fault Refusal :=
  let t := s.advance a
  .next (if t.sup.asleep && t.wakes source then
      let u := if source = 0 then t.supplyTo .main else t
      (u.moduleReset true).startUp 6
    else t)

/-! ### The crystal (R39, R40, R49) -/

/-- CRYSTAL_LOST (R39): the fabric runs on the internal RC; the Ethernet ports, T1S and the Mirror link stop, and the lines too while
MERIDIAN_LOCK is clear. -/
def execCrystalLost (a : At) (s : State) : Host.Outcome State Fault Refusal :=
  let t := s.advance a
  .next (if !t.powered || !t.sen.crystal then t else
    let u := { t with sen.crystal := false, sen.crystalGoodTurns := 0, mer.rcFrom := t.mer.stamp, pair.lanesIn := 0, pair.lanesOut := 0 }
    if !u.rdy Rdy.binnacle then u else
    let lines := if u.rdy Rdy.lock then [] else [Rdy.line 0, Rdy.line 1, Rdy.line 2, Rdy.line 3]
    let v := (u.record3 0 3 0x000C (le 1 1) 0).lower ([Rdy.eth0, Rdy.eth1, Rdy.t1s, Rdy.mirror] ++ lines)
    v.refreshMirror)

/-- CRYSTAL_RETURNED (R39): it has run cleanly for 64 turns, and the fabric returns to it at a turn boundary. -/
def execCrystalReturned (a : At) (s : State) : Host.Outcome State Fault Refusal :=
  let t := s.advance a
  .next (if !t.sen.crystal && t.rdy Rdy.binnacle && t.grain == 0 && decide (64 ≤ t.sen.crystalGoodTurns) then
      (State.record3 0 3 0x000C (le 1 0) 0 { t with sen.crystal := true, sen.crystalGoodTurns := 0 }).refreshPorts
    else t)

end Sys2Proof.Machine
end

