-- ==== Sys2Proof/Machine/Binnacle.lean ====
section
/-! DEFINITION. Machine/Binnacle.lean: the sensors, the SRAM scrub, the restart of Binnacle and the self-tests (R471, R472, R477–R482). -/

namespace Sys2Proof.Machine

/-! ### Sensors (R471) -/

/-- Nominal rail voltages in mV (R471). -/
def railNominal : List Nat := [800, 800, 800, 1200, 1800, 3300, 1800, 5000, 15000, 5000, 15000, 15000]

/-- A rail outside ±5 % of its nominal (R471). -/
def railOut (i mv : Nat) : Bool :=
  let n := railNominal.getD i 0
  decide (n < 20 * (((mv : Int) - n).natAbs))

/-- A monitored quantity after a sample: out after 4 samples in a row out of its window (R471). -/
def Monitor.step (m : Monitor) (v : Int) (outNow back : Bool) : Monitor :=
  { value := v
    count := if outNow then m.count + 1 else 0
    out := if outNow then m.out || decide (3 ≤ m.count) else m.out && !back }

/-- The e-paper drive runs: only then EP_POS and EP_NEG are checked (R471). -/
def State.pumpOn (s : State) : Bool := s.epaperRuns && s.chart.state != .idle

/-- A rail is checked now. -/
def State.railChecked (s : State) (i : Nat) : Bool := decide (i < 10) || s.pumpOn

/-- A rail's sample. -/
def State.railSample (i mv : Nat) (s : State) : State :=
  let m := s.sen.rails.get i
  let n := m.step mv (s.railChecked i && railOut i mv) (s.railChecked i)
  let t := { s with sen.rails := s.sen.rails.set i n }
  t.when (m.out != n.out) (fun u => u.record3 0 3 0x0003 (le 1 i ++ le 2 mv ++ le 1 (bit n.out)) 0)

/-- A die's sample in 0.01 °C: hot from 120 °C, no longer at 110 °C. -/
def State.dieSample (i : Nat) (c : Int) (s : State) : State :=
  let m := s.sen.temps.get i
  let n := m.step c (decide (12000 ≤ c)) (decide (c ≤ 11000))
  let t := { s with sen.temps := s.sen.temps.set i n }
  t.when (m.out != n.out) (fun u => u.record3 0 3 0x0004 (le 1 i ++ le 2 (ofSigned 16 c) ++ le 1 (bit n.out)) 0)

/-- The battery's sample, once per second. -/
def State.vbatSample (mv : Nat) (s : State) : State :=
  let m := s.sen.vbat
  let n := m.step mv (decide (mv < 2100)) true
  let t := { s with sen.vbat := n, sup.vbat := mv }
  t.when (!m.out && n.out) (fun u => u.record3 0 3 0x000D (le 2 mv) 0)

/-- What the windows decide beside their records: the runs of good rails, of the rail that holds the module in reset and of a die
too hot, and the Almanac interface, which locks when PA_DIG leaves its window and opens after 10 ms of good rails (R35, R526, R552). -/
def State.railGates (rails : List Nat) (temp0 : Int) (s : State) : State :=
  let good := rails.zipIdx.all (fun x => !s.railChecked x.2 || !railOut x.2 x.1)
  let t := { s with
    sen.railGood := if good then s.sen.railGood + 1 else 0
    sen.heldGood := if railOut s.sen.heldRail (rails.getD s.sen.heldRail 0) then 0 else s.sen.heldGood + 1
    sen.hotRun := if 14000 ≤ temp0 then s.sen.hotRun + 1 else 0 }
  if railOut 6 (rails.getD 6 0) then t.closeAlmanac
  else if t.rdy Rdy.binnacle && decide (10 ≤ t.sen.railGood) then t.openAlmanac else t

/-- A measurement whose interval is `us` falls due: that time has passed since the last one on the module clock. -/
def State.periodPast (s : State) (last : Option Nat) (us : Nat) : Bool := last.all (fun c => decide (c + us ≤ s.clock))

/-- The battery's sample is due: it is taken once per second (R471). -/
def State.vbatTaken (vbat : Option Nat) (s : State) : State :=
  match vbat with
  | some mv => if s.periodPast s.sen.vbatAt 1000000 then State.vbatSample mv { s with sen.vbatAt := some s.clock } else s
  | none => s

/-- One sample of the sensors: 12 rails in mV, 4 dice in 0.01 °C, the battery when it is due, the input current in mA. While the
module is held in reset by a rail or by heat, Binnacle only counts what ends it. -/
def State.senseAll (rails : List Nat) (temps : List Int) (vbat : Option Nat) (iin : Nat) (s : State) : State :=
  let u := { s with sen.stamp := s.now, sen.iin := iin, sen.sampledAt := some s.clock }
  let v := (State.each ((rails.take 12).zipIdx) (fun x t => t.railSample x.2 x.1) u).pumpSampled
  let w := State.each ((temps.take 4).zipIdx) (fun x t => t.dieSample x.2 x.1) v
  (w.vbatTaken vbat).railGates (rails.take 12) (temps.headD 0)

/-- SENSOR_SAMPLE (R471): the sensors are sampled once per millisecond. -/
def execSensorSample (a : At) (rails : List Nat) (temps : List Int) (vbat : Option Nat) (iin : Nat) (s : State) :
    Host.Outcome State Fault Refusal :=
  let t := s.advance a
  .next (if !t.periodPast t.sen.sampledAt 1000 then t
    else if t.rdy Rdy.binnacle then t.senseAll rails temps vbat iin
    else if t.powered && (t.bin.resetHeld = 2 || t.bin.resetHeld = 5) then
      let u := t.senseAll rails temps vbat iin
      { t with sen := u.sen }
    else t)

/-- SENSOR_READ (R406). -/
def opSensorRead : OpDef :=
  { cls := 5, opcode := 0x0032, fns := [0], fallback := true
    len := fun n => n == 0
    content := fun _ r => r.target == 0
    body := fun _ s => s.ok (le 8 s.sen.stamp.toNat ++
      (upTo 4).flatMap (fun i => le 2 (ofSigned 16 (s.sen.temps.get i).value)) ++
      (upTo 12).flatMap (fun i => le 2 (s.sen.rails.get i).value.toNat) ++
      leList 2 [s.sup.vmainNow, s.sup.vback, s.sup.vhold, s.sup.vbat, s.sen.iin] ++ le 2 0) }

/-- SENSOR_READ (R471). -/
def execSensorRead (a : At) (r : Req) (s : State) : Host.Outcome State Fault Refusal := .next (serve opSensorRead r (s.advance a))

/-! ### Restart of Binnacle (R478) -/

/-- The outputs of a self-test: TEST and ARG of R480, as destinations. -/
def testOutputs (test arg : Nat) : List (Nat × Nat) :=
  let picked := (upTo 8).filter (bitOf arg)
  if test = 0x10 then picked.map (fun i => (Dest.field, 8 * bitsOf arg 8 2 + i))
  else if test = 0x11 then picked.map (fun i => (Dest.ao, i))
  else if test = 0x12 then picked.map (fun i => (Dest.ago, i))
  else []

/-- A self-test lets go of its outputs; each returns to its owner at its next latch or FIELD_APPLY (R480). -/
def State.dropTests (s : State) : State :=
  match s.bin.selftest with
  | some (test, arg) =>
    State.each (testOutputs test arg) (fun x t =>
      if x.1 = Dest.field then { t with fld.owns := t.fld.owns.upd x.2 (fun o => { o with test := none }) }
      else if x.1 = Dest.ao then { t with out.ao := t.out.ao.upd x.2 (fun o => { o with test := none }) }
      else { t with out.ago := t.out.ago.upd x.2 (fun o => { o with test := none }) }) { s with bin.selftest := none }
  | none => s

/-- READY changes to a word under the exception of R478: no bit that requires a changed one moves. -/
def State.readyExact (w : Word32) (s : State) : State :=
  (changedBits s.ready w).foldl (fun t b => t.readyRecord w b) (State.irq Irq.readyChange { s with ready := w })

/-- Binnacle restarts (R478): BINNACLE, NVSTORE and LOGBOOK clear, and BINNACLE returns within the step, as ROM runs; NV_RECOVERY
verifies and starts the image (R1), and LOGBOOK_RECOVERY follows. Without the retained area the Logbook queue is empty and every guard
is released; the records of the bits follow that (R19). -/
def State.binnacleRestart (kept : Bool) (s : State) : State :=
  let r := if kept then s else
    { s with
      log.queue := [], log.lost := 0, log.lostSeverity := 0, policy := []
      bin := match s.nv.load 8 0 with
        | some p => s.bin.restore p
        | none => s.bin }
  let t := State.each [0, 2, 3] State.abortFn (r.readyExact (r.ready &&& ~~~(bitMask [0, 2, 3])))
  ({ t.dropTests with mb.fbBusy := false, alm := t.alm.dropPending } : State).readyExact (t.ready ||| bitMask [0])

/-- BINNACLE_RESTART (R487). -/
def State.restartRecord (cause : Nat) (kept : Bool) (s : State) : State := s.record3 0 4 0x000A (le 1 cause ++ le 1 (bit kept)) 0

/-- BINNACLE_WATCHDOG (R478): `kept` says whether the CRC of the retained area holds. -/
def execBinnacleWatchdog (a : At) (kept : Bool) (s : State) : Host.Outcome State Fault Refusal :=
  let t := s.advance a
  .next (if t.rdy Rdy.binnacle then (t.binnacleRestart kept).restartRecord 1 kept else t)

/-! ### The SRAM scrub (R472) -/

/-- A host slot is disabled and its holder told (R68). -/
def State.dropHostSlot (n : Nat) (s : State) : State :=
  let e := s.mer.slots.get n
  let former := if e.owner = .host then e.words else e.held.getD {}
  State.record 4 2 0x0008 (le 2 n ++ le 4 former.control.toNat) true n
    { s with mer.slots := s.mer.slots.set n (if e.owner = .host then {} else { e with held := none, heldByHost := false }) }

/-- Slots the host holds. -/
def State.hostSlots (s : State) : List Nat := (s.mer.slots.filter (fun p => p.2.owner == .host || p.2.heldByHost)).map (fun p => p.1)

/-- What an uncorrectable word of a region costs (R472). Regions count as the table of R472 lists them; `item` names the bank block
(bank × 1 024 + block), the capture sample, the slot word (address / 8) or the port. -/
def State.sramLoss (region item : Nat) (s : State) : State :=
  match region with
  | 0 => if s.svcOn then s.serviceFailure 3 255 else s
  | 1 =>
    let k := item % 1024
    let f := fun (b : Bank) => if k < 256 then b.clearWords 0 k 0 672 else b.clearWords 1 (k - 255) 0 64
    if item / 1024 = 0 then { s with helm.bank0 := f s.helm.bank0 } else { s with helm.bank1 := f s.helm.bank1 }
  | 3 => { s with snd.capture := s.snd.capture.set item 0 }
  | 4 => if 0x20000 ≤ item ∧ item < 0x62400 then { s with mb.badWords := s.mb.badWords.filter (· != item) ++ [item] } else s
  | 5 => s.port item (fun x => if x.rx.isEmpty then x else { x with rx := x.rx.dropLast, dropped := min 65535 (x.dropped + 1) })
  | 6 => (s.binnacleRestart true).restartRecord 2 true
  | 7 => State.each s.hostSlots State.dropHostSlot s
  | _ => s

/-- SRAM_SCRUB_STEP (R472): corrected words are rewritten, uncorrectable ones take their effect. -/
def execSramScrubStep (a : At) (region item corrected uncorrectable : Nat) (s : State) : Host.Outcome State Fault Refusal :=
  let t := s.advance a
  .next (if !t.rdy Rdy.binnacle || decide (8 ≤ region) || (corrected = 0 && uncorrectable = 0) then t else
    let u := t.record3 0 (if uncorrectable = 0 then 1 else 4) 0x000B (le 1 region ++ le 4 corrected ++ le 4 uncorrectable) 0
    if uncorrectable = 0 then u else u.sramLoss region item)

/-! ### Self-tests (R479–R482) -/

/-- Passive tests take no outputs. -/
def testPassive (test : Nat) : Bool := [1, 2, 3, 4].contains test

/-- TEST and ARG that SELFTEST accepts (R480). -/
def testKnown (test arg : Nat) : Bool :=
  (testPassive test && arg == 0) || (test == 0x10 && decide (arg < 0x400)) || ((test == 0x11 || test == 0x12) && decide (arg < 0x100))

/-- An output that the test can drive: channels of role 01h or OFF, in a group in safe state or without VFIELD, and shared channels
on a standby are skipped (R480). -/
def State.testable (s : State) (x : Nat × Nat) : Bool :=
  if x.1 = Dest.field then
    let g := s.fld.groups.get (groupOf x.2)
    s.chIsOut x.2 && !g.safe && g.vPresent && !(s.peerHolds && s.fcN Fid.FC_SHARED x.2 == 1)
  else if x.1 = Dest.ao then s.cfgN Fid.AO_ROLE x.2 == 1
  else s.cfgN Fid.AGO_MODE x.2 != 0

/-- A disruptive test waits (R209, R364, R481); on a standby it starts at once. -/
def State.testWaits (s : State) (test arg : Nat) : Bool :=
  !s.peerHolds && (testOutputs test arg).any (fun x => !s.inMaintenance x.1 x.2 || s.soundingOn x.1 x.2 ||
    (x.1 == Dest.field && s.soundingReads (fun d => (descKind d == 2 || descKind d == 3) && descIndex d == x.2)))

/-- A test drives a channel (R480). -/
def State.testDrives (c : Nat) (on : Bool) (s : State) : State :=
  State.chApply c { s with fld.owns := s.fld.owns.upd c (fun o => { o with test := some on }) }

/-- The test takes its outputs (owner 3 of R32): a channel OFF, an AO at 0.500 V, an AGO high. -/
def State.testBegins (test arg : Nat) (s : State) : State :=
  State.each ((testOutputs test arg).filter s.testable) (fun x t =>
    if x.1 = Dest.field then t.testDrives x.2 false
    else if x.1 = Dest.ao then
      ({ t with out.ao := t.out.ao.upd x.2 (fun o => { o with test := some 500 }) } : State).aoLatchOne x.2
    else ({ t with out.ago := t.out.ago.upd x.2 (fun o => { o with test := some true }) } : State).agoLatchOne x.2)
    { s with bin.selftest := some (test, arg), bin.testTurn := s.turn }

/-- The turns for which AO_LOOP and AGO_PADS drive their outputs (R480). -/
def testTurns (test : Nat) : Nat := if test = 0x11 then 9 else if test = 0x12 then 2 else 0

/-- A turn of a running test (R480): an AO goes to 5.000 V after 3 turns and to 9.500 V after 6, an AGO to low after 1. -/
def State.testTurnBegins (s : State) : State :=
  match s.bin.selftest with
  | some (test, arg) =>
    let d := s.turn - s.bin.testTurn
    let picked := (testOutputs test arg).filter s.testable
    if test = 0x11 ∧ (d = 3 ∨ d = 6) then
      State.each picked (fun x t =>
        State.aoLatchOne x.2 { t with out.ao := t.out.ao.upd x.2 (fun o => { o with test := some (if d = 3 then 5000 else 9500) }) }) s
    else if test = 0x12 ∧ d = 1 then
      State.each picked (fun x t =>
        State.agoLatchOne x.2 { t with out.ago := t.out.ago.upd x.2 (fun o => { o with test := some false }) }) s
    else s
  | none => s

/-- FIELD_OUTPUTS drives each channel ON for 2 ms and then OFF (R480). -/
def State.testPulses (test : Nat) (s : State) : State :=
  match s.bin.selftest with
  | some (n, arg) =>
    if n = 0x10 ∧ test = 0x10 then
      State.each ((testOutputs n arg).filter s.testable) (fun x t => (t.testDrives x.2 true).testDrives x.2 false) s
    else s
  | none => s

/-- A SELFTEST request of a TEST. -/
def isTest (test : Nat) (i : Interim) : Bool := i.cls == 5 && i.opcode == 0x0031 && fieldAt i.payload 0 2 == test

/-- SELFTEST's answer (R479, R481). -/
def selftestBody (r : Req) (s : State) : State × Option Resp :=
  let test := fieldAt r.payload 0 2
  let arg := fieldAt r.payload 4 4
  if testPassive test then s.fail .accepted
  else
    let t := s.endInterims (fun i => isTest test i && i.isDeferred) .replaced .done []
    if t.bin.selftest.isNone && s.peerHolds then (t.testBegins test arg).fail .accepted
    else t.fail .deferred

/-- SELFTEST (R406). -/
def opSelftest : OpDef :=
  { cls := 5, opcode := 0x0031, fns := [0], fallback := true
    len := fun n => n == 8
    content := fun _ r => r.target == 0 && testKnown (fieldAt r.payload 0 2) (fieldAt r.payload 4 4) && allZero ((r.payload.drop 2).take 2)
    expert := fun _ _ => true
    body := selftestBody }

/-- SELFTEST (R480). -/
def execSelftest (a : At) (r : Req) (s : State) : Host.Outcome State Fault Refusal := .next (serve opSelftest r (s.advance a))

/-- A deferred disruptive test starts at a turn boundary (R481). -/
def State.testDeferred (i : Interim) (s : State) : State :=
  let test := fieldAt i.payload 0 2
  let arg := fieldAt i.payload 4 4
  if s.grain != 0 || s.bin.selftest.isSome || s.testWaits test arg then s else
  let js := s.mb.interims.map (fun j => if j = i then Interim.begun j else j)
  State.testBegins test arg { s with mb.interims := js }

/-- A self-test ends (R482): its record and its COMPLETED entry. -/
def State.testEnds (test outcome : Nat) (detail : List Byte) (s : State) : State :=
  let t := if (s.bin.selftest.map (fun x => x.1)) = some test then s.dropTests else s
  let u := t.record3 0 (if outcome = 0 then 1 else 3) 0x0009 (le 2 test ++ le 1 outcome) 0
  u.endInterims (fun i => isTest test i && !i.isDeferred) .effect .done (le 2 test ++ le 1 outcome ++ le 1 0 ++ padTo 12 detail)

/-- Whether a TEST runs now. -/
def State.testRuns (s : State) (test : Nat) : Bool :=
  if testPassive test then s.mb.interims.any (isTest test) else (s.bin.selftest.map (fun x => x.1)) == some test

/-- A test that drives its outputs for so many turns has done so, or ends without a verdict (R480, R482). -/
def State.testDriven (s : State) (test outcome : Nat) : Bool :=
  decide (2 ≤ outcome) || decide (s.bin.testTurn + testTurns test ≤ s.turn)

/-- SELFTEST_COMPLETE (R482): OUTCOME and DETAIL as found; SKIPPED when nothing was testable. -/
def execSelftestComplete (a : At) (test outcome : Nat) (detail : List Byte) (s : State) : Host.Outcome State Fault Refusal :=
  let t := s.advance a
  .next (if !t.rdy Rdy.binnacle || !t.testRuns test then t else
    let none_ := match t.bin.selftest with
      | some (n, arg) => n == test && ((testOutputs n arg).filter t.testable).isEmpty
      | none => false
    if none_ then t.testEnds test 3 detail
    else if t.testDriven test outcome then (t.testPulses test).testEnds test (min outcome 2) detail else t)

/-- A guard has taken an output of the running test (R364): the test ends incomplete. -/
def State.guardEndsTest (s : State) : State :=
  match s.bin.selftest with
  | some (test, arg) =>
    if !s.peerHolds && (testOutputs test arg).any (fun x => (s.destDriver x.1 x.2).rank == 2) then s.testEnds test 2 [] else s
  | none => s

end Sys2Proof.Machine
end

