-- ==== Sys2Proof/Machine/Lands.lean ====
section
/-! DEFINITION. Machine/Lands.lean: what the lands and the clocks show of the state (R24, R39, R536, R558, R595, R597). -/

namespace Sys2Proof.Machine

/-- V33_OUT is present (R597): in MAIN, BACKUP and HOLDUP once the module has started, not in SLEEP and OFF. -/
def State.v33Out (s : State) : Bool := s.sup.state != .off && !s.sup.asleep

/-- LINEn_TXD, LINEn_RXD and LINEn_DE are high impedance unless LINE_PHY is 01h (R595). -/
def State.lineHighZ (s : State) (n : Nat) : Bool := s.cfgN Fid.LINE_PHY n != 1

/-- The e-paper charge pump runs (R536, R558). -/
def State.epaperPump (s : State) : Bool := s.chartDriven && s.isEpaper

/-- The clock of SC0–SC3 in kHz (R24, R39, R536); in SLEEP they stop (R537). -/
def State.coreClock (s : State) : Nat :=
  if s.sup.asleep then 0 else if !s.sen.crystal then 150000 else if s.sup.economy then 300000 else 600000

/-- The clock of the Helm sequencer and its array in kHz (R24, R39). -/
def State.helmClock (s : State) : Nat := if s.sup.asleep then 0 else if s.sen.crystal then 300000 else 75000

/-- The clock of Meridian in kHz (R24, R39). -/
def State.meridianClock (s : State) : Nat := if s.sup.asleep then 0 else if s.sen.crystal then 250000 else 62500

end Sys2Proof.Machine
end

