-- ==== Sys2Proof/Machine/Slots.lean ====
section
/-! DEFINITION. Machine/Slots.lean: the firing of an event slot (R66, R70–R72), the turn boundary (R46) and the start of a deferred
operation (R386). -/

namespace Sys2Proof.Machine

/-! ### SLOT_FIRE -/

/-- A slot is due and has not fired for it (R70). -/
def State.toFire (s : State) (e : EvSlot) : Bool := e.dueBy s.now

/-- Slots due at one grain fire in ascending number (R71). -/
def State.fires (s : State) (n : Nat) : Bool :=
  s.toFire (s.mer.slots.get n) && s.mer.slots.all (fun p => decide (n ≤ p.1) || !s.toFire p.2)

/-- Ownership follows the guards, the floor applies, and what takes its values at that instant follows (R110, R174, R181, R259,
R362), the partner writes of the floor's bindings among them (R28). -/
def State.floorApply (late : Nat) (s : State) : State :=
  ((((s.policyOwners.helmApply late).planPublish.planTake).guardEndsTest).tpoStarts).offerWrites none

/-- The SIGNAL entry of R397. -/
def State.signalEntry (n arg : Nat) (s : State) : State :=
  s.postEvent { source := 4, severity := 0, code := 0xF010, stamp := s.now, target := n, payload := le 2 arg ++ le 8 s.turn }

/-- What an ACTION does (R66). -/
def State.slotAction (n late waiting : Nat) (w : SlotWords) (s : State) : State :=
  match w.action with
  | 1 => s.agoHostAction (w.target % 8) 0
  | 2 => s.agoHostAction (w.target % 8) 1
  | 3 => s.agoHostAction (w.target % 8) 2
  | 4 => s.aoLatch w.target
  | 5 => s.fieldApply w.target
  | 6 => s.adcStart w.target
  | 7 => if w.arg = 0 then s.helmSample else s.loopSample w.arg
  | 8 => if w.arg = 0 then s.floorApply late else (s.loopApply w.arg late).offerWrites (some w.arg)
  | 9 => s.signalEntry n w.arg
  | 10 => s.chartPhase
  | 11 => s.pairFrame waiting
  | _ => s

/-- A ONE_SHOT disarms when it fires (R66). -/
def SlotWords.disarm (w : SlotWords) : SlotWords :=
  if w.kind = 2 then { w with control := w.control &&& 0x7FFFFFFF#32 } else w

/-- The slot's words and status once it has fired at stamp `x` (R66, R72). -/
def EvSlot.firedBy (e : EvSlot) (x : Stamp) : EvSlot :=
  { e with
    words := e.words.disarm
    fired := true
    late := e.late || (e.words.kind == 2 && decide (e.words.when.toNat < x.toNat))
    count := (e.count + 1) % 65536
    firedAt := x }

/-- SLOT_LATE (R74): a ONE_SHOT already past. -/
def State.slotLate (n : Nat) (w : SlotWords) (s : State) : State :=
  if w.kind = 2 ∧ w.when.toNat < s.now.toNat then
    State.record3 4 2 0x0007 (le 2 n ++ le 8 w.when.toNat) n s
  else s

/-- A latch slot is due at this stamp and has not fired. -/
def State.latchesDue (s : State) : Bool :=
  s.mer.slots.any (fun p => (p.2.words.action == 4 || p.2.words.action == 5) && s.toFire p.2)

/-- Once the latches due at a floor apply angle have fired, the trend logs capture and the references of the next sample are formed
(steps 4 and 5 of R116). -/
def State.afterApply (s : State) : State :=
  if s.helm.capture && !s.latchesDue then ({ s with helm.capture := false } : State).trendCapture.formAllRefs else s

/-- A slot fires (R70). -/
def State.slotFire (n late waiting : Nat) (s : State) : State :=
  if s.rdy Rdy.meridian && s.fires n then
    let e := s.mer.slots.get n
    let t := { s with mer.slots := s.mer.slots.set n (e.firedBy s.now) }
    (State.slotAction n late waiting e.words (t.slotLate n e.words)).afterApply
  else s

/-- SLOT_FIRE (R70): slot, the grains by which a HELM_APPLY comes late (R112), the bytes a mirror frame leaves waiting (R493). -/
def execSlotFire (a : At) (slot late waiting : Nat) (s : State) : Host.Outcome State Fault Refusal :=
  .next ((s.advance a).slotFire slot late waiting)

/-! ### Angle outputs -/

/-- The slots due at this grain have fired: they go before the latches (R288). -/
def State.slotsFired (s : State) : Bool := s.mer.slots.all (fun p => !s.toFire p.2)

/-- The latch of output n is due at this stamp and not yet taken (R281). -/
def State.agoLatchDue (s : State) (n : Nat) : Bool := s.agoLatchAngle n && (s.out.ago.get n).latched != s.now

/-- AGO_LATCH (R281): output n at one of its latch angles, after the slots due at that grain (R288). -/
def execAgoLatch (a : At) (n : Nat) (s : State) : Host.Outcome State Fault Refusal :=
  let t := s.advance a
  .next (if t.rdy Rdy.ago && decide (n < 8) && t.slotsFired && t.agoLatchDue n then t.agoLatch n else t)

/-- AGO_EDGE (R281): a compare unit of output n falls due, after the latch due at that grain; a stopped or disconnected output issues no
edge (R288). -/
def execAgoEdge (a : At) (n : Nat) (s : State) : Host.Outcome State Fault Refusal :=
  let t := s.advance a
  let o := t.out.ago.get n
  .next (if t.rdy Rdy.ago && decide (n < 8) && decide (2 ≤ t.cfgN Fid.AGO_MODE n) && !o.stopped && !o.highZ &&
      t.slotsFired && !t.agoLatchDue n then
      t.agoPin n (t.agoActive n)
    else t)

/-! ### TURN_BOUNDARY -/

/-- What Binnacle and the services evaluate at a turn boundary, after Meridian and the inputs (R353, R356, R360, R437). -/
def State.turnServices (s : State) : State :=
  ((((((s.scheduleRun false).pointsStart).eventEval).covSend).policyEval).eccSummary).testTurnBegins.chartTurn.pairTurn

/-- A further measurement of the hold-up store begins (R524): 4 194 304 turns after the last, or at a multiple of 64 after a change of
supply state discarded one. -/
def State.measureDue (s : State) : State :=
  let due := if s.sup.holdRetry then s.turn % 64 == 0 else s.sup.holdTurn.any (fun n => decide (n + 4194304 ≤ s.turn))
  if due && (s.sup.state == .main || s.sup.state == .backup) && !s.sup.measuring then { s with sup.measuring := true } else s

/-- The counters of a turn: turns in BACKUP (R537), turns with the crystal back (R39), module turns (R455). -/
def State.turnCounts (s : State) : State :=
  let t := { s with
    sup.backupTurns := if s.sup.state = SupplyState.backup then s.sup.backupTurns + 1 else 0
    sen.crystalGoodTurns := if s.sen.crystal then s.sen.crystalGoodTurns else s.sen.crystalGoodTurns + 1 }
  let u := (if s.sen.crystal then t else t.refreshPorts).measureDue
  if u.turn % 64 = 0 then u.count 0 64 else u

/-- A turn ends and the next begins (R46): nothing of it is skipped. -/
def State.turnBoundary (e : Int) (s : State) : State :=
  if !s.rdy Rdy.meridian || s.grain + 1 != grainsPerTurn then s else
  let t := s.adcBoundary
  let u := State.merBoundary e { t with mer.stamp := mkStamp (t.turn + 1) 0 }
  (u.slotEffects.sampleFirst.uiChanges.turnServices).turnCounts

/-- TURN_BOUNDARY (R46): `e` is the phase error of R43 in grains as the fit then gives it. -/
def execTurnBoundary (a : At) (e : Int) (s : State) : Host.Outcome State Fault Refusal :=
  .next ((s.advance a).turnBoundary e)

/-! ### DEFERRED_START -/

/-- The operation in place `n` among those not ended waits no longer. -/
def State.markBegun (n : Nat) (s : State) : State :=
  { s with mb.interims := s.mb.interims.modify n Interim.begun }

/-- A deferred SOUND_START begins when its zone has left MAINTENANCE and the group limits allow it (R197). -/
def State.soundDeferred (n : Nat) (i : Interim) (s : State) : State :=
  match (s.snd.zones.get i.target).deferredReq with
  | some p =>
    if s.sndWaits i.target p then s else
    match State.sndTake i.target p (s.markBegun n) with
    | (t, some x) =>
      if x.status = .accepted then t
      else ({ t with snd.zones := t.snd.zones.upd i.target (fun o => { o with deferredReq := none }) } : State).endInterims (fun j => j.isOp 2 0x20 i.target && j.seq == i.seq && j.session == i.session) .effect x.status x.payload
    | (t, none) => t
  | none => s

/-- A deferred force is performed once its output's zone allows it (R273, R295). -/
def State.forceDeferred (kind : Nat) (i : Interim) (s : State) : State :=
  if s.overrideWaits kind i.target then s else
  let level := fieldAt i.payload 0 1
  let value := if kind = Dest.field then (if level = 2 then 10000 else 0) else fieldAt i.payload 2 2
  (s.performForce kind i.target false value (fieldAt i.payload 4 4)).endInterims
    (fun j => j.isOp i.cls i.opcode i.target && j.isDeferred) .effect .done []

/-- Which operation starts: SOUND_START, FC_FORCE, AO_FORCE, AGO_FORCE, SELFTEST or UI_CALIBRATE (R403, R406). -/
def State.deferredStart (n : Nat) (i : Interim) (s : State) : State :=
  if i.cls = 2 then
    (match i.opcode with
     | 0x0020 => s.soundDeferred n i
     | 0x0030 => s.forceDeferred Dest.field i
     | 0x0031 => s.forceDeferred Dest.ao i
     | 0x0032 => s.forceDeferred Dest.ago i
     | _ => s)
  else if i.cls = 5 then
    (match i.opcode with
     | 0x0031 => s.testDeferred i
     | 0x0040 => s.calDeferred i
     | _ => s)
  else s

/-- DEFERRED_START (R386): the operation in place `n` among those not ended. A deferred MODE_WRITE ends at a sample angle. -/
def execDeferredStart (a : At) (n : Nat) (s : State) : Host.Outcome State Fault Refusal :=
  let t := s.advance a
  .next (match t.mb.interims[n]? with
    | some i => if i.isDeferred then t.deferredStart n i else t
    | none => t)

end Sys2Proof.Machine
end

