-- ==== Sys2Proof/Machine/Update.lean ====
section
/-! DEFINITION. Machine/Update.lean: firmware images, their trials, and the commands that restart or reset the module (R359, R473,
R476, R483–R486). -/

namespace Sys2Proof.Machine

/-- The slot that an image's operations act on (R485): the one that is neither ACTIVE nor on TRIAL. -/
def Binnacle.free (b : Binnacle) (isBin : Bool) : Option Nat :=
  (if isBin then [2, 3] else [0, 1]).find? (fun i => b.slot i != .active && b.slot i != .trial)

/-- IMAGE of a request's first byte. -/
def reqBin (r : Req) : Bool := fieldAt r.payload 0 1 == 1

/-- Store writes are possible (R443). -/
def State.nvTakes (s : State) : Bool := s.nv.good && s.rdy Rdy.nvstore

/-- A slot changes state: the state record is rewritten (R476, R486). -/
def State.slotTo (i : Nat) (x : SlotState) (version : Nat) (s : State) : State :=
  let b := s.bin.setSlot i x
  let b1 := if i = 0 then { b with versionA := version } else if i = 1 then { b with versionB := version }
    else if i = 2 then { b with version0 := version } else { b with version1 := version }
  ({ s with bin := b1 } : State).saveBinnacle

/-- Requests of UPDATE_VERIFY for an image. -/
def isVerify (isBin : Bool) (i : Interim) : Bool := i.cls == 5 && i.opcode == 0x0022 && fieldAt i.payload 0 1 == bit isBin

/-- UPDATE_BEGIN (R485): the slot becomes WRITING. -/
def opUpdateBegin : OpDef :=
  { cls := 5, opcode := 0x0020, fns := [0], fallback := true
    len := fun n => n == 8
    content := fun s r => r.target == 0 && decide (fieldAt r.payload 0 1 ≤ 1) && allZero ((r.payload.drop 1).take 3) &&
      decide (fieldAt r.payload 4 4 ≤ imageMax (reqBin r)) && (s.bin.find (reqBin r) .trial).isNone && (s.bin.free (reqBin r)).isSome
    expert := fun _ _ => true
    body := fun r s =>
      match s.bin.free (reqBin r) with
      | none => s.fail .badFormat
      | some i =>
        if !s.nvTakes then s.fail .nvBusy else
        let size := fieldAt r.payload 4 4
        let t := s.endInterims (isVerify (reqBin r)) .replaced .done []
        let u := (t.slotTo i .writing 0).updateRecord (reqBin r) (i % 2) 1 0
        let v := { u with bin := { u.bin with
          opened := reqBin r
          sizeBin := if reqBin r then size else u.bin.sizeBin
          sizeSvc := if reqBin r then u.bin.sizeSvc else size } }
        v.ok }

/-- UPDATE_BEGIN (R485). -/
def execUpdateBegin (a : At) (r : Req) (s : State) : Host.Outcome State Fault Refusal := .next (serve opUpdateBegin r (s.advance a))

/-- The slot that a write goes to: that of the image opened last, while it may be written (R485). -/
def State.writeSlot (s : State) : Option Nat :=
  (s.bin.free s.bin.opened).filter (fun i => [SlotState.writing, .verified, .previous, .rejected].contains (s.bin.slot i))

/-- SIZE of the image opened last. -/
def State.openSize (s : State) : Nat := if s.bin.opened then s.bin.sizeBin else s.bin.sizeSvc

/-- UPDATE_WRITE (R485): the bytes go through the journal; a slot that was no longer WRITING is again. -/
def opUpdateWrite : OpDef :=
  { cls := 5, opcode := 0x0021, fns := [0], fallback := true
    len := fun n => decide (9 ≤ n) && decide (n ≤ 4064)
    content := fun s r => r.target == 0 && allZero ((r.payload.drop 4).take 4) && s.writeSlot.isSome &&
      decide (fieldAt r.payload 0 4 + (r.payload.length - 8) ≤ s.openSize)
    expert := fun _ _ => true
    body := fun r s =>
      match s.writeSlot with
      | none => s.fail .badFormat
      | some i =>
        if !s.nvTakes then s.fail .nvBusy else
        let t := if s.bin.slot i = .writing then s else s.slotTo i .writing 0
        let u := { t with nv := t.nv.storeBytes (imageBase i + fieldAt r.payload 0 4) (r.payload.drop 8) }
        u.ok }

/-- UPDATE_WRITE (R485). -/
def execUpdateWrite (a : At) (r : Req) (s : State) : Host.Outcome State Fault Refusal := .next (serve opUpdateWrite r (s.advance a))

/-- UPDATE_VERIFY (R485): ACCEPTED; the slot is WRITTEN until the verification ends. -/
def opUpdateVerify : OpDef :=
  { cls := 5, opcode := 0x0022, fns := [0], fallback := true
    len := fun n => n == 4
    content := fun s r => r.target == 0 && decide (fieldAt r.payload 0 1 ≤ 1) && allZero (r.payload.drop 1) && (s.bin.free (reqBin r)).isSome
    expert := fun _ _ => true
    body := fun r s =>
      match s.bin.free (reqBin r) with
      | none => s.fail .badFormat
      | some i => (s.slotTo i .written (s.bin.version i)).fail .accepted }

/-- UPDATE_VERIFY (R485). -/
def execUpdateVerify (a : At) (r : Req) (s : State) : Host.Outcome State Fault Refusal := .next (serve opUpdateVerify r (s.advance a))

/-- VERIFY_COMPLETE (R483, R485): the header's checks and the signature's outcome decide. -/
def execVerifyComplete (a : At) (binnacle verifies : Bool) (s : State) : Host.Outcome State Fault Refusal :=
  let t := s.advance a
  .next (match t.bin.free binnacle with
    | some i =>
      if !t.rdy Rdy.binnacle || t.bin.slot i != .written then t else
      let good := verifies && t.headerFits i
      let v := t.nv.imageVersion (imageBase i)
      let u := (t.slotTo i (if good then .verified else .rejected) v).updateRecord binnacle (i % 2) (if good then 2 else 3) v
      u.endInterims (isVerify binnacle) .effect (if good then .done else .badFormat) []
    | none => t)

/-- The four slots as UPDATE_STATUS reports them (R484). -/
def opUpdateStatus : OpDef :=
  { cls := 5, opcode := 0x0024, fns := [0], fallback := true
    len := fun n => n == 0
    content := fun _ r => r.target == 0
    ready := fun s r => s.rdy r.fn && s.rdy Rdy.nvstore
    body := fun _ s => s.ok ((upTo 4).flatMap (fun i => le 1 (s.bin.slot i).code ++ le 3 0 ++ le 4 (s.bin.version i))) }

/-- UPDATE_STATUS (R406). -/
def execUpdateStatus (a : At) (r : Req) (s : State) : Host.Outcome State Fault Refusal := .next (serve opUpdateStatus r (s.advance a))

/-! ### Restarts on command (R406, R473, R476, R486) -/

/-- Answer and post, and then act: the response goes before the action (R406). -/
def State.postThen (r : Req) (f : State → State) (s : State) : State × Option Resp :=
  (f ((s.finish r.session r.tag (s.resp .done)).postNext r.session), none)

/-- A service image on trial starts at once, or in autopilot waits for RESET (R476, R486). -/
def State.swapService (i : Nat) (s : State) : State :=
  let t := s.slotTo i .trial (s.bin.version i)
  if 3 ≤ t.bin.failures then { t with bin.trialBin := some false } else t.restartServices 2

/-- A Binnacle image on trial: ROM starts it, and Binnacle restarts with its retained area (R478, R486). -/
def State.swapBinnacle (i : Nat) (s : State) : State :=
  let t := s.slotTo i .trial (s.bin.version i)
  let u := State.updateRecord true (i % 2) 4 (t.bin.version i) { t with bin.trialSince := t.clock }
  u.binnacleRestart true

/-- UPDATE_SWAP (R485). -/
def opUpdateSwap : OpDef :=
  { cls := 5, opcode := 0x0023, fns := [0], fallback := true
    len := fun n => n == 4
    content := fun s r => r.target == 0 && decide (fieldAt r.payload 0 1 ≤ 1) && allZero (r.payload.drop 1) &&
      (s.bin.free (reqBin r)).any (fun i => s.bin.slot i == .verified || s.bin.slot i == .previous)
    expert := fun _ _ => true
    body := fun r s =>
      match s.bin.free (reqBin r) with
      | none => s.fail .badFormat
      | some i =>
        if !s.nvTakes then s.fail .nvBusy
        else s.postThen r (if reqBin r then State.swapBinnacle i else State.swapService i) }

/-- UPDATE_SWAP (R485). -/
def execUpdateSwap (a : At) (r : Req) (s : State) : Host.Outcome State Fault Refusal := .next (serve opUpdateSwap r (s.advance a))

/-- HEALTHY (R486): the slot on trial becomes ACTIVE and the former ACTIVE slot PREVIOUS. -/
def execHealthy (a : At) (binnacle : Bool) (s : State) : Host.Outcome State Fault Refusal :=
  let t := s.advance a
  .next (match t.bin.find binnacle .trial with
    | some i =>
      if t.rdy (if binnacle then Rdy.binnacle else Rdy.services) && decide (t.clock < t.bin.trialSince + 60000000) then
        let b := match t.bin.find binnacle .active with
          | some j => t.bin.setSlot j .previous
          | none => t.bin
        let u := ({ t with bin := b } : State).slotTo i .active (t.bin.version i)
        u.updateRecord binnacle (i % 2) 5 (t.bin.version i)
      else t
    | none => t)

/-- TRIAL_TIMEOUT (R473, R486): 60 s without HEALTHY. -/
def execTrialTimeout (a : At) (binnacle : Bool) (s : State) : Host.Outcome State Fault Refusal :=
  let t := s.advance a
  .next (if (t.bin.find binnacle .trial).isNone || !t.rdy Rdy.binnacle || decide (t.clock < t.bin.trialSince + 60000000) then t
    else if binnacle then ((t.trialFails true).saveBinnacle).binnacleRestart true
    else if t.svcOn then t.serviceFailure 5 255 else t)

/-- RESET with SCOPE 00h: the failure count returns to 0 and the ACTIVE slot, or the one on trial, starts (R473, R476). -/
def State.resetServices (s : State) : State := ({ s with bin.failures := 0 } : State).saveBinnacle.restartServices 2

/-- RESET with SCOPE 01h: a module reset; it ends autopilot only for an image that waits for its trial (R476, R526). -/
def State.resetModule (s : State) : State :=
  let t := if s.bin.trialBin = some false then ({ s with bin.failures := 0 } : State).saveBinnacle else s
  (t.moduleReset true).startUp 4

/-- RESET (R406). -/
def opReset : OpDef :=
  { cls := 5, opcode := 0x0030, fns := [0], fallback := true
    len := fun n => n == 4
    content := fun _ r => r.target == 0 && decide (fieldAt r.payload 0 1 ≤ 1) && allZero (r.payload.drop 1)
    expert := fun _ _ => true
    body := fun r s => s.postThen r (if fieldAt r.payload 0 1 = 0 then State.resetServices else State.resetModule) }

/-- RESET (R473, R526). -/
def execReset (a : At) (r : Req) (s : State) : Host.Outcome State Fault Refusal := .next (serve opReset r (s.advance a))

/-- REINITIALIZE_DEVICE (R359): COLDSTART 0 resets the module, WARMSTART 1 restarts the services; the acknowledgement is sent
first. -/
def execReinitializeDevice (a : At) (p peer state : Nat) (password : List Byte) (s : State) : Host.Outcome State Fault Refusal :=
  .next (State.bacnetAlways p (fun t =>
    if !t.passwordFits password then t.respondError p peer errPassword
    else if 2 ≤ state then t.respondError p peer errOptional
    else
      let u := State.record3 16 3 0x0205 (le 1 state) 0 (t.port p (fun x => { x with framesOut := x.framesOut + 1 }))
      if state = 1 then u.restartServices 2 else (u.moduleReset true).startUp 4) (s.advance a))

end Sys2Proof.Machine
end

