-- ==== Sys2Proof/Machine/Messages.lean ====
section
/-! DEFINITION. Machine/Messages.lean: the operations of sessions, keys and the event ring (R385, R389, R390, R395, R399, R407,
R409). -/

namespace Sys2Proof.Machine

/-! ### BARRIER and IDENTIFY -/

/-- BARRIER (R385): completes once everything accepted before it on its server has been answered. -/
def opBarrier : OpDef :=
  { cls := 5, opcode := 1, fns := [0], fallback := true, open_ := true
    len := fun n => n == 0
    content := fun _ r => r.target == 0
    body := fun _ s => (s.settle, none) }

/-- BARRIER (R385). -/
def execBarrier (a : At) (r : Req) (s : State) : Host.Outcome State Fault Refusal := .next (serve opBarrier r (s.advance a))

/-- FW_VERSION (R372): the running service image, 0 while SERVICES is clear. -/
def State.fwVersion (s : State) : Nat := if s.rdy Rdy.services then s.bin.version (s.bin.running false) else 0

/-- RESET_COUNT (R372, R455): sheaf counter 1, modulo 65 536. -/
def State.resetCount (s : State) : Nat := s.sheafValue 1 % 65536

/-- The 48 bytes of IDENTIFY (R407). -/
def State.identity (s : State) (session : Nat) : List Byte :=
  le 2 0x7256 ++ [Config.stepping] ++ le 1 1 ++ le 8 Config.serial.toNat ++ le 4 s.ready.toNat ++ le 4 s.fwVersion ++
    le 1 (s.bin.running false) ++ le 1 (s.bin.running true - 2) ++ le 2 0 ++ le 4 (s.bin.version (s.bin.running true)) ++
    le 2 s.resetCount ++ le 2 s.mb.serverStarts.toNat ++ le 1 (s.rights session).code ++ le 1 (bit s.bin.autopilot) ++
    le 6 0 ++ le 8 s.now.toNat

/-- IDENTIFY (R407). -/
def opIdentify : OpDef :=
  { cls := 5, opcode := 2, fns := [0], fallback := true, open_ := true
    len := fun n => n == 0
    content := fun _ r => r.target == 0
    body := fun r s => s.ok (s.identity r.session) }

/-- IDENTIFY (R407). -/
def execIdentify (a : At) (r : Req) (s : State) : Host.Outcome State Fault Refusal := .next (serve opIdentify r (s.advance a))

/-! ### Keys and sessions (R389–R391) -/

/-- A security object as stored (R399, R446): a record of TYPE 0007h, its key OBJECT × 256 + INDEX. -/
def State.secObject (s : State) (object index : Nat) : Option (List Byte) := s.nv.load 7 (object * 256 + index)

/-- The key a KEY_ID names: 01h BASIC_KEY, 02h EXPERT_KEY. -/
def State.keyOf (s : State) (id : Nat) : Option (List Byte) := s.secObject (if id = 1 then 0x10 else 0x11) 0

/-- What PROOF, SERVER_PROOF and SK are formed over: a prefix, SESSION and the two nonces (R390). -/
def proofText (prefix_ session : Nat) (o : Opening) : List Byte :=
  [0x4A, BitVec.ofNat 8 prefix_] ++ le 4 session ++ o.clientNonce ++ o.serverNonce

/-- What SESSION_OPEN leaves: the key named and the two nonces. -/
def State.newOpening (s : State) (p : List Byte) : Opening :=
  { keyId := fieldAt p 0 1, clientNonce := p.drop 4, serverNonce := le 16 (Config.serverNonce s.free).toNat }

/-- SESSION_OPEN on a session that exists (R390). -/
def openBody (r : Req) (s : State) : State × Option Resp :=
  if (s.keyOf (fieldAt r.payload 0 1)).isNone then s.fail .notPermitted
  else
    let o := s.newOpening r.payload
    let x := s.session r.session
    State.ok (State.setSession r.session { x with opening := some o } s.freeNext) (le 4 r.session ++ o.serverNonce)

/-- SESSION_OPEN (R390, R406). -/
def opSessionOpen : OpDef :=
  { cls := 5, opcode := 3, fns := [0], fallback := true, open_ := true
    len := fun n => n == 20
    content := fun _ r => r.target == 0 && decide (1 ≤ fieldAt r.payload 0 1 ∧ fieldAt r.payload 0 1 ≤ 2) &&
      allZero ((r.payload.drop 1).take 3)
    ready := fun s r => s.rdy r.fn && s.rdy Rdy.nvstore
    body := openBody }

/-- SESSION_OPEN (R390). -/
def execSessionOpen (a : At) (r : Req) (s : State) : Host.Outcome State Fault Refusal := .next (serve opSessionOpen r (s.advance a))

/-- SOURCE of the records of R412: Binnacle's for the fallback paths. -/
def sessionSource (n : Nat) : Nat := if binnacleSide n then 0 else 16

/-- IPv4 address a session comes from, 0 for a local one. -/
def State.sessionIp (s : State) (n : Nat) : Nat :=
  match s.udpSession n with
  | some u => u.ip
  | none => 0

/-- A datagram or proof refused (R392, R412). -/
def State.refuseAuth (ip : Nat) (s : State) : State :=
  { s with tr.authRefused := s.tr.authRefused + 1, tr.authLastIp := ip }

/-- A wrong PROOF: NOT_PERMITTED, and the session returns to its starting rights (R390). -/
def State.proofWrong (n : Nat) (s : State) : State × Option Resp :=
  let x := s.session n
  State.fail ((State.setSession n { x with proven := none, opening := none } s).refuseAuth (s.sessionIp n)) .notPermitted

/-- A correct PROOF: rights, SK and the record (R390, R412). -/
def State.proofRight (n : Nat) (key : List Byte) (o : Opening) (s : State) : State × Option Resp :=
  let rights := if o.keyId = 1 then Rights.basic else .expert
  let ses : Session := { proven := some rights, sk := hmacSha256 key (proofText 0x4B n o) }
  let t := State.setSession n ses s
  State.ok (t.record (sessionSource n) 1 0x0302 (le 4 n ++ le 1 rights.code ++ le 4 (s.sessionIp n)) false 0)
    (hmacSha256 key (proofText 0x53 n o))

/-- SESSION_PROVE (R390). -/
def proveBody (r : Req) (s : State) : State × Option Resp :=
  match (s.session r.session).opening with
  | none => s.proofWrong r.session
  | some o =>
    match s.keyOf o.keyId with
    | none => s.proofWrong r.session
    | some key =>
      if hmacSha256 key (proofText 0x50 r.session o) = r.payload then s.proofRight r.session key o
      else s.proofWrong r.session

/-- SESSION_PROVE (R390, R406). -/
def opSessionProve : OpDef :=
  { cls := 5, opcode := 4, fns := [0], fallback := true, open_ := true
    len := fun n => n == 32
    content := fun _ r => r.target == 0
    ready := fun s r => s.rdy r.fn && s.rdy Rdy.nvstore
    body := proveBody }

/-- SESSION_PROVE (R390). -/
def execSessionProve (a : At) (r : Req) (s : State) : Host.Outcome State Fault Refusal := .next (serve opSessionProve r (s.advance a))

/-- SESSION_CLOSE (R390): the session returns to its starting rights; a UDP session keeps SK for this answer and ends with it. -/
def opSessionClose : OpDef :=
  { cls := 5, opcode := 5, fns := [0], fallback := true, open_ := true
    len := fun n => n == 0
    content := fun _ r => r.target == 0
    body := fun r s =>
      let sk := if 16 ≤ r.session then (s.session r.session).sk else []
      State.ok (State.setSession r.session { sk := sk } s) }

/-- SESSION_CLOSE (R390). -/
def execSessionClose (a : At) (r : Req) (s : State) : Host.Outcome State Fault Refusal := .next (serve opSessionClose r (s.advance a))

/-! ### Security objects (R399) -/

/-- Objects with one INDEX but SC_ISSUER, which has four. -/
def secKnown (object index : Nat) : Bool :=
  ([1, 2, 4, 5, 6, 0x10, 0x11].contains object && index == 0) || (object == 3 && decide (index < 4))

/-- Printable or not, a byte of ASCII text. -/
def asciiText (bs : List Byte) : Bool := bs.all (fun b => decide (b.toNat < 128))

/-- DATA fits its object; length 0 removes it. -/
def secFits (object : Nat) (d : List Byte) : Bool :=
  d.isEmpty ||
  (match object with
   | 1 | 3 => decide (d.length ≤ 4000)
   | 4 => decide (d.length ≤ 128) && asciiText d
   | 5 => decide (d.length ≤ 253) && asciiText d
   | 6 => decide (d.length ≤ 20)
   | _ => d.length == 32)

/-- The secret objects. -/
def secSecret (object : Nat) : Bool := [2, 6, 0x10, 0x11].contains object

/-- SEC_WRITE (R399): stored, or removed, in the record store before the answer. -/
def secWriteBody (r : Req) (s : State) : State × Option Resp :=
  let object := fieldAt r.payload 0 1
  let index := fieldAt r.payload 1 1
  let d := r.payload.drop 4
  if !s.nvTakes then s.fail .nvBusy else
  match s.saveNow { typ := 7, key := object * 256 + index, payload := d, flags := if d.isEmpty then 4 else 0 } with
  | (.done, t) =>
    State.ok ((t.record (sessionSource r.session) 2 0x0305 (le 1 object ++ le 1 index ++ le 1 (bit (!d.isEmpty))) false 0).refreshPorts)
  | (st, t) => t.fail st

/-- SEC_WRITE (R399, R406). -/
def opSecWrite : OpDef :=
  { cls := 5, opcode := 6, fns := [0], fallback := true
    len := fun n => decide (4 ≤ n ∧ n ≤ 4064)
    content := fun _ r => r.target == 0 && secKnown (fieldAt r.payload 0 1) (fieldAt r.payload 1 1) &&
      allZero ((r.payload.drop 2).take 2) && secFits (fieldAt r.payload 0 1) (r.payload.drop 4)
    expert := fun _ _ => true
    body := secWriteBody }

/-- SEC_WRITE (R399). -/
def execSecWrite (a : At) (r : Req) (s : State) : Host.Outcome State Fault Refusal := .next (serve opSecWrite r (s.advance a))

/-- The 40 bytes of SEC_INFO (R399, R406). -/
def State.secInfo (s : State) (object index : Nat) : List Byte :=
  match s.secObject object index with
  | none => List.replicate 40 0
  | some d => le 1 1 ++ le 3 0 ++ le 4 d.length ++ (if secSecret object then List.replicate 32 0 else sha256 d)

/-- SEC_INFO (R399). -/
def opSecInfo : OpDef :=
  { cls := 5, opcode := 7, fns := [0], fallback := true
    len := fun n => n == 4
    content := fun _ r => r.target == 0 && secKnown (fieldAt r.payload 0 1) (fieldAt r.payload 1 1) && allZero (r.payload.drop 2)
    ready := fun s r => s.rdy r.fn && s.rdy Rdy.nvstore
    body := fun r s => s.ok (s.secInfo (fieldAt r.payload 0 1) (fieldAt r.payload 1 1)) }

/-- SEC_INFO (R399). -/
def execSecInfo (a : At) (r : Req) (s : State) : Host.Outcome State Fault Refusal := .next (serve opSecInfo r (s.advance a))

/-! ### The event ring (R395, R409) -/

/-- SEQ of the oldest of the `n` newest entries, the newest being `q`; 0 is skipped (R395). -/
def oldestSeq (q n : Nat) : Nat := if n ≤ q then q + 1 - n else 2 ^ 32 + q - n

/-- The SEQ `j` entries after `q`, skipping 0. -/
def seqAfter (q j : Nat) : Nat := if q + j < 2 ^ 32 then q + j else q + j + 1 - 2 ^ 32

/-- FIRST of R409: the oldest SEQ held, or the next SEQ when the ring holds none. -/
def State.evtFirst (s : State) : Nat :=
  if s.mb.evtPosted = 0 then (nextEventSeq s.mb.evtSeq).toNat else oldestSeq s.mb.evtSeq.toNat s.mb.evtPosted

/-- The entry `j` places after the oldest held. -/
def State.evtEntry (s : State) (j : Nat) : List Byte :=
  s.mb.mem.readBytes (0x300000 + (s.mb.evtProd.toNat + 65536 - s.mb.evtPosted + j) % 1024 * 64) 64

/-- EVENT_READ (R409): at most COUNT entries from FROM, or from FIRST when FROM is older. -/
def eventReadBody (r : Req) (s : State) : State × Option Resp :=
  let from_ := fieldAt r.payload 0 4
  let first := s.evtFirst
  let js := ((upTo s.mb.evtPosted).filter (fun j => !newer 32 from_ (seqAfter first j))).take (fieldAt r.payload 4 1)
  let next := match js.getLast? with
    | some j => seqAfter first (j + 1)
    | none => (nextEventSeq s.mb.evtSeq).toNat
  s.ok (le 4 first ++ le 4 next ++ le 1 js.length ++ le 7 0 ++ js.flatMap s.evtEntry)

/-- EVENT_READ (R409). -/
def opEventRead : OpDef :=
  { cls := 7, opcode := 1, fns := [16]
    len := fun n => n == 8
    content := fun _ r => r.target == 0 && decide (1 ≤ fieldAt r.payload 4 1 ∧ fieldAt r.payload 4 1 ≤ 63) && allZero (r.payload.drop 5)
    body := eventReadBody }

/-- EVENT_READ (R409). -/
def execEventRead (a : At) (r : Req) (s : State) : Host.Outcome State Fault Refusal := .next (serve opEventRead r (s.advance a))

/-- EVENT_STATUS (R409). -/
def opEventStatus : OpDef :=
  { cls := 7, opcode := 2, fns := [16]
    len := fun n => n == 0
    content := fun _ r => r.target == 0
    body := fun _ s => s.ok (le 4 s.mb.evtSeq.toNat ++ le 4 s.mb.evtDroppedAll ++ le 1 (s.cfgN Fid.EVT_CONSUMER) ++ le 7 0) }

/-- EVENT_STATUS (R409). -/
def execEventStatus (a : At) (r : Req) (s : State) : Host.Outcome State Fault Refusal := .next (serve opEventStatus r (s.advance a))

/-! ### The opcode tables (R400–R409) -/

/-- Every operation of the seven classes. -/
def opTable : List OpDef :=
  [opAlmanacRead, opAlmanacWrite, opAlmanacTrim, opAlmanacAlarm, opBackupRead, opBackupWrite, opHelmRead, opHelmWrite] ++
  [opBankCopy, opBankSwap, opHelmDiag, opSensorRead, opSelftest, opPortStatus, opPartnerList, opBindRead] ++
  [opCfgBegin, opCfgWrite, opCfgCommit, opCfgInfo, opCfgRead, opClampRead, opChartWrite, opChartStatus] ++
  [opConcordRead, opFcRead, opFcEdgeRead, opFcForce, opFcClear, opI2cRead, opLogRead, opLogAck] ++
  [opSlotRead, opSlotWrite, opSheafRead, opOccRead, opAoForce, opAgoForce, opAoRead, opAgoRead] ++
  [opPairStatus, opPairHandover, opPolicyRead, opSvcReadProperty, opSvcWriteProperty, opSvcTimeSet, opSvcTimeRead, opSoundStart] ++
  [opModeWrite, opSoundAbort, opSoundStatus, opSoundCapture, opSoundResult, opSoundDeliver, opTillerRead, opTillerState] ++
  [opUiRead, opUiCalibrate, opUpdateBegin, opUpdateWrite, opUpdateVerify, opUpdateStatus, opUpdateSwap, opReset] ++
  [opWpForecast, opWpTariff, opWpReplan, opWpStatus, opWpTrajectory, opZoneStatus, opSignalRead, opSignalWrite] ++
  [opHostInputWrite, opBarrier, opIdentify, opSessionOpen, opSessionProve, opSessionClose, opSecWrite, opSecInfo] ++
  [opEventRead, opEventStatus]

/-- The operation of a CLASS and an OPCODE. -/
def opNamed (cls opcode : Nat) : Option OpDef := opTable.find? (fun d => d.cls == cls && d.opcode == opcode)

end Sys2Proof.Machine
end

