-- ==== Sys2Proof/Machine/Mailbox.lean ====
section
/-! DEFINITION. Machine/Mailbox.lean: the register window (R371–R374), the rings (R378–R380), the fallback paths (R393, R394) and UDP
datagrams (R391, R392). -/

namespace Sys2Proof.Machine

/-! ### A message as it arrives (R375, R377) -/

/-- The request a message's header and payload spell. -/
def requestOf (session : Nat) (bs : List Byte) : Req :=
  { session := session, tag := fieldAt bs 4 1, seq := fieldAt bs 12 4, target := fieldAt bs 16 4, fn := fieldAt bs 11 1
    payload := (bs.drop 32).take (fieldAt bs 8 2) }

/-- Step 1 of R21: MAGIC, VERSION, request STATUS and reserved FLAGS; RETRY is UDP's (R375). -/
def headerGood (session : Nat) (bs : List Byte) : Bool :=
  fieldAt bs 0 2 == 0x4D4A && fieldAt bs 2 1 == 1 && fieldAt bs 10 1 == 0 &&
    (fieldAt bs 3 1 == 0 || (decide (16 ≤ session) && fieldAt bs 3 1 == 2))

/-- Step 3 of R21: the CRC over bytes 0–27 and the payload (R375). -/
def crcGood (bs : List Byte) : Bool := crc32c (bs.take 28 ++ (bs.drop 32).take (fieldAt bs 8 2)) == fieldAt bs 28 4

/-- Steps 1 to 4 of R21: the operation asked for, or the rejection. `unread` says that a word of the message could not be read. -/
def headerCheck (session : Nat) (unread : Bool) (bs : List Byte) : Status ⊕ OpDef :=
  if !headerGood session bs then .inl .badFormat
  else if lengthLimit session < fieldAt bs 8 2 then .inl .badLength
  else if unread || !crcGood bs then .inl .badFormat
  else match opNamed (fieldAt bs 5 1) (fieldAt bs 6 2) with
    | none => .inl .unknownOpcode
    | some d => .inr d

/-- A server takes a message (R380): rejected, or accepted and executed. -/
def State.deliver (session : Nat) (unread : Bool) (bs : List Byte) (s : State) : State :=
  match headerCheck session unread bs with
  | .inl st => s.reject (fieldAt bs 5 1) (fieldAt bs 6 2) (requestOf session bs) st
  | .inr d => serve d (requestOf session bs) s

/-- A message goes to its server, or waits behind a BARRIER of its session (R385). -/
def State.offer (session : Nat) (bs : List Byte) (s : State) : State :=
  if s.barred session || s.mb.waiting.any (fun w => w.1 == session) then { s with mb.waiting := s.mb.waiting ++ [(session, bs)] }
  else s.deliver session false bs

/-- Messages whose BARRIER has completed are taken, in their order (R383). -/
def State.offerWaiting (s : State) : State :=
  State.each s.mb.waiting (fun w t => t.offer w.1 w.2) { s with mb.waiting := [] }

/-! ### Rings (R378–R380, R382) -/

/-- The words of a range that read uncorrectable (R472). -/
def State.slotUnread (s : State) (a len : Nat) : Bool := s.mb.badWords.any (fun w => decide (a ≤ w * 8 ∧ w * 8 < a + len))

/-- Requests standing in the ring. -/
def State.requests (s : State) : Nat := (s.mb.reqProd - s.mb.reqCons).toNat

/-- The bytes of the message in a buffer: its header and payload. -/
def State.messageLength (s : State) (a : Nat) : Nat := 32 + fieldAt (s.mb.mem.readBytes a 32) 8 2

/-- REQUEST_ACCEPT (R380): the request at REQ_CONS is read, REQ_CONS advances, and the request takes effect: one that resets
the module leaves the index as the reset does. -/
def State.requestAccept (s : State) : State :=
  if !s.serves 1 || s.barred 1 || s.requests == 0 then s else
  let a := 0x100000 + s.mb.reqCons.toNat % 256 * 4096
  State.deliver 1 (s.slotUnread a (s.messageLength a)) (s.mb.mem.readBytes a 4096)
    (State.when (s.requests == 256) (State.irq Irq.reqSpace) { s with mb.reqCons := s.mb.reqCons + 1 })

/-- REQUEST_ACCEPT (R380). -/
def execRequestAccept (a : At) (s : State) : Host.Outcome State Fault Refusal := .next (s.advance a).requestAccept

/-- A UDP session ends (R390, R391): nothing of it is answered any more. -/
def State.closeUdp (n : Nat) (s : State) : State :=
  State.settle { s with
    tr.udp := s.tr.udp.filter (fun u => u.id != n)
    mb.flights := s.mb.flights.filter (fun f => f.session != n)
    mb.waiting := s.mb.waiting.filter (fun w => w.1 != n) }

/-- A response that ends its UDP session: SESSION_CLOSE, and a wrong proof (R390). -/
def Flight.endsUdp (f : Flight) : Bool :=
  decide (16 ≤ f.session) && f.cls == 5 &&
    ((f.opcode == 5 && f.resp.any (fun x => x.status == .done)) || (f.opcode == 4 && f.resp.any (fun x => x.status == .notPermitted)))

/-- RESPONSE_POST (R382): the next response of a session is posted when its transport takes it, and messages that a BARRIER
held are taken. -/
def State.responsePost (n : Nat) (s : State) : State :=
  if !s.canPost n then s else
  match s.nextPost n with
  | none => s
  | some f =>
    let t := s.postNext n
    (if f.endsUdp then t.closeUdp n else t).offerWaiting

/-- RESPONSE_POST (R382). -/
def execResponsePost (a : At) (session : Nat) (s : State) : Host.Outcome State Fault Refusal := .next ((s.advance a).responsePost session)

/-! ### Registers (R371–R374) -/

/-- An index write is ignored: PROTOCOL and the record (R374, R379, R412). -/
def State.protocolError (off value : Nat) (s : State) : State :=
  (State.irq Irq.protocol s).record 16 2 0x0304 (le 2 off ++ le 4 value) false 0

/-- A write of REQ_PROD (R379). -/
def State.writeReqProd (value : Nat) (s : State) : State :=
  let v := BitVec.ofNat 16 value
  if 256 < (v - s.mb.reqCons).toNat ∨ 256 < (v - s.mb.reqProd).toNat then s.protocolError 0x010 value
  else { s with mb.reqProd := v }

/-- A write of RSP_CONS (R379). -/
def State.writeRspCons (value : Nat) (s : State) : State :=
  let v := BitVec.ofNat 16 value
  if (s.mb.rspProd - s.mb.rspCons).toNat < (v - s.mb.rspCons).toNat then s.protocolError 0x01C value
  else { s with mb.rspCons := v }

/-- A write of EVT_CONS (R379). -/
def State.writeEvtCons (value : Nat) (s : State) : State :=
  let v := BitVec.ofNat 16 value
  if (s.mb.evtProd - s.mb.evtCons).toNat < (v - s.mb.evtCons).toNat then s.protocolError 0x024 value
  else { s with mb.evtCons := v }

/-- A write of IRQ_STATUS clears the bits written as 1 (R372). -/
def State.writeIrqStatus (value : Nat) (s : State) : State :=
  { s with mb.irqStatus := s.mb.irqStatus &&& ~~~(BitVec.ofNat 32 value) }

/-- A write of FB_DOORBELL (R393): GO runs the message of the request buffer. -/
def State.writeDoorbell (value : Nat) (s : State) : State :=
  if !bitOf value 0 || s.mb.fbBusy then s else
  State.deliver 2 (s.slotUnread 0x310000 (s.messageLength 0x310000)) (s.mb.mem.readBytes 0x310000 4096) { s with mb.fbBusy := true, mb.fbDone := false }

/-- A whole word written to a register (R372, R374): writes to others are ignored. -/
def State.writeRegister (off value : Nat) (s : State) : State :=
  if off = 0x010 then s.writeReqProd value
  else if off = 0x01C then s.writeRspCons value
  else if off = 0x024 then s.writeEvtCons value
  else if off = 0x030 then s.writeIrqStatus value
  else if off = 0x034 then { s with mb.irqEnable := BitVec.ofNat 32 value &&& 0xFF }
  else if off = 0x040 then s.writeDoorbell value
  else s

/-- What the host reads of a register (R372). EVT_LOST is cleared by EVT_LOST_READ. -/
def State.readRegister (s : State) (off : Nat) : Nat :=
  if off = 0x000 then 0x7256 * 65536 + 256 + Config.stepping.toNat
  else if off = 0x004 then s.fwVersion
  else if off = 0x008 then s.resetCount * 65536 + s.mb.serverStarts.toNat
  else if off = 0x00C then s.ready.toNat
  else if off = 0x010 then s.mb.reqProd.toNat
  else if off = 0x014 then s.mb.reqCons.toNat
  else if off = 0x018 then s.mb.rspProd.toNat
  else if off = 0x01C then s.mb.rspCons.toNat
  else if off = 0x020 then s.mb.evtProd.toNat
  else if off = 0x024 then s.mb.evtCons.toNat
  else if off = 0x028 then s.mb.evtLost.toNat
  else if off = 0x030 then s.mb.irqStatus.toNat
  else if off = 0x034 then s.mb.irqEnable.toNat
  else if off = 0x044 then 2 * bit s.mb.fbBusy + bit s.mb.fbDone
  else 0

/-- What the host reads at an address (R371). -/
def State.readWindow (s : State) (a : Nat) : Byte :=
  if a < 0x1000 then BitVec.ofNat 8 (s.readRegister (a / 4 * 4) / 256 ^ (a % 4))
  else if 0x100000 ≤ a ∧ a < 0x312000 then s.mb.mem.get a
  else 0

/-- Run a host access to the window: the target answers only while BINNACLE is set (R374). -/
def State.window (f : State → State) (s : State) : State := if s.rdy Rdy.binnacle then f s else s

/-- REQ_PROD_WRITE (R379). -/
def execReqProdWrite (a : At) (value : Nat) (s : State) : Host.Outcome State Fault Refusal :=
  .next ((s.advance a).window (State.writeReqProd value))

/-- RSP_CONS_WRITE (R379). -/
def execRspConsWrite (a : At) (value : Nat) (s : State) : Host.Outcome State Fault Refusal :=
  .next ((s.advance a).window (State.writeRspCons value))

/-- EVT_CONS_WRITE (R379). -/
def execEvtConsWrite (a : At) (value : Nat) (s : State) : Host.Outcome State Fault Refusal :=
  .next ((s.advance a).window (State.writeEvtCons value))

/-- IRQ_STATUS_WRITE (R372). -/
def execIrqStatusWrite (a : At) (value : Nat) (s : State) : Host.Outcome State Fault Refusal :=
  .next ((s.advance a).window (State.writeIrqStatus value))

/-- EVT_LOST_READ (R372): the read clears the count. -/
def execEvtLostRead (a : At) (s : State) : Host.Outcome State Fault Refusal :=
  .next ((s.advance a).window (fun t => { t with mb.evtLost := 0 }))

/-- FB_DOORBELL_GO (R393). -/
def execFbDoorbellGo (a : At) (value : Nat) (s : State) : Host.Outcome State Fault Refusal :=
  .next ((s.advance a).window (State.writeDoorbell value))

/-- The host may write a byte of the request slots and of the fallback request buffer (R371). -/
def hostWritable (a : Nat) : Bool := decide (0x100000 ≤ a ∧ a < 0x200000) || decide (0x310000 ≤ a ∧ a < 0x311000)

/-- Last address and one of the region an address lies in (R371). -/
def regionEnd (a : Nat) : Nat := if a < 0x1000 then 0x1000 else if a < 0x200000 then 0x200000 else 0x311000

/-- Bytes written to slots: written words read again. -/
def State.writeSlots (addr : Nat) (bs : List Byte) (s : State) : State :=
  { s with
    mb.mem := s.mb.mem.writeBytes addr bs
    mb.badWords := s.mb.badWords.filter (fun w => !(decide (addr ≤ w * 8 + 7 ∧ w * 8 < addr + bs.length))) }

/-- The whole aligned words of a transaction, with their offsets (R374). -/
def wholeWords (addr : Nat) (bs : List Byte) : List (Nat × Nat) :=
  ((upTo 1024).filter (fun k => decide (addr ≤ 4 * k ∧ 4 * k + 4 ≤ addr + bs.length))).map
    (fun k => (4 * k, fieldAt bs (4 * k - addr) 4))

/-- A write transaction of the QSPI target: it goes on as reserved space at the end of its region (R374). -/
def State.writeWindow (addr : Nat) (bytes : List Byte) (s : State) : State :=
  let bs := bytes.take (regionEnd addr - addr)
  if addr < 0x1000 then State.each (wholeWords addr bs) (fun w t => t.writeRegister w.1 w.2) s
  else if hostWritable addr then s.writeSlots addr bs
  else s

/-- REGISTER_WRITE (R374): a write transaction of the register window, or with `alm` of an Almanac domain register (R555). -/
def execRegisterWrite (a : At) (alm : Bool) (addr : Nat) (bytes : List Byte) (s : State) : Host.Outcome State Fault Refusal :=
  let t := s.advance a
  .next (if alm then (if bytes.length = 4 then { t with alm := t.alm.writeReg addr (leNat bytes) } else t)
    else t.window (State.writeWindow addr bytes))

/-! ### The fallback UART (R394) -/

/-- Requests the UART path holds. -/
def State.uartHeld (s : State) : Nat :=
  (s.mb.flights.filter (fun f => f.session == 3)).length + (s.mb.waiting.filter (fun w => w.1 == 3)).length

/-- A byte string of 32 + LENGTH bytes whose MAGIC matches. -/
def isMessage (bs : List Byte) : Bool :=
  decide (32 ≤ bs.length) && fieldAt bs 0 2 == 0x4D4A && bs.length == 32 + fieldAt bs 8 2

/-- UART_MESSAGE (R394): a fifth request is discarded; what forms no message is discarded and counted. -/
def execUartMessage (a : At) (bytes : List Byte) (s : State) : Host.Outcome State Fault Refusal :=
  let t := s.advance a
  .next (if !t.rdy Rdy.binnacle then t
    else if !isMessage bytes then { t with tr.uartDiscarded := t.tr.uartDiscarded + 1 }
    else if 4 ≤ t.uartHeld then t
    else t.offer 3 bytes)

/-- UART_BYTE_GAP (R394): a partial message ends and is discarded. -/
def execUartByteGap (a : At) (s : State) : Host.Outcome State Fault Refusal :=
  let t := s.advance a
  .next (if t.rdy Rdy.binnacle then { t with tr.uartDiscarded := t.tr.uartDiscarded + 1 } else t)

/-! ### UDP (R391, R392) -/

/-- The server listens on its UDP port (R370, R391). -/
def State.udpListens (s : State) : Bool := s.rdy Rdy.services && s.transmits 0 && s.cfgN Fid.SEC_UDP_ENABLE == 1

/-- Answer a datagram of SESSION 0 directly, without a MAC (R391). -/
def State.answerOutside (ip port : Nat) (bs : List Byte) (x : Resp) (s : State) : State :=
  let r := requestOf 0 bs
  let m := message 1 r.tag (fieldAt bs 5 1) (fieldAt bs 6 2) x.status.code r.fn r.seq r.target x.stamp x.payload
  { s with tr.udpTx := s.tr.udpTx ++ [(ip, port, le 4 0 ++ m)] }

/-- The session idle longest, provided for at least 10 s (R391). -/
def State.idleLongest (s : State) : Option Nat :=
  ((s.tr.udp.filter (fun u => decide (u.lastUs + 10000000 ≤ s.clock))).foldl
    (fun (b : Option UdpSession) u => match b with
      | none => some u
      | some v => if u.lastUs < v.lastUs then some u else some v) none).map (fun u => u.id)

/-- A new UDP session, its nonce in `o` (R390, R391). -/
def State.addUdp (ip port : Nat) (o : Opening) (s : State) : State :=
  let id := s.tr.udpNextId
  { s.freeNext with
    tr.udp := s.tr.udp ++ [{ id := id, ip := ip, port := port, ses := { opening := some o }, lastUs := s.clock }]
    tr.udpNextId := if id + 1 < 2 ^ 32 then id + 1 else 16 }

/-- SESSION_OPEN over UDP (R390, R391): a fifth session takes the place of the one idle longest, or STORE_FULL. -/
def State.openUdp (ip port : Nat) (payload : List Byte) (s : State) : State × Resp :=
  if (s.keyOf (fieldAt payload 0 1)).isNone then (s, s.resp .notPermitted)
  else
    let room := if s.tr.udp.length < 4 then some s else s.idleLongest.map (fun n => s.closeUdp n)
    match room with
    | none => (s, s.resp .storeFull)
    | some t =>
      let o := t.newOpening payload
      (t.addUdp ip port o, t.resp .done (le 4 t.tr.udpNextId ++ o.serverNonce))

/-- A datagram with SESSION 0: IDENTIFY and SESSION_OPEN only (R391). -/
def State.udpOutside (ip port : Nat) (bs : List Byte) (s : State) : State :=
  let r := requestOf 0 bs
  if fieldAt bs 5 1 != 5 || !(fieldAt bs 6 2 == 2 || fieldAt bs 6 2 == 3) then s.refuseAuth ip
  else match headerCheck 16 false bs with
    | .inl st => s.answerOutside ip port bs (s.resp st)
    | .inr d =>
      match d.check r s with
      | some st => s.answerOutside ip port bs (s.resp st)
      | none =>
        if d.opcode = 2 then s.answerOutside ip port bs (s.resp .done (s.identity 0))
        else
          let (t, x) := s.openUdp ip port r.payload
          t.answerOutside ip port bs x

/-- The operations in flight of all UDP sessions, with what waits behind their BARRIERs. -/
def State.udpHeld (s : State) : Nat :=
  (s.mb.flights.filter (fun f => decide (16 ≤ f.session) && !f.rejected)).length + (s.mb.waiting.filter (fun w => decide (16 ≤ w.1))).length

/-- SESSION_PROVE carries no MAC; every other datagram of a session does (R391). -/
def isProve (bs : List Byte) : Bool := fieldAt bs 5 1 == 5 && fieldAt bs 6 2 == 4

/-- A datagram whose MAC matches: SESSION, the message and the MAC over both. -/
def UdpSession.macGood (u : UdpSession) (d : List Byte) : Bool :=
  isProve (d.drop 4) ||
  (!u.ses.sk.isEmpty && d.length == 68 + fieldAt d 12 2 &&
    hmacSha256 u.ses.sk (d.take (d.length - 32)) == d.drop (d.length - 32))

/-- A SEQ that the session may accept (R392): newer than its highest minus 64, and not accepted before. -/
def UdpSession.seqNew (u : UdpSession) (q : Nat) : Bool :=
  match u.highest with
  | none => true
  | some h => newer 32 q ((h + 2 ^ 32 - 64) % 2 ^ 32) && !u.accepted.contains q

/-- The session once it has accepted a SEQ. -/
def UdpSession.accept (u : UdpSession) (q ip port clock : Nat) : UdpSession :=
  let h := match u.highest with
    | none => q
    | some h => if newer 32 q h then q else h
  { u with
    ip := ip, port := port, lastUs := clock, highest := some h
    accepted := q :: u.accepted.filter (fun x => newer 32 x ((h + 2 ^ 32 - 64) % 2 ^ 32)) }

/-- A repeated SEQ: with RETRY, and the request completed, the kept response goes out again (R392). -/
def State.udpRepeat (u : UdpSession) (ip port : Nat) (bs : List Byte) (s : State) : State :=
  if !u.accepted.contains (fieldAt bs 12 4) || !bitOf (fieldAt bs 3 1) 1 then s.refuseAuth ip
  else match u.responses.find? (fun x => x.1 == fieldAt bs 12 4) with
    | some x => { s with tr.udpTx := s.tr.udpTx ++ [(ip, port, x.2)] }
    | none => s

/-- A datagram of a session (R391, R392). -/
def State.udpInside (u : UdpSession) (ip port : Nat) (d : List Byte) (s : State) : State :=
  let bs := (d.drop 4).take (32 + fieldAt d 12 2)
  if !u.macGood d then s.refuseAuth ip
  else if !u.seqNew (fieldAt bs 12 4) then s.udpRepeat u ip port bs
  else if 256 ≤ s.udpHeld then s.refuseAuth ip
  else
    let v := u.accept (fieldAt bs 12 4) ip port s.clock
    State.offer u.id bs { s with tr.udp := s.tr.udp.map (fun x => if x.id == u.id then v else x) }

/-- UDP_DATAGRAM (R392): a mailbox datagram from an address and port. -/
def execUdpDatagram (a : At) (ip port : Nat) (bytes : List Byte) (s : State) : Host.Outcome State Fault Refusal :=
  let t := s.advance a
  .next (if !t.udpListens then t
    else if fieldAt bytes 0 4 = 0 then t.udpOutside ip port (bytes.drop 4)
    else match t.udpSession (fieldAt bytes 0 4) with
      | some u => t.udpInside u ip port bytes
      | none => t.refuseAuth ip)

/-- UDP_SESSION_IDLE (R391): idle for SEC_UDP_IDLE seconds. -/
def execUdpSessionIdle (a : At) (session : Nat) (s : State) : Host.Outcome State Fault Refusal :=
  let t := s.advance a
  .next (match t.udpSession session with
    | some u => if u.lastUs + t.cfgN Fid.SEC_UDP_IDLE * 1000000 ≤ t.clock then (t.closeUdp session).offerWaiting else t
    | none => t)

/-- AUTH_FAILED (R412): what was refused since the last record, at most once per 64 turns. -/
def execAuthFailed (a : At) (s : State) : Host.Outcome State Fault Refusal :=
  let t := s.advance a
  .next (if t.tr.authRefused = 0 || t.tr.authLastTurn.any (fun n => decide (t.turn < n + 64)) then t
    else
      let src := if t.rdy Rdy.services then 16 else 0
      State.record src 3 0x0303 (le 4 t.tr.authRefused ++ le 4 t.tr.authLastIp) false 0
        { t with tr.authRefused := 0, tr.authLastTurn := some t.turn })

end Sys2Proof.Machine
end

