-- ==== Sys2Proof/Machine/Modbus.lean ====
section
/-! DEFINITION. Machine/Modbus.lean: the Modbus slave (R315, R316). -/

namespace Sys2Proof.Machine

/-- Zone and signal code of a signal address (R315): class 0 y, 1 u, 2 d, 3 reference. -/
def mbZone (addr : Nat) : Nat := addr / 32
def mbSignal (addr : Nat) : Nat := addr % 32 / 8 * 16 + addr % 8 / 2

/-- A signal address names a signal of a present zone. -/
def State.mbHasSignal (s : State) (addr : Nat) : Bool :=
  s.present (mbZone addr) && decide (mbSignal addr % 16 < s.classDim (mbZone addr) (mbSignal addr / 16))

/-- A 32-bit value of the map: basic units, sign-extended for int16 kinds; 80000000h without a value of a valid source (R79, R315). -/
def State.mbValue (s : State) (addr : Nat) : Nat :=
  let kind := s.sigKind (mbZone addr) (mbSignal addr)
  let x := s.signal (mbZone addr) (mbSignal addr)
  let b := toBasic kind (if x.2.2 = 0 then x.2.1 else none)
  if noBasic kind || b == kindNoValue kind then 0x80000000
  else if (kindRange kind).1 < 0 then ofSigned 32 (sext (kindBits kind) b) else b

/-- One register of the map: none where the map holds nothing. -/
def State.mbRegister (s : State) (addr : Nat) : Option Nat :=
  if addr < 8192 then
    (if s.mbHasSignal addr then some (if addr % 2 = 0 then s.mbValue addr / 65536 else s.mbValue addr % 65536) else none)
  else if addr < 8448 ∧ s.present (addr - 8192) then some (s.zones.get (addr - 8192)).mode.code
  else none

/-- The signal part of a run of registers holds whole 32-bit values. -/
def wholeValues (addr count : Nat) : Bool :=
  (decide (8192 ≤ addr) || addr % 2 == 0) && (decide (8192 ≤ addr + count) || (addr + count) % 2 == 0)

/-- Registers read, or an exception code (R316). -/
def State.mbRead (s : State) (fn addr count : Nat) : Except Nat (List Nat) :=
  if count = 0 ∨ 125 < count then .error 3
  else if fn = 4 ∧ 8192 < addr + count then .error 2
  else
    let rs := (upTo count).map (fun i => s.mbRegister (addr + i))
    if rs.any (fun r => r.isNone) then .error 2
    else if !wholeValues addr count then .error 3
    else .ok (rs.map (fun r => r.getD 0))

/-- A 32-bit value a write carries, in the model unit: none for no value; an error where the kind's format does not hold it. -/
def mbWritten (kind v : Nat) : Except Nat (Option Word32) :=
  if v = 0x80000000 then .ok none
  else
    let i : Int := if (kindRange kind).1 < 0 then sext 32 v else (v : Int)
    if kindBits kind = 16 ∧ (i < (kindRange kind).1 - 1 ∨ (kindRange kind).2 + 1 < i) then .error 3
    else .ok (ofBasic kind (ofSigned (kindBits kind) i))

/-- One item of a write: a signal's value or a zone's mode. -/
inductive MbItem where
  | signal (z sig : Nat) (v : Option Word32)
  | mode (z : Nat) (m : ZMode)
  deriving DecidableEq, Repr

/-- The items a run of registers writes, or an exception code (R315, R316). -/
def State.mbItems (s : State) : Nat → Nat → List Nat → Except Nat (List MbItem)
  | 0, _, _ => .ok []
  | _, _, [] => .ok []
  | fuel + 1, addr, v :: rest =>
    if addr < 8192 then
      if !s.mbHasSignal addr then .error 2
      else match addr % 2, rest with
      | 0, w :: rest' =>
        let z := mbZone addr
        let sig := mbSignal addr
        let kind := s.sigKind z sig
        if noBasic kind || !s.sigWritable z sig then .error 3
        else match mbWritten kind (v % 65536 * 65536 + w % 65536), s.mbItems fuel (addr + 2) rest' with
          | .ok x, .ok xs => .ok (.signal z sig x :: xs)
          | .error e, _ => .error e
          | _, .error e => .error e
      | _, _ => .error 3
    else if addr < 8448 ∧ s.present (addr - 8192) then
      match ZMode.ofCode v, s.mbItems fuel (addr + 1) rest with
      | some m, .ok xs => if m = .sounding then .error 3 else .ok (.mode (addr - 8192) m :: xs)
      | none, _ => .error 3
      | _, .error e => .error e
    else .error 2

/-- Perform one item (R345, R103). -/
def State.mbPerform (x : MbItem) (s : State) : State :=
  match x with
  | .signal z sig v => (s.writeSignal z sig (s.cfgN Fid.SVC_MODBUS_PRIORITY) v).1
  | .mode z m => (s.writeMode z m).1

/-- Registers written. -/
def State.mbWrite (addr limit : Nat) (values : List Nat) (s : State) : Except Nat State :=
  if values.isEmpty ∨ limit < values.length then .error 3
  else match s.mbItems values.length addr values with
    | .ok xs => .ok (State.each xs State.mbPerform s)
    | .error e => .error e

/-- A slave's answer: the state after it and the data, or an exception code. -/
def State.mbServe (fn addr count waddr : Nat) (values : List Nat) (s : State) : Except Nat (State × List Nat) :=
  match fn with
  | 2 =>
    if count = 0 ∨ 2000 < count then .error 3
    else if 32 < addr + count then .error 2
    else .ok (s, (upTo count).map (fun i => bit (s.fld.ins.get (addr + i)).image))
  | 3 => (s.mbRead 3 addr count).map (fun d => (s, d))
  | 4 => (s.mbRead 4 addr count).map (fun d => (s, d))
  | 6 => (s.mbWrite addr 1 values).map (fun t => (t, addr :: values))
  | 16 => (s.mbWrite addr 123 values).map (fun t => (t, [addr, values.length]))
  | 23 => match s.mbWrite waddr 121 values with
    | .error e => .error e
    | .ok t => (t.mbRead 3 addr count).map (fun d => (t, d))
  | _ => .error 1

/-- MODBUS_SLAVE_REQUEST (R315): line, function, address and count, and for a write its registers (23 writes at `waddr`). -/
def execModbusSlaveRequest (a : At) (n fn addr count waddr : Nat) (values : List Nat) (s : State) : Host.Outcome State Fault Refusal :=
  let t := s.advance a
  .next (if t.rdy Rdy.services && decide (n < 4) && t.cfgN Fid.LINE_PROTOCOL n == 3 then
      let u := t.rxTake (2 + n)
      if u.peerHolds then u
      else match u.mbServe fn addr count waddr values with
        | .ok (v, d) => v.queueFrame (2 + n) { cls := 2, what := .modbusReply, data := fn :: d }
        | .error e => u.queueFrame (2 + n) { cls := 2, what := .modbusReply, data := [fn + 128, e] }
    else t)

end Sys2Proof.Machine
end

