-- ==== Sys2Proof/Machine/Dispatch.lean ====
section
/-! DEFINITION. Machine/Dispatch.lean: one arm per command, each a direct call of its meaning. -/

namespace Sys2Proof.Machine

def exec (i : Instr) (s : State) : Host.Outcome State Fault Refusal :=
  match i with
  | .powerOnStart a second test => Sys2Proof.Machine.execPowerOnStart a second test s
  | .resetNAsserted a => Sys2Proof.Machine.execResetNAsserted a s
  | .resetNReleased a => Sys2Proof.Machine.execResetNReleased a s
  | .thermalReset a => Sys2Proof.Machine.execThermalReset a s
  | .railLost a rail mv => Sys2Proof.Machine.execRailLost a rail mv s
  | .railGoodRelease a => Sys2Proof.Machine.execRailGoodRelease a s
  | .supplySample a vmain vback vhold => Sys2Proof.Machine.execSupplySample a vmain vback vhold s
  | .switchToMain a => Sys2Proof.Machine.execSwitchToMain a s
  | .collapse a => Sys2Proof.Machine.execCollapse a s
  | .holdupEnd a => Sys2Proof.Machine.execHoldupEnd a s
  | .nvGoodChange a => Sys2Proof.Machine.execNvGoodChange a s
  | .holdStoreMeasurement a cap10 => Sys2Proof.Machine.execHoldStoreMeasurement a cap10 s
  | .sleepEntry a => Sys2Proof.Machine.execSleepEntry a s
  | .wake a source => Sys2Proof.Machine.execWake a source s
  | .crystalLost a => Sys2Proof.Machine.execCrystalLost a s
  | .crystalReturned a => Sys2Proof.Machine.execCrystalReturned a s
  | .sensorSample a rails temps vbat iin => Sys2Proof.Machine.execSensorSample a rails temps vbat iin s
  | .sramScrubStep a region item corrected uncorrectable => Sys2Proof.Machine.execSramScrubStep a region item corrected uncorrectable s
  | .mramScrubStep a corrected bad => Sys2Proof.Machine.execMramScrubStep a corrected bad s
  | .journaledPageOperation a fate => Sys2Proof.Machine.execJournaledPageOperation a fate s
  | .sheafAddition a cut => Sys2Proof.Machine.execSheafAddition a cut s
  | .recordWrite a => Sys2Proof.Machine.execRecordWrite a s
  | .compaction a => Sys2Proof.Machine.execCompaction a s
  | .nvRecovery a found => Sys2Proof.Machine.execNvRecovery a found s
  | .configSelection a => Sys2Proof.Machine.execConfigSelection a s
  | .logbookRecovery a => Sys2Proof.Machine.execLogbookRecovery a s
  | .logbookWrite a => Sys2Proof.Machine.execLogbookWrite a s
  | .logbookRecordRaised a source severity code payload posts target => Sys2Proof.Machine.execLogbookRecordRaised a source severity code payload posts target s
  | .serviceHeartbeatTimeout a core => Sys2Proof.Machine.execServiceHeartbeatTimeout a core s
  | .serviceStartTimeout a => Sys2Proof.Machine.execServiceStartTimeout a s
  | .serviceFaultReport a core => Sys2Proof.Machine.execServiceFaultReport a core s
  | .serviceRestart a verifies => Sys2Proof.Machine.execServiceRestart a verifies s
  | .failureCountReset a => Sys2Proof.Machine.execFailureCountReset a s
  | .binnacleWatchdog a kept => Sys2Proof.Machine.execBinnacleWatchdog a kept s
  | .healthy a binnacle => Sys2Proof.Machine.execHealthy a binnacle s
  | .trialTimeout a binnacle => Sys2Proof.Machine.execTrialTimeout a binnacle s
  | .verifyComplete a binnacle verifies => Sys2Proof.Machine.execVerifyComplete a binnacle verifies s
  | .fittedCrossing a period ampFirst ampLast => Sys2Proof.Machine.execFittedCrossing a period ampFirst ampLast s
  | .fitUpdate a hz amp toEnd => Sys2Proof.Machine.execFitUpdate a hz amp toEnd s
  | .lossDetection a => Sys2Proof.Machine.execLossDetection a s
  | .turnBoundary a e => Sys2Proof.Machine.execTurnBoundary a e s
  | .turnMark a => Sys2Proof.Machine.execTurnMark a s
  | .concordanceLogPeriod a => Sys2Proof.Machine.execConcordanceLogPeriod a s
  | .slotFire a slot late waiting => Sys2Proof.Machine.execSlotFire a slot late waiting s
  | .bankCopyComplete a => Sys2Proof.Machine.execBankCopyComplete a s
  | .bankSave a => Sys2Proof.Machine.execBankSave a s
  | .bankLoaded a => Sys2Proof.Machine.execBankLoaded a s
  | .conversionDone a c p => Sys2Proof.Machine.execConversionDone a c p s
  | .calibrationResult a c dev => Sys2Proof.Machine.execCalibrationResult a c dev s
  | .startCalibration a => Sys2Proof.Machine.execStartCalibration a s
  | .recipeRun a n xs released => Sys2Proof.Machine.execRecipeRun a n xs released s
  | .recipeRetry a n xs released => Sys2Proof.Machine.execRecipeRetry a n xs released s
  | .recipeComplete a n ago => Sys2Proof.Machine.execRecipeComplete a n ago s
  | .barrierFrame a g up start crcOk seq vfield currents => Sys2Proof.Machine.execBarrierFrame a g up start crcOk seq vfield currents s
  | .uplinkTimeout a g => Sys2Proof.Machine.execUplinkTimeout a g s
  | .barrierTimeout a g => Sys2Proof.Machine.execBarrierTimeout a g s
  | .barrierPowerChange a g on => Sys2Proof.Machine.execBarrierPowerChange a g on s
  | .vfieldChange a g v => Sys2Proof.Machine.execVfieldChange a g v s
  | .vfieldUv a g v => Sys2Proof.Machine.execVfieldUv a g v s
  | .parameterBlockApplied a g crcOk => Sys2Proof.Machine.execParameterBlockApplied a g crcOk s
  | .resume a g => Sys2Proof.Machine.execResume a g s
  | .barrierDelayMeasurement a g ns => Sys2Proof.Machine.execBarrierDelayMeasurement a g ns s
  | .edgeAccepted a n on ago current => Sys2Proof.Machine.execEdgeAccepted a n on ago current s
  | .edgeLost a n => Sys2Proof.Machine.execEdgeLost a n s
  | .freqGate a n => Sys2Proof.Machine.execFreqGate a n s
  | .tpoOffEdge a n => Sys2Proof.Machine.execTpoOffEdge a n s
  | .overload a n => Sys2Proof.Machine.execOverload a n s
  | .thermal a n => Sys2Proof.Machine.execThermal a n s
  | .groupOverload a g current => Sys2Proof.Machine.execGroupOverload a g current s
  | .tripRetry a n cooled => Sys2Proof.Machine.execTripRetry a n cooled s
  | .retrySeriesEnd a n => Sys2Proof.Machine.execRetrySeriesEnd a n s
  | .openLoad a n level => Sys2Proof.Machine.execOpenLoad a n level s
  | .darkPulse a n readOff current => Sys2Proof.Machine.execDarkPulse a n readOff current s
  | .backfeed a n holds => Sys2Proof.Machine.execBackfeed a n holds s
  | .stuckOn a n current => Sys2Proof.Machine.execStuckOn a n current s
  | .switchFail a n holds => Sys2Proof.Machine.execSwitchFail a n holds s
  | .forceDurationEnd a kind n => Sys2Proof.Machine.execForceDurationEnd a kind n s
  | .aoWatchdogRefresh a => Sys2Proof.Machine.execAoWatchdogRefresh a s
  | .watchdog a => Sys2Proof.Machine.execWatchdog a s
  | .aoMonitorSample a readings => Sys2Proof.Machine.execAoMonitorSample a readings s
  | .agoLatch a n => Sys2Proof.Machine.execAgoLatch a n s
  | .agoEdge a n => Sys2Proof.Machine.execAgoEdge a n s
  | .mdioPoll a phy link speed full => Sys2Proof.Machine.execMdioPoll a phy link speed full s
  | .busFrameReceived a f => Sys2Proof.Machine.execBusFrameReceived a f s
  | .responseTimeoutDiscard a p => Sys2Proof.Machine.execResponseTimeoutDiscard a p s
  | .bacnetReadProperty a p peer multiple items => Sys2Proof.Machine.execBacnetReadProperty a p peer multiple items s
  | .bacnetWriteProperty a p peer multiple items => Sys2Proof.Machine.execBacnetWriteProperty a p peer multiple items s
  | .bacnetSubscribeCov a p peer process object confirmed lifetime cancel => Sys2Proof.Machine.execBacnetSubscribeCov a p peer process object confirmed lifetime cancel s
  | .covNotification a p addr object value fault confirmed => Sys2Proof.Machine.execCovNotification a p addr object value fault confirmed s
  | .whoIs a p w => Sys2Proof.Machine.execWhoIs a p w s
  | .iAm a p addr inst net => Sys2Proof.Machine.execIAm a p addr inst net s
  | .partnerChanged a => Sys2Proof.Machine.execPartnerChanged a s
  | .timeSynchronization a p isLocal secs hundredths => Sys2Proof.Machine.execTimeSynchronization a p isLocal secs hundredths s
  | .acknowledgeAlarm a p peer object kind isSeq time => Sys2Proof.Machine.execAcknowledgeAlarm a p peer object kind isSeq time s
  | .getEventInformation a p peer after => Sys2Proof.Machine.execGetEventInformation a p peer after s
  | .readRange a p peer object mode ref count => Sys2Proof.Machine.execReadRange a p peer object mode ref count s
  | .deviceCommunicationControl a p peer state minutes password => Sys2Proof.Machine.execDeviceCommunicationControl a p peer state minutes password s
  | .dccDurationEnd a => Sys2Proof.Machine.execDccDurationEnd a s
  | .reinitializeDevice a p peer state password => Sys2Proof.Machine.execReinitializeDevice a p peer state password s
  | .networkLayerMessage a p peer m => Sys2Proof.Machine.execNetworkLayerMessage a p peer m s
  | .apduTimeout a id => Sys2Proof.Machine.execApduTimeout a id s
  | .dupMacHoldEnd a n => Sys2Proof.Machine.execDupMacHoldEnd a n s
  | .modbusSlaveRequest a n fn addr count waddr values => Sys2Proof.Machine.execModbusSlaveRequest a n fn addr count waddr values s
  | .modbusReply a id exception regs => Sys2Proof.Machine.execModbusReply a id exception regs s
  | .modbusTimeout a id => Sys2Proof.Machine.execModbusTimeout a id s
  | .scConnectResult a ok code => Sys2Proof.Machine.execScConnectResult a ok code s
  | .scConnectionLost a code => Sys2Proof.Machine.execScConnectionLost a code s
  | .scReconnect a => Sys2Proof.Machine.execScReconnect a s
  | .whoisPeriod a => Sys2Proof.Machine.execWhoisPeriod a s
  | .provisionalTimeout a idx => Sys2Proof.Machine.execProvisionalTimeout a idx s
  | .partnerHalfSilence a idx => Sys2Proof.Machine.execPartnerHalfSilence a idx s
  | .partnerSilent a idx => Sys2Proof.Machine.execPartnerSilent a idx s
  | .partnerSave a => Sys2Proof.Machine.execPartnerSave a s
  | .bindingPoll a b => Sys2Proof.Machine.execBindingPoll a b s
  | .covRenew a b => Sys2Proof.Machine.execCovRenew a b s
  | .bindingWrite a b => Sys2Proof.Machine.execBindingWrite a b s
  | .bindingWriteRetry a b => Sys2Proof.Machine.execBindingWriteRetry a b s
  | .eventNotificationSend a => Sys2Proof.Machine.execEventNotificationSend a s
  | .guardEngaged a z hot => Sys2Proof.Machine.execGuardEngaged a z hot s
  | .guardReleased a z hot => Sys2Proof.Machine.execGuardReleased a z hot s
  | .guardBlind a z hot => Sys2Proof.Machine.execGuardBlind a z hot s
  | .hostValueSave a => Sys2Proof.Machine.execHostValueSave a s
  | .planStart a => Sys2Proof.Machine.execPlanStart a s
  | .planComplete a us => Sys2Proof.Machine.execPlanComplete a us s
  | .planDiscarded a => Sys2Proof.Machine.execPlanDiscarded a s
  | .planModelDerived a us => Sys2Proof.Machine.execPlanModelDerived a us s
  | .planStale a => Sys2Proof.Machine.execPlanStale a s
  | .occUpdate a => Sys2Proof.Machine.execOccUpdate a s
  | .planStepEnd a => Sys2Proof.Machine.execPlanStepEnd a s
  | .soundSettled a z => Sys2Proof.Machine.execSoundSettled a z s
  | .soundCaptured a z => Sys2Proof.Machine.execSoundCaptured a z s
  | .soundAborted a z cause => Sys2Proof.Machine.execSoundAborted a z cause s
  | .soundFitComplete a z => Sys2Proof.Machine.execSoundFitComplete a z s
  | .deferredStart a n => Sys2Proof.Machine.execDeferredStart a n s
  | .cfgEffect a => Sys2Proof.Machine.execCfgEffect a s
  | .mirrorFrameReceived a f => Sys2Proof.Machine.execMirrorFrameReceived a f s
  | .laneChange a lanesIn lanesOut => Sys2Proof.Machine.execLaneChange a lanesIn lanesOut s
  | .peerLineChange a alive active => Sys2Proof.Machine.execPeerLineChange a alive active s
  | .election a => Sys2Proof.Machine.execElection a s
  | .takeover a => Sys2Proof.Machine.execTakeover a s
  | .dualActive a => Sys2Proof.Machine.execDualActive a s
  | .yieldedClear a => Sys2Proof.Machine.execYieldedClear a s
  | .withdrawal a => Sys2Proof.Machine.execWithdrawal a s
  | .handoverBoundary a => Sys2Proof.Machine.execHandoverBoundary a s
  | .synchronisationComplete a => Sys2Proof.Machine.execSynchronisationComplete a s
  | .sharedChannelComparison a n readback activeAgrees settled => Sys2Proof.Machine.execSharedChannelComparison a n readback activeAgrees settled s
  | .phaseAlign a => Sys2Proof.Machine.execPhaseAlign a s
  | .almanacAlign a peerTicks => Sys2Proof.Machine.execAlmanacAlign a peerTicks s
  | .almanacCommitEdge a => Sys2Proof.Machine.execAlmanacCommitEdge a s
  | .alarm a n => Sys2Proof.Machine.execAlarm a n s
  | .wrapped a => Sys2Proof.Machine.execWrapped a s
  | .almanacCrystalCheck a expected => Sys2Proof.Machine.execAlmanacCrystalCheck a expected s
  | .domainPowerOn a => Sys2Proof.Machine.execDomainPowerOn a s
  | .powerLost a => Sys2Proof.Machine.execPowerLost a s
  | .epaperUpdateStart a => Sys2Proof.Machine.execEpaperUpdateStart a s
  | .epaperFrame a => Sys2Proof.Machine.execEpaperFrame a s
  | .epaperUpdateEnd a => Sys2Proof.Machine.execEpaperUpdateEnd a s
  | .compensationStart a => Sys2Proof.Machine.execCompensationStart a s
  | .compensated a => Sys2Proof.Machine.execCompensated a s
  | .chartReadback a levels => Sys2Proof.Machine.execChartReadback a levels s
  | .tillerRowFall a => Sys2Proof.Machine.execTillerRowFall a s
  | .tillerScan a closed => Sys2Proof.Machine.execTillerScan a closed s
  | .tillerSample a buttons lines => Sys2Proof.Machine.execTillerSample a buttons lines s
  | .stuck a key => Sys2Proof.Machine.execStuck a key s
  | .tillerMaskedPoll a closed => Sys2Proof.Machine.execTillerMaskedPoll a closed s
  | .tillerInitial a closed buttons lines => Sys2Proof.Machine.execTillerInitial a closed buttons lines s
  | .reqProdWrite a value => Sys2Proof.Machine.execReqProdWrite a value s
  | .rspConsWrite a value => Sys2Proof.Machine.execRspConsWrite a value s
  | .evtConsWrite a value => Sys2Proof.Machine.execEvtConsWrite a value s
  | .irqStatusWrite a value => Sys2Proof.Machine.execIrqStatusWrite a value s
  | .evtLostRead a => Sys2Proof.Machine.execEvtLostRead a s
  | .fbDoorbellGo a value => Sys2Proof.Machine.execFbDoorbellGo a value s
  | .registerWrite a alm addr bytes => Sys2Proof.Machine.execRegisterWrite a alm addr bytes s
  | .requestAccept a => Sys2Proof.Machine.execRequestAccept a s
  | .responsePost a session => Sys2Proof.Machine.execResponsePost a session s
  | .uartByteGap a => Sys2Proof.Machine.execUartByteGap a s
  | .uartMessage a bytes => Sys2Proof.Machine.execUartMessage a bytes s
  | .udpDatagram a ip port bytes => Sys2Proof.Machine.execUdpDatagram a ip port bytes s
  | .authFailed a => Sys2Proof.Machine.execAuthFailed a s
  | .udpSessionIdle a session => Sys2Proof.Machine.execUdpSessionIdle a session s
  | .zoneStatus a r => Sys2Proof.Machine.execZoneStatus a r s
  | .signalRead a r => Sys2Proof.Machine.execSignalRead a r s
  | .signalWrite a r => Sys2Proof.Machine.execSignalWrite a r s
  | .modeWrite a r => Sys2Proof.Machine.execModeWrite a r s
  | .hostInputWrite a r => Sys2Proof.Machine.execHostInputWrite a r s
  | .wpForecast a r => Sys2Proof.Machine.execWpForecast a r s
  | .wpTariff a r => Sys2Proof.Machine.execWpTariff a r s
  | .wpReplan a r => Sys2Proof.Machine.execWpReplan a r s
  | .wpStatus a r => Sys2Proof.Machine.execWpStatus a r s
  | .wpTrajectory a r => Sys2Proof.Machine.execWpTrajectory a r s
  | .occRead a r => Sys2Proof.Machine.execOccRead a r s
  | .uiRead a r => Sys2Proof.Machine.execUiRead a r s
  | .i2cRead a r => Sys2Proof.Machine.execI2cRead a r s
  | .fcRead a r => Sys2Proof.Machine.execFcRead a r s
  | .fcEdgeRead a r => Sys2Proof.Machine.execFcEdgeRead a r s
  | .aoRead a r => Sys2Proof.Machine.execAoRead a r s
  | .agoRead a r => Sys2Proof.Machine.execAgoRead a r s
  | .portStatus a r => Sys2Proof.Machine.execPortStatus a r s
  | .partnerList a r => Sys2Proof.Machine.execPartnerList a r s
  | .bindRead a r => Sys2Proof.Machine.execBindRead a r s
  | .chartWrite a r => Sys2Proof.Machine.execChartWrite a r s
  | .chartStatus a r => Sys2Proof.Machine.execChartStatus a r s
  | .tillerRead a r => Sys2Proof.Machine.execTillerRead a r s
  | .tillerState a r => Sys2Proof.Machine.execTillerState a r s
  | .helmRead a r => Sys2Proof.Machine.execHelmRead a r s
  | .helmWrite a r => Sys2Proof.Machine.execHelmWrite a r s
  | .bankCopy a r => Sys2Proof.Machine.execBankCopy a r s
  | .bankSwap a r => Sys2Proof.Machine.execBankSwap a r s
  | .helmDiag a r => Sys2Proof.Machine.execHelmDiag a r s
  | .slotRead a r => Sys2Proof.Machine.execSlotRead a r s
  | .slotWrite a r => Sys2Proof.Machine.execSlotWrite a r s
  | .soundStart a r => Sys2Proof.Machine.execSoundStart a r s
  | .soundAbort a r => Sys2Proof.Machine.execSoundAbort a r s
  | .soundStatus a r => Sys2Proof.Machine.execSoundStatus a r s
  | .soundCapture a r => Sys2Proof.Machine.execSoundCapture a r s
  | .soundResult a r => Sys2Proof.Machine.execSoundResult a r s
  | .soundDeliver a r => Sys2Proof.Machine.execSoundDeliver a r s
  | .fcForce a r => Sys2Proof.Machine.execFcForce a r s
  | .aoForce a r => Sys2Proof.Machine.execAoForce a r s
  | .agoForce a r => Sys2Proof.Machine.execAgoForce a r s
  | .svcReadProperty a r => Sys2Proof.Machine.execSvcReadProperty a r s
  | .svcWriteProperty a r => Sys2Proof.Machine.execSvcWriteProperty a r s
  | .svcTimeSet a r => Sys2Proof.Machine.execSvcTimeSet a r s
  | .svcTimeRead a r => Sys2Proof.Machine.execSvcTimeRead a r s
  | .cfgInfo a r => Sys2Proof.Machine.execCfgInfo a r s
  | .cfgBegin a r => Sys2Proof.Machine.execCfgBegin a r s
  | .cfgWrite a r => Sys2Proof.Machine.execCfgWrite a r s
  | .cfgCommit a r => Sys2Proof.Machine.execCfgCommit a r s
  | .cfgRead a r => Sys2Proof.Machine.execCfgRead a r s
  | .clampRead a r => Sys2Proof.Machine.execClampRead a r s
  | .sheafRead a r => Sys2Proof.Machine.execSheafRead a r s
  | .barrier a r => Sys2Proof.Machine.execBarrier a r s
  | .identify a r => Sys2Proof.Machine.execIdentify a r s
  | .sessionOpen a r => Sys2Proof.Machine.execSessionOpen a r s
  | .sessionProve a r => Sys2Proof.Machine.execSessionProve a r s
  | .sessionClose a r => Sys2Proof.Machine.execSessionClose a r s
  | .secWrite a r => Sys2Proof.Machine.execSecWrite a r s
  | .secInfo a r => Sys2Proof.Machine.execSecInfo a r s
  | .logRead a r => Sys2Proof.Machine.execLogRead a r s
  | .logAck a r => Sys2Proof.Machine.execLogAck a r s
  | .concordRead a r => Sys2Proof.Machine.execConcordRead a r s
  | .almanacRead a r => Sys2Proof.Machine.execAlmanacRead a r s
  | .almanacWrite a r => Sys2Proof.Machine.execAlmanacWrite a r s
  | .almanacTrim a r => Sys2Proof.Machine.execAlmanacTrim a r s
  | .almanacAlarm a r => Sys2Proof.Machine.execAlmanacAlarm a r s
  | .backupRead a r => Sys2Proof.Machine.execBackupRead a r s
  | .backupWrite a r => Sys2Proof.Machine.execBackupWrite a r s
  | .updateBegin a r => Sys2Proof.Machine.execUpdateBegin a r s
  | .updateWrite a r => Sys2Proof.Machine.execUpdateWrite a r s
  | .updateVerify a r => Sys2Proof.Machine.execUpdateVerify a r s
  | .updateSwap a r => Sys2Proof.Machine.execUpdateSwap a r s
  | .updateStatus a r => Sys2Proof.Machine.execUpdateStatus a r s
  | .reset a r => Sys2Proof.Machine.execReset a r s
  | .selftest a r => Sys2Proof.Machine.execSelftest a r s
  | .selftestComplete a test outcome detail => Sys2Proof.Machine.execSelftestComplete a test outcome detail s
  | .sensorRead a r => Sys2Proof.Machine.execSensorRead a r s
  | .uiCalibrate a r => Sys2Proof.Machine.execUiCalibrate a r s
  | .fcClear a r => Sys2Proof.Machine.execFcClear a r s
  | .policyRead a r => Sys2Proof.Machine.execPolicyRead a r s
  | .pairStatus a r => Sys2Proof.Machine.execPairStatus a r s
  | .pairHandover a r => Sys2Proof.Machine.execPairHandover a r s
  | .eventRead a r => Sys2Proof.Machine.execEventRead a r s
  | .eventStatus a r => Sys2Proof.Machine.execEventStatus a r s
  | .countLoRead a => Sys2Proof.Machine.execCountLoRead a s
  | .countLoWrite a lo => Sys2Proof.Machine.execCountLoWrite a lo s
  | .alarmLoWrite a n lo => Sys2Proof.Machine.execAlarmLoWrite a n lo s
  | .thermalResetRelease a => Sys2Proof.Machine.execThermalResetRelease a s
  | .servicesRises a => Sys2Proof.Machine.execServicesRises a s
  | .ldLost a island => Sys2Proof.Machine.execLdLost a island s
  | .shuntDisconnect a n => Sys2Proof.Machine.execShuntDisconnect a n s
  | .trimPeriodStart a => Sys2Proof.Machine.execTrimPeriodStart a s
  | .busFrameSent a p side forwarded => Sys2Proof.Machine.execBusFrameSent a p side forwarded s
  | .dhcpLeaseExpiry a idx lease => Sys2Proof.Machine.execDhcpLeaseExpiry a idx lease s
  | .plcaBeacon a seen => Sys2Proof.Machine.execPlcaBeacon a seen s
  | .mstpTimeout a n inLoop token => Sys2Proof.Machine.execMstpTimeout a n inLoop token s
  | .foreignDeviceReregister a => Sys2Proof.Machine.execForeignDeviceReregister a s

end Sys2Proof.Machine
end

