-- ==== Sys2Proof/Safety.lean ====
section
/-! DEFINITION. Safety.lean: the terms the statements use: what a safe run of the block is, what a reset and a start leave, what
makes a request one that executes, and the state in which it stands answered. -/

namespace Sys2Proof.Safety

open Sys2Proof.Machine

/-- A step that neither faults nor refuses: the command had its meaning. -/
def Answers (s : State) : Prop := ∃ t, step s = .next t

/-- The module held in reset from `t` (R19, R34, R526): READY reads 0 and nothing that LD held remains; the MRAM, the Almanac and the
queue of waiting commands are as they were. -/
structure HeldInReset (cause : Nat) (t u : State) : Prop where
  ready : u.ready = 0
  held : u.bin.resetHeld = cause
  mailbox : u.mb = {}
  meridian : u.mer = {}
  zones : u.zones = []
  mram : u.nv.mem = t.nv.mem
  count : u.alm.count = t.alm.count
  trim : u.alm.trim = t.alm.trim
  pending : u.pending = t.pending

/-- A start of the module from reset (R529, R455, R591): its cause is kept, and unless the test lands hold the module Binnacle runs and
sheaf counter 1 owes one more. -/
structure Started (cause : Nat) (test : Bool) (t u : State) : Prop where
  cause : u.bin.resetCause = cause
  held : u.bin.resetHeld = 0
  mram : u.nv.mem = t.nv.mem
  runs : test = false → u.rdy Rdy.binnacle = true ∧ u.nv.sheaf.get 1 = t.nv.sheaf.get 1 + 1
  pending : u.pending = t.pending

/-- A service-firmware failure counted (R473–R475): SERVICES is clear; before the third failure SC0–SC3 pause for their restart, with
the third they stop in autopilot. -/
structure FailureCounted (t u : State) : Prop where
  count : u.bin.failures = min 3 (t.bin.failures + 1)
  services : u.rdy Rdy.services = false
  below : u.bin.failures < 3 → u.bin.svc = SvcRun.paused
  third : u.bin.failures = 3 → u.bin.svc = SvcRun.stopped ∧ u.bin.autopilot = true

/-- A request that its session's server takes and whose session may ask for it (R21, R370, R381, R385, R389): `fb` says whether the
fallback paths serve it too. -/
structure Asks (fb : Bool) (fn len : Nat) (r : Req) (t : State) : Prop where
  serves : t.serves r.session = true
  barrier : t.barred r.session = false
  path : fb = true ∨ binnacleSide r.session = false
  tag : t.inFlight r.session r.tag = false
  rights : t.rights r.session ≠ .none
  fn : r.fn = fn
  len : r.payload.length = len
  room : r.payload.length ≤ lengthLimit r.session

/-- A request with EXPERT rights. -/
structure Commands (fb : Bool) (fn len : Nat) (r : Req) (t : State) : Prop where
  asks : Asks fb fn len r t
  expert : t.rights r.session = .expert

/-- The module commands its plant: it is no standby, and hands nothing over (R505, R513). -/
def Holds (t : State) : Prop := t.peerHolds = false ∧ t.pair.handover = none

/-- The flight of a request (R381): accepted next. -/
def flight (d : OpDef) (r : Req) (t : State) : Flight :=
  { session := r.session, tag := r.tag, cls := d.cls, opcode := d.opcode, fn := r.fn, seq := r.seq, target := r.target
    order := t.mb.orders + 1 }

/-- `u` with the request accepted in `t` and waiting for its answer (R380, R381). -/
def accepted (d : OpDef) (r : Req) (t u : State) : State :=
  { u with mb.orders := u.mb.orders + 1, mb.flights := u.mb.flights ++ [flight d r t] }

/-- `u` with the request accepted in `t` and answered, its answer waiting to be posted (R376, R381, R382). -/
def answered (d : OpDef) (r : Req) (st : Status) (payload : List Byte) (t u : State) : State :=
  { u with
    mb.orders := u.mb.orders + 1
    mb.completions := u.mb.completions + 1
    mb.flights := u.mb.flights ++ [{ flight d r t with
      resp := some (Resp.fit r.session { status := st, payload := payload, stamp := t.now })
      completed := u.mb.completions + 1 }] }

/-- A request stands in `u` answered with a status and a payload. -/
def Replied (r : Req) (st : Status) (payload : List Byte) (u : State) : Prop :=
  ∃ f x, f ∈ u.mb.flights ∧ f.session = r.session ∧ f.tag = r.tag ∧ f.resp = some x ∧ x.status = st ∧ x.payload = payload

/-- A request stands in `u` rejected with a status (R21): its answer has no payload. -/
def rejected (d : OpDef) (r : Req) (st : Status) (t : State) : State :=
  { t with
    mb.orders := t.mb.orders + 1
    mb.completions := t.mb.completions + 1
    mb.flights := t.mb.flights ++ [{ flight d r t with
      completed := t.mb.completions + 1, rejected := true, resp := some { status := st, stamp := t.now } }] }

end Sys2Proof.Safety
end

