-- ==== Sys2Proof/Certificates/Slice0/Obligations.lean ====
section
/-! DEFINITION. Certificates/Slice0/Obligations.lean: the statements for the provers, in the order of OBLIGATIONS.json. -/

open Sys2Proof Sys2Proof.Machine

/-- For every command, queue and state, a step with the command at the front of the queue is that command's effect on the state with the rest of the queue; on an empty queue the step leaves the state as it is (the model's own choice, assumption 4). (95_what_each_step_holds.md) -/
def Obligations.StepRunsTheFrontCommand : Prop :=
  (∀ (c : Instr) (rest : List Instr) (s : State),
    step { s with pending := c :: rest } = exec c { s with pending := rest }) ∧
  (∀ s : State, s.pending = [] → step s = .next s)

/-- Every command in every state answers a next state: the specification gives each row of its table an effect, and where its precondition does not hold only time passes. (95_what_each_step_holds.md) -/
def Obligations.EveryCommandAnswers : Prop :=
  ∀ (c : Instr) (s : State), ∃ t, exec c s = .next t

/-- For every command in every state, the effect leaves the queue of waiting commands as it is; so after any step the queue is what stood behind its front command. The queue is the model's own (a block takes commands first in, first out). (95_what_each_step_holds.md) -/
def Obligations.QueueIsFirstInFirstOut : Prop :=
  (∀ (c : Instr) (s t : State), exec c s = .next t → t.pending = s.pending) ∧
  (∀ s t : State, step s = .next t → t.pending = s.pending.tail)

/-- For every command in every state in which MERIDIAN is set before and after it, the stamp does not decrease and the turn count rises by at most 1. Premise: the turn count is not the last that 44 bits hold. (R46, R13) -/
def Obligations.StampNeverGoesBack : Prop :=
  ∀ (c : Instr) (s t : State), exec c s = .next t → s.rdy Rdy.meridian = true → t.rdy Rdy.meridian = true →
    s.turn + 1 < 2 ^ 44 →
    s.mer.stamp.toNat ≤ t.mer.stamp.toNat ∧ (t.turn = s.turn ∨ t.turn = s.turn + 1)

/-- From every state in which bits 29 to 31 of READY read 0, every command leads to a state in which they do. That reset has them 0 is a statement of its own. (R18) -/
def Obligations.ReservedReadyBitsReadZero : Prop :=
  ∀ (c : Instr) (s t : State), exec c s = .next t →
    (∀ n, 29 ≤ n → readyBit s.ready n = false) → ∀ n, 29 ≤ n → readyBit t.ready n = false

/-- State.reset has no command waiting, READY 0, the indices of the mailbox 0, IRQ_STATUS and IRQ_ENABLE 0, EVT_LOST 0, the power path OFF, and lists nothing of the MRAM and of the mailbox memory; bits 29 to 31 of READY read 0. That the MRAM and the slots are empty as delivered is the model's choice (assumption 2). (R372, R18, R521) -/
def Obligations.ResetState : Prop :=
  State.reset.pending = [] ∧ State.reset.ready = 0 ∧
  State.reset.mb.reqProd = 0 ∧ State.reset.mb.reqCons = 0 ∧ State.reset.mb.rspProd = 0 ∧ State.reset.mb.rspCons = 0 ∧
  State.reset.mb.evtProd = 0 ∧ State.reset.mb.evtCons = 0 ∧ State.reset.mb.evtLost = 0 ∧
  State.reset.mb.irqStatus = 0 ∧ State.reset.mb.irqEnable = 0 ∧
  State.reset.sup.state = SupplyState.off ∧ State.reset.nv.mem = [] ∧ State.reset.mb.mem = [] ∧
  (∀ n, readyBit State.reset.ready n = false)

/-- RESET_N asserted, RAIL_LOST, THERMAL_RESET and LD_LOST, each where it may come, answer a state with READY 0, the mailbox, the zones and Meridian cleared, the cause held, and the MRAM, the Almanac count and trim and the queue of commands as they were. (R526, R35, R34, R19, R388) -/
def Obligations.ResetsHoldTheModule : Prop :=
  (∀ (a : At) (s t : State), t = s.advance a → t.sup.state ≠ SupplyState.off → t.bin.resetHeld ≠ 3 →
    ∃ u, exec (.resetNAsserted a) s = .next u ∧ Safety.HeldInReset 3 t u) ∧
  (∀ (a : At) (rail mv : Nat) (s t : State), t = s.advance a → t.sup.state ≠ SupplyState.off → t.bin.resetHeld = 0 →
    rail ≤ 1 → mv < 720 → ∃ u, exec (.railLost a rail mv) s = .next u ∧ Safety.HeldInReset 2 t u) ∧
  (∀ (a : At) (s t : State), t = s.advance a → t.sup.state ≠ SupplyState.off → t.bin.resetHeld = 0 → 10 ≤ t.sen.hotRun →
    ∃ u, exec (.thermalReset a) s = .next u ∧ Safety.HeldInReset 5 t u) ∧
  (∀ (a : At) (island : Bool) (s t : State), t = s.advance a → t.sup.state ≠ SupplyState.off →
    ∃ u, exec (.ldLost a island) s = .next u ∧ Safety.HeldInReset 7 t u)

/-- POWER_ON_START with the start condition met takes MAIN when VMAIN is present and BACKUP otherwise, and reads the PAIR_ROLE strap. It, RESET_N_RELEASED, RAIL_GOOD_RELEASE and THERMAL_RESET_RELEASE, each where its release may come, lead to a state with their cause, no reset held, the MRAM and the queue of commands as they were, and, unless the test lands hold the module, BINNACLE set and sheaf counter 1 owing one more. WAKE of a source that wakes leads to cause 06h, the module no longer asleep, the MRAM and the queue as they were, and, unless the test lands hold the module, BINNACLE set and one owed to sheaf counter 1. (R521, R526, R529, R35, R538, R455, R591) -/
def Obligations.StartsOfTheModule : Prop :=
  (∀ (a : At) (second test : Bool) (s t : State), t = s.advance a → t.sup.state = SupplyState.off → 20 ≤ t.sup.startSamples →
    ∃ u, exec (.powerOnStart a second test) s = .next u ∧ Safety.Started 1 test t u ∧ u.pair.strapSecond = second ∧
      u.sup.state = (if t.sup.mainPresent then SupplyState.main else SupplyState.backup)) ∧
  (∀ (a : At) (s t : State), t = s.advance a → t.sup.state ≠ SupplyState.off → t.bin.resetHeld = 3 →
    ∃ u, exec (.resetNReleased a) s = .next u ∧ Safety.Started 3 t.sup.testHold t u) ∧
  (∀ (a : At) (s t : State), t = s.advance a → t.sup.state ≠ SupplyState.off → t.bin.resetHeld = 2 → 10 ≤ t.sen.heldGood →
    ∃ u, exec (.railGoodRelease a) s = .next u ∧ Safety.Started 2 t.sup.testHold t u) ∧
  (∀ (a : At) (s t : State), t = s.advance a → t.sup.state ≠ SupplyState.off → t.bin.resetHeld = 5 →
    (t.sen.temps.get 0).value < 11500 →
    ∃ u, exec (.thermalResetRelease a) s = .next u ∧ Safety.Started 5 t.sup.testHold t u) ∧
  (∀ (a : At) (source : Nat) (s t : State), t = s.advance a → t.sup.asleep = true → t.wakes source = true →
    ∃ u, exec (.wake a source) s = .next u ∧ u.bin.resetCause = 6 ∧ u.sup.asleep = false ∧ u.nv.mem = t.nv.mem ∧
      u.pending = t.pending ∧
      (t.sup.testHold = false → u.rdy Rdy.binnacle = true ∧ u.nv.sheaf.get 1 = 1))

/-- SUPPLY_SAMPLE, 50 µs or more after the one before, keeps the three voltages, and the power path goes from MAIN to BACKUP when VMAIN is then absent and VBACK present, and stays as it is otherwise; that change owes sheaf counter 3 one more while BINNACLE is set. SWITCH_TO_MAIN returns from BACKUP to MAIN, outside SLEEP, after 100 ms of VMAIN, or with VBACK absent while the mean of VMAIN is 16.0 V or more, and owes the sheaf nothing. NV_GOOD_CHANGE of a module that is not OFF sets the NV-good condition where it does not hold at a hold-up voltage of 12.0 V or more, with the MRAM and the operations that wait as they were, and clears it below 11.5 V and changes nothing else; between the two voltages only time passes. (R520, R521, R522, R443) -/
def Obligations.SuppliesAndNvGood : Prop :=
  (∀ (a : At) (vmain vback vhold : Nat) (s t : State) (p : Supply), t = s.advance a →
    (∀ c, t.sup.sampledAt = some c → c + 50 ≤ t.clock) → p = t.sup.sample vmain vback vhold →
    ∃ v, exec (.supplySample a vmain vback vhold) s = .next v ∧ v.sup.vmain = (vmain :: t.sup.vmain).take 20 ∧
      v.sup.vback = vback ∧ v.sup.vhold = vhold ∧
      v.sup.state = (if t.sup.state = SupplyState.main ∧ p.mainPresent = false ∧ p.backPresent = true then SupplyState.backup
        else t.sup.state) ∧
      (t.sup.state = SupplyState.main → p.mainPresent = false → p.backPresent = true → t.rdy Rdy.binnacle = true →
        v.nv.sheaf.get 3 = t.nv.sheaf.get 3 + 1)) ∧
  (∀ (a : At) (s t : State), t = s.advance a → t.sup.state = SupplyState.backup → t.sup.asleep = false →
    (2000 ≤ t.sup.mainSamples ∨ (t.sup.backPresent = false ∧ t.sup.meanAtLeast 16000 = true)) →
    ∃ u, exec (.switchToMain a) s = .next u ∧ u.sup.state = SupplyState.main ∧ u.nv.sheaf = t.nv.sheaf) ∧
  (∀ (a : At) (s t : State), t = s.advance a → t.sup.state ≠ SupplyState.off → t.nv.good = false → 12000 ≤ t.sup.vhold →
    ∃ u, exec (.nvGoodChange a) s = .next u ∧ u.nv.good = true ∧ u.nv.mem = t.nv.mem ∧ u.nv.queue = t.nv.queue) ∧
  (∀ (a : At) (s t : State), t = s.advance a → t.sup.state ≠ SupplyState.off → t.nv.good = true → t.sup.vhold < 11500 →
    exec (.nvGoodChange a) s = .next { t with nv.good := false }) ∧
  (∀ (a : At) (s t : State), t = s.advance a → 11500 ≤ t.sup.vhold → t.sup.vhold < 12000 →
    exec (.nvGoodChange a) s = .next t)

/-- COLLAPSE in MAIN or BACKUP, after two samples in a row with both supplies absent, enters HOLDUP: no page operation, record or addition waits any longer, and of READY only BINNACLE, NVSTORE and LOGBOOK can stand. HOLDUP_END in HOLDUP removes the rails: state OFF, READY 0, the MRAM and the Almanac count as they were. (R444, R521, R525) -/
def Obligations.CollapseShedsTheLoads : Prop :=
  (∀ (a : At) (s t : State), t = s.advance a → (t.sup.state = SupplyState.main ∨ t.sup.state = SupplyState.backup) →
    2 ≤ t.sup.collapseSamples →
    ∃ u, exec (.collapse a) s = .next u ∧ u.sup.state = SupplyState.holdup ∧ u.nv.queue = [] ∧ u.nv.saves = [] ∧
      u.nv.sheaf = [] ∧ u.ready &&& ~~~shedMask = 0) ∧
  (∀ (a : At) (s t : State), t = s.advance a → t.sup.state = SupplyState.holdup →
    ∃ u, exec (.holdupEnd a) s = .next u ∧ u.sup.state = SupplyState.off ∧ u.ready = 0 ∧ u.nv.mem = t.nv.mem ∧
      u.alm.count = t.alm.count)

/-- A measurement of the hold-up store that runs ends, and its turn and class are kept; SLEEP_ENTRY, where the module may go to sleep, ends with READY 0, the module asleep and SC0 to SC3 stopped; CRYSTAL_LOST of a module that is not OFF takes the crystal and both lanes of the Mirror link away; CRYSTAL_RETURNED gives the crystal back at a turn boundary after 64 good turns. (R524, R537, R39) -/
def Obligations.StoreClassSleepAndCrystal : Prop :=
  (∀ (a : At) (cap10 : Nat) (s t : State), t = s.advance a → t.sup.measuring = true →
    ∃ u, exec (.holdStoreMeasurement a cap10) s = .next u ∧ u.sup.measuring = false ∧ u.sup.holdTurn = some t.turn ∧
      u.sup.holdClass = some (t.holdClassOf cap10)) ∧
  (∀ (a : At) (s t : State), t = s.advance a → t.mayDoze = true →
    ∃ u, exec (.sleepEntry a) s = .next u ∧ u.ready = 0 ∧ u.sup.asleep = true ∧ u.bin.svc = SvcRun.stopped) ∧
  (∀ (a : At) (s t : State), t = s.advance a → t.sup.state ≠ SupplyState.off → t.sen.crystal = true →
    ∃ u, exec (.crystalLost a) s = .next u ∧ u.sen.crystal = false ∧ u.pair.lanesIn = 0 ∧ u.pair.lanesOut = 0) ∧
  (∀ (a : At) (s t : State), t = s.advance a → t.sen.crystal = false → t.rdy Rdy.binnacle = true → t.grain = 0 →
    64 ≤ t.sen.crystalGoodTurns →
    ∃ u, exec (.crystalReturned a) s = .next u ∧ u.sen.crystal = true ∧ u.sen.crystalGoodTurns = 0)

/-- With BINNACLE set, a heartbeat timeout of a core and a fault report, while the service image runs or starts, and a start timeout 2 s into its start each lead to a state with SERVICES clear and a failure count one higher, at most 3: below 3 the service cores pause for their restart, at 3 they are stopped and autopilot is set. (R473, R474, R475) -/
def Obligations.ServiceFirmwareFailures : Prop :=
  (∀ (a : At) (core : Nat) (s t : State), t = s.advance a → t.svcOn = true → t.rdy Rdy.binnacle = true → core < 4 →
    ∃ u, exec (.serviceHeartbeatTimeout a core) s = .next u ∧ Safety.FailureCounted t u) ∧
  (∀ (a : At) (core : Nat) (s t : State), t = s.advance a → t.svcOn = true → t.rdy Rdy.binnacle = true →
    ∃ u, exec (.serviceFaultReport a core) s = .next u ∧ Safety.FailureCounted t u) ∧
  (∀ (a : At) (s t : State), t = s.advance a → t.bin.svc = SvcRun.starting → t.rdy Rdy.binnacle = true →
    t.bin.since + 2000000 ≤ t.clock →
    ∃ u, exec (.serviceStartTimeout a) s = .next u ∧ Safety.FailureCounted t u)

/-- SERVICE_RESTART, when the image may start: the service cores start when its signature and its header hold, and a failure is counted otherwise. SERVICES_RISES ends a start with NVSTORE set: SERVICES is set, the server has started once more and no UDP session stands. FAILURE_COUNT_RESET after 16 384 turns with SERVICES set sets the failure count to 0 and queues Binnacle's state record. HEALTHY within 60 s of the start of a trial makes the slot on trial ACTIVE. TRIAL_TIMEOUT after 60 s makes it REJECTED: for a service image that runs or starts with a failure counted, for Binnacle with BINNACLE set and NVSTORE and LOGBOOK clear. VERIFY_COMPLETE of a written slot leaves it VERIFIED when its signature and its header hold and REJECTED otherwise. (R474, R532, R388, R486, R473, R485, R483) -/
def Obligations.ServiceImagesStartAndTrials : Prop :=
  (∀ (a : At) (s t : State), t = s.advance a → t.mayStart = true → t.headerFits (t.bin.running false) = true →
    ∃ u, exec (.serviceRestart a true) s = .next u ∧ u.bin.svc = SvcRun.starting ∧ u.bin.since = t.clock) ∧
  (∀ (a : At) (verifies : Bool) (s t : State), t = s.advance a → t.mayStart = true →
    (verifies && t.headerFits (t.bin.running false)) = false →
    ∃ u, exec (.serviceRestart a verifies) s = .next u ∧ Safety.FailureCounted t u) ∧
  (∀ (a : At) (s t : State), t = s.advance a → t.bin.svc = SvcRun.starting → t.rdy Rdy.nvstore = true →
    t.rdy Rdy.services = false →
    ∃ u, exec (.servicesRises a) s = .next u ∧ u.bin.svc = SvcRun.running ∧ u.tr.udp = [] ∧
      u.mb.serverStarts = t.mb.serverStarts + 1 ∧ u.rdy Rdy.services = true) ∧
  (∀ (a : At) (s t : State), t = s.advance a → t.rdy Rdy.services = true → t.bin.servicesSince + 16384 ≤ t.turn →
    t.bin.failures ≠ 0 →
    exec (.failureCountReset a) s = .next ({ t with bin.failures := 0 } : State).saveBinnacle) ∧
  (∀ (a : At) (binnacle : Bool) (i : Nat) (s t : State), t = s.advance a → t.bin.find binnacle .trial = some i →
    t.rdy (if binnacle then Rdy.binnacle else Rdy.services) = true → t.clock < t.bin.trialSince + 60000000 →
    ∃ u, exec (.healthy a binnacle) s = .next u ∧ u.bin.slot i = SlotState.active) ∧
  (∀ (a : At) (i : Nat) (s t : State), t = s.advance a → t.bin.find false .trial = some i → t.rdy Rdy.binnacle = true →
    t.bin.trialSince + 60000000 ≤ t.clock → t.svcOn = true →
    ∃ u, exec (.trialTimeout a false) s = .next u ∧ Safety.FailureCounted t u ∧ u.bin.slot i = SlotState.rejected) ∧
  (∀ (a : At) (i : Nat) (s t : State), t = s.advance a → t.bin.find true .trial = some i → t.rdy Rdy.binnacle = true →
    t.bin.trialSince + 60000000 ≤ t.clock →
    ∃ u, exec (.trialTimeout a true) s = .next u ∧ u.bin.slot i = SlotState.rejected ∧ u.rdy Rdy.binnacle = true ∧
      u.rdy Rdy.nvstore = false ∧ u.rdy Rdy.logbook = false) ∧
  (∀ (a : At) (binnacle verifies : Bool) (i : Nat) (s t : State), t = s.advance a → t.bin.free binnacle = some i →
    t.rdy Rdy.binnacle = true → t.bin.slot i = SlotState.written →
    ∃ u, exec (.verifyComplete a binnacle verifies) s = .next u ∧
      u.bin.slot i = (if verifies && t.headerFits i then SlotState.verified else SlotState.rejected))

/-- With BINNACLE set: a Binnacle restart leaves BINNACLE set, NVSTORE and LOGBOOK clear and the MRAM as it was. A sensor sample, 1 ms or more after the last, keeps its stamp, the input current, the value of each of up to 12 rails and of each of up to 4 dice. An SRAM finding of a region with corrections alone raises the record 000Bh of SEVERITY 1, and one with uncorrectable words raises it with SEVERITY 4 and then has the effect State.sramLoss of its region. The end of a self-test that runs, passed or failed after the turns for which it drives its outputs, or incomplete, ends every request for it that was not deferred, and a disruptive test holds no output any longer. (R478, R471, R472, R480, R482, R487) -/
def Obligations.BinnacleRestartsAndScrubs : Prop :=
  (∀ (a : At) (kept : Bool) (s t : State), t = s.advance a → t.rdy Rdy.binnacle = true →
    ∃ u, exec (.binnacleWatchdog a kept) s = .next u ∧ u.rdy Rdy.binnacle = true ∧ u.rdy Rdy.nvstore = false ∧
      u.rdy Rdy.logbook = false ∧ u.nv.mem = t.nv.mem) ∧
  (∀ (a : At) (rails : List Nat) (temps : List Int) (vbat : Option Nat) (iin : Nat) (s t : State), t = s.advance a →
    t.rdy Rdy.binnacle = true → (∀ c, t.sen.sampledAt = some c → c + 1000 ≤ t.clock) →
    ∃ u, exec (.sensorSample a rails temps vbat iin) s = .next u ∧ u.sen.stamp = t.now ∧ u.sen.iin = iin ∧
      (∀ i, i < 12 → i < rails.length → (u.sen.rails.get i).value = rails.getD i 0) ∧
      (∀ i, i < 4 → i < temps.length → (u.sen.temps.get i).value = temps.getD i 0)) ∧
  (∀ (a : At) (region item corrected : Nat) (s t : State), t = s.advance a → t.rdy Rdy.binnacle = true → region < 8 →
    corrected ≠ 0 →
    exec (.sramScrubStep a region item corrected 0) s =
      .next (t.record3 0 1 0x000B (le 1 region ++ le 4 corrected ++ le 4 0) 0)) ∧
  (∀ (a : At) (region item corrected uncorrectable : Nat) (s t : State), t = s.advance a → t.rdy Rdy.binnacle = true →
    region < 8 → uncorrectable ≠ 0 →
    exec (.sramScrubStep a region item corrected uncorrectable) s =
      .next ((t.record3 0 4 0x000B (le 1 region ++ le 4 corrected ++ le 4 uncorrectable) 0).sramLoss region item)) ∧
  (∀ (a : At) (test outcome : Nat) (detail : List Byte) (s t : State), t = s.advance a → t.rdy Rdy.binnacle = true →
    t.testRuns test = true → (2 ≤ outcome ∨ t.bin.testTurn + testTurns test ≤ t.turn) →
    ∃ u, exec (.selftestComplete a test outcome detail) s = .next u ∧
      (∀ i, i ∈ u.mb.interims → isTest test i = true → i.isDeferred = true) ∧
      (testPassive test = false → u.bin.selftest = none))

/-- With NVSTORE set and the NV-good condition: the next page operation runs unless it has a priority above 3 and Logbook records wait, or above 5 and additions wait; the first addition writes its cell, whole or cut after its first word, unless Logbook records or operations of a priority below 5 wait; the next object becomes page operations when the store admits it and has room, starts compaction when it has none, and is refused when the store does not admit it. Compaction with the NV-good condition makes the object page operations, or refuses it when there is still no room. Without NVSTORE or the condition the first three commands change nothing. (R440, R442, R447, R448, R451, R453) -/
def Obligations.StoreWritesRunInOrder : Prop :=
  (∀ (a : At) (fate : JrnFate) (o : PageOp) (s t : State), t = s.advance a → t.rdy Rdy.nvstore = true → t.nv.good = true →
    t.nv.nextOp = some o → (3 < o.prio → t.logWaits = false) → (5 < o.prio → t.nv.sheaf = []) →
    exec (.journaledPageOperation a fate) s = .next { t with nv := (t.nv.dropOp o).runOp o fate }) ∧
  (∀ (a : At) (cut : Bool) (n k m : Nat) (rest : Tbl Nat) (w : Nv) (c : Nat) (bs : List Byte) (s t : State), t = s.advance a →
    t.rdy Rdy.nvstore = true → t.nv.good = true → t.logWaits = false → (∀ o, o ∈ t.nv.queue → 5 ≤ o.prio) →
    t.nv.sheaf = (n, k) :: rest → m = min k 65535 → w = { t.nv with sheaf := t.nv.sheaf.set n (k - m) } →
    w.sheafCell n m = some (c, bs) →
    exec (.sheafAddition a cut) s = .next { t with nv := w.write (cellAddr n c) (if cut then bs.take 8 else bs) }) ∧
  (∀ (a : At) (q : SaveReq) (p : Nat) (n : Nv) (s t : State), t = s.advance a → t.rdy Rdy.nvstore = true → t.nv.good = true →
    t.nv.nextSave = some q → n = { t.nv with saves := t.nv.saves.erase q } → n.admits q = true →
    n.findRun (recordPages q.payload.length) = some p →
    exec (.recordWrite a) s = .next { t with nv := n.queueRecord q p }) ∧
  (∀ (a : At) (q : SaveReq) (n : Nv) (s t : State), t = s.advance a → t.rdy Rdy.nvstore = true → t.nv.good = true →
    t.nv.nextSave = some q → n = { t.nv with saves := t.nv.saves.erase q } → n.admits q = true →
    n.findRun (recordPages q.payload.length) = none →
    exec (.recordWrite a) s = .next { t with nv.compacting := true }) ∧
  (∀ (a : At) (q : SaveReq) (n : Nv) (s t : State), t = s.advance a → t.rdy Rdy.nvstore = true → t.nv.good = true →
    t.nv.nextSave = some q → n = { t.nv with saves := t.nv.saves.erase q } → n.admits q = false →
    exec (.recordWrite a) s = .next (State.storeFullRecord q { t with nv := n })) ∧
  (∀ (a : At) (q : SaveReq) (n : Nv) (s t : State), t = s.advance a → t.nv.compacting = true → t.nv.good = true →
    t.nv.nextSave = some q →
    n = { (t.nv.compact 2048 (recordPages q.payload.length) : Nv) with compacting := false, saves := t.nv.saves.erase q } →
    (∀ p, n.findRun (recordPages q.payload.length) = some p →
      exec (.compaction a) s = .next { t with nv := n.queueRecord q p }) ∧
    (n.findRun (recordPages q.payload.length) = none →
      exec (.compaction a) s = .next (State.storeFullRecord q { t with nv := n }))) ∧
  (∀ (a : At) (fate : JrnFate) (cut : Bool) (s t : State), t = s.advance a → (t.rdy Rdy.nvstore = false ∨ t.nv.good = false) →
    exec (.journaledPageOperation a fate) s = .next t ∧ exec (.sheafAddition a cut) s = .next t ∧
    exec (.recordWrite a) s = .next t)

/-- NV_RECOVERY, with BINNACLE set, NVSTORE clear, the NV-good condition, and ALMANAC set or 20 ms past, and an image of Binnacle that verifies: with MERIDIAN clear NVSTORE and MERIDIAN are set, Meridian is in DEAD_RECKONING and its stamp is the first grain of a turn T0, 1 or later, plus the grains since Binnacle started; with MERIDIAN set, after a Binnacle restart, NVSTORE is set and Meridian is as it was. LOGBOOK_RECOVERY with NVSTORE set and LOGBOOK clear sets LOGBOOK. A scrub step, 16 turns or more after the last, moves to the next of the 32 768 pages and writes nothing to the MRAM itself. (R456, R529, R530, R613, R57, R478, R468, R438) -/
def Obligations.RecoveryRaisesTheStore : Prop :=
  (∀ (a : At) (found : Recovery) (s t : State), t = s.advance a → t.rdy Rdy.binnacle = true → t.nv.good = true →
    t.rdy Rdy.nvstore = false → t.rdy Rdy.meridian = false → (t.rdy Rdy.almanac = true ∨ found.late = true) →
    (t.recoverStore.restoreBinnacle.imageVerified found.images).isSome = true →
    ∃ u, exec (.nvRecovery a found) s = .next u ∧ u.rdy Rdy.nvstore = true ∧ u.rdy Rdy.meridian = true ∧
      u.mer.state = MerState.deadReckoning ∧
      ∃ t0 : Nat, 1 ≤ t0 ∧ u.mer.stamp = BitVec.ofNat 64 (t0 * grainsPerTurn + t.mer.early)) ∧
  (∀ (a : At) (found : Recovery) (s t : State), t = s.advance a → t.rdy Rdy.binnacle = true → t.nv.good = true →
    t.rdy Rdy.nvstore = false → t.rdy Rdy.meridian = true → (t.rdy Rdy.almanac = true ∨ found.late = true) →
    (t.recoverStore.imageVerified found.images).isSome = true →
    ∃ u, exec (.nvRecovery a found) s = .next u ∧ u.rdy Rdy.nvstore = true ∧ u.mer = t.mer) ∧
  (∀ (a : At) (s t : State), t = s.advance a → t.rdy Rdy.nvstore = true → t.rdy Rdy.logbook = false →
    ∃ u, exec (.logbookRecovery a) s = .next u ∧ u.rdy Rdy.logbook = true) ∧
  (∀ (a : At) (corrected bad : List Nat) (s t : State), t = s.advance a → t.rdy Rdy.nvstore = true → t.scrubDue = true →
    ∃ u, exec (.mramScrubStep a corrected bad) s = .next u ∧ u.nv.scrubPage = (t.nv.scrubPage + 1) % 32768 ∧
      u.nv.scrubTurn = some t.turn ∧ u.nv.mem = t.nv.mem)

/-- While fewer than 256 records wait, a record raised stands last in the queue with its source, severity, code, payload and the stamp of its instant, and nothing but the Logbook changes. LOGBOOK_WRITE, with LOGBOOK set, the NV-good condition and a queue that is not empty, assigns at least one SEQ; where one of the three is missing only time passes. (R461, R462) -/
def Obligations.LogbookQueueAndWrite : Prop :=
  (∀ (a : At) (source severity code target : Nat) (payload : List Byte) (posts : Bool) (s t : State), t = s.advance a →
    t.log.queue.length < 256 →
    ∃ u r, exec (.logbookRecordRaised a source severity code payload posts target) s = .next u ∧
      u.log.queue = t.log.queue ++ [r] ∧ r.source = source ∧ r.severity = severity ∧ r.code = code ∧ r.payload = payload ∧
      r.stamp = t.now ∧ u = { t with log := u.log }) ∧
  (∀ (a : At) (s t : State), t = s.advance a → t.rdy Rdy.logbook = true → t.nv.good = true → t.log.queue ≠ [] →
    ∃ u, exec (.logbookWrite a) s = .next u ∧ t.log.nextSeq < u.log.nextSeq) ∧
  (∀ (a : At) (s t : State), t = s.advance a → (t.rdy Rdy.logbook = false ∨ t.nv.good = false ∨ t.log.queue = []) →
    exec (.logbookWrite a) s = .next t)

/-- CONFIG_SELECTION, with NVSTORE set, CONFIG clear and no commit pending, classes the sets; with no valid one the record 0004h of SEVERITY 4 is raised under SOURCE 28 and nothing else happens; otherwise the chosen set is pending with the values and the report that its evaluation gives. CFG_EFFECT at a turn boundary puts what is pending into force, at start-up, while SERVICES is set or while CONFIG is clear: its values and report stand, its set is ACTIVE, nothing is pending and CONFIG is set. (NVSTORE set, no STORE request held.) (R424, R426, R434) -/
def Obligations.ConfigurationSelection : Prop :=
  (∀ (a : At) (s t u : State), t = s.advance a → t.rdy Rdy.nvstore = true → t.rdy Rdy.config = false → t.cfg.pending = none →
    u = t.classSets → u.cfg.candidates = [] →
    exec (.configSelection a) s =
      .next (u.record 28 4 0x0004 (le 1 (u.cfg.countIn .incomplete) ++ le 1 (u.cfg.countIn .damaged)) true 0)) ∧
  (∀ (a : At) (n : Nat) (rest : List Nat) (ev : Evaluated) (s t : State), t = s.advance a → t.rdy Rdy.nvstore = true →
    t.rdy Rdy.config = false → t.cfg.pending = none → t.classSets.cfg.candidates = n :: rest →
    ev = evaluate (t.classSets.image n (t.classSets.cfg.set n).size) (t.classSets.cfg.set n).size t.classSets.expertKey →
    ∃ u p, exec (.configSelection a) s = .next u ∧ u.cfg.pending = some p ∧ p.set = n ∧ p.atStart = true ∧
      p.values = ev.values ∧ p.report = ev.report) ∧
  (∀ (a : At) (p : PendingCommit) (s t : State), t = s.advance a → t.cfg.pending = some p → t.grain = 0 → p.set < 4 →
    (p.atStart = true ∨ t.rdy Rdy.services = true ∨ t.rdy Rdy.config = false) → t.rdy Rdy.nvstore = true → t.cfg.held = [] →
    ∃ u, exec (.cfgEffect a) s = .next u ∧ u.cfg.values = p.values ∧ u.cfg.report = p.report ∧
      (u.cfg.set p.set).state = SetState.active ∧ u.cfg.pending = none ∧ u.rdy Rdy.config = true)

/-- With MERIDIAN set: a fitted crossing leads to the state State.crossing; the first fit update of a half turn, with a frequency above 0, keeps frequency and amplitude, and in DEAD_RECKONING and QUALIFY changes nothing else but the half turn kept; a loss of the waveform, 1.25 turns or more after the last crossing and outside DEAD_RECKONING, enters it with MERIDIAN_LOCK clear and the stamp as it was; a turn mark and, with CONCORD_LOG on, a CONCORDANCE record are written when their periods are over. With MERIDIAN clear each of the five lets only time pass. (R41, R45, R48, R56, R74) -/
def Obligations.MeridianEvents : Prop :=
  (∀ (a : At) (period ampFirst ampLast : Nat) (s t : State), t = s.advance a → t.rdy Rdy.meridian = true →
    exec (.fittedCrossing a period ampFirst ampLast) s = .next (t.crossing period ampFirst ampLast)) ∧
  (∀ (a : At) (hz amp toEnd : Nat) (s t : State), t = s.advance a → t.rdy Rdy.meridian = true →
    t.mer.fitHalf ≠ some t.halfTurns → 0 < hz →
    ∃ u, exec (.fitUpdate a hz amp toEnd) s = .next u ∧ u.mer.mains = hz ∧ u.mer.amplitude = amp ∧
      (t.mer.state = MerState.deadReckoning ∨ t.mer.state = MerState.qualify →
        u = { t with mer := { t.mer with mains := hz, amplitude := amp, fitHalf := some t.halfTurns } })) ∧
  (∀ (a : At) (s t : State), t = s.advance a → t.rdy Rdy.meridian = true → t.mer.state ≠ MerState.deadReckoning →
    lossInterval ≤ t.sinceCrossing →
    ∃ u, exec (.lossDetection a) s = .next u ∧ u.mer.state = MerState.deadReckoning ∧ u.mer.stamp = t.mer.stamp ∧
      u.rdy Rdy.lock = false) ∧
  (∀ (a : At) (s t : State), t = s.advance a → t.rdy Rdy.meridian = true → t.periodOver t.mer.markTurn 65536 = true →
    exec (.turnMark a) s =
      .next (({ t with mer.markTurn := some t.turn } : State).save
        { typ := 1, key := 0, payload := turnMark t.turn t.alm.count.toNat t.mer.lastMean })) ∧
  (∀ (a : At) (s t : State), t = s.advance a → t.rdy Rdy.meridian = true → t.cfgN Fid.CONCORD_LOG = 1 →
    t.periodOver t.mer.concordTurn 262144 = true →
    exec (.concordanceLogPeriod a) s = .next (State.concordRecord { t with mer.concordTurn := some t.turn })) ∧
  (∀ (a : At) (period ampFirst ampLast hz amp toEnd : Nat) (s t : State), t = s.advance a → t.rdy Rdy.meridian = false →
    exec (.fittedCrossing a period ampFirst ampLast) s = .next t ∧ exec (.fitUpdate a hz amp toEnd) s = .next t ∧
    exec (.lossDetection a) s = .next t ∧ exec (.turnMark a) s = .next t ∧ exec (.concordanceLogPeriod a) s = .next t)

/-- With MERIDIAN set and the last grain of a turn reached, a turn boundary moves the stamp to grain 0 of the next turn; at any other grain it leaves everything but the time as it is: no turn is skipped. (R46, R13) -/
def Obligations.TurnBoundaryBeginsTheNextTurn : Prop :=
  (∀ (a : At) (e : Int) (s t : State), t = s.advance a → t.rdy Rdy.meridian = true → t.grain + 1 = grainsPerTurn →
    ∃ u, exec (.turnBoundary a e) s = .next u ∧ u.mer.stamp = mkStamp (t.turn + 1) 0) ∧
  (∀ (a : At) (e : Int) (s t : State), t = s.advance a → (t.rdy Rdy.meridian = false ∨ t.grain + 1 ≠ grainsPerTurn) →
    exec (.turnBoundary a e) s = .next t)

/-- With MERIDIAN set, a slot fires that is due now while no lower slot is: FIRED is set, its count rises by 1 modulo 65 536, a ONE_SHOT disarms (EvSlot.firedBy), a late ONE_SHOT is recorded (State.slotLate), its ACTION takes place (State.slotAction), and what follows the latches of a floor apply angle happens once they have fired (State.afterApply). Written out for two actions: NONE does nothing, and SIGNAL posts its entry with ARG and the turn. A disarmed slot, and a periodic slot that has fired for its latest due stamp, do not fire. (R70, R71, R72, R66, R397) -/
def Obligations.SlotFires : Prop :=
  (∀ (a : At) (slot late waiting : Nat) (e : EvSlot) (s t : State), t = s.advance a → t.rdy Rdy.meridian = true →
    t.fires slot = true → e = t.mer.slots.get slot →
    exec (.slotFire a slot late waiting) s =
      .next (State.slotAction slot late waiting e.words
        (State.slotLate slot e.words { t with mer := { t.mer with slots := t.mer.slots.set slot (e.firedBy t.now) } })).afterApply) ∧
  (∀ (a : At) (slot late waiting : Nat) (s t : State), t = s.advance a → t.rdy Rdy.meridian = true → t.fires slot = true →
    (t.mer.slots.get slot).words.action = 0 → (t.mer.slots.get slot).words.kind ≠ 2 →
    exec (.slotFire a slot late waiting) s =
      .next (State.afterApply { t with mer := { t.mer with slots := (t.mer.slots.set slot
        { t.mer.slots.get slot with
          fired := true, count := ((t.mer.slots.get slot).count + 1) % 65536, firedAt := t.now }) } })) ∧
  (∀ (a : At) (slot late waiting : Nat) (s t : State), t = s.advance a → t.rdy Rdy.meridian = true → t.fires slot = true →
    (t.mer.slots.get slot).words.action = 9 → (t.mer.slots.get slot).words.kind ≠ 2 →
    ∃ (u : State) (v : EvEntry), exec (.slotFire a slot late waiting) s = .next (u.postEvent v).afterApply ∧
      u = { t with mer := u.mer } ∧ (u.mer.slots.get slot).fired = true ∧ v.source = 4 ∧ v.severity = 0 ∧ v.code = 0xF010 ∧
      v.target = slot ∧ v.payload = le 2 (t.mer.slots.get slot).words.arg ++ le 8 t.turn) ∧
  (∀ (a : At) (slot late waiting : Nat) (s t : State), t = s.advance a → (t.mer.slots.get slot).words.en = false →
    exec (.slotFire a slot late waiting) s = .next t) ∧
  (∀ (a : At) (slot late waiting d : Nat) (s t : State), t = s.advance a → (t.mer.slots.get slot).words.kind ≠ 2 →
    (t.mer.slots.get slot).words.lastDue t.now = some d → d ≤ (t.mer.slots.get slot).firedAt.toNat →
    exec (.slotFire a slot late waiting) s = .next t)

/-- ALARM of an alarm that is due fires it with cause 1 and leaves the count as it is. WRAPPED of a roll-over not yet recorded takes TIME_BASE from the services, and nothing is owed any longer when ALMANAC is set. POWER_LOST owed is recorded when ALMANAC is set, as the record 0004h of SEVERITY 3. TRIM_PERIOD_START of a domain with power and no commit waiting begins a period at cycle 0 with the TRIM written last. DOMAIN_POWER_ON of a domain without power, or while the module is OFF, gives the domain its reset values and takes TIME_BASE from the services. ALMANAC_CRYSTAL_CHECK of a domain with power, with BINNACLE and MERIDIAN set and 64 turns or more after the last, keeps count and turn and lengthens the run of passes when the advance is within 1 % of the expected ticks and that of failures when it is below half of them, and ends the other. With the interface open a read of COUNT_LO takes bits 47:32 into the shadow, and a write of COUNT_LO or of the low word of alarm 0 or 1 waits for its crystal edge. ALMANAC_COMMIT_EDGE of a domain with power, with at most one write of R556 not yet performed: a waiting COUNT_LO commits the high and the low part to the count, EPOCH rises by 1, WRAPPED clears and nothing waits; a waiting alarm takes its value and enable, no longer waits, and stands fired exactly when it is enabled and the count has reached it. With the interface locked neither reads nor writes do anything. (R549, R543, R553, R544, R545, R546, R547, R548, R550, R552) -/
def Obligations.AlmanacDomainAndRegisters : Prop :=
  (∀ (a : At) (n : Nat) (s t : State), t = s.advance a → n < 2 → t.alm.due n = true →
    ∃ u, exec (.alarm a n) s = .next u ∧ (u.alm.alarm n).fired = true ∧ (u.alm.alarm n).cause = 1 ∧ u.alm.count = t.alm.count) ∧
  (∀ (a : At) (s t : State), t = s.advance a → t.alm.wrapOwed = true →
    ∃ u, exec (.wrapped a) s = .next u ∧ u.svc.timeValid = false ∧ u.alm.wrapOwed = !t.rdy Rdy.almanac) ∧
  (∀ (a : At) (s t : State), t = s.advance a → t.alm.powerLostOwed = true → t.rdy Rdy.almanac = true →
    exec (.powerLost a) s = .next (State.record3 1 3 0x0004 [] 0 { t with alm.powerLostOwed := false })) ∧
  (∀ (a : At) (s t : State), t = s.advance a → t.alm.committing = false → t.alm.dead = false →
    ∃ u, exec (.trimPeriodStart a) s = .next u ∧ u.alm.cycle = 0 ∧ u.alm.trim = t.alm.trimNew) ∧
  (∀ (a : At) (s t : State), t = s.advance a → (t.alm.dead = true ∨ t.sup.state = SupplyState.off) →
    exec (.domainPowerOn a) s =
      .next { t with alm := { dead := false, powerLostOwed := true, locked := t.alm.locked }, svc.timeValid := false }) ∧
  (∀ (a : At) (expected adv : Nat) (s t : State), t = s.advance a → t.rdy Rdy.binnacle = true → t.rdy Rdy.meridian = true →
    t.alm.dead = false → (∀ n, t.alm.checkTurn = some n → n + 64 ≤ t.turn) →
    adv = (t.alm.count - BitVec.ofNat 48 t.alm.lastCheck).toNat →
    ∃ u, exec (.almanacCrystalCheck a expected) s = .next u ∧ u.alm.count = t.alm.count ∧ u.alm.lastCheck = t.alm.count.toNat ∧
      u.alm.checkTurn = some t.turn ∧
      u.alm.passRun = (if ((adv : Int) - expected).natAbs * 100 ≤ expected then t.alm.passRun + 1 else 0) ∧
      u.alm.failRun = (if 2 * adv < expected then t.alm.failRun + 1 else 0)) ∧
  (∀ (a : At) (s t : State), t = s.advance a → t.alm.locked = false →
    exec (.countLoRead a) s = .next { t with alm.shadow := t.alm.count.toNat / 2 ^ 32 }) ∧
  (∀ (a : At) (lo : Nat) (s t : State), t = s.advance a → t.alm.locked = false →
    exec (.countLoWrite a lo) s =
      .next { t with alm.pendingLo := some (lo % 2 ^ 32), alm.lastHi := t.alm.pendingHi.getD t.alm.lastHi }) ∧
  (∀ (a : At) (n lo : Nat) (s t : State), t = s.advance a → t.alm.locked = false → n < 2 →
    ∃ u, exec (.alarmLoWrite a n lo) s = .next u ∧
      (u.alm.alarm n).commit = some ((t.alm.alarm n).pendingHi * 2 ^ 32 + lo % 2 ^ 32, (t.alm.alarm n).pendingEn) ∧
      u.alm.count = t.alm.count) ∧
  (∀ (a : At) (lo : Nat) (s t : State), t = s.advance a → t.alm.pendingLo = some lo → t.alm.dead = false →
    t.alm.writes.length ≤ 1 →
    ∃ u, exec (.almanacCommitEdge a) s = .next u ∧
      u.alm.count = BitVec.ofNat 48 (t.alm.pendingHi.getD t.alm.lastHi * 2 ^ 32 + lo) ∧ u.alm.epoch = t.alm.epoch + 1 ∧
      u.alm.wrapped = false ∧ u.alm.pendingLo = none) ∧
  (∀ (a : At) (n v : Nat) (e : Bool) (s t : State), t = s.advance a → n < 2 → (t.alm.alarm n).commit = some (v, e) →
    t.alm.dead = false → t.alm.writes.length ≤ 1 →
    ∃ u, exec (.almanacCommitEdge a) s = .next u ∧ (u.alm.alarm n).value = v ∧ (u.alm.alarm n).enabled = e ∧
      (u.alm.alarm n).commit = none ∧ (u.alm.alarm n).fired = (e && decide (v ≤ u.alm.count.toNat))) ∧
  (∀ (a : At) (n lo : Nat) (s t : State), t = s.advance a → t.alm.locked = true →
    exec (.countLoRead a) s = .next t ∧ exec (.countLoWrite a lo) s = .next t ∧ exec (.alarmLoWrite a n lo) s = .next t)

/-- With MERIDIAN set AO_WATCHDOG_REFRESH notes its stamp and clears the expiry; with MERIDIAN clear it lets only time pass. WATCHDOG, 16 ms after the last refresh and while no expiry stands, notes the expiry and clears AO and AGO; once an expiry stands it lets only time pass. With AGO set and no slot due at the grain unfired: AGO_LATCH of an output whose latch angle is reached and not yet taken latches it (State.agoLatch); AGO_EDGE of an output of mode 2 to 5 that is neither stopped nor in high impedance, with no latch due, drives the pin as the mode gives (State.agoActive), inverted by AGO_INVERT. With AO set, at grain 786 432, once per turn, AO_MONITOR_SAMPLE judges one reading for each of the first eight outputs (State.aoMonitor). FORCE_DURATION_END of an override whose last turn has come releases it; one without an end, or before it, stands. (R278, R290, R296, R279, R280, R281, R282, R288, R273, R295) -/
def Obligations.AnalogueAndAngleOutputs : Prop :=
  (∀ (a : At) (s t : State), t = s.advance a → t.rdy Rdy.meridian = true →
    ∃ u, exec (.aoWatchdogRefresh a) s = .next u ∧ u.out.lastRefresh = t.now ∧ u.out.refreshed = true ∧ u.out.expired = false) ∧
  (∀ (a : At) (s t : State), t = s.advance a → t.out.expired = false →
    ∃ u, exec (.watchdog a) s = .next u ∧ u.out.expired = true ∧ u.rdy Rdy.ao = false ∧ u.rdy Rdy.ago = false) ∧
  (∀ (a : At) (s t : State), t = s.advance a → t.rdy Rdy.meridian = false → exec (.aoWatchdogRefresh a) s = .next t) ∧
  (∀ (a : At) (s t : State), t = s.advance a → t.out.expired = true → exec (.watchdog a) s = .next t) ∧
  (∀ (a : At) (n : Nat) (s t : State), t = s.advance a → t.rdy Rdy.ago = true → n < 8 → t.slotsFired = true →
    t.agoLatchAngle n = true → (t.out.ago.get n).latched ≠ t.now →
    exec (.agoLatch a n) s = .next (t.agoLatch n)) ∧
  (∀ (a : At) (n : Nat) (s t : State), t = s.advance a → t.rdy Rdy.ago = true → n < 8 → 2 ≤ t.cfgN Fid.AGO_MODE n →
    (t.out.ago.get n).stopped = false → (t.out.ago.get n).highZ = false → t.slotsFired = true → t.agoLatchDue n = false →
    ∃ u, exec (.agoEdge a n) s = .next u ∧ (u.out.ago.get n).pin = xor (t.agoActive n) (t.out.ago.get n).invert) ∧
  (∀ (a : At) (readings : List (Nat × Int × Bool)) (s t : State), t = s.advance a → t.rdy Rdy.ao = true →
    t.atAngle grainsPerTurn 786432 = true → t.out.monitorTurn ≠ some t.turn →
    exec (.aoMonitorSample a readings) s = .next (State.each (readings.take 8).zipIdx
      (fun x u => u.aoMonitor x.2 x.1.1 x.1.2.1 x.1.2.2) { t with out.monitorTurn := some t.turn })) ∧
  (∀ (a : At) (kind n : Nat) (f : Force) (u : Nat) (s t : State), t = s.advance a → t.forceOf kind n = some f →
    f.until_ = some u →
    exec (.forceDurationEnd a kind n) s = .next (if u ≤ t.turn then t.setForce kind n none else t)) ∧
  (∀ (a : At) (kind n : Nat) (f : Force) (s t : State), t = s.advance a → t.forceOf kind n = some f → f.until_ = none →
    exec (.forceDurationEnd a kind n) s = .next t)

/-- EDGE_ACCEPTED of an input or input-output channel: with another threshold than WIREBREAK, a run of at least FC_IN_DEBOUNCE is accepted as State.acceptState with its state inverted by FC_IN_INVERT and the stamp of its first sample less the barrier delay, a shorter run lets only time pass; with WIREBREAK the current in µA is read as State.wireReading at that stamp. EDGE_LOST of a channel with overwritten entries, with BINNACLE set and no record of it within 64 turns, records their number and begins anew. FREQ_GATE of a FREQ input at the turn boundary of a multiple of FC_FREQ_GATE, once, with FGn set, closes the gate (State.closeGate). (R250, R252, R253, R254, R255, R274) -/
def Obligations.FieldInputs : Prop :=
  (∀ (a : At) (n ago : Nat) (on : Bool) (current : Option Nat) (s t : State), t = s.advance a → n < 32 →
    (t.chRole n = 1 ∨ t.chRole n = 3) → t.fcN Fid.FC_IN_THRESH n ≠ 2 →
    exec (.edgeAccepted a n on ago current) s =
      .next (if t.grainsIn (t.fcN Fid.FC_IN_DEBOUNCE n * 1000000) ≤ ago then
          t.acceptState n (xor on (t.fcN Fid.FC_IN_INVERT n == 1)) (t.now - BitVec.ofNat 64 (ago + t.delayGrains (groupOf n)))
        else t)) ∧
  (∀ (a : At) (n ago ua : Nat) (on : Bool) (s t : State), t = s.advance a → n < 32 →
    (t.chRole n = 1 ∨ t.chRole n = 3) → t.fcN Fid.FC_IN_THRESH n = 2 →
    exec (.edgeAccepted a n on ago (some ua)) s =
      .next (t.wireReading n ua (t.now - BitVec.ofNat 64 (ago + t.delayGrains (groupOf n))))) ∧
  (∀ (a : At) (n : Nat) (s t : State), t = s.advance a → 0 < (t.fld.ins.get n).lostRing →
    (∀ u, (t.fld.ins.get n).lostTurn = some u → u + 64 ≤ t.turn) → t.rdy Rdy.binnacle = true →
    exec (.edgeLost a n) s = .next (State.record3 (6 + groupOf n) 2 0x000F (le 1 n ++ le 2 (t.fld.ins.get n).lostRing ++ le 1 1) n
      (t.chIn n (fun c => { c with lostRing := 0, lostTurn := some t.turn })))) ∧
  (∀ (a : At) (n : Nat) (s t : State), t = s.advance a → n < 32 → t.chRole n = 1 → t.fcN Fid.FC_IN_MODE n = 1 →
    t.turn % t.fcN Fid.FC_FREQ_GATE n = 0 → t.grain = 0 → (t.fld.ins.get n).gateTurn ≠ some t.turn →
    t.rdy (Rdy.fg (groupOf n)) = true →
    exec (.freqGate a n) s = .next (t.closeGate n))

/-- With BINNACLE set and barrier power, a frame with a good CRC and a newer sequence number, or a link-start frame, is taken as State.upFrame or State.downFrame; one with a bad CRC changes nothing. UPLINK_TIMEOUT of a group with a link loses it (State.fgLost). BARRIER_TIMEOUT of a group that has frames notes that it has none and enters the safe state, in which a group that is in it stays. PARAMETER_BLOCK_APPLIED with a good CRC, at a turn boundary, with frames in both directions, in the safe state or with parameters pending, gives every channel the block (State.takeBlock). RESUME of a whole group with its parameters, at a turn boundary, leaves the safe state. BARRIER_DELAY_MEASUREMENT of 600 to 900 ns, at the link's start and every 64 turns, is kept. (R28, R36, R245, R246, R248, R265, R266, R528) -/
def Obligations.BarrierLinks : Prop :=
  (∀ (a : At) (g seq vfield : Nat) (start : Bool) (currents : List Nat) (s t : State), t = s.advance a → g < 4 →
    (t.fld.groups.get g).barrierPower = true → (start = true ∨ newer 16 seq (t.fld.groups.get g).upSeq = true) →
    t.rdy Rdy.binnacle = true →
    exec (.barrierFrame a g true start true seq vfield currents) s = .next (t.upFrame g seq vfield currents)) ∧
  (∀ (a : At) (g seq vfield : Nat) (start : Bool) (currents : List Nat) (s t : State), t = s.advance a → g < 4 →
    (t.fld.groups.get g).barrierPower = true → (start = true ∨ newer 16 seq (t.fld.groups.get g).downSeq = true) →
    t.rdy Rdy.binnacle = true →
    exec (.barrierFrame a g false start true seq vfield currents) s = .next (t.downFrame g seq start)) ∧
  (∀ (a : At) (g seq vfield : Nat) (up start : Bool) (currents : List Nat) (s t : State), t = s.advance a →
    exec (.barrierFrame a g up start false seq vfield currents) s = .next t) ∧
  (∀ (a : At) (g : Nat) (s t : State), t = s.advance a → (t.fld.groups.get g).linkUp = true →
    exec (.uplinkTimeout a g) s = .next (t.fgLost g 1)) ∧
  (∀ (a : At) (g : Nat) (s t : State), t = s.advance a → (t.fld.groups.get g).linkDown = true → t.sup.asleep = false →
    exec (.barrierTimeout a g) s =
      .next (if (t.fld.groups.get g).safe then t.group g (fun x => { x with linkDown := false, paramsSent := false })
        else (t.group g (fun x => { x with linkDown := false, paramsSent := false })).enterSafe g)) ∧
  (∀ (a : At) (g : Nat) (s t : State), t = s.advance a → g < 4 → (t.fld.groups.get g).linkDown = true →
    (t.fld.groups.get g).linkUp = true → t.grain = 0 → t.rdy Rdy.config = true → t.rdy Rdy.binnacle = true →
    ((t.fld.groups.get g).paramsPending = true ∨ (t.fld.groups.get g).safe = true) →
    exec (.parameterBlockApplied a g true) s = .next (State.each (channelsOf g) (State.takeBlock t)
      (t.group g (fun x => { x with params := true, block := t.cfg.blockOf g, paramsSent := true, paramsPending := false })))) ∧
  (∀ (a : At) (g : Nat) (s t : State), t = s.advance a → exec (.parameterBlockApplied a g false) s = .next t) ∧
  (∀ (a : At) (g : Nat) (s t : State), t = s.advance a → (t.fld.groups.get g).safe = true →
    (t.fld.groups.get g).whole = true → (t.fld.groups.get g).paramsSent = true → t.grain = 0 → t.rdy Rdy.binnacle = true →
    exec (.resume a g) s = .next (((t.group g (fun x => { x with safe := false })).safeRecord g false).fgRise g)) ∧
  (∀ (a : At) (g ns : Nat) (s t : State), t = s.advance a → (t.fld.groups.get g).linkUp = true →
    (t.fld.groups.get g).linkDown = true → (∀ n, (t.fld.groups.get g).delayTurn = some n → n + 64 ≤ t.turn) →
    600 ≤ ns → ns ≤ 900 →
    exec (.barrierDelayMeasurement a g ns) s = .next (t.group g (fun x => { x with delay := ns, delayTurn := some t.turn })))

/-- With the module powered and not in SLEEP, barrier power that comes is noted; barrier power that goes loses the link (State.fgLost), and a group without VFIELD then loses its state (State.groupPowerOn). VFIELD counts as present above 14.0 V and as absent below 12.0 V, with its record, its switches and its readiness following; a change of VFIELD within those limits is only kept. VFIELD_UV below FG_VFIELD_UV begins an undervoltage and 1.00 V above it ends it, each with its record; between, the voltage is only kept. (R247, R36, R248, R267) -/
def Obligations.FieldSupplies : Prop :=
  (∀ (a : At) (g : Nat) (s t : State), t = s.advance a → g < 4 → t.powered = true → t.sup.asleep = false →
    exec (.barrierPowerChange a g true) s = .next (t.group g (fun x => { x with barrierPower := true }))) ∧
  (∀ (a : At) (g : Nat) (s t : State), t = s.advance a → g < 4 → t.powered = true → t.sup.asleep = false →
    (t.fld.groups.get g).barrierPower = true →
    exec (.barrierPowerChange a g false) s = .next ((t.fgLost g 2).groupUnpowered g)) ∧
  (∀ (a : At) (g v : Nat) (s t : State), t = s.advance a →
    ((t.fld.groups.get g).vPresent = true ∧ 1200 ≤ v ∨ (t.fld.groups.get g).vPresent = false ∧ v ≤ 1400) →
    exec (.vfieldChange a g v) s =
      .next (t.group g (fun x => { x with vfield := v, vPresent := (t.fld.groups.get g).vPresent }))) ∧
  (∀ (a : At) (g v : Nat) (s t : State), t = s.advance a → (t.fld.groups.get g).vPresent = false → 1400 < v →
    exec (.vfieldChange a g v) s =
      .next ((((t.group g (fun x => { x with vfield := v, vPresent := true })).vfieldRecord g 0).groupPins g).fgRise g)) ∧
  (∀ (a : At) (g v : Nat) (s t w : State), t = s.advance a → (t.fld.groups.get g).vPresent = true → v < 1200 →
    (t.fld.groups.get g).barrierPower = true →
    w = ((t.group g (fun x => { x with vfield := v, vPresent := false })).vfieldRecord g 2).groupPins g →
    exec (.vfieldChange a g v) s = .next (if w.rdy (Rdy.fg g) then w.lower [Rdy.fg g] else w)) ∧
  (∀ (a : At) (g v : Nat) (s t : State), t = s.advance a → (t.fld.groups.get g).uv = false →
    v < 10 * t.fgN Fid.FG_VFIELD_UV g →
    exec (.vfieldUv a g v) s = .next (State.vfieldRecord g 1
      ((t.group g (fun x => { x with vfield := v })).group g (fun x => { x with uv := true })))) ∧
  (∀ (a : At) (g v : Nat) (s t : State), t = s.advance a → (t.fld.groups.get g).uv = true →
    10 * t.fgN Fid.FG_VFIELD_UV g + 100 ≤ v →
    exec (.vfieldUv a g v) s = .next (State.vfieldRecord g 0
      ((t.group g (fun x => { x with vfield := v })).group g (fun x => { x with uv := false })))) ∧
  (∀ (a : At) (g v : Nat) (s t : State), t = s.advance a →
    ((t.fld.groups.get g).uv = true ∧ v < 10 * t.fgN Fid.FG_VFIELD_UV g + 100 ∨
      (t.fld.groups.get g).uv = false ∧ 10 * t.fgN Fid.FG_VFIELD_UV g ≤ v) →
    exec (.vfieldUv a g v) s = .next (t.group g (fun x => { x with vfield := v })))

/-- A channel commanded on trips by OVERLOAD or THERMAL with its bit and record; one commanded off does not. A group above FG_GROUP_LIMIT trips the ON channel of the largest current with its record; at or below it none. TRIP_RETRY of a tripped channel without latch, cooled if the trip was thermal, at a turn boundary FC_RETRY_DELAY turns or more after the trip, drives it again (State.retry). RETRY_SERIES_END of a channel on for FC_RETRY_DELAY turns without a trip ends the series of retries. TPO_OFF_EDGE of a time-proportioned channel that is on and whose on time, shorter than its period, has ended, switches it off. (R259, R260, R261, R274) -/
def Obligations.FieldTripsAndRetries : Prop :=
  (∀ (a : At) (n : Nat) (s t : State), t = s.advance a → t.chCmd n = true →
    exec (.overload a n) s = .next ((t.trip n (fun o => { o with overload := true })).tripRecord n 0x0001) ∧
    exec (.thermal a n) s = .next ((t.trip n (fun o => { o with thermal := true })).tripRecord n 0x0002)) ∧
  (∀ (a : At) (n : Nat) (s t : State), t = s.advance a → t.chCmd n = false →
    exec (.overload a n) s = .next t ∧ exec (.thermal a n) s = .next t) ∧
  (∀ (a : At) (g current n : Nat) (s t : State), t = s.advance a → t.fgN Fid.FG_GROUP_LIMIT g < current →
    t.largest g = some n →
    exec (.groupOverload a g current) s = .next (State.fieldEvent g 3 0x000C (le 1 n ++ le 2 current) n
      (t.trip n (fun o => { o with groupOverload := true })))) ∧
  (∀ (a : At) (g current : Nat) (s t : State), t = s.advance a → current ≤ t.fgN Fid.FG_GROUP_LIMIT g →
    exec (.groupOverload a g current) s = .next t) ∧
  (∀ (a : At) (n : Nat) (cooled : Bool) (s t : State), t = s.advance a → (t.fld.outs.get n).tripped = true →
    (t.fld.outs.get n).latched = false → ((t.fld.outs.get n).thermal = false ∨ cooled = true) → t.grain = 0 →
    t.turnsPassed (t.fld.outs.get n).tripAt (t.fcN Fid.FC_RETRY_DELAY n) = true →
    exec (.tripRetry a n cooled) s = .next (t.retry n)) ∧
  (∀ (a : At) (n : Nat) (s t : State), t = s.advance a → 0 < (t.fld.outs.get n).retries → (t.fld.outs.get n).pin = true →
    (t.fld.outs.get n).tripped = false → t.turnsPassed (t.fld.outs.get n).onSince (t.fcN Fid.FC_RETRY_DELAY n) = true →
    exec (.retrySeriesEnd a n) s = .next (t.chOut n (fun o => { o with retries := 0 }))) ∧
  (∀ (a : At) (n : Nat) (s t : State), t = s.advance a → (t.fld.outs.get n).tpoActive = true → (t.fld.outs.get n).level = true →
    (t.fld.outs.get n).onTime < t.fcN Fid.FC_TPO_PERIOD n * grainsPerTurn →
    (t.fld.outs.get n).tpoStart.toNat + (t.fld.outs.get n).onTime ≤ t.mer.stamp.toNat →
    exec (.tpoOffEdge a n) s = .next (t.chLevel n false))

/-- OPEN_LOAD, enabled for the state the output is in, sets its bit with the record 0006h when the load current on is below FC_OPEN_I, or the pin voltage off lies from 3.0 to 8.0 V. BACKFEED of an OFF input-output channel, and SWITCH_FAIL of an ON one, set their bits with the records 0003h and 0005h; an unshared one whose detection ends clears its bit with FAULT_CLEARED; a shared channel of the standby only shows PEER_DRIVE. STUCK_ON finds a switch commanded off with 20 mA or more (State.stuckFound), and clears below. DARK_PULSE that is due and does not read OFF records 000Bh, with 20 mA or more also STUCK_ON; one that reads OFF changes nothing. (R262, R263, R267, R268, R274) -/
def Obligations.FieldDiagnostics : Prop :=
  (∀ (a : At) (n level : Nat) (s t : State), t = s.advance a → t.chCmd n = true → bitOf (t.fcN Fid.FC_OPEN_LOAD n) 0 = true →
    t.chIsOut n = true → (t.fld.outs.get n).openLoad = false → level < t.fcN Fid.FC_OPEN_I n →
    exec (.openLoad a n level) s =
      .next ((t.chOut n (fun o => { o with openLoad := true })).fieldEvent (groupOf n) 2 0x0006 (le 1 n ++ le 1 0) n)) ∧
  (∀ (a : At) (n level : Nat) (s t : State), t = s.advance a → t.chCmd n = false → bitOf (t.fcN Fid.FC_OPEN_LOAD n) 1 = true →
    t.chRole n = 3 → t.peerHolds = false → (t.fld.outs.get n).openLoad = false → 3000 ≤ level → level ≤ 8000 →
    exec (.openLoad a n level) s =
      .next ((t.chOut n (fun o => { o with openLoad := true })).fieldEvent (groupOf n) 2 0x0006 (le 1 n ++ le 1 1) n)) ∧
  (∀ (a : At) (n : Nat) (s t : State), t = s.advance a → t.chRole n = 3 → t.chCmd n = false → t.peerHolds = false →
    (t.fld.outs.get n).backfeed = false →
    exec (.backfeed a n true) s = .next ((t.chOut n (fun o => { o with backfeed := true })).fieldEvent (groupOf n) 3 0x0003
      (le 1 n ++ le 1 (bit (t.fld.outs.get n).peerDrive) ++ le 1 (t.fcN Fid.FC_SHARED n)) n)) ∧
  (∀ (a : At) (n : Nat) (holds : Bool) (s t : State), t = s.advance a → t.chRole n = 3 → t.chCmd n = false →
    t.peerHolds = true → t.shared n = true →
    exec (.backfeed a n holds) s = .next (t.chOut n (fun o => { o with peerDrive := holds }))) ∧
  (∀ (a : At) (n : Nat) (s t : State), t = s.advance a → t.peerHolds = false → (t.fld.outs.get n).backfeed = true →
    exec (.backfeed a n false) s = .next ((t.chOut n (fun o => { o with backfeed := false })).faultCleared n)) ∧
  (∀ (a : At) (n current : Nat) (s t : State), t = s.advance a → 20 ≤ current → t.chCmd n = false → t.chIsOut n = true →
    (t.fld.outs.get n).stuckOn = false → exec (.stuckOn a n current) s = .next (t.stuckFound n current)) ∧
  (∀ (a : At) (n current : Nat) (s t : State), t = s.advance a → current < 20 → (t.fld.outs.get n).stuckOn = true →
    exec (.stuckOn a n current) s = .next ((t.chOut n (fun o => { o with stuckOn := false })).faultCleared n)) ∧
  (∀ (a : At) (n : Nat) (s t : State), t = s.advance a → t.chRole n = 3 → t.chCmd n = true →
    (t.fld.outs.get n).switchFail = false →
    exec (.switchFail a n true) s =
      .next ((t.chOut n (fun o => { o with switchFail := true })).fieldEvent (groupOf n) 3 0x0005 (le 1 n) n)) ∧
  (∀ (a : At) (n : Nat) (s t : State), t = s.advance a → (t.fld.outs.get n).switchFail = true →
    exec (.switchFail a n false) s = .next ((t.chOut n (fun o => { o with switchFail := false })).faultCleared n)) ∧
  (∀ (a : At) (n current : Nat) (s t u : State), t = s.advance a → n < 32 → t.darkDue n = true →
    u = State.fieldEvent (groupOf n) 3 0x000B (le 1 n ++ le 2 current) n (t.chOut n (fun o => { o with darkFail := true })) →
    exec (.darkPulse a n false current) s = .next (if 20 ≤ current then u.stuckFound n current else u)) ∧
  (∀ (a : At) (n current : Nat) (s t : State), t = s.advance a → exec (.darkPulse a n true current) s = .next t)

/-- CONVERSION_DONE of a core whose ended integration is of one of its inputs converts the reading for that input (State.convert). CALIBRATION_RESULT of an ended start or periodic calibration turn that no CAPTURE overlapped is judged (State.calJudge). START_CALIBRATION, with MERIDIAN set and every core past its two start calibrations and idle, sets UI. SHUNT_DISCONNECT of a current input opens its shunt. CONVERSION_DONE and CALIBRATION_RESULT of a core with no ended integration, and SHUNT_DISCONNECT of another type, let only time pass. (R224, R226, R227, R232, R531) -/
def Obligations.UniversalInputsConvert : Prop :=
  (∀ (a : At) (c : Nat) (p : Word32) (x : Integ) (s t : State), t = s.advance a → c < 4 →
    (t.inp.cores.get c).ended = some x → x.what < 4 →
    exec (.conversionDone a c p) s = .next ((t.core c (fun o => { o with ended := none })).convert (4 * c + x.what) x p)) ∧
  (∀ (a : At) (c : Nat) (dev : Int) (x : Integ) (s t : State), t = s.advance a → c < 4 →
    (t.inp.cores.get c).ended = some x → 4 ≤ x.what → x.what < 6 → x.capture = false →
    exec (.calibrationResult a c dev) s =
      .next ((t.core c (fun o => { o with ended := none })).calJudge c (x.what % 2 == 1) dev)) ∧
  (∀ (a : At) (c : Nat) (p : Word32) (dev : Int) (s t : State), t = s.advance a → (t.inp.cores.get c).ended = none →
    exec (.conversionDone a c p) s = .next t ∧ exec (.calibrationResult a c dev) s = .next t) ∧
  (∀ (a : At) (s t : State), t = s.advance a → t.rdy Rdy.meridian = true → t.rdy Rdy.ui = false →
    (∀ c, c < 4 → (t.inp.cores.get c).startZero = true ∧ (t.inp.cores.get c).startGain = true ∧ (t.inp.cores.get c).cur = none) →
    ∃ u, exec (.startCalibration a) s = .next u ∧ u.rdy Rdy.ui = true) ∧
  (∀ (a : At) (n : Nat) (s t : State), t = s.advance a → n < 16 → (t.inp.ui.get n).typ = 6 →
    exec (.shuntDisconnect a n) s = .next (t.uiIn n (fun u => { u with shuntOff := true }))) ∧
  (∀ (a : At) (n : Nat) (s t : State), t = s.advance a → (t.inp.ui.get n).typ ≠ 6 →
    exec (.shuntDisconnect a n) s = .next t)

/-- With I2C set, of a recipe that transfers itself: RECIPE_RUN that is due while the recipe waits or runs counts an overrun; one that is due, or waits, while its bus is its own makes the first attempt (State.recipeAttempt). RECIPE_RETRY of a failed attempt with repeats left, in the turn it was due and 1 ms or more after the failure, makes the next one. RECIPE_COMPLETE of a run that succeeded, or that failed with no repeat left, ends it (State.recipeEnd) with the stamp of the STOP of its last READ. (R237, R238, R239, R240) -/
def Obligations.I2cRecipes : Prop :=
  (∀ (a : At) (n : Nat) (xs : List I2cXfer) (released : Bool) (s t : State), t = s.advance a → t.recipeOn n = true →
    t.recipeDue n = true → ((t.inp.recipes.get n).queued = true ∨ (t.inp.recipes.get n).running = true) →
    exec (.recipeRun a n xs released) s =
      .next (t.recipe n (fun r => { r with overruns := (r.overruns + 1) % 2 ^ 32, dueTurn := some t.turn }))) ∧
  (∀ (a : At) (n : Nat) (xs : List I2cXfer) (released : Bool) (s t : State), t = s.advance a → t.recipeOn n = true →
    t.recipeDue n = true → (t.inp.recipes.get n).running = false → (t.inp.recipes.get n).queued = false →
    t.recipeTurn n = true →
    exec (.recipeRun a n xs released) s = .next
      ((t.recipe n (fun r => { r with queued := true, dueTurn := some t.turn })).recipeAttempt n 0 xs released)) ∧
  (∀ (a : At) (n : Nat) (xs : List I2cXfer) (released : Bool) (s t : State), t = s.advance a → t.recipeOn n = true →
    t.recipeDue n = false → (t.inp.recipes.get n).queued = true → t.recipeTurn n = true →
    exec (.recipeRun a n xs released) s = .next ((t.recipe n (fun r => { r with queued := true })).recipeAttempt n 0 xs released)) ∧
  (∀ (a : At) (n : Nat) (xs : List I2cXfer) (released : Bool) (s t : State), t = s.advance a → t.recipeOn n = true →
    (t.inp.recipes.get n).running = true → (t.inp.recipes.get n).outcome.1 ≠ 0 →
    (t.inp.recipes.get n).attempt < t.cfgN Fid.I2C_RETRY n → (t.inp.recipes.get n).dueTurn = some t.turn →
    (t.inp.recipes.get n).failedAt + 1000 ≤ t.clock →
    exec (.recipeRetry a n xs released) s = .next (t.recipeAttempt n ((t.inp.recipes.get n).attempt + 1) xs released)) ∧
  (∀ (a : At) (n ago : Nat) (s t : State), t = s.advance a → t.recipeOn n = true → (t.inp.recipes.get n).running = true →
    ((t.inp.recipes.get n).outcome.1 = 0 ∨ t.recipeRepeats n = false) →
    exec (.recipeComplete a n ago) s = .next (t.recipeEnd n (t.now - BitVec.ofNat 64 ago)))

/-- While SERVICES is set: MDIO_POLL of one of the two PHYs gives its side its link (of full duplex) and speed; PLCA_BEACON on a T1S port in PLCA counts a beacon seen, up to 4, and begins anew without one; MSTP_TIMEOUT on an MS/TP line of a module that is no standby gives it its link and token; DHCP_LEASE_EXPIRY of an interface in DHCP mode gives or takes its address; each is followed by State.refreshPorts. DUP_MAC_HOLD_END at or after its turn ends the hold. RESPONSE_TIMEOUT_DISCARD discards the responses of a port that have waited 3 s. With SERVICES clear the first four let only time pass. (R297, R298, R300, R301, R306, R310) -/
def Obligations.PortLinks : Prop :=
  (∀ (a : At) (phy speed : Nat) (link full : Bool) (s t : State), t = s.advance a → t.rdy Rdy.services = true → phy < 2 →
    exec (.mdioPoll a phy link speed full) s =
      .next (t.port (sideKey phy) (fun p => { p with link := link && full, speed := if link then speed else 0 })).refreshPorts) ∧
  (∀ (a : At) (seen : Bool) (s t : State), t = s.advance a → t.rdy Rdy.services = true → t.cfgN Fid.T1S_ENABLE = 1 →
    t.cfgN Fid.PLCA_ID ≤ 31 →
    exec (.plcaBeacon a seen) s =
      .next (t.port 1 (fun p => { p with beacons := if seen then min 4 (p.beacons + 1) else 0 })).refreshPorts) ∧
  (∀ (a : At) (n : Nat) (inLoop token : Bool) (s t : State), t = s.advance a → t.rdy Rdy.services = true → n < 4 →
    t.cfgN Fid.LINE_PROTOCOL n = 1 → t.peerHolds = false →
    exec (.mstpTimeout a n inLoop token) s =
      .next (t.port (2 + n) (fun p => { p with link := inLoop, token := token && inLoop, infoSent := 0 })).refreshPorts) ∧
  (∀ (a : At) (i : Nat) (lease : Option Nat) (s t : State), t = s.advance a → t.rdy Rdy.services = true → i < 2 →
    t.cfgN Fid.IP_MODE i = 1 →
    exec (.dhcpLeaseExpiry a i lease) s =
      .next (t.port i (fun p => { p with dhcpBound := lease.isSome, address := lease.getD 0 })).refreshPorts) ∧
  (∀ (a : At) (phy speed n i : Nat) (link full seen inLoop token : Bool) (lease : Option Nat) (s t : State), t = s.advance a →
    t.rdy Rdy.services = false →
    exec (.mdioPoll a phy link speed full) s = .next t ∧ exec (.plcaBeacon a seen) s = .next t ∧
    exec (.mstpTimeout a n inLoop token) s = .next t ∧ exec (.dhcpLeaseExpiry a i lease) s = .next t) ∧
  (∀ (a : At) (n u : Nat) (s t : State), t = s.advance a → (t.bus.ports.get (2 + n)).dupUntil = some u →
    exec (.dupMacHoldEnd a n) s = .next (if u ≤ t.turn then t.port (2 + n) (fun p => { p with dupUntil := none }) else t)) ∧
  (∀ (a : At) (p : Nat) (s t : State), t = s.advance a →
    exec (.responseTimeoutDiscard a p) s =
      .next (t.port p (fun x => { x with waiting := x.waiting.filter (fun f => decide (t.clock < f.since + 3000000)) })))

/-- BUS_FRAME_RECEIVED with a bad check has no effect; on ports 1 to 6, with SERVICES set and the port set up (State.portHears), a good frame is accepted (State.accept); on port 0, while the switch runs, it counts, is learned and forwarded, and is accepted where its destination is the internal port, it carries no tag and SERVICES is set. BUS_FRAME_SENT sends the first queued frame that may go while the port transmits (State.frameSent); a forwarded one leaves its egress queue and counts as sent. FOREIGN_DEVICE_REREGISTER, with a BBMD configured, port 0 transmitting and half the time-to-live past since the last registration, or none sent, registers again. (R299, R300, R304, R306, R309) -/
def Obligations.FramesInAndOut : Prop :=
  (∀ (a : At) (f : BusFrame) (s t : State), t = s.advance a → f.fcsOk = false → exec (.busFrameReceived a f) s = .next t) ∧
  (∀ (a : At) (f : BusFrame) (s t : State), t = s.advance a → f.fcsOk = true → 1 ≤ f.port → f.port < 7 →
    (2 ≤ f.port ∨ 64 ≤ f.length ∧ f.length ≤ 1522) → t.rdy Rdy.services = true → t.portHears f = true →
    exec (.busFrameReceived a f) s = .next (t.accept f)) ∧
  (∀ (a : At) (f : BusFrame) (s t u : State), t = s.advance a → f.fcsOk = true → f.port = 0 → 64 ≤ f.length → f.length ≤ 1522 →
    t.switchRuns = true →
    u = ((t.port (sideKey f.side) (fun p => { p with framesIn := p.framesIn + 1 })).learn f.src f.side).forward f.dst f.side →
    exec (.busFrameReceived a f) s =
      .next (if t.rdy Rdy.services && toInterface 0 f.dst && !f.tagged then u.accept f else u)) ∧
  (∀ (a : At) (p side : Nat) (f : TxFrame) (s t : State), t = s.advance a →
    nextFrame ((t.bus.ports.get p).tx.filter (t.maySend p)) = some f →
    t.transmits p = true → exec (.busFrameSent a p side false) s = .next (t.frameSent p side f)) ∧
  (∀ (a : At) (p side : Nat) (s t : State), t = s.advance a → 0 < (t.bus.ports.get (sideKey side)).egress → t.switchRuns = true →
    exec (.busFrameSent a p side true) s =
      .next (t.port (sideKey side) (fun x => { x with egress := x.egress - 1, framesOut := x.framesOut + 1 }))) ∧
  (∀ (a : At) (s t : State), t = s.advance a → t.cfgN Fid.BAC_FD_BBMD ≠ 0 → t.transmits 0 = true →
    (∀ c, t.bus.fdAt = some c → c + t.cfgN Fid.BAC_FD_TTL * 500000 ≤ t.clock) →
    ∃ u, exec (.foreignDeviceReregister a) s = .next u ∧ u.bus.fdAt = some t.clock)

/-- On a port that is a BACnet network, with SERVICES set, DeviceCommunicationControl not at disable and no peer holding the state, a request leaves its receive buffer and is answered: ReadProperty and WriteProperty with their Multiple forms, SubscribeCOV, Who-Is and Who-Has, TimeSynchronization and UTCTimeSynchronization at the receipt of their frame, AcknowledgeAlarm, GetEventInformation with and without a last object, and ReadRange of a trend log (its records), of another object (an Error) and of none (an Error). With SERVICES clear, or on a port that is no BACnet network, none is. (R307, R338, R341, R354, R357, R358) -/
def Obligations.BacnetServices : Prop :=
  (∀ (a : At) (p peer : Nat) (m : Bool) (items : List PropItem) (s t : State), t = s.advance a → p < 7 → t.bacnetPort p = true →
    t.bacnetOn = true → t.peerHolds = false →
    exec (.bacnetReadProperty a p peer m items) s = .next ((t.rxTake p).answerRead p peer m items) ∧
    exec (.bacnetWriteProperty a p peer m items) s = .next ((t.rxTake p).answerWrite p peer m items)) ∧
  (∀ (a : At) (p peer process object : Nat) (confirmed cancel : Bool) (lifetime : Option Nat) (s t : State),
    t = s.advance a → p < 7 → t.bacnetPort p = true → t.bacnetOn = true → t.peerHolds = false →
    exec (.bacnetSubscribeCov a p peer process object confirmed lifetime cancel) s =
      .next ((t.rxTake p).subscribe p peer process object confirmed lifetime cancel)) ∧
  (∀ (a : At) (p : Nat) (w : WhoWhat) (s t : State), t = s.advance a → p < 7 → t.bacnetPort p = true → t.bacnetOn = true →
    t.peerHolds = false → exec (.whoIs a p w) s = .next ((t.rxTake p).answerWho p w)) ∧
  (∀ (a : At) (p secs hundredths : Nat) (isLocal : Bool) (w : Int) (s t : State), t = s.advance a → p < 7 →
    t.bacnetPort p = true → t.bacnetOn = true → t.peerHolds = false → (t.rxTake p).wall16 (t.rxStamp p) = some w →
    exec (.timeSynchronization a p isLocal secs hundredths) s = .next ((t.rxTake p).setTime (if isLocal then 1 else 2)
      ((if isLocal then (t.rxTake p).utcOf secs else (secs : Int)) * 65536 + ((hundredths % 100 * 65536 / 100 : Nat) : Int)) w)) ∧
  (∀ (a : At) (p peer object kind time : Nat) (isSeq : Bool) (s t : State), t = s.advance a → p < 7 → t.bacnetPort p = true →
    t.bacnetOn = true → t.peerHolds = false →
    exec (.acknowledgeAlarm a p peer object kind isSeq time) s =
      .next ((t.rxTake p).acknowledge p peer object (kind % 3) isSeq time)) ∧
  (∀ (a : At) (p peer : Nat) (after : Option Nat) (ids : List Nat) (s t : State), t = s.advance a → p < 7 → t.bacnetPort p = true →
    t.bacnetOn = true → t.peerHolds = false → ids = (t.rxTake p).activeEvents.filter (fun x => after.all (fun id => decide (id < x))) →
    exec (.getEventInformation a p peer after) s = .next ((t.rxTake p).respond p peer .response
      ((ids.take 32).flatMap (t.rxTake p).eventSummary ++ [bit (decide (32 < ids.length))]))) ∧
  (∀ (a : At) (p peer object mode ref : Nat) (count : Int) (s t : State), t = s.advance a → p < 7 → t.bacnetPort p = true →
    t.bacnetOn = true → t.peerHolds = false → (t.rxTake p).objOf object = none →
    exec (.readRange a p peer object mode ref count) s = .next ((t.rxTake p).respondError p peer errUnknownObject)) ∧
  (∀ (a : At) (p peer object mode ref : Nat) (count : Int) (o : Obj) (s t : State), t = s.advance a → p < 7 →
    t.bacnetPort p = true → t.bacnetOn = true → t.peerHolds = false → (t.rxTake p).objOf object = some o →
    (∀ n, o ≠ .trend n) →
    exec (.readRange a p peer object mode ref count) s = .next ((t.rxTake p).respondError p peer (5, 22))) ∧
  (∀ (a : At) (p peer object mode ref n : Nat) (count : Int) (s t u : State), t = s.advance a → p < 7 → t.bacnetPort p = true →
    t.bacnetOn = true → t.peerHolds = false → u = t.rxTake p → u.objOf object = some (.trend n) →
    ∃ head, exec (.readRange a p peer object mode ref count) s = .next (u.respond p peer .response
      (head ++ (u.rangeOf (u.svc.trends.get n).records mode ref count).flatMap u.recData)) ∧
      head.getLast? = some (u.rangeOf (u.svc.trends.get n).records mode ref count).length) ∧
  (∀ (a : At) (p peer process object kind time mode ref secs hundredths : Nat) (m confirmed cancel isSeq isLocal : Bool)
    (items : List PropItem) (lifetime after : Option Nat) (w : WhoWhat) (count : Int) (s t : State), t = s.advance a →
    (t.rdy Rdy.services = false ∨ t.bacnetPort p = false) →
    exec (.bacnetReadProperty a p peer m items) s = .next t ∧ exec (.bacnetWriteProperty a p peer m items) s = .next t ∧
    exec (.bacnetSubscribeCov a p peer process object confirmed lifetime cancel) s = .next t ∧ exec (.whoIs a p w) s = .next t ∧
    exec (.timeSynchronization a p isLocal secs hundredths) s = .next t ∧
    exec (.acknowledgeAlarm a p peer object kind isSeq time) s = .next t ∧
    exec (.getEventInformation a p peer after) s = .next t ∧ exec (.readRange a p peer object mode ref count) s = .next t)

/-- With SERVICES set, on a BACnet port of a module that is no standby: DeviceCommunicationControl with the password takes the state asked for, disable and disableInitiation for the duration in minutes or without end, enable without one; with a wrong password it changes nothing of it. DCC_DURATION_END at or after the duration returns to enable. ReinitializeDevice with the password and state 1 restarts the services and with state 0 the module, with another state or a wrong password it does neither. EVENT_NOTIFICATION_SEND takes the oldest waiting notification from the queue, where its class has no recipients without a frame. (R357, R358, R359) -/
def Obligations.CommunicationControl : Prop :=
  (∀ (a : At) (p peer : Nat) (minutes : Option Nat) (password : List Byte) (s t : State), t = s.advance a →
    t.rdy Rdy.services = true → p < 7 → t.bacnetPort p = true → t.peerHolds = false → t.passwordFits password = true →
    (∃ u, exec (.deviceCommunicationControl a p peer .disable minutes password) s = .next u ∧
      u.svc.dcc = Dcc.disabled ∧ u.svc.dccUntil = minutes.map (fun m => t.clock + m * 60000000)) ∧
    (∃ u, exec (.deviceCommunicationControl a p peer .disableInitiation minutes password) s = .next u ∧
      u.svc.dcc = Dcc.initiationDisabled ∧ u.svc.dccUntil = minutes.map (fun m => t.clock + m * 60000000)) ∧
    (∃ u, exec (.deviceCommunicationControl a p peer .enable minutes password) s = .next u ∧
      u.svc.dcc = Dcc.enabled ∧ u.svc.dccUntil = none)) ∧
  (∀ (a : At) (p peer : Nat) (st : Dcc3) (minutes : Option Nat) (password : List Byte) (s t : State), t = s.advance a →
    t.rdy Rdy.services = true → p < 7 → t.bacnetPort p = true → t.peerHolds = false → t.passwordFits password = false →
    ∃ u, exec (.deviceCommunicationControl a p peer st minutes password) s = .next u ∧ u.svc.dcc = t.svc.dcc ∧
      u.svc.dccUntil = t.svc.dccUntil) ∧
  (∀ (a : At) (d : Nat) (s t : State), t = s.advance a → t.svc.dccUntil = some d → d ≤ t.clock →
    exec (.dccDurationEnd a) s = .next { t with svc := { t.svc with dcc := .enabled, dccUntil := none } }) ∧
  (∀ (a : At) (p peer : Nat) (password : List Byte) (s t : State), t = s.advance a → t.rdy Rdy.services = true → p < 7 →
    t.bacnetPort p = true → t.peerHolds = false → t.passwordFits password = true →
    (∃ u, exec (.reinitializeDevice a p peer 1 password) s = .next u ∧ u.rdy Rdy.services = false ∧ u.bin.svc = SvcRun.paused ∧
      u.bin.deliberate = true) ∧
    (∃ u, exec (.reinitializeDevice a p peer 0 password) s = .next u ∧ u.bin.resetCause = 4 ∧ u.mb = { irqStatus := u.mb.irqStatus })) ∧
  (∀ (a : At) (p peer state : Nat) (password : List Byte) (s t : State), t = s.advance a → t.rdy Rdy.services = true → p < 7 →
    t.bacnetPort p = true → t.peerHolds = false → (t.passwordFits password = false ∨ 2 ≤ state) →
    ∃ u, exec (.reinitializeDevice a p peer state password) s = .next u ∧ u.ready = t.ready ∧ u.bin = t.bin) ∧
  (∀ (a : At) (n : Note) (rest : List Note) (s t : State), t = s.advance a → t.rdy Rdy.services = true → t.peerHolds = false →
    t.svc.dcc = Dcc.enabled → t.svc.notes = n :: rest →
    (({ t with svc := { t.svc with notes := rest } } : State).recipientsOf n.cls = []) →
    exec (.eventNotificationSend a) s = .next { t with svc := { t.svc with notes := rest } }) ∧
  (∀ (a : At) (n : Note) (rest : List Note) (s t u : State), t = s.advance a → t.rdy Rdy.services = true → t.peerHolds = false →
    t.svc.dcc = Dcc.enabled → t.svc.notes = n :: rest → u = { t with svc := { t.svc with notes := rest } } →
    ∃ (v : State) (missed : Nat), exec (.eventNotificationSend a) s = .next (v.notifyFailed n.cls missed) ∧
      (v, missed) = ((u.recipientsOf n.cls).filter (fun r => r.takes n.target.kind u.localNow)).foldl
        (fun (x : State × Nat) r => State.notifyOne n r x) (u, 0))

/-- While SERVICES is set: an I-Am on a BACnet port of a module that is no standby enters or refreshes its partner (State.iAm); PARTNER_CHANGED with a change owed, and none posted for 64 turns, posts its event; a provisional entry of 4 096 turns is dropped; an identified partner, no Modbus one, not heard for half of BUS_SILENCE is asked once, and not heard for the whole of it falls silent (State.fallSilent); the periodic Who-Is goes out when BUS_WHOIS_PERIOD has passed; the table is saved when 65 536 turns have passed. Before its time each of the last five lets only time pass. With SERVICES set and an attempt that runs: success within 10 s in CONNECTING_PRIMARY leads to PRIMARY and in CONNECTING_FAILOVER to FAILOVER; failure in CONNECTING_PRIMARY leads to CONNECTING_FAILOVER, and in CONNECTING_FAILOVER waits for SC_RECONNECT seconds. The loss of a PRIMARY connection is noted and waits for SC_RECONNECT seconds, that of a FAILOVER one leads to CONNECTING_PRIMARY. SC_RECONNECT once the wait is over leads to CONNECTING_PRIMARY, in FAILOVER it begins another attempt to the primary hub. A network-layer message on a BACnet port of a module that is no standby is taken (State.netMessage). (R318, R319, R320, R322, R323, R324, R311, R312) -/
def Obligations.PartnersAndSecureConnect : Prop :=
  (∀ (a : At) (p addr inst net : Nat) (s t : State), t = s.advance a → t.rdy Rdy.services = true → t.peerHolds = false → p < 7 →
    t.bacnetPort p = true →
    exec (.iAm a p addr inst net) s = .next ((t.rxTake p).iAm p addr (inst % 2 ^ 22) net)) ∧
  (∀ (a : At) (s t : State), t = s.advance a → t.bus.changedDue = true → t.rdy Rdy.services = true →
    (∀ u, t.bus.changedTurn = some u → u + 64 ≤ t.turn) →
    exec (.partnerChanged a) s = .next (State.postEvent
      { source := 16, severity := 1, code := 0xF020, stamp := t.now, payload := le 2 t.bus.generation.toNat }
      { t with bus.changedDue := false, bus.changedTurn := some t.turn })) ∧
  (∀ (a : At) (i : Nat) (s t : State), t = s.advance a → t.rdy Rdy.services = true →
    (t.bus.partners.get i).state = PState.provisional →
    exec (.provisionalTimeout a i) s = .next (if (t.bus.partners.get i).since + 4096 ≤ t.turn then t.dropPartner i else t)) ∧
  (∀ (a : At) (i : Nat) (s t : State), t = s.advance a → t.rdy Rdy.services = true → t.peerHolds = false →
    (t.bus.partners.get i).state = PState.identified → (t.bus.partners.get i).kind ≠ 5 →
    (t.bus.partners.get i).asked = false →
    exec (.partnerHalfSilence a i) s =
      .next (if t.cfgN Fid.BUS_SILENCE / 2 ≤ t.turnsSince (t.bus.partners.get i).lastHeard then
        (t.entry i (fun e => { e with asked := true })).whoIsTo i else t)) ∧
  (∀ (a : At) (i : Nat) (s t : State), t = s.advance a → t.rdy Rdy.services = true → t.peerHolds = false →
    (t.bus.partners.get i).state = PState.identified → (t.bus.partners.get i).kind ≠ 5 →
    exec (.partnerSilent a i) s =
      .next (if t.cfgN Fid.BUS_SILENCE ≤ t.turnsSince (t.bus.partners.get i).lastHeard then t.fallSilent i else t)) ∧
  (∀ (a : At) (s t : State), t = s.advance a → t.rdy Rdy.services = true → t.peerHolds = false →
    exec (.whoisPeriod a) s = .next (if t.bus.whoIsTurn + t.cfgN Fid.BUS_WHOIS_PERIOD ≤ t.turn then t.whoIsAll else t)) ∧
  (∀ (a : At) (s t : State), t = s.advance a → t.rdy Rdy.services = true →
    exec (.partnerSave a) s = .next (if t.bus.savedTurn + 65536 ≤ t.turn then t.savePartners else t)) ∧
  (∀ (a : At) (c code : Nat) (s t : State), t = s.advance a → t.rdy Rdy.services = true → t.bus.scTrying = some c →
    t.clock ≤ c + 10000000 →
    (t.bus.sc = ScState.connectingPrimary → ∃ u, exec (.scConnectResult a true code) s = .next u ∧ u.bus.sc = ScState.primary) ∧
    (t.bus.sc = ScState.connectingFailover → ∃ u, exec (.scConnectResult a true code) s = .next u ∧ u.bus.sc = ScState.failover)) ∧
  (∀ (a : At) (code : Nat) (s t : State), t = s.advance a → t.rdy Rdy.services = true → t.bus.scTrying.isSome = true →
    (t.bus.sc = ScState.connectingPrimary →
      ∃ u, exec (.scConnectResult a false code) s = .next u ∧ u.bus.sc = ScState.connectingFailover) ∧
    (t.bus.sc = ScState.connectingFailover →
      exec (.scConnectResult a false code) s =
        .next { t with bus.scTrying := none, bus.scLost := some code, bus.scDue := t.scWait })) ∧
  (∀ (a : At) (code : Nat) (s t : State), t = s.advance a → t.bus.sc = ScState.primary → t.bus.scLost = none →
    ∃ u, exec (.scConnectionLost a code) s = .next u ∧ u.bus.sc = ScState.primary ∧ u.bus.scLost = some code ∧
      u.bus.scDue = some (t.clock + t.cfgN Fid.SC_RECONNECT * 1000000)) ∧
  (∀ (a : At) (code : Nat) (s t : State), t = s.advance a → t.bus.sc = ScState.failover →
    ∃ u, exec (.scConnectionLost a code) s = .next u ∧ u.bus.sc = ScState.connectingPrimary) ∧
  (∀ (a : At) (d : Nat) (s t : State), t = s.advance a → t.rdy Rdy.services = true → t.bus.scDue = some d → d ≤ t.clock →
    (t.bus.sc = ScState.failover →
      exec (.scReconnect a) s = .next { t with bus.scTrying := some t.clock, bus.scDue := t.scWait }) ∧
    (t.bus.sc ≠ ScState.failover → ∃ u, exec (.scReconnect a) s = .next u ∧ u.bus.sc = ScState.connectingPrimary)) ∧
  (∀ (a : At) (p peer : Nat) (m : NetMsg) (s t : State), t = s.advance a → t.rdy Rdy.services = true → t.peerHolds = false → p < 7 →
    t.bacnetPort p = true →
    exec (.networkLayerMessage a p peer m) s = .next ((t.rxTake p).netMessage p peer m))

/-- A read binding whose poll is due and may go out polls its partner (State.poll). One of method COV in force that is not subscribed nor refused, or whose lifetime is three quarters over, with no subscription under way, subscribes. A notification on a BACnet port gives its value, its FAULT flag and the stamp of its receipt to the COV bindings of the object, and is acknowledged when confirmed; one from no partner only leaves its buffer. A write binding in force takes the value its owner offered at the apply angle and sends it when it is due (State.sendWrite), else only takes it. A failed write is sent again in the turns of its period. A BACnet request outstanding that has been sent and unanswered for 3 s is sent again (State.repeatRequest), after two retries it fails (State.requestFails); one unsent or younger waits. MODBUS_TIMEOUT does the same after MB_TIMEOUT and MB_RETRY repeats, and a partner IDENTIFIED then falls silent. MODBUS_REPLY to a request that was sent makes its partner heard; an exception fails the request, and a reply closes it and ends the failure of a write or gives a read binding its value. On a line in Modbus slave mode of a module that is no standby, MODBUS_SLAVE_REQUEST is answered with data, or with an exception code. (R325, R326, R328, R329, R308, R314, R315, R316, R318) -/
def Obligations.BindingsAndRequests : Prop :=
  (∀ (a : At) (b i : Nat) (s t : State), t = s.advance a → t.bindPartner b = some i → t.pollDue b = true → t.bindCanPoll b = true →
    exec (.bindingPoll a b) s = .next (t.poll b i)) ∧
  (∀ (a : At) (b i : Nat) (s t : State), t = s.advance a → t.bindPartner b = some i → (t.bus.binds.get b).inForce = true →
    t.cfgN Fid.BIND_DIR b = 0 → t.cfgN Fid.BIND_METHOD b = 1 →
    ((t.bus.binds.get b).covActive = false ∧ (t.bus.binds.get b).covRefused = false ∨ (t.bus.binds.get b).covActive = true ∧
      (t.bus.binds.get b).covSince + t.cfgN Fid.BIND_COV_LIFE b * 750000 ≤ t.clock) →
    (∀ o ∈ t.bus.requests, ¬ (o.what = TxKind.subscribe ∧ o.binds = [b])) → t.bindCanPoll b = true →
    exec (.covRenew a b) s =
      .next (t.request 4 { port := (t.bus.partners.get i).port, what := .subscribe, partner := i, binds := [b] })) ∧
  (∀ (a : At) (p addr object : Nat) (value : List Byte) (fault : Bool) (s t : State), t = s.advance a → t.bacnetOn = true →
    t.peerHolds = false → p < 7 → t.bacnetPort p = true → (t.rxTake p).partnerAt p addr = none →
    exec (.covNotification a p addr object value fault false) s = .next (t.rxTake p) ∧
    exec (.covNotification a p addr object value fault true) s = .next ((t.rxTake p).respond p addr .response [])) ∧
  (∀ (a : At) (p addr object i : Nat) (value : List Byte) (fault confirmed : Bool) (s t u v : State), t = s.advance a →
    t.bacnetOn = true → t.peerHolds = false → p < 7 → t.bacnetPort p = true → u = t.rxTake p → u.partnerAt p addr = some i →
    v = State.each ((u.bindsOf i).filter (fun b => u.cfgN Fid.BIND_DIR b == 0 && u.cfgN Fid.BIND_METHOD b == 1 &&
      u.cfgN Fid.BIND_OBJECT b == object && u.cfgN Fid.BIND_PROPERTY b % 65536 == Prop_.presentValue))
      (fun b w => (w.bindValue b (t.rxStamp p) (valueOf value) fault).bind b (fun x => { x with lastNotified := w.turn })) u →
    exec (.covNotification a p addr object value fault confirmed) s =
      .next (if confirmed then v.respond p addr .response [] else v)) ∧
  (∀ (a : At) (b i : Nat) (v : Word32) (s t u : State), t = s.advance a → t.bindPartner b = some i →
    (t.bus.binds.get b).offered = some v → (t.bus.binds.get b).inForce = true → t.cfgN Fid.BIND_DIR b = 1 →
    t.bindCanPoll b = true → u = t.bind b (fun x => { x with offered := none }) →
    exec (.bindingWrite a b) s = .next (if t.writeDue b v then u.sendWrite b i v else u)) ∧
  (∀ (a : At) (b i : Nat) (v : Word32) (s t : State), t = s.advance a → t.bindPartner b = some i →
    (t.bus.binds.get b).pending.orElse (fun _ => (t.bus.binds.get b).lastSent) = some v → (t.bus.binds.get b).inForce = true →
    (t.bus.binds.get b).repeats = true →
    t.turn % t.cfgN Fid.BIND_PERIOD b = b % t.cfgN Fid.BIND_PERIOD b → t.bindCanPoll b = true →
    exec (.bindingWriteRetry a b) s = .next (t.sendWrite b i v)) ∧
  (∀ (a : At) (id : Nat) (o : Outstanding) (s t : State), t = s.advance a →
    t.bus.requests.find? (fun o => o.id == id && o.what != .modbusRequest) = some o → t.overdue o 3000000 = true →
    exec (.apduTimeout a id) s = .next (if o.retries < 2 then t.repeatRequest o else t.requestFails o)) ∧
  (∀ (a : At) (id : Nat) (o : Outstanding) (s t : State), t = s.advance a →
    t.bus.requests.find? (fun o => o.id == id && o.what != .modbusRequest) = some o → t.overdue o 3000000 = false →
    exec (.apduTimeout a id) s = .next t) ∧
  (∀ (a : At) (id : Nat) (o : Outstanding) (s t : State), t = s.advance a →
    t.bus.requests.find? (fun o => o.id == id && o.what != .modbusRequest) = some o → t.overdue o 3000000 = true →
    o.retries < 2 →
    ∃ f u, exec (.apduTimeout a id) s = .next (State.queueFrame o.port f u) ∧ f.cls = o.cls ∧ f.what = o.what ∧
      u.bus.requests = t.bus.requests.map
        (fun (r : Outstanding) => if r.id = id then { r with retries := r.retries + 1, sent := none } else r)) ∧
  (∀ (a : At) (id : Nat) (regs : List Nat) (o : Outstanding) (s t : State), t = s.advance a →
    t.bus.requests.find? (fun o => o.id == id && o.what == .modbusRequest && o.sent.isSome) = some o →
    exec (.modbusReply a id true regs) s = .next (((t.rxTake o.port).heard o.partner).requestFails o)) ∧
  (∀ (a : At) (id b : Nat) (regs : List Nat) (o : Outstanding) (s t v : State), t = s.advance a →
    t.bus.requests.find? (fun o => o.id == id && o.what == .modbusRequest && o.sent.isSome) = some o → o.binds = [b] →
    v = ((t.rxTake o.port).heard o.partner).closeRequest id →
    exec (.modbusReply a id false regs) s = .next (if v.cfgN Fid.BIND_DIR b = 1
      then v.bind b (fun x => { x with writeFailed := false, repeats := false })
      else v.bindValue b (t.rxStamp o.port) (mbDecode (v.cfgN Fid.BIND_ENCODING b) regs (v.mbAddress b - v.mbBase [b])) false)) ∧
  (∀ (a : At) (id : Nat) (o : Outstanding) (s t : State), t = s.advance a →
    t.bus.requests.find? (fun o => o.id == id && o.what == .modbusRequest) = some o →
    t.overdue o (t.cfgN Fid.MB_TIMEOUT (o.port - 2) * 1000) = true →
    exec (.modbusTimeout a id) s = .next (if o.retries < t.cfgN Fid.MB_RETRY (o.port - 2) then t.repeatRequest o
      else if ((t.requestFails o).bus.partners.get o.partner).state = PState.identified then (t.requestFails o).fallSilent o.partner
      else t.requestFails o)) ∧
  (∀ (a : At) (n fn addr count waddr : Nat) (values d : List Nat) (v s t : State), t = s.advance a → t.rdy Rdy.services = true →
    n < 4 → t.cfgN Fid.LINE_PROTOCOL n = 3 → t.peerHolds = false →
    (t.rxTake (2 + n)).mbServe fn addr count waddr values = .ok (v, d) →
    exec (.modbusSlaveRequest a n fn addr count waddr values) s =
      .next (v.queueFrame (2 + n) { cls := 2, what := .modbusReply, data := fn :: d })) ∧
  (∀ (a : At) (n fn addr count waddr e : Nat) (values : List Nat) (s t : State), t = s.advance a → t.rdy Rdy.services = true →
    n < 4 → t.cfgN Fid.LINE_PROTOCOL n = 3 → t.peerHolds = false →
    (t.rxTake (2 + n)).mbServe fn addr count waddr values = .error e →
    exec (.modbusSlaveRequest a n fn addr count waddr values) s =
      .next ((t.rxTake (2 + n)).queueFrame (2 + n) { cls := 2, what := .modbusReply, data := [fn + 128, e] }))

/-- With CONFIG set: GUARD_ENGAGED of an armed guard of a present zone engages it once its condition has held for SCP_DELAY evaluations, with its stamp. GUARD_RELEASED releases an engaged guard that is no longer armed, or whose release condition has held for SCP_DELAY evaluations after SCP_MIN_ON turns. GUARD_BLIND releases an engaged guard of a zone blind for SCP_BLIND_LIMIT turns, where that is not 0. Each leaves the zone's other guard as it is. (R361) -/
def Obligations.GuardsOfTheSafeClimate : Prop :=
  (∀ (a : At) (z : Nat) (hot : Bool) (s t : State), t = s.advance a → t.rdy Rdy.config = true → t.present z = true →
    ((t.policy.get z).guardRun hot).on = false → (t.guardLimit hot).isSome = true →
    t.cfgN Fid.SCP_DELAY ≤ ((t.policy.get z).guardRun hot).run →
    ∃ u, exec (.guardEngaged a z hot) s = .next u ∧ ((u.policy.get z).guardRun hot).on = true ∧
      ((u.policy.get z).guardRun hot).since = t.now ∧ ((u.policy.get z).guardRun (!hot)) = ((t.policy.get z).guardRun (!hot))) ∧
  (∀ (a : At) (z : Nat) (hot : Bool) (s t : State), t = s.advance a → t.rdy Rdy.config = true →
    ((t.policy.get z).guardRun hot).on = true →
    (t.guardLimit hot = none ∨ t.cfgN Fid.SCP_DELAY ≤ ((t.policy.get z).guardRun hot).run ∧
      t.cfgN Fid.SCP_MIN_ON ≤ t.engagedTurns ((t.policy.get z).guardRun hot)) →
    ∃ u, exec (.guardReleased a z hot) s = .next u ∧ ((u.policy.get z).guardRun hot).on = false ∧
      ((u.policy.get z).guardRun (!hot)) = ((t.policy.get z).guardRun (!hot))) ∧
  (∀ (a : At) (z : Nat) (hot : Bool) (s t : State), t = s.advance a → t.rdy Rdy.config = true →
    ((t.policy.get z).guardRun hot).on = true → t.cfgN Fid.SCP_BLIND_LIMIT ≠ 0 → (t.policy.get z).blind = true →
    t.cfgN Fid.SCP_BLIND_LIMIT ≤ (t.policy.get z).blindTurns →
    ∃ u, exec (.guardBlind a z hot) s = .next u ∧ ((u.policy.get z).guardRun hot).on = false ∧
      ((u.policy.get z).guardRun (!hot)) = ((t.policy.get z).guardRun (!hot)))

/-- Where R21 lets it execute: ZONE_STATUS answers the status word of a present zone; SIGNAL_READ the signal (State.signalBytes); SIGNAL_WRITE stores its value (State.writeSignal), a y as the HOST value with its stamp, and is DONE with the value stored, or DONE_CLAMPED where that differs; MODE_WRITE is DONE outside SOUNDING and its mode waits for the next sample; in SOUNDING HOLD_SAFE is DONE and another mode DEFERRED; HOST_INPUT_WRITE of an input whose owner is on is DONE and keeps the value, or none for a NaN, with its stamp; OCC_READ of a zone with estimation answers the estimate, FFFFh for a number outside its range, and no value before the first update. (R21, R400, R401, R402, R103, R100, R193) -/
def Obligations.ZoneOperations : Prop :=
  (∀ (a : At) (r : Req) (s t : State), t = s.advance a → Safety.Asks false 13 0 r t → r.target < 256 → t.present r.target = true → t.rdy Rdy.helm = true →
    exec (.zoneStatus a r) s =
      .next (Safety.answered opZoneStatus r .done (le 4 (t.zio.get r.target).status.toNat ++ le 4 0) t (t))) ∧
  (∀ (a : At) (r : Req) (s t : State), t = s.advance a → Safety.Asks false 13 0 r t → t.sigTarget r = true → t.present (zoneOf r) = true → t.rdy Rdy.helm = true → (t.rights r.session = .expert ∨ sigOf r / 16 ≠ 4 ∧ noBasic (t.sigKind (zoneOf r) (sigOf r)) = false) →
    exec (.signalRead a r) s =
      .next (Safety.answered opSignalRead r .done (t.signalBytes (zoneOf r) (sigOf r)) t (t))) ∧
  (∀ (a : At) (r : Req) (kind : Nat) (v : Option Word32) (s t : State), t = s.advance a → Safety.Asks false 13 8 r t → Safety.Holds t → t.sigTarget r = true → t.present (zoneOf r) = true → t.rdy Rdy.helm = true → allZero (r.payload.drop 4) = true → kind = t.sigKind (zoneOf r) (sigOf r) → noBasic kind = false → t.sigWritable (zoneOf r) (sigOf r) = true → basicFits kind (fieldAt r.payload 0 4) = true → sigOf r / 16 = 0 → v = ofBasic kind (fieldAt r.payload 0 4) →
    ∃ u, exec (.signalWrite a r) s = .next u ∧ Safety.Replied r .done (le 4 (toBasic kind v)) u ∧
      (u.zio.get (zoneOf r)).hostY.get (sigOf r % 16) = { valid := v.isSome, value := v.getD 0, stamp := t.now }) ∧
  (∀ (a : At) (r : Req) (kind : Nat) (v : State × Option Word32) (s t : State), t = s.advance a → Safety.Asks false 13 8 r t → Safety.Holds t → t.sigTarget r = true → t.present (zoneOf r) = true → t.rdy Rdy.helm = true → allZero (r.payload.drop 4) = true → kind = t.sigKind (zoneOf r) (sigOf r) → noBasic kind = false → t.sigWritable (zoneOf r) (sigOf r) = true → basicFits kind (fieldAt r.payload 0 4) = true → v = (Safety.accepted opSignalWrite r t t).writeSignal (zoneOf r) (sigOf r) (t.cfgN Fid.SVC_HOST_PRIORITY)
      (ofBasic kind (fieldAt r.payload 0 4)) →
    exec (.signalWrite a r) s = .next (v.1.finish r.session r.tag (v.1.resp
      (if v.2 = ofBasic kind (fieldAt r.payload 0 4) then .done else .doneClamped) (le 4 (toBasic kind v.2))))) ∧
  (∀ (a : At) (r : Req) (m : ZMode) (s t : State), t = s.advance a → Safety.Asks false 13 4 r t → Safety.Holds t → r.target < 256 → t.present r.target = true → t.rdy Rdy.helm = true → allZero (r.payload.drop 1) = true → ZMode.ofCode (fieldAt r.payload 0 1) = some m → m ≠ .sounding → (t.zones.get r.target).mode ≠ .sounding →
    exec (.modeWrite a r) s =
      .next (Safety.answered opModeWrite r .done ([]) t ({ t with zones := t.zones.set r.target { t.zones.get r.target with nextMode := some m } }))) ∧
  (∀ (a : At) (r : Req) (m : ZMode) (s t : State), t = s.advance a → Safety.Asks false 13 4 r t → Safety.Holds t → r.target < 256 → t.present r.target = true → t.rdy Rdy.helm = true → allZero (r.payload.drop 1) = true → ZMode.ofCode (fieldAt r.payload 0 1) = some m → m ≠ .sounding → m ≠ .holdSafe → (t.zones.get r.target).mode = .sounding →
    ∃ u, exec (.modeWrite a r) s = .next u ∧ Safety.Replied r .deferred [] u ∧ (u.zones.get r.target).mode = .sounding ∧
      (u.zones.get r.target).deferredMode = some m) ∧
  (∀ (a : At) (r : Req) (s t : State), t = s.advance a → Safety.Asks false 13 4 r t → Safety.Holds t → r.target < 256 → t.present r.target = true → t.rdy Rdy.helm = true → allZero (r.payload.drop 1) = true → fieldAt r.payload 0 1 = 0 → (t.zones.get r.target).mode = .sounding →
    ∃ u, exec (.modeWrite a r) s = .next u ∧ Safety.Replied r .done [] u ∧ (u.zones.get r.target).nextMode = some .holdSafe ∧
      (u.zones.get r.target).deferredMode = none) ∧
  (∀ (a : At) (r : Req) (f i : Nat) (v : Word32) (s t : State), t = s.advance a → Safety.Asks false r.fn 8 r t → Safety.Holds t → f = r.target / 65536 → i = r.target % 65536 → hostFields.contains (f, r.fn) = true → (fieldRow f).any (fun x => x.dom.has i) = true → t.rdy r.fn = true → t.hostOwnerOn f i = true → allZero (r.payload.drop 4) = true → descKind (t.cfgN f i) = 7 → v = BitVec.ofNat 32 (fieldAt r.payload 0 4) → F32.isInf v = false →
    ∃ u, exec (.hostInputWrite a r) s = .next u ∧ Safety.Replied r .done [] u ∧
      u.hostIn = t.hostIn.set r.target { valid := !F32.isNaN v, value := if F32.isNaN v then 0 else v, stamp := t.now }) ∧
  (∀ (a : At) (r : Req) (s t : State), t = s.advance a → Safety.Asks false 13 0 r t → r.target < 256 → t.present r.target = true → t.rdy Rdy.helm = true → t.cfgN Fid.OCC_ENABLE r.target ≠ 0 → (t.occ.get r.target).stamp = 0 →
    exec (.occRead a r) s =
      .next (Safety.answered opOccRead r .done (le 8 0 ++ le 4 F32.nan.toNat ++ le 2 0xFFFF ++ le 2 0xFFFF ++ le 4 0) t (t))) ∧
  (∀ (a : At) (r : Req) (o : Occ) (s t : State), t = s.advance a → Safety.Asks false 13 0 r t → r.target < 256 → t.present r.target = true → t.rdy Rdy.helm = true → t.cfgN Fid.OCC_ENABLE r.target ≠ 0 → o = t.occ.get r.target → o.stamp ≠ 0 →
    exec (.occRead a r) s =
      .next (Safety.answered opOccRead r .done (le 8 o.stamp.toNat ++ le 4 o.gain.toNat ++ le 2 (((F32.toRange o.persons 100 0 65534).map Int.toNat).getD 0xFFFF) ++
        le 2 (((F32.toRange o.prob 10000 0 65534).map Int.toNat).getD 0xFFFF) ++ le 1 o.paths ++ le 3 0) t (t)))

/-- With EXPERT rights, on a block that is on: HELM_READ answers the words of the bank asked for; HELM_WRITE of the shadow with an empty queue is performed at once, every other one waits in the queue, as BANK_COPY and BANK_SWAP do (State.enqueue); HELM_DIAG answers the diagnostic word and clears what it shows, and 0 for a zone that is absent. BANK_COPY_COMPLETE marks a copy that runs done. BANK_SAVE, at a turn boundary and once due, with NVSTORE, SERVICES and NV-good, saves the active bank (State.saveBank), else only time passes. BANK_LOADED, with NVSTORE and CONFIG set, HELM clear and a program that verifies, loads the banks, empty where nothing was saved; without such a program only time passes. (R124, R125, R128, R132, R133, R155, R157, R162) -/
def Obligations.BankOperations : Prop :=
  (∀ (a : At) (r : Req) (k n : Nat) (s t : State), t = s.advance a → Safety.Commands false 13 8 r t → bankRange r = true → blockTarget r.target = some (k, n) → t.blockOn k n = true → t.rdy Rdy.helm = true →
    exec (.helmRead a r) s =
      .next (Safety.answered opHelmRead r .done (le 1 (t.helm.phys (fieldAt r.payload 0 1 == 1)) ++ le 3 0 ++
        (upTo (fieldAt r.payload 4 2)).flatMap (fun i =>
          le 4 ((t.helm.bank (fieldAt r.payload 0 1 == 1)).word k n (fieldAt r.payload 2 2 / 4 + i)).toNat)) t (t))) ∧
  (∀ (a : At) (r : Req) (k n : Nat) (s t : State), t = s.advance a → Safety.Commands false 13 (8 + 4 * fieldAt r.payload 4 2) r t → Safety.Holds t → bankRange r = true → blockTarget r.target = some (k, n) → t.blockOn k n = true → t.rdy Rdy.helm = true → ((wordsOf (r.payload.drop 8)).zipIdx).all (fun x => wordAllowed k (fieldAt r.payload 2 2 / 4 + x.2) x.1) = true → (fieldAt r.payload 0 1 ≠ 1 ∨ t.queueEmpty = false) →
    exec (.helmWrite a r) s = .next (Safety.accepted opHelmWrite r t (t.enqueue [.write true (fieldAt r.payload 0 1 == 1) k n (fieldAt r.payload 2 2 / 4)
        (wordsOf (r.payload.drop 8)) (some (Req.waiter r))]))) ∧
  (∀ (a : At) (r : Req) (k n : Nat) (s t : State), t = s.advance a → Safety.Commands false 13 (8 + 4 * fieldAt r.payload 4 2) r t → Safety.Holds t → bankRange r = true → blockTarget r.target = some (k, n) → t.blockOn k n = true → t.rdy Rdy.helm = true → ((wordsOf (r.payload.drop 8)).zipIdx).all (fun x => wordAllowed k (fieldAt r.payload 2 2 / 4 + x.2) x.1) = true → fieldAt r.payload 0 1 = 1 → t.queueEmpty = true →
    exec (.helmWrite a r) s = .next (((Safety.accepted opHelmWrite r t t).mirrored (.write true true k n (fieldAt r.payload 2 2 / 4)
      (wordsOf (r.payload.drop 8)) (some (Req.waiter r)))).performWrite true true k n (fieldAt r.payload 2 2 / 4)
      (wordsOf (r.payload.drop 8)) (some (Req.waiter r)))) ∧
  (∀ (a : At) (r : Req) (s t : State), t = s.advance a → Safety.Commands false 13 0 r t → Safety.Holds t → r.target = 0x00020000 → t.rdy Rdy.helm = true →
    exec (.bankCopy a r) s = .next (Safety.accepted opBankCopy r t (t.enqueue [.copy (some (Req.waiter r))]))) ∧
  (∀ (a : At) (r : Req) (s t : State), t = s.advance a → Safety.Commands false 13 0 r t → Safety.Holds t → r.target = 0x00020000 → t.rdy Rdy.helm = true →
    exec (.bankSwap a r) s = .next (Safety.accepted opBankSwap r t (t.enqueue [.swap none (some (Req.waiter r))]))) ∧
  (∀ (a : At) (r : Req) (k n : Nat) (s t : State), t = s.advance a → Safety.Commands false 13 0 r t → blockTarget r.target = some (k, n) → k ≤ 1 → t.blockOn k n = true → t.rdy Rdy.helm = true →
    exec (.helmDiag a r) s =
      .next (Safety.answered opHelmDiag r .done (le 4 (t.diag k n) ++ le 4 0) t (t.clearDiag k n))) ∧
  (∀ (a : At) (s t : State), t = s.advance a → t.helm.copying.isSome = true →
    exec (.bankCopyComplete a) s = .next { t with helm.copyDone := true }) ∧
  (∀ (a : At) (r : Req) (s t : State), t = s.advance a → Safety.Commands false 13 0 r t → r.target < 256 → t.blockOn 0 r.target = false → t.rdy Rdy.helm = true →
    exec (.helmDiag a r) s =
      .next (Safety.answered opHelmDiag r .done (le 8 0) t (t))) ∧
  (∀ (a : At) (s t : State), t = s.advance a → t.grain = 0 →
    (t.helm.changed = true ∧ t.turn % 64 = 0 ∨ t.helm.saveRefused = true ∧ t.turn % 4096 = 0) →
    t.rdy Rdy.nvstore = true → t.rdy Rdy.services = true → t.nv.good = true → exec (.bankSave a) s = .next t.saveBank) ∧
  (∀ (a : At) (s t : State) (n : Nv), t = s.advance a → t.grain = 0 → t.helm.changed = true → t.turn % 64 = 0 →
    t.rdy Rdy.nvstore = true → t.rdy Rdy.services = true → t.nv.good = true → t.bankSize ≤ 448 * 1024 →
    t.nv.putSet 0x0010 (t.nv.nextGen 0x0010) t.bankMembers = some n →
    exec (.bankSave a) s = .next { t with nv := n, helm := { t.helm with changed := false, saveRefused := false } }) ∧
  (∀ (a : At) (s t : State), t = s.advance a → (t.grain ≠ 0 ∨ t.turn % 64 ≠ 0 ∨ t.rdy Rdy.nvstore = false ∨
      t.rdy Rdy.services = false ∨ t.nv.good = false ∨ t.helm.changed = false ∧ t.helm.saveRefused = false) →
    exec (.bankSave a) s = .next t) ∧
  (∀ (a : At) (s t : State), t = s.advance a → t.rdy Rdy.nvstore = true → t.rdy Rdy.config = true →
    t.rdy Rdy.helm = false → t.helmProgram = true →
    ∃ u, exec (.bankLoaded a) s = .next u ∧ u.helm.loaded = true ∧ u.helm.program = true ∧
      (t.nv.loadSet 0x0010 = none → u.helm.bank0 = {} ∧ u.helm.bank1 = {})) ∧
  (∀ (a : At) (s t : State), t = s.advance a → t.helmProgram = false →
    exec (.bankLoaded a) s = .next t)

/-- With EXPERT rights: SLOT_READ answers the slot's words and status and clears FIRED and LATE; SLOT_WRITE of a free or host slot from 64 on, with words in their ranges and an action a host slot may carry, is answered DONE with the stamp of the next turn boundary and held until then. FC_FORCE, AO_FORCE and AGO_FORCE of an output that has its role or mode take effect at once where the override need not wait for a zone (State.overrideWaits) and are DEFERRED where it must; a release takes effect at once. (R66, R69, R72, R273, R295, R403) -/
def Obligations.SlotAndForceOperations : Prop :=
  (∀ (a : At) (r : Req) (e : EvSlot) (s t : State), t = s.advance a → Safety.Commands false 4 0 r t → r.target < 512 → t.rdy Rdy.meridian = true → e = t.mer.slots.get r.target →
    exec (.slotRead a r) s =
      .next (Safety.answered opSlotRead r .done (le 4 e.words.control.toNat ++ le 4 e.words.param.toNat ++ le 8 e.words.when.toNat ++ le 4 e.status ++ le 4 0) t ({ t with mer.slots := t.mer.slots.upd r.target (fun e => { e with late := false, fired := false }) }))) ∧
  (∀ (a : At) (r : Req) (w : SlotWords) (s t : State), t = s.advance a → Safety.Commands false 4 16 r t → Safety.Holds t → w = slotOfPayload r.payload → 64 ≤ r.target → r.target < 512 → w.kind ≤ 2 → w.whenFits = true → w.action < 12 → w.targetFits = true → t.hostAction w = true → t.rdy Rdy.meridian = true → ((t.mer.slots.get r.target).owner = .free ∨ (t.mer.slots.get r.target).owner = .host) →
    ∃ u f x, exec (.slotWrite a r) s = .next u ∧ u.mer.slots = t.mer.slots.upd r.target (fun e => { e with held := some w, heldByHost := true }) ∧
      f ∈ u.mb.flights ∧ f.session = r.session ∧ f.tag = r.tag ∧ f.resp = some x ∧ x.status = .done ∧ x.stamp = mkStamp (t.turn + 1) 0) ∧
  (∀ (a : At) (r : Req) (s t : State), t = s.advance a → Safety.Commands false (6 + groupOf r.target) 8 r t → Safety.Holds t → r.target < 32 → t.rdy (Rdy.fg (groupOf r.target)) = true → fieldAt r.payload 0 1 ≤ 2 → allZero ((r.payload.drop 1).take 3) = true → t.chIsOut r.target = true → 1 ≤ fieldAt r.payload 0 1 → t.overrideWaits Dest.field r.target = false →
    ∃ u, exec (.fcForce a r) s = .next u ∧ Safety.Replied r .done [] u ∧
      u.forceOf Dest.field r.target = some (t.forceAsked (if fieldAt r.payload 0 1 = 2 then 10000 else 0) (fieldAt r.payload 4 4))) ∧
  (∀ (a : At) (r : Req) (s t : State), t = s.advance a → Safety.Commands false (6 + groupOf r.target) 8 r t → Safety.Holds t → r.target < 32 → t.rdy (Rdy.fg (groupOf r.target)) = true → fieldAt r.payload 0 1 ≤ 2 → allZero ((r.payload.drop 1).take 3) = true → t.chIsOut r.target = true → fieldAt r.payload 0 1 = 0 →
    ∃ u, exec (.fcForce a r) s = .next u ∧ Safety.Replied r .done [] u ∧ u.forceOf Dest.field r.target = none) ∧
  (∀ (a : At) (r : Req) (s t : State), t = s.advance a → Safety.Commands false (6 + groupOf r.target) 8 r t → Safety.Holds t → r.target < 32 → t.rdy (Rdy.fg (groupOf r.target)) = true → fieldAt r.payload 0 1 ≤ 2 → allZero ((r.payload.drop 1).take 3) = true → t.chIsOut r.target = true → 1 ≤ fieldAt r.payload 0 1 → t.overrideWaits Dest.field r.target = true →
    ∃ u, exec (.fcForce a r) s = .next u ∧ Safety.Replied r .deferred [] u ∧ u.forceOf Dest.field r.target = t.forceOf Dest.field r.target) ∧
  (∀ (a : At) (r : Req) (s t : State), t = s.advance a → Safety.Commands false 11 8 r t → Safety.Holds t → r.target < 8 → t.rdy Rdy.ao = true → fieldAt r.payload 0 1 ≤ 1 → fieldAt r.payload 1 1 = 0 → fieldAt r.payload 2 2 ≤ 10000 → t.cfgN Fid.AO_ROLE r.target = 1 → 1 ≤ fieldAt r.payload 0 1 → t.overrideWaits Dest.ao r.target = false →
    ∃ u, exec (.aoForce a r) s = .next u ∧ Safety.Replied r .done [] u ∧
      u.forceOf Dest.ao r.target = some (t.forceAsked (fieldAt r.payload 2 2) (fieldAt r.payload 4 4))) ∧
  (∀ (a : At) (r : Req) (s t : State), t = s.advance a → Safety.Commands false 11 8 r t → Safety.Holds t → r.target < 8 → t.rdy Rdy.ao = true → fieldAt r.payload 0 1 ≤ 1 → fieldAt r.payload 1 1 = 0 → fieldAt r.payload 2 2 ≤ 10000 → t.cfgN Fid.AO_ROLE r.target = 1 → fieldAt r.payload 0 1 = 0 →
    ∃ u, exec (.aoForce a r) s = .next u ∧ Safety.Replied r .done [] u ∧ u.forceOf Dest.ao r.target = none) ∧
  (∀ (a : At) (r : Req) (s t : State), t = s.advance a → Safety.Commands false 11 8 r t → Safety.Holds t → r.target < 8 → t.rdy Rdy.ao = true → fieldAt r.payload 0 1 ≤ 1 → fieldAt r.payload 1 1 = 0 → fieldAt r.payload 2 2 ≤ 10000 → t.cfgN Fid.AO_ROLE r.target = 1 → 1 ≤ fieldAt r.payload 0 1 → t.overrideWaits Dest.ao r.target = true →
    ∃ u, exec (.aoForce a r) s = .next u ∧ Safety.Replied r .deferred [] u ∧ u.forceOf Dest.ao r.target = t.forceOf Dest.ao r.target) ∧
  (∀ (a : At) (r : Req) (s t : State), t = s.advance a → Safety.Commands false 12 8 r t → Safety.Holds t → r.target < 8 → t.rdy Rdy.ago = true → fieldAt r.payload 0 1 ≤ 1 → fieldAt r.payload 1 1 = 0 → 2 ≤ t.cfgN Fid.AGO_MODE r.target → 1 ≤ fieldAt r.payload 0 1 → t.overrideWaits Dest.ago r.target = false →
    ∃ u, exec (.agoForce a r) s = .next u ∧ Safety.Replied r .done [] u ∧
      u.forceOf Dest.ago r.target = some (t.forceAsked (fieldAt r.payload 2 2) (fieldAt r.payload 4 4))) ∧
  (∀ (a : At) (r : Req) (s t : State), t = s.advance a → Safety.Commands false 12 8 r t → Safety.Holds t → r.target < 8 → t.rdy Rdy.ago = true → fieldAt r.payload 0 1 ≤ 1 → fieldAt r.payload 1 1 = 0 → 2 ≤ t.cfgN Fid.AGO_MODE r.target → fieldAt r.payload 0 1 = 0 →
    ∃ u, exec (.agoForce a r) s = .next u ∧ Safety.Replied r .done [] u ∧ u.forceOf Dest.ago r.target = none) ∧
  (∀ (a : At) (r : Req) (s t : State), t = s.advance a → Safety.Commands false 12 8 r t → Safety.Holds t → r.target < 8 → t.rdy Rdy.ago = true → fieldAt r.payload 0 1 ≤ 1 → fieldAt r.payload 1 1 = 0 → 2 ≤ t.cfgN Fid.AGO_MODE r.target → 1 ≤ fieldAt r.payload 0 1 → t.overrideWaits Dest.ago r.target = true →
    ∃ u, exec (.agoForce a r) s = .next u ∧ Safety.Replied r .deferred [] u ∧ u.forceOf Dest.ago r.target = t.forceOf Dest.ago r.target)

/-- With SERVICES set, for a target that is configured on (a channel with a role in force, an output with a role or mode, a port that is not off, a binding in force), each answers the stamp, value and status word of what its TARGET names, in the layout written out here, and clears what a read clears: UI_READ DISCARDED, FC_READ EDGE_LOST and DARK_FAIL, AO_READ and AGO_READ WATCHDOG, PORT_STATUS the dropped-frame count, BIND_READ WRITE_FAILED and READ_FAILED. FC_EDGE_READ answers the entries of the group's ring from FROM on, at most COUNT, with the next SEQ and the number lost; PARTNER_LIST the entries from an INDEX on, at most COUNT. The status words are the model's functions State.uiStatus, chStatus, groupStatus, aoStatus, agoStatus, portStatus, partnerBytes and bindStatus. (R243, R254, R273, R295, R317, R333, R334, R335) -/
def Obligations.InputAndOutputReads : Prop :=
  (∀ (a : At) (r : Req) (u : Ui) (s t : State), t = s.advance a → Safety.Asks false 10 0 r t → r.target < 16 → t.cfgN Fid.UI_TYPE r.target ≠ 0 → u = t.inp.ui.get r.target →
    exec (.uiRead a r) s =
      .next (Safety.answered opUiRead r .done (le 8 u.stamp.toNat ++ le 4 (u.value.getD F32.nan).toNat ++ le 4 (u.primary.getD F32.nan).toNat ++
        le 4 (t.uiStatus r.target) ++ le 2 (if uiThermal u.typ then toCenti u.value else 0x8000) ++ le 2 0) t (t.uiIn r.target (fun u => { u with discarded := false })))) ∧
  (∀ (a : At) (r : Req) (x : Recipe) (s t : State), t = s.advance a → Safety.Asks false 24 0 r t → r.target < 64 → t.cfgN Fid.I2C_BUS r.target ≠ 0 → t.cfgN Fid.I2C_FROM r.target = 255 → x = t.inp.recipes.get r.target →
    exec (.i2cRead a r) s =
      .next (Safety.answered opI2cRead r .done (le 8 x.stamp.toNat ++ le 4 (x.value.getD F32.nan).toNat ++ le 1 x.cause ++ le 3 0 ++ le 4 x.fails ++ le 4 x.overruns ++ padTo 16 x.buffer) t (t))) ∧
  (∀ (a : At) (r : Req) (x : Recipe) (m : Nat) (s t : State), t = s.advance a → Safety.Asks false 24 0 r t → r.target < 64 → t.cfgN Fid.I2C_BUS r.target ≠ 0 → t.cfgN Fid.I2C_FROM r.target = m → m ≠ 255 → x = t.inp.recipes.get r.target →
    exec (.i2cRead a r) s =
      .next (Safety.answered opI2cRead r .done (le 8 x.stamp.toNat ++ le 4 (x.value.getD F32.nan).toNat ++ le 1 x.cause ++ le 3 0 ++ le 4 x.fails ++ le 4 x.overruns ++
        padTo 16 (t.inp.recipes.get m).buffer) t (t))) ∧
  (∀ (a : At) (r : Req) (c : ChIn) (s t : State), t = s.advance a → Safety.Asks false (6 + groupOf r.target) 0 r t → r.target < 32 → t.chRole r.target ≠ 0 → c = t.fld.ins.get r.target →
    exec (.fcRead a r) s =
      .next (Safety.answered opFcRead r .done (le 8 (t.fld.groups.get (groupOf r.target)).lastUp.toNat ++ le 1 (bit c.image) ++ le 3 0 ++ le 4 (t.chStatus r.target) ++
        le 4 (t.groupStatus (groupOf r.target)) ++ le 4 (if t.fcN Fid.FC_IN_MODE r.target = 1 then c.freq else F32.nan).toNat ++ le 4 c.count ++
        le 2 (t.fld.outs.get r.target).current ++ le 2 0) t (State.chIn r.target (fun c => { c with edgeLost := false }) (t.chOut r.target (fun o => { o with darkFail := false }))))) ∧
  (∀ (a : At) (r : Req) (o : Group) (got : List Edge) (frm end_ oldest : Nat) (s t : State), t = s.advance a → Safety.Asks false (6 + r.target / 8) 8 r t → r.target < 32 → r.target % 8 = 0 → 1 ≤ fieldAt r.payload 4 2 ∧ fieldAt r.payload 4 2 ≤ 250 → allZero (r.payload.drop 6) = true → o = t.fld.groups.get (r.target / 8) → frm = fieldAt r.payload 0 4 → end_ = (o.ringSeq + 1) % 2 ^ 32 → oldest = (o.ring.head?.map (fun e => e.seq)).getD end_ → got = (o.ring.filter (fun e => e.seq == frm || newer 32 e.seq frm)).take (fieldAt r.payload 4 2) →
    exec (.fcEdgeRead a r) s =
      .next (Safety.answered opFcEdgeRead r .done (le 4 ((got.getLast?.map (fun e => (e.seq + 1) % 2 ^ 32)).getD end_) ++
        le 4 (if newer 32 oldest (max 1 frm) then (oldest + 2 ^ 32 - max 1 frm) % 2 ^ 32 else 0) ++ le 2 got.length ++ le 6 0 ++ got.flatMap Edge.bytes) t (t))) ∧
  (∀ (a : At) (r : Req) (o : Ao) (s t : State), t = s.advance a → Safety.Asks false 11 0 r t → r.target < 8 → t.cfgN Fid.AO_ROLE r.target ≠ 0 → o = t.out.ao.get r.target →
    exec (.aoRead a r) s =
      .next (Safety.answered opAoRead r .done (le 8 o.latched.toNat ++ le 4 o.value.toNat ++ le 2 (mvOfCode o.code) ++ le 2 o.measured ++ le 2 (ofSigned 16 o.current) ++ le 2 0 ++
        le 4 (t.aoStatus r.target)) t ({ t with out.ao := t.out.ao.upd r.target (fun x => { x with watchdog := false }) }))) ∧
  (∀ (a : At) (r : Req) (o : Ago) (m : Nat) (s t : State), t = s.advance a → Safety.Asks false 12 0 r t → r.target < 8 → m = t.cfgN Fid.AGO_MODE r.target → m ≠ 0 → o = t.out.ago.get r.target →
    exec (.agoRead a r) s =
      .next (Safety.answered opAgoRead r .done (le 8 o.latched.toNat ++ le 4 o.value.toNat ++ le 4 (if m = 3 ∨ m = 5 then o.firing else 0) ++ le 2 o.acc ++ le 2 0 ++
        le 4 (t.agoStatus r.target)) t ({ t with out.ago := t.out.ago.upd r.target (fun x => { x with watchdog := false }) }))) ∧
  (∀ (a : At) (r : Req) (p : Nat) (x : Port) (s t : State), t = s.advance a → Safety.Asks false r.fn 0 r t → [17, 18, 19, 20, 21, 22, 23].contains r.fn = true → statusPort r.fn r.target = some p → t.portOff p = false → x = t.bus.ports.get (if r.fn = 18 then 7 else p) →
    exec (.portStatus a r) s =
      .next (Safety.answered opPortStatus r .done (le 4 (t.portStatus r.fn p) ++ le 4 x.framesIn.toNat ++ le 4 x.framesOut.toNat ++
        le 2 (t.bus.partners.filter (fun e => e.2.port == p)).length ++ le 2 0) t (t.port p (fun x => { x with dropped := 0 })))) ∧
  (∀ (a : At) (r : Req) (got : List Nat) (next : Nat) (s t : State), t = s.advance a → Safety.Asks false 16 4 r t → r.target = 0 → fieldAt r.payload 0 2 < 2048 → 1 ≤ fieldAt r.payload 2 2 ∧ fieldAt r.payload 2 2 ≤ 126 → got = ((t.bus.partners.keys).filter (fun i => decide (fieldAt r.payload 0 2 ≤ i))).take (fieldAt r.payload 2 2) → next = (got.getLast?.map (fun i => i + 1)).getD 2048 →
    exec (.partnerList a r) s =
      .next (Safety.answered opPartnerList r .done (le 2 t.bus.generation.toNat ++ le 2 t.bus.partners.length ++ le 2 next ++ le 2 got.length ++ got.flatMap t.partnerBytes) t (t))) ∧
  (∀ (a : At) (r : Req) (x : Bind) (s t : State), t = s.advance a → Safety.Asks false 16 0 r t → r.target < 8192 → x = t.bus.binds.get r.target → x.inForce = true →
    exec (.bindRead a r) s =
      .next (Safety.answered opBindRead r .done (le 8 x.stamp.toNat ++ le 4 (x.value.getD F32.nan).toNat ++ le 4 (t.bindStatus r.target) ++ le 2 ((t.bindPartner r.target).getD 0xFFFF) ++
        le 2 0 ++ le 4 (x.lastSent.getD F32.nan).toNat) t (t.bind r.target (fun x => { x with writeFailed := false, readFailed := false }))))

/-- With SERVICES set: SVC_READ_PROPERTY answers RESULT 0 with the value of the property (State.readProp), or its error; SVC_WRITE_PROPERTY writes it (State.writeProp) and answers its RESULT, 0 or the error, or STORE_FULL or NV_BUSY where the store refuses it; SVC_TIME_SET while wall time is held sets TIME_BASE from its UTC; SVC_TIME_READ answers UTC, its fraction, daylight saving and UTC_Offset, UTC as 0 while the services hold none. (R338, R350, R368, R404) -/
def Obligations.ServiceOperations : Prop :=
  (∀ (a : At) (r : Req) (v : List Byte) (s t : State), t = s.advance a → Safety.Asks false 16 8 r t → t.rdy Rdy.services = true → t.readProp r.target (fieldAt r.payload 0 4) (arrayIndex (fieldAt r.payload 4 4)) = .ok v →
    exec (.svcReadProperty a r) s =
      .next (Safety.answered opSvcReadProperty r .done (le 4 0 ++ le 2 v.length ++ le 2 0 ++ v) t (t))) ∧
  (∀ (a : At) (r : Req) (e : BErr) (s t : State), t = s.advance a → Safety.Asks false 16 8 r t → t.rdy Rdy.services = true → t.readProp r.target (fieldAt r.payload 0 4) (arrayIndex (fieldAt r.payload 4 4)) = .error e →
    exec (.svcReadProperty a r) s =
      .next (Safety.answered opSvcReadProperty r .done (resultOf e ++ le 2 0 ++ le 2 0) t (t))) ∧
  (∀ (a : At) (r : Req) (u : State) (x : WrRes) (s t : State), t = s.advance a → Safety.Asks false 16 r.payload.length r t → t.rdy Rdy.services = true → Safety.Holds t → 12 ≤ r.payload.length → fieldAt r.payload 8 1 ≤ 16 → allZero ((r.payload.drop 9).take 3) = true → (Safety.accepted opSvcWriteProperty r t t).writeProp r.target (fieldAt r.payload 0 4) (arrayIndex (fieldAt r.payload 4 4)) (fieldAt r.payload 8 1)
      (r.payload.drop 12) = (u, x) → x ≠ .status .storeFull → x ≠ .status .nvBusy →
    exec (.svcWriteProperty a r) s = .next (u.finish r.session r.tag (u.resp .done ((x.error.map resultOf).getD (le 4 0))))) ∧
  (∀ (a : At) (r : Req) (u : State) (st : Status) (s t : State), t = s.advance a → Safety.Asks false 16 r.payload.length r t → t.rdy Rdy.services = true → Safety.Holds t → 12 ≤ r.payload.length → fieldAt r.payload 8 1 ≤ 16 → allZero ((r.payload.drop 9).take 3) = true → (Safety.accepted opSvcWriteProperty r t t).writeProp r.target (fieldAt r.payload 0 4) (arrayIndex (fieldAt r.payload 4 4)) (fieldAt r.payload 8 1)
      (r.payload.drop 12) = (u, .status st) → (st = .storeFull ∨ st = .nvBusy) →
    exec (.svcWriteProperty a r) s = .next (u.finish r.session r.tag (u.resp st))) ∧
  (∀ (a : At) (r : Req) (w : Int) (s t : State), t = s.advance a → Safety.Asks false 16 16 r t → t.rdy Rdy.services = true → Safety.Holds t → r.target = 0 → allZero (r.payload.drop 10) = true → t.wallNow = some w →
    ∃ u, exec (.svcTimeSet a r) s = .next u ∧ Safety.Replied r .done [] u ∧ u.svc.timeValid = true ∧
      u.svc.timeBase = w - (fieldAt r.payload 0 8 * 65536 + fieldAt r.payload 8 2 : Nat) * 32768) ∧
  (∀ (a : At) (r : Req) (s t : State), t = s.advance a → Safety.Asks false 16 0 r t → t.rdy Rdy.services = true → r.target = 0 → t.svc.timeValid = false →
    exec (.svcTimeRead a r) s =
      .next (Safety.answered opSvcTimeRead r .done (le 8 0 ++ le 2 0 ++ le 1 0 ++ le 1 0 ++ le 2 (ofSigned 16 t.utcOffset) ++ le 2 0) t (t))) ∧
  (∀ (a : At) (r : Req) (w : Int) (s t : State), t = s.advance a → Safety.Asks false 16 0 r t → t.rdy Rdy.services = true → r.target = 0 → t.svc.timeValid = true → t.wallNow = some w →
    exec (.svcTimeRead a r) s =
      .next (Safety.answered opSvcTimeRead r .done (le 8 (t.utcSecs w) ++ le 2 (t.utcFrac w) ++ le 1 (1 + 2 * bit (t.dst (t.utcSecs w))) ++ le 1 0 ++ le 2 (ofSigned 16 t.utcOffset) ++ le 2 0) t (t)))

/-- With NVSTORE set and no commit between its record page and its boundary: CFG_BEGIN stages a set that is not active under a generation no valid set reaches; CFG_WRITE stores bytes into the staging set; CFG_COMMIT of a staged image of fitting size, CRC and header leaves the commit pending until its boundary with the values of its evaluation; CFG_INFO answers the four sets, CFG_READ the bytes of a set (free values from 40000h on), CLAMP_READ the clamps of the active set from an entry on, SHEAF_READ the value of a counter. With such a commit pending every one of the seven waits for the boundary and the MRAM stays as it is. (R405, R413, R420, R422, R431, R432, R452) -/
def Obligations.ConfigurationOperations : Prop :=
  (∀ (a : At) (r : Req) (s t : State), t = s.advance a → Safety.Asks true 2 0 r t → t.rdy Rdy.nvstore = true → t.cfg.pending.any (fun p => !p.atStart) = false → r.target = 0 →
    exec (.cfgInfo a r) s =
      .next (Safety.answered opCfgInfo r .done ((upTo 4).flatMap (fun n => le 1 n ++ le 1 (t.cfg.set n).state.code ++ le 2 0 ++ le 4 (t.cfg.set n).generation ++
        le 4 (t.cfg.set n).size ++ le 4 (t.cfg.set n).crc)) t (t))) ∧
  (∀ (a : At) (r : Req) (s t : State), t = s.advance a → Safety.Commands false 2 8 r t → Safety.Holds t → t.rdy Rdy.nvstore = true → t.cfg.pending.any (fun p => !p.atStart) = false → r.target < 4 → fieldAt r.payload 4 4 = 0 → t.nv.good = true → (t.cfg.set r.target).state ≠ .active → ((upTo 4).any (fun m => (t.cfg.set m).live && !newer 32 (fieldAt r.payload 0 4) (t.cfg.set m).generation)) = false →
    ∃ u, exec (.cfgBegin a r) s = .next u ∧ Safety.Replied r .done [] u ∧ (u.cfg.set r.target).state = .staging ∧
      (u.cfg.set r.target).generation = fieldAt r.payload 0 4) ∧
  (∀ (a : At) (r : Req) (s t : State), t = s.advance a → Safety.Commands false 2 r.payload.length r t → Safety.Holds t → t.rdy Rdy.nvstore = true → t.cfg.pending.any (fun p => !p.atStart) = false → r.target < 4 → 9 ≤ r.payload.length → fieldAt r.payload 4 4 = 0 → t.nv.good = true → (t.cfg.set r.target).state = .staging → fieldAt r.payload 0 4 + (r.payload.length - 8) ≤ 0x3FF00 → t.nv.blocked (setBase r.target + fieldAt r.payload 0 4) (r.payload.length - 8) = false →
    exec (.cfgWrite a r) s =
      .next (Safety.answered opCfgWrite r .done ([]) t ({ t with nv := t.nv.storeBytes (setBase r.target + fieldAt r.payload 0 4) (r.payload.drop 8) }))) ∧
  (∀ (a : At) (r : Req) (size : Nat) (s t : State), t = s.advance a → Safety.Commands false 2 8 r t → Safety.Holds t → t.rdy Rdy.nvstore = true → t.cfg.pending.any (fun p => !p.atStart) = false → r.target < 4 → t.nv.good = true → (t.cfg.set r.target).state = .staging → size = fieldAt r.payload 0 4 → 32 ≤ size ∧ size ≤ 0x3FF00 → t.nv.badIn (setBase r.target) size = [] → crc32c (t.image r.target size) = fieldAt r.payload 4 4 → headerOk (t.image r.target size) (t.cfg.set r.target).generation = true →
    ∃ u p, exec (.cfgCommit a r) s = .next u ∧ u.cfg.pending = some p ∧ p.set = r.target ∧ p.atStart = false ∧
      p.values = (evaluate (t.image r.target size) size t.expertKey).values) ∧
  (∀ (a : At) (r : Req) (n k : Nat) (s t : State), t = s.advance a → Safety.Asks true 2 8 r t → t.rdy Rdy.nvstore = true → t.cfg.pending.any (fun p => !p.atStart) = false → r.target < 4 → 1 ≤ fieldAt r.payload 4 2 ∧ fieldAt r.payload 4 2 ≤ 4048 → fieldAt r.payload 6 2 = 0 → n = min (fieldAt r.payload 4 2) (0x40000 - fieldAt r.payload 0 4) → k = fieldAt r.payload 4 2 - n → t.nv.badIn (setBase r.target + fieldAt r.payload 0 4) n = [] →
    exec (.cfgRead a r) s =
      .next (Safety.answered opCfgRead r .done (t.nv.mem.readBytes (setBase r.target + fieldAt r.payload 0 4) n ++ (upTo k).map (fun i => (Config.freeWord (t.free + i)).setWidth 8)) t ({ t with free := t.free + k }))) ∧
  (∀ (a : At) (r : Req) (es : List Clamp) (s t : State), t = s.advance a → Safety.Asks true 2 8 r t → t.rdy Rdy.nvstore = true → t.cfg.pending.any (fun p => !p.atStart) = false → r.target = 0 → 1 ≤ fieldAt r.payload 2 2 ∧ fieldAt r.payload 2 2 ≤ 253 → fieldAt r.payload 4 4 = 0 → es = (t.cfg.report.drop (fieldAt r.payload 0 2)).take (fieldAt r.payload 2 2) →
    exec (.clampRead a r) s =
      .next (Safety.answered opClampRead r .done (le 2 t.cfg.report.length ++ le 2 es.length ++ le 4 t.cfg.generation ++ es.flatMap Clamp.bytes) t (t))) ∧
  (∀ (a : At) (r : Req) (s t : State), t = s.advance a → Safety.Asks true 2 0 r t → t.rdy Rdy.nvstore = true → t.cfg.pending.any (fun p => !p.atStart) = false → r.target < 1024 →
    exec (.sheafRead a r) s =
      .next (Safety.answered opSheafRead r .done (le 6 (t.sheafValue r.target) ++ le 2 0) t (t))) ∧
  (∀ (a : At) (r : Req) (s t : State), t = s.advance a → Safety.Asks true 2 0 r t → t.rdy Rdy.nvstore = true → t.cfg.pending.any (fun p => !p.atStart) = true → r.target = 0 →
    ∃ u, exec (.cfgInfo a r) s = .next u ∧ u.cfg.held.length = t.cfg.held.length + 1 ∧ u.nv = t.nv ∧ u.inFlight r.session r.tag = true) ∧
  (∀ (a : At) (r : Req) (s t : State), t = s.advance a → Safety.Commands false 2 8 r t → t.rdy Rdy.nvstore = true → t.cfg.pending.any (fun p => !p.atStart) = true → Safety.Holds t → r.target < 4 → fieldAt r.payload 4 4 = 0 →
    ∃ u, exec (.cfgBegin a r) s = .next u ∧ u.cfg.held.length = t.cfg.held.length + 1 ∧ u.nv = t.nv ∧ u.inFlight r.session r.tag = true) ∧
  (∀ (a : At) (r : Req) (s t : State), t = s.advance a → Safety.Commands false 2 r.payload.length r t → t.rdy Rdy.nvstore = true → t.cfg.pending.any (fun p => !p.atStart) = true → Safety.Holds t → r.target < 4 → 9 ≤ r.payload.length → r.payload.length ≤ 4064 → fieldAt r.payload 4 4 = 0 →
    ∃ u, exec (.cfgWrite a r) s = .next u ∧ u.cfg.held.length = t.cfg.held.length + 1 ∧ u.nv = t.nv ∧ u.inFlight r.session r.tag = true) ∧
  (∀ (a : At) (r : Req) (s t : State), t = s.advance a → Safety.Commands false 2 8 r t → t.rdy Rdy.nvstore = true → t.cfg.pending.any (fun p => !p.atStart) = true → Safety.Holds t → r.target < 4 →
    ∃ u, exec (.cfgCommit a r) s = .next u ∧ u.cfg.held.length = t.cfg.held.length + 1 ∧ u.nv = t.nv ∧ u.inFlight r.session r.tag = true) ∧
  (∀ (a : At) (r : Req) (s t : State), t = s.advance a → Safety.Asks true 2 8 r t → t.rdy Rdy.nvstore = true → t.cfg.pending.any (fun p => !p.atStart) = true → r.target < 4 → 1 ≤ fieldAt r.payload 4 2 ∧ fieldAt r.payload 4 2 ≤ 4048 → fieldAt r.payload 6 2 = 0 →
    ∃ u, exec (.cfgRead a r) s = .next u ∧ u.cfg.held.length = t.cfg.held.length + 1 ∧ u.nv = t.nv ∧ u.inFlight r.session r.tag = true) ∧
  (∀ (a : At) (r : Req) (s t : State), t = s.advance a → Safety.Asks true 2 8 r t → t.rdy Rdy.nvstore = true → t.cfg.pending.any (fun p => !p.atStart) = true → r.target = 0 → 1 ≤ fieldAt r.payload 2 2 ∧ fieldAt r.payload 2 2 ≤ 253 → fieldAt r.payload 4 4 = 0 →
    ∃ u, exec (.clampRead a r) s = .next u ∧ u.cfg.held.length = t.cfg.held.length + 1 ∧ u.nv = t.nv ∧ u.inFlight r.session r.tag = true) ∧
  (∀ (a : At) (r : Req) (s t : State), t = s.advance a → Safety.Asks true 2 0 r t → t.rdy Rdy.nvstore = true → t.cfg.pending.any (fun p => !p.atStart) = true → r.target < 1024 →
    ∃ u, exec (.sheafRead a r) s = .next u ∧ u.cfg.held.length = t.cfg.held.length + 1 ∧ u.nv = t.nv ∧ u.inFlight r.session r.tag = true)

/-- With BINNACLE set (SESSION_OPEN, SESSION_PROVE and SEC_INFO also with NVSTORE): IDENTIFY answers the identity (State.identity); a BARRIER with nothing in flight before it on its server is answered, with something it waits; SESSION_OPEN with a stored key answers SESSION and the server nonce and keeps the opening; SESSION_PROVE with the right PROOF gives the rights of the key and the session key, a wrong one, or one without an opening, the starting rights; SESSION_CLOSE ends what was proven, a UDP session keeping its key for its answer; SEC_WRITE stores the object, or answers what the store refuses with; SEC_INFO describes an object without showing a secret; with SERVICES set EVENT_READ and EVENT_STATUS describe the event ring. (R385, R389, R390, R395, R399, R406, R407, R409) -/
def Obligations.SessionOperations : Prop :=
  (∀ (a : At) (r : Req) (s t : State), t = s.advance a → Safety.Asks true 0 0 r t → t.rdy Rdy.binnacle = true → r.target = 0 →
    exec (.identify a r) s =
      .next (Safety.answered opIdentify r .done (t.identity r.session) t (t))) ∧
  (∀ (a : At) (r : Req) (s t : State), t = s.advance a → Safety.Asks true 0 0 r t → t.rdy Rdy.binnacle = true → r.target = 0 → t.mb.flights = [] →
    ∃ u, exec (.barrier a r) s = .next u ∧ Safety.Replied r .done [] u) ∧
  (∀ (a : At) (r : Req) (f : Flight) (s t : State), t = s.advance a → Safety.Asks true 0 0 r t → t.rdy Rdy.binnacle = true → r.target = 0 → f ∈ t.mb.flights → f.rejected = false → binnacleSide f.session = binnacleSide r.session → f.order ≤ t.mb.orders →
    ∃ u, exec (.barrier a r) s = .next u ∧ u.barred r.session = true) ∧
  (∀ (a : At) (r : Req) (s t : State), t = s.advance a → Safety.Asks true 0 20 r t → t.rdy Rdy.binnacle = true → r.target = 0 → 1 ≤ fieldAt r.payload 0 1 ∧ fieldAt r.payload 0 1 ≤ 2 → allZero ((r.payload.drop 1).take 3) = true → (t.keyOf (fieldAt r.payload 0 1)).isSome = true → t.rdy Rdy.nvstore = true →
    ∃ u, exec (.sessionOpen a r) s = .next u ∧ Safety.Replied r .done (le 4 r.session ++ (t.newOpening r.payload).serverNonce) u ∧
      (u.session r.session).opening = some (t.newOpening r.payload) ∧ u.rights r.session = t.rights r.session) ∧
  (∀ (a : At) (r : Req) (o : Opening) (key : List Byte) (s t : State), t = s.advance a → Safety.Asks true 0 32 r t → t.rdy Rdy.binnacle = true → r.target = 0 → (t.session r.session).opening = some o → t.keyOf o.keyId = some key → hmacSha256 key (proofText 0x50 r.session o) = r.payload → t.rdy Rdy.nvstore = true →
    ∃ u, exec (.sessionProve a r) s = .next u ∧ Safety.Replied r .done (hmacSha256 key (proofText 0x53 r.session o)) u ∧
      u.rights r.session = (if o.keyId = 1 then .basic else .expert) ∧
      (u.session r.session).sk = hmacSha256 key (proofText 0x4B r.session o)) ∧
  (∀ (a : At) (r : Req) (s t : State), t = s.advance a → Safety.Asks true 0 32 r t → t.rdy Rdy.binnacle = true → r.target = 0 → (∀ o key, (t.session r.session).opening = some o → t.keyOf o.keyId = some key →
      hmacSha256 key (proofText 0x50 r.session o) ≠ r.payload) → t.rdy Rdy.nvstore = true →
    ∃ u, exec (.sessionProve a r) s = .next u ∧ Safety.Replied r .notPermitted [] u ∧ u.rights r.session = t.startRights r.session ∧
      (u.session r.session).opening = none) ∧
  (∀ (a : At) (r : Req) (s t : State), t = s.advance a → Safety.Asks true 0 0 r t → t.rdy Rdy.binnacle = true → r.target = 0 →
    ∃ u, exec (.sessionClose a r) s = .next u ∧ Safety.Replied r .done [] u ∧ u.rights r.session = t.startRights r.session ∧
      u.session r.session = { sk := if 16 ≤ r.session then (t.session r.session).sk else [] }) ∧
  (∀ (a : At) (r : Req) (object index : Nat) (st : Status) (u : State) (s t : State), t = s.advance a → Safety.Commands true 0 r.payload.length r t → t.rdy Rdy.binnacle = true → r.target = 0 → object = fieldAt r.payload 0 1 → index = fieldAt r.payload 1 1 → 4 ≤ r.payload.length → secKnown object index = true → allZero ((r.payload.drop 2).take 2) = true → secFits object (r.payload.drop 4) = true → t.nvTakes = true → t.saveNow { typ := 7, key := object * 256 + index, payload := r.payload.drop 4, flags := if (r.payload.drop 4).isEmpty then 4 else 0 } = (st, u) →
    ∃ v, exec (.secWrite a r) s = .next v ∧ Safety.Replied r st [] v ∧ v.nv = u.nv) ∧
  (∀ (a : At) (r : Req) (s t : State), t = s.advance a → Safety.Commands true 0 r.payload.length r t → t.rdy Rdy.binnacle = true → r.target = 0 → 4 ≤ r.payload.length → secKnown (fieldAt r.payload 0 1) (fieldAt r.payload 1 1) = true → allZero ((r.payload.drop 2).take 2) = true → secFits (fieldAt r.payload 0 1) (r.payload.drop 4) = true → t.nvTakes = false →
    ∃ v, exec (.secWrite a r) s = .next v ∧ Safety.Replied r .nvBusy [] v ∧ v.nv = t.nv) ∧
  (∀ (a : At) (r : Req) (object index : Nat) (d : List Byte) (s t : State), t = s.advance a → Safety.Asks true 0 4 r t → t.rdy Rdy.binnacle = true → t.rdy Rdy.nvstore = true → r.target = 0 → object = fieldAt r.payload 0 1 → index = fieldAt r.payload 1 1 → secKnown object index = true → allZero (r.payload.drop 2) = true → t.secObject object index = some d →
    exec (.secInfo a r) s =
      .next (Safety.answered opSecInfo r .done (le 1 1 ++ le 3 0 ++ le 4 d.length ++ (if secSecret object then List.replicate 32 0 else sha256 d)) t (t))) ∧
  (∀ (a : At) (r : Req) (object index : Nat) (s t : State), t = s.advance a → Safety.Asks true 0 4 r t → t.rdy Rdy.binnacle = true → t.rdy Rdy.nvstore = true → r.target = 0 → object = fieldAt r.payload 0 1 → index = fieldAt r.payload 1 1 → secKnown object index = true → allZero (r.payload.drop 2) = true → t.secObject object index = none →
    exec (.secInfo a r) s =
      .next (Safety.answered opSecInfo r .done (List.replicate 40 0) t (t))) ∧
  (∀ (a : At) (r : Req) (s t : State), t = s.advance a → Safety.Asks false 16 0 r t → r.target = 0 →
    exec (.eventStatus a r) s =
      .next (Safety.answered opEventStatus r .done (le 4 t.mb.evtSeq.toNat ++ le 4 t.mb.evtDroppedAll ++ le 1 (t.cfgN Fid.EVT_CONSUMER) ++ le 7 0) t (t))) ∧
  (∀ (a : At) (r : Req) (first next : Nat) (js : List Nat) (s t : State), t = s.advance a → Safety.Asks false 16 8 r t → r.target = 0 → 1 ≤ fieldAt r.payload 4 1 ∧ fieldAt r.payload 4 1 ≤ 63 → allZero (r.payload.drop 5) = true → first = t.evtFirst → js = ((upTo t.mb.evtPosted).filter (fun j => !newer 32 (fieldAt r.payload 0 4) (seqAfter first j))).take (fieldAt r.payload 4 1) → next = (js.getLast?.map (fun j => seqAfter first (j + 1))).getD (nextEventSeq t.mb.evtSeq).toNat →
    exec (.eventRead a r) s =
      .next (Safety.answered opEventRead r .done (le 4 first ++ le 4 next ++ le 1 js.length ++ le 7 0 ++ js.flatMap t.evtEntry) t (t)))

/-- With ALMANAC set: ALMANAC_READ answers the count with its flags, EPOCH and the TRIM written last and takes the shadow; ALMANAC_WRITE and ALMANAC_ALARM wait for their crystal edge (Almanac.enqueue); ALMANAC_TRIM of at most 536 in size gives the next period its TRIM; BACKUP_READ and BACKUP_WRITE act on the 64 bytes. With LOGBOOK set: LOG_READ answers at most COUNT records from FROM, or NV_FAULT where one cannot be read; LOG_ACK keeps the highest SEQ acknowledged, stored before the answer, or answers what the store refuses with. With MERIDIAN set CONCORD_READ answers at most COUNT points from FROM on. (R62, R406, R466, R469, R544, R546, R550, R556) -/
def Obligations.AlmanacAndLogOperations : Prop :=
  (∀ (a : At) (r : Req) (m : Almanac) (s t : State), t = s.advance a → Safety.Asks true 1 0 r t → t.rdy Rdy.almanac = true → r.target = 0 → m = t.alm →
    exec (.almanacRead a r) s =
      .next (Safety.answered opAlmanacRead r .done (le 6 m.count.toNat ++
        le 1 (bit m.wrapped + 2 * bit m.alarm0.fired + 4 * bit m.alarm1.fired + 8 * bit m.powerLost + 16 * bit m.tickFault) ++
        le 1 m.epoch.toNat ++ le 2 (ofSigned 16 m.trimNew) ++ le 6 0) t ({ t with alm.shadow := m.count.toNat / 2 ^ 32 }))) ∧
  (∀ (a : At) (r : Req) (s t : State), t = s.advance a → Safety.Commands true 1 8 r t → t.rdy Rdy.almanac = true → r.target = 0 → allZero (r.payload.drop 6) = true →
    exec (.almanacWrite a r) s = .next (Safety.accepted opAlmanacWrite r t ({ t with alm := t.alm.enqueue { session := r.session, tag := r.tag, value := fieldAt r.payload 0 6 } }))) ∧
  (∀ (a : At) (r : Req) (v : Int) (s t : State), t = s.advance a → Safety.Commands true 1 4 r t → t.rdy Rdy.almanac = true → r.target = 0 → allZero (r.payload.drop 2) = true → v = sext 16 (fieldAt r.payload 0 2) → v.natAbs ≤ 536 →
    ∃ u, exec (.almanacTrim a r) s = .next u ∧ Safety.Replied r .done [] u ∧ u.alm = { t.alm with trimNew := v }) ∧
  (∀ (a : At) (r : Req) (s t : State), t = s.advance a → Safety.Commands true 1 12 r t → t.rdy Rdy.almanac = true → r.target = 0 → fieldAt r.payload 0 1 ≤ 1 → fieldAt r.payload 1 1 ≤ 1 → allZero ((r.payload.drop 2).take 2) = true → allZero (r.payload.drop 10) = true →
    exec (.almanacAlarm a r) s = .next (Safety.accepted opAlmanacAlarm r t ({ t with alm := t.alm.enqueue { session := r.session, tag := r.tag, alarm := some (fieldAt r.payload 0 1), enable := fieldAt r.payload 1 1 == 1, value := fieldAt r.payload 4 6 } }))) ∧
  (∀ (a : At) (r : Req) (s t : State), t = s.advance a → Safety.Asks true 1 4 r t → t.rdy Rdy.almanac = true → r.target = 0 → 1 ≤ fieldAt r.payload 1 1 → fieldAt r.payload 0 1 + fieldAt r.payload 1 1 ≤ 64 → allZero (r.payload.drop 2) = true →
    exec (.backupRead a r) s =
      .next (Safety.answered opBackupRead r .done (t.alm.backup.readBytes (fieldAt r.payload 0 1) (fieldAt r.payload 1 1)) t (t))) ∧
  (∀ (a : At) (r : Req) (s t : State), t = s.advance a → Safety.Commands true 1 (4 + fieldAt r.payload 1 1) r t → t.rdy Rdy.almanac = true → r.target = 0 → fieldAt r.payload 0 1 + fieldAt r.payload 1 1 ≤ 64 → allZero ((r.payload.drop 2).take 2) = true →
    exec (.backupWrite a r) s =
      .next (Safety.answered opBackupWrite r .done ([]) t ({ t with alm.backup := t.alm.backup.writeBytes (fieldAt r.payload 0 1) (r.payload.drop 4) }))) ∧
  (∀ (a : At) (r : Req) (got : List (Nat × Nat)) (oldest next : Nat) (s t : State), t = s.advance a → Safety.Asks true 3 16 r t → t.rdy Rdy.logbook = true → r.target = 0 → allZero ((r.payload.drop 6).take 2) = true → allZero (r.payload.drop 10) = true → 1 ≤ fieldAt r.payload 8 2 ∧ fieldAt r.payload 8 2 ≤ 63 → got = (t.log.held.filter (fun p => decide (fieldAt r.payload 0 6 ≤ p.1))).take (fieldAt r.payload 8 2) → got.any (fun p => !(t.nv.badIn (logBase + p.2 * 64) 64).isEmpty) = false → oldest = (t.log.held.head?.map (fun p => p.1)).getD t.log.nextSeq → next = (got.getLast?.map (fun p => p.1 + 1)).getD t.log.nextSeq →
    exec (.logRead a r) s =
      .next (Safety.answered opLogRead r .done (le 6 oldest ++ le 6 next ++ le 2 got.length ++ le 2 0 ++ got.flatMap (fun p => t.nv.logSlot p.2)) t (t))) ∧
  (∀ (a : At) (r : Req) (got : List (Nat × Nat)) (s t : State), t = s.advance a → Safety.Asks true 3 16 r t → t.rdy Rdy.logbook = true → r.target = 0 → allZero ((r.payload.drop 6).take 2) = true → allZero (r.payload.drop 10) = true → 1 ≤ fieldAt r.payload 8 2 ∧ fieldAt r.payload 8 2 ≤ 63 → got = (t.log.held.filter (fun p => decide (fieldAt r.payload 0 6 ≤ p.1))).take (fieldAt r.payload 8 2) → got.any (fun p => !(t.nv.badIn (logBase + p.2 * 64) 64).isEmpty) = true →
    ∃ u, exec (.logRead a r) s = .next u ∧ Safety.Replied r .nvFault [] u ∧ u.log.slots = t.log.slots) ∧
  (∀ (a : At) (r : Req) (s t : State), t = s.advance a → Safety.Commands true 3 8 r t → t.rdy Rdy.logbook = true → r.target = 0 → allZero (r.payload.drop 6) = true → fieldAt r.payload 0 6 < t.log.nextSeq → fieldAt r.payload 0 6 ≤ t.bin.ackSeq →
    exec (.logAck a r) s =
      .next (Safety.answered opLogAck r .done ([]) t (t))) ∧
  (∀ (a : At) (r : Req) (b : Binnacle) (u : State) (s t : State), t = s.advance a → Safety.Commands true 3 8 r t → t.rdy Rdy.logbook = true → r.target = 0 → allZero (r.payload.drop 6) = true → fieldAt r.payload 0 6 < t.log.nextSeq → t.bin.ackSeq < fieldAt r.payload 0 6 → b = { t.bin with ackSeq := fieldAt r.payload 0 6 } → t.saveNow b.save = (.done, u) →
    ∃ v, exec (.logAck a r) s = .next v ∧ Safety.Replied r .done [] v ∧ v.bin = b ∧ v.nv = u.nv) ∧
  (∀ (a : At) (r : Req) (b : Binnacle) (st : Status) (u : State) (s t : State), t = s.advance a → Safety.Commands true 3 8 r t → t.rdy Rdy.logbook = true → r.target = 0 → allZero (r.payload.drop 6) = true → fieldAt r.payload 0 6 < t.log.nextSeq → t.bin.ackSeq < fieldAt r.payload 0 6 → b = { t.bin with ackSeq := fieldAt r.payload 0 6 } → t.saveNow b.save = (st, u) → st ≠ .done →
    ∃ v, exec (.logAck a r) s = .next v ∧ Safety.Replied r st [] v ∧ v.bin.ackSeq = t.bin.ackSeq) ∧
  (∀ (a : At) (r : Req) (got : List Concord) (next : Nat) (s t : State), t = s.advance a → Safety.Asks true 4 8 r t → t.rdy Rdy.meridian = true → r.target = 0 → 1 ≤ fieldAt r.payload 4 1 ∧ fieldAt r.payload 4 1 ≤ 64 → allZero (r.payload.drop 5) = true → got = (t.mer.concord.filter (fun p => p.seq == fieldAt r.payload 0 4 || newer 32 p.seq (fieldAt r.payload 0 4))).take (fieldAt r.payload 4 1) → next = (got.getLast?.map (fun p => (p.seq + 1) % 2 ^ 32)).getD (t.mer.concordSeq + 1).toNat →
    exec (.concordRead a r) s =
      .next (Safety.answered opConcordRead r .done (le 4 next ++ le 1 got.length ++ le 3 0 ++ got.flatMap Concord.bytes) t (t)))

/-- With BINNACLE set: UPDATE_BEGIN opens the free slot of its image; UPDATE_WRITE stores bytes into it, which then is WRITING; UPDATE_VERIFY is ACCEPTED and marks it WRITTEN; UPDATE_STATUS answers the four slots; UPDATE_SWAP of a VERIFIED or PREVIOUS service slot starts its trial, in autopilot it waits for RESET, and of a Binnacle slot restarts Binnacle on trial (State.swapBinnacle); RESET restarts the services or the module; SELFTEST of a passive test is ACCEPTED, of a disruptive one DEFERRED, on a standby ACCEPTED where none runs; SENSOR_READ answers the sensors; POLICY_READ the guard of a present zone. With UI set UI_CALIBRATE begins, waits behind a calibration that runs, or is DEFERRED; with FGn set FC_CLEAR clears the latch of a channel, or of every channel of the group. (R228, R273, R368, R406, R471, R476, R479, R480, R481, R484, R485, R486) -/
def Obligations.FirmwareAndMaintenanceOperations : Prop :=
  (∀ (a : At) (r : Req) (bin : Bool) (i : Nat) (s t : State), t = s.advance a → Safety.Commands true 0 8 r t → t.rdy Rdy.binnacle = true → r.target = 0 → fieldAt r.payload 0 1 ≤ 1 → allZero ((r.payload.drop 1).take 3) = true → bin = reqBin r → fieldAt r.payload 4 4 ≤ imageMax bin → t.bin.find bin .trial = none → t.bin.free bin = some i → t.nvTakes = true →
    ∃ u, exec (.updateBegin a r) s = .next u ∧ Safety.Replied r .done [] u ∧ u.bin.slot i = .writing ∧ u.bin.opened = bin ∧ u.openSize = fieldAt r.payload 4 4) ∧
  (∀ (a : At) (r : Req) (i : Nat) (s t : State), t = s.advance a → Safety.Commands true 0 r.payload.length r t → t.rdy Rdy.binnacle = true → r.target = 0 → 9 ≤ r.payload.length → allZero ((r.payload.drop 4).take 4) = true → t.writeSlot = some i → t.bin.slot i = .writing → t.nvTakes = true → fieldAt r.payload 0 4 + (r.payload.length - 8) ≤ t.openSize →
    exec (.updateWrite a r) s =
      .next (Safety.answered opUpdateWrite r .done ([]) t ({ t with nv := t.nv.storeBytes (imageBase i + fieldAt r.payload 0 4) (r.payload.drop 8) }))) ∧
  (∀ (a : At) (r : Req) (i : Nat) (s t : State), t = s.advance a → Safety.Commands true 0 r.payload.length r t → t.rdy Rdy.binnacle = true → r.target = 0 → 9 ≤ r.payload.length → allZero ((r.payload.drop 4).take 4) = true → t.writeSlot = some i → t.bin.slot i ≠ .writing → t.nvTakes = true → fieldAt r.payload 0 4 + (r.payload.length - 8) ≤ t.openSize →
    ∃ u, exec (.updateWrite a r) s = .next u ∧ Safety.Replied r .done [] u ∧ u.bin.slot i = .writing) ∧
  (∀ (a : At) (r : Req) (i : Nat) (s t : State), t = s.advance a → Safety.Commands true 0 4 r t → t.rdy Rdy.binnacle = true → r.target = 0 → fieldAt r.payload 0 1 ≤ 1 → allZero (r.payload.drop 1) = true → t.bin.free (reqBin r) = some i →
    ∃ u, exec (.updateVerify a r) s = .next u ∧ Safety.Replied r .accepted [] u ∧ u.bin.slot i = .written) ∧
  (∀ (a : At) (r : Req) (s t : State), t = s.advance a → Safety.Asks true 0 0 r t → t.rdy Rdy.binnacle = true → t.rdy Rdy.nvstore = true → r.target = 0 →
    exec (.updateStatus a r) s =
      .next (Safety.answered opUpdateStatus r .done ((upTo 4).flatMap (fun i => le 1 (t.bin.slot i).code ++ le 3 0 ++ le 4 (t.bin.version i))) t (t))) ∧
  (∀ (a : At) (r : Req) (i : Nat) (s t : State), t = s.advance a → Safety.Commands true 0 4 r t → t.rdy Rdy.binnacle = true → r.target = 0 → fieldAt r.payload 0 1 = 0 → allZero (r.payload.drop 1) = true → t.bin.free false = some i → (t.bin.slot i = .verified ∨ t.bin.slot i = .previous) → t.nvTakes = true → t.bin.failures < 3 →
    ∃ u, exec (.updateSwap a r) s = .next u ∧ u.bin.slot i = .trial ∧ u.bin.svc = SvcRun.paused ∧ u.bin.deliberate = true ∧ u.rdy Rdy.services = false) ∧
  (∀ (a : At) (r : Req) (i : Nat) (s t : State), t = s.advance a → Safety.Commands true 0 4 r t → t.rdy Rdy.binnacle = true → r.target = 0 → fieldAt r.payload 0 1 = 0 → allZero (r.payload.drop 1) = true → t.bin.free false = some i → (t.bin.slot i = .verified ∨ t.bin.slot i = .previous) → t.nvTakes = true → 3 ≤ t.bin.failures →
    ∃ u, exec (.updateSwap a r) s = .next u ∧ u.bin.slot i = .trial ∧ u.bin.trialBin = some false) ∧
  (∀ (a : At) (r : Req) (i : Nat) (s t : State), t = s.advance a → Safety.Commands true 0 4 r t → t.rdy Rdy.binnacle = true → r.target = 0 → fieldAt r.payload 0 1 = 1 → allZero (r.payload.drop 1) = true → t.bin.free true = some i → (t.bin.slot i = .verified ∨ t.bin.slot i = .previous) → t.nvTakes = true →
    exec (.updateSwap a r) s = .next (State.swapBinnacle i (((Safety.accepted opUpdateSwap r t t).finish r.session r.tag (t.resp .done)).postNext r.session))) ∧
  (∀ (a : At) (r : Req) (s t : State), t = s.advance a → Safety.Commands true 0 4 r t → t.rdy Rdy.binnacle = true → r.target = 0 → fieldAt r.payload 0 1 = 0 → allZero (r.payload.drop 1) = true →
    ∃ u, exec (.reset a r) s = .next u ∧ u.bin.failures = 0 ∧ u.bin.svc = SvcRun.paused ∧ u.bin.deliberate = true ∧ u.rdy Rdy.services = false) ∧
  (∀ (a : At) (r : Req) (s t : State), t = s.advance a → Safety.Commands true 0 4 r t → t.rdy Rdy.binnacle = true → r.target = 0 → fieldAt r.payload 0 1 = 1 → allZero (r.payload.drop 1) = true →
    ∃ u, exec (.reset a r) s = .next u ∧ u.bin.resetCause = 4 ∧ u.mer = {} ∧ u.mb.flights = [] ∧ u.nv.mem = t.nv.mem) ∧
  (∀ (a : At) (r : Req) (s t : State), t = s.advance a → Safety.Commands true 0 8 r t → t.rdy Rdy.binnacle = true → r.target = 0 → testKnown (fieldAt r.payload 0 2) (fieldAt r.payload 4 4) = true → allZero ((r.payload.drop 2).take 2) = true → testPassive (fieldAt r.payload 0 2) = true →
    ∃ u, exec (.selftest a r) s = .next u ∧ Safety.Replied r .accepted [] u ∧ u.bin = t.bin) ∧
  (∀ (a : At) (r : Req) (s t : State), t = s.advance a → Safety.Commands true 0 8 r t → t.rdy Rdy.binnacle = true → r.target = 0 → testKnown (fieldAt r.payload 0 2) (fieldAt r.payload 4 4) = true → allZero ((r.payload.drop 2).take 2) = true → testPassive (fieldAt r.payload 0 2) = false → (t.peerHolds = false ∨ t.bin.selftest.isSome = true) →
    ∃ u, exec (.selftest a r) s = .next u ∧ Safety.Replied r .deferred [] u ∧ u.bin = t.bin) ∧
  (∀ (a : At) (r : Req) (s t : State), t = s.advance a → Safety.Commands true 0 8 r t → t.rdy Rdy.binnacle = true → r.target = 0 → testKnown (fieldAt r.payload 0 2) (fieldAt r.payload 4 4) = true → allZero ((r.payload.drop 2).take 2) = true → testPassive (fieldAt r.payload 0 2) = false → t.peerHolds = true → t.bin.selftest = none →
    ∃ u, exec (.selftest a r) s = .next u ∧ Safety.Replied r .accepted [] u ∧ u.bin.selftest = some (fieldAt r.payload 0 2, fieldAt r.payload 4 4)) ∧
  (∀ (a : At) (r : Req) (s t : State), t = s.advance a → Safety.Asks true 0 0 r t → t.rdy Rdy.binnacle = true → r.target = 0 →
    exec (.sensorRead a r) s =
      .next (Safety.answered opSensorRead r .done (le 8 t.sen.stamp.toNat ++ (upTo 4).flatMap (fun i => le 2 (ofSigned 16 (t.sen.temps.get i).value)) ++
        (upTo 12).flatMap (fun i => le 2 (t.sen.rails.get i).value.toNat) ++
        leList 2 [t.sup.vmainNow, t.sup.vback, t.sup.vhold, t.sup.vbat, t.sen.iin] ++ le 2 0) t (t))) ∧
  (∀ (a : At) (r : Req) (s t : State), t = s.advance a → Safety.Commands false 10 0 r t → t.rdy Rdy.ui = true → r.target < 4 → t.calWaits r.target = false → (t.inp.cores.get r.target).results = 0 →
    exec (.uiCalibrate a r) s = .next (Safety.accepted opUiCalibrate r t (t.core r.target (fun o => { o with demand := 8, results := 8, zeros := [], gains := [], waiter := some (Req.waiter r), byInterim := false })))) ∧
  (∀ (a : At) (r : Req) (s t : State), t = s.advance a → Safety.Commands false 10 0 r t → t.rdy Rdy.ui = true → r.target < 4 → t.calWaits r.target = true →
    ∃ u, exec (.uiCalibrate a r) s = .next u ∧ Safety.Replied r .deferred [] u ∧ u.inp = t.inp) ∧
  (∀ (a : At) (r : Req) (s t : State), t = s.advance a → Safety.Commands false 10 0 r t → t.rdy Rdy.ui = true → r.target < 4 → t.calWaits r.target = false → 0 < (t.inp.cores.get r.target).results →
    exec (.uiCalibrate a r) s = .next (Safety.accepted opUiCalibrate r t (t.core r.target (fun o => { o with waiting := o.waiting ++ [Req.waiter r] })))) ∧
  (∀ (a : At) (r : Req) (s t : State), t = s.advance a → Safety.Commands true (6 + groupOf r.target) 4 r t → Safety.Holds t → r.target < 32 → t.rdy (Rdy.fg (groupOf r.target)) = true → fieldAt r.payload 0 1 = 0 → allZero (r.payload.drop 1) = true →
    ∃ u, exec (.fcClear a r) s = .next u ∧ Safety.Replied r .done [] u ∧ (u.fld.outs.get r.target).latched = false ∧
      (u.fld.outs.get r.target).tripped = false ∧ (u.fld.outs.get r.target).retries = 0) ∧
  (∀ (a : At) (r : Req) (s t : State), t = s.advance a → Safety.Commands true (6 + groupOf r.target) 4 r t → Safety.Holds t → r.target < 32 → t.rdy (Rdy.fg (groupOf r.target)) = true → fieldAt r.payload 0 1 = 1 → allZero (r.payload.drop 1) = true →
    ∃ u, exec (.fcClear a r) s = .next u ∧ Safety.Replied r .done [] u ∧ (u.fld.groups.get (groupOf r.target)).cut = false ∧
      ∀ n ∈ channelsOf (groupOf r.target), (u.fld.outs.get n).latched = false ∧ (u.fld.outs.get n).tripped = false ∧
        (u.fld.outs.get n).retries = 0) ∧
  (∀ (a : At) (r : Req) (p : Policy) (g : Guard) (v : Option Int) (s t : State), t = s.advance a → Safety.Asks true 0 0 r t → t.rdy Rdy.binnacle = true → r.target < 256 → t.present r.target = true → p = t.policy.get r.target → g = p.drives → v = t.guardTemp r.target →
    exec (.policyRead a r) s =
      .next (Safety.answered opPolicyRead r .done (le 1 g.code ++ le 1 (bit v.isNone) ++ le 2 0 ++ le 2 ((v.map (ofSigned 16)).getD 0x8000) ++ le 2 0 ++
        le 8 (if g = .frost then p.frost.since.toNat else if g = .hot then p.hot.since.toNat else 0)) t (t)))

/-- With SOUNDING set: a SOUND_START within its ranges (Snd.inRange, State.sndFits) that need not wait is ACCEPTED into the area of State.sndArea, with no area STORE_FULL; one that must wait is DEFERRED; SOUND_ABORT ends a running sounding with cause 1 and drops a waiting start; SOUND_STATUS, SOUND_CAPTURE and SOUND_RESULT answer what the sounding holds; SOUND_DELIVER of a finite result queues its delivery (State.sndDeliver). SOUND_SETTLED and SOUND_CAPTURED move a sounding whose samples are complete to CAPTURE and to FITTING; SOUND_ABORTED ends one whose cause holds and leaves one whose cause does not hold; SOUND_FIT_COMPLETE with SERVICES set ends a fit (State.sndFitEnds), but waits while a plan computes or an occupancy update is due. DEFERRED_START begins a deferred start whose zone need not wait and with an area, and a deferred force whose output no zone outside MAINTENANCE commands; a self-test and a calibration as State.testDeferred and State.calDeferred say; with no such operation, or one that must wait, it changes nothing. (R196, R197, R202, R205, R206, R207, R215, R217, R386) -/
def Obligations.SoundingOperationsAndEvents : Prop :=
  (∀ (a : At) (r : Req) (area : Nat) (s t : State), t = s.advance a → Safety.Commands false 15 52 r t → Safety.Holds t → r.target < 256 → Snd.inRange r.payload = true → t.present r.target = true → t.sndFits r.target r.payload = true → t.cfgN Fid.SND_ENABLE ≠ 0 → t.cfgN Fid.SND_ALLOW r.target ≠ 0 → t.sndNoAmp r.target r.payload = false → t.rdy Rdy.sounding = true → t.sndWaits r.target r.payload = false → t.sndArea = some area →
    ∃ u, exec (.soundStart a r) s = .next u ∧ Safety.Replied r .accepted (t.sndResponse r.target area r.payload) u ∧
      u.snd.zones.get r.target = { state := .pending, area := area, request := r.payload }) ∧
  (∀ (a : At) (r : Req) (s t : State), t = s.advance a → Safety.Commands false 15 52 r t → Safety.Holds t → r.target < 256 → Snd.inRange r.payload = true → t.present r.target = true → t.sndFits r.target r.payload = true → t.cfgN Fid.SND_ENABLE ≠ 0 → t.cfgN Fid.SND_ALLOW r.target ≠ 0 → t.sndNoAmp r.target r.payload = false → t.rdy Rdy.sounding = true → t.sndWaits r.target r.payload = false → t.sndArea = none →
    ∃ u, exec (.soundStart a r) s = .next u ∧ Safety.Replied r .storeFull [] u ∧ u.snd.capture = t.snd.capture) ∧
  (∀ (a : At) (r : Req) (s t : State), t = s.advance a → Safety.Commands false 15 52 r t → Safety.Holds t → r.target < 256 → Snd.inRange r.payload = true → t.present r.target = true → t.sndFits r.target r.payload = true → t.cfgN Fid.SND_ENABLE ≠ 0 → t.cfgN Fid.SND_ALLOW r.target ≠ 0 → t.sndNoAmp r.target r.payload = false → t.rdy Rdy.sounding = true → t.sndWaits r.target r.payload = true →
    ∃ u, exec (.soundStart a r) s = .next u ∧ Safety.Replied r .deferred [] u ∧ (u.snd.zones.get r.target).deferredReq = some r.payload ∧
      (u.snd.zones.get r.target).state = (t.snd.zones.get r.target).state) ∧
  (∀ (a : At) (r : Req) (s t : State), t = s.advance a → Safety.Commands false 15 0 r t → r.target < 256 → t.present r.target = true → t.cfgN Fid.SND_ENABLE ≠ 0 → t.rdy Rdy.sounding = true → (t.snd.zones.get r.target).runs = true →
    ∃ u, exec (.soundAbort a r) s = .next u ∧ Safety.Replied r .done [] u ∧ (u.snd.zones.get r.target).state = .aborted ∧ (u.snd.zones.get r.target).cause = 1 ∧
      (u.snd.zones.get r.target).deferredReq = none) ∧
  (∀ (a : At) (r : Req) (s t : State), t = s.advance a → Safety.Commands false 15 0 r t → r.target < 256 → t.present r.target = true → t.cfgN Fid.SND_ENABLE ≠ 0 → t.rdy Rdy.sounding = true → (t.snd.zones.get r.target).runs = false →
    ∃ u, exec (.soundAbort a r) s = .next u ∧ Safety.Replied r .done [] u ∧ u.snd.zones.get r.target = { t.snd.zones.get r.target with deferredReq := none }) ∧
  (∀ (a : At) (r : Req) (s t : State), t = s.advance a → Safety.Commands false 15 0 r t → r.target < 256 → t.present r.target = true → t.cfgN Fid.SND_ENABLE ≠ 0 → t.rdy Rdy.sounding = true → ((t.snd.zones.get r.target).state ≠ .none ∨ (t.snd.zones.get r.target).deferredReq.isSome = true) →
    exec (.soundStatus a r) s =
      .next (Safety.answered opSoundStatus r .done ((t.snd.zones.get r.target).status) t (t))) ∧
  (∀ (a : At) (r : Req) (o : Sounding) (ch first n : Nat) (s t : State), t = s.advance a → Safety.Commands false 15 8 r t → r.target < 256 → t.present r.target = true → t.cfgN Fid.SND_ENABLE ≠ 0 → t.rdy Rdy.sounding = true → o = t.sndCaptured r.target → ch = fieldAt r.payload 0 1 → first = fieldAt r.payload 2 2 → ch ≤ 3 → fieldAt r.payload 1 1 = 0 → allZero (r.payload.drop 6) = true → 1 ≤ fieldAt r.payload 4 2 ∧ fieldAt r.payload 4 2 ≤ 2016 → o.captured = true → Snd.channel o.request ch ≠ 0xFFFF → n = min (fieldAt r.payload 4 2) (o.samples - first) →
    exec (.soundCapture a r) s =
      .next (Safety.answered opSoundCapture r .done (le 4 (o.base.get ch).toNat ++ le 4 (F32.ofRat 1 (sndStep (t.sndKind (Snd.channel o.request ch)))).toNat ++ le 2 first ++ le 2 n ++ le 4 0 ++
        (upTo n).flatMap (fun i => le 2 ((t.snd.capture.get (sndKey o.area ch (first + i)) + 32768) % 65536))) t (t))) ∧
  (∀ (a : At) (r : Req) (o : Sounding) (s t : State), t = s.advance a → Safety.Commands false 15 0 r t → r.target < 256 → t.present r.target = true → t.cfgN Fid.SND_ENABLE ≠ 0 → t.rdy Rdy.sounding = true → o = t.sndEnded r.target → o.hasResult = true →
    exec (.soundResult a r) s =
      .next (Safety.answered opSoundResult r .done (le 4 o.seq ++ le 2 o.fails ++ le 2 (o.flags + 64 * bit o.deferredReq.isSome) ++
        leList 4 [o.fit.toNat, o.radius.toNat, o.gainNew.toNat, o.gainOld.toNat] ++ le 1 o.incoming ++ le 1 (Snd.order o.request) ++ le 2 o.rows ++
        le 4 0 ++ (upTo 672).flatMap (fun i => le 4 (o.block.get i).toNat)) t (t))) ∧
  (∀ (a : At) (r : Req) (o : Sounding) (m force : Nat) (s t : State), t = s.advance a → Safety.Commands false 15 4 r t → Safety.Holds t → r.target < 256 → t.present r.target = true → t.cfgN Fid.SND_ENABLE ≠ 0 → t.rdy Rdy.sounding = true → o = t.sndEnded r.target → m = fieldAt r.payload 0 1 → force = fieldAt r.payload 1 1 → (m = 1 ∨ m = 2) → force ≤ 1 → allZero (r.payload.drop 2) = true → o.hasResult = true → o.delivered = false → bitOf o.fails 7 = false → (o.state = .accepted ∨ force = 1) →
    exec (.soundDeliver a r) s = .next (Safety.accepted opSoundDeliver r t (t.sndDeliver r.target (m + 1) force o (some (Req.waiter r))))) ∧
  (∀ (a : At) (z : Nat) (o : Sounding) (s t : State), t = s.advance a → o = t.snd.zones.get z → o.state = .settle →
    Snd.settle o.request * Snd.span o.request ≤ o.floorSamples →
    exec (.soundSettled a z) s = .next { t with snd.zones := t.snd.zones.set z { o with state := .capture } }) ∧
  (∀ (a : At) (z : Nat) (o : Sounding) (s t : State), t = s.advance a → o = t.snd.zones.get z → o.state = .capture →
    Snd.length o.request ≤ o.samples →
    ∃ u, exec (.soundCaptured a z) s = .next u ∧ u.snd.zones = t.snd.zones.set z { o with state := .fitting, ended := t.now }) ∧
  (∀ (a : At) (z cause : Nat) (s t : State), t = s.advance a → ((t.snd.zones.get z).state = .settle ∨ (t.snd.zones.get z).state = .capture) →
    t.sndCauseHolds z cause = true →
    ∃ u, exec (.soundAborted a z cause) s = .next u ∧ (u.snd.zones.get z).state = .aborted ∧ (u.snd.zones.get z).cause = cause) ∧
  (∀ (a : At) (z cause : Nat) (s t : State), t = s.advance a → t.sndCauseHolds z cause = false →
    exec (.soundAborted a z cause) s = .next t) ∧
  (∀ (a : At) (z : Nat) (s t : State), t = s.advance a → (t.sndFitting z).state = .fitting → t.rdy Rdy.services = true →
    (t.plan.running && t.plan.taken) = false → t.occFirst = false → exec (.soundFitComplete a z) s = .next (t.sndFitEnds z)) ∧
  (∀ (a : At) (z : Nat) (s t : State), t = s.advance a →
    ((t.plan.running = true ∧ t.plan.taken = true) ∨ t.occFirst = true ∨ t.rdy Rdy.services = false ∨ (t.sndFitting z).state ≠ .fitting) →
    exec (.soundFitComplete a z) s = .next t) ∧
  (∀ (a : At) (n area : Nat) (i : Interim) (p : List Byte) (s t : State), t = s.advance a → t.mb.interims[n]? = some i → i.isDeferred = true →
    i.cls = 2 → i.opcode = 0x20 → (t.snd.zones.get i.target).deferredReq = some p → t.sndWaits i.target p = false → t.sndArea = some area →
    ∃ u, exec (.deferredStart a n) s = .next u ∧ u.snd.zones.get i.target = { state := .pending, area := area, request := p } ∧
      u.mb.interims = t.mb.interims.modify n Interim.begun) ∧
  (∀ (a : At) (n kind : Nat) (i : Interim) (s t : State), t = s.advance a → t.mb.interims[n]? = some i → i.isDeferred = true →
    i.cls = 2 → (i.opcode = 0x30 ∧ kind = Dest.field ∨ i.opcode = 0x31 ∧ kind = Dest.ao ∨ i.opcode = 0x32 ∧ kind = Dest.ago) →
    t.overrideWaits kind i.target = false →
    ∃ u, exec (.deferredStart a n) s = .next u ∧ (u.forceOf kind i.target).isSome = true ∧ i ∉ u.mb.interims) ∧
  (∀ (a : At) (n kind : Nat) (i : Interim) (s t : State), t = s.advance a → t.mb.interims[n]? = some i → i.cls = 2 →
    (i.opcode = 0x30 ∧ kind = Dest.field ∨ i.opcode = 0x31 ∧ kind = Dest.ao ∨ i.opcode = 0x32 ∧ kind = Dest.ago) →
    t.overrideWaits kind i.target = true → exec (.deferredStart a n) s = .next t) ∧
  (∀ (a : At) (n : Nat) (i : Interim) (s t : State), t = s.advance a → t.mb.interims[n]? = some i → i.isDeferred = true → i.cls = 5 →
    (i.opcode = 0x31 → exec (.deferredStart a n) s = .next (t.testDeferred i)) ∧
    (i.opcode = 0x40 → exec (.deferredStart a n) s = .next (t.calDeferred i))) ∧
  (∀ (a : At) (n : Nat) (s t : State), t = s.advance a → (t.mb.interims[n]?).any Interim.isDeferred = false →
    exec (.deferredStart a n) s = .next t)

/-- With WP_ENABLE and WAYPOINT set, the module holding its plant: WP_FORECAST, WP_TARIFF and WP_REPLAN keep the forecast, a tariff and the wish for a new plan; WP_STATUS answers the plan and WP_TRAJECTORY a trajectory, on a standby too, and NOT_READY where there is none. PLAN_START starts a due plan at a turn boundary once occupancy updates of that boundary are made; PLAN_COMPLETE ends it; PLAN_DISCARDED while the planner may not run drops it and asks a new one; PLAN_MODEL_DERIVED derives a wanted plan model with HELM set; PLAN_STALE notes an old trajectory once. OCC_UPDATE runs each enabled estimator (State.occZone) at turn boundaries that are multiples of 64; PLAN_STEP_END moves to the step in progress, with ALMANAC clear or in the same step it changes nothing; HOST_VALUE_SAVE leaves no changed HOST value unsaved at such a boundary. (R99, R170, R172, R174, R178, R179, R180, R181, R184, R186, R190) -/
def Obligations.ForecastOperationsAndPlans : Prop :=
  (∀ (a : At) (r : Req) (s t : State), t = s.advance a → Safety.Asks false 14 392 r t → Safety.Holds t → r.target = 0 → t.cfgN Fid.WP_ENABLE ≠ 0 → t.rdy Rdy.waypoint = true → t.wpStartOk r = true →
    exec (.wpForecast a r) s =
      .next (Safety.answered opWpForecast r .done ([]) t ({ t with forecast := { t.forecast with start := some (fieldAt r.payload 0 6), outdoor := steps96 r.payload 8, solar := steps96 r.payload 200 }, plan.replan := true }))) ∧
  (∀ (a : At) (r : Req) (s t : State), t = s.advance a → Safety.Asks false 14 200 r t → Safety.Holds t → r.target = 0 → t.cfgN Fid.WP_ENABLE ≠ 0 → t.rdy Rdy.waypoint = true → t.wpStartOk r = true →
    exec (.wpTariff a r) s =
      .next (Safety.answered opWpTariff r .done ([]) t ({ t with forecast.tariffs := (fieldAt r.payload 0 6, steps96 r.payload 8) :: t.forecast.tariffs.filter (fun x => decide (t.alm.count.toNat < x.1 + 96 * planStep)), plan.replan := true }))) ∧
  (∀ (a : At) (r : Req) (s t : State), t = s.advance a → Safety.Asks false 14 0 r t → Safety.Holds t → r.target = 0 → t.cfgN Fid.WP_ENABLE ≠ 0 → t.rdy Rdy.waypoint = true →
    exec (.wpReplan a r) s =
      .next (Safety.answered opWpReplan r .done ([]) t ({ t with plan.replan := true }))) ∧
  (∀ (a : At) (r : Req) (s t : State), t = s.advance a → Safety.Asks false 14 0 r t → r.target = 0 → t.cfgN Fid.WP_ENABLE ≠ 0 → wpReadable t r = true →
    exec (.wpStatus a r) s =
      .next (Safety.answered opWpStatus r .done (le 4 t.plan.seq.toNat ++ le 8 t.plan.lastStart.toNat ++ le 8 t.plan.lastPublish.toNat ++ le 4 t.plan.time ++
        le 4 t.plan.cost.toNat ++ le 2 t.plan.planned ++ le 1 t.plan.pubEpoch ++ le 1 0) t (t))) ∧
  (∀ (a : At) (r : Req) (s t : State), t = s.advance a → Safety.Asks false 14 0 r t → t.sigTarget r = true → sigOf r / 16 = 3 → t.cfgN Fid.WP_ENABLE ≠ 0 → wpReadable t r = true → t.present (zoneOf r) = true → (t.wpPlanned (zoneOf r) (sigOf r % 16) && (t.plan.traj.get (zoneOf r * 16 + sigOf r % 16)).present) = true →
    exec (.wpTrajectory a r) s =
      .next (Safety.answered opWpTrajectory r .done (t.trajBytes (zoneOf r) (sigOf r % 16)) t (t))) ∧
  (∀ (a : At) (r : Req) (s t : State), t = s.advance a → Safety.Asks false 14 0 r t → t.sigTarget r = true → sigOf r / 16 = 3 → t.cfgN Fid.WP_ENABLE ≠ 0 → wpReadable t r = true → t.present (zoneOf r) = true → (t.wpPlanned (zoneOf r) (sigOf r % 16) && (t.plan.traj.get (zoneOf r * 16 + sigOf r % 16)).present) = false →
    exec (.wpTrajectory a r) s =
      .next (Safety.answered opWpTrajectory r .notReady ([]) t (t))) ∧
  (∀ (a : At) (c : Nat) (s t : State), t = s.advance a → t.planRuns = true → t.grain = 0 → t.planDue = true → t.plan.running = false →
    t.plan.modelDue = false → t.plan.modelRate ≠ 0 → t.occFirst = false → c = t.alm.count.toNat →
    exec (.planStart a) s = .next { t with plan := { t.plan with running := true, taken := false, replan := false, startStamp := t.now, startTicks := c, start := c / planStep * planStep, epoch := t.alm.epoch.toNat, lastTicks := some c, lastStart := t.now, runModel := t.plan.model } }) ∧
  (∀ (a : At) (us : Nat) (s t : State), t = s.advance a → t.plan.running = true → t.plan.taken = true → t.occFirst = false →
    exec (.planComplete a us) s = .next { t with plan := { t.plan with running := false, readySet := true, readyTime := us } }) ∧
  (∀ (a : At) (s t : State), t = s.advance a → t.planRuns = false →
    ∃ u, exec (.planDiscarded a) s = .next u ∧ u.plan = { t.plan with running := false, readySet := false, replan := true }) ∧
  (∀ (a : At) (us : Nat) (s t : State), t = s.advance a → t.rdy Rdy.helm = true → t.planModelWanted = true →
    ∃ u, exec (.planModelDerived a us) s = .next u ∧ u.plan = { t.plan with model := t.planFloor, modelN := t.planSamples, modelRate := t.pointRate, modelDue := false }) ∧
  (∀ (a : At) (x : Nat × Traj) (s t : State), t = s.advance a → t.rdy Rdy.waypoint = true → t.plan.staleNoted = false →
    x ∈ t.plan.traj → t.olderThan x.2.publish (t.cfgN Fid.WP_MAX_AGE) = true →
    ∃ u, exec (.planStale a) s = .next u ∧ u.plan = { t.plan with staleNoted := true }) ∧
  (∀ (a : At) (s t : State), t = s.advance a → t.rdy Rdy.helm = true → t.rdy Rdy.services = true → t.peerHolds = false →
    t.grain = 0 → t.turn % 64 = 0 → exec (.occUpdate a) s = .next (State.each t.occZones State.occZone t)) ∧
  (∀ (a : At) (s t : State), t = s.advance a → t.rdy Rdy.almanac = true →
    ∃ u, exec (.planStepEnd a) s = .next u ∧ u.plan.lastStep = some (t.alm.count.toNat / planStep)) ∧
  (∀ (a : At) (s t : State), t = s.advance a → (t.rdy Rdy.almanac = false ∨ t.plan.lastStep = some (t.alm.count.toNat / planStep)) →
    exec (.planStepEnd a) s = .next t) ∧
  (∀ (a : At) (s t : State), t = s.advance a → t.rdy Rdy.nvstore = true → t.grain = 0 → t.turn % 64 = 0 →
    ∃ u, exec (.hostValueSave a) s = .next u ∧ ∀ z, z ∈ t.zonesPresent → (u.zio.get z).dirty = false)

/-- With CHART set: CHART_WRITE on an LCD keeps the image and its answer for the next frame start, on e-paper (no blink) it is ACCEPTED and takes the place of an image that waits; CHART_STATUS answers the state. At turn boundaries, outside ECONOMY: EPAPER_UPDATE_START starts a due update on an idle display; EPAPER_FRAME drives the next frame, one a turn, once its ledger page has committed, waits while that page is queued and queues it anew when it failed; EPAPER_UPDATE_END ends the update after the turn of its last frame; COMPENSATION_START starts the compensation of an interrupted update 64 turns after the rails are good, and COMPENSATED asks the redraw. CHART_READBACK at its angle notes mismatches, judges every output in use at the end of a frame, and otherwise changes nothing. (R560, R561, R562, R564, R565, R566, R567, R568, R569, R570) -/
def Obligations.ChartOperationsAndUpdates : Prop :=
  (∀ (a : At) (r : Req) (s t : State), t = s.advance a → Safety.Asks false 25 76 r t → r.target = 0 → t.rdy Rdy.chart = true → fieldAt r.payload 72 1 ≤ 1 → allZero (r.payload.drop 73) = true → t.cfgN Fid.CH_MODE = 1 → (upTo 192).all (fun i => blinkOf ((r.payload.drop 24).take 48) i != 3) = true →
    exec (.chartWrite a r) s = .next (Safety.accepted opChartWrite r t ({ t with chart.next := some { image := r.payload.take 24, blink := (r.payload.drop 24).take 48, full := bitOf (fieldAt r.payload 72 1) 0 }, chart.waiters := t.chart.waiters ++ [Req.waiter r] }))) ∧
  (∀ (a : At) (r : Req) (s t : State), t = s.advance a → Safety.Asks false 25 76 r t → r.target = 0 → t.rdy Rdy.chart = true → fieldAt r.payload 72 1 ≤ 1 → allZero (r.payload.drop 73) = true → t.cfgN Fid.CH_MODE = 2 → allZero ((r.payload.drop 24).take 48) = true → (upTo 192).all (fun i => blinkOf ((r.payload.drop 24).take 48) i != 3) = true →
    ∃ u, exec (.chartWrite a r) s = .next u ∧ Safety.Replied r .accepted [] u ∧
      u.chart.pending = some { image := r.payload.take 24, blink := (r.payload.drop 24).take 48, full := bitOf (fieldAt r.payload 72 1) 0 } ∧ u.chart.pendingAt = t.now) ∧
  (∀ (a : At) (r : Req) (s t : State), t = s.advance a → Safety.Asks false 25 0 r t → r.target = 0 → t.rdy Rdy.chart = true →
    exec (.chartStatus a r) s =
      .next (Safety.answered opChartStatus r .done (le 1 t.chartStateCode ++ le 1 t.chart.useBand ++ le 2 0 ++ le 16 (maskOf ((upTo 97).map t.chart.fault.get)) ++ le 8 t.chart.last.toNat ++
        le 4 t.chart.updates.toNat) t (t))) ∧
  (∀ (a : At) (s t : State), t = s.advance a → t.epaperRuns = true → t.grain = 0 → t.chart.state = .idle → t.chart.interrupted = false →
    t.updateDue = true →
    ∃ u, exec (.epaperUpdateStart a) s = .next u ∧ u.chart.state = .updating ∧ u.chart.frame = 0 ∧
      (t.chart.redraw = false → u.chart.pending = none)) ∧
  (∀ (a : At) (s t : State), t = s.advance a → t.epaperRuns = true → t.grain = 0 → t.chart.state ≠ .idle → t.chart.frame < t.chart.frames →
    t.chart.frameTurn ≠ some t.turn → t.framePaged = true →
    ∃ u, exec (.epaperFrame a) s = .next u ∧ u.chart.frame = t.chart.frame + 1 ∧ u.chart.frameTurn = some t.turn ∧ u.chart.drive = t.nextDrive ∧
      u.chart.balance = t.nextBalance) ∧
  (∀ (a : At) (s t : State), t = s.advance a → t.epaperRuns = true → t.grain = 0 → t.chart.state ≠ .idle → t.chart.frame < t.chart.frames →
    t.chart.frameTurn ≠ some t.turn → t.framePaged = false →
    exec (.epaperFrame a) s = .next (if t.nv.queue.any (fun o => o.prio == 4 && o.page == ledgerBase + (t.chart.ledgerPage + 63) % 64) then t
      else t.framePage)) ∧
  (∀ (a : At) (s t : State), t = s.advance a → t.epaperRuns = true → t.grain = 0 → t.chart.state = .updating → t.chart.frame = t.chart.frames →
    t.chart.frameTurn ≠ some t.turn →
    ∃ u, exec (.epaperUpdateEnd a) s = .next u ∧ u.chart.state = .idle ∧ u.chart.last = t.now ∧ u.chart.updates = t.chart.updates + 1) ∧
  (∀ (a : At) (s t : State), t = s.advance a → t.epaperRuns = true → t.grain = 0 → t.chart.interrupted = true → t.chart.state = .idle →
    64 ≤ t.chart.railTurns →
    ∃ u, exec (.compensationStart a) s = .next u ∧ u.chart.state = .compensating ∧ u.chart.frame = 0 ∧ u.chart.frames = t.chart.worst ∧
      u.chart.interrupted = false) ∧
  (∀ (a : At) (s t : State), t = s.advance a → t.epaperRuns = true → t.grain = 0 → t.chart.state = .compensating →
    t.chart.frame = t.chart.frames → t.chart.frameTurn ≠ some t.turn →
    ∃ u, exec (.compensated a) s = .next u ∧ u.chart.state = .idle ∧ u.chart.redraw = true) ∧
  (∀ (a : At) (levels : List Int) (s t : State), t = s.advance a →
    (t.rdy Rdy.binnacle = false ∨ t.chartOutputs = 0 ∨ t.readbackAngle = false ∨ t.chart.readAt = some t.mer.stamp) →
    exec (.chartReadback a levels) s = .next t) ∧
  (∀ (a : At) (levels : List Int) (s t : State), t = s.advance a → t.rdy Rdy.binnacle = true → t.cfgN Fid.CH_MODE = 1 →
    t.readbackAngle = true → t.chart.readAt ≠ some t.mer.stamp → t.chart.phase ≠ 7 →
    exec (.chartReadback a levels) s = .next { t with chart := { t.chart with readAt := some t.mer.stamp, frameBad := (upTo 52).foldl (fun (u : Tbl Bool) i => if t.chartMismatch i (levels.getD i 0) then u.set i true else u) t.chart.frameBad } }) ∧
  (∀ (a : At) (levels : List Int) (s t : State), t = s.advance a → t.rdy Rdy.binnacle = true →
    (t.cfgN Fid.CH_MODE = 1 ∧ t.chart.phase = 7 ∨ t.cfgN Fid.CH_MODE = 2) → t.readbackAngle = true → t.chart.readAt ≠ some t.mer.stamp →
    ∃ u, exec (.chartReadback a levels) s = .next u ∧ u.chart.frameBad = [] ∧ u.chart.readAt = some t.mer.stamp ∧ u.chart.state = t.chart.state)

/-- With TILLER set: TILLER_READ takes the oldest events and TILLER_STATE answers the masks and positions. A row line that falls starts scanning of an enabled matrix; a scan 1 ms after the one before samples every key (State.scanKeys) and scanning ends after 16 scans without a key; TILLER_SAMPLE, when due, samples the enabled buttons and encoders; a key pressed for TL_STUCK_TIME is masked; TILLER_MASKED_POLL, when due outside scanning, samples the masked keys and a closure of another key in their columns starts scanning, and without masked keys changes nothing. TILLER_INITIAL with SERVICES set raises TILLER; with TILLER clear, row falls, scans and samples change nothing. (R571, R572, R573, R574, R575, R576, R577, R578) -/
def Obligations.TillerOperationsAndScans : Prop :=
  (∀ (a : At) (r : Req) (es : List KeyEvent) (s t : State), t = s.advance a → Safety.Asks false 26 4 r t → r.target = 0 → t.cfgN Fid.TL_ENABLE ≠ 0 → t.rdy Rdy.tiller = true → 1 ≤ fieldAt r.payload 0 1 ∧ fieldAt r.payload 0 1 ≤ 63 → allZero (r.payload.drop 1) = true → es = t.tiller.queue.take (fieldAt r.payload 0 1) →
    exec (.tillerRead a r) s =
      .next (Safety.answered opTillerRead r .done (le 1 es.length ++ le 3 0 ++ le 4 t.tiller.lost.toNat ++ es.flatMap (fun e => le 4 e.code.toNat ++ le 8 e.stamp.toNat)) t ({ t with tiller.queue := t.tiller.queue.drop (fieldAt r.payload 0 1) }))) ∧
  (∀ (a : At) (r : Req) (s t : State), t = s.advance a → Safety.Asks false 26 0 r t → r.target = 0 → t.cfgN Fid.TL_ENABLE ≠ 0 → t.rdy Rdy.tiller = true →
    exec (.tillerState a r) s =
      .next (Safety.answered opTillerState r .done (le 8 (t.keyMask 0 64 (fun x => x.pressed && !x.ghost)) ++ le 8 (t.keyMask 0 64 (fun x => x.masked)) ++
        le 1 (t.keyMask 64 4 (fun x => x.pressed && !x.ghost)) ++ le 1 (t.keyMask 64 4 (fun x => x.masked)) ++ le 2 0 ++ le 4 t.tiller.invalid.toNat ++
        (upTo 4).flatMap (fun n => le 2 (t.tiller.encoders.get n).position.toNat) ++ le 4 0) t (t))) ∧
  (∀ (a : At) (s t : State), t = s.advance a → t.rdy Rdy.tiller = true → t.tlEnabled 0 = true → t.tiller.scanning = false →
    exec (.tillerRowFall a) s = .next { t with tiller := { t.tiller with scanning := true, idleScans := 0, scanAt := t.clock } }) ∧
  (∀ (a : At) (closed : List Nat) (n : Nat) (s t u : State), t = s.advance a → t.rdy Rdy.tiller = true → t.tlEnabled 0 = true →
    t.tiller.scanning = true → t.tiller.scanAt + 1000 ≤ t.clock →
    u = State.scanKeys t.keys closed t.columnStamp { t with tiller.scanAt := t.clock } →
    n = (if u.keys.any (fun k => closed.contains k && !(u.tiller.keys.get k).masked) then 0 else u.tiller.idleScans + 1) →
    exec (.tillerScan a closed) s = .next { u with tiller.idleScans := n % 16, tiller.scanning := decide (n < 16) }) ∧
  (∀ (a : At) (buttons lines : Nat) (s t : State), t = s.advance a → t.rdy Rdy.tiller = true → t.tlDue t.tiller.sampleAt 62 = true →
    ∃ u, exec (.tillerSample a buttons lines) s = .next u ∧
      u = (if t.tlEnabled 2 then State.each (upTo 4) (fun n v => v.encoderSample n (encLines lines n)) else id)
        ((if t.tlEnabled 1 then State.scanKeys [64, 65, 66, 67] (((upTo 4).filter (bitOf buttons)).map (· + 64)) (fun _ => t.now) else id)
          { t with tiller.sampleAt := some t.clock })) ∧
  (∀ (a : At) (buttons lines : Nat) (s t : State), t = s.advance a → t.tlDue t.tiller.sampleAt 62 = false →
    exec (.tillerSample a buttons lines) s = .next t) ∧
  (∀ (a : At) (key : Nat) (x : Key) (s t : State), t = s.advance a → x = t.tiller.keys.get key → t.rdy Rdy.tiller = true → key < 68 →
    x.pressed = true → x.ghost = false → x.masked = false → t.cfgN Fid.TL_STUCK_TIME * 1000000 ≤ t.clock - x.since →
    ∃ u, exec (.stuck a key) s = .next u ∧ u.tiller.keys = t.tiller.keys.upd key (fun y => { y with masked := true })) ∧
  (∀ (a : At) (closed : List Nat) (s t : State), t = s.advance a →
    (t.tiller.scanning = true ∨ (t.keys.filter (fun k => (t.tiller.keys.get k).masked)) = []) →
    exec (.tillerMaskedPoll a closed) s = .next t) ∧
  (∀ (a : At) (closed masked : List Nat) (s t u : State), t = s.advance a → t.rdy Rdy.tiller = true → t.tlEnabled 0 = true →
    t.tiller.scanning = false → masked = t.keys.filter (fun k => (t.tiller.keys.get k).masked) → masked ≠ [] →
    t.tlDue t.tiller.pollAt 50000 = true →
    u = State.scanKeys masked (closed.filter (fun k => (masked.map (· % 8)).contains (k % 8))) (fun _ => t.now) { t with tiller.pollAt := some t.clock } →
    exec (.tillerMaskedPoll a closed) s =
      .next (if t.keys.any (fun k => (masked.map (· % 8)).contains (k % 8) && closed.contains k && !masked.contains k) then u.scanStarts else u)) ∧
  (∀ (a : At) (closed : List Nat) (buttons lines : Nat) (s t : State), t = s.advance a → t.rdy Rdy.services = true →
    t.rdy Rdy.tiller = false →
    ∃ u, exec (.tillerInitial a closed buttons lines) s = .next u ∧ u.rdy Rdy.tiller = true) ∧
  (∀ (a : At) (closed : List Nat) (buttons lines : Nat) (s t : State), t = s.advance a → t.rdy Rdy.tiller = false →
    exec (.tillerRowFall a) s = .next t ∧ exec (.tillerScan a closed) s = .next t ∧
    exec (.tillerSample a buttons lines) s = .next t)

/-- PAIR_STATUS answers role, peer and link; PAIR_HANDOVER on the active with MIRROR is held until its boundary. MIRROR_FRAME_RECEIVED takes a valid frame (State.validFrame) and leaves any other; LANE_CHANGE and PEER_LINE_CHANGE take the lanes (none on the internal RC) and lines. At turn boundaries ELECTION gives the role of State.elected, TAKEOVER makes a standby with signs enough active, DUAL_ACTIVE makes the one that must yield (State.mustYield) standby, HANDOVER_BOUNDARY gives the role away and takes it. YIELDED_CLEAR ends YIELDED after 64 turns without a sign; WITHDRAWAL withdraws a member that must; SYNCHRONISATION_COMPLETE makes a standby with the bulk and a fresh link CURRENT; SHARED_CHANNEL_COMPARISON counts agreement and disagreement; PHASE_ALIGN moves a standby 16 frames apart; ALMANAC_ALIGN writes a count more than 32 768 ticks apart. Where their conditions do not hold, TAKEOVER, DUAL_ACTIVE, YIELDED_CLEAR, WITHDRAWAL and HANDOVER_BOUNDARY change nothing. (R489, R491, R492, R496, R499, R501, R504, R507, R510, R512, R513, R514) -/
def Obligations.PairOperationsAndRoles : Prop :=
  (∀ (a : At) (r : Req) (s t : State), t = s.advance a → Safety.Asks false 27 0 r t → r.target = 0 → t.cfgN Fid.PAIR_ENABLE = 1 →
    exec (.pairStatus a r) s =
      .next (Safety.answered opPairStatus r .done (le 1 t.pair.role.code ++ le 1 t.peerCode ++ le 1 (t.pair.lanesIn % 4 + 4 * (t.pair.lanesOut % 4)) ++ le 1 0 ++ le 4 t.pair.txSeq.toNat ++
        le 4 ((t.pair.peer.map (fun p => p.seq)).getD 0) ++ le 4 (ofSigned 32 t.pair.phase) ++
        le 4 ((t.pair.peer.map (fun p => p.generation)).getD 0) ++ le 4 0 ++ le 8 t.pair.takeover.toNat) t (t))) ∧
  (∀ (a : At) (r : Req) (s t : State), t = s.advance a → Safety.Commands false 27 0 r t → Safety.Holds t → r.target = 0 → t.cfgN Fid.PAIR_ENABLE = 1 → t.rdy Rdy.mirror = true → t.pair.role = .active →
    exec (.pairHandover a r) s = .next (Safety.accepted opPairHandover r t ({ t with pair := { t.pair with handover := some (r.session, r.tag), handoverAt := mkStamp (t.turn + (if t.grain = 0 then 2 else 3)) 0 } }))) ∧
  (∀ (a : At) (f : MirrorFrame) (s t : State), t = s.advance a → t.member = true → t.pair.withdrawn = false → t.mustWithdraw = false →
    t.pair.lanesIn ≠ 0 → t.validFrame f = true →
    ∃ u p, exec (.mirrorFrameReceived a f) s = .next u ∧ u.pair.peer = some p ∧ p.role = f.role ∧ p.seq = f.seq ∧ p.received = t.now ∧
      p.takeover = f.takeover ∧ p.generation = f.generation) ∧
  (∀ (a : At) (f : MirrorFrame) (s t : State), t = s.advance a →
    (t.member = false ∨ t.pair.withdrawn = true ∨ t.mustWithdraw = true ∨ t.pair.lanesIn = 0 ∨ t.validFrame f = false) →
    exec (.mirrorFrameReceived a f) s = .next t) ∧
  (∀ (a : At) (lanesIn lanesOut : Nat) (s t : State), t = s.advance a →
    ∃ u, exec (.laneChange a lanesIn lanesOut) s = .next u ∧
      u.pair = { t.pair with lanesIn := if t.sen.crystal then lanesIn % 4 else 0, lanesOut := if t.sen.crystal then lanesOut % 4 else 0 }) ∧
  (∀ (a : At) (alive active : Bool) (s t : State), t = s.advance a →
    exec (.peerLineChange a alive active) s = .next { t with pair := { t.pair with peerAlive := alive, peerActive := active, peerActiveTurns := if active then t.pair.peerActiveTurns else 0 } }) ∧
  (∀ (a : At) (s t : State), t = s.advance a → t.pair.role = .electing → t.pair.withdrawn = false → t.mustWithdraw = false → t.grain = 0 →
    (t.elected = some .active → ∃ u, exec (.election a) s = .next u ∧ u.pair.role = .active ∧ u.pair.takeover = t.now) ∧
    (t.elected = some .standby → ∃ u, exec (.election a) s = .next u ∧ u.pair.role = .standby) ∧
    (t.elected = none → exec (.election a) s = .next t)) ∧
  (∀ (a : At) (s t : State), t = s.advance a → t.pair.role = .standby → t.pair.withdrawn = false → t.mustWithdraw = false → t.grain = 0 →
    (if t.pair.yielded then 3 else 2) ≤ t.signCount →
    ∃ u, exec (.takeover a) s = .next u ∧ u.pair.role = .active ∧ u.pair.takeover = t.now ∧ u.plan.replan = true) ∧
  (∀ (a : At) (s t : State), t = s.advance a → (t.pair.role ≠ .standby ∨ t.signCount < 2 ∨ t.grain ≠ 0) → exec (.takeover a) s = .next t) ∧
  (∀ (a : At) (link : Bool) (s t : State), t = s.advance a → t.pairActive = true → t.grain = 0 → t.mustYield = some link →
    ∃ u, exec (.dualActive a) s = .next u ∧ u.pair.role = .standby ∧ u.pair.yielded = true) ∧
  (∀ (a : At) (s t : State), t = s.advance a → (t.pairActive = false ∨ t.mustYield = none ∨ t.grain ≠ 0) → exec (.dualActive a) s = .next t) ∧
  (∀ (a : At) (s t : State), t = s.advance a → t.pair.yielded = true → 64 ≤ t.pair.noSignTurns →
    exec (.yieldedClear a) s = .next { t with pair := { t.pair with yielded := false } }) ∧
  (∀ (a : At) (s t : State), t = s.advance a → (t.pair.yielded = false ∨ t.pair.noSignTurns < 64) → exec (.yieldedClear a) s = .next t) ∧
  (∀ (a : At) (s t : State), t = s.advance a → t.member = true → t.pair.withdrawn = false → t.mustWithdraw = true →
    ∃ u, exec (.withdrawal a) s = .next u ∧ u.pair.withdrawn = true ∧ (t.pair.role ≠ .active → u.pair.role = .electing)) ∧
  (∀ (a : At) (s t : State), t = s.advance a → (t.member = false ∨ t.pair.withdrawn = true ∨ t.mustWithdraw = false) →
    exec (.withdrawal a) s = .next t) ∧
  (∀ (a : At) (s t : State), t = s.advance a → t.grain = 0 → t.pair.withdrawn = false → t.pair.role = .active →
    t.pair.handover.isSome = true → t.pair.handoverAt = t.now → t.handoverClear = true →
    ∃ u, exec (.handoverBoundary a) s = .next u ∧ u.pair.role = .standby ∧ u.pair.handover = none) ∧
  (∀ (a : At) (p : PeerHeader) (s t : State), t = s.advance a → t.grain = 0 → t.pair.withdrawn = false → t.pair.role = .standby →
    t.pair.peer = some p → p.role = 1 → bitOf p.flags 1 = true → p.handoverAt ≠ 0 → t.linkFresh = true →
    (t.fromPeer p.handoverAt).toNat < t.now.toNat + halfTurn →
    ∃ u, exec (.handoverBoundary a) s = .next u ∧ u.pair.role = .active ∧ u.pair.takeover = t.now) ∧
  (∀ (a : At) (s t : State), t = s.advance a →
    (t.grain ≠ 0 ∨ t.pair.withdrawn = true ∨ (t.pair.role = .active ∧ (t.pair.handoverAt ≠ t.now ∨ t.handoverClear = false)) ∨
      (t.pair.role = .standby ∧ t.linkFresh = false)) → exec (.handoverBoundary a) s = .next t) ∧
  (∀ (a : At) (s t : State), t = s.advance a → t.pair.role = .standby → t.pair.bulk = true → t.linkFresh = true →
    ∃ u, exec (.synchronisationComplete a) s = .next u ∧ u.pair.current = true ∧ u.pair.role = .standby) ∧
  (∀ (a : At) (n : Nat) (readback activeAgrees : Bool) (s t : State), t = s.advance a → t.pair.role = .standby → t.pair.current = true →
    n < 32 → t.shared n = true → t.chIsOut n = true → t.fld.windows.contains n = false → readback = (t.fld.owns.get n).peerLevel →
    ∃ u, exec (.sharedChannelComparison a n readback activeAgrees true) s = .next u ∧
      (u.fld.owns.get n).agreeRun = (t.fld.owns.get n).agreeRun + 1 ∧ (u.fld.owns.get n).disagreeRun = 0) ∧
  (∀ (a : At) (n : Nat) (readback activeAgrees : Bool) (s t : State), t = s.advance a → t.pair.role = .standby → t.pair.current = true →
    n < 32 → t.shared n = true → t.chIsOut n = true → t.fld.windows.contains n = false → readback ≠ (t.fld.owns.get n).peerLevel →
    ∃ u, exec (.sharedChannelComparison a n readback activeAgrees true) s = .next u ∧ (u.fld.owns.get n).agreeRun = 0 ∧
      (u.fld.owns.get n).disagreeRun = if activeAgrees then (t.fld.owns.get n).disagreeRun + 1 else 0) ∧
  (∀ (a : At) (s t : State), t = s.advance a → t.pair.role = .standby → t.cfgN Fid.PAIR_PHASE_ALIGN = 1 → t.rdy Rdy.lock = true →
    16 ≤ t.pair.phiRun →
    ∃ u, exec (.phaseAlign a) s = .next u ∧ u.pair.phiRun = 0 ∧ u.mer.stamp = t.mer.stamp) ∧
  (∀ (a : At) (ticks : Nat) (s t : State), t = s.advance a → t.pair.role = .standby → t.rdy Rdy.almanac = true → t.linkFresh = true →
    32768 < (((ticks % 2 ^ 48 : Nat) : Int) - t.alm.count.toNat).natAbs → t.alm.writes = [] →
    exec (.almanacAlign a ticks) s = .next { t with alm := t.alm.enqueue { value := ticks % 2 ^ 48 } })

/-- A write to REQ_PROD is ignored, and PROTOCOL is set, when it would move more than 256 past REQ_CONS or past its old value; a write to RSP_CONS or EVT_CONS when it would move that index past its producer; every other such write takes the value. The window answers while BINNACLE is set. HOST_IRQ_N is low exactly while IRQ_STATUS AND IRQ_ENABLE is not 0. (R379) -/
def Obligations.IndexWrites : Prop :=
  (∀ (a : At) (value : Nat) (s t : State), t = s.advance a → t.rdy Rdy.binnacle = true →
    (256 < (BitVec.ofNat 16 value - t.mb.reqCons).toNat ∨ 256 < (BitVec.ofNat 16 value - t.mb.reqProd).toNat) →
    ∃ u, exec (.reqProdWrite a value) s = .next u ∧ u.mb = { t.mb with irqStatus := t.mb.irqStatus ||| 16#32 }) ∧
  (∀ (a : At) (value : Nat) (s t : State), t = s.advance a → t.rdy Rdy.binnacle = true →
    (BitVec.ofNat 16 value - t.mb.reqCons).toNat ≤ 256 → (BitVec.ofNat 16 value - t.mb.reqProd).toNat ≤ 256 →
    exec (.reqProdWrite a value) s = .next { t with mb.reqProd := BitVec.ofNat 16 value }) ∧
  (∀ (a : At) (value : Nat) (s t : State), t = s.advance a → t.rdy Rdy.binnacle = true →
    (t.mb.rspProd - t.mb.rspCons).toNat < (BitVec.ofNat 16 value - t.mb.rspCons).toNat →
    ∃ u, exec (.rspConsWrite a value) s = .next u ∧ u.mb = { t.mb with irqStatus := t.mb.irqStatus ||| 16#32 }) ∧
  (∀ (a : At) (value : Nat) (s t : State), t = s.advance a → t.rdy Rdy.binnacle = true →
    (BitVec.ofNat 16 value - t.mb.rspCons).toNat ≤ (t.mb.rspProd - t.mb.rspCons).toNat →
    exec (.rspConsWrite a value) s = .next { t with mb.rspCons := BitVec.ofNat 16 value }) ∧
  (∀ (a : At) (value : Nat) (s t : State), t = s.advance a → t.rdy Rdy.binnacle = true →
    (t.mb.evtProd - t.mb.evtCons).toNat < (BitVec.ofNat 16 value - t.mb.evtCons).toNat →
    ∃ u, exec (.evtConsWrite a value) s = .next u ∧ u.mb = { t.mb with irqStatus := t.mb.irqStatus ||| 16#32 }) ∧
  (∀ (a : At) (value : Nat) (s t : State), t = s.advance a → t.rdy Rdy.binnacle = true →
    (BitVec.ofNat 16 value - t.mb.evtCons).toNat ≤ (t.mb.evtProd - t.mb.evtCons).toNat →
    exec (.evtConsWrite a value) s = .next { t with mb.evtCons := BitVec.ofNat 16 value }) ∧
  (∀ s : State, s.hostIrqLow = true ↔ s.mb.irqStatus &&& s.mb.irqEnable ≠ 0)

/-- While BINNACLE is set: IRQ_STATUS_WRITE clears the bits written as 1; EVT_LOST_READ clears the count; FB_DOORBELL_GO runs the message of the request buffer, and changes nothing while BUSY or without GO; REGISTER_WRITE to registers writes each whole word (State.writeRegister), to request slots and the fallback request buffer stores the bytes up to the end of the region, elsewhere changes nothing; UART_MESSAGE offers a message to the server while fewer than 4 are held and discards a fifth; what is no message, and a UART_BYTE_GAP, is discarded and counted. While BINNACLE is clear these commands change nothing. A REGISTER_WRITE of an Almanac domain register of 4 bytes is the write of that register in any state; one of another length changes nothing. (R371, R372, R374, R393, R394, R555) -/
def Obligations.WindowAndFallback : Prop :=
  (∀ (a : At) (value : Nat) (s t : State), t = s.advance a → t.rdy Rdy.binnacle = true →
    exec (.irqStatusWrite a value) s = .next { t with mb.irqStatus := t.mb.irqStatus &&& ~~~(BitVec.ofNat 32 value) }) ∧
  (∀ (a : At) (s t : State), t = s.advance a → t.rdy Rdy.binnacle = true →
    exec (.evtLostRead a) s = .next { t with mb.evtLost := 0 }) ∧
  (∀ (a : At) (value : Nat) (s t : State), t = s.advance a → t.rdy Rdy.binnacle = true → bitOf value 0 = true → t.mb.fbBusy = false →
    exec (.fbDoorbellGo a value) s = .next (State.deliver 2 (t.slotUnread 0x310000 (t.messageLength 0x310000)) (t.mb.mem.readBytes 0x310000 4096)
      { t with mb := { t.mb with fbBusy := true, fbDone := false } })) ∧
  (∀ (a : At) (value : Nat) (s t : State), t = s.advance a → (t.mb.fbBusy = true ∨ bitOf value 0 = false) →
    exec (.fbDoorbellGo a value) s = .next t) ∧
  (∀ (a : At) (b0 b1 b2 b3 : Byte) (s t : State), t = s.advance a → t.rdy Rdy.binnacle = true →
    exec (.registerWrite a false 0x034 [b0, b1, b2, b3]) s =
      .next { t with mb.irqEnable := BitVec.ofNat 32 (leNat [b0, b1, b2, b3]) &&& 0xFF }) ∧
  (∀ (a : At) (addr : Nat) (bytes : List Byte) (s t : State), t = s.advance a → t.rdy Rdy.binnacle = true → addr < 0x1000 →
    exec (.registerWrite a false addr bytes) s =
      .next (State.each (wholeWords addr (bytes.take (0x1000 - addr))) (fun w v => v.writeRegister w.1 w.2) t)) ∧
  (∀ (a : At) (addr : Nat) (bytes : List Byte) (s t : State), t = s.advance a → t.rdy Rdy.binnacle = true →
    (0x100000 ≤ addr ∧ addr < 0x200000 ∨ 0x310000 ≤ addr ∧ addr < 0x311000) →
    ∃ u, exec (.registerWrite a false addr bytes) s = .next u ∧
      u.mb.mem = t.mb.mem.writeBytes addr (bytes.take ((if addr < 0x200000 then 0x200000 else 0x311000) - addr)) ∧ u.mb.reqProd = t.mb.reqProd) ∧
  (∀ (a : At) (addr : Nat) (bytes : List Byte) (s t : State), t = s.advance a → 0x1000 ≤ addr → hostWritable addr = false →
    exec (.registerWrite a false addr bytes) s = .next t) ∧
  (∀ (a : At) (addr : Nat) (bytes : List Byte) (s t : State), t = s.advance a → bytes.length = 4 →
    exec (.registerWrite a true addr bytes) s = .next { t with alm := t.alm.writeReg addr (leNat bytes) }) ∧
  (∀ (a : At) (addr : Nat) (bytes : List Byte) (s t : State), t = s.advance a → bytes.length ≠ 4 →
    exec (.registerWrite a true addr bytes) s = .next t) ∧
  (∀ (a : At) (bytes : List Byte) (s t : State), t = s.advance a → t.rdy Rdy.binnacle = true → isMessage bytes = false →
    exec (.uartMessage a bytes) s = .next { t with tr.uartDiscarded := t.tr.uartDiscarded + 1 }) ∧
  (∀ (a : At) (bytes : List Byte) (s t : State), t = s.advance a → t.rdy Rdy.binnacle = true → isMessage bytes = true →
    t.uartHeld < 4 → exec (.uartMessage a bytes) s = .next (t.offer 3 bytes)) ∧
  (∀ (a : At) (bytes : List Byte) (s t : State), t = s.advance a → isMessage bytes = true → 4 ≤ t.uartHeld →
    exec (.uartMessage a bytes) s = .next t) ∧
  (∀ (a : At) (s t : State), t = s.advance a → t.rdy Rdy.binnacle = true →
    exec (.uartByteGap a) s = .next { t with tr.uartDiscarded := t.tr.uartDiscarded + 1 }) ∧
  (∀ (a : At) (value addr : Nat) (bytes : List Byte) (s t : State), t = s.advance a → t.rdy Rdy.binnacle = false →
    exec (.irqStatusWrite a value) s = .next t ∧ exec (.evtLostRead a) s = .next t ∧ exec (.fbDoorbellGo a value) s = .next t ∧
    exec (.registerWrite a false addr bytes) s = .next t ∧ exec (.uartMessage a bytes) s = .next t ∧ exec (.uartByteGap a) s = .next t ∧
    exec (.reqProdWrite a value) s = .next t ∧ exec (.rspConsWrite a value) s = .next t ∧ exec (.evtConsWrite a value) s = .next t)

/-- REQUEST_ACCEPT delivers the request at REQ_CONS to the server and advances REQ_CONS by 1 (a full ring then has room, and says so); with an empty ring, a server that does not serve or a BARRIER it changes nothing. RESPONSE_POST posts the next response of a session that may post, takes what a BARRIER held, and ends a UDP session whose response ends it; of the QSPI session it is written into its slot, RSP_PROD advances by 1 and its tag leaves flight; while the session may not post, with 256 responses in the ring, or with none to post it changes nothing. UDP_DATAGRAM while the server listens: with SESSION 0 it is answered outside a session (State.udpOutside), with an unknown session refused and counted, of a session taken by State.udpInside, and one that is authentic, new and has room is offered to the server; while it does not listen nothing changes. UDP_SESSION_IDLE ends a session idle for SEC_UDP_IDLE; AUTH_FAILED records what was refused at most once per 64 turns. (R380, R382, R385, R390, R391, R392, R412) -/
def Obligations.RequestsAndResponses : Prop :=
  (∀ (a : At) (s t : State), t = s.advance a → t.serves 1 = true → t.barred 1 = false → 0 < t.requests →
    ∃ m, m = 0x100000 + t.mb.reqCons.toNat % 256 * 4096 ∧
      exec (.requestAccept a) s = .next (State.deliver 1 (t.slotUnread m (t.messageLength m)) (t.mb.mem.readBytes m 4096)
        (State.when (t.requests == 256) (State.irq Irq.reqSpace) { t with mb.reqCons := t.mb.reqCons + 1 }))) ∧
  (∀ (a : At) (s t : State), t = s.advance a → (t.serves 1 = false ∨ t.barred 1 = true ∨ t.requests = 0) →
    exec (.requestAccept a) s = .next t) ∧
  (∀ (a : At) (f : Flight) (x : Resp) (s t : State), t = s.advance a → t.serves 1 = true → (t.mb.rspProd - t.mb.rspCons).toNat < 256 →
    t.nextPost 1 = some f → f.resp = some x → f.session = 1 → t.mb.waiting = [] →
    ∃ u, exec (.responsePost a 1) s = .next u ∧ u.mb.rspProd = t.mb.rspProd + 1 ∧
      u.mb.mem = t.mb.mem.writeBytes (0x200000 + t.mb.rspProd.toNat % 256 * 4096) (f.bytes x) ∧
      (∀ g, g ∈ u.mb.flights → g.order ≠ f.order)) ∧
  (∀ (a : At) (n : Nat) (f : Flight) (s t : State), t = s.advance a → t.canPost n = true → t.nextPost n = some f →
    exec (.responsePost a n) s = .next (if f.endsUdp then (t.postNext n).closeUdp n else t.postNext n).offerWaiting) ∧
  (∀ (a : At) (n : Nat) (s t : State), t = s.advance a → (t.canPost n = false ∨ t.nextPost n = none) → exec (.responsePost a n) s = .next t) ∧
  (∀ (a : At) (s t : State), t = s.advance a → 256 ≤ (t.mb.rspProd - t.mb.rspCons).toNat → exec (.responsePost a 1) s = .next t) ∧
  (∀ (a : At) (ip port : Nat) (bytes : List Byte) (s t : State), t = s.advance a → t.udpListens = false →
    exec (.udpDatagram a ip port bytes) s = .next t) ∧
  (∀ (a : At) (ip port : Nat) (bytes : List Byte) (s t : State), t = s.advance a → t.udpListens = true → fieldAt bytes 0 4 = 0 →
    exec (.udpDatagram a ip port bytes) s = .next (t.udpOutside ip port (bytes.drop 4))) ∧
  (∀ (a : At) (ip port : Nat) (bytes : List Byte) (s t : State), t = s.advance a → t.udpListens = true → fieldAt bytes 0 4 ≠ 0 →
    t.udpSession (fieldAt bytes 0 4) = none →
    exec (.udpDatagram a ip port bytes) s = .next { t with tr := { t.tr with authRefused := t.tr.authRefused + 1, authLastIp := ip } }) ∧
  (∀ (a : At) (ip port : Nat) (bytes : List Byte) (v : UdpSession) (s t : State), t = s.advance a → t.udpListens = true →
    fieldAt bytes 0 4 ≠ 0 → t.udpSession (fieldAt bytes 0 4) = some v →
    exec (.udpDatagram a ip port bytes) s = .next (t.udpInside v ip port bytes)) ∧
  (∀ (a : At) (ip port : Nat) (bytes : List Byte) (v : UdpSession) (s t : State), t = s.advance a → t.udpListens = true →
    fieldAt bytes 0 4 ≠ 0 → t.udpSession (fieldAt bytes 0 4) = some v → v.macGood bytes = true →
    v.seqNew (fieldAt ((bytes.drop 4).take (32 + fieldAt bytes 12 2)) 12 4) = true → t.udpHeld < 256 →
    exec (.udpDatagram a ip port bytes) s = .next (State.offer v.id ((bytes.drop 4).take (32 + fieldAt bytes 12 2))
      { t with tr.udp := (t.tr.udp.map (fun x => if x.id == v.id then
        v.accept (fieldAt ((bytes.drop 4).take (32 + fieldAt bytes 12 2)) 12 4) ip port t.clock else x)) })) ∧
  (∀ (a : At) (session : Nat) (v : UdpSession) (s t : State), t = s.advance a → t.udpSession session = some v →
    v.lastUs + t.cfgN Fid.SEC_UDP_IDLE * 1000000 ≤ t.clock →
    exec (.udpSessionIdle a session) s = .next (t.closeUdp session).offerWaiting ∧ (t.closeUdp session).udpSession session = none ∧
      (∀ f, f ∈ (t.closeUdp session).mb.flights → f.session ≠ session)) ∧
  (∀ (a : At) (s t : State), t = s.advance a → t.tr.authRefused ≠ 0 → t.tr.authLastTurn.any (fun n => decide (t.turn < n + 64)) = false →
    ∃ u, exec (.authFailed a) s = .next u ∧ u.tr = { t.tr with authRefused := 0, authLastTurn := some t.turn } ∧ u.mb = t.mb) ∧
  (∀ (a : At) (s t : State), t = s.advance a → (t.tr.authRefused = 0 ∨ t.tr.authLastTurn.any (fun n => decide (t.turn < n + 64)) = true) →
    exec (.authFailed a) s = .next t)

/-- For every width N of 1 or more and all values a and b below 2^N: a is newer than b exactly when (a − b) mod 2^N is not 0 and less than 2^(N−1); two values that differ by exactly 2^(N−1) are newer in neither direction. (R16) -/
def Obligations.SerialArithmetic : Prop :=
  (∀ n a b : Nat, 1 ≤ n → a < 2 ^ n → b < 2 ^ n →
    (newer n a b = true ↔ ((a : Int) - b) % 2 ^ n ≠ 0 ∧ ((a : Int) - b) % 2 ^ n < 2 ^ (n - 1))) ∧
  (∀ n a b : Nat, 1 ≤ n → a < 2 ^ n → b < 2 ^ n → ((a : Int) - b) % 2 ^ n = 2 ^ (n - 1) →
    newer n a b = false ∧ newer n b a = false)

/-- For every state and session, the response that posts next belongs to the session and is complete; no request of the session with the same FUNCTION and TARGET was accepted before it and still waits; and no complete response that may post was completed before it. (R384, R382) -/
def Obligations.PostingOrder : Prop :=
  ∀ (s : State) (n : Nat) (f : Flight), s.nextPost n = some f →
    f ∈ s.mb.flights ∧ f.session = n ∧ f.resp.isSome = true ∧
    (∀ g, g ∈ s.mb.flights → g.session = n → g.fn = f.fn → g.target = f.target → f.order ≤ g.order) ∧
    (∀ g, g ∈ s.mb.flights → g.session = n → g.resp.isSome = true →
      (∀ h, h ∈ s.mb.flights → h.session = n → h.fn = g.fn → h.target = g.target → g.order ≤ h.order) →
      f.completed ≤ g.completed)

/-- For every request message laid out as the mailbox lays messages out, with every field in its range, its header is good, its CRC is good, and the request read from it has the tag, sequence, target, function and payload it was written with; so does the class and opcode by which its operation is found. (R375, R377) -/
def Obligations.MessagesReadBack : Prop :=
  ∀ (session tag cls opcode fn seq target : Nat) (stamp : Stamp) (payload rest : List Byte),
    tag < 2 ^ 8 → cls < 2 ^ 8 → opcode < 2 ^ 16 → fn < 2 ^ 8 → seq < 2 ^ 32 → target < 2 ^ 32 → payload.length < 2 ^ 16 →
    let bs := message 0 tag cls opcode 0 fn seq target stamp payload ++ rest
    headerGood session bs = true ∧ crcGood bs = true ∧ fieldAt bs 5 1 = cls ∧ fieldAt bs 6 2 = opcode ∧
      requestOf session bs = { session := session, tag := tag, seq := seq, target := target, fn := fn, payload := payload }

/-- Whether it executes or is rejected, each of the 27 operations that only read leaves everything but the list of flights and its two counters as the passing of time leaves it: the zones, the banks, the MRAM, the outputs, the rings and the event queue among them. Of LOG_READ this is said while no word of the MRAM is known to be uncorrectable, since it records what it finds so. (R400, R401, R404, R406, R407, R409) -/
def Obligations.ReadsChangeOnlyTheirFlight : Prop :=
  ∀ (c : Instr) (a : At) (r : Req) (s u : State),
    (c = .zoneStatus a r ∨ c = .signalRead a r ∨ c = .occRead a r ∨ c = .helmRead a r ∨ c = .i2cRead a r ∨ c = .fcEdgeRead a r ∨ c = .partnerList a r ∨
     c = .wpStatus a r ∨ c = .wpTrajectory a r ∨ c = .svcReadProperty a r ∨ c = .svcTimeRead a r ∨
     c = .identify a r ∨ c = .secInfo a r ∨ c = .logRead a r ∧ s.nv.badWords = [] ∨ c = .concordRead a r ∨ c = .backupRead a r ∨ c = .updateStatus a r ∨
     c = .sensorRead a r ∨ c = .policyRead a r ∨ c = .pairStatus a r ∨ c = .eventRead a r ∨ c = .eventStatus a r ∨ c = .soundStatus a r ∨ c = .soundCapture a r ∨
     c = .soundResult a r ∨ c = .tillerState a r ∨ c = .chartStatus a r) →
    exec c s = .next u →
    u = { s.advance a with mb := { (s.advance a).mb with orders := u.mb.orders, completions := u.mb.completions, flights := u.mb.flights } }

/-- From every state whose MRAM, mailbox memory and BACKUP are in canonical form (addresses strictly rising, no byte listed that an unlisted address would read the same), every command leads to a state in which they are. State.reset has them so. (95_what_each_step_holds.md) -/
def Obligations.MemoriesStayCanonical : Prop :=
  (State.reset.nv.mem.wf ∧ State.reset.mb.mem.wf ∧ State.reset.alm.backup.wf) ∧
  ∀ (c : Instr) (s t : State), exec c s = .next t → s.nv.mem.wf → s.mb.mem.wf → s.alm.backup.wf →
    t.nv.mem.wf ∧ t.mb.mem.wf ∧ t.alm.backup.wf

/-- In every update of the READY word, whatever bits it sets and clears: a bit that rises is one the update sets, and every function it requires is ready in the new word; a bit that stays set has lost none of the functions it requires; a bit the update clears is clear; and an update that changes nothing leaves the whole state as it is. (R33, R534) -/
def Obligations.ReadyUpdates : Prop :=
  ∀ (s : State) (sets clears : List Nat) (n : Nat),
    (readyBit (s.updateReady sets clears).ready n = true → readyBit s.ready n = false →
      n ∈ sets ∧ ∀ r, r ∈ requires n → readyBit (s.updateReady sets clears).ready r = true) ∧
    (readyBit (s.updateReady sets clears).ready n = true → readyBit s.ready n = true →
      ∀ r, r ∈ requires n → readyBit s.ready r = true → readyBit (s.updateReady sets clears).ready r = true) ∧
    (n ∈ clears → readyBit (s.updateReady sets clears).ready n = false) ∧
    ((s.updateReady sets clears).ready = s.ready → s.updateReady sets clears = s)
end

