-- ==== Sys2Proof/Laws/Flags.lean ====
section
/-! SUPPORT. Laws/Flags.lean: the bits of the READY word and what an update of it does (R18, R33, R534). -/

namespace Sys2Proof.Machine

@[simp] theorem readyBit_zero (n : Nat) : readyBit 0#32 n = false := by simp [readyBit]

theorem readyBit_or (a b : Word32) (n : Nat) : readyBit (a ||| b) n = (readyBit a n || readyBit b n) := by simp [readyBit]

theorem readyBit_and (a b : Word32) (n : Nat) : readyBit (a &&& b) n = (readyBit a n && readyBit b n) := by simp [readyBit]

/-- Setting bit `b` sets that bit alone. -/
theorem readyBit_set (w : Word32) (b n : Nat) :
    readyBit (w ||| (1#32 <<< b)) n = (readyBit w n || (decide (n = b) && decide (n < 32))) := by
  simp only [readyBit, BitVec.getLsbD_or, BitVec.getLsbD_shiftLeft, BitVec.getLsbD_one]
  congr 1
  by_cases h : n = b <;> by_cases h2 : n < 32 <;> by_cases h3 : n < b <;> simp [h, h2, h3] <;> omega

/-- The bits of a mask. -/
theorem readyBit_bitMask (bs : List Nat) (n : Nat) : readyBit (bitMask bs) n = (bs.contains n && decide (n < 32)) := by
  induction bs with
  | nil => simp [bitMask]
  | cons b bs ih =>
    have : bitMask (b :: bs) = bitMask bs ||| (1#32 <<< b) := by simp [bitMask, BitVec.or_comm]
    rw [this, readyBit_set, ih]
    by_cases h : n = b <;> by_cases h2 : n < 32 <;> simp [h, h2] <;> try (subst h; simp [h2])

/-- Whether a function stands after an update, by the word that holds what was decided before it. -/
def readyRule (old : Word32) (sets clears : List Nat) (w : Word32) (b : Nat) : Bool :=
  if clears.contains b then false
  else if readyBit old b then (requires b).all (fun r => readyBit w r || !readyBit old r)
  else sets.contains b && (requires b).all (fun r => readyBit w r)

theorem readyStep_eq (old : Word32) (sets clears : List Nat) (w : Word32) (b : Nat) :
    readyStep old sets clears w b = if readyRule old sets clears w b then w ||| (1#32 <<< b) else w := rfl

theorem readyStep_bit (old : Word32) (sets clears : List Nat) (w : Word32) (b n : Nat) (h : n ≠ b) :
    readyBit (readyStep old sets clears w b) n = readyBit w n := by
  rw [readyStep_eq]; split
  · rw [readyBit_set]; simp [h]
  · rfl

theorem readyFold_bit (old : Word32) (sets clears xs : List Nat) (w : Word32) (n : Nat) (h : n ∉ xs) :
    readyBit (xs.foldl (readyStep old sets clears) w) n = readyBit w n := by
  induction xs generalizing w with
  | nil => rfl
  | cons b xs ih =>
    simp only [List.mem_cons, not_or] at h
    rw [List.foldl_cons, ih _ h.2, readyStep_bit _ _ _ _ _ _ h.1]

theorem readyRule_congr (old : Word32) (sets clears : List Nat) (w v : Word32) (b : Nat)
    (h : ∀ r, r ∈ requires b → readyBit w r = readyBit v r) : readyRule old sets clears w b = readyRule old sets clears v b := by
  unfold readyRule
  have e1 : (requires b).all (fun r => readyBit w r || !readyBit old r) = (requires b).all (fun r => readyBit v r || !readyBit old r) := by
    rw [Bool.eq_iff_iff]; simp only [List.all_eq_true]
    exact forall₂_congr (fun r hr => by rw [h r hr])
  have e2 : (requires b).all (fun r => readyBit w r) = (requires b).all (fun r => readyBit v r) := by
    rw [Bool.eq_iff_iff]; simp only [List.all_eq_true]
    exact forall₂_congr (fun r hr => by rw [h r hr])
  rw [e1, e2]

/-- Every function stands in the order of the update after those it requires, once. -/
theorem readyOrder_split : ∀ n, n < 29 →
    readyOrder = readyOrder.takeWhile (· != n) ++ n :: (readyOrder.dropWhile (· != n)).tail ∧
    n ∉ readyOrder.takeWhile (· != n) ∧ n ∉ (readyOrder.dropWhile (· != n)).tail ∧
    ∀ r, r ∈ requires n → r ≠ n ∧ r ∉ (readyOrder.dropWhile (· != n)).tail := by
  decide

/-- R33 in one line: a function stands after an update exactly when the rule holds of the new word. -/
theorem readyNext_bit (old : Word32) (sets clears : List Nat) (n : Nat) (hn : n < 29) :
    readyBit (readyNext old sets clears) n = readyRule old sets clears (readyNext old sets clears) n := by
  obtain ⟨he, h0, h1, h2⟩ := readyOrder_split n hn
  generalize hp : readyOrder.takeWhile (· != n) = pre at he h0
  generalize hq : (readyOrder.dropWhile (· != n)).tail = post at he h1 h2
  have hw : readyNext old sets clears = post.foldl (readyStep old sets clears)
      (readyStep old sets clears (pre.foldl (readyStep old sets clears) 0) n) := by
    unfold readyNext; rw [he, List.foldl_append, List.foldl_cons]
  have hpre : readyBit (pre.foldl (readyStep old sets clears) 0) n = false := by
    rw [readyFold_bit _ _ _ _ _ _ h0]; simp
  have hl : readyBit (readyNext old sets clears) n = readyRule old sets clears (pre.foldl (readyStep old sets clears) 0) n := by
    rw [hw, readyFold_bit _ _ _ _ _ _ h1, readyStep_eq]
    split
    · rename_i h; rw [readyBit_set, h]; simp; omega
    · rename_i h; rw [hpre]; simpa using h
  rw [hl]
  apply readyRule_congr
  intro r hr
  obtain ⟨a, b⟩ := h2 r hr
  rw [hw, readyFold_bit _ _ _ _ _ _ b, readyStep_bit _ _ _ _ _ _ a]

/-- Bits 29 to 31 read 0 (R18). -/
theorem readyNext_reserved (old : Word32) (sets clears : List Nat) (n : Nat) (hn : 29 ≤ n) :
    readyBit (readyNext old sets clears) n = false := by
  have h : n ∉ readyOrder := by
    intro h
    have : ∀ x, x ∈ readyOrder → x < 29 := by decide
    have := this n h; omega
  unfold readyNext; rw [readyFold_bit _ _ _ _ _ _ h]; simp

/-- A bit that the update clears is clear. -/
theorem readyNext_clears (old : Word32) (sets clears : List Nat) (n : Nat) (h : n ∈ clears) :
    readyBit (readyNext old sets clears) n = false := by
  by_cases hn : n < 29
  · rw [readyNext_bit _ _ _ _ hn]; simp [readyRule, h]
  · exact readyNext_reserved _ _ _ _ (by omega)

/-- A bit that rises is one the update sets, and everything it requires is ready. -/
theorem readyNext_rises (old : Word32) (sets clears : List Nat) (n : Nat) (h : readyBit (readyNext old sets clears) n = true)
    (h0 : readyBit old n = false) : n ∈ sets ∧ ∀ r, r ∈ requires n → readyBit (readyNext old sets clears) r = true := by
  by_cases hn : n < 29
  · rw [readyNext_bit _ _ _ _ hn] at h
    unfold readyRule at h
    split at h
    · simp at h
    · simp only [h0, Bool.false_eq_true, if_false, Bool.and_eq_true, List.contains_iff_mem, List.all_eq_true] at h
      exact ⟨by simpa using h.1, h.2⟩
  · rw [readyNext_reserved _ _ _ _ (by omega)] at h; simp at h

/-- BINNACLE requires nothing: it rises with any update that sets it and does not clear it. -/
theorem readyNext_binnacle (old : Word32) (sets clears : List Nat) (h : 0 ∈ sets) (hc : 0 ∉ clears) :
    readyBit (readyNext old sets clears) 0 = true := by
  rw [readyNext_bit _ _ _ _ (by omega)]
  simp [readyRule, requires, h, hc]

end Sys2Proof.Machine
end

