-- ==== Sys2Proof/Laws/Table.lean ====
section
/-! SUPPORT. Laws/Table.lean: what the operations of sparse tables do: a read after a write, and the canonical form. -/

namespace Sys2Proof

variable {α : Type}

@[simp] theorem Tbl.get_nil [Inhabited α] (k : Nat) : Tbl.get ([] : Tbl α) k = default := rfl

theorem Tbl.get_erase [Inhabited α] (t : Tbl α) (k j : Nat) : (t.erase k).get j = if j = k then default else t.get j := by
  induction t with
  | nil => simp [Tbl.erase]
  | cons p t ih =>
    obtain ⟨i, w⟩ := p
    simp only [Tbl.erase, Tbl.get]
    split
    · rw [ih]; split <;> simp_all [eq_comm]
    · simp only [Tbl.get, ih]; split <;> simp_all

theorem Tbl.get_put [Inhabited α] (t : Tbl α) (k j : Nat) (v : α) : (t.put k v).get j = if j = k then v else t.get j := by
  by_cases hj : j = k
  · subst hj
    simp only [if_true]
    induction t with
    | nil => simp [Tbl.put, Tbl.get]
    | cons p t ih =>
      obtain ⟨i, w⟩ := p
      simp only [Tbl.put]
      split
      · simp [Tbl.get]
      · split
        · simp [Tbl.get]
        · rename_i h; simp only [Tbl.get, if_neg (Ne.symm h), ih]
  · rw [if_neg hj]
    induction t with
    | nil => simp [Tbl.put, Tbl.get, Ne.symm hj]
    | cons p t ih =>
      obtain ⟨i, w⟩ := p
      simp only [Tbl.put]
      split
      · simp [Tbl.get, Ne.symm hj]
      · split
        · rename_i h; simp [Tbl.get, Ne.symm hj, ← h]
        · simp only [Tbl.get, ih]

/-- A read after a write gives the value written, and every other key reads as before. -/
theorem Tbl.get_set [Inhabited α] [DecidableEq α] (t : Tbl α) (k j : Nat) (v : α) :
    (t.set k v).get j = if j = k then v else t.get j := by
  unfold Tbl.set
  split
  · rename_i h; rw [Tbl.get_erase, h]
  · exact Tbl.get_put t k j v

@[simp] theorem Tbl.get_set_same [Inhabited α] [DecidableEq α] (t : Tbl α) (k : Nat) (v : α) : (t.set k v).get k = v := by
  simp [Tbl.get_set]

theorem Tbl.get_set_other [Inhabited α] [DecidableEq α] (t : Tbl α) (k j : Nat) (v : α) (h : j ≠ k) :
    (t.set k v).get j = t.get j := by
  simp [Tbl.get_set, h]

@[simp] theorem Tbl.get_upd_same [Inhabited α] [DecidableEq α] (t : Tbl α) (k : Nat) (f : α → α) :
    (t.upd k f).get k = f (t.get k) := by
  simp [Tbl.upd]

theorem Tbl.get_upd_other [Inhabited α] [DecidableEq α] (t : Tbl α) (k j : Nat) (f : α → α) (h : j ≠ k) :
    (t.upd k f).get j = t.get j := by
  simp [Tbl.upd, Tbl.get_set, h]

theorem Tbl.wfFrom_mono [Inhabited α] [DecidableEq α] {lo hi : Nat} (t : Tbl α) (h : lo ≤ hi) (w : Tbl.wfFrom hi t = true) :
    Tbl.wfFrom lo t = true := by
  cases t with
  | nil => rfl
  | cons p t =>
    obtain ⟨i, v⟩ := p
    simp only [Tbl.wfFrom, Bool.and_eq_true, decide_eq_true_eq] at w ⊢
    exact ⟨⟨by omega, w.1.2⟩, w.2⟩

theorem Tbl.wfFrom_erase [Inhabited α] [DecidableEq α] (t : Tbl α) (lo k : Nat) (w : Tbl.wfFrom lo t = true) :
    Tbl.wfFrom lo (t.erase k) = true := by
  induction t generalizing lo with
  | nil => rfl
  | cons p t ih =>
    obtain ⟨i, v⟩ := p
    simp only [Tbl.wfFrom, Bool.and_eq_true, decide_eq_true_eq] at w
    simp only [Tbl.erase]
    split
    · exact ih lo (Tbl.wfFrom_mono t (by omega) w.2)
    · simp only [Tbl.wfFrom, Bool.and_eq_true, decide_eq_true_eq]
      exact ⟨w.1, ih _ w.2⟩

theorem Tbl.wfFrom_put [Inhabited α] [DecidableEq α] (t : Tbl α) (lo k : Nat) (v : α) (hv : v ≠ default) (hk : lo ≤ k)
    (w : Tbl.wfFrom lo t = true) : Tbl.wfFrom lo (t.put k v) = true := by
  induction t generalizing lo with
  | nil => simp [Tbl.put, Tbl.wfFrom, hv, hk]
  | cons p t ih =>
    obtain ⟨i, x⟩ := p
    simp only [Tbl.wfFrom, Bool.and_eq_true, decide_eq_true_eq] at w
    simp only [Tbl.put]
    split
    · simp only [Tbl.wfFrom, Bool.and_eq_true, decide_eq_true_eq]
      exact ⟨⟨hk, hv⟩, ⟨by omega, w.1.2⟩, w.2⟩
    · split
      · rename_i h; subst h
        simp only [Tbl.wfFrom, Bool.and_eq_true, decide_eq_true_eq]
        exact ⟨⟨hk, hv⟩, w.2⟩
      · simp only [Tbl.wfFrom, Bool.and_eq_true, decide_eq_true_eq]
        exact ⟨w.1, ih _ (by omega) w.2⟩

/-- A write keeps the canonical form. -/
theorem Tbl.wf_set [Inhabited α] [DecidableEq α] (t : Tbl α) (k : Nat) (v : α) (w : t.wf = true) : (t.set k v).wf = true := by
  unfold Tbl.set
  split
  · exact Tbl.wfFrom_erase t 0 k w
  · rename_i h; exact Tbl.wfFrom_put t 0 k v h (Nat.zero_le k) w

theorem Tbl.wf_upd [Inhabited α] [DecidableEq α] (t : Tbl α) (k : Nat) (f : α → α) (w : t.wf = true) : (t.upd k f).wf = true :=
  Tbl.wf_set t k _ w

theorem Tbl.wf_updAll [Inhabited α] [DecidableEq α] (t : Tbl α) (ks : List Nat) (f : Nat → α → α) (w : t.wf = true) :
    (t.updAll ks f).wf = true := by
  unfold Tbl.updAll
  induction ks generalizing t with
  | nil => exact w
  | cons k ks ih => exact ih (t.upd k (f k)) (Tbl.wf_upd t k _ w)

/-- Writing a run of bytes keeps the canonical form. -/
theorem Tbl.wf_writeBytes (m : Tbl Byte) (a : Nat) (bs : List Byte) (w : m.wf = true) : (m.writeBytes a bs).wf = true := by
  induction bs generalizing m a with
  | nil => exact w
  | cons b bs ih => exact ih (m.set a b) (a + 1) (Tbl.wf_set m a b w)

theorem Tbl.wf_writeList [Inhabited α] [DecidableEq α] (m : Tbl α) (a : Nat) (bs : List α) (w : m.wf = true) :
    (m.writeList a bs).wf = true := by
  induction bs generalizing m a with
  | nil => exact w
  | cons b bs ih => exact ih (m.set a b) (a + 1) (Tbl.wf_set m a b w)

/-- A byte outside a run written reads as before. -/
theorem Tbl.get_writeBytes_other (m : Tbl Byte) (a j : Nat) (bs : List Byte) (h : j < a ∨ a + bs.length ≤ j) :
    (m.writeBytes a bs).get j = m.get j := by
  induction bs generalizing m a with
  | nil => rfl
  | cons b bs ih =>
    have hl : (b :: bs).length = bs.length + 1 := rfl
    rw [hl] at h
    rw [Tbl.writeBytes, ih (m.set a b) (a + 1) (by omega), Tbl.get_set_other _ _ _ _ (by omega)]

/-- A byte of a run written reads as it was written. -/
theorem Tbl.get_writeBytes (m : Tbl Byte) (a i : Nat) (bs : List Byte) (h : i < bs.length) :
    (m.writeBytes a bs).get (a + i) = bs.getD i 0 := by
  induction bs generalizing m a i with
  | nil => simp at h
  | cons b bs ih =>
    rw [Tbl.writeBytes]
    cases i with
    | zero => rw [Nat.add_zero, Tbl.get_writeBytes_other _ _ _ _ (by omega)]; simp
    | succ i =>
      have hi : i < bs.length := by simpa using h
      have := ih (m.set a b) (a + 1) i hi
      rw [show a + (i + 1) = a + 1 + i by omega, this]; simp

end Sys2Proof
end

