-- ==== Sys2Proof/Laws/State.lean ====
section
/-! SUPPORT. Laws/State.lean: what the shared updates leave as it is, field by field, so that no proof unfolds a record update. -/

namespace Sys2Proof.Machine

/-! ### Folds over a state -/

theorem State.each_keeps {α β : Type} (p : State → β) (xs : List α) (f : α → State → State) (s : State)
    (h : ∀ x t, p (f x t) = p t) : p (State.each xs f s) = p s := by
  unfold State.each
  induction xs generalizing s with
  | nil => rfl
  | cons x xs ih => rw [List.foldl_cons, ih, h]

theorem foldl_keeps {α β : Type} (p : State → β) (xs : List α) (f : State → α → State) (s : State)
    (h : ∀ t x, p (f t x) = p t) : p (xs.foldl f s) = p s := by
  induction xs generalizing s with
  | nil => rfl
  | cons x xs ih => rw [List.foldl_cons, ih, h]

theorem State.when_keeps {β : Type} (p : State → β) (c : Bool) (f : State → State) (s : State) (h : ∀ t, p (f t) = p t) :
    p (State.when c f s) = p s := by
  unfold State.when; split
  · exact h s
  · rfl

@[simp] theorem State.when_true (f : State → State) (s : State) : State.when true f s = f s := rfl
@[simp] theorem State.when_false (f : State → State) (s : State) : State.when false f s = s := rfl
@[simp] theorem State.each_nil {α : Type} (f : α → State → State) (s : State) : State.each [] f s = s := rfl
@[simp] theorem State.each_cons {α : Type} (x : α) (xs : List α) (f : α → State → State) (s : State) :
    State.each (x :: xs) f s = State.each xs f (f x s) := rfl

/-! ### Time -/

@[simp] theorem State.advance_pending (a : At) (s : State) : (s.advance a).pending = s.pending := rfl
@[simp] theorem State.advance_free (a : At) (s : State) : (s.advance a).free = s.free := rfl
@[simp] theorem State.advance_ready (a : At) (s : State) : (s.advance a).ready = s.ready := rfl
@[simp] theorem State.advance_mb (a : At) (s : State) : (s.advance a).mb = s.mb := rfl
@[simp] theorem State.advance_tr (a : At) (s : State) : (s.advance a).tr = s.tr := rfl
@[simp] theorem State.advance_cfg (a : At) (s : State) : (s.advance a).cfg = s.cfg := rfl
@[simp] theorem State.advance_nv (a : At) (s : State) : (s.advance a).nv = s.nv := rfl
@[simp] theorem State.advance_log (a : At) (s : State) : (s.advance a).log = s.log := rfl
@[simp] theorem State.advance_bin (a : At) (s : State) : (s.advance a).bin = s.bin := rfl
@[simp] theorem State.advance_sen (a : At) (s : State) : (s.advance a).sen = s.sen := rfl
@[simp] theorem State.advance_sup (a : At) (s : State) : (s.advance a).sup = s.sup := rfl
@[simp] theorem State.advance_pair (a : At) (s : State) : (s.advance a).pair = s.pair := rfl
@[simp] theorem State.advance_zones (a : At) (s : State) : (s.advance a).zones = s.zones := rfl
@[simp] theorem State.advance_zio (a : At) (s : State) : (s.advance a).zio = s.zio := rfl
@[simp] theorem State.advance_hostIn (a : At) (s : State) : (s.advance a).hostIn = s.hostIn := rfl
@[simp] theorem State.advance_helm (a : At) (s : State) : (s.advance a).helm = s.helm := rfl
@[simp] theorem State.advance_plan (a : At) (s : State) : (s.advance a).plan = s.plan := rfl
@[simp] theorem State.advance_forecast (a : At) (s : State) : (s.advance a).forecast = s.forecast := rfl
@[simp] theorem State.advance_occ (a : At) (s : State) : (s.advance a).occ = s.occ := rfl
@[simp] theorem State.advance_profile (a : At) (s : State) : (s.advance a).profile = s.profile := rfl
@[simp] theorem State.advance_snd (a : At) (s : State) : (s.advance a).snd = s.snd := rfl
@[simp] theorem State.advance_inp (a : At) (s : State) : (s.advance a).inp = s.inp := rfl
@[simp] theorem State.advance_fld (a : At) (s : State) : (s.advance a).fld = s.fld := rfl
@[simp] theorem State.advance_out (a : At) (s : State) : (s.advance a).out = s.out := rfl
@[simp] theorem State.advance_bus (a : At) (s : State) : (s.advance a).bus = s.bus := rfl
@[simp] theorem State.advance_svc (a : At) (s : State) : (s.advance a).svc = s.svc := rfl
@[simp] theorem State.advance_policy (a : At) (s : State) : (s.advance a).policy = s.policy := rfl
@[simp] theorem State.advance_chart (a : At) (s : State) : (s.advance a).chart = s.chart := rfl
@[simp] theorem State.advance_tiller (a : At) (s : State) : (s.advance a).tiller = s.tiller := rfl
@[simp] theorem State.advance_rdy (a : At) (n : Nat) (s : State) : (s.advance a).rdy n = s.rdy n := rfl

/-! ### Free values, interrupts and records -/

@[simp] theorem State.freeNext_pending (s : State) : (s.freeNext).pending = s.pending := rfl
@[simp] theorem State.freeNext_clock (s : State) : (s.freeNext).clock = s.clock := rfl
@[simp] theorem State.freeNext_ready (s : State) : (s.freeNext).ready = s.ready := rfl
@[simp] theorem State.freeNext_mb (s : State) : (s.freeNext).mb = s.mb := rfl
@[simp] theorem State.freeNext_tr (s : State) : (s.freeNext).tr = s.tr := rfl
@[simp] theorem State.freeNext_cfg (s : State) : (s.freeNext).cfg = s.cfg := rfl
@[simp] theorem State.freeNext_nv (s : State) : (s.freeNext).nv = s.nv := rfl
@[simp] theorem State.freeNext_log (s : State) : (s.freeNext).log = s.log := rfl
@[simp] theorem State.freeNext_bin (s : State) : (s.freeNext).bin = s.bin := rfl
@[simp] theorem State.freeNext_sen (s : State) : (s.freeNext).sen = s.sen := rfl
@[simp] theorem State.freeNext_sup (s : State) : (s.freeNext).sup = s.sup := rfl
@[simp] theorem State.freeNext_mer (s : State) : (s.freeNext).mer = s.mer := rfl
@[simp] theorem State.freeNext_alm (s : State) : (s.freeNext).alm = s.alm := rfl
@[simp] theorem State.freeNext_pair (s : State) : (s.freeNext).pair = s.pair := rfl
@[simp] theorem State.freeNext_zones (s : State) : (s.freeNext).zones = s.zones := rfl
@[simp] theorem State.freeNext_zio (s : State) : (s.freeNext).zio = s.zio := rfl
@[simp] theorem State.freeNext_hostIn (s : State) : (s.freeNext).hostIn = s.hostIn := rfl
@[simp] theorem State.freeNext_helm (s : State) : (s.freeNext).helm = s.helm := rfl
@[simp] theorem State.freeNext_plan (s : State) : (s.freeNext).plan = s.plan := rfl
@[simp] theorem State.freeNext_forecast (s : State) : (s.freeNext).forecast = s.forecast := rfl
@[simp] theorem State.freeNext_occ (s : State) : (s.freeNext).occ = s.occ := rfl
@[simp] theorem State.freeNext_profile (s : State) : (s.freeNext).profile = s.profile := rfl
@[simp] theorem State.freeNext_snd (s : State) : (s.freeNext).snd = s.snd := rfl
@[simp] theorem State.freeNext_inp (s : State) : (s.freeNext).inp = s.inp := rfl
@[simp] theorem State.freeNext_fld (s : State) : (s.freeNext).fld = s.fld := rfl
@[simp] theorem State.freeNext_out (s : State) : (s.freeNext).out = s.out := rfl
@[simp] theorem State.freeNext_bus (s : State) : (s.freeNext).bus = s.bus := rfl
@[simp] theorem State.freeNext_svc (s : State) : (s.freeNext).svc = s.svc := rfl
@[simp] theorem State.freeNext_policy (s : State) : (s.freeNext).policy = s.policy := rfl
@[simp] theorem State.freeNext_chart (s : State) : (s.freeNext).chart = s.chart := rfl
@[simp] theorem State.freeNext_tiller (s : State) : (s.freeNext).tiller = s.tiller := rfl
@[simp] theorem State.irq_pending (n : Nat) (s : State) : (State.irq n s).pending = s.pending := rfl
@[simp] theorem State.irq_free (n : Nat) (s : State) : (State.irq n s).free = s.free := rfl
@[simp] theorem State.irq_clock (n : Nat) (s : State) : (State.irq n s).clock = s.clock := rfl
@[simp] theorem State.irq_ready (n : Nat) (s : State) : (State.irq n s).ready = s.ready := rfl
@[simp] theorem State.irq_tr (n : Nat) (s : State) : (State.irq n s).tr = s.tr := rfl
@[simp] theorem State.irq_cfg (n : Nat) (s : State) : (State.irq n s).cfg = s.cfg := rfl
@[simp] theorem State.irq_nv (n : Nat) (s : State) : (State.irq n s).nv = s.nv := rfl
@[simp] theorem State.irq_log (n : Nat) (s : State) : (State.irq n s).log = s.log := rfl
@[simp] theorem State.irq_bin (n : Nat) (s : State) : (State.irq n s).bin = s.bin := rfl
@[simp] theorem State.irq_sen (n : Nat) (s : State) : (State.irq n s).sen = s.sen := rfl
@[simp] theorem State.irq_sup (n : Nat) (s : State) : (State.irq n s).sup = s.sup := rfl
@[simp] theorem State.irq_mer (n : Nat) (s : State) : (State.irq n s).mer = s.mer := rfl
@[simp] theorem State.irq_alm (n : Nat) (s : State) : (State.irq n s).alm = s.alm := rfl
@[simp] theorem State.irq_pair (n : Nat) (s : State) : (State.irq n s).pair = s.pair := rfl
@[simp] theorem State.irq_zones (n : Nat) (s : State) : (State.irq n s).zones = s.zones := rfl
@[simp] theorem State.irq_zio (n : Nat) (s : State) : (State.irq n s).zio = s.zio := rfl
@[simp] theorem State.irq_hostIn (n : Nat) (s : State) : (State.irq n s).hostIn = s.hostIn := rfl
@[simp] theorem State.irq_helm (n : Nat) (s : State) : (State.irq n s).helm = s.helm := rfl
@[simp] theorem State.irq_plan (n : Nat) (s : State) : (State.irq n s).plan = s.plan := rfl
@[simp] theorem State.irq_forecast (n : Nat) (s : State) : (State.irq n s).forecast = s.forecast := rfl
@[simp] theorem State.irq_occ (n : Nat) (s : State) : (State.irq n s).occ = s.occ := rfl
@[simp] theorem State.irq_profile (n : Nat) (s : State) : (State.irq n s).profile = s.profile := rfl
@[simp] theorem State.irq_snd (n : Nat) (s : State) : (State.irq n s).snd = s.snd := rfl
@[simp] theorem State.irq_inp (n : Nat) (s : State) : (State.irq n s).inp = s.inp := rfl
@[simp] theorem State.irq_fld (n : Nat) (s : State) : (State.irq n s).fld = s.fld := rfl
@[simp] theorem State.irq_out (n : Nat) (s : State) : (State.irq n s).out = s.out := rfl
@[simp] theorem State.irq_bus (n : Nat) (s : State) : (State.irq n s).bus = s.bus := rfl
@[simp] theorem State.irq_svc (n : Nat) (s : State) : (State.irq n s).svc = s.svc := rfl
@[simp] theorem State.irq_policy (n : Nat) (s : State) : (State.irq n s).policy = s.policy := rfl
@[simp] theorem State.irq_chart (n : Nat) (s : State) : (State.irq n s).chart = s.chart := rfl
@[simp] theorem State.irq_tiller (n : Nat) (s : State) : (State.irq n s).tiller = s.tiller := rfl
@[simp] theorem State.record_pending (src sev code : Nat) (p : List Byte) (posts : Bool) (g : Nat) (s : State) : (State.record src sev code p posts g s).pending = s.pending := rfl
@[simp] theorem State.record_free (src sev code : Nat) (p : List Byte) (posts : Bool) (g : Nat) (s : State) : (State.record src sev code p posts g s).free = s.free := rfl
@[simp] theorem State.record_clock (src sev code : Nat) (p : List Byte) (posts : Bool) (g : Nat) (s : State) : (State.record src sev code p posts g s).clock = s.clock := rfl
@[simp] theorem State.record_ready (src sev code : Nat) (p : List Byte) (posts : Bool) (g : Nat) (s : State) : (State.record src sev code p posts g s).ready = s.ready := rfl
@[simp] theorem State.record_mb (src sev code : Nat) (p : List Byte) (posts : Bool) (g : Nat) (s : State) : (State.record src sev code p posts g s).mb = s.mb := rfl
@[simp] theorem State.record_tr (src sev code : Nat) (p : List Byte) (posts : Bool) (g : Nat) (s : State) : (State.record src sev code p posts g s).tr = s.tr := rfl
@[simp] theorem State.record_cfg (src sev code : Nat) (p : List Byte) (posts : Bool) (g : Nat) (s : State) : (State.record src sev code p posts g s).cfg = s.cfg := rfl
@[simp] theorem State.record_nv (src sev code : Nat) (p : List Byte) (posts : Bool) (g : Nat) (s : State) : (State.record src sev code p posts g s).nv = s.nv := rfl
@[simp] theorem State.record_bin (src sev code : Nat) (p : List Byte) (posts : Bool) (g : Nat) (s : State) : (State.record src sev code p posts g s).bin = s.bin := rfl
@[simp] theorem State.record_sen (src sev code : Nat) (p : List Byte) (posts : Bool) (g : Nat) (s : State) : (State.record src sev code p posts g s).sen = s.sen := rfl
@[simp] theorem State.record_sup (src sev code : Nat) (p : List Byte) (posts : Bool) (g : Nat) (s : State) : (State.record src sev code p posts g s).sup = s.sup := rfl
@[simp] theorem State.record_mer (src sev code : Nat) (p : List Byte) (posts : Bool) (g : Nat) (s : State) : (State.record src sev code p posts g s).mer = s.mer := rfl
@[simp] theorem State.record_alm (src sev code : Nat) (p : List Byte) (posts : Bool) (g : Nat) (s : State) : (State.record src sev code p posts g s).alm = s.alm := rfl
@[simp] theorem State.record_pair (src sev code : Nat) (p : List Byte) (posts : Bool) (g : Nat) (s : State) : (State.record src sev code p posts g s).pair = s.pair := rfl
@[simp] theorem State.record_zones (src sev code : Nat) (p : List Byte) (posts : Bool) (g : Nat) (s : State) : (State.record src sev code p posts g s).zones = s.zones := rfl
@[simp] theorem State.record_zio (src sev code : Nat) (p : List Byte) (posts : Bool) (g : Nat) (s : State) : (State.record src sev code p posts g s).zio = s.zio := rfl
@[simp] theorem State.record_hostIn (src sev code : Nat) (p : List Byte) (posts : Bool) (g : Nat) (s : State) : (State.record src sev code p posts g s).hostIn = s.hostIn := rfl
@[simp] theorem State.record_helm (src sev code : Nat) (p : List Byte) (posts : Bool) (g : Nat) (s : State) : (State.record src sev code p posts g s).helm = s.helm := rfl
@[simp] theorem State.record_plan (src sev code : Nat) (p : List Byte) (posts : Bool) (g : Nat) (s : State) : (State.record src sev code p posts g s).plan = s.plan := rfl
@[simp] theorem State.record_forecast (src sev code : Nat) (p : List Byte) (posts : Bool) (g : Nat) (s : State) : (State.record src sev code p posts g s).forecast = s.forecast := rfl
@[simp] theorem State.record_occ (src sev code : Nat) (p : List Byte) (posts : Bool) (g : Nat) (s : State) : (State.record src sev code p posts g s).occ = s.occ := rfl
@[simp] theorem State.record_profile (src sev code : Nat) (p : List Byte) (posts : Bool) (g : Nat) (s : State) : (State.record src sev code p posts g s).profile = s.profile := rfl
@[simp] theorem State.record_snd (src sev code : Nat) (p : List Byte) (posts : Bool) (g : Nat) (s : State) : (State.record src sev code p posts g s).snd = s.snd := rfl
@[simp] theorem State.record_inp (src sev code : Nat) (p : List Byte) (posts : Bool) (g : Nat) (s : State) : (State.record src sev code p posts g s).inp = s.inp := rfl
@[simp] theorem State.record_fld (src sev code : Nat) (p : List Byte) (posts : Bool) (g : Nat) (s : State) : (State.record src sev code p posts g s).fld = s.fld := rfl
@[simp] theorem State.record_out (src sev code : Nat) (p : List Byte) (posts : Bool) (g : Nat) (s : State) : (State.record src sev code p posts g s).out = s.out := rfl
@[simp] theorem State.record_bus (src sev code : Nat) (p : List Byte) (posts : Bool) (g : Nat) (s : State) : (State.record src sev code p posts g s).bus = s.bus := rfl
@[simp] theorem State.record_svc (src sev code : Nat) (p : List Byte) (posts : Bool) (g : Nat) (s : State) : (State.record src sev code p posts g s).svc = s.svc := rfl
@[simp] theorem State.record_policy (src sev code : Nat) (p : List Byte) (posts : Bool) (g : Nat) (s : State) : (State.record src sev code p posts g s).policy = s.policy := rfl
@[simp] theorem State.record_chart (src sev code : Nat) (p : List Byte) (posts : Bool) (g : Nat) (s : State) : (State.record src sev code p posts g s).chart = s.chart := rfl
@[simp] theorem State.record_tiller (src sev code : Nat) (p : List Byte) (posts : Bool) (g : Nat) (s : State) : (State.record src sev code p posts g s).tiller = s.tiller := rfl
@[simp] theorem State.record3_pending (src sev code : Nat) (p : List Byte) (g : Nat) (s : State) : (State.record3 src sev code p g s).pending = s.pending := rfl
@[simp] theorem State.record3_free (src sev code : Nat) (p : List Byte) (g : Nat) (s : State) : (State.record3 src sev code p g s).free = s.free := rfl
@[simp] theorem State.record3_clock (src sev code : Nat) (p : List Byte) (g : Nat) (s : State) : (State.record3 src sev code p g s).clock = s.clock := rfl
@[simp] theorem State.record3_ready (src sev code : Nat) (p : List Byte) (g : Nat) (s : State) : (State.record3 src sev code p g s).ready = s.ready := rfl
@[simp] theorem State.record3_mb (src sev code : Nat) (p : List Byte) (g : Nat) (s : State) : (State.record3 src sev code p g s).mb = s.mb := rfl
@[simp] theorem State.record3_tr (src sev code : Nat) (p : List Byte) (g : Nat) (s : State) : (State.record3 src sev code p g s).tr = s.tr := rfl
@[simp] theorem State.record3_cfg (src sev code : Nat) (p : List Byte) (g : Nat) (s : State) : (State.record3 src sev code p g s).cfg = s.cfg := rfl
@[simp] theorem State.record3_nv (src sev code : Nat) (p : List Byte) (g : Nat) (s : State) : (State.record3 src sev code p g s).nv = s.nv := rfl
@[simp] theorem State.record3_bin (src sev code : Nat) (p : List Byte) (g : Nat) (s : State) : (State.record3 src sev code p g s).bin = s.bin := rfl
@[simp] theorem State.record3_sen (src sev code : Nat) (p : List Byte) (g : Nat) (s : State) : (State.record3 src sev code p g s).sen = s.sen := rfl
@[simp] theorem State.record3_sup (src sev code : Nat) (p : List Byte) (g : Nat) (s : State) : (State.record3 src sev code p g s).sup = s.sup := rfl
@[simp] theorem State.record3_mer (src sev code : Nat) (p : List Byte) (g : Nat) (s : State) : (State.record3 src sev code p g s).mer = s.mer := rfl
@[simp] theorem State.record3_alm (src sev code : Nat) (p : List Byte) (g : Nat) (s : State) : (State.record3 src sev code p g s).alm = s.alm := rfl
@[simp] theorem State.record3_pair (src sev code : Nat) (p : List Byte) (g : Nat) (s : State) : (State.record3 src sev code p g s).pair = s.pair := rfl
@[simp] theorem State.record3_zones (src sev code : Nat) (p : List Byte) (g : Nat) (s : State) : (State.record3 src sev code p g s).zones = s.zones := rfl
@[simp] theorem State.record3_zio (src sev code : Nat) (p : List Byte) (g : Nat) (s : State) : (State.record3 src sev code p g s).zio = s.zio := rfl
@[simp] theorem State.record3_hostIn (src sev code : Nat) (p : List Byte) (g : Nat) (s : State) : (State.record3 src sev code p g s).hostIn = s.hostIn := rfl
@[simp] theorem State.record3_helm (src sev code : Nat) (p : List Byte) (g : Nat) (s : State) : (State.record3 src sev code p g s).helm = s.helm := rfl
@[simp] theorem State.record3_plan (src sev code : Nat) (p : List Byte) (g : Nat) (s : State) : (State.record3 src sev code p g s).plan = s.plan := rfl
@[simp] theorem State.record3_forecast (src sev code : Nat) (p : List Byte) (g : Nat) (s : State) : (State.record3 src sev code p g s).forecast = s.forecast := rfl
@[simp] theorem State.record3_occ (src sev code : Nat) (p : List Byte) (g : Nat) (s : State) : (State.record3 src sev code p g s).occ = s.occ := rfl
@[simp] theorem State.record3_profile (src sev code : Nat) (p : List Byte) (g : Nat) (s : State) : (State.record3 src sev code p g s).profile = s.profile := rfl
@[simp] theorem State.record3_snd (src sev code : Nat) (p : List Byte) (g : Nat) (s : State) : (State.record3 src sev code p g s).snd = s.snd := rfl
@[simp] theorem State.record3_inp (src sev code : Nat) (p : List Byte) (g : Nat) (s : State) : (State.record3 src sev code p g s).inp = s.inp := rfl
@[simp] theorem State.record3_fld (src sev code : Nat) (p : List Byte) (g : Nat) (s : State) : (State.record3 src sev code p g s).fld = s.fld := rfl
@[simp] theorem State.record3_out (src sev code : Nat) (p : List Byte) (g : Nat) (s : State) : (State.record3 src sev code p g s).out = s.out := rfl
@[simp] theorem State.record3_bus (src sev code : Nat) (p : List Byte) (g : Nat) (s : State) : (State.record3 src sev code p g s).bus = s.bus := rfl
@[simp] theorem State.record3_svc (src sev code : Nat) (p : List Byte) (g : Nat) (s : State) : (State.record3 src sev code p g s).svc = s.svc := rfl
@[simp] theorem State.record3_policy (src sev code : Nat) (p : List Byte) (g : Nat) (s : State) : (State.record3 src sev code p g s).policy = s.policy := rfl
@[simp] theorem State.record3_chart (src sev code : Nat) (p : List Byte) (g : Nat) (s : State) : (State.record3 src sev code p g s).chart = s.chart := rfl
@[simp] theorem State.record3_tiller (src sev code : Nat) (p : List Byte) (g : Nat) (s : State) : (State.record3 src sev code p g s).tiller = s.tiller := rfl
@[simp] theorem State.readyRecord_pending (w : Word32) (b : Nat) (s : State) : (State.readyRecord w b s).pending = s.pending := by unfold State.readyRecord; split <;> rfl
@[simp] theorem State.readyRecord_free (w : Word32) (b : Nat) (s : State) : (State.readyRecord w b s).free = s.free := by unfold State.readyRecord; split <;> rfl
@[simp] theorem State.readyRecord_clock (w : Word32) (b : Nat) (s : State) : (State.readyRecord w b s).clock = s.clock := by unfold State.readyRecord; split <;> rfl
@[simp] theorem State.readyRecord_ready (w : Word32) (b : Nat) (s : State) : (State.readyRecord w b s).ready = s.ready := by unfold State.readyRecord; split <;> rfl
@[simp] theorem State.readyRecord_mb (w : Word32) (b : Nat) (s : State) : (State.readyRecord w b s).mb = s.mb := by unfold State.readyRecord; split <;> rfl
@[simp] theorem State.readyRecord_tr (w : Word32) (b : Nat) (s : State) : (State.readyRecord w b s).tr = s.tr := by unfold State.readyRecord; split <;> rfl
@[simp] theorem State.readyRecord_cfg (w : Word32) (b : Nat) (s : State) : (State.readyRecord w b s).cfg = s.cfg := by unfold State.readyRecord; split <;> rfl
@[simp] theorem State.readyRecord_nv (w : Word32) (b : Nat) (s : State) : (State.readyRecord w b s).nv = s.nv := by unfold State.readyRecord; split <;> rfl
@[simp] theorem State.readyRecord_bin (w : Word32) (b : Nat) (s : State) : (State.readyRecord w b s).bin = s.bin := by unfold State.readyRecord; split <;> rfl
@[simp] theorem State.readyRecord_sen (w : Word32) (b : Nat) (s : State) : (State.readyRecord w b s).sen = s.sen := by unfold State.readyRecord; split <;> rfl
@[simp] theorem State.readyRecord_sup (w : Word32) (b : Nat) (s : State) : (State.readyRecord w b s).sup = s.sup := by unfold State.readyRecord; split <;> rfl
@[simp] theorem State.readyRecord_mer (w : Word32) (b : Nat) (s : State) : (State.readyRecord w b s).mer = s.mer := by unfold State.readyRecord; split <;> rfl
@[simp] theorem State.readyRecord_alm (w : Word32) (b : Nat) (s : State) : (State.readyRecord w b s).alm = s.alm := by unfold State.readyRecord; split <;> rfl
@[simp] theorem State.readyRecord_pair (w : Word32) (b : Nat) (s : State) : (State.readyRecord w b s).pair = s.pair := by unfold State.readyRecord; split <;> rfl
@[simp] theorem State.readyRecord_zones (w : Word32) (b : Nat) (s : State) : (State.readyRecord w b s).zones = s.zones := by unfold State.readyRecord; split <;> rfl
@[simp] theorem State.readyRecord_zio (w : Word32) (b : Nat) (s : State) : (State.readyRecord w b s).zio = s.zio := by unfold State.readyRecord; split <;> rfl
@[simp] theorem State.readyRecord_hostIn (w : Word32) (b : Nat) (s : State) : (State.readyRecord w b s).hostIn = s.hostIn := by unfold State.readyRecord; split <;> rfl
@[simp] theorem State.readyRecord_helm (w : Word32) (b : Nat) (s : State) : (State.readyRecord w b s).helm = s.helm := by unfold State.readyRecord; split <;> rfl
@[simp] theorem State.readyRecord_plan (w : Word32) (b : Nat) (s : State) : (State.readyRecord w b s).plan = s.plan := by unfold State.readyRecord; split <;> rfl
@[simp] theorem State.readyRecord_forecast (w : Word32) (b : Nat) (s : State) : (State.readyRecord w b s).forecast = s.forecast := by unfold State.readyRecord; split <;> rfl
@[simp] theorem State.readyRecord_occ (w : Word32) (b : Nat) (s : State) : (State.readyRecord w b s).occ = s.occ := by unfold State.readyRecord; split <;> rfl
@[simp] theorem State.readyRecord_profile (w : Word32) (b : Nat) (s : State) : (State.readyRecord w b s).profile = s.profile := by unfold State.readyRecord; split <;> rfl
@[simp] theorem State.readyRecord_snd (w : Word32) (b : Nat) (s : State) : (State.readyRecord w b s).snd = s.snd := by unfold State.readyRecord; split <;> rfl
@[simp] theorem State.readyRecord_inp (w : Word32) (b : Nat) (s : State) : (State.readyRecord w b s).inp = s.inp := by unfold State.readyRecord; split <;> rfl
@[simp] theorem State.readyRecord_fld (w : Word32) (b : Nat) (s : State) : (State.readyRecord w b s).fld = s.fld := by unfold State.readyRecord; split <;> rfl
@[simp] theorem State.readyRecord_out (w : Word32) (b : Nat) (s : State) : (State.readyRecord w b s).out = s.out := by unfold State.readyRecord; split <;> rfl
@[simp] theorem State.readyRecord_bus (w : Word32) (b : Nat) (s : State) : (State.readyRecord w b s).bus = s.bus := by unfold State.readyRecord; split <;> rfl
@[simp] theorem State.readyRecord_svc (w : Word32) (b : Nat) (s : State) : (State.readyRecord w b s).svc = s.svc := by unfold State.readyRecord; split <;> rfl
@[simp] theorem State.readyRecord_policy (w : Word32) (b : Nat) (s : State) : (State.readyRecord w b s).policy = s.policy := by unfold State.readyRecord; split <;> rfl
@[simp] theorem State.readyRecord_chart (w : Word32) (b : Nat) (s : State) : (State.readyRecord w b s).chart = s.chart := by unfold State.readyRecord; split <;> rfl
@[simp] theorem State.readyRecord_tiller (w : Word32) (b : Nat) (s : State) : (State.readyRecord w b s).tiller = s.tiller := by unfold State.readyRecord; split <;> rfl

/-! ### READY -/

@[simp] theorem State.updateReady_pending (sets clears : List Nat) (s : State) : (State.updateReady sets clears s).pending = s.pending := by
  unfold State.updateReady; dsimp only; split
  · rfl
  · rw [foldl_keeps State.pending _ _ _ (fun t b => State.readyRecord_pending _ b t)]; rfl
@[simp] theorem State.updateReady_free (sets clears : List Nat) (s : State) : (State.updateReady sets clears s).free = s.free := by
  unfold State.updateReady; dsimp only; split
  · rfl
  · rw [foldl_keeps State.free _ _ _ (fun t b => State.readyRecord_free _ b t)]; rfl
@[simp] theorem State.updateReady_clock (sets clears : List Nat) (s : State) : (State.updateReady sets clears s).clock = s.clock := by
  unfold State.updateReady; dsimp only; split
  · rfl
  · rw [foldl_keeps State.clock _ _ _ (fun t b => State.readyRecord_clock _ b t)]; rfl
@[simp] theorem State.updateReady_tr (sets clears : List Nat) (s : State) : (State.updateReady sets clears s).tr = s.tr := by
  unfold State.updateReady; dsimp only; split
  · rfl
  · rw [foldl_keeps State.tr _ _ _ (fun t b => State.readyRecord_tr _ b t)]; rfl
@[simp] theorem State.updateReady_cfg (sets clears : List Nat) (s : State) : (State.updateReady sets clears s).cfg = s.cfg := by
  unfold State.updateReady; dsimp only; split
  · rfl
  · rw [foldl_keeps State.cfg _ _ _ (fun t b => State.readyRecord_cfg _ b t)]; rfl
@[simp] theorem State.updateReady_nv (sets clears : List Nat) (s : State) : (State.updateReady sets clears s).nv = s.nv := by
  unfold State.updateReady; dsimp only; split
  · rfl
  · rw [foldl_keeps State.nv _ _ _ (fun t b => State.readyRecord_nv _ b t)]; rfl
@[simp] theorem State.updateReady_bin (sets clears : List Nat) (s : State) : (State.updateReady sets clears s).bin = s.bin := by
  unfold State.updateReady; dsimp only; split
  · rfl
  · rw [foldl_keeps State.bin _ _ _ (fun t b => State.readyRecord_bin _ b t)]; rfl
@[simp] theorem State.updateReady_sen (sets clears : List Nat) (s : State) : (State.updateReady sets clears s).sen = s.sen := by
  unfold State.updateReady; dsimp only; split
  · rfl
  · rw [foldl_keeps State.sen _ _ _ (fun t b => State.readyRecord_sen _ b t)]; rfl
@[simp] theorem State.updateReady_sup (sets clears : List Nat) (s : State) : (State.updateReady sets clears s).sup = s.sup := by
  unfold State.updateReady; dsimp only; split
  · rfl
  · rw [foldl_keeps State.sup _ _ _ (fun t b => State.readyRecord_sup _ b t)]; rfl
@[simp] theorem State.updateReady_mer (sets clears : List Nat) (s : State) : (State.updateReady sets clears s).mer = s.mer := by
  unfold State.updateReady; dsimp only; split
  · rfl
  · rw [foldl_keeps State.mer _ _ _ (fun t b => State.readyRecord_mer _ b t)]; rfl
@[simp] theorem State.updateReady_alm (sets clears : List Nat) (s : State) : (State.updateReady sets clears s).alm = s.alm := by
  unfold State.updateReady; dsimp only; split
  · rfl
  · rw [foldl_keeps State.alm _ _ _ (fun t b => State.readyRecord_alm _ b t)]; rfl
@[simp] theorem State.updateReady_pair (sets clears : List Nat) (s : State) : (State.updateReady sets clears s).pair = s.pair := by
  unfold State.updateReady; dsimp only; split
  · rfl
  · rw [foldl_keeps State.pair _ _ _ (fun t b => State.readyRecord_pair _ b t)]; rfl
@[simp] theorem State.updateReady_zones (sets clears : List Nat) (s : State) : (State.updateReady sets clears s).zones = s.zones := by
  unfold State.updateReady; dsimp only; split
  · rfl
  · rw [foldl_keeps State.zones _ _ _ (fun t b => State.readyRecord_zones _ b t)]; rfl
@[simp] theorem State.updateReady_zio (sets clears : List Nat) (s : State) : (State.updateReady sets clears s).zio = s.zio := by
  unfold State.updateReady; dsimp only; split
  · rfl
  · rw [foldl_keeps State.zio _ _ _ (fun t b => State.readyRecord_zio _ b t)]; rfl
@[simp] theorem State.updateReady_hostIn (sets clears : List Nat) (s : State) : (State.updateReady sets clears s).hostIn = s.hostIn := by
  unfold State.updateReady; dsimp only; split
  · rfl
  · rw [foldl_keeps State.hostIn _ _ _ (fun t b => State.readyRecord_hostIn _ b t)]; rfl
@[simp] theorem State.updateReady_helm (sets clears : List Nat) (s : State) : (State.updateReady sets clears s).helm = s.helm := by
  unfold State.updateReady; dsimp only; split
  · rfl
  · rw [foldl_keeps State.helm _ _ _ (fun t b => State.readyRecord_helm _ b t)]; rfl
@[simp] theorem State.updateReady_plan (sets clears : List Nat) (s : State) : (State.updateReady sets clears s).plan = s.plan := by
  unfold State.updateReady; dsimp only; split
  · rfl
  · rw [foldl_keeps State.plan _ _ _ (fun t b => State.readyRecord_plan _ b t)]; rfl
@[simp] theorem State.updateReady_forecast (sets clears : List Nat) (s : State) : (State.updateReady sets clears s).forecast = s.forecast := by
  unfold State.updateReady; dsimp only; split
  · rfl
  · rw [foldl_keeps State.forecast _ _ _ (fun t b => State.readyRecord_forecast _ b t)]; rfl
@[simp] theorem State.updateReady_occ (sets clears : List Nat) (s : State) : (State.updateReady sets clears s).occ = s.occ := by
  unfold State.updateReady; dsimp only; split
  · rfl
  · rw [foldl_keeps State.occ _ _ _ (fun t b => State.readyRecord_occ _ b t)]; rfl
@[simp] theorem State.updateReady_profile (sets clears : List Nat) (s : State) : (State.updateReady sets clears s).profile = s.profile := by
  unfold State.updateReady; dsimp only; split
  · rfl
  · rw [foldl_keeps State.profile _ _ _ (fun t b => State.readyRecord_profile _ b t)]; rfl
@[simp] theorem State.updateReady_snd (sets clears : List Nat) (s : State) : (State.updateReady sets clears s).snd = s.snd := by
  unfold State.updateReady; dsimp only; split
  · rfl
  · rw [foldl_keeps State.snd _ _ _ (fun t b => State.readyRecord_snd _ b t)]; rfl
@[simp] theorem State.updateReady_inp (sets clears : List Nat) (s : State) : (State.updateReady sets clears s).inp = s.inp := by
  unfold State.updateReady; dsimp only; split
  · rfl
  · rw [foldl_keeps State.inp _ _ _ (fun t b => State.readyRecord_inp _ b t)]; rfl
@[simp] theorem State.updateReady_fld (sets clears : List Nat) (s : State) : (State.updateReady sets clears s).fld = s.fld := by
  unfold State.updateReady; dsimp only; split
  · rfl
  · rw [foldl_keeps State.fld _ _ _ (fun t b => State.readyRecord_fld _ b t)]; rfl
@[simp] theorem State.updateReady_out (sets clears : List Nat) (s : State) : (State.updateReady sets clears s).out = s.out := by
  unfold State.updateReady; dsimp only; split
  · rfl
  · rw [foldl_keeps State.out _ _ _ (fun t b => State.readyRecord_out _ b t)]; rfl
@[simp] theorem State.updateReady_bus (sets clears : List Nat) (s : State) : (State.updateReady sets clears s).bus = s.bus := by
  unfold State.updateReady; dsimp only; split
  · rfl
  · rw [foldl_keeps State.bus _ _ _ (fun t b => State.readyRecord_bus _ b t)]; rfl
@[simp] theorem State.updateReady_svc (sets clears : List Nat) (s : State) : (State.updateReady sets clears s).svc = s.svc := by
  unfold State.updateReady; dsimp only; split
  · rfl
  · rw [foldl_keeps State.svc _ _ _ (fun t b => State.readyRecord_svc _ b t)]; rfl
@[simp] theorem State.updateReady_policy (sets clears : List Nat) (s : State) : (State.updateReady sets clears s).policy = s.policy := by
  unfold State.updateReady; dsimp only; split
  · rfl
  · rw [foldl_keeps State.policy _ _ _ (fun t b => State.readyRecord_policy _ b t)]; rfl
@[simp] theorem State.updateReady_chart (sets clears : List Nat) (s : State) : (State.updateReady sets clears s).chart = s.chart := by
  unfold State.updateReady; dsimp only; split
  · rfl
  · rw [foldl_keeps State.chart _ _ _ (fun t b => State.readyRecord_chart _ b t)]; rfl
@[simp] theorem State.updateReady_tiller (sets clears : List Nat) (s : State) : (State.updateReady sets clears s).tiller = s.tiller := by
  unfold State.updateReady; dsimp only; split
  · rfl
  · rw [foldl_keeps State.tiller _ _ _ (fun t b => State.readyRecord_tiller _ b t)]; rfl

/-- An update leaves the word of R33. -/
@[simp] theorem State.updateReady_ready (sets clears : List Nat) (s : State) :
    (s.updateReady sets clears).ready = readyNext s.ready sets clears := by
  unfold State.updateReady; dsimp only; split
  · rename_i h; exact h.symm
  · rw [foldl_keeps State.ready _ _ _ (fun t b => State.readyRecord_ready _ b t)]; rfl

/-! ### The event ring -/

@[simp] theorem State.putEvent_pending (e : EvEntry) (s : State) : (State.putEvent e s).pending = s.pending := rfl
@[simp] theorem State.putEvent_free (e : EvEntry) (s : State) : (State.putEvent e s).free = s.free := rfl
@[simp] theorem State.putEvent_clock (e : EvEntry) (s : State) : (State.putEvent e s).clock = s.clock := rfl
@[simp] theorem State.putEvent_ready (e : EvEntry) (s : State) : (State.putEvent e s).ready = s.ready := rfl
@[simp] theorem State.putEvent_tr (e : EvEntry) (s : State) : (State.putEvent e s).tr = s.tr := rfl
@[simp] theorem State.putEvent_cfg (e : EvEntry) (s : State) : (State.putEvent e s).cfg = s.cfg := rfl
@[simp] theorem State.putEvent_nv (e : EvEntry) (s : State) : (State.putEvent e s).nv = s.nv := rfl
@[simp] theorem State.putEvent_log (e : EvEntry) (s : State) : (State.putEvent e s).log = s.log := rfl
@[simp] theorem State.putEvent_bin (e : EvEntry) (s : State) : (State.putEvent e s).bin = s.bin := rfl
@[simp] theorem State.putEvent_sen (e : EvEntry) (s : State) : (State.putEvent e s).sen = s.sen := rfl
@[simp] theorem State.putEvent_sup (e : EvEntry) (s : State) : (State.putEvent e s).sup = s.sup := rfl
@[simp] theorem State.putEvent_mer (e : EvEntry) (s : State) : (State.putEvent e s).mer = s.mer := rfl
@[simp] theorem State.putEvent_alm (e : EvEntry) (s : State) : (State.putEvent e s).alm = s.alm := rfl
@[simp] theorem State.putEvent_pair (e : EvEntry) (s : State) : (State.putEvent e s).pair = s.pair := rfl
@[simp] theorem State.putEvent_zones (e : EvEntry) (s : State) : (State.putEvent e s).zones = s.zones := rfl
@[simp] theorem State.putEvent_zio (e : EvEntry) (s : State) : (State.putEvent e s).zio = s.zio := rfl
@[simp] theorem State.putEvent_hostIn (e : EvEntry) (s : State) : (State.putEvent e s).hostIn = s.hostIn := rfl
@[simp] theorem State.putEvent_helm (e : EvEntry) (s : State) : (State.putEvent e s).helm = s.helm := rfl
@[simp] theorem State.putEvent_plan (e : EvEntry) (s : State) : (State.putEvent e s).plan = s.plan := rfl
@[simp] theorem State.putEvent_forecast (e : EvEntry) (s : State) : (State.putEvent e s).forecast = s.forecast := rfl
@[simp] theorem State.putEvent_occ (e : EvEntry) (s : State) : (State.putEvent e s).occ = s.occ := rfl
@[simp] theorem State.putEvent_profile (e : EvEntry) (s : State) : (State.putEvent e s).profile = s.profile := rfl
@[simp] theorem State.putEvent_snd (e : EvEntry) (s : State) : (State.putEvent e s).snd = s.snd := rfl
@[simp] theorem State.putEvent_inp (e : EvEntry) (s : State) : (State.putEvent e s).inp = s.inp := rfl
@[simp] theorem State.putEvent_fld (e : EvEntry) (s : State) : (State.putEvent e s).fld = s.fld := rfl
@[simp] theorem State.putEvent_out (e : EvEntry) (s : State) : (State.putEvent e s).out = s.out := rfl
@[simp] theorem State.putEvent_bus (e : EvEntry) (s : State) : (State.putEvent e s).bus = s.bus := rfl
@[simp] theorem State.putEvent_svc (e : EvEntry) (s : State) : (State.putEvent e s).svc = s.svc := rfl
@[simp] theorem State.putEvent_policy (e : EvEntry) (s : State) : (State.putEvent e s).policy = s.policy := rfl
@[simp] theorem State.putEvent_chart (e : EvEntry) (s : State) : (State.putEvent e s).chart = s.chart := rfl
@[simp] theorem State.putEvent_tiller (e : EvEntry) (s : State) : (State.putEvent e s).tiller = s.tiller := rfl
@[simp] theorem State.dropEvent_pending (s : State) : (s.dropEvent).pending = s.pending := rfl
@[simp] theorem State.dropEvent_free (s : State) : (s.dropEvent).free = s.free := rfl
@[simp] theorem State.dropEvent_clock (s : State) : (s.dropEvent).clock = s.clock := rfl
@[simp] theorem State.dropEvent_ready (s : State) : (s.dropEvent).ready = s.ready := rfl
@[simp] theorem State.dropEvent_tr (s : State) : (s.dropEvent).tr = s.tr := rfl
@[simp] theorem State.dropEvent_cfg (s : State) : (s.dropEvent).cfg = s.cfg := rfl
@[simp] theorem State.dropEvent_nv (s : State) : (s.dropEvent).nv = s.nv := rfl
@[simp] theorem State.dropEvent_log (s : State) : (s.dropEvent).log = s.log := rfl
@[simp] theorem State.dropEvent_bin (s : State) : (s.dropEvent).bin = s.bin := rfl
@[simp] theorem State.dropEvent_sen (s : State) : (s.dropEvent).sen = s.sen := rfl
@[simp] theorem State.dropEvent_sup (s : State) : (s.dropEvent).sup = s.sup := rfl
@[simp] theorem State.dropEvent_mer (s : State) : (s.dropEvent).mer = s.mer := rfl
@[simp] theorem State.dropEvent_alm (s : State) : (s.dropEvent).alm = s.alm := rfl
@[simp] theorem State.dropEvent_pair (s : State) : (s.dropEvent).pair = s.pair := rfl
@[simp] theorem State.dropEvent_zones (s : State) : (s.dropEvent).zones = s.zones := rfl
@[simp] theorem State.dropEvent_zio (s : State) : (s.dropEvent).zio = s.zio := rfl
@[simp] theorem State.dropEvent_hostIn (s : State) : (s.dropEvent).hostIn = s.hostIn := rfl
@[simp] theorem State.dropEvent_helm (s : State) : (s.dropEvent).helm = s.helm := rfl
@[simp] theorem State.dropEvent_plan (s : State) : (s.dropEvent).plan = s.plan := rfl
@[simp] theorem State.dropEvent_forecast (s : State) : (s.dropEvent).forecast = s.forecast := rfl
@[simp] theorem State.dropEvent_occ (s : State) : (s.dropEvent).occ = s.occ := rfl
@[simp] theorem State.dropEvent_profile (s : State) : (s.dropEvent).profile = s.profile := rfl
@[simp] theorem State.dropEvent_snd (s : State) : (s.dropEvent).snd = s.snd := rfl
@[simp] theorem State.dropEvent_inp (s : State) : (s.dropEvent).inp = s.inp := rfl
@[simp] theorem State.dropEvent_fld (s : State) : (s.dropEvent).fld = s.fld := rfl
@[simp] theorem State.dropEvent_out (s : State) : (s.dropEvent).out = s.out := rfl
@[simp] theorem State.dropEvent_bus (s : State) : (s.dropEvent).bus = s.bus := rfl
@[simp] theorem State.dropEvent_svc (s : State) : (s.dropEvent).svc = s.svc := rfl
@[simp] theorem State.dropEvent_policy (s : State) : (s.dropEvent).policy = s.policy := rfl
@[simp] theorem State.dropEvent_chart (s : State) : (s.dropEvent).chart = s.chart := rfl
@[simp] theorem State.dropEvent_tiller (s : State) : (s.dropEvent).tiller = s.tiller := rfl
@[simp] theorem State.putEventsLost_pending (s : State) : (s.putEventsLost).pending = s.pending := rfl
@[simp] theorem State.putEventsLost_free (s : State) : (s.putEventsLost).free = s.free := rfl
@[simp] theorem State.putEventsLost_clock (s : State) : (s.putEventsLost).clock = s.clock := rfl
@[simp] theorem State.putEventsLost_ready (s : State) : (s.putEventsLost).ready = s.ready := rfl
@[simp] theorem State.putEventsLost_tr (s : State) : (s.putEventsLost).tr = s.tr := rfl
@[simp] theorem State.putEventsLost_cfg (s : State) : (s.putEventsLost).cfg = s.cfg := rfl
@[simp] theorem State.putEventsLost_nv (s : State) : (s.putEventsLost).nv = s.nv := rfl
@[simp] theorem State.putEventsLost_bin (s : State) : (s.putEventsLost).bin = s.bin := rfl
@[simp] theorem State.putEventsLost_sen (s : State) : (s.putEventsLost).sen = s.sen := rfl
@[simp] theorem State.putEventsLost_sup (s : State) : (s.putEventsLost).sup = s.sup := rfl
@[simp] theorem State.putEventsLost_mer (s : State) : (s.putEventsLost).mer = s.mer := rfl
@[simp] theorem State.putEventsLost_alm (s : State) : (s.putEventsLost).alm = s.alm := rfl
@[simp] theorem State.putEventsLost_pair (s : State) : (s.putEventsLost).pair = s.pair := rfl
@[simp] theorem State.putEventsLost_zones (s : State) : (s.putEventsLost).zones = s.zones := rfl
@[simp] theorem State.putEventsLost_zio (s : State) : (s.putEventsLost).zio = s.zio := rfl
@[simp] theorem State.putEventsLost_hostIn (s : State) : (s.putEventsLost).hostIn = s.hostIn := rfl
@[simp] theorem State.putEventsLost_helm (s : State) : (s.putEventsLost).helm = s.helm := rfl
@[simp] theorem State.putEventsLost_plan (s : State) : (s.putEventsLost).plan = s.plan := rfl
@[simp] theorem State.putEventsLost_forecast (s : State) : (s.putEventsLost).forecast = s.forecast := rfl
@[simp] theorem State.putEventsLost_occ (s : State) : (s.putEventsLost).occ = s.occ := rfl
@[simp] theorem State.putEventsLost_profile (s : State) : (s.putEventsLost).profile = s.profile := rfl
@[simp] theorem State.putEventsLost_snd (s : State) : (s.putEventsLost).snd = s.snd := rfl
@[simp] theorem State.putEventsLost_inp (s : State) : (s.putEventsLost).inp = s.inp := rfl
@[simp] theorem State.putEventsLost_fld (s : State) : (s.putEventsLost).fld = s.fld := rfl
@[simp] theorem State.putEventsLost_out (s : State) : (s.putEventsLost).out = s.out := rfl
@[simp] theorem State.putEventsLost_bus (s : State) : (s.putEventsLost).bus = s.bus := rfl
@[simp] theorem State.putEventsLost_svc (s : State) : (s.putEventsLost).svc = s.svc := rfl
@[simp] theorem State.putEventsLost_policy (s : State) : (s.putEventsLost).policy = s.policy := rfl
@[simp] theorem State.putEventsLost_chart (s : State) : (s.putEventsLost).chart = s.chart := rfl
@[simp] theorem State.putEventsLost_tiller (s : State) : (s.putEventsLost).tiller = s.tiller := rfl
@[simp] theorem State.postEvent_pending (e : EvEntry) (s : State) : (State.postEvent e s).pending = s.pending := by unfold State.postEvent; (repeat' split) <;> simp
@[simp] theorem State.postEvent_free (e : EvEntry) (s : State) : (State.postEvent e s).free = s.free := by unfold State.postEvent; (repeat' split) <;> simp
@[simp] theorem State.postEvent_clock (e : EvEntry) (s : State) : (State.postEvent e s).clock = s.clock := by unfold State.postEvent; (repeat' split) <;> simp
@[simp] theorem State.postEvent_ready (e : EvEntry) (s : State) : (State.postEvent e s).ready = s.ready := by unfold State.postEvent; (repeat' split) <;> simp
@[simp] theorem State.postEvent_tr (e : EvEntry) (s : State) : (State.postEvent e s).tr = s.tr := by unfold State.postEvent; (repeat' split) <;> simp
@[simp] theorem State.postEvent_cfg (e : EvEntry) (s : State) : (State.postEvent e s).cfg = s.cfg := by unfold State.postEvent; (repeat' split) <;> simp
@[simp] theorem State.postEvent_nv (e : EvEntry) (s : State) : (State.postEvent e s).nv = s.nv := by unfold State.postEvent; (repeat' split) <;> simp
@[simp] theorem State.postEvent_bin (e : EvEntry) (s : State) : (State.postEvent e s).bin = s.bin := by unfold State.postEvent; (repeat' split) <;> simp
@[simp] theorem State.postEvent_sen (e : EvEntry) (s : State) : (State.postEvent e s).sen = s.sen := by unfold State.postEvent; (repeat' split) <;> simp
@[simp] theorem State.postEvent_sup (e : EvEntry) (s : State) : (State.postEvent e s).sup = s.sup := by unfold State.postEvent; (repeat' split) <;> simp
@[simp] theorem State.postEvent_mer (e : EvEntry) (s : State) : (State.postEvent e s).mer = s.mer := by unfold State.postEvent; (repeat' split) <;> simp
@[simp] theorem State.postEvent_alm (e : EvEntry) (s : State) : (State.postEvent e s).alm = s.alm := by unfold State.postEvent; (repeat' split) <;> simp
@[simp] theorem State.postEvent_pair (e : EvEntry) (s : State) : (State.postEvent e s).pair = s.pair := by unfold State.postEvent; (repeat' split) <;> simp
@[simp] theorem State.postEvent_zones (e : EvEntry) (s : State) : (State.postEvent e s).zones = s.zones := by unfold State.postEvent; (repeat' split) <;> simp
@[simp] theorem State.postEvent_zio (e : EvEntry) (s : State) : (State.postEvent e s).zio = s.zio := by unfold State.postEvent; (repeat' split) <;> simp
@[simp] theorem State.postEvent_hostIn (e : EvEntry) (s : State) : (State.postEvent e s).hostIn = s.hostIn := by unfold State.postEvent; (repeat' split) <;> simp
@[simp] theorem State.postEvent_helm (e : EvEntry) (s : State) : (State.postEvent e s).helm = s.helm := by unfold State.postEvent; (repeat' split) <;> simp
@[simp] theorem State.postEvent_plan (e : EvEntry) (s : State) : (State.postEvent e s).plan = s.plan := by unfold State.postEvent; (repeat' split) <;> simp
@[simp] theorem State.postEvent_forecast (e : EvEntry) (s : State) : (State.postEvent e s).forecast = s.forecast := by unfold State.postEvent; (repeat' split) <;> simp
@[simp] theorem State.postEvent_occ (e : EvEntry) (s : State) : (State.postEvent e s).occ = s.occ := by unfold State.postEvent; (repeat' split) <;> simp
@[simp] theorem State.postEvent_profile (e : EvEntry) (s : State) : (State.postEvent e s).profile = s.profile := by unfold State.postEvent; (repeat' split) <;> simp
@[simp] theorem State.postEvent_snd (e : EvEntry) (s : State) : (State.postEvent e s).snd = s.snd := by unfold State.postEvent; (repeat' split) <;> simp
@[simp] theorem State.postEvent_inp (e : EvEntry) (s : State) : (State.postEvent e s).inp = s.inp := by unfold State.postEvent; (repeat' split) <;> simp
@[simp] theorem State.postEvent_fld (e : EvEntry) (s : State) : (State.postEvent e s).fld = s.fld := by unfold State.postEvent; (repeat' split) <;> simp
@[simp] theorem State.postEvent_out (e : EvEntry) (s : State) : (State.postEvent e s).out = s.out := by unfold State.postEvent; (repeat' split) <;> simp
@[simp] theorem State.postEvent_bus (e : EvEntry) (s : State) : (State.postEvent e s).bus = s.bus := by unfold State.postEvent; (repeat' split) <;> simp
@[simp] theorem State.postEvent_svc (e : EvEntry) (s : State) : (State.postEvent e s).svc = s.svc := by unfold State.postEvent; (repeat' split) <;> simp
@[simp] theorem State.postEvent_policy (e : EvEntry) (s : State) : (State.postEvent e s).policy = s.policy := by unfold State.postEvent; (repeat' split) <;> simp
@[simp] theorem State.postEvent_chart (e : EvEntry) (s : State) : (State.postEvent e s).chart = s.chart := by unfold State.postEvent; (repeat' split) <;> simp
@[simp] theorem State.postEvent_tiller (e : EvEntry) (s : State) : (State.postEvent e s).tiller = s.tiller := by unfold State.postEvent; (repeat' split) <;> simp

/-! ### The record store and the sheaf -/

@[simp] theorem State.save_pending (q : SaveReq) (s : State) : (State.save q s).pending = s.pending := rfl
@[simp] theorem State.save_free (q : SaveReq) (s : State) : (State.save q s).free = s.free := rfl
@[simp] theorem State.save_clock (q : SaveReq) (s : State) : (State.save q s).clock = s.clock := rfl
@[simp] theorem State.save_ready (q : SaveReq) (s : State) : (State.save q s).ready = s.ready := rfl
@[simp] theorem State.save_mb (q : SaveReq) (s : State) : (State.save q s).mb = s.mb := rfl
@[simp] theorem State.save_tr (q : SaveReq) (s : State) : (State.save q s).tr = s.tr := rfl
@[simp] theorem State.save_cfg (q : SaveReq) (s : State) : (State.save q s).cfg = s.cfg := rfl
@[simp] theorem State.save_log (q : SaveReq) (s : State) : (State.save q s).log = s.log := rfl
@[simp] theorem State.save_bin (q : SaveReq) (s : State) : (State.save q s).bin = s.bin := rfl
@[simp] theorem State.save_sen (q : SaveReq) (s : State) : (State.save q s).sen = s.sen := rfl
@[simp] theorem State.save_sup (q : SaveReq) (s : State) : (State.save q s).sup = s.sup := rfl
@[simp] theorem State.save_mer (q : SaveReq) (s : State) : (State.save q s).mer = s.mer := rfl
@[simp] theorem State.save_alm (q : SaveReq) (s : State) : (State.save q s).alm = s.alm := rfl
@[simp] theorem State.save_pair (q : SaveReq) (s : State) : (State.save q s).pair = s.pair := rfl
@[simp] theorem State.save_zones (q : SaveReq) (s : State) : (State.save q s).zones = s.zones := rfl
@[simp] theorem State.save_zio (q : SaveReq) (s : State) : (State.save q s).zio = s.zio := rfl
@[simp] theorem State.save_hostIn (q : SaveReq) (s : State) : (State.save q s).hostIn = s.hostIn := rfl
@[simp] theorem State.save_helm (q : SaveReq) (s : State) : (State.save q s).helm = s.helm := rfl
@[simp] theorem State.save_plan (q : SaveReq) (s : State) : (State.save q s).plan = s.plan := rfl
@[simp] theorem State.save_forecast (q : SaveReq) (s : State) : (State.save q s).forecast = s.forecast := rfl
@[simp] theorem State.save_occ (q : SaveReq) (s : State) : (State.save q s).occ = s.occ := rfl
@[simp] theorem State.save_profile (q : SaveReq) (s : State) : (State.save q s).profile = s.profile := rfl
@[simp] theorem State.save_snd (q : SaveReq) (s : State) : (State.save q s).snd = s.snd := rfl
@[simp] theorem State.save_inp (q : SaveReq) (s : State) : (State.save q s).inp = s.inp := rfl
@[simp] theorem State.save_fld (q : SaveReq) (s : State) : (State.save q s).fld = s.fld := rfl
@[simp] theorem State.save_out (q : SaveReq) (s : State) : (State.save q s).out = s.out := rfl
@[simp] theorem State.save_bus (q : SaveReq) (s : State) : (State.save q s).bus = s.bus := rfl
@[simp] theorem State.save_svc (q : SaveReq) (s : State) : (State.save q s).svc = s.svc := rfl
@[simp] theorem State.save_policy (q : SaveReq) (s : State) : (State.save q s).policy = s.policy := rfl
@[simp] theorem State.save_chart (q : SaveReq) (s : State) : (State.save q s).chart = s.chart := rfl
@[simp] theorem State.save_tiller (q : SaveReq) (s : State) : (State.save q s).tiller = s.tiller := rfl
@[simp] theorem State.count_pending (n a : Nat) (s : State) : (State.count n a s).pending = s.pending := rfl
@[simp] theorem State.count_free (n a : Nat) (s : State) : (State.count n a s).free = s.free := rfl
@[simp] theorem State.count_clock (n a : Nat) (s : State) : (State.count n a s).clock = s.clock := rfl
@[simp] theorem State.count_ready (n a : Nat) (s : State) : (State.count n a s).ready = s.ready := rfl
@[simp] theorem State.count_mb (n a : Nat) (s : State) : (State.count n a s).mb = s.mb := rfl
@[simp] theorem State.count_tr (n a : Nat) (s : State) : (State.count n a s).tr = s.tr := rfl
@[simp] theorem State.count_cfg (n a : Nat) (s : State) : (State.count n a s).cfg = s.cfg := rfl
@[simp] theorem State.count_log (n a : Nat) (s : State) : (State.count n a s).log = s.log := rfl
@[simp] theorem State.count_bin (n a : Nat) (s : State) : (State.count n a s).bin = s.bin := rfl
@[simp] theorem State.count_sen (n a : Nat) (s : State) : (State.count n a s).sen = s.sen := rfl
@[simp] theorem State.count_sup (n a : Nat) (s : State) : (State.count n a s).sup = s.sup := rfl
@[simp] theorem State.count_mer (n a : Nat) (s : State) : (State.count n a s).mer = s.mer := rfl
@[simp] theorem State.count_alm (n a : Nat) (s : State) : (State.count n a s).alm = s.alm := rfl
@[simp] theorem State.count_pair (n a : Nat) (s : State) : (State.count n a s).pair = s.pair := rfl
@[simp] theorem State.count_zones (n a : Nat) (s : State) : (State.count n a s).zones = s.zones := rfl
@[simp] theorem State.count_zio (n a : Nat) (s : State) : (State.count n a s).zio = s.zio := rfl
@[simp] theorem State.count_hostIn (n a : Nat) (s : State) : (State.count n a s).hostIn = s.hostIn := rfl
@[simp] theorem State.count_helm (n a : Nat) (s : State) : (State.count n a s).helm = s.helm := rfl
@[simp] theorem State.count_plan (n a : Nat) (s : State) : (State.count n a s).plan = s.plan := rfl
@[simp] theorem State.count_forecast (n a : Nat) (s : State) : (State.count n a s).forecast = s.forecast := rfl
@[simp] theorem State.count_occ (n a : Nat) (s : State) : (State.count n a s).occ = s.occ := rfl
@[simp] theorem State.count_profile (n a : Nat) (s : State) : (State.count n a s).profile = s.profile := rfl
@[simp] theorem State.count_snd (n a : Nat) (s : State) : (State.count n a s).snd = s.snd := rfl
@[simp] theorem State.count_inp (n a : Nat) (s : State) : (State.count n a s).inp = s.inp := rfl
@[simp] theorem State.count_fld (n a : Nat) (s : State) : (State.count n a s).fld = s.fld := rfl
@[simp] theorem State.count_out (n a : Nat) (s : State) : (State.count n a s).out = s.out := rfl
@[simp] theorem State.count_bus (n a : Nat) (s : State) : (State.count n a s).bus = s.bus := rfl
@[simp] theorem State.count_svc (n a : Nat) (s : State) : (State.count n a s).svc = s.svc := rfl
@[simp] theorem State.count_policy (n a : Nat) (s : State) : (State.count n a s).policy = s.policy := rfl
@[simp] theorem State.count_chart (n a : Nat) (s : State) : (State.count n a s).chart = s.chart := rfl
@[simp] theorem State.count_tiller (n a : Nat) (s : State) : (State.count n a s).tiller = s.tiller := rfl
@[simp] theorem State.storeFullRecord_pending (q : SaveReq) (s : State) : (State.storeFullRecord q s).pending = s.pending := rfl
@[simp] theorem State.storeFullRecord_free (q : SaveReq) (s : State) : (State.storeFullRecord q s).free = s.free := rfl
@[simp] theorem State.storeFullRecord_clock (q : SaveReq) (s : State) : (State.storeFullRecord q s).clock = s.clock := rfl
@[simp] theorem State.storeFullRecord_ready (q : SaveReq) (s : State) : (State.storeFullRecord q s).ready = s.ready := rfl
@[simp] theorem State.storeFullRecord_mb (q : SaveReq) (s : State) : (State.storeFullRecord q s).mb = s.mb := rfl
@[simp] theorem State.storeFullRecord_tr (q : SaveReq) (s : State) : (State.storeFullRecord q s).tr = s.tr := rfl
@[simp] theorem State.storeFullRecord_cfg (q : SaveReq) (s : State) : (State.storeFullRecord q s).cfg = s.cfg := rfl
@[simp] theorem State.storeFullRecord_nv (q : SaveReq) (s : State) : (State.storeFullRecord q s).nv = s.nv := rfl
@[simp] theorem State.storeFullRecord_bin (q : SaveReq) (s : State) : (State.storeFullRecord q s).bin = s.bin := rfl
@[simp] theorem State.storeFullRecord_sen (q : SaveReq) (s : State) : (State.storeFullRecord q s).sen = s.sen := rfl
@[simp] theorem State.storeFullRecord_sup (q : SaveReq) (s : State) : (State.storeFullRecord q s).sup = s.sup := rfl
@[simp] theorem State.storeFullRecord_mer (q : SaveReq) (s : State) : (State.storeFullRecord q s).mer = s.mer := rfl
@[simp] theorem State.storeFullRecord_alm (q : SaveReq) (s : State) : (State.storeFullRecord q s).alm = s.alm := rfl
@[simp] theorem State.storeFullRecord_pair (q : SaveReq) (s : State) : (State.storeFullRecord q s).pair = s.pair := rfl
@[simp] theorem State.storeFullRecord_zones (q : SaveReq) (s : State) : (State.storeFullRecord q s).zones = s.zones := rfl
@[simp] theorem State.storeFullRecord_zio (q : SaveReq) (s : State) : (State.storeFullRecord q s).zio = s.zio := rfl
@[simp] theorem State.storeFullRecord_hostIn (q : SaveReq) (s : State) : (State.storeFullRecord q s).hostIn = s.hostIn := rfl
@[simp] theorem State.storeFullRecord_helm (q : SaveReq) (s : State) : (State.storeFullRecord q s).helm = s.helm := rfl
@[simp] theorem State.storeFullRecord_plan (q : SaveReq) (s : State) : (State.storeFullRecord q s).plan = s.plan := rfl
@[simp] theorem State.storeFullRecord_forecast (q : SaveReq) (s : State) : (State.storeFullRecord q s).forecast = s.forecast := rfl
@[simp] theorem State.storeFullRecord_occ (q : SaveReq) (s : State) : (State.storeFullRecord q s).occ = s.occ := rfl
@[simp] theorem State.storeFullRecord_profile (q : SaveReq) (s : State) : (State.storeFullRecord q s).profile = s.profile := rfl
@[simp] theorem State.storeFullRecord_snd (q : SaveReq) (s : State) : (State.storeFullRecord q s).snd = s.snd := rfl
@[simp] theorem State.storeFullRecord_inp (q : SaveReq) (s : State) : (State.storeFullRecord q s).inp = s.inp := rfl
@[simp] theorem State.storeFullRecord_fld (q : SaveReq) (s : State) : (State.storeFullRecord q s).fld = s.fld := rfl
@[simp] theorem State.storeFullRecord_out (q : SaveReq) (s : State) : (State.storeFullRecord q s).out = s.out := rfl
@[simp] theorem State.storeFullRecord_bus (q : SaveReq) (s : State) : (State.storeFullRecord q s).bus = s.bus := rfl
@[simp] theorem State.storeFullRecord_svc (q : SaveReq) (s : State) : (State.storeFullRecord q s).svc = s.svc := rfl
@[simp] theorem State.storeFullRecord_policy (q : SaveReq) (s : State) : (State.storeFullRecord q s).policy = s.policy := rfl
@[simp] theorem State.storeFullRecord_chart (q : SaveReq) (s : State) : (State.storeFullRecord q s).chart = s.chart := rfl
@[simp] theorem State.storeFullRecord_tiller (q : SaveReq) (s : State) : (State.storeFullRecord q s).tiller = s.tiller := rfl
@[simp] theorem State.forget_pending (typ key : Nat) (s : State) : (State.forget typ key s).pending = s.pending := by unfold State.forget; dsimp only; split <;> rfl
@[simp] theorem State.forget_free (typ key : Nat) (s : State) : (State.forget typ key s).free = s.free := by unfold State.forget; dsimp only; split <;> rfl
@[simp] theorem State.forget_clock (typ key : Nat) (s : State) : (State.forget typ key s).clock = s.clock := by unfold State.forget; dsimp only; split <;> rfl
@[simp] theorem State.forget_ready (typ key : Nat) (s : State) : (State.forget typ key s).ready = s.ready := by unfold State.forget; dsimp only; split <;> rfl
@[simp] theorem State.forget_mb (typ key : Nat) (s : State) : (State.forget typ key s).mb = s.mb := by unfold State.forget; dsimp only; split <;> rfl
@[simp] theorem State.forget_tr (typ key : Nat) (s : State) : (State.forget typ key s).tr = s.tr := by unfold State.forget; dsimp only; split <;> rfl
@[simp] theorem State.forget_cfg (typ key : Nat) (s : State) : (State.forget typ key s).cfg = s.cfg := by unfold State.forget; dsimp only; split <;> rfl
@[simp] theorem State.forget_log (typ key : Nat) (s : State) : (State.forget typ key s).log = s.log := by unfold State.forget; dsimp only; split <;> rfl
@[simp] theorem State.forget_bin (typ key : Nat) (s : State) : (State.forget typ key s).bin = s.bin := by unfold State.forget; dsimp only; split <;> rfl
@[simp] theorem State.forget_sen (typ key : Nat) (s : State) : (State.forget typ key s).sen = s.sen := by unfold State.forget; dsimp only; split <;> rfl
@[simp] theorem State.forget_sup (typ key : Nat) (s : State) : (State.forget typ key s).sup = s.sup := by unfold State.forget; dsimp only; split <;> rfl
@[simp] theorem State.forget_mer (typ key : Nat) (s : State) : (State.forget typ key s).mer = s.mer := by unfold State.forget; dsimp only; split <;> rfl
@[simp] theorem State.forget_alm (typ key : Nat) (s : State) : (State.forget typ key s).alm = s.alm := by unfold State.forget; dsimp only; split <;> rfl
@[simp] theorem State.forget_pair (typ key : Nat) (s : State) : (State.forget typ key s).pair = s.pair := by unfold State.forget; dsimp only; split <;> rfl
@[simp] theorem State.forget_zones (typ key : Nat) (s : State) : (State.forget typ key s).zones = s.zones := by unfold State.forget; dsimp only; split <;> rfl
@[simp] theorem State.forget_zio (typ key : Nat) (s : State) : (State.forget typ key s).zio = s.zio := by unfold State.forget; dsimp only; split <;> rfl
@[simp] theorem State.forget_hostIn (typ key : Nat) (s : State) : (State.forget typ key s).hostIn = s.hostIn := by unfold State.forget; dsimp only; split <;> rfl
@[simp] theorem State.forget_helm (typ key : Nat) (s : State) : (State.forget typ key s).helm = s.helm := by unfold State.forget; dsimp only; split <;> rfl
@[simp] theorem State.forget_plan (typ key : Nat) (s : State) : (State.forget typ key s).plan = s.plan := by unfold State.forget; dsimp only; split <;> rfl
@[simp] theorem State.forget_forecast (typ key : Nat) (s : State) : (State.forget typ key s).forecast = s.forecast := by unfold State.forget; dsimp only; split <;> rfl
@[simp] theorem State.forget_occ (typ key : Nat) (s : State) : (State.forget typ key s).occ = s.occ := by unfold State.forget; dsimp only; split <;> rfl
@[simp] theorem State.forget_profile (typ key : Nat) (s : State) : (State.forget typ key s).profile = s.profile := by unfold State.forget; dsimp only; split <;> rfl
@[simp] theorem State.forget_snd (typ key : Nat) (s : State) : (State.forget typ key s).snd = s.snd := by unfold State.forget; dsimp only; split <;> rfl
@[simp] theorem State.forget_inp (typ key : Nat) (s : State) : (State.forget typ key s).inp = s.inp := by unfold State.forget; dsimp only; split <;> rfl
@[simp] theorem State.forget_fld (typ key : Nat) (s : State) : (State.forget typ key s).fld = s.fld := by unfold State.forget; dsimp only; split <;> rfl
@[simp] theorem State.forget_out (typ key : Nat) (s : State) : (State.forget typ key s).out = s.out := by unfold State.forget; dsimp only; split <;> rfl
@[simp] theorem State.forget_bus (typ key : Nat) (s : State) : (State.forget typ key s).bus = s.bus := by unfold State.forget; dsimp only; split <;> rfl
@[simp] theorem State.forget_svc (typ key : Nat) (s : State) : (State.forget typ key s).svc = s.svc := by unfold State.forget; dsimp only; split <;> rfl
@[simp] theorem State.forget_policy (typ key : Nat) (s : State) : (State.forget typ key s).policy = s.policy := by unfold State.forget; dsimp only; split <;> rfl
@[simp] theorem State.forget_chart (typ key : Nat) (s : State) : (State.forget typ key s).chart = s.chart := by unfold State.forget; dsimp only; split <;> rfl
@[simp] theorem State.forget_tiller (typ key : Nat) (s : State) : (State.forget typ key s).tiller = s.tiller := by unfold State.forget; dsimp only; split <;> rfl
@[simp] theorem State.saveNow_pending (q : SaveReq) (s : State) : ((State.saveNow q s).2).pending = s.pending := by unfold State.saveNow; (repeat' split) <;> simp
@[simp] theorem State.saveNow_free (q : SaveReq) (s : State) : ((State.saveNow q s).2).free = s.free := by unfold State.saveNow; (repeat' split) <;> simp
@[simp] theorem State.saveNow_clock (q : SaveReq) (s : State) : ((State.saveNow q s).2).clock = s.clock := by unfold State.saveNow; (repeat' split) <;> simp
@[simp] theorem State.saveNow_ready (q : SaveReq) (s : State) : ((State.saveNow q s).2).ready = s.ready := by unfold State.saveNow; (repeat' split) <;> simp
@[simp] theorem State.saveNow_mb (q : SaveReq) (s : State) : ((State.saveNow q s).2).mb = s.mb := by unfold State.saveNow; (repeat' split) <;> simp
@[simp] theorem State.saveNow_tr (q : SaveReq) (s : State) : ((State.saveNow q s).2).tr = s.tr := by unfold State.saveNow; (repeat' split) <;> simp
@[simp] theorem State.saveNow_cfg (q : SaveReq) (s : State) : ((State.saveNow q s).2).cfg = s.cfg := by unfold State.saveNow; (repeat' split) <;> simp
@[simp] theorem State.saveNow_bin (q : SaveReq) (s : State) : ((State.saveNow q s).2).bin = s.bin := by unfold State.saveNow; (repeat' split) <;> simp
@[simp] theorem State.saveNow_sen (q : SaveReq) (s : State) : ((State.saveNow q s).2).sen = s.sen := by unfold State.saveNow; (repeat' split) <;> simp
@[simp] theorem State.saveNow_sup (q : SaveReq) (s : State) : ((State.saveNow q s).2).sup = s.sup := by unfold State.saveNow; (repeat' split) <;> simp
@[simp] theorem State.saveNow_mer (q : SaveReq) (s : State) : ((State.saveNow q s).2).mer = s.mer := by unfold State.saveNow; (repeat' split) <;> simp
@[simp] theorem State.saveNow_alm (q : SaveReq) (s : State) : ((State.saveNow q s).2).alm = s.alm := by unfold State.saveNow; (repeat' split) <;> simp
@[simp] theorem State.saveNow_pair (q : SaveReq) (s : State) : ((State.saveNow q s).2).pair = s.pair := by unfold State.saveNow; (repeat' split) <;> simp
@[simp] theorem State.saveNow_zones (q : SaveReq) (s : State) : ((State.saveNow q s).2).zones = s.zones := by unfold State.saveNow; (repeat' split) <;> simp
@[simp] theorem State.saveNow_zio (q : SaveReq) (s : State) : ((State.saveNow q s).2).zio = s.zio := by unfold State.saveNow; (repeat' split) <;> simp
@[simp] theorem State.saveNow_hostIn (q : SaveReq) (s : State) : ((State.saveNow q s).2).hostIn = s.hostIn := by unfold State.saveNow; (repeat' split) <;> simp
@[simp] theorem State.saveNow_helm (q : SaveReq) (s : State) : ((State.saveNow q s).2).helm = s.helm := by unfold State.saveNow; (repeat' split) <;> simp
@[simp] theorem State.saveNow_plan (q : SaveReq) (s : State) : ((State.saveNow q s).2).plan = s.plan := by unfold State.saveNow; (repeat' split) <;> simp
@[simp] theorem State.saveNow_forecast (q : SaveReq) (s : State) : ((State.saveNow q s).2).forecast = s.forecast := by unfold State.saveNow; (repeat' split) <;> simp
@[simp] theorem State.saveNow_occ (q : SaveReq) (s : State) : ((State.saveNow q s).2).occ = s.occ := by unfold State.saveNow; (repeat' split) <;> simp
@[simp] theorem State.saveNow_profile (q : SaveReq) (s : State) : ((State.saveNow q s).2).profile = s.profile := by unfold State.saveNow; (repeat' split) <;> simp
@[simp] theorem State.saveNow_snd (q : SaveReq) (s : State) : ((State.saveNow q s).2).snd = s.snd := by unfold State.saveNow; (repeat' split) <;> simp
@[simp] theorem State.saveNow_inp (q : SaveReq) (s : State) : ((State.saveNow q s).2).inp = s.inp := by unfold State.saveNow; (repeat' split) <;> simp
@[simp] theorem State.saveNow_fld (q : SaveReq) (s : State) : ((State.saveNow q s).2).fld = s.fld := by unfold State.saveNow; (repeat' split) <;> simp
@[simp] theorem State.saveNow_out (q : SaveReq) (s : State) : ((State.saveNow q s).2).out = s.out := by unfold State.saveNow; (repeat' split) <;> simp
@[simp] theorem State.saveNow_bus (q : SaveReq) (s : State) : ((State.saveNow q s).2).bus = s.bus := by unfold State.saveNow; (repeat' split) <;> simp
@[simp] theorem State.saveNow_svc (q : SaveReq) (s : State) : ((State.saveNow q s).2).svc = s.svc := by unfold State.saveNow; (repeat' split) <;> simp
@[simp] theorem State.saveNow_policy (q : SaveReq) (s : State) : ((State.saveNow q s).2).policy = s.policy := by unfold State.saveNow; (repeat' split) <;> simp
@[simp] theorem State.saveNow_chart (q : SaveReq) (s : State) : ((State.saveNow q s).2).chart = s.chart := by unfold State.saveNow; (repeat' split) <;> simp
@[simp] theorem State.saveNow_tiller (q : SaveReq) (s : State) : ((State.saveNow q s).2).tiller = s.tiller := by unfold State.saveNow; (repeat' split) <;> simp

end Sys2Proof.Machine
end

