-- ==== Sys2Proof/Laws/Server.lean ====
section
/-! SUPPORT. Laws/Server.lean: what the operations every mailbox command shares leave as it is, and what serving one request
does. -/

namespace Sys2Proof.Machine

@[simp] theorem State.addFlight_pending (d : OpDef) (r : Req) (s : State) : (State.addFlight d r s).pending = s.pending := rfl
@[simp] theorem State.addFlight_free (d : OpDef) (r : Req) (s : State) : (State.addFlight d r s).free = s.free := rfl
@[simp] theorem State.addFlight_clock (d : OpDef) (r : Req) (s : State) : (State.addFlight d r s).clock = s.clock := rfl
@[simp] theorem State.addFlight_ready (d : OpDef) (r : Req) (s : State) : (State.addFlight d r s).ready = s.ready := rfl
@[simp] theorem State.addFlight_tr (d : OpDef) (r : Req) (s : State) : (State.addFlight d r s).tr = s.tr := rfl
@[simp] theorem State.addFlight_cfg (d : OpDef) (r : Req) (s : State) : (State.addFlight d r s).cfg = s.cfg := rfl
@[simp] theorem State.addFlight_nv (d : OpDef) (r : Req) (s : State) : (State.addFlight d r s).nv = s.nv := rfl
@[simp] theorem State.addFlight_log (d : OpDef) (r : Req) (s : State) : (State.addFlight d r s).log = s.log := rfl
@[simp] theorem State.addFlight_bin (d : OpDef) (r : Req) (s : State) : (State.addFlight d r s).bin = s.bin := rfl
@[simp] theorem State.addFlight_sen (d : OpDef) (r : Req) (s : State) : (State.addFlight d r s).sen = s.sen := rfl
@[simp] theorem State.addFlight_sup (d : OpDef) (r : Req) (s : State) : (State.addFlight d r s).sup = s.sup := rfl
@[simp] theorem State.addFlight_mer (d : OpDef) (r : Req) (s : State) : (State.addFlight d r s).mer = s.mer := rfl
@[simp] theorem State.addFlight_alm (d : OpDef) (r : Req) (s : State) : (State.addFlight d r s).alm = s.alm := rfl
@[simp] theorem State.addFlight_pair (d : OpDef) (r : Req) (s : State) : (State.addFlight d r s).pair = s.pair := rfl
@[simp] theorem State.addFlight_zones (d : OpDef) (r : Req) (s : State) : (State.addFlight d r s).zones = s.zones := rfl
@[simp] theorem State.addFlight_zio (d : OpDef) (r : Req) (s : State) : (State.addFlight d r s).zio = s.zio := rfl
@[simp] theorem State.addFlight_hostIn (d : OpDef) (r : Req) (s : State) : (State.addFlight d r s).hostIn = s.hostIn := rfl
@[simp] theorem State.addFlight_helm (d : OpDef) (r : Req) (s : State) : (State.addFlight d r s).helm = s.helm := rfl
@[simp] theorem State.addFlight_plan (d : OpDef) (r : Req) (s : State) : (State.addFlight d r s).plan = s.plan := rfl
@[simp] theorem State.addFlight_forecast (d : OpDef) (r : Req) (s : State) : (State.addFlight d r s).forecast = s.forecast := rfl
@[simp] theorem State.addFlight_occ (d : OpDef) (r : Req) (s : State) : (State.addFlight d r s).occ = s.occ := rfl
@[simp] theorem State.addFlight_profile (d : OpDef) (r : Req) (s : State) : (State.addFlight d r s).profile = s.profile := rfl
@[simp] theorem State.addFlight_snd (d : OpDef) (r : Req) (s : State) : (State.addFlight d r s).snd = s.snd := rfl
@[simp] theorem State.addFlight_inp (d : OpDef) (r : Req) (s : State) : (State.addFlight d r s).inp = s.inp := rfl
@[simp] theorem State.addFlight_fld (d : OpDef) (r : Req) (s : State) : (State.addFlight d r s).fld = s.fld := rfl
@[simp] theorem State.addFlight_out (d : OpDef) (r : Req) (s : State) : (State.addFlight d r s).out = s.out := rfl
@[simp] theorem State.addFlight_bus (d : OpDef) (r : Req) (s : State) : (State.addFlight d r s).bus = s.bus := rfl
@[simp] theorem State.addFlight_svc (d : OpDef) (r : Req) (s : State) : (State.addFlight d r s).svc = s.svc := rfl
@[simp] theorem State.addFlight_policy (d : OpDef) (r : Req) (s : State) : (State.addFlight d r s).policy = s.policy := rfl
@[simp] theorem State.addFlight_chart (d : OpDef) (r : Req) (s : State) : (State.addFlight d r s).chart = s.chart := rfl
@[simp] theorem State.addFlight_tiller (d : OpDef) (r : Req) (s : State) : (State.addFlight d r s).tiller = s.tiller := rfl
@[simp] theorem State.reject_pending (c o : Nat) (r : Req) (st : Status) (s : State) : (State.reject c o r st s).pending = s.pending := rfl
@[simp] theorem State.reject_free (c o : Nat) (r : Req) (st : Status) (s : State) : (State.reject c o r st s).free = s.free := rfl
@[simp] theorem State.reject_clock (c o : Nat) (r : Req) (st : Status) (s : State) : (State.reject c o r st s).clock = s.clock := rfl
@[simp] theorem State.reject_ready (c o : Nat) (r : Req) (st : Status) (s : State) : (State.reject c o r st s).ready = s.ready := rfl
@[simp] theorem State.reject_tr (c o : Nat) (r : Req) (st : Status) (s : State) : (State.reject c o r st s).tr = s.tr := rfl
@[simp] theorem State.reject_cfg (c o : Nat) (r : Req) (st : Status) (s : State) : (State.reject c o r st s).cfg = s.cfg := rfl
@[simp] theorem State.reject_nv (c o : Nat) (r : Req) (st : Status) (s : State) : (State.reject c o r st s).nv = s.nv := rfl
@[simp] theorem State.reject_log (c o : Nat) (r : Req) (st : Status) (s : State) : (State.reject c o r st s).log = s.log := rfl
@[simp] theorem State.reject_bin (c o : Nat) (r : Req) (st : Status) (s : State) : (State.reject c o r st s).bin = s.bin := rfl
@[simp] theorem State.reject_sen (c o : Nat) (r : Req) (st : Status) (s : State) : (State.reject c o r st s).sen = s.sen := rfl
@[simp] theorem State.reject_sup (c o : Nat) (r : Req) (st : Status) (s : State) : (State.reject c o r st s).sup = s.sup := rfl
@[simp] theorem State.reject_mer (c o : Nat) (r : Req) (st : Status) (s : State) : (State.reject c o r st s).mer = s.mer := rfl
@[simp] theorem State.reject_alm (c o : Nat) (r : Req) (st : Status) (s : State) : (State.reject c o r st s).alm = s.alm := rfl
@[simp] theorem State.reject_pair (c o : Nat) (r : Req) (st : Status) (s : State) : (State.reject c o r st s).pair = s.pair := rfl
@[simp] theorem State.reject_zones (c o : Nat) (r : Req) (st : Status) (s : State) : (State.reject c o r st s).zones = s.zones := rfl
@[simp] theorem State.reject_zio (c o : Nat) (r : Req) (st : Status) (s : State) : (State.reject c o r st s).zio = s.zio := rfl
@[simp] theorem State.reject_hostIn (c o : Nat) (r : Req) (st : Status) (s : State) : (State.reject c o r st s).hostIn = s.hostIn := rfl
@[simp] theorem State.reject_helm (c o : Nat) (r : Req) (st : Status) (s : State) : (State.reject c o r st s).helm = s.helm := rfl
@[simp] theorem State.reject_plan (c o : Nat) (r : Req) (st : Status) (s : State) : (State.reject c o r st s).plan = s.plan := rfl
@[simp] theorem State.reject_forecast (c o : Nat) (r : Req) (st : Status) (s : State) : (State.reject c o r st s).forecast = s.forecast := rfl
@[simp] theorem State.reject_occ (c o : Nat) (r : Req) (st : Status) (s : State) : (State.reject c o r st s).occ = s.occ := rfl
@[simp] theorem State.reject_profile (c o : Nat) (r : Req) (st : Status) (s : State) : (State.reject c o r st s).profile = s.profile := rfl
@[simp] theorem State.reject_snd (c o : Nat) (r : Req) (st : Status) (s : State) : (State.reject c o r st s).snd = s.snd := rfl
@[simp] theorem State.reject_inp (c o : Nat) (r : Req) (st : Status) (s : State) : (State.reject c o r st s).inp = s.inp := rfl
@[simp] theorem State.reject_fld (c o : Nat) (r : Req) (st : Status) (s : State) : (State.reject c o r st s).fld = s.fld := rfl
@[simp] theorem State.reject_out (c o : Nat) (r : Req) (st : Status) (s : State) : (State.reject c o r st s).out = s.out := rfl
@[simp] theorem State.reject_bus (c o : Nat) (r : Req) (st : Status) (s : State) : (State.reject c o r st s).bus = s.bus := rfl
@[simp] theorem State.reject_svc (c o : Nat) (r : Req) (st : Status) (s : State) : (State.reject c o r st s).svc = s.svc := rfl
@[simp] theorem State.reject_policy (c o : Nat) (r : Req) (st : Status) (s : State) : (State.reject c o r st s).policy = s.policy := rfl
@[simp] theorem State.reject_chart (c o : Nat) (r : Req) (st : Status) (s : State) : (State.reject c o r st s).chart = s.chart := rfl
@[simp] theorem State.reject_tiller (c o : Nat) (r : Req) (st : Status) (s : State) : (State.reject c o r st s).tiller = s.tiller := rfl
@[simp] theorem State.finishIf_pending (p : Flight → Bool) (x : Resp) (s : State) : (State.finishIf p x s).pending = s.pending := rfl
@[simp] theorem State.finishIf_free (p : Flight → Bool) (x : Resp) (s : State) : (State.finishIf p x s).free = s.free := rfl
@[simp] theorem State.finishIf_clock (p : Flight → Bool) (x : Resp) (s : State) : (State.finishIf p x s).clock = s.clock := rfl
@[simp] theorem State.finishIf_ready (p : Flight → Bool) (x : Resp) (s : State) : (State.finishIf p x s).ready = s.ready := rfl
@[simp] theorem State.finishIf_tr (p : Flight → Bool) (x : Resp) (s : State) : (State.finishIf p x s).tr = s.tr := rfl
@[simp] theorem State.finishIf_cfg (p : Flight → Bool) (x : Resp) (s : State) : (State.finishIf p x s).cfg = s.cfg := rfl
@[simp] theorem State.finishIf_nv (p : Flight → Bool) (x : Resp) (s : State) : (State.finishIf p x s).nv = s.nv := rfl
@[simp] theorem State.finishIf_log (p : Flight → Bool) (x : Resp) (s : State) : (State.finishIf p x s).log = s.log := rfl
@[simp] theorem State.finishIf_bin (p : Flight → Bool) (x : Resp) (s : State) : (State.finishIf p x s).bin = s.bin := rfl
@[simp] theorem State.finishIf_sen (p : Flight → Bool) (x : Resp) (s : State) : (State.finishIf p x s).sen = s.sen := rfl
@[simp] theorem State.finishIf_sup (p : Flight → Bool) (x : Resp) (s : State) : (State.finishIf p x s).sup = s.sup := rfl
@[simp] theorem State.finishIf_mer (p : Flight → Bool) (x : Resp) (s : State) : (State.finishIf p x s).mer = s.mer := rfl
@[simp] theorem State.finishIf_alm (p : Flight → Bool) (x : Resp) (s : State) : (State.finishIf p x s).alm = s.alm := rfl
@[simp] theorem State.finishIf_pair (p : Flight → Bool) (x : Resp) (s : State) : (State.finishIf p x s).pair = s.pair := rfl
@[simp] theorem State.finishIf_zones (p : Flight → Bool) (x : Resp) (s : State) : (State.finishIf p x s).zones = s.zones := rfl
@[simp] theorem State.finishIf_zio (p : Flight → Bool) (x : Resp) (s : State) : (State.finishIf p x s).zio = s.zio := rfl
@[simp] theorem State.finishIf_hostIn (p : Flight → Bool) (x : Resp) (s : State) : (State.finishIf p x s).hostIn = s.hostIn := rfl
@[simp] theorem State.finishIf_helm (p : Flight → Bool) (x : Resp) (s : State) : (State.finishIf p x s).helm = s.helm := rfl
@[simp] theorem State.finishIf_plan (p : Flight → Bool) (x : Resp) (s : State) : (State.finishIf p x s).plan = s.plan := rfl
@[simp] theorem State.finishIf_forecast (p : Flight → Bool) (x : Resp) (s : State) : (State.finishIf p x s).forecast = s.forecast := rfl
@[simp] theorem State.finishIf_occ (p : Flight → Bool) (x : Resp) (s : State) : (State.finishIf p x s).occ = s.occ := rfl
@[simp] theorem State.finishIf_profile (p : Flight → Bool) (x : Resp) (s : State) : (State.finishIf p x s).profile = s.profile := rfl
@[simp] theorem State.finishIf_snd (p : Flight → Bool) (x : Resp) (s : State) : (State.finishIf p x s).snd = s.snd := rfl
@[simp] theorem State.finishIf_inp (p : Flight → Bool) (x : Resp) (s : State) : (State.finishIf p x s).inp = s.inp := rfl
@[simp] theorem State.finishIf_fld (p : Flight → Bool) (x : Resp) (s : State) : (State.finishIf p x s).fld = s.fld := rfl
@[simp] theorem State.finishIf_out (p : Flight → Bool) (x : Resp) (s : State) : (State.finishIf p x s).out = s.out := rfl
@[simp] theorem State.finishIf_bus (p : Flight → Bool) (x : Resp) (s : State) : (State.finishIf p x s).bus = s.bus := rfl
@[simp] theorem State.finishIf_svc (p : Flight → Bool) (x : Resp) (s : State) : (State.finishIf p x s).svc = s.svc := rfl
@[simp] theorem State.finishIf_policy (p : Flight → Bool) (x : Resp) (s : State) : (State.finishIf p x s).policy = s.policy := rfl
@[simp] theorem State.finishIf_chart (p : Flight → Bool) (x : Resp) (s : State) : (State.finishIf p x s).chart = s.chart := rfl
@[simp] theorem State.finishIf_tiller (p : Flight → Bool) (x : Resp) (s : State) : (State.finishIf p x s).tiller = s.tiller := rfl
@[simp] theorem State.finish_pending (n tag : Nat) (x : Resp) (s : State) : (State.finish n tag x s).pending = s.pending := rfl
@[simp] theorem State.finish_free (n tag : Nat) (x : Resp) (s : State) : (State.finish n tag x s).free = s.free := rfl
@[simp] theorem State.finish_clock (n tag : Nat) (x : Resp) (s : State) : (State.finish n tag x s).clock = s.clock := rfl
@[simp] theorem State.finish_ready (n tag : Nat) (x : Resp) (s : State) : (State.finish n tag x s).ready = s.ready := rfl
@[simp] theorem State.finish_tr (n tag : Nat) (x : Resp) (s : State) : (State.finish n tag x s).tr = s.tr := rfl
@[simp] theorem State.finish_cfg (n tag : Nat) (x : Resp) (s : State) : (State.finish n tag x s).cfg = s.cfg := rfl
@[simp] theorem State.finish_nv (n tag : Nat) (x : Resp) (s : State) : (State.finish n tag x s).nv = s.nv := rfl
@[simp] theorem State.finish_log (n tag : Nat) (x : Resp) (s : State) : (State.finish n tag x s).log = s.log := rfl
@[simp] theorem State.finish_bin (n tag : Nat) (x : Resp) (s : State) : (State.finish n tag x s).bin = s.bin := rfl
@[simp] theorem State.finish_sen (n tag : Nat) (x : Resp) (s : State) : (State.finish n tag x s).sen = s.sen := rfl
@[simp] theorem State.finish_sup (n tag : Nat) (x : Resp) (s : State) : (State.finish n tag x s).sup = s.sup := rfl
@[simp] theorem State.finish_mer (n tag : Nat) (x : Resp) (s : State) : (State.finish n tag x s).mer = s.mer := rfl
@[simp] theorem State.finish_alm (n tag : Nat) (x : Resp) (s : State) : (State.finish n tag x s).alm = s.alm := rfl
@[simp] theorem State.finish_pair (n tag : Nat) (x : Resp) (s : State) : (State.finish n tag x s).pair = s.pair := rfl
@[simp] theorem State.finish_zones (n tag : Nat) (x : Resp) (s : State) : (State.finish n tag x s).zones = s.zones := rfl
@[simp] theorem State.finish_zio (n tag : Nat) (x : Resp) (s : State) : (State.finish n tag x s).zio = s.zio := rfl
@[simp] theorem State.finish_hostIn (n tag : Nat) (x : Resp) (s : State) : (State.finish n tag x s).hostIn = s.hostIn := rfl
@[simp] theorem State.finish_helm (n tag : Nat) (x : Resp) (s : State) : (State.finish n tag x s).helm = s.helm := rfl
@[simp] theorem State.finish_plan (n tag : Nat) (x : Resp) (s : State) : (State.finish n tag x s).plan = s.plan := rfl
@[simp] theorem State.finish_forecast (n tag : Nat) (x : Resp) (s : State) : (State.finish n tag x s).forecast = s.forecast := rfl
@[simp] theorem State.finish_occ (n tag : Nat) (x : Resp) (s : State) : (State.finish n tag x s).occ = s.occ := rfl
@[simp] theorem State.finish_profile (n tag : Nat) (x : Resp) (s : State) : (State.finish n tag x s).profile = s.profile := rfl
@[simp] theorem State.finish_snd (n tag : Nat) (x : Resp) (s : State) : (State.finish n tag x s).snd = s.snd := rfl
@[simp] theorem State.finish_inp (n tag : Nat) (x : Resp) (s : State) : (State.finish n tag x s).inp = s.inp := rfl
@[simp] theorem State.finish_fld (n tag : Nat) (x : Resp) (s : State) : (State.finish n tag x s).fld = s.fld := rfl
@[simp] theorem State.finish_out (n tag : Nat) (x : Resp) (s : State) : (State.finish n tag x s).out = s.out := rfl
@[simp] theorem State.finish_bus (n tag : Nat) (x : Resp) (s : State) : (State.finish n tag x s).bus = s.bus := rfl
@[simp] theorem State.finish_svc (n tag : Nat) (x : Resp) (s : State) : (State.finish n tag x s).svc = s.svc := rfl
@[simp] theorem State.finish_policy (n tag : Nat) (x : Resp) (s : State) : (State.finish n tag x s).policy = s.policy := rfl
@[simp] theorem State.finish_chart (n tag : Nat) (x : Resp) (s : State) : (State.finish n tag x s).chart = s.chart := rfl
@[simp] theorem State.finish_tiller (n tag : Nat) (x : Resp) (s : State) : (State.finish n tag x s).tiller = s.tiller := rfl
@[simp] theorem State.answer_pending (w : Option Waiter) (x : Resp) (s : State) : (State.answer w x s).pending = s.pending := by unfold State.answer; split <;> rfl
@[simp] theorem State.answer_free (w : Option Waiter) (x : Resp) (s : State) : (State.answer w x s).free = s.free := by unfold State.answer; split <;> rfl
@[simp] theorem State.answer_clock (w : Option Waiter) (x : Resp) (s : State) : (State.answer w x s).clock = s.clock := by unfold State.answer; split <;> rfl
@[simp] theorem State.answer_ready (w : Option Waiter) (x : Resp) (s : State) : (State.answer w x s).ready = s.ready := by unfold State.answer; split <;> rfl
@[simp] theorem State.answer_tr (w : Option Waiter) (x : Resp) (s : State) : (State.answer w x s).tr = s.tr := by unfold State.answer; split <;> rfl
@[simp] theorem State.answer_cfg (w : Option Waiter) (x : Resp) (s : State) : (State.answer w x s).cfg = s.cfg := by unfold State.answer; split <;> rfl
@[simp] theorem State.answer_nv (w : Option Waiter) (x : Resp) (s : State) : (State.answer w x s).nv = s.nv := by unfold State.answer; split <;> rfl
@[simp] theorem State.answer_log (w : Option Waiter) (x : Resp) (s : State) : (State.answer w x s).log = s.log := by unfold State.answer; split <;> rfl
@[simp] theorem State.answer_bin (w : Option Waiter) (x : Resp) (s : State) : (State.answer w x s).bin = s.bin := by unfold State.answer; split <;> rfl
@[simp] theorem State.answer_sen (w : Option Waiter) (x : Resp) (s : State) : (State.answer w x s).sen = s.sen := by unfold State.answer; split <;> rfl
@[simp] theorem State.answer_sup (w : Option Waiter) (x : Resp) (s : State) : (State.answer w x s).sup = s.sup := by unfold State.answer; split <;> rfl
@[simp] theorem State.answer_mer (w : Option Waiter) (x : Resp) (s : State) : (State.answer w x s).mer = s.mer := by unfold State.answer; split <;> rfl
@[simp] theorem State.answer_alm (w : Option Waiter) (x : Resp) (s : State) : (State.answer w x s).alm = s.alm := by unfold State.answer; split <;> rfl
@[simp] theorem State.answer_pair (w : Option Waiter) (x : Resp) (s : State) : (State.answer w x s).pair = s.pair := by unfold State.answer; split <;> rfl
@[simp] theorem State.answer_zones (w : Option Waiter) (x : Resp) (s : State) : (State.answer w x s).zones = s.zones := by unfold State.answer; split <;> rfl
@[simp] theorem State.answer_zio (w : Option Waiter) (x : Resp) (s : State) : (State.answer w x s).zio = s.zio := by unfold State.answer; split <;> rfl
@[simp] theorem State.answer_hostIn (w : Option Waiter) (x : Resp) (s : State) : (State.answer w x s).hostIn = s.hostIn := by unfold State.answer; split <;> rfl
@[simp] theorem State.answer_helm (w : Option Waiter) (x : Resp) (s : State) : (State.answer w x s).helm = s.helm := by unfold State.answer; split <;> rfl
@[simp] theorem State.answer_plan (w : Option Waiter) (x : Resp) (s : State) : (State.answer w x s).plan = s.plan := by unfold State.answer; split <;> rfl
@[simp] theorem State.answer_forecast (w : Option Waiter) (x : Resp) (s : State) : (State.answer w x s).forecast = s.forecast := by unfold State.answer; split <;> rfl
@[simp] theorem State.answer_occ (w : Option Waiter) (x : Resp) (s : State) : (State.answer w x s).occ = s.occ := by unfold State.answer; split <;> rfl
@[simp] theorem State.answer_profile (w : Option Waiter) (x : Resp) (s : State) : (State.answer w x s).profile = s.profile := by unfold State.answer; split <;> rfl
@[simp] theorem State.answer_snd (w : Option Waiter) (x : Resp) (s : State) : (State.answer w x s).snd = s.snd := by unfold State.answer; split <;> rfl
@[simp] theorem State.answer_inp (w : Option Waiter) (x : Resp) (s : State) : (State.answer w x s).inp = s.inp := by unfold State.answer; split <;> rfl
@[simp] theorem State.answer_fld (w : Option Waiter) (x : Resp) (s : State) : (State.answer w x s).fld = s.fld := by unfold State.answer; split <;> rfl
@[simp] theorem State.answer_out (w : Option Waiter) (x : Resp) (s : State) : (State.answer w x s).out = s.out := by unfold State.answer; split <;> rfl
@[simp] theorem State.answer_bus (w : Option Waiter) (x : Resp) (s : State) : (State.answer w x s).bus = s.bus := by unfold State.answer; split <;> rfl
@[simp] theorem State.answer_svc (w : Option Waiter) (x : Resp) (s : State) : (State.answer w x s).svc = s.svc := by unfold State.answer; split <;> rfl
@[simp] theorem State.answer_policy (w : Option Waiter) (x : Resp) (s : State) : (State.answer w x s).policy = s.policy := by unfold State.answer; split <;> rfl
@[simp] theorem State.answer_chart (w : Option Waiter) (x : Resp) (s : State) : (State.answer w x s).chart = s.chart := by unfold State.answer; split <;> rfl
@[simp] theorem State.answer_tiller (w : Option Waiter) (x : Resp) (s : State) : (State.answer w x s).tiller = s.tiller := by unfold State.answer; split <;> rfl
@[simp] theorem State.addInterim_pending (d : OpDef) (r : Req) (x : Resp) (s : State) : (State.addInterim d r x s).pending = s.pending := by unfold State.addInterim; split <;> rfl
@[simp] theorem State.addInterim_free (d : OpDef) (r : Req) (x : Resp) (s : State) : (State.addInterim d r x s).free = s.free := by unfold State.addInterim; split <;> rfl
@[simp] theorem State.addInterim_clock (d : OpDef) (r : Req) (x : Resp) (s : State) : (State.addInterim d r x s).clock = s.clock := by unfold State.addInterim; split <;> rfl
@[simp] theorem State.addInterim_ready (d : OpDef) (r : Req) (x : Resp) (s : State) : (State.addInterim d r x s).ready = s.ready := by unfold State.addInterim; split <;> rfl
@[simp] theorem State.addInterim_tr (d : OpDef) (r : Req) (x : Resp) (s : State) : (State.addInterim d r x s).tr = s.tr := by unfold State.addInterim; split <;> rfl
@[simp] theorem State.addInterim_cfg (d : OpDef) (r : Req) (x : Resp) (s : State) : (State.addInterim d r x s).cfg = s.cfg := by unfold State.addInterim; split <;> rfl
@[simp] theorem State.addInterim_nv (d : OpDef) (r : Req) (x : Resp) (s : State) : (State.addInterim d r x s).nv = s.nv := by unfold State.addInterim; split <;> rfl
@[simp] theorem State.addInterim_log (d : OpDef) (r : Req) (x : Resp) (s : State) : (State.addInterim d r x s).log = s.log := by unfold State.addInterim; split <;> rfl
@[simp] theorem State.addInterim_bin (d : OpDef) (r : Req) (x : Resp) (s : State) : (State.addInterim d r x s).bin = s.bin := by unfold State.addInterim; split <;> rfl
@[simp] theorem State.addInterim_sen (d : OpDef) (r : Req) (x : Resp) (s : State) : (State.addInterim d r x s).sen = s.sen := by unfold State.addInterim; split <;> rfl
@[simp] theorem State.addInterim_sup (d : OpDef) (r : Req) (x : Resp) (s : State) : (State.addInterim d r x s).sup = s.sup := by unfold State.addInterim; split <;> rfl
@[simp] theorem State.addInterim_mer (d : OpDef) (r : Req) (x : Resp) (s : State) : (State.addInterim d r x s).mer = s.mer := by unfold State.addInterim; split <;> rfl
@[simp] theorem State.addInterim_alm (d : OpDef) (r : Req) (x : Resp) (s : State) : (State.addInterim d r x s).alm = s.alm := by unfold State.addInterim; split <;> rfl
@[simp] theorem State.addInterim_pair (d : OpDef) (r : Req) (x : Resp) (s : State) : (State.addInterim d r x s).pair = s.pair := by unfold State.addInterim; split <;> rfl
@[simp] theorem State.addInterim_zones (d : OpDef) (r : Req) (x : Resp) (s : State) : (State.addInterim d r x s).zones = s.zones := by unfold State.addInterim; split <;> rfl
@[simp] theorem State.addInterim_zio (d : OpDef) (r : Req) (x : Resp) (s : State) : (State.addInterim d r x s).zio = s.zio := by unfold State.addInterim; split <;> rfl
@[simp] theorem State.addInterim_hostIn (d : OpDef) (r : Req) (x : Resp) (s : State) : (State.addInterim d r x s).hostIn = s.hostIn := by unfold State.addInterim; split <;> rfl
@[simp] theorem State.addInterim_helm (d : OpDef) (r : Req) (x : Resp) (s : State) : (State.addInterim d r x s).helm = s.helm := by unfold State.addInterim; split <;> rfl
@[simp] theorem State.addInterim_plan (d : OpDef) (r : Req) (x : Resp) (s : State) : (State.addInterim d r x s).plan = s.plan := by unfold State.addInterim; split <;> rfl
@[simp] theorem State.addInterim_forecast (d : OpDef) (r : Req) (x : Resp) (s : State) : (State.addInterim d r x s).forecast = s.forecast := by unfold State.addInterim; split <;> rfl
@[simp] theorem State.addInterim_occ (d : OpDef) (r : Req) (x : Resp) (s : State) : (State.addInterim d r x s).occ = s.occ := by unfold State.addInterim; split <;> rfl
@[simp] theorem State.addInterim_profile (d : OpDef) (r : Req) (x : Resp) (s : State) : (State.addInterim d r x s).profile = s.profile := by unfold State.addInterim; split <;> rfl
@[simp] theorem State.addInterim_snd (d : OpDef) (r : Req) (x : Resp) (s : State) : (State.addInterim d r x s).snd = s.snd := by unfold State.addInterim; split <;> rfl
@[simp] theorem State.addInterim_inp (d : OpDef) (r : Req) (x : Resp) (s : State) : (State.addInterim d r x s).inp = s.inp := by unfold State.addInterim; split <;> rfl
@[simp] theorem State.addInterim_fld (d : OpDef) (r : Req) (x : Resp) (s : State) : (State.addInterim d r x s).fld = s.fld := by unfold State.addInterim; split <;> rfl
@[simp] theorem State.addInterim_out (d : OpDef) (r : Req) (x : Resp) (s : State) : (State.addInterim d r x s).out = s.out := by unfold State.addInterim; split <;> rfl
@[simp] theorem State.addInterim_bus (d : OpDef) (r : Req) (x : Resp) (s : State) : (State.addInterim d r x s).bus = s.bus := by unfold State.addInterim; split <;> rfl
@[simp] theorem State.addInterim_svc (d : OpDef) (r : Req) (x : Resp) (s : State) : (State.addInterim d r x s).svc = s.svc := by unfold State.addInterim; split <;> rfl
@[simp] theorem State.addInterim_policy (d : OpDef) (r : Req) (x : Resp) (s : State) : (State.addInterim d r x s).policy = s.policy := by unfold State.addInterim; split <;> rfl
@[simp] theorem State.addInterim_chart (d : OpDef) (r : Req) (x : Resp) (s : State) : (State.addInterim d r x s).chart = s.chart := by unfold State.addInterim; split <;> rfl
@[simp] theorem State.addInterim_tiller (d : OpDef) (r : Req) (x : Resp) (s : State) : (State.addInterim d r x s).tiller = s.tiller := by unfold State.addInterim; split <;> rfl
@[simp] theorem State.settle_pending (s : State) : (s.settle).pending = s.pending := by unfold State.settle; exact foldl_keeps State.pending _ _ _ (fun _ _ => rfl)
@[simp] theorem State.settle_free (s : State) : (s.settle).free = s.free := by unfold State.settle; exact foldl_keeps State.free _ _ _ (fun _ _ => rfl)
@[simp] theorem State.settle_clock (s : State) : (s.settle).clock = s.clock := by unfold State.settle; exact foldl_keeps State.clock _ _ _ (fun _ _ => rfl)
@[simp] theorem State.settle_ready (s : State) : (s.settle).ready = s.ready := by unfold State.settle; exact foldl_keeps State.ready _ _ _ (fun _ _ => rfl)
@[simp] theorem State.settle_tr (s : State) : (s.settle).tr = s.tr := by unfold State.settle; exact foldl_keeps State.tr _ _ _ (fun _ _ => rfl)
@[simp] theorem State.settle_cfg (s : State) : (s.settle).cfg = s.cfg := by unfold State.settle; exact foldl_keeps State.cfg _ _ _ (fun _ _ => rfl)
@[simp] theorem State.settle_nv (s : State) : (s.settle).nv = s.nv := by unfold State.settle; exact foldl_keeps State.nv _ _ _ (fun _ _ => rfl)
@[simp] theorem State.settle_log (s : State) : (s.settle).log = s.log := by unfold State.settle; exact foldl_keeps State.log _ _ _ (fun _ _ => rfl)
@[simp] theorem State.settle_bin (s : State) : (s.settle).bin = s.bin := by unfold State.settle; exact foldl_keeps State.bin _ _ _ (fun _ _ => rfl)
@[simp] theorem State.settle_sen (s : State) : (s.settle).sen = s.sen := by unfold State.settle; exact foldl_keeps State.sen _ _ _ (fun _ _ => rfl)
@[simp] theorem State.settle_sup (s : State) : (s.settle).sup = s.sup := by unfold State.settle; exact foldl_keeps State.sup _ _ _ (fun _ _ => rfl)
@[simp] theorem State.settle_mer (s : State) : (s.settle).mer = s.mer := by unfold State.settle; exact foldl_keeps State.mer _ _ _ (fun _ _ => rfl)
@[simp] theorem State.settle_alm (s : State) : (s.settle).alm = s.alm := by unfold State.settle; exact foldl_keeps State.alm _ _ _ (fun _ _ => rfl)
@[simp] theorem State.settle_pair (s : State) : (s.settle).pair = s.pair := by unfold State.settle; exact foldl_keeps State.pair _ _ _ (fun _ _ => rfl)
@[simp] theorem State.settle_zones (s : State) : (s.settle).zones = s.zones := by unfold State.settle; exact foldl_keeps State.zones _ _ _ (fun _ _ => rfl)
@[simp] theorem State.settle_zio (s : State) : (s.settle).zio = s.zio := by unfold State.settle; exact foldl_keeps State.zio _ _ _ (fun _ _ => rfl)
@[simp] theorem State.settle_hostIn (s : State) : (s.settle).hostIn = s.hostIn := by unfold State.settle; exact foldl_keeps State.hostIn _ _ _ (fun _ _ => rfl)
@[simp] theorem State.settle_helm (s : State) : (s.settle).helm = s.helm := by unfold State.settle; exact foldl_keeps State.helm _ _ _ (fun _ _ => rfl)
@[simp] theorem State.settle_plan (s : State) : (s.settle).plan = s.plan := by unfold State.settle; exact foldl_keeps State.plan _ _ _ (fun _ _ => rfl)
@[simp] theorem State.settle_forecast (s : State) : (s.settle).forecast = s.forecast := by unfold State.settle; exact foldl_keeps State.forecast _ _ _ (fun _ _ => rfl)
@[simp] theorem State.settle_occ (s : State) : (s.settle).occ = s.occ := by unfold State.settle; exact foldl_keeps State.occ _ _ _ (fun _ _ => rfl)
@[simp] theorem State.settle_profile (s : State) : (s.settle).profile = s.profile := by unfold State.settle; exact foldl_keeps State.profile _ _ _ (fun _ _ => rfl)
@[simp] theorem State.settle_snd (s : State) : (s.settle).snd = s.snd := by unfold State.settle; exact foldl_keeps State.snd _ _ _ (fun _ _ => rfl)
@[simp] theorem State.settle_inp (s : State) : (s.settle).inp = s.inp := by unfold State.settle; exact foldl_keeps State.inp _ _ _ (fun _ _ => rfl)
@[simp] theorem State.settle_fld (s : State) : (s.settle).fld = s.fld := by unfold State.settle; exact foldl_keeps State.fld _ _ _ (fun _ _ => rfl)
@[simp] theorem State.settle_out (s : State) : (s.settle).out = s.out := by unfold State.settle; exact foldl_keeps State.out _ _ _ (fun _ _ => rfl)
@[simp] theorem State.settle_bus (s : State) : (s.settle).bus = s.bus := by unfold State.settle; exact foldl_keeps State.bus _ _ _ (fun _ _ => rfl)
@[simp] theorem State.settle_svc (s : State) : (s.settle).svc = s.svc := by unfold State.settle; exact foldl_keeps State.svc _ _ _ (fun _ _ => rfl)
@[simp] theorem State.settle_policy (s : State) : (s.settle).policy = s.policy := by unfold State.settle; exact foldl_keeps State.policy _ _ _ (fun _ _ => rfl)
@[simp] theorem State.settle_chart (s : State) : (s.settle).chart = s.chart := by unfold State.settle; exact foldl_keeps State.chart _ _ _ (fun _ _ => rfl)
@[simp] theorem State.settle_tiller (s : State) : (s.settle).tiller = s.tiller := by unfold State.settle; exact foldl_keeps State.tiller _ _ _ (fun _ _ => rfl)
@[simp] theorem State.endInterims_pending (p : Interim → Bool) (x : Fate) (st : Status) (q : List Byte) (s : State) : (State.endInterims p x st q s).pending = s.pending := by
  unfold State.endInterims; exact State.each_keeps State.pending _ _ _ (fun _ _ => State.postEvent_pending _ _)
@[simp] theorem State.endInterims_free (p : Interim → Bool) (x : Fate) (st : Status) (q : List Byte) (s : State) : (State.endInterims p x st q s).free = s.free := by
  unfold State.endInterims; exact State.each_keeps State.free _ _ _ (fun _ _ => State.postEvent_free _ _)
@[simp] theorem State.endInterims_clock (p : Interim → Bool) (x : Fate) (st : Status) (q : List Byte) (s : State) : (State.endInterims p x st q s).clock = s.clock := by
  unfold State.endInterims; exact State.each_keeps State.clock _ _ _ (fun _ _ => State.postEvent_clock _ _)
@[simp] theorem State.endInterims_ready (p : Interim → Bool) (x : Fate) (st : Status) (q : List Byte) (s : State) : (State.endInterims p x st q s).ready = s.ready := by
  unfold State.endInterims; exact State.each_keeps State.ready _ _ _ (fun _ _ => State.postEvent_ready _ _)
@[simp] theorem State.endInterims_tr (p : Interim → Bool) (x : Fate) (st : Status) (q : List Byte) (s : State) : (State.endInterims p x st q s).tr = s.tr := by
  unfold State.endInterims; exact State.each_keeps State.tr _ _ _ (fun _ _ => State.postEvent_tr _ _)
@[simp] theorem State.endInterims_cfg (p : Interim → Bool) (x : Fate) (st : Status) (q : List Byte) (s : State) : (State.endInterims p x st q s).cfg = s.cfg := by
  unfold State.endInterims; exact State.each_keeps State.cfg _ _ _ (fun _ _ => State.postEvent_cfg _ _)
@[simp] theorem State.endInterims_nv (p : Interim → Bool) (x : Fate) (st : Status) (q : List Byte) (s : State) : (State.endInterims p x st q s).nv = s.nv := by
  unfold State.endInterims; exact State.each_keeps State.nv _ _ _ (fun _ _ => State.postEvent_nv _ _)
@[simp] theorem State.endInterims_bin (p : Interim → Bool) (x : Fate) (st : Status) (q : List Byte) (s : State) : (State.endInterims p x st q s).bin = s.bin := by
  unfold State.endInterims; exact State.each_keeps State.bin _ _ _ (fun _ _ => State.postEvent_bin _ _)
@[simp] theorem State.endInterims_sen (p : Interim → Bool) (x : Fate) (st : Status) (q : List Byte) (s : State) : (State.endInterims p x st q s).sen = s.sen := by
  unfold State.endInterims; exact State.each_keeps State.sen _ _ _ (fun _ _ => State.postEvent_sen _ _)
@[simp] theorem State.endInterims_sup (p : Interim → Bool) (x : Fate) (st : Status) (q : List Byte) (s : State) : (State.endInterims p x st q s).sup = s.sup := by
  unfold State.endInterims; exact State.each_keeps State.sup _ _ _ (fun _ _ => State.postEvent_sup _ _)
@[simp] theorem State.endInterims_mer (p : Interim → Bool) (x : Fate) (st : Status) (q : List Byte) (s : State) : (State.endInterims p x st q s).mer = s.mer := by
  unfold State.endInterims; exact State.each_keeps State.mer _ _ _ (fun _ _ => State.postEvent_mer _ _)
@[simp] theorem State.endInterims_alm (p : Interim → Bool) (x : Fate) (st : Status) (q : List Byte) (s : State) : (State.endInterims p x st q s).alm = s.alm := by
  unfold State.endInterims; exact State.each_keeps State.alm _ _ _ (fun _ _ => State.postEvent_alm _ _)
@[simp] theorem State.endInterims_pair (p : Interim → Bool) (x : Fate) (st : Status) (q : List Byte) (s : State) : (State.endInterims p x st q s).pair = s.pair := by
  unfold State.endInterims; exact State.each_keeps State.pair _ _ _ (fun _ _ => State.postEvent_pair _ _)
@[simp] theorem State.endInterims_zones (p : Interim → Bool) (x : Fate) (st : Status) (q : List Byte) (s : State) : (State.endInterims p x st q s).zones = s.zones := by
  unfold State.endInterims; exact State.each_keeps State.zones _ _ _ (fun _ _ => State.postEvent_zones _ _)
@[simp] theorem State.endInterims_zio (p : Interim → Bool) (x : Fate) (st : Status) (q : List Byte) (s : State) : (State.endInterims p x st q s).zio = s.zio := by
  unfold State.endInterims; exact State.each_keeps State.zio _ _ _ (fun _ _ => State.postEvent_zio _ _)
@[simp] theorem State.endInterims_hostIn (p : Interim → Bool) (x : Fate) (st : Status) (q : List Byte) (s : State) : (State.endInterims p x st q s).hostIn = s.hostIn := by
  unfold State.endInterims; exact State.each_keeps State.hostIn _ _ _ (fun _ _ => State.postEvent_hostIn _ _)
@[simp] theorem State.endInterims_helm (p : Interim → Bool) (x : Fate) (st : Status) (q : List Byte) (s : State) : (State.endInterims p x st q s).helm = s.helm := by
  unfold State.endInterims; exact State.each_keeps State.helm _ _ _ (fun _ _ => State.postEvent_helm _ _)
@[simp] theorem State.endInterims_plan (p : Interim → Bool) (x : Fate) (st : Status) (q : List Byte) (s : State) : (State.endInterims p x st q s).plan = s.plan := by
  unfold State.endInterims; exact State.each_keeps State.plan _ _ _ (fun _ _ => State.postEvent_plan _ _)
@[simp] theorem State.endInterims_forecast (p : Interim → Bool) (x : Fate) (st : Status) (q : List Byte) (s : State) : (State.endInterims p x st q s).forecast = s.forecast := by
  unfold State.endInterims; exact State.each_keeps State.forecast _ _ _ (fun _ _ => State.postEvent_forecast _ _)
@[simp] theorem State.endInterims_occ (p : Interim → Bool) (x : Fate) (st : Status) (q : List Byte) (s : State) : (State.endInterims p x st q s).occ = s.occ := by
  unfold State.endInterims; exact State.each_keeps State.occ _ _ _ (fun _ _ => State.postEvent_occ _ _)
@[simp] theorem State.endInterims_profile (p : Interim → Bool) (x : Fate) (st : Status) (q : List Byte) (s : State) : (State.endInterims p x st q s).profile = s.profile := by
  unfold State.endInterims; exact State.each_keeps State.profile _ _ _ (fun _ _ => State.postEvent_profile _ _)
@[simp] theorem State.endInterims_snd (p : Interim → Bool) (x : Fate) (st : Status) (q : List Byte) (s : State) : (State.endInterims p x st q s).snd = s.snd := by
  unfold State.endInterims; exact State.each_keeps State.snd _ _ _ (fun _ _ => State.postEvent_snd _ _)
@[simp] theorem State.endInterims_inp (p : Interim → Bool) (x : Fate) (st : Status) (q : List Byte) (s : State) : (State.endInterims p x st q s).inp = s.inp := by
  unfold State.endInterims; exact State.each_keeps State.inp _ _ _ (fun _ _ => State.postEvent_inp _ _)
@[simp] theorem State.endInterims_fld (p : Interim → Bool) (x : Fate) (st : Status) (q : List Byte) (s : State) : (State.endInterims p x st q s).fld = s.fld := by
  unfold State.endInterims; exact State.each_keeps State.fld _ _ _ (fun _ _ => State.postEvent_fld _ _)
@[simp] theorem State.endInterims_out (p : Interim → Bool) (x : Fate) (st : Status) (q : List Byte) (s : State) : (State.endInterims p x st q s).out = s.out := by
  unfold State.endInterims; exact State.each_keeps State.out _ _ _ (fun _ _ => State.postEvent_out _ _)
@[simp] theorem State.endInterims_bus (p : Interim → Bool) (x : Fate) (st : Status) (q : List Byte) (s : State) : (State.endInterims p x st q s).bus = s.bus := by
  unfold State.endInterims; exact State.each_keeps State.bus _ _ _ (fun _ _ => State.postEvent_bus _ _)
@[simp] theorem State.endInterims_svc (p : Interim → Bool) (x : Fate) (st : Status) (q : List Byte) (s : State) : (State.endInterims p x st q s).svc = s.svc := by
  unfold State.endInterims; exact State.each_keeps State.svc _ _ _ (fun _ _ => State.postEvent_svc _ _)
@[simp] theorem State.endInterims_policy (p : Interim → Bool) (x : Fate) (st : Status) (q : List Byte) (s : State) : (State.endInterims p x st q s).policy = s.policy := by
  unfold State.endInterims; exact State.each_keeps State.policy _ _ _ (fun _ _ => State.postEvent_policy _ _)
@[simp] theorem State.endInterims_chart (p : Interim → Bool) (x : Fate) (st : Status) (q : List Byte) (s : State) : (State.endInterims p x st q s).chart = s.chart := by
  unfold State.endInterims; exact State.each_keeps State.chart _ _ _ (fun _ _ => State.postEvent_chart _ _)
@[simp] theorem State.endInterims_tiller (p : Interim → Bool) (x : Fate) (st : Status) (q : List Byte) (s : State) : (State.endInterims p x st q s).tiller = s.tiller := by
  unfold State.endInterims; exact State.each_keeps State.tiller _ _ _ (fun _ _ => State.postEvent_tiller _ _)
@[simp] theorem State.abortFn_pending (n : Nat) (s : State) : (State.abortFn n s).pending = s.pending := by unfold State.abortFn; simp
@[simp] theorem State.abortFn_free (n : Nat) (s : State) : (State.abortFn n s).free = s.free := by unfold State.abortFn; simp
@[simp] theorem State.abortFn_clock (n : Nat) (s : State) : (State.abortFn n s).clock = s.clock := by unfold State.abortFn; simp
@[simp] theorem State.abortFn_ready (n : Nat) (s : State) : (State.abortFn n s).ready = s.ready := by unfold State.abortFn; simp
@[simp] theorem State.abortFn_tr (n : Nat) (s : State) : (State.abortFn n s).tr = s.tr := by unfold State.abortFn; simp
@[simp] theorem State.abortFn_cfg (n : Nat) (s : State) : (State.abortFn n s).cfg = s.cfg := by unfold State.abortFn; simp
@[simp] theorem State.abortFn_nv (n : Nat) (s : State) : (State.abortFn n s).nv = s.nv := by unfold State.abortFn; simp
@[simp] theorem State.abortFn_bin (n : Nat) (s : State) : (State.abortFn n s).bin = s.bin := by unfold State.abortFn; simp
@[simp] theorem State.abortFn_sen (n : Nat) (s : State) : (State.abortFn n s).sen = s.sen := by unfold State.abortFn; simp
@[simp] theorem State.abortFn_sup (n : Nat) (s : State) : (State.abortFn n s).sup = s.sup := by unfold State.abortFn; simp
@[simp] theorem State.abortFn_mer (n : Nat) (s : State) : (State.abortFn n s).mer = s.mer := by unfold State.abortFn; simp
@[simp] theorem State.abortFn_alm (n : Nat) (s : State) : (State.abortFn n s).alm = s.alm := by unfold State.abortFn; simp
@[simp] theorem State.abortFn_pair (n : Nat) (s : State) : (State.abortFn n s).pair = s.pair := by unfold State.abortFn; simp
@[simp] theorem State.abortFn_zones (n : Nat) (s : State) : (State.abortFn n s).zones = s.zones := by unfold State.abortFn; simp
@[simp] theorem State.abortFn_zio (n : Nat) (s : State) : (State.abortFn n s).zio = s.zio := by unfold State.abortFn; simp
@[simp] theorem State.abortFn_hostIn (n : Nat) (s : State) : (State.abortFn n s).hostIn = s.hostIn := by unfold State.abortFn; simp
@[simp] theorem State.abortFn_helm (n : Nat) (s : State) : (State.abortFn n s).helm = s.helm := by unfold State.abortFn; simp
@[simp] theorem State.abortFn_plan (n : Nat) (s : State) : (State.abortFn n s).plan = s.plan := by unfold State.abortFn; simp
@[simp] theorem State.abortFn_forecast (n : Nat) (s : State) : (State.abortFn n s).forecast = s.forecast := by unfold State.abortFn; simp
@[simp] theorem State.abortFn_occ (n : Nat) (s : State) : (State.abortFn n s).occ = s.occ := by unfold State.abortFn; simp
@[simp] theorem State.abortFn_profile (n : Nat) (s : State) : (State.abortFn n s).profile = s.profile := by unfold State.abortFn; simp
@[simp] theorem State.abortFn_snd (n : Nat) (s : State) : (State.abortFn n s).snd = s.snd := by unfold State.abortFn; simp
@[simp] theorem State.abortFn_inp (n : Nat) (s : State) : (State.abortFn n s).inp = s.inp := by unfold State.abortFn; simp
@[simp] theorem State.abortFn_fld (n : Nat) (s : State) : (State.abortFn n s).fld = s.fld := by unfold State.abortFn; simp
@[simp] theorem State.abortFn_out (n : Nat) (s : State) : (State.abortFn n s).out = s.out := by unfold State.abortFn; simp
@[simp] theorem State.abortFn_bus (n : Nat) (s : State) : (State.abortFn n s).bus = s.bus := by unfold State.abortFn; simp
@[simp] theorem State.abortFn_svc (n : Nat) (s : State) : (State.abortFn n s).svc = s.svc := by unfold State.abortFn; simp
@[simp] theorem State.abortFn_policy (n : Nat) (s : State) : (State.abortFn n s).policy = s.policy := by unfold State.abortFn; simp
@[simp] theorem State.abortFn_chart (n : Nat) (s : State) : (State.abortFn n s).chart = s.chart := by unfold State.abortFn; simp
@[simp] theorem State.abortFn_tiller (n : Nat) (s : State) : (State.abortFn n s).tiller = s.tiller := by unfold State.abortFn; simp
@[simp] theorem State.lower_pending (bits : List Nat) (s : State) : (State.lower bits s).pending = s.pending := by
  unfold State.lower; dsimp only; split
  · simp
  · rw [State.each_keeps State.pending _ _ _ (fun _ _ => State.abortFn_pending _ _)]; simp
@[simp] theorem State.lower_free (bits : List Nat) (s : State) : (State.lower bits s).free = s.free := by
  unfold State.lower; dsimp only; split
  · simp
  · rw [State.each_keeps State.free _ _ _ (fun _ _ => State.abortFn_free _ _)]; simp
@[simp] theorem State.lower_clock (bits : List Nat) (s : State) : (State.lower bits s).clock = s.clock := by
  unfold State.lower; dsimp only; split
  · simp
  · rw [State.each_keeps State.clock _ _ _ (fun _ _ => State.abortFn_clock _ _)]; simp
@[simp] theorem State.lower_tr (bits : List Nat) (s : State) : (State.lower bits s).tr = s.tr := by
  unfold State.lower; dsimp only; split
  · simp
  · rw [State.each_keeps State.tr _ _ _ (fun _ _ => State.abortFn_tr _ _)]; simp
@[simp] theorem State.lower_cfg (bits : List Nat) (s : State) : (State.lower bits s).cfg = s.cfg := by
  unfold State.lower; dsimp only; split
  · simp
  · rw [State.each_keeps State.cfg _ _ _ (fun _ _ => State.abortFn_cfg _ _)]; simp
@[simp] theorem State.lower_nv (bits : List Nat) (s : State) : (State.lower bits s).nv = s.nv := by
  unfold State.lower; dsimp only; split
  · simp
  · rw [State.each_keeps State.nv _ _ _ (fun _ _ => State.abortFn_nv _ _)]; simp
@[simp] theorem State.lower_bin (bits : List Nat) (s : State) : (State.lower bits s).bin = s.bin := by
  unfold State.lower; dsimp only; split
  · simp
  · rw [State.each_keeps State.bin _ _ _ (fun _ _ => State.abortFn_bin _ _)]; simp
@[simp] theorem State.lower_sen (bits : List Nat) (s : State) : (State.lower bits s).sen = s.sen := by
  unfold State.lower; dsimp only; split
  · simp
  · rw [State.each_keeps State.sen _ _ _ (fun _ _ => State.abortFn_sen _ _)]; simp
@[simp] theorem State.lower_sup (bits : List Nat) (s : State) : (State.lower bits s).sup = s.sup := by
  unfold State.lower; dsimp only; split
  · simp
  · rw [State.each_keeps State.sup _ _ _ (fun _ _ => State.abortFn_sup _ _)]; simp
@[simp] theorem State.lower_mer (bits : List Nat) (s : State) : (State.lower bits s).mer = s.mer := by
  unfold State.lower; dsimp only; split
  · simp
  · rw [State.each_keeps State.mer _ _ _ (fun _ _ => State.abortFn_mer _ _)]; simp
@[simp] theorem State.lower_alm (bits : List Nat) (s : State) : (State.lower bits s).alm = s.alm := by
  unfold State.lower; dsimp only; split
  · simp
  · rw [State.each_keeps State.alm _ _ _ (fun _ _ => State.abortFn_alm _ _)]; simp
@[simp] theorem State.lower_pair (bits : List Nat) (s : State) : (State.lower bits s).pair = s.pair := by
  unfold State.lower; dsimp only; split
  · simp
  · rw [State.each_keeps State.pair _ _ _ (fun _ _ => State.abortFn_pair _ _)]; simp
@[simp] theorem State.lower_zones (bits : List Nat) (s : State) : (State.lower bits s).zones = s.zones := by
  unfold State.lower; dsimp only; split
  · simp
  · rw [State.each_keeps State.zones _ _ _ (fun _ _ => State.abortFn_zones _ _)]; simp
@[simp] theorem State.lower_zio (bits : List Nat) (s : State) : (State.lower bits s).zio = s.zio := by
  unfold State.lower; dsimp only; split
  · simp
  · rw [State.each_keeps State.zio _ _ _ (fun _ _ => State.abortFn_zio _ _)]; simp
@[simp] theorem State.lower_hostIn (bits : List Nat) (s : State) : (State.lower bits s).hostIn = s.hostIn := by
  unfold State.lower; dsimp only; split
  · simp
  · rw [State.each_keeps State.hostIn _ _ _ (fun _ _ => State.abortFn_hostIn _ _)]; simp
@[simp] theorem State.lower_helm (bits : List Nat) (s : State) : (State.lower bits s).helm = s.helm := by
  unfold State.lower; dsimp only; split
  · simp
  · rw [State.each_keeps State.helm _ _ _ (fun _ _ => State.abortFn_helm _ _)]; simp
@[simp] theorem State.lower_plan (bits : List Nat) (s : State) : (State.lower bits s).plan = s.plan := by
  unfold State.lower; dsimp only; split
  · simp
  · rw [State.each_keeps State.plan _ _ _ (fun _ _ => State.abortFn_plan _ _)]; simp
@[simp] theorem State.lower_forecast (bits : List Nat) (s : State) : (State.lower bits s).forecast = s.forecast := by
  unfold State.lower; dsimp only; split
  · simp
  · rw [State.each_keeps State.forecast _ _ _ (fun _ _ => State.abortFn_forecast _ _)]; simp
@[simp] theorem State.lower_occ (bits : List Nat) (s : State) : (State.lower bits s).occ = s.occ := by
  unfold State.lower; dsimp only; split
  · simp
  · rw [State.each_keeps State.occ _ _ _ (fun _ _ => State.abortFn_occ _ _)]; simp
@[simp] theorem State.lower_profile (bits : List Nat) (s : State) : (State.lower bits s).profile = s.profile := by
  unfold State.lower; dsimp only; split
  · simp
  · rw [State.each_keeps State.profile _ _ _ (fun _ _ => State.abortFn_profile _ _)]; simp
@[simp] theorem State.lower_snd (bits : List Nat) (s : State) : (State.lower bits s).snd = s.snd := by
  unfold State.lower; dsimp only; split
  · simp
  · rw [State.each_keeps State.snd _ _ _ (fun _ _ => State.abortFn_snd _ _)]; simp
@[simp] theorem State.lower_inp (bits : List Nat) (s : State) : (State.lower bits s).inp = s.inp := by
  unfold State.lower; dsimp only; split
  · simp
  · rw [State.each_keeps State.inp _ _ _ (fun _ _ => State.abortFn_inp _ _)]; simp
@[simp] theorem State.lower_fld (bits : List Nat) (s : State) : (State.lower bits s).fld = s.fld := by
  unfold State.lower; dsimp only; split
  · simp
  · rw [State.each_keeps State.fld _ _ _ (fun _ _ => State.abortFn_fld _ _)]; simp
@[simp] theorem State.lower_out (bits : List Nat) (s : State) : (State.lower bits s).out = s.out := by
  unfold State.lower; dsimp only; split
  · simp
  · rw [State.each_keeps State.out _ _ _ (fun _ _ => State.abortFn_out _ _)]; simp
@[simp] theorem State.lower_bus (bits : List Nat) (s : State) : (State.lower bits s).bus = s.bus := by
  unfold State.lower; dsimp only; split
  · simp
  · rw [State.each_keeps State.bus _ _ _ (fun _ _ => State.abortFn_bus _ _)]; simp
@[simp] theorem State.lower_svc (bits : List Nat) (s : State) : (State.lower bits s).svc = s.svc := by
  unfold State.lower; dsimp only; split
  · simp
  · rw [State.each_keeps State.svc _ _ _ (fun _ _ => State.abortFn_svc _ _)]; simp
@[simp] theorem State.lower_policy (bits : List Nat) (s : State) : (State.lower bits s).policy = s.policy := by
  unfold State.lower; dsimp only; split
  · simp
  · rw [State.each_keeps State.policy _ _ _ (fun _ _ => State.abortFn_policy _ _)]; simp
@[simp] theorem State.lower_chart (bits : List Nat) (s : State) : (State.lower bits s).chart = s.chart := by
  unfold State.lower; dsimp only; split
  · simp
  · rw [State.each_keeps State.chart _ _ _ (fun _ _ => State.abortFn_chart _ _)]; simp
@[simp] theorem State.lower_tiller (bits : List Nat) (s : State) : (State.lower bits s).tiller = s.tiller := by
  unfold State.lower; dsimp only; split
  · simp
  · rw [State.each_keeps State.tiller _ _ _ (fun _ _ => State.abortFn_tiller _ _)]; simp
@[simp] theorem State.lower_ready (bits : List Nat) (s : State) : (State.lower bits s).ready = readyNext s.ready [] bits := by
  unfold State.lower; dsimp only; split
  · simp
  · rw [State.each_keeps State.ready _ _ _ (fun _ _ => State.abortFn_ready _ _)]; simp
@[simp] theorem State.saveBinnacle_pending (s : State) : (s.saveBinnacle).pending = s.pending := rfl
@[simp] theorem State.saveBinnacle_free (s : State) : (s.saveBinnacle).free = s.free := rfl
@[simp] theorem State.saveBinnacle_clock (s : State) : (s.saveBinnacle).clock = s.clock := rfl
@[simp] theorem State.saveBinnacle_ready (s : State) : (s.saveBinnacle).ready = s.ready := rfl
@[simp] theorem State.saveBinnacle_mb (s : State) : (s.saveBinnacle).mb = s.mb := rfl
@[simp] theorem State.saveBinnacle_tr (s : State) : (s.saveBinnacle).tr = s.tr := rfl
@[simp] theorem State.saveBinnacle_cfg (s : State) : (s.saveBinnacle).cfg = s.cfg := rfl
@[simp] theorem State.saveBinnacle_log (s : State) : (s.saveBinnacle).log = s.log := rfl
@[simp] theorem State.saveBinnacle_bin (s : State) : (s.saveBinnacle).bin = s.bin := rfl
@[simp] theorem State.saveBinnacle_sen (s : State) : (s.saveBinnacle).sen = s.sen := rfl
@[simp] theorem State.saveBinnacle_sup (s : State) : (s.saveBinnacle).sup = s.sup := rfl
@[simp] theorem State.saveBinnacle_mer (s : State) : (s.saveBinnacle).mer = s.mer := rfl
@[simp] theorem State.saveBinnacle_alm (s : State) : (s.saveBinnacle).alm = s.alm := rfl
@[simp] theorem State.saveBinnacle_pair (s : State) : (s.saveBinnacle).pair = s.pair := rfl
@[simp] theorem State.saveBinnacle_zones (s : State) : (s.saveBinnacle).zones = s.zones := rfl
@[simp] theorem State.saveBinnacle_zio (s : State) : (s.saveBinnacle).zio = s.zio := rfl
@[simp] theorem State.saveBinnacle_hostIn (s : State) : (s.saveBinnacle).hostIn = s.hostIn := rfl
@[simp] theorem State.saveBinnacle_helm (s : State) : (s.saveBinnacle).helm = s.helm := rfl
@[simp] theorem State.saveBinnacle_plan (s : State) : (s.saveBinnacle).plan = s.plan := rfl
@[simp] theorem State.saveBinnacle_forecast (s : State) : (s.saveBinnacle).forecast = s.forecast := rfl
@[simp] theorem State.saveBinnacle_occ (s : State) : (s.saveBinnacle).occ = s.occ := rfl
@[simp] theorem State.saveBinnacle_profile (s : State) : (s.saveBinnacle).profile = s.profile := rfl
@[simp] theorem State.saveBinnacle_snd (s : State) : (s.saveBinnacle).snd = s.snd := rfl
@[simp] theorem State.saveBinnacle_inp (s : State) : (s.saveBinnacle).inp = s.inp := rfl
@[simp] theorem State.saveBinnacle_fld (s : State) : (s.saveBinnacle).fld = s.fld := rfl
@[simp] theorem State.saveBinnacle_out (s : State) : (s.saveBinnacle).out = s.out := rfl
@[simp] theorem State.saveBinnacle_bus (s : State) : (s.saveBinnacle).bus = s.bus := rfl
@[simp] theorem State.saveBinnacle_svc (s : State) : (s.saveBinnacle).svc = s.svc := rfl
@[simp] theorem State.saveBinnacle_policy (s : State) : (s.saveBinnacle).policy = s.policy := rfl
@[simp] theorem State.saveBinnacle_chart (s : State) : (s.saveBinnacle).chart = s.chart := rfl
@[simp] theorem State.saveBinnacle_tiller (s : State) : (s.saveBinnacle).tiller = s.tiller := rfl
@[simp] theorem State.ringResponse_pending (bs : List Byte) (s : State) : (State.ringResponse bs s).pending = s.pending := rfl
@[simp] theorem State.ringResponse_free (bs : List Byte) (s : State) : (State.ringResponse bs s).free = s.free := rfl
@[simp] theorem State.ringResponse_clock (bs : List Byte) (s : State) : (State.ringResponse bs s).clock = s.clock := rfl
@[simp] theorem State.ringResponse_ready (bs : List Byte) (s : State) : (State.ringResponse bs s).ready = s.ready := rfl
@[simp] theorem State.ringResponse_tr (bs : List Byte) (s : State) : (State.ringResponse bs s).tr = s.tr := rfl
@[simp] theorem State.ringResponse_cfg (bs : List Byte) (s : State) : (State.ringResponse bs s).cfg = s.cfg := rfl
@[simp] theorem State.ringResponse_nv (bs : List Byte) (s : State) : (State.ringResponse bs s).nv = s.nv := rfl
@[simp] theorem State.ringResponse_log (bs : List Byte) (s : State) : (State.ringResponse bs s).log = s.log := rfl
@[simp] theorem State.ringResponse_bin (bs : List Byte) (s : State) : (State.ringResponse bs s).bin = s.bin := rfl
@[simp] theorem State.ringResponse_sen (bs : List Byte) (s : State) : (State.ringResponse bs s).sen = s.sen := rfl
@[simp] theorem State.ringResponse_sup (bs : List Byte) (s : State) : (State.ringResponse bs s).sup = s.sup := rfl
@[simp] theorem State.ringResponse_mer (bs : List Byte) (s : State) : (State.ringResponse bs s).mer = s.mer := rfl
@[simp] theorem State.ringResponse_alm (bs : List Byte) (s : State) : (State.ringResponse bs s).alm = s.alm := rfl
@[simp] theorem State.ringResponse_pair (bs : List Byte) (s : State) : (State.ringResponse bs s).pair = s.pair := rfl
@[simp] theorem State.ringResponse_zones (bs : List Byte) (s : State) : (State.ringResponse bs s).zones = s.zones := rfl
@[simp] theorem State.ringResponse_zio (bs : List Byte) (s : State) : (State.ringResponse bs s).zio = s.zio := rfl
@[simp] theorem State.ringResponse_hostIn (bs : List Byte) (s : State) : (State.ringResponse bs s).hostIn = s.hostIn := rfl
@[simp] theorem State.ringResponse_helm (bs : List Byte) (s : State) : (State.ringResponse bs s).helm = s.helm := rfl
@[simp] theorem State.ringResponse_plan (bs : List Byte) (s : State) : (State.ringResponse bs s).plan = s.plan := rfl
@[simp] theorem State.ringResponse_forecast (bs : List Byte) (s : State) : (State.ringResponse bs s).forecast = s.forecast := rfl
@[simp] theorem State.ringResponse_occ (bs : List Byte) (s : State) : (State.ringResponse bs s).occ = s.occ := rfl
@[simp] theorem State.ringResponse_profile (bs : List Byte) (s : State) : (State.ringResponse bs s).profile = s.profile := rfl
@[simp] theorem State.ringResponse_snd (bs : List Byte) (s : State) : (State.ringResponse bs s).snd = s.snd := rfl
@[simp] theorem State.ringResponse_inp (bs : List Byte) (s : State) : (State.ringResponse bs s).inp = s.inp := rfl
@[simp] theorem State.ringResponse_fld (bs : List Byte) (s : State) : (State.ringResponse bs s).fld = s.fld := rfl
@[simp] theorem State.ringResponse_out (bs : List Byte) (s : State) : (State.ringResponse bs s).out = s.out := rfl
@[simp] theorem State.ringResponse_bus (bs : List Byte) (s : State) : (State.ringResponse bs s).bus = s.bus := rfl
@[simp] theorem State.ringResponse_svc (bs : List Byte) (s : State) : (State.ringResponse bs s).svc = s.svc := rfl
@[simp] theorem State.ringResponse_policy (bs : List Byte) (s : State) : (State.ringResponse bs s).policy = s.policy := rfl
@[simp] theorem State.ringResponse_chart (bs : List Byte) (s : State) : (State.ringResponse bs s).chart = s.chart := rfl
@[simp] theorem State.ringResponse_tiller (bs : List Byte) (s : State) : (State.ringResponse bs s).tiller = s.tiller := rfl
@[simp] theorem State.fbResponse_pending (bs : List Byte) (s : State) : (State.fbResponse bs s).pending = s.pending := rfl
@[simp] theorem State.fbResponse_free (bs : List Byte) (s : State) : (State.fbResponse bs s).free = s.free := rfl
@[simp] theorem State.fbResponse_clock (bs : List Byte) (s : State) : (State.fbResponse bs s).clock = s.clock := rfl
@[simp] theorem State.fbResponse_ready (bs : List Byte) (s : State) : (State.fbResponse bs s).ready = s.ready := rfl
@[simp] theorem State.fbResponse_tr (bs : List Byte) (s : State) : (State.fbResponse bs s).tr = s.tr := rfl
@[simp] theorem State.fbResponse_cfg (bs : List Byte) (s : State) : (State.fbResponse bs s).cfg = s.cfg := rfl
@[simp] theorem State.fbResponse_nv (bs : List Byte) (s : State) : (State.fbResponse bs s).nv = s.nv := rfl
@[simp] theorem State.fbResponse_log (bs : List Byte) (s : State) : (State.fbResponse bs s).log = s.log := rfl
@[simp] theorem State.fbResponse_bin (bs : List Byte) (s : State) : (State.fbResponse bs s).bin = s.bin := rfl
@[simp] theorem State.fbResponse_sen (bs : List Byte) (s : State) : (State.fbResponse bs s).sen = s.sen := rfl
@[simp] theorem State.fbResponse_sup (bs : List Byte) (s : State) : (State.fbResponse bs s).sup = s.sup := rfl
@[simp] theorem State.fbResponse_mer (bs : List Byte) (s : State) : (State.fbResponse bs s).mer = s.mer := rfl
@[simp] theorem State.fbResponse_alm (bs : List Byte) (s : State) : (State.fbResponse bs s).alm = s.alm := rfl
@[simp] theorem State.fbResponse_pair (bs : List Byte) (s : State) : (State.fbResponse bs s).pair = s.pair := rfl
@[simp] theorem State.fbResponse_zones (bs : List Byte) (s : State) : (State.fbResponse bs s).zones = s.zones := rfl
@[simp] theorem State.fbResponse_zio (bs : List Byte) (s : State) : (State.fbResponse bs s).zio = s.zio := rfl
@[simp] theorem State.fbResponse_hostIn (bs : List Byte) (s : State) : (State.fbResponse bs s).hostIn = s.hostIn := rfl
@[simp] theorem State.fbResponse_helm (bs : List Byte) (s : State) : (State.fbResponse bs s).helm = s.helm := rfl
@[simp] theorem State.fbResponse_plan (bs : List Byte) (s : State) : (State.fbResponse bs s).plan = s.plan := rfl
@[simp] theorem State.fbResponse_forecast (bs : List Byte) (s : State) : (State.fbResponse bs s).forecast = s.forecast := rfl
@[simp] theorem State.fbResponse_occ (bs : List Byte) (s : State) : (State.fbResponse bs s).occ = s.occ := rfl
@[simp] theorem State.fbResponse_profile (bs : List Byte) (s : State) : (State.fbResponse bs s).profile = s.profile := rfl
@[simp] theorem State.fbResponse_snd (bs : List Byte) (s : State) : (State.fbResponse bs s).snd = s.snd := rfl
@[simp] theorem State.fbResponse_inp (bs : List Byte) (s : State) : (State.fbResponse bs s).inp = s.inp := rfl
@[simp] theorem State.fbResponse_fld (bs : List Byte) (s : State) : (State.fbResponse bs s).fld = s.fld := rfl
@[simp] theorem State.fbResponse_out (bs : List Byte) (s : State) : (State.fbResponse bs s).out = s.out := rfl
@[simp] theorem State.fbResponse_bus (bs : List Byte) (s : State) : (State.fbResponse bs s).bus = s.bus := rfl
@[simp] theorem State.fbResponse_svc (bs : List Byte) (s : State) : (State.fbResponse bs s).svc = s.svc := rfl
@[simp] theorem State.fbResponse_policy (bs : List Byte) (s : State) : (State.fbResponse bs s).policy = s.policy := rfl
@[simp] theorem State.fbResponse_chart (bs : List Byte) (s : State) : (State.fbResponse bs s).chart = s.chart := rfl
@[simp] theorem State.fbResponse_tiller (bs : List Byte) (s : State) : (State.fbResponse bs s).tiller = s.tiller := rfl
@[simp] theorem State.send_pending (f : Flight) (x : Resp) (s : State) : (State.send f x s).pending = s.pending := by unfold State.send; (repeat' split) <;> simp [State.udpResponse]
@[simp] theorem State.send_free (f : Flight) (x : Resp) (s : State) : (State.send f x s).free = s.free := by unfold State.send; (repeat' split) <;> simp [State.udpResponse]
@[simp] theorem State.send_clock (f : Flight) (x : Resp) (s : State) : (State.send f x s).clock = s.clock := by unfold State.send; (repeat' split) <;> simp [State.udpResponse]
@[simp] theorem State.send_ready (f : Flight) (x : Resp) (s : State) : (State.send f x s).ready = s.ready := by unfold State.send; (repeat' split) <;> simp [State.udpResponse]
@[simp] theorem State.send_cfg (f : Flight) (x : Resp) (s : State) : (State.send f x s).cfg = s.cfg := by unfold State.send; (repeat' split) <;> simp [State.udpResponse]
@[simp] theorem State.send_nv (f : Flight) (x : Resp) (s : State) : (State.send f x s).nv = s.nv := by unfold State.send; (repeat' split) <;> simp [State.udpResponse]
@[simp] theorem State.send_log (f : Flight) (x : Resp) (s : State) : (State.send f x s).log = s.log := by unfold State.send; (repeat' split) <;> simp [State.udpResponse]
@[simp] theorem State.send_bin (f : Flight) (x : Resp) (s : State) : (State.send f x s).bin = s.bin := by unfold State.send; (repeat' split) <;> simp [State.udpResponse]
@[simp] theorem State.send_sen (f : Flight) (x : Resp) (s : State) : (State.send f x s).sen = s.sen := by unfold State.send; (repeat' split) <;> simp [State.udpResponse]
@[simp] theorem State.send_sup (f : Flight) (x : Resp) (s : State) : (State.send f x s).sup = s.sup := by unfold State.send; (repeat' split) <;> simp [State.udpResponse]
@[simp] theorem State.send_mer (f : Flight) (x : Resp) (s : State) : (State.send f x s).mer = s.mer := by unfold State.send; (repeat' split) <;> simp [State.udpResponse]
@[simp] theorem State.send_alm (f : Flight) (x : Resp) (s : State) : (State.send f x s).alm = s.alm := by unfold State.send; (repeat' split) <;> simp [State.udpResponse]
@[simp] theorem State.send_pair (f : Flight) (x : Resp) (s : State) : (State.send f x s).pair = s.pair := by unfold State.send; (repeat' split) <;> simp [State.udpResponse]
@[simp] theorem State.send_zones (f : Flight) (x : Resp) (s : State) : (State.send f x s).zones = s.zones := by unfold State.send; (repeat' split) <;> simp [State.udpResponse]
@[simp] theorem State.send_zio (f : Flight) (x : Resp) (s : State) : (State.send f x s).zio = s.zio := by unfold State.send; (repeat' split) <;> simp [State.udpResponse]
@[simp] theorem State.send_hostIn (f : Flight) (x : Resp) (s : State) : (State.send f x s).hostIn = s.hostIn := by unfold State.send; (repeat' split) <;> simp [State.udpResponse]
@[simp] theorem State.send_helm (f : Flight) (x : Resp) (s : State) : (State.send f x s).helm = s.helm := by unfold State.send; (repeat' split) <;> simp [State.udpResponse]
@[simp] theorem State.send_plan (f : Flight) (x : Resp) (s : State) : (State.send f x s).plan = s.plan := by unfold State.send; (repeat' split) <;> simp [State.udpResponse]
@[simp] theorem State.send_forecast (f : Flight) (x : Resp) (s : State) : (State.send f x s).forecast = s.forecast := by unfold State.send; (repeat' split) <;> simp [State.udpResponse]
@[simp] theorem State.send_occ (f : Flight) (x : Resp) (s : State) : (State.send f x s).occ = s.occ := by unfold State.send; (repeat' split) <;> simp [State.udpResponse]
@[simp] theorem State.send_profile (f : Flight) (x : Resp) (s : State) : (State.send f x s).profile = s.profile := by unfold State.send; (repeat' split) <;> simp [State.udpResponse]
@[simp] theorem State.send_snd (f : Flight) (x : Resp) (s : State) : (State.send f x s).snd = s.snd := by unfold State.send; (repeat' split) <;> simp [State.udpResponse]
@[simp] theorem State.send_inp (f : Flight) (x : Resp) (s : State) : (State.send f x s).inp = s.inp := by unfold State.send; (repeat' split) <;> simp [State.udpResponse]
@[simp] theorem State.send_fld (f : Flight) (x : Resp) (s : State) : (State.send f x s).fld = s.fld := by unfold State.send; (repeat' split) <;> simp [State.udpResponse]
@[simp] theorem State.send_out (f : Flight) (x : Resp) (s : State) : (State.send f x s).out = s.out := by unfold State.send; (repeat' split) <;> simp [State.udpResponse]
@[simp] theorem State.send_bus (f : Flight) (x : Resp) (s : State) : (State.send f x s).bus = s.bus := by unfold State.send; (repeat' split) <;> simp [State.udpResponse]
@[simp] theorem State.send_svc (f : Flight) (x : Resp) (s : State) : (State.send f x s).svc = s.svc := by unfold State.send; (repeat' split) <;> simp [State.udpResponse]
@[simp] theorem State.send_policy (f : Flight) (x : Resp) (s : State) : (State.send f x s).policy = s.policy := by unfold State.send; (repeat' split) <;> simp [State.udpResponse]
@[simp] theorem State.send_chart (f : Flight) (x : Resp) (s : State) : (State.send f x s).chart = s.chart := by unfold State.send; (repeat' split) <;> simp [State.udpResponse]
@[simp] theorem State.send_tiller (f : Flight) (x : Resp) (s : State) : (State.send f x s).tiller = s.tiller := by unfold State.send; (repeat' split) <;> simp [State.udpResponse]
@[simp] theorem State.postNext_pending (n : Nat) (s : State) : (State.postNext n s).pending = s.pending := by unfold State.postNext; (repeat' split) <;> simp
@[simp] theorem State.postNext_free (n : Nat) (s : State) : (State.postNext n s).free = s.free := by unfold State.postNext; (repeat' split) <;> simp
@[simp] theorem State.postNext_clock (n : Nat) (s : State) : (State.postNext n s).clock = s.clock := by unfold State.postNext; (repeat' split) <;> simp
@[simp] theorem State.postNext_ready (n : Nat) (s : State) : (State.postNext n s).ready = s.ready := by unfold State.postNext; (repeat' split) <;> simp
@[simp] theorem State.postNext_cfg (n : Nat) (s : State) : (State.postNext n s).cfg = s.cfg := by unfold State.postNext; (repeat' split) <;> simp
@[simp] theorem State.postNext_nv (n : Nat) (s : State) : (State.postNext n s).nv = s.nv := by unfold State.postNext; (repeat' split) <;> simp
@[simp] theorem State.postNext_log (n : Nat) (s : State) : (State.postNext n s).log = s.log := by unfold State.postNext; (repeat' split) <;> simp
@[simp] theorem State.postNext_bin (n : Nat) (s : State) : (State.postNext n s).bin = s.bin := by unfold State.postNext; (repeat' split) <;> simp
@[simp] theorem State.postNext_sen (n : Nat) (s : State) : (State.postNext n s).sen = s.sen := by unfold State.postNext; (repeat' split) <;> simp
@[simp] theorem State.postNext_sup (n : Nat) (s : State) : (State.postNext n s).sup = s.sup := by unfold State.postNext; (repeat' split) <;> simp
@[simp] theorem State.postNext_mer (n : Nat) (s : State) : (State.postNext n s).mer = s.mer := by unfold State.postNext; (repeat' split) <;> simp
@[simp] theorem State.postNext_alm (n : Nat) (s : State) : (State.postNext n s).alm = s.alm := by unfold State.postNext; (repeat' split) <;> simp
@[simp] theorem State.postNext_pair (n : Nat) (s : State) : (State.postNext n s).pair = s.pair := by unfold State.postNext; (repeat' split) <;> simp
@[simp] theorem State.postNext_zones (n : Nat) (s : State) : (State.postNext n s).zones = s.zones := by unfold State.postNext; (repeat' split) <;> simp
@[simp] theorem State.postNext_zio (n : Nat) (s : State) : (State.postNext n s).zio = s.zio := by unfold State.postNext; (repeat' split) <;> simp
@[simp] theorem State.postNext_hostIn (n : Nat) (s : State) : (State.postNext n s).hostIn = s.hostIn := by unfold State.postNext; (repeat' split) <;> simp
@[simp] theorem State.postNext_helm (n : Nat) (s : State) : (State.postNext n s).helm = s.helm := by unfold State.postNext; (repeat' split) <;> simp
@[simp] theorem State.postNext_plan (n : Nat) (s : State) : (State.postNext n s).plan = s.plan := by unfold State.postNext; (repeat' split) <;> simp
@[simp] theorem State.postNext_forecast (n : Nat) (s : State) : (State.postNext n s).forecast = s.forecast := by unfold State.postNext; (repeat' split) <;> simp
@[simp] theorem State.postNext_occ (n : Nat) (s : State) : (State.postNext n s).occ = s.occ := by unfold State.postNext; (repeat' split) <;> simp
@[simp] theorem State.postNext_profile (n : Nat) (s : State) : (State.postNext n s).profile = s.profile := by unfold State.postNext; (repeat' split) <;> simp
@[simp] theorem State.postNext_snd (n : Nat) (s : State) : (State.postNext n s).snd = s.snd := by unfold State.postNext; (repeat' split) <;> simp
@[simp] theorem State.postNext_inp (n : Nat) (s : State) : (State.postNext n s).inp = s.inp := by unfold State.postNext; (repeat' split) <;> simp
@[simp] theorem State.postNext_fld (n : Nat) (s : State) : (State.postNext n s).fld = s.fld := by unfold State.postNext; (repeat' split) <;> simp
@[simp] theorem State.postNext_out (n : Nat) (s : State) : (State.postNext n s).out = s.out := by unfold State.postNext; (repeat' split) <;> simp
@[simp] theorem State.postNext_bus (n : Nat) (s : State) : (State.postNext n s).bus = s.bus := by unfold State.postNext; (repeat' split) <;> simp
@[simp] theorem State.postNext_svc (n : Nat) (s : State) : (State.postNext n s).svc = s.svc := by unfold State.postNext; (repeat' split) <;> simp
@[simp] theorem State.postNext_policy (n : Nat) (s : State) : (State.postNext n s).policy = s.policy := by unfold State.postNext; (repeat' split) <;> simp
@[simp] theorem State.postNext_chart (n : Nat) (s : State) : (State.postNext n s).chart = s.chart := by unfold State.postNext; (repeat' split) <;> simp
@[simp] theorem State.postNext_tiller (n : Nat) (s : State) : (State.postNext n s).tiller = s.tiller := by unfold State.postNext; (repeat' split) <;> simp

/-! ### Serving a request -/

theorem State.addFlight_eq (d : OpDef) (r : Req) (t : State) : t.addFlight d r = Safety.accepted d r t t := rfl

/-- A request that fails a check is rejected with that status, and nothing else changes (R21). -/
theorem serve_rejected (d : OpDef) (r : Req) (t : State) (st : Status) (hs : t.serves r.session = true)
    (hb : t.barred r.session = false) (hc : d.check r t = some st) : serve d r t = Safety.rejected d r st t := by
  simp only [serve, hs, hb, hc]; rfl

/-- Flights under another tag keep what they hold. -/
theorem finish_others (fs : List Flight) (n tag c : Nat) (x : Resp)
    (h : fs.any (fun f => f.session == n && f.tag == tag && !f.rejected) = false) :
    fs.map (fun f => if (f.session == n && f.tag == tag) && f.resp.isNone && !f.rejected then
      { f with resp := some (x.fit f.session), completed := c } else f) = fs := by
  induction fs with
  | nil => rfl
  | cons f fs ih =>
    simp only [List.any_cons, Bool.or_eq_false_iff] at h
    rw [List.map_cons, ih h.2]
    congr 1
    split
    · rename_i hh
      simp only [Bool.and_eq_true] at hh
      obtain ⟨⟨⟨a, b⟩, _⟩, d⟩ := hh
      simp [a, b, d] at h
    · rfl

/-- A request that executes and is answered at once: its own flight is all the mailbox keeps of it. -/
theorem serve_answered (d : OpDef) (r : Req) (t u : State) (st : Status) (p : List Byte) (hs : t.serves r.session = true)
    (hb : t.barred r.session = false) (hc : d.check r t = none) (hin : t.inFlight r.session r.tag = false)
    (hst : st ≠ .accepted ∧ st ≠ .deferred)
    (hbody : d.body r (t.addFlight d r) = (Safety.accepted d r t u, some { status := st, payload := p, stamp := t.now }))
    (hf : u.mb.flights = t.mb.flights) : serve d r t = Safety.answered d r st p t u := by
  have hm := finish_others t.mb.flights r.session r.tag (u.mb.completions + 1) { status := st, payload := p, stamp := t.now } hin
  simp only [serve, hs, hb, hc, OpDef.run, hbody, State.addInterim, hst.1, hst.2, State.finish, State.finishIf, Safety.accepted, Safety.answered,
    Safety.flight, hf]
  simpa using hm

/-- A request that executes and leaves its answer to a later command. -/
theorem serve_accepted (d : OpDef) (r : Req) (t u : State) (hs : t.serves r.session = true) (hb : t.barred r.session = false)
    (hc : d.check r t = none) (hbody : d.body r (t.addFlight d r) = (u, none)) : serve d r t = u := by
  simp [serve, hs, hb, hc, OpDef.run, hbody]

/-- A request that executes and is answered at once, whatever its status: it stands answered, and but for the mailbox the state is
what its operation left. -/
theorem serve_run (d : OpDef) (r : Req) (t u : State) (x : Resp) (hs : t.serves r.session = true) (hb : t.barred r.session = false)
    (hc : d.check r t = none) (hbody : d.body r (t.addFlight d r) = (u, some x))
    (hx : x.payload.length ≤ lengthLimit r.session) (hf : Safety.flight d r t ∈ u.mb.flights) :
    Safety.Replied r x.status x.payload (serve d r t) ∧ serve d r t = { u with mb := (serve d r t).mb } ∧
      (serve d r t).mb.interims = (u.addInterim d r x).mb.interims := by
  have he : serve d r t = (u.addInterim d r x).finish r.session r.tag x := by simp [serve, hs, hb, hc, OpDef.run, hbody]
  have hfa : Safety.flight d r t ∈ (u.addInterim d r x).mb.flights := by
    unfold State.addInterim; split <;> simpa using hf
  rw [he]
  refine ⟨⟨{ Safety.flight d r t with resp := some (x.fit r.session), completed := (u.addInterim d r x).mb.completions + 1 },
    x.fit r.session, ?_, rfl, rfl, rfl, ?_, ?_⟩, ?_, rfl⟩
  · simp only [State.finish, State.finishIf, List.mem_map]
    exact ⟨_, hfa, by simp [Safety.flight]⟩
  · simp [Resp.fit, Nat.not_lt.mpr hx]
  · simp [Resp.fit, Nat.not_lt.mpr hx]
  · unfold State.addInterim; split <;> rfl

end Sys2Proof.Machine
end

