-- ==== Sys2Proof/Laws/Snapshot.lean ====
section
/-! SUPPORT. Laws/Snapshot.lean: taking the input image (R30, R98) changes nothing but the zones, their inputs and Helm. -/

namespace Sys2Proof.Machine

/-- Whatever looks at neither the zones, nor their inputs, nor Helm sees no difference when an input image is taken. -/
theorem State.sampleFirst_keeps {β : Type} (p : State → β) (s : State)
    (h : ∀ t z i x, p { t with zones := z, zio := i, helm := x } = p t) :
    p s.sampleFirst = p s := by
  have hr : ∀ z t, p (State.snapRefs z t) = p t := fun z t => h t t.zones _ t.helm
  have hs : ∀ z t, p (State.snapZone z t) = p t := fun z t => by
    unfold State.snapZone
    rw [hr]
    exact h t _ _ t.helm
  have hl : ∀ n t, p (State.snapLoop n t) = p t := fun n t => by
    unfold State.snapLoop; split
    · rfl
    · exact h t t.zones t.zio _
  have hf : ∀ t, p (State.snapFloor t) = p t := fun t => by
    unfold State.snapFloor; split
    · rfl
    · refine (State.each_keeps p _ _ _ (fun z u => ?_)).trans (h t t.zones t.zio _)
      split
      · exact hs z u
      · exact hr z u
  unfold State.sampleFirst; split
  · rfl
  · refine (State.each_keeps p _ _ _ hl).trans ?_
    split
    · exact hf s
    · rfl

@[simp] theorem State.sampleFirst_pending (s : State) : s.sampleFirst.pending = s.pending :=
  State.sampleFirst_keeps (·.pending) s (fun _ _ _ _ => rfl)
@[simp] theorem State.sampleFirst_free (s : State) : s.sampleFirst.free = s.free :=
  State.sampleFirst_keeps (·.free) s (fun _ _ _ _ => rfl)
@[simp] theorem State.sampleFirst_clock (s : State) : s.sampleFirst.clock = s.clock :=
  State.sampleFirst_keeps (·.clock) s (fun _ _ _ _ => rfl)
@[simp] theorem State.sampleFirst_ready (s : State) : s.sampleFirst.ready = s.ready :=
  State.sampleFirst_keeps (·.ready) s (fun _ _ _ _ => rfl)
@[simp] theorem State.sampleFirst_mb (s : State) : s.sampleFirst.mb = s.mb :=
  State.sampleFirst_keeps (·.mb) s (fun _ _ _ _ => rfl)
@[simp] theorem State.sampleFirst_tr (s : State) : s.sampleFirst.tr = s.tr :=
  State.sampleFirst_keeps (·.tr) s (fun _ _ _ _ => rfl)
@[simp] theorem State.sampleFirst_cfg (s : State) : s.sampleFirst.cfg = s.cfg :=
  State.sampleFirst_keeps (·.cfg) s (fun _ _ _ _ => rfl)
@[simp] theorem State.sampleFirst_nv (s : State) : s.sampleFirst.nv = s.nv :=
  State.sampleFirst_keeps (·.nv) s (fun _ _ _ _ => rfl)
@[simp] theorem State.sampleFirst_log (s : State) : s.sampleFirst.log = s.log :=
  State.sampleFirst_keeps (·.log) s (fun _ _ _ _ => rfl)
@[simp] theorem State.sampleFirst_bin (s : State) : s.sampleFirst.bin = s.bin :=
  State.sampleFirst_keeps (·.bin) s (fun _ _ _ _ => rfl)
@[simp] theorem State.sampleFirst_sen (s : State) : s.sampleFirst.sen = s.sen :=
  State.sampleFirst_keeps (·.sen) s (fun _ _ _ _ => rfl)
@[simp] theorem State.sampleFirst_sup (s : State) : s.sampleFirst.sup = s.sup :=
  State.sampleFirst_keeps (·.sup) s (fun _ _ _ _ => rfl)
@[simp] theorem State.sampleFirst_mer (s : State) : s.sampleFirst.mer = s.mer :=
  State.sampleFirst_keeps (·.mer) s (fun _ _ _ _ => rfl)
@[simp] theorem State.sampleFirst_alm (s : State) : s.sampleFirst.alm = s.alm :=
  State.sampleFirst_keeps (·.alm) s (fun _ _ _ _ => rfl)
@[simp] theorem State.sampleFirst_pair (s : State) : s.sampleFirst.pair = s.pair :=
  State.sampleFirst_keeps (·.pair) s (fun _ _ _ _ => rfl)
@[simp] theorem State.sampleFirst_hostIn (s : State) : s.sampleFirst.hostIn = s.hostIn :=
  State.sampleFirst_keeps (·.hostIn) s (fun _ _ _ _ => rfl)
@[simp] theorem State.sampleFirst_plan (s : State) : s.sampleFirst.plan = s.plan :=
  State.sampleFirst_keeps (·.plan) s (fun _ _ _ _ => rfl)
@[simp] theorem State.sampleFirst_forecast (s : State) : s.sampleFirst.forecast = s.forecast :=
  State.sampleFirst_keeps (·.forecast) s (fun _ _ _ _ => rfl)
@[simp] theorem State.sampleFirst_occ (s : State) : s.sampleFirst.occ = s.occ :=
  State.sampleFirst_keeps (·.occ) s (fun _ _ _ _ => rfl)
@[simp] theorem State.sampleFirst_profile (s : State) : s.sampleFirst.profile = s.profile :=
  State.sampleFirst_keeps (·.profile) s (fun _ _ _ _ => rfl)
@[simp] theorem State.sampleFirst_snd (s : State) : s.sampleFirst.snd = s.snd :=
  State.sampleFirst_keeps (·.snd) s (fun _ _ _ _ => rfl)
@[simp] theorem State.sampleFirst_inp (s : State) : s.sampleFirst.inp = s.inp :=
  State.sampleFirst_keeps (·.inp) s (fun _ _ _ _ => rfl)
@[simp] theorem State.sampleFirst_fld (s : State) : s.sampleFirst.fld = s.fld :=
  State.sampleFirst_keeps (·.fld) s (fun _ _ _ _ => rfl)
@[simp] theorem State.sampleFirst_out (s : State) : s.sampleFirst.out = s.out :=
  State.sampleFirst_keeps (·.out) s (fun _ _ _ _ => rfl)
@[simp] theorem State.sampleFirst_bus (s : State) : s.sampleFirst.bus = s.bus :=
  State.sampleFirst_keeps (·.bus) s (fun _ _ _ _ => rfl)
@[simp] theorem State.sampleFirst_svc (s : State) : s.sampleFirst.svc = s.svc :=
  State.sampleFirst_keeps (·.svc) s (fun _ _ _ _ => rfl)
@[simp] theorem State.sampleFirst_policy (s : State) : s.sampleFirst.policy = s.policy :=
  State.sampleFirst_keeps (·.policy) s (fun _ _ _ _ => rfl)
@[simp] theorem State.sampleFirst_chart (s : State) : s.sampleFirst.chart = s.chart :=
  State.sampleFirst_keeps (·.chart) s (fun _ _ _ _ => rfl)
@[simp] theorem State.sampleFirst_tiller (s : State) : s.sampleFirst.tiller = s.tiller :=
  State.sampleFirst_keeps (·.tiller) s (fun _ _ _ _ => rfl)

end Sys2Proof.Machine
end

