-- ==== Sys2Proof/WellFormed.lean ====
section
/-! DEFINITION. WellFormed.lean: which operands a command can carry: the numbers of the units the module has and the widths of
a request's header fields. exec has a meaning for every command; an operand outside these ranges names nothing. -/

namespace Sys2Proof

/-- A request's own fields fit their places in the header (R375), and it has a session (R370, R391). -/
def Req.wellFormed (r : Req) : Bool :=
  decide (r.session ≠ 0) && decide (r.tag < 256) && decide (r.seq < 2 ^ 32) && decide (r.target < 2 ^ 32) && decide (r.fn < 256)

/-- The unit a command names exists: 16 universal inputs on 4 cores (R222), 64 recipes (R241), 32 channels in 4 groups, 8 angle
outputs, 512 event slots, 256 zones, 8 192 bindings (R325), 2 alarms, 68 keys and buttons (R577), 4 service cores, 12 rails
(R471); a written register value has 32 bits. -/
def Instr.wellFormed : Instr → Bool
  | .powerOnStart _ _ _ => true
  | .resetNAsserted _ => true
  | .resetNReleased _ => true
  | .thermalReset _ => true
  | .railLost _ rail _ => decide (rail < 12)
  | .railGoodRelease _ => true
  | .supplySample _ _ _ _ => true
  | .switchToMain _ => true
  | .collapse _ => true
  | .holdupEnd _ => true
  | .nvGoodChange _ => true
  | .holdStoreMeasurement _ _ => true
  | .sleepEntry _ => true
  | .wake _ _ => true
  | .crystalLost _ => true
  | .crystalReturned _ => true
  | .sensorSample _ _ _ _ _ => true
  | .sramScrubStep _ _ _ _ _ => true
  | .mramScrubStep _ _ _ => true
  | .journaledPageOperation _ _ => true
  | .sheafAddition _ _ => true
  | .recordWrite _ => true
  | .compaction _ => true
  | .nvRecovery _ _ => true
  | .configSelection _ => true
  | .logbookRecovery _ => true
  | .logbookWrite _ => true
  | .logbookRecordRaised _ _ _ _ _ _ _ => true
  | .serviceHeartbeatTimeout _ core => decide (core < 4)
  | .serviceStartTimeout _ => true
  | .serviceFaultReport _ core => decide (core < 4)
  | .serviceRestart _ _ => true
  | .failureCountReset _ => true
  | .binnacleWatchdog _ _ => true
  | .healthy _ _ => true
  | .trialTimeout _ _ => true
  | .verifyComplete _ _ _ => true
  | .fittedCrossing _ _ _ _ => true
  | .fitUpdate _ _ _ _ => true
  | .lossDetection _ => true
  | .turnBoundary _ _ => true
  | .turnMark _ => true
  | .concordanceLogPeriod _ => true
  | .slotFire _ slot _ _ => decide (slot < 512)
  | .bankCopyComplete _ => true
  | .bankSave _ => true
  | .bankLoaded _ => true
  | .conversionDone _ c _ => decide (c < 4)
  | .calibrationResult _ c _ => decide (c < 4)
  | .startCalibration _ => true
  | .recipeRun _ n _ _ => decide (n < 64)
  | .recipeRetry _ n _ _ => decide (n < 64)
  | .recipeComplete _ n _ => decide (n < 64)
  | .barrierFrame _ g _ _ _ _ _ _ => decide (g < 4)
  | .uplinkTimeout _ g => decide (g < 4)
  | .barrierTimeout _ g => decide (g < 4)
  | .barrierPowerChange _ g _ => decide (g < 4)
  | .vfieldChange _ g _ => decide (g < 4)
  | .vfieldUv _ g _ => decide (g < 4)
  | .parameterBlockApplied _ g _ => decide (g < 4)
  | .resume _ g => decide (g < 4)
  | .barrierDelayMeasurement _ g _ => decide (g < 4)
  | .edgeAccepted _ n _ _ _ => decide (n < 32)
  | .edgeLost _ n => decide (n < 32)
  | .freqGate _ n => decide (n < 32)
  | .tpoOffEdge _ n => decide (n < 32)
  | .overload _ n => decide (n < 32)
  | .thermal _ n => decide (n < 32)
  | .groupOverload _ g _ => decide (g < 4)
  | .tripRetry _ n _ => decide (n < 32)
  | .retrySeriesEnd _ n => decide (n < 32)
  | .openLoad _ n _ => decide (n < 32)
  | .darkPulse _ n _ _ => decide (n < 32)
  | .backfeed _ n _ => decide (n < 32)
  | .stuckOn _ n _ => decide (n < 32)
  | .switchFail _ n _ => decide (n < 32)
  | .forceDurationEnd _ kind n => decide (kind < 3) && decide (n < 32)
  | .aoWatchdogRefresh _ => true
  | .watchdog _ => true
  | .aoMonitorSample _ _ => true
  | .agoLatch _ n => decide (n < 8)
  | .agoEdge _ n => decide (n < 8)
  | .mdioPoll _ _ _ _ _ => true
  | .busFrameReceived _ _ => true
  | .responseTimeoutDiscard _ _ => true
  | .bacnetReadProperty _ _ _ _ _ => true
  | .bacnetWriteProperty _ _ _ _ _ => true
  | .bacnetSubscribeCov _ _ _ _ _ _ _ _ => true
  | .covNotification _ _ _ _ _ _ _ => true
  | .whoIs _ _ _ => true
  | .iAm _ _ _ _ _ => true
  | .partnerChanged _ => true
  | .timeSynchronization _ _ _ _ _ => true
  | .acknowledgeAlarm _ _ _ _ _ _ _ => true
  | .getEventInformation _ _ _ _ => true
  | .readRange _ _ _ _ _ _ _ => true
  | .deviceCommunicationControl _ _ _ _ _ _ => true
  | .dccDurationEnd _ => true
  | .reinitializeDevice _ _ _ _ _ => true
  | .networkLayerMessage _ _ _ _ => true
  | .apduTimeout _ _ => true
  | .dupMacHoldEnd _ _ => true
  | .modbusSlaveRequest _ _ _ _ _ _ _ => true
  | .modbusReply _ _ _ _ => true
  | .modbusTimeout _ _ => true
  | .scConnectResult _ _ _ => true
  | .scConnectionLost _ _ => true
  | .scReconnect _ => true
  | .whoisPeriod _ => true
  | .provisionalTimeout _ _ => true
  | .partnerHalfSilence _ _ => true
  | .partnerSilent _ _ => true
  | .partnerSave _ => true
  | .bindingPoll _ b => decide (b < 8192)
  | .covRenew _ b => decide (b < 8192)
  | .bindingWrite _ b => decide (b < 8192)
  | .bindingWriteRetry _ b => decide (b < 8192)
  | .eventNotificationSend _ => true
  | .guardEngaged _ z _ => decide (z < 256)
  | .guardReleased _ z _ => decide (z < 256)
  | .guardBlind _ z _ => decide (z < 256)
  | .hostValueSave _ => true
  | .planStart _ => true
  | .planComplete _ _ => true
  | .planDiscarded _ => true
  | .planModelDerived _ _ => true
  | .planStale _ => true
  | .occUpdate _ => true
  | .planStepEnd _ => true
  | .soundSettled _ z => decide (z < 256)
  | .soundCaptured _ z => decide (z < 256)
  | .soundAborted _ z _ => decide (z < 256)
  | .soundFitComplete _ z => decide (z < 256)
  | .deferredStart _ _ => true
  | .cfgEffect _ => true
  | .mirrorFrameReceived _ _ => true
  | .laneChange _ lanesIn lanesOut => decide (lanesIn < 4) && decide (lanesOut < 4)
  | .peerLineChange _ _ _ => true
  | .election _ => true
  | .takeover _ => true
  | .dualActive _ => true
  | .yieldedClear _ => true
  | .withdrawal _ => true
  | .handoverBoundary _ => true
  | .synchronisationComplete _ => true
  | .sharedChannelComparison _ n _ _ _ => decide (n < 32)
  | .phaseAlign _ => true
  | .almanacAlign _ _ => true
  | .almanacCommitEdge _ => true
  | .alarm _ n => decide (n < 2)
  | .wrapped _ => true
  | .almanacCrystalCheck _ _ => true
  | .domainPowerOn _ => true
  | .powerLost _ => true
  | .epaperUpdateStart _ => true
  | .epaperFrame _ => true
  | .epaperUpdateEnd _ => true
  | .compensationStart _ => true
  | .compensated _ => true
  | .chartReadback _ _ => true
  | .tillerRowFall _ => true
  | .tillerScan _ _ => true
  | .tillerSample _ _ _ => true
  | .stuck _ key => decide (key < 68)
  | .tillerMaskedPoll _ _ => true
  | .tillerInitial _ _ _ _ => true
  | .reqProdWrite _ value => decide (value < 2 ^ 32)
  | .rspConsWrite _ value => decide (value < 2 ^ 32)
  | .evtConsWrite _ value => decide (value < 2 ^ 32)
  | .irqStatusWrite _ value => decide (value < 2 ^ 32)
  | .evtLostRead _ => true
  | .fbDoorbellGo _ value => decide (value < 2 ^ 32)
  | .registerWrite _ _ _ _ => true
  | .requestAccept _ => true
  | .responsePost _ _ => true
  | .uartByteGap _ => true
  | .uartMessage _ _ => true
  | .udpDatagram _ _ _ _ => true
  | .authFailed _ => true
  | .udpSessionIdle _ _ => true
  | .zoneStatus _ r => r.wellFormed
  | .signalRead _ r => r.wellFormed
  | .signalWrite _ r => r.wellFormed
  | .modeWrite _ r => r.wellFormed
  | .hostInputWrite _ r => r.wellFormed
  | .wpForecast _ r => r.wellFormed
  | .wpTariff _ r => r.wellFormed
  | .wpReplan _ r => r.wellFormed
  | .wpStatus _ r => r.wellFormed
  | .wpTrajectory _ r => r.wellFormed
  | .occRead _ r => r.wellFormed
  | .uiRead _ r => r.wellFormed
  | .i2cRead _ r => r.wellFormed
  | .fcRead _ r => r.wellFormed
  | .fcEdgeRead _ r => r.wellFormed
  | .aoRead _ r => r.wellFormed
  | .agoRead _ r => r.wellFormed
  | .portStatus _ r => r.wellFormed
  | .partnerList _ r => r.wellFormed
  | .bindRead _ r => r.wellFormed
  | .chartWrite _ r => r.wellFormed
  | .chartStatus _ r => r.wellFormed
  | .tillerRead _ r => r.wellFormed
  | .tillerState _ r => r.wellFormed
  | .helmRead _ r => r.wellFormed
  | .helmWrite _ r => r.wellFormed
  | .bankCopy _ r => r.wellFormed
  | .bankSwap _ r => r.wellFormed
  | .helmDiag _ r => r.wellFormed
  | .slotRead _ r => r.wellFormed
  | .slotWrite _ r => r.wellFormed
  | .soundStart _ r => r.wellFormed
  | .soundAbort _ r => r.wellFormed
  | .soundStatus _ r => r.wellFormed
  | .soundCapture _ r => r.wellFormed
  | .soundResult _ r => r.wellFormed
  | .soundDeliver _ r => r.wellFormed
  | .fcForce _ r => r.wellFormed
  | .aoForce _ r => r.wellFormed
  | .agoForce _ r => r.wellFormed
  | .svcReadProperty _ r => r.wellFormed
  | .svcWriteProperty _ r => r.wellFormed
  | .svcTimeSet _ r => r.wellFormed
  | .svcTimeRead _ r => r.wellFormed
  | .cfgInfo _ r => r.wellFormed
  | .cfgBegin _ r => r.wellFormed
  | .cfgWrite _ r => r.wellFormed
  | .cfgCommit _ r => r.wellFormed
  | .cfgRead _ r => r.wellFormed
  | .clampRead _ r => r.wellFormed
  | .sheafRead _ r => r.wellFormed
  | .barrier _ r => r.wellFormed
  | .identify _ r => r.wellFormed
  | .sessionOpen _ r => r.wellFormed
  | .sessionProve _ r => r.wellFormed
  | .sessionClose _ r => r.wellFormed
  | .secWrite _ r => r.wellFormed
  | .secInfo _ r => r.wellFormed
  | .logRead _ r => r.wellFormed
  | .logAck _ r => r.wellFormed
  | .concordRead _ r => r.wellFormed
  | .almanacRead _ r => r.wellFormed
  | .almanacWrite _ r => r.wellFormed
  | .almanacTrim _ r => r.wellFormed
  | .almanacAlarm _ r => r.wellFormed
  | .backupRead _ r => r.wellFormed
  | .backupWrite _ r => r.wellFormed
  | .updateBegin _ r => r.wellFormed
  | .updateWrite _ r => r.wellFormed
  | .updateVerify _ r => r.wellFormed
  | .updateSwap _ r => r.wellFormed
  | .updateStatus _ r => r.wellFormed
  | .reset _ r => r.wellFormed
  | .selftest _ r => r.wellFormed
  | .selftestComplete _ _ _ _ => true
  | .sensorRead _ r => r.wellFormed
  | .uiCalibrate _ r => r.wellFormed
  | .fcClear _ r => r.wellFormed
  | .policyRead _ r => r.wellFormed
  | .pairStatus _ r => r.wellFormed
  | .pairHandover _ r => r.wellFormed
  | .eventRead _ r => r.wellFormed
  | .eventStatus _ r => r.wellFormed
  | .countLoRead _ => true
  | .countLoWrite _ lo => decide (lo < 2 ^ 32)
  | .alarmLoWrite _ n lo => decide (n < 2) && decide (lo < 2 ^ 32)
  | .thermalResetRelease _ => true
  | .servicesRises _ => true
  | .ldLost _ _ => true
  | .shuntDisconnect _ n => decide (n < 16)
  | .trimPeriodStart _ => true
  | .busFrameSent _ _ _ _ => true
  | .dhcpLeaseExpiry _ _ _ => true
  | .plcaBeacon _ _ => true
  | .mstpTimeout _ _ _ _ => true
  | .foreignDeviceReregister _ => true

end Sys2Proof
end

