-- ==== Sys2Proof/Tests/Slice0.lean ====
section
/-! SUPPORT. Tests/Slice0.lean: worked examples of the specification, ill-formed commands, and for every statement of
Certificates/Slice0/Obligations.lean that has hypotheses a theorem witness_<Name> that shows, clause by clause, a state and
operands that meet them together. -/

namespace Sys2Proof.Tests

set_option maxRecDepth 100000
set_option Elab.async false

open Sys2Proof.Machine

/-! ### States used below: a running module, and small changes of it -/

def all (ns : List Nat) : Word32 := bitMask ns
def liv : State := { State.reset with
  ready := 0x1FFFFFFF, sup := { state := .main, mainPresent := true, vhold := 30000 }, nv := { good := true }
  bin := { svc := .running }, mer := { state := .locked, stamp := mkStamp 1000 7, waveform := true }
  alm := { dead := false, locked := false, wrapped := false, powerLost := false, powerLostOwed := false, count := 5000 } }
def withCfg (s : State) (xs : List (Nat × Nat × Nat)) : State := { s with cfg.values := xs.foldl (fun t x => t.set (x.1 * 65536 + x.2.1) (some (BitVec.ofNat 32 x.2.2))) s.cfg.values }
def exp (s : State) : State := { s with mb.qspi := { proven := some .expert } }
def poke (s : State) (a : Nat) (bs : List Byte) : State := { s with nv.mem := s.nv.mem.writeBytes a bs }
def low (s : State) (xs : List Nat) : State := { s with ready := s.ready &&& ~~~ bitMask xs }
def img : List Byte := le 2 0x4643 ++ le 1 1 ++ le 1 0 ++ le 4 9 ++ le 8 0 ++ le 16 0
def recPage (gen : Nat) (im : List Byte) : List Byte :=
  let p := le 4 0x4A43574D ++ le 4 gen ++ le 4 im.length ++ le 4 (crc32c im) ++ List.replicate 236 0
  p ++ le 4 (crc32c p)
def withSet (s : State) (n : Nat) (im : List Byte) : State := poke (poke s (setBase n) im) (commitPage n * 256) (recPage 9 im)
def slotS (action : Nat) : State := { liv with mer.slots := Tbl.set [] 40 { words := slotWords 1 action 0 7 5 9, owner := .host } }
def chS (s : State) (n : Nat) (i : ChIn) (o : ChOut) (g : Group) : State :=
  { s with fld.ins := Tbl.set [] n i, fld.outs := Tbl.set [] n o, fld.groups := Tbl.set [] (n / 8) g }
def liv2 : State := { liv with mer.concord := [{ stamp := mkStamp 900 0, ticks := 1000, rate := 50000000 }, { stamp := mkStamp 964 0, ticks := 42943, rate := 50000000, seq := 1 }] }
def drain : Nat → Nv → Nv
  | 0, n => n
  | k + 1, n => match n.nextOp with
    | some o => drain k ((n.dropOp o).runOp o .whole)
    | none => n
def stored (s : State) (q : SaveReq) : State :=
  match s.nv.findRun (recordPages q.payload.length) with
  | some p => { s with nv := drain 50 (s.nv.queueRecord q p) }
  | none => s
def withPw : State := stored liv { typ := 7, key := 0x600, payload := [0x41] }
def bound (dir meth : Nat) : State :=
  { withCfg liv [(Fid.BIND_PARTNER,4,77),(Fid.BIND_DIR,4,dir),(Fid.BIND_METHOD,4,meth),(Fid.BIND_PERIOD,4,4)] with
    bus.partners := Tbl.set [] 9 { kind := 1, state := .identified, identity := 77, port := 5, address := 3 }, bus.binds := Tbl.set [] 4 { inForce := true } }
def zoned : State := withCfg liv [(Fid.ZONE_NX,0,2),(Fid.ZONE_NU,0,1),(Fid.ZONE_NY,0,1),(Fid.ZONE_ND,0,1)]
def drv : State := { withCfg (bound 1 0) [(Fid.ZONE_NX,0,2),(Fid.ZONE_NU,0,1),(Fid.U_DEST0,0,Dest.bus * 2 ^ 28 + 4)] with zones := Tbl.set [] 0 { applied := true, img := Tbl.set [] 0 (0x41A00000 : Word32) } }
def keyed : State := stored liv { typ := 7, key := 0x1000, payload := List.replicate 32 7 }
def logged : State := match execLogbookWrite {} { liv with log.queue := [{ severity := 1 }, { severity := 2, source := 5 }] } with | .next u => u | _ => liv
def snds : State := withCfg zoned [(Fid.SND_ENABLE,0,1),(Fid.SND_ALLOW,0,1),(Fid.SND_AMP_MAX,0,500),(Fid.U_KIND,0,1)]
def sndReq : List Byte := [1, 1, 0, 1] ++ le 2 1024 ++ le 2 64 ++ [5, 1, 0, 0] ++ le 2 0 ++ le 2 16 ++ le 2 0xFFFF ++ le 2 0xFFFF ++ le 4 100 ++ le 12 0 ++ le 4 0x80000000 ++ le 4 0x80000000 ++ le 4 0x80000000 ++ le 4 0x80000000
def wp : State := withCfg zoned [(Fid.WP_ENABLE,0,1),(Fid.R_BASE,0,9 * 2 ^ 28)]
def epa0 : State := { withCfg liv [(Fid.CH_MODE,0,2)] with chart := { state := .updating, frame := 0, frames := 3, target := List.replicate 24 3, ledgerPage := 1 } }
def epa : State := poke epa0 ((ledgerBase + 0) * 256) (ledgerBytes epa0.chart.state.code epa0.chart.useBand epa0.chart.ledgerSeq.toNat 1 epa0.chart.target epa0.nextBalance)
def pr (role : PairRole) : State := { withCfg liv [(Fid.PAIR_ENABLE,0,1)] with pair := { role := role, lanesIn := 3, lanesOut := 3 } }
def udp : State := { withCfg liv [(Fid.SEC_UDP_ENABLE,0,1)] with tr.udp := [{ id := 16, ip := 7 }] }
def bnet : State := withCfg liv [(Fid.BAC_NET,0,1),(Fid.BAC_NET,6,5)]
/-- `s` with fields in the parameter block of group `g`. -/
def blk (s : State) (g : Nat) (xs : List (Nat × Nat × Nat)) : State :=
  { s with fld.groups := s.fld.groups.upd g (fun o => { o with block := xs.foldl (fun t x => t.set (x.1 * 65536 + x.2.1) (some (BitVec.ofNat 32 x.2.2))) o.block }) }
/-- Field channel 31, powered, its group linked both ways. -/
def chan (i : ChIn) (o : ChOut) : State := chS liv 31 i o { vPresent := true, barrierPower := true, linkUp := true, linkDown := true }
def partner4 (dir meth : Nat) (o : Outstanding) : State :=
  { bound dir meth with bus.requests := [o], clock := 100000000 }

/-! ### Worked examples and tables of the specification: the expected values are those it prints -/

/-- Chapter 00: the stamp 000000012C040000h is turn 4 800, grain 262 144. -/
theorem test_stamp_of_chapter_00 :
    Stamp.turn 0x000000012C040000 = 4800 ∧ Stamp.grain 0x000000012C040000 = 262144 := by decide +kernel

/-- R16: half the range apart, two values are unordered. -/
theorem test_serial_half_range : newer 16 0 0x8000 = false ∧ newer 16 0x8000 0 = false ∧ newer 16 1 0xFFFF = true := by decide

/-- Chapter 02: the slew closes 16 384 grains in a cycle and lands with the rest: the full rate 63/64 first, then the one that
brings e = −7 232 to 0 at the turn's end. -/
theorem test_slew_rates :
    slewRate 59995000 64 1048576 (-40000) = 59995000 * 63 / 64 ∧
    slewRate 59995000 64 1048576 (-7232) = 59995000 * 1048576 / (1048576 + 7232) := by decide +kernel

/-- Chapter 02: T0 of the hotel floor: 7 340 032 + 65 536 + 3 000 × 49.98. -/
theorem test_t0_of_chapter_02 :
    let s := stored { liv with alm := { liv.alm with count := 98304000 + 5 } } { typ := 1, key := 0, payload := turnMark 7340032 5 49980000 }
    s.t0FromMark = 7555508 := by decide +kernel

/-- Chapter 02: 36.5 turns at 60.010 Hz are 19 930.545 ticks. -/
theorem test_conversion_of_chapter_02 :
    (grainsToTicks16 (36 * 1048576 + 524288) 60010000) / 65536 = 19930 := by decide +kernel

/-- Chapter 03: the knob at 9.0 V through gain 0.6 and offset −3.0 adjusts by 2.4, cut to 2.00 by R_ADJ_LIMIT; base 21.50. -/
theorem test_reference_of_chapter_03 :
    let s := withCfg liv [(Fid.Y_KIND, 0x70, 1), (Fid.R_ADJ_LIMIT, 0x70, 200), (Fid.R_MIN, 0x70, 1600), (Fid.R_MAX, 0x70, 2600)]
    s.refTarget 7 0 none (F32.ofRat 215 10) (some (F32.ofRat 24 10)) = 2350 * 2 ^ 149 := by decide +kernel

/-- Chapter 03: R_RATE 100 is 1.00 °C per 4 096 turns, 1/8 192 °C per floor sample. -/
theorem test_rate_limit_of_chapter_03 :
    let s := withCfg liv [(Fid.Y_KIND, 0x70, 1), (Fid.R_RATE, 0x70, 100)]
    s.refTarget 7 0 (some (2200 * 2 ^ 149)) (F32.ofRat 235 10) none = 2200 * 2 ^ 149 + 100 * 2 ^ 149 / 8192 := by decide +kernel

/-- Chapter 06: PRBS_DEG 9: zone 33's first input starts 28 steps on. -/
theorem test_prbs_shift_of_chapter_06 : prbsBit 9 33 0 0 = bitOf (prbsSteps 28 9 511) 8 := by decide +kernel

/-- R199: the register of degree 9 returns after 511 steps and not after 73 or 7. -/
theorem test_prbs_period : prbsSteps 511 9 511 = 511 ∧ prbsSteps 73 9 511 ≠ 511 ∧ prbsSteps 7 9 511 ≠ 511 := by decide +kernel

/-- Chapter 07: core 0 in turns 1000 to 1009: UI1, UI2, UI3, UI0, …, zero calibration, UI1. -/
theorem test_rotation_of_chapter_07 :
    [1000, 1001, 1002, 1003, 1004, 1005, 1006, 1007, 1008, 1009].map (calWhat 0) = [1, 2, 3, 0, 1, 2, 3, 0, 4, 1] := by decide

/-- Chapter 08: the duties 37.50 % and 80.00 % of a period of 512 turns, and 0.60 % below FC_TPO_MIN. -/
theorem test_tpo_of_chapter_08 :
    let s := withCfg liv [(Fid.FC_TPO_PERIOD, 20, 512), (Fid.FC_TPO_MIN, 20, 4)]
    ((s.tpoStart 20 (F32.ofRat 375 10)).fld.outs.get 20).onTime = 201326592 ∧
    ((s.tpoStart 20 (F32.ofNat 80)).fld.outs.get 20).onTime = 429496730 ∧
    ((s.tpoStart 20 (F32.ofRat 6 10)).fld.outs.get 20).onTime = 0 := by decide +kernel

/-- Chapter 09: half drive of the POWER law fires a quarter turn on. -/
theorem test_power_law_of_chapter_09 :
    (withCfg liv [(Fid.AGO_LAW, 3, 1)]).firingDelay 3 (F32.ofNat 50) = 262144 := by decide +kernel

/-- R283: the POWER law solves d = 1 − θ/π + sin(2θ)/(2π): at d = 1/4 and 3/4 the exact angles are symmetric about a quarter
turn. -/
theorem test_power_exact : powerDelay 0 = 524288 ∧ powerDelay (F32.ofNat 100) = 0 ∧
    powerExact 1 4 + powerExact 3 4 = 524288 := by decide +kernel

/-- Chapter 09: a BURST output at 30.00 % is on in the 4th, 7th and 10th turn of ten. -/
theorem test_burst_of_chapter_09 :
    let d := F32.ofNat 30
    let run := fun (o : Ago) => o.burstLatch d
    let xs := (List.range 10).map (fun n => (List.range (n + 1)).foldl (fun o _ => run o) ({} : Ago))
    xs.map (fun o => o.on) = [false, false, false, true, false, false, true, false, false, true] ∧
      xs.map (fun o => o.acc) = [3000, 6000, 9000, 2000, 5000, 8000, 1000, 4000, 7000, 0] := by decide +kernel

/-- Chapter 12: the first 12 header bytes of the HELM_WRITE. -/
theorem test_header_of_chapter_12 :
    (message 0 5 2 2 0 0x0D 0 0x14 0 (List.replicate 140 0)).take 12 =
      [0x4A, 0x4D, 0x01, 0x00, 0x05, 0x02, 0x02, 0x00, 0x8C, 0x00, 0x00, 0x0D] := by decide +kernel

/-- One image entry of R417 with a single element. -/
def elem (field index value : Nat) : List Byte := le 2 field ++ le 2 index ++ le 2 1 ++ le 2 1 ++ le 4 value

/-- The 152-byte image of chapter 13. -/
def image13 : List Byte :=
  le 2 0x4643 ++ le 1 1 ++ le 1 0 ++ le 4 42 ++ le 4 0 ++ List.replicate 20 0 ++
  elem 0x0101 0 3 ++ elem 0x0201 0x14 1 ++ elem 0x0210 0x14 1 ++ elem 0x0502 9 2 ++ elem 0x0503 9 1 ++ elem 0x0504 9 0 ++
  elem 0x0521 0x90 0x30000014 ++ elem 0x0550 0x90 9 ++ elem 0x05FF 0 1 ++ elem 0x0F40 0 2000

/-- Chapter 13: the clamp report of the worked example, entry by entry. -/
theorem test_clamp_report_of_chapter_13 :
    (evaluate image13 152 false).report.map (fun c => [c.field, c.index, c.requested, c.applied, c.reason, c.severity]) =
      [[0x05FF, 0, 1, 0, 5, 0], [0x0101, 0, 3, 0, 3, 1], [0x0F40, 0, 0x7D0, 0x5DC, 2, 1], [0x0210, 0x14, 1, 0, 4, 1],
       [0x0504, 9, 0, 1, 1, 1], [0x0550, 0x90, 9, 0xFFFF, 4, 2], [0x0521, 0x90, 0x30000014, 0, 4, 2]] := by decide +kernel

/-- Chapter 14: page 1 800 of the record store is page 29 448 of the array, and a payload of 300 bytes takes 2 pages. -/
theorem test_record_pages_of_chapter_14 : recordBase / 256 + 1800 = 29448 ∧ recordPages 300 = 2 := by decide

/-- Chapter 15: the window of the record in slot 3 000 protects slots 3 000 to 3 064. -/
theorem test_window_of_chapter_15 :
    let l : Logbook := { slots := Tbl.set (Tbl.set (Tbl.set [] 3000 500000) 3064 500064) 3065 500065, windows := [500000] }
    l.protectedSlot 3000 = true ∧ l.protectedSlot 3064 = true ∧ l.protectedSlot 3065 = false := by decide +kernel

/-- Chapter 18: with TRIM −21 the domain skips the crystal edges 0, 49 932 and 99 864. -/
theorem test_trim_of_chapter_18 :
    ticksOver (-21) 0 1 = 0 ∧ ticksOver (-21) 49932 49933 = 0 ∧ ticksOver (-21) 99864 99865 = 0 ∧
    ticksOver (-21) 49931 49932 = 1 ∧ ticksOver (-21) 49933 49934 = 1 ∧ ticksOver (-21) 0 1048576 = 1048576 - 21 := by decide +kernel

/-- Chapter 18, step 1: a write that moves the count past alarm 0 fires it with cause SET, EPOCH 18. -/
theorem test_alarm_set_of_chapter_18 :
    let m : Almanac := { liv.alm with count := 1000000000, epoch := 17, alarm0 := { value := 1000100000, enabled := true } }
    let s : State := { liv with alm := m.enqueue { value := 1000200000 } }
    let t := s.commitEdge
    t.alm.alarm0.fired = true ∧ t.alm.alarm0.cause = 2 ∧ t.alm.epoch = 18 ∧ t.alm.count = 1000200000 := by decide +kernel

/-- Chapter 18, step 2: a write backwards leaves FIRED and fires nothing. -/
theorem test_alarm_backwards_of_chapter_18 :
    let m : Almanac := { liv.alm with count := 1000200000, epoch := 18, alarm0 := { value := 1000100000, enabled := true, fired := true, cause := 2 } }
    let t := ({ liv with alm := m.enqueue { value := 999000000 } } : State).commitEdge
    t.alm.alarm0.fired = true ∧ t.alm.alarm0.cause = 2 ∧ t.alm.epoch = 19 ∧ t.log.queue.length = 1 := by decide +kernel

/-- R17, R81: 22.732 °C reads as 2 273 at basic level. -/
theorem test_basic_level : toBasic 1 (some (F32.ofRat 22732 1000)) = 2273 := by decide +kernel

/-- R146: binary32 rounds to nearest even: 1 + 2^−24 is 1, 1 + 3 × 2^−24 is 1 + 2^−22. -/
theorem test_round_to_even :
    F32.add F32.one 0x33800000 = F32.one ∧ F32.add F32.one 0x34400000 = 0x3F800002 := by decide +kernel

/-- CRC-32C of R375 over "123456789" is E3069283h, CRC-16 of R245 29B1h, CRC-8 of recipes F7h: the check values of these
polynomials. -/
theorem test_checks :
    let bs : List Byte := [0x31, 0x32, 0x33, 0x34, 0x35, 0x36, 0x37, 0x38, 0x39]
    crc32c bs = 0xE3069283 ∧ crc16 bs = 0x29B1 ∧ crc8 bs = 0xF7 := by decide +kernel

/-- SHA-256 of "abc" (the example of its standard), used by R390. -/
theorem test_sha256 :
    sha256 [0x61, 0x62, 0x63] =
      [0xba, 0x78, 0x16, 0xbf, 0x8f, 0x01, 0xcf, 0xea, 0x41, 0x41, 0x40, 0xde, 0x5d, 0xae, 0x22, 0x23,
       0xb0, 0x03, 0x61, 0xa3, 0x96, 0x17, 0x7a, 0x9c, 0xb4, 0x10, 0xff, 0x61, 0xf2, 0x00, 0x15, 0xad] := by decide +kernel

/-! ### Steps of the block -/

/-- An empty queue idles; a command at the front runs and leaves the queue. -/
theorem test_idle : step State.reset = .next State.reset := by rfl

theorem test_queue : (match step { liv with pending := [.evtLostRead {}, .crystalLost {}] } with
    | .next t => t.pending == [.crystalLost {}]
    | _ => false) = true := by decide +kernel

/-- No row of the table gives bits. -/
theorem test_no_words : decodeTableWord 0 0 = none ∧ State.reset.withFetchWord 16 5 = State.reset := ⟨rfl, rfl⟩

/-- R378: the indices wrap at 16 bits; R379: a write to REQ_PROD beyond 256 slots is ignored. -/
theorem test_req_prod :
    (match execReqProdWrite {} 0x0101 { liv with mb.reqCons := 0 } with | .next t => t.mb.reqProd == 0 | _ => false) = true ∧
    (match execReqProdWrite {} 0x0100 { liv with mb.reqCons := 0 } with | .next t => t.mb.reqProd == 0x100 | _ => false) = true := by
  decide +kernel

/-! ### Well-formed commands: for each check a term it refuses -/

theorem test_wf_good : (Instr.slotFire {} 511 0 0).wellFormed = true ∧ (Instr.identify {} {}).wellFormed = true := by decide

theorem test_wf_request :
    (Instr.identify {} { session := 0 }).wellFormed = false ∧ (Instr.identify {} { tag := 256 }).wellFormed = false ∧
    (Instr.identify {} { seq := 2 ^ 32 }).wellFormed = false ∧ (Instr.identify {} { target := 2 ^ 32 }).wellFormed = false ∧
    (Instr.identify {} { fn := 256 }).wellFormed = false := by decide

theorem test_wf_units :
    (Instr.conversionDone {} 4 0).wellFormed = false ∧ (Instr.shuntDisconnect {} 16).wellFormed = false ∧
    (Instr.recipeRun {} 64 [] true).wellFormed = false ∧ (Instr.uplinkTimeout {} 4).wellFormed = false ∧
    (Instr.overload {} 32).wellFormed = false ∧ (Instr.agoLatch {} 8).wellFormed = false ∧
    (Instr.slotFire {} 512 0 0).wellFormed = false ∧ (Instr.guardEngaged {} 256 true).wellFormed = false ∧
    (Instr.bindingPoll {} 8192).wellFormed = false ∧ (Instr.alarm {} 2).wellFormed = false ∧
    (Instr.stuck {} 68).wellFormed = false ∧ (Instr.railLost {} 12 0).wellFormed = false ∧
    (Instr.serviceFaultReport {} 4).wellFormed = false ∧ (Instr.forceDurationEnd {} 3 0).wellFormed = false ∧
    (Instr.laneChange {} 4 0).wellFormed = false ∧ (Instr.countLoWrite {} (2 ^ 32)).wellFormed = false ∧
    (Instr.reqProdWrite {} (2 ^ 32)).wellFormed = false := by decide

/-! ### The hypotheses of the statements are met -/

theorem asks_of {fb : Bool} {fn len : Nat} {r : Req} {t : State}
    (h : t.serves r.session = true ∧ t.barred r.session = false ∧ (fb = true ∨ binnacleSide r.session = false) ∧
      t.inFlight r.session r.tag = false ∧ t.rights r.session ≠ .none ∧ r.fn = fn ∧ r.payload.length = len ∧
      r.payload.length ≤ lengthLimit r.session) : Safety.Asks fb fn len r t :=
  let ⟨a, b, c, d, e, f, g, i⟩ := h
  ⟨a, b, c, d, e, f, g, i⟩

theorem commands_of {fb : Bool} {fn len : Nat} {r : Req} {t : State}
    (h : (t.serves r.session = true ∧ t.barred r.session = false ∧ (fb = true ∨ binnacleSide r.session = false) ∧
      t.inFlight r.session r.tag = false ∧ t.rights r.session ≠ .none ∧ r.fn = fn ∧ r.payload.length = len ∧
      r.payload.length ≤ lengthLimit r.session) ∧ t.rights r.session = .expert) : Safety.Commands fb fn len r t :=
  ⟨asks_of h.1, h.2⟩

theorem witness_StepRunsTheFrontCommand : ∃ s : State, s.pending = [] := ⟨liv, rfl⟩

theorem witness_QueueIsFirstInFirstOut :
    (∃ (c : Instr) (s t : State), exec c s = .next t) ∧ ∃ s t : State, step s = .next t :=
  ⟨⟨.almanacRead {} { target := 3 }, liv, _, rfl⟩, { liv with pending := [.lossDetection { grains := 1310720 }] }, _, rfl⟩

theorem witness_StampNeverGoesBack :
    ∃ (c : Instr) (s t : State), exec c s = .next t ∧ s.rdy Rdy.meridian = true ∧ t.rdy Rdy.meridian = true ∧ s.turn + 1 < 2 ^ 44 :=
  ⟨.turnBoundary { grains := 1048569 } 0, liv, _, rfl, by decide +kernel, by decide +kernel, by decide +kernel⟩

theorem reserved_zero : ∀ n, 29 ≤ n → readyBit liv.ready n = false := by
  intro n hn
  by_cases h : n < 32
  · have h29 : n = 29 ∨ n = 30 ∨ n = 31 := by omega
    rcases h29 with rfl | rfl | rfl <;> decide +kernel
  · exact BitVec.getLsbD_of_ge _ _ (by omega)

theorem witness_ReservedReadyBitsReadZero :
    ∃ (c : Instr) (s t : State), exec c s = .next t ∧ ∀ n, 29 ≤ n → readyBit s.ready n = false :=
  ⟨.crystalLost {}, liv, _, rfl, reserved_zero⟩

theorem witness_SerialArithmetic :
    (∃ n a b : Nat, 1 ≤ n ∧ a < 2 ^ n ∧ b < 2 ^ n) ∧
    (∃ n a b : Nat, 1 ≤ n ∧ a < 2 ^ n ∧ b < 2 ^ n ∧ ((a : Int) - b) % 2 ^ n = 2 ^ (n - 1)) :=
  ⟨⟨16, 1, 65535, by decide, by decide, by decide⟩, 16, 0x8000, 0, by decide, by decide, by decide, by decide⟩

theorem witness_PostingOrder : ∃ (s : State) (n : Nat) (f : Flight), s.nextPost n = some f :=
  ⟨{ liv with mb.flights := [{ session := 1, tag := 3, order := 1, completed := 2, resp := some { status := .done } },
      { session := 1, tag := 4, fn := 1, order := 2, completed := 1, resp := some { status := .done } }] }, 1, _, rfl⟩

theorem witness_MessagesReadBack : ∃ (tag cls opcode fn seq target : Nat) (payload : List Byte),
    tag < 2 ^ 8 ∧ cls < 2 ^ 8 ∧ opcode < 2 ^ 16 ∧ fn < 2 ^ 8 ∧ seq < 2 ^ 32 ∧ target < 2 ^ 32 ∧ payload.length < 2 ^ 16 :=
  ⟨255, 255, 65535, 255, 2 ^ 32 - 1, 2 ^ 32 - 1, [1], by decide, by decide, by decide, by decide, by decide, by decide, by decide⟩

theorem witness_ReadsChangeOnlyTheirFlight : ∃ (c : Instr) (a : At) (r : Req) (s u : State),
    c = .tillerState a r ∧ exec c s = .next u :=
  ⟨_, {}, {}, liv, _, rfl, rfl⟩

theorem witness_MemoriesStayCanonical : ∃ (c : Instr) (s t : State),
    exec c s = .next t ∧ s.nv.mem.wf ∧ s.mb.mem.wf ∧ s.alm.backup.wf :=
  ⟨.backupWrite {} { payload := List.replicate 64 9 }, withSet liv 2 img, _, rfl, by decide +kernel, by decide +kernel, by decide +kernel⟩

theorem witness_ResetsHoldTheModule :
    (∃ (a : At) (s : State) (t : State), t = s.advance a ∧ t.sup.state ≠ SupplyState.off ∧ t.bin.resetHeld ≠ 3) ∧
    (∃ (a : At) (rail : Nat) (mv : Nat) (s : State) (t : State), t = s.advance a ∧ t.sup.state ≠ SupplyState.off ∧ t.bin.resetHeld = 0 ∧ rail ≤ 1 ∧ mv < 720) ∧
    (∃ (a : At) (s : State) (t : State), t = s.advance a ∧ t.sup.state ≠ SupplyState.off ∧ t.bin.resetHeld = 0 ∧ 10 ≤ t.sen.hotRun) ∧
    (∃ (a : At) (s : State) (t : State), t = s.advance a ∧ t.sup.state ≠ SupplyState.off) :=
  ⟨⟨{}, liv, liv.advance ({} : At), rfl, by decide +kernel, by decide +kernel⟩,
    ⟨{}, 1, 719, liv, liv.advance ({} : At), rfl, by decide +kernel, by decide +kernel, by decide +kernel, by decide +kernel⟩,
    ⟨{}, { liv with sen.hotRun := 10 }, ({ liv with sen.hotRun := 10 } : State).advance ({} : At), rfl, by decide +kernel, by decide +kernel, by decide +kernel⟩,
    ⟨{}, liv, liv.advance ({} : At), rfl, by decide +kernel⟩⟩

theorem witness_StartsOfTheModule :
    (∃ (a : At) (s : State) (t : State), t = s.advance a ∧ t.sup.state = SupplyState.off ∧ 20 ≤ t.sup.startSamples) ∧
    (∃ (a : At) (s : State) (t : State), t = s.advance a ∧ t.sup.state ≠ SupplyState.off ∧ t.bin.resetHeld = 3) ∧
    (∃ (a : At) (s : State) (t : State), t = s.advance a ∧ t.sup.state ≠ SupplyState.off ∧ t.bin.resetHeld = 2 ∧ 10 ≤ t.sen.heldGood) ∧
    (∃ (a : At) (s : State) (t : State), t = s.advance a ∧ t.sup.state ≠ SupplyState.off ∧ t.bin.resetHeld = 5 ∧ (t.sen.temps.get 0).value < 11500) ∧
    (∃ (a : At) (source : Nat) (s : State) (t : State), t = s.advance a ∧ t.sup.asleep = true ∧ t.wakes source = true) :=
  ⟨⟨{}, { State.reset with sup.startSamples := 20 }, ({ State.reset with sup.startSamples := 20 } : State).advance ({} : At), rfl, by decide +kernel, by decide +kernel⟩,
    ⟨{}, { liv with bin.resetHeld := 3 }, ({ liv with bin.resetHeld := 3 } : State).advance ({} : At), rfl, by decide +kernel, by decide +kernel⟩,
    ⟨{}, { liv with bin.resetHeld := 2, sen.heldGood := 10 }, ({ liv with bin.resetHeld := 2, sen.heldGood := 10 } : State).advance ({} : At), rfl, by decide +kernel, by decide +kernel, by decide +kernel⟩,
    ⟨{}, { liv with bin.resetHeld := 5 }, ({ liv with bin.resetHeld := 5 } : State).advance ({} : At), rfl, by decide +kernel, by decide +kernel, by decide +kernel⟩,
    ⟨{}, 1, { liv with sup.asleep := true, ready := 0 }, ({ liv with sup.asleep := true, ready := 0 } : State).advance ({} : At), rfl, by decide +kernel, by decide +kernel⟩⟩

theorem witness_SuppliesAndNvGood :
    (∃ (a : At) (vmain : Nat) (vback : Nat) (vhold : Nat) (s : State) (t : State) (p : Supply), t = s.advance a ∧ (∀ c, t.sup.sampledAt = some c → c + 50 ≤ t.clock) ∧ p = t.sup.sample vmain vback vhold) ∧
    (∃ (a : At) (s : State) (t : State), t = s.advance a ∧ t.sup.state = SupplyState.backup ∧ t.sup.asleep = false ∧ (2000 ≤ t.sup.mainSamples ∨ (t.sup.backPresent = false ∧ t.sup.meanAtLeast 16000 = true))) ∧
    (∃ (a : At) (s : State) (t : State), t = s.advance a ∧ t.sup.state ≠ SupplyState.off ∧ t.nv.good = false ∧ 12000 ≤ t.sup.vhold) ∧
    (∃ (a : At) (s : State) (t : State), t = s.advance a ∧ t.sup.state ≠ SupplyState.off ∧ t.nv.good = true ∧ t.sup.vhold < 11500) ∧
    (∃ (a : At) (s : State) (t : State), t = s.advance a ∧ 11500 ≤ t.sup.vhold ∧ t.sup.vhold < 12000) :=
  ⟨⟨{}, 0, 24000, 15000, { liv with sup.collapseSamples := 0 }, ({ liv with sup.collapseSamples := 0 } : State).advance ({} : At), (({ liv with sup.collapseSamples := 0 } : State).advance ({} : At) : State).sup.sample 0 24000 15000, rfl, by decide +kernel, rfl⟩,
    ⟨{}, { liv with sup.state := .backup, sup.mainSamples := 2000 }, ({ liv with sup.state := .backup, sup.mainSamples := 2000 } : State).advance ({} : At), rfl, by decide +kernel, by decide +kernel, by decide +kernel⟩,
    ⟨{}, { liv with nv.good := false, sup.vhold := 12000 }, ({ liv with nv.good := false, sup.vhold := 12000 } : State).advance ({} : At), rfl, by decide +kernel, by decide +kernel, by decide +kernel⟩,
    ⟨{}, { liv with sup.vhold := 11499 }, ({ liv with sup.vhold := 11499 } : State).advance ({} : At), rfl, by decide +kernel, by decide +kernel, by decide +kernel⟩,
    ⟨{}, { liv with sup.vhold := 11500 }, ({ liv with sup.vhold := 11500 } : State).advance ({} : At), rfl, by decide +kernel, by decide +kernel⟩⟩

theorem witness_CollapseShedsTheLoads :
    (∃ (a : At) (s : State) (t : State), t = s.advance a ∧ (t.sup.state = SupplyState.main ∨ t.sup.state = SupplyState.backup) ∧ 2 ≤ t.sup.collapseSamples) ∧
    (∃ (a : At) (s : State) (t : State), t = s.advance a ∧ t.sup.state = SupplyState.holdup) :=
  ⟨⟨{}, { liv with sup.collapseSamples := 2 }, ({ liv with sup.collapseSamples := 2 } : State).advance ({} : At), rfl, by decide +kernel, by decide +kernel⟩,
    ⟨{}, { liv with sup.state := .holdup }, ({ liv with sup.state := .holdup } : State).advance ({} : At), rfl, by decide +kernel⟩⟩

theorem witness_StoreClassSleepAndCrystal :
    (∃ (a : At) (s : State) (t : State), t = s.advance a ∧ t.sup.measuring = true) ∧
    (∃ (a : At) (s : State) (t : State), t = s.advance a ∧ t.mayDoze = true) ∧
    (∃ (a : At) (s : State) (t : State), t = s.advance a ∧ t.sup.state ≠ SupplyState.off ∧ t.sen.crystal = true) ∧
    (∃ (a : At) (s : State) (t : State), t = s.advance a ∧ t.sen.crystal = false ∧ t.rdy Rdy.binnacle = true ∧ t.grain = 0 ∧ 64 ≤ t.sen.crystalGoodTurns) :=
  ⟨⟨{}, { liv with sup.measuring := true }, ({ liv with sup.measuring := true } : State).advance ({} : At), rfl, by decide +kernel⟩,
    ⟨{}, withCfg { liv with sup.state := .backup, sup.backupTurns := 100000000, mer.stamp := mkStamp 1000 0 } [(Fid.PWR_BACKUP_MODE,0,2)], (withCfg { liv with sup.state := .backup, sup.backupTurns := 100000000, mer.stamp := mkStamp 1000 0 } [(Fid.PWR_BACKUP_MODE,0,2)] : State).advance ({} : At), rfl, by decide +kernel⟩,
    ⟨{}, liv, liv.advance ({} : At), rfl, by decide +kernel, by decide +kernel⟩,
    ⟨{}, { liv with sen.crystal := false, sen.crystalGoodTurns := 64, mer.stamp := mkStamp 1000 0 }, ({ liv with sen.crystal := false, sen.crystalGoodTurns := 64, mer.stamp := mkStamp 1000 0 } : State).advance ({} : At), rfl, by decide +kernel, by decide +kernel, by decide +kernel, by decide +kernel⟩⟩

theorem witness_ServiceFirmwareFailures :
    (∃ (a : At) (core : Nat) (s : State) (t : State), t = s.advance a ∧ t.svcOn = true ∧ t.rdy Rdy.binnacle = true ∧ core < 4) ∧
    (∃ (a : At) (s : State) (t : State), t = s.advance a ∧ t.svcOn = true ∧ t.rdy Rdy.binnacle = true) ∧
    (∃ (a : At) (s : State) (t : State), t = s.advance a ∧ t.bin.svc = SvcRun.starting ∧ t.rdy Rdy.binnacle = true ∧ t.bin.since + 2000000 ≤ t.clock) :=
  ⟨⟨{}, 3, { liv with bin.failures := 2 }, ({ liv with bin.failures := 2 } : State).advance ({} : At), rfl, by decide +kernel, by decide +kernel, by decide +kernel⟩,
    ⟨{}, liv, liv.advance ({} : At), rfl, by decide +kernel, by decide +kernel⟩,
    ⟨{}, { liv with bin.svc := .starting, clock := 2000000, ready := 1 }, ({ liv with bin.svc := .starting, clock := 2000000, ready := 1 } : State).advance ({} : At), rfl, by decide +kernel, by decide +kernel, by decide +kernel⟩⟩

theorem witness_ServiceImagesStartAndTrials :
    (∃ (a : At) (s : State) (t : State), t = s.advance a ∧ t.mayStart = true ∧ t.headerFits (t.bin.running false) = true) ∧
    (∃ (a : At) (verifies : Bool) (s : State) (t : State), t = s.advance a ∧ t.mayStart = true ∧ (verifies && t.headerFits (t.bin.running false)) = false) ∧
    (∃ (a : At) (s : State) (t : State), t = s.advance a ∧ t.bin.svc = SvcRun.starting ∧ t.rdy Rdy.nvstore = true ∧ t.rdy Rdy.services = false) ∧
    (∃ (a : At) (s : State) (t : State), t = s.advance a ∧ t.rdy Rdy.services = true ∧ t.bin.servicesSince + 16384 ≤ t.turn ∧ t.bin.failures ≠ 0) ∧
    (∃ (a : At) (binnacle : Bool) (i : Nat) (s : State) (t : State), t = s.advance a ∧ t.bin.find binnacle .trial = some i ∧ t.rdy (if binnacle then Rdy.binnacle else Rdy.services) = true ∧ t.clock < t.bin.trialSince + 60000000) ∧
    (∃ (a : At) (i : Nat) (s : State) (t : State), t = s.advance a ∧ t.bin.find false .trial = some i ∧ t.rdy Rdy.binnacle = true ∧ t.bin.trialSince + 60000000 ≤ t.clock ∧ t.svcOn = true) ∧
    (∃ (a : At) (i : Nat) (s : State) (t : State), t = s.advance a ∧ t.bin.find true .trial = some i ∧ t.rdy Rdy.binnacle = true ∧ t.bin.trialSince + 60000000 ≤ t.clock) ∧
    (∃ (a : At) (binnacle : Bool) (i : Nat) (s : State) (t : State), t = s.advance a ∧ t.bin.free binnacle = some i ∧ t.rdy Rdy.binnacle = true ∧ t.bin.slot i = SlotState.written) :=
  ⟨⟨{}, low (poke { liv with bin.svc := .stopped } 0 (le 2 0x4958 ++ le 1 0 ++ le 1 0 ++ le 4 1 ++ le 4 128 ++ le 4 0)) [Rdy.services], (low (poke { liv with bin.svc := .stopped } 0 (le 2 0x4958 ++ le 1 0 ++ le 1 0 ++ le 4 1 ++ le 4 128 ++ le 4 0)) [Rdy.services] : State).advance ({} : At), rfl, by decide +kernel, by decide +kernel⟩,
    ⟨{}, true, low { liv with bin.svc := .stopped } [Rdy.services], (low { liv with bin.svc := .stopped } [Rdy.services] : State).advance ({} : At), rfl, by decide +kernel, by decide +kernel⟩,
    ⟨{}, { liv with ready := 7, bin.svc := .starting, bin.resetHeld := 0 }, ({ liv with ready := 7, bin.svc := .starting, bin.resetHeld := 0 } : State).advance ({} : At), rfl, by decide +kernel, by decide +kernel, by decide +kernel⟩,
    ⟨{}, { liv with bin.failures := 1, mer.stamp := mkStamp 16384 0 }, ({ liv with bin.failures := 1, mer.stamp := mkStamp 16384 0 } : State).advance ({} : At), rfl, by decide +kernel, by decide +kernel, by decide +kernel⟩,
    ⟨{}, false, 1, { liv with bin.slotB := .trial, clock := 59999999 }, ({ liv with bin.slotB := .trial, clock := 59999999 } : State).advance ({} : At), rfl, by decide +kernel, by decide +kernel, by decide +kernel⟩,
    ⟨{}, 1, { liv with bin.slotB := .trial, clock := 60000000 }, ({ liv with bin.slotB := .trial, clock := 60000000 } : State).advance ({} : At), rfl, by decide +kernel, by decide +kernel, by decide +kernel, by decide +kernel⟩,
    ⟨{}, 3, { liv with bin.bin1 := .trial, clock := 60000000 }, ({ liv with bin.bin1 := .trial, clock := 60000000 } : State).advance ({} : At), rfl, by decide +kernel, by decide +kernel, by decide +kernel⟩,
    ⟨{}, false, 1, { liv with bin.slotB := .written }, ({ liv with bin.slotB := .written } : State).advance ({} : At), rfl, by decide +kernel, by decide +kernel, by decide +kernel⟩⟩

theorem witness_BinnacleRestartsAndScrubs :
    (∃ (a : At) (s : State) (t : State), t = s.advance a ∧ t.rdy Rdy.binnacle = true) ∧
    (∃ (a : At) (s : State) (t : State), t = s.advance a ∧ t.rdy Rdy.binnacle = true ∧ (∀ c, t.sen.sampledAt = some c → c + 1000 ≤ t.clock)) ∧
    (∃ (a : At) (region : Nat) (corrected : Nat) (s : State) (t : State), t = s.advance a ∧ t.rdy Rdy.binnacle = true ∧ region < 8 ∧ corrected ≠ 0) ∧
    (∃ (a : At) (region : Nat) (uncorrectable : Nat) (s : State) (t : State), t = s.advance a ∧ t.rdy Rdy.binnacle = true ∧ region < 8 ∧ uncorrectable ≠ 0) ∧
    (∃ (a : At) (test : Nat) (outcome : Nat) (s : State) (t : State), t = s.advance a ∧ t.rdy Rdy.binnacle = true ∧ t.testRuns test = true ∧ (2 ≤ outcome ∨ t.bin.testTurn + testTurns test ≤ t.turn)) :=
  ⟨⟨{}, liv, liv.advance ({} : At), rfl, by decide +kernel⟩,
    ⟨{}, liv, liv.advance ({} : At), rfl, by decide +kernel, by decide +kernel⟩,
    ⟨{}, 7, 1, liv, liv.advance ({} : At), rfl, by decide +kernel, by decide +kernel, by decide +kernel⟩,
    ⟨{}, 7, 1, liv, liv.advance ({} : At), rfl, by decide +kernel, by decide +kernel, by decide +kernel⟩,
    ⟨{}, 1, 2, { liv with mb.interims := [{ session := 1, tag := 4, cls := 5, opcode := 0x31, payload := le 4 1 }] }, ({ liv with mb.interims := [{ session := 1, tag := 4, cls := 5, opcode := 0x31, payload := le 4 1 }] } : State).advance ({} : At), rfl, by decide +kernel, by decide +kernel, by decide +kernel⟩⟩

theorem witness_StoreWritesRunInOrder :
    (∃ (a : At) (o : PageOp) (s : State) (t : State), t = s.advance a ∧ t.rdy Rdy.nvstore = true ∧ t.nv.good = true ∧ t.nv.nextOp = some o ∧ (3 < o.prio → t.logWaits = false) ∧ (5 < o.prio → t.nv.sheaf = [])) ∧
    (∃ (a : At) (n : Nat) (k : Nat) (m : Nat) (rest : Tbl Nat) (w : Nv) (c : Nat) (bs : List Byte) (s : State) (t : State), t = s.advance a ∧ t.rdy Rdy.nvstore = true ∧ t.nv.good = true ∧ t.logWaits = false ∧ (∀ o, o ∈ t.nv.queue → 5 ≤ o.prio) ∧ t.nv.sheaf = (n, k) :: rest ∧ m = min k 65535 ∧ w = { t.nv with sheaf := t.nv.sheaf.set n (k - m) } ∧ w.sheafCell n m = some (c, bs)) ∧
    (∃ (a : At) (q : SaveReq) (p : Nat) (n : Nv) (s : State) (t : State), t = s.advance a ∧ t.rdy Rdy.nvstore = true ∧ t.nv.good = true ∧ t.nv.nextSave = some q ∧ n = { t.nv with saves := t.nv.saves.erase q } ∧ n.admits q = true ∧ n.findRun (recordPages q.payload.length) = some p) ∧
    (∃ (a : At) (q : SaveReq) (n : Nv) (s : State) (t : State), t = s.advance a ∧ t.rdy Rdy.nvstore = true ∧ t.nv.good = true ∧ t.nv.nextSave = some q ∧ n = { t.nv with saves := t.nv.saves.erase q } ∧ n.admits q = true ∧ n.findRun (recordPages q.payload.length) = none) ∧
    (∃ (a : At) (q : SaveReq) (n : Nv) (s : State) (t : State), t = s.advance a ∧ t.rdy Rdy.nvstore = true ∧ t.nv.good = true ∧ t.nv.nextSave = some q ∧ n = { t.nv with saves := t.nv.saves.erase q } ∧ n.admits q = false) ∧
    (∃ (a : At) (q : SaveReq) (n : Nv) (s : State) (t : State), t = s.advance a ∧ t.nv.compacting = true ∧ t.nv.good = true ∧ t.nv.nextSave = some q ∧ n = { (t.nv.compact 2048 (recordPages q.payload.length) : Nv) with compacting := false, saves := t.nv.saves.erase q }) ∧
    (∃ (a : At) (s : State) (t : State), t = s.advance a ∧ (t.rdy Rdy.nvstore = false ∨ t.nv.good = false)) :=
  ⟨⟨{}, { prio := 6, page := 3, data := le 16 1 ++ List.replicate 240 0 }, { liv with nv.queue := [{ prio := 6, page := 3, data := le 16 1 ++ List.replicate 240 0 }] }, ({ liv with nv.queue := [{ prio := 6, page := 3, data := le 16 1 ++ List.replicate 240 0 }] } : State).advance ({} : At), rfl, by decide +kernel, by decide +kernel, by decide +kernel, by decide +kernel, by decide +kernel⟩,
    ⟨{}, 5, 65535, min 65535 65535, [], { liv.nv with sheaf := [] }, (Option.get! (({ liv.nv with sheaf := [] } : Nv).sheafCell 5 65535)).1, (Option.get! (({ liv.nv with sheaf := [] } : Nv).sheafCell 5 65535)).2, { liv with nv.sheaf := [(5, 65535)] }, ({ liv with nv.sheaf := [(5, 65535)] } : State).advance ({} : At), rfl, by decide +kernel, by decide +kernel, by decide +kernel, by decide +kernel, by decide +kernel, rfl, by decide +kernel, by decide +kernel⟩,
    ⟨{}, { typ := 2, key := 0, payload := le 8 5 }, 0, { (({ liv with nv.saves := [{ typ := 2, key := 0, payload := le 8 5 }] } : State).advance ({} : At) : State).nv with saves := (({ liv with nv.saves := [{ typ := 2, key := 0, payload := le 8 5 }] } : State).advance ({} : At) : State).nv.saves.erase ({ typ := 2, key := 0, payload := le 8 5 } : SaveReq) }, { liv with nv.saves := [{ typ := 2, key := 0, payload := le 8 5 }] }, ({ liv with nv.saves := [{ typ := 2, key := 0, payload := le 8 5 }] } : State).advance ({} : At), rfl, by decide +kernel, by decide +kernel, by decide +kernel, rfl, by decide +kernel, by decide +kernel⟩,
    ⟨{}, { typ := 7, key := 0, payload := List.replicate 4000 0 }, { (({ liv with nv.saves := [{ typ := 7, key := 0, payload := List.replicate 4000 0 }], nv.reserved := [{ page := 0, pages := 1000 }, { page := 1010, pages := 1000 }, { page := 2020, pages := 28 }] } : State).advance ({} : At) : State).nv with saves := (({ liv with nv.saves := [{ typ := 7, key := 0, payload := List.replicate 4000 0 }], nv.reserved := [{ page := 0, pages := 1000 }, { page := 1010, pages := 1000 }, { page := 2020, pages := 28 }] } : State).advance ({} : At) : State).nv.saves.erase ({ typ := 7, key := 0, payload := List.replicate 4000 0 } : SaveReq) }, { liv with nv.saves := [{ typ := 7, key := 0, payload := List.replicate 4000 0 }], nv.reserved := [{ page := 0, pages := 1000 }, { page := 1010, pages := 1000 }, { page := 2020, pages := 28 }] }, ({ liv with nv.saves := [{ typ := 7, key := 0, payload := List.replicate 4000 0 }], nv.reserved := [{ page := 0, pages := 1000 }, { page := 1010, pages := 1000 }, { page := 2020, pages := 28 }] } : State).advance ({} : At), rfl, by decide +kernel, by decide +kernel, by decide +kernel, rfl, by decide +kernel, by decide +kernel⟩,
    ⟨{}, { typ := 0x20, key := 0, payload := List.replicate 16349 0 }, { (({ liv with nv.saves := [{ typ := 0x20, key := 0, payload := List.replicate 16349 0 }] } : State).advance ({} : At) : State).nv with saves := (({ liv with nv.saves := [{ typ := 0x20, key := 0, payload := List.replicate 16349 0 }] } : State).advance ({} : At) : State).nv.saves.erase ({ typ := 0x20, key := 0, payload := List.replicate 16349 0 } : SaveReq) }, { liv with nv.saves := [{ typ := 0x20, key := 0, payload := List.replicate 16349 0 }] }, ({ liv with nv.saves := [{ typ := 0x20, key := 0, payload := List.replicate 16349 0 }] } : State).advance ({} : At), rfl, by decide +kernel, by decide +kernel, by decide +kernel, rfl, by decide +kernel⟩,
    ⟨{}, { typ := 2, key := 0, payload := le 8 5 }, { ((({ liv with nv.compacting := true, nv.saves := [{ typ := 2, key := 0, payload := le 8 5 }] } : State).advance ({} : At) : State).nv.compact 2048 (recordPages ({ typ := 2, key := 0, payload := le 8 5 } : SaveReq).payload.length) : Nv) with compacting := false, saves := (({ liv with nv.compacting := true, nv.saves := [{ typ := 2, key := 0, payload := le 8 5 }] } : State).advance ({} : At) : State).nv.saves.erase ({ typ := 2, key := 0, payload := le 8 5 } : SaveReq) }, { liv with nv.compacting := true, nv.saves := [{ typ := 2, key := 0, payload := le 8 5 }] }, ({ liv with nv.compacting := true, nv.saves := [{ typ := 2, key := 0, payload := le 8 5 }] } : State).advance ({} : At), rfl, by decide +kernel, by decide +kernel, by decide +kernel, rfl⟩,
    ⟨{}, low liv [Rdy.nvstore], (low liv [Rdy.nvstore] : State).advance ({} : At), rfl, by decide +kernel⟩⟩

theorem witness_RecoveryRaisesTheStore :
    (∃ (a : At) (found : Recovery) (s : State) (t : State), t = s.advance a ∧ t.rdy Rdy.binnacle = true ∧ t.nv.good = true ∧ t.rdy Rdy.nvstore = false ∧ t.rdy Rdy.meridian = false ∧ (t.rdy Rdy.almanac = true ∨ found.late = true) ∧ (t.recoverStore.restoreBinnacle.imageVerified found.images).isSome = true) ∧
    (∃ (a : At) (found : Recovery) (s : State) (t : State), t = s.advance a ∧ t.rdy Rdy.binnacle = true ∧ t.nv.good = true ∧ t.rdy Rdy.nvstore = false ∧ t.rdy Rdy.meridian = true ∧ (t.rdy Rdy.almanac = true ∨ found.late = true) ∧ (t.recoverStore.imageVerified found.images).isSome = true) ∧
    (∃ (a : At) (s : State) (t : State), t = s.advance a ∧ t.rdy Rdy.nvstore = true ∧ t.rdy Rdy.logbook = false) ∧
    (∃ (a : At) (s : State) (t : State), t = s.advance a ∧ t.rdy Rdy.nvstore = true ∧ t.scrubDue = true) :=
  ⟨⟨{}, { late := true }, { liv with ready := 1, mer := { early := 77 } }, ({ liv with ready := 1, mer := { early := 77 } } : State).advance ({} : At), rfl, by decide +kernel, by decide +kernel, by decide +kernel, by decide +kernel, by decide +kernel, by decide +kernel⟩,
    ⟨{}, { late := true }, { liv with ready := 1 + 2 ^ Rdy.meridian }, ({ liv with ready := 1 + 2 ^ Rdy.meridian } : State).advance ({} : At), rfl, by decide +kernel, by decide +kernel, by decide +kernel, by decide +kernel, by decide +kernel, by decide +kernel⟩,
    ⟨{}, low liv [Rdy.logbook], (low liv [Rdy.logbook] : State).advance ({} : At), rfl, by decide +kernel, by decide +kernel⟩,
    ⟨{}, { liv with nv.scrubPage := 32767 }, ({ liv with nv.scrubPage := 32767 } : State).advance ({} : At), rfl, by decide +kernel, by decide +kernel⟩⟩

theorem witness_LogbookQueueAndWrite :
    (∃ (a : At) (s : State) (t : State), t = s.advance a ∧ t.log.queue.length < 256) ∧
    (∃ (a : At) (s : State) (t : State), t = s.advance a ∧ t.rdy Rdy.logbook = true ∧ t.nv.good = true ∧ t.log.queue ≠ []) ∧
    (∃ (a : At) (s : State) (t : State), t = s.advance a ∧ (t.rdy Rdy.logbook = false ∨ t.nv.good = false ∨ t.log.queue = [])) :=
  ⟨⟨{}, liv, liv.advance ({} : At), rfl, by decide +kernel⟩,
    ⟨{}, { liv with log.queue := [{ severity := 5 }] }, ({ liv with log.queue := [{ severity := 5 }] } : State).advance ({} : At), rfl, by decide +kernel, by decide +kernel, by decide +kernel⟩,
    ⟨{}, liv, liv.advance ({} : At), rfl, by decide +kernel⟩⟩

theorem witness_ConfigurationSelection :
    (∃ (a : At) (s : State) (t : State) (u : State), t = s.advance a ∧ t.rdy Rdy.nvstore = true ∧ t.rdy Rdy.config = false ∧ t.cfg.pending = none ∧ u = t.classSets ∧ u.cfg.candidates = []) ∧
    (∃ (a : At) (n : Nat) (rest : List Nat) (ev : Evaluated) (s : State) (t : State), t = s.advance a ∧ t.rdy Rdy.nvstore = true ∧ t.rdy Rdy.config = false ∧ t.cfg.pending = none ∧ t.classSets.cfg.candidates = n :: rest ∧ ev = evaluate (t.classSets.image n (t.classSets.cfg.set n).size) (t.classSets.cfg.set n).size t.classSets.expertKey) ∧
    (∃ (a : At) (p : PendingCommit) (s : State) (t : State), t = s.advance a ∧ t.cfg.pending = some p ∧ t.grain = 0 ∧ p.set < 4 ∧ (p.atStart = true ∨ t.rdy Rdy.services = true ∨ t.rdy Rdy.config = false) ∧ t.rdy Rdy.nvstore = true ∧ t.cfg.held = []) :=
  ⟨⟨{}, low liv [Rdy.config], (low liv [Rdy.config] : State).advance ({} : At), ((low liv [Rdy.config] : State).advance ({} : At) : State).classSets, rfl, by decide +kernel, by decide +kernel, by decide +kernel, rfl, by decide +kernel⟩,
    ⟨{}, 2, [], evaluate (((low (withSet liv 2 img) [Rdy.config] : State).advance ({} : At) : State).classSets.image 2 (((low (withSet liv 2 img) [Rdy.config] : State).advance ({} : At) : State).classSets.cfg.set 2).size) (((low (withSet liv 2 img) [Rdy.config] : State).advance ({} : At) : State).classSets.cfg.set 2).size ((low (withSet liv 2 img) [Rdy.config] : State).advance ({} : At) : State).classSets.expertKey, low (withSet liv 2 img) [Rdy.config], (low (withSet liv 2 img) [Rdy.config] : State).advance ({} : At), rfl, by decide +kernel, by decide +kernel, by decide +kernel, by decide +kernel, rfl⟩,
    ⟨{}, { set := 2, atStart := true, report := [{ field := 3 }], values := [(65536 * 0x10, some 1)] }, low { liv with cfg.pending := some { set := 2, atStart := true, report := [{ field := 3 }], values := [(65536 * 0x10, some 1)] }, mer.stamp := mkStamp 1000 0 } [Rdy.config], (low { liv with cfg.pending := some { set := 2, atStart := true, report := [{ field := 3 }], values := [(65536 * 0x10, some 1)] }, mer.stamp := mkStamp 1000 0 } [Rdy.config] : State).advance ({} : At), rfl, by decide +kernel, by decide +kernel, by decide +kernel, by decide +kernel, by decide +kernel, by decide +kernel⟩⟩

theorem witness_MeridianEvents :
    (∃ (a : At) (s : State) (t : State), t = s.advance a ∧ t.rdy Rdy.meridian = true) ∧
    (∃ (a : At) (hz : Nat) (s : State) (t : State), t = s.advance a ∧ t.rdy Rdy.meridian = true ∧ t.mer.fitHalf ≠ some t.halfTurns ∧ 0 < hz) ∧
    (∃ (a : At) (s : State) (t : State), t = s.advance a ∧ t.rdy Rdy.meridian = true ∧ t.mer.state ≠ MerState.deadReckoning ∧ lossInterval ≤ t.sinceCrossing) ∧
    (∃ (a : At) (s : State) (t : State), t = s.advance a ∧ t.rdy Rdy.meridian = true ∧ t.periodOver t.mer.markTurn 65536 = true) ∧
    (∃ (a : At) (s : State) (t : State), t = s.advance a ∧ t.rdy Rdy.meridian = true ∧ t.cfgN Fid.CONCORD_LOG = 1 ∧ t.periodOver t.mer.concordTurn 262144 = true) ∧
    (∃ (a : At) (s : State) (t : State), t = s.advance a ∧ t.rdy Rdy.meridian = false) :=
  ⟨⟨{}, liv, liv.advance ({} : At), rfl, by decide +kernel⟩,
    ⟨{}, 50000000, { liv with mer.state := .deadReckoning }, ({ liv with mer.state := .deadReckoning } : State).advance ({} : At), rfl, by decide +kernel, by decide +kernel, by decide +kernel⟩,
    ⟨{}, liv, liv.advance ({} : At), rfl, by decide +kernel, by decide +kernel, by decide +kernel⟩,
    ⟨{}, { liv with mer.stamp := mkStamp 70000 0, mer.markTurn := some 4464 }, ({ liv with mer.stamp := mkStamp 70000 0, mer.markTurn := some 4464 } : State).advance ({} : At), rfl, by decide +kernel, by decide +kernel⟩,
    ⟨{}, withCfg { liv with mer.stamp := mkStamp 300000 0, mer.concordTurn := some 37856 } [(Fid.CONCORD_LOG,0,1)], (withCfg { liv with mer.stamp := mkStamp 300000 0, mer.concordTurn := some 37856 } [(Fid.CONCORD_LOG,0,1)] : State).advance ({} : At), rfl, by decide +kernel, by decide +kernel, by decide +kernel⟩,
    ⟨{}, low liv [Rdy.meridian], (low liv [Rdy.meridian] : State).advance ({} : At), rfl, by decide +kernel⟩⟩

theorem witness_TurnBoundaryBeginsTheNextTurn :
    (∃ (a : At) (s : State) (t : State), t = s.advance a ∧ t.rdy Rdy.meridian = true ∧ t.grain + 1 = grainsPerTurn) ∧
    (∃ (a : At) (s : State) (t : State), t = s.advance a ∧ (t.rdy Rdy.meridian = false ∨ t.grain + 1 ≠ grainsPerTurn)) :=
  ⟨⟨{}, { liv with mer.stamp := mkStamp 1000 1048575 }, ({ liv with mer.stamp := mkStamp 1000 1048575 } : State).advance ({} : At), rfl, by decide +kernel, by decide +kernel⟩,
    ⟨{}, { liv with mer.stamp := mkStamp 1000 1048574 }, ({ liv with mer.stamp := mkStamp 1000 1048574 } : State).advance ({} : At), rfl, by decide +kernel⟩⟩

theorem witness_SlotFires :
    (∃ (a : At) (slot : Nat) (e : EvSlot) (s : State) (t : State), t = s.advance a ∧ t.rdy Rdy.meridian = true ∧ t.fires slot = true ∧ e = t.mer.slots.get slot) ∧
    (∃ (a : At) (slot : Nat) (s : State) (t : State), t = s.advance a ∧ t.rdy Rdy.meridian = true ∧ t.fires slot = true ∧ (t.mer.slots.get slot).words.action = 0 ∧ (t.mer.slots.get slot).words.kind ≠ 2) ∧
    (∃ (a : At) (slot : Nat) (s : State) (t : State), t = s.advance a ∧ t.rdy Rdy.meridian = true ∧ t.fires slot = true ∧ (t.mer.slots.get slot).words.action = 9 ∧ (t.mer.slots.get slot).words.kind ≠ 2) ∧
    (∃ (a : At) (slot : Nat) (s : State) (t : State), t = s.advance a ∧ (t.mer.slots.get slot).words.en = false) ∧
    (∃ (a : At) (slot : Nat) (d : Nat) (s : State) (t : State), t = s.advance a ∧ (t.mer.slots.get slot).words.kind ≠ 2 ∧ (t.mer.slots.get slot).words.lastDue t.now = some d ∧ d ≤ (t.mer.slots.get slot).firedAt.toNat) :=
  ⟨⟨{}, 40, ((slotS 0 : State).advance ({} : At) : State).mer.slots.get 40, slotS 0, (slotS 0 : State).advance ({} : At), rfl, by decide +kernel, by decide +kernel, rfl⟩,
    ⟨{}, 40, slotS 0, (slotS 0 : State).advance ({} : At), rfl, by decide +kernel, by decide +kernel, by decide +kernel, by decide +kernel⟩,
    ⟨{}, 40, slotS 9, (slotS 9 : State).advance ({} : At), rfl, by decide +kernel, by decide +kernel, by decide +kernel, by decide +kernel⟩,
    ⟨{}, 40, { liv with mer.slots := Tbl.set [] 40 { firedAt := mkStamp 1000 7 } }, ({ liv with mer.slots := Tbl.set [] 40 { firedAt := mkStamp 1000 7 } } : State).advance ({} : At), rfl, by decide +kernel⟩,
    ⟨{}, 40, (Option.get! (SlotWords.lastDue (slotWords 1 2 0 7 5 9) (mkStamp 1000 7))), { liv with mer.slots := Tbl.set [] 40 { words := slotWords 1 2 0 7 5 9, firedAt := mkStamp 1000 7 } }, ({ liv with mer.slots := Tbl.set [] 40 { words := slotWords 1 2 0 7 5 9, firedAt := mkStamp 1000 7 } } : State).advance ({} : At), rfl, by decide +kernel, by decide +kernel, by decide +kernel⟩⟩

theorem witness_AlmanacDomainAndRegisters :
    (∃ (a : At) (n : Nat) (s : State) (t : State), t = s.advance a ∧ n < 2 ∧ t.alm.due n = true) ∧
    (∃ (a : At) (s : State) (t : State), t = s.advance a ∧ t.alm.wrapOwed = true) ∧
    (∃ (a : At) (s : State) (t : State), t = s.advance a ∧ t.alm.powerLostOwed = true ∧ t.rdy Rdy.almanac = true) ∧
    (∃ (a : At) (s : State) (t : State), t = s.advance a ∧ t.alm.committing = false ∧ t.alm.dead = false) ∧
    (∃ (a : At) (s : State) (t : State), t = s.advance a ∧ (t.alm.dead = true ∨ t.sup.state = SupplyState.off)) ∧
    (∃ (a : At) (adv : Nat) (s : State) (t : State), t = s.advance a ∧ t.rdy Rdy.binnacle = true ∧ t.rdy Rdy.meridian = true ∧ t.alm.dead = false ∧ (∀ n, t.alm.checkTurn = some n → n + 64 ≤ t.turn) ∧ adv = (t.alm.count - BitVec.ofNat 48 t.alm.lastCheck).toNat) ∧
    (∃ (a : At) (s : State) (t : State), t = s.advance a ∧ t.alm.locked = false) ∧
    (∃ (a : At) (s : State) (t : State), t = s.advance a ∧ t.alm.locked = false) ∧
    (∃ (a : At) (n : Nat) (s : State) (t : State), t = s.advance a ∧ t.alm.locked = false ∧ n < 2) ∧
    (∃ (a : At) (lo : Nat) (s : State) (t : State), t = s.advance a ∧ t.alm.pendingLo = some lo ∧ t.alm.dead = false ∧ t.alm.writes.length ≤ 1) ∧
    (∃ (a : At) (n : Nat) (v : Nat) (e : Bool) (s : State) (t : State), t = s.advance a ∧ n < 2 ∧ (t.alm.alarm n).commit = some (v, e) ∧ t.alm.dead = false ∧ t.alm.writes.length ≤ 1) ∧
    (∃ (a : At) (s : State) (t : State), t = s.advance a ∧ t.alm.locked = true) :=
  ⟨⟨{}, 1, { liv with alm.alarm1 := { value := 5000, enabled := true } }, ({ liv with alm.alarm1 := { value := 5000, enabled := true } } : State).advance ({} : At), rfl, by decide +kernel, by decide +kernel⟩,
    ⟨{}, { liv with alm.wrapOwed := true }, ({ liv with alm.wrapOwed := true } : State).advance ({} : At), rfl, by decide +kernel⟩,
    ⟨{}, { liv with alm.powerLostOwed := true }, ({ liv with alm.powerLostOwed := true } : State).advance ({} : At), rfl, by decide +kernel, by decide +kernel⟩,
    ⟨{}, { liv with alm.cycle := 1048576, alm.trimNew := -7 }, ({ liv with alm.cycle := 1048576, alm.trimNew := -7 } : State).advance ({} : At), rfl, by decide +kernel, by decide +kernel⟩,
    ⟨{}, { State.reset with sup.mainPresent := true }, ({ State.reset with sup.mainPresent := true } : State).advance ({} : At), rfl, by decide +kernel⟩,
    ⟨{}, ((liv.advance ({} : At) : State).alm.count - BitVec.ofNat 48 (liv.advance ({} : At) : State).alm.lastCheck).toNat, liv, liv.advance ({} : At), rfl, by decide +kernel, by decide +kernel, by decide +kernel, by decide +kernel, rfl⟩,
    ⟨{}, { liv with alm.count := 0x123456789ABC }, ({ liv with alm.count := 0x123456789ABC } : State).advance ({} : At), rfl, by decide +kernel⟩,
    ⟨{}, liv, liv.advance ({} : At), rfl, by decide +kernel⟩,
    ⟨{}, 1, liv, liv.advance ({} : At), rfl, by decide +kernel, by decide +kernel⟩,
    ⟨{}, 0xFFFFFFFF, { low liv [Rdy.meridian] with alm.pendingLo := some 0xFFFFFFFF, alm.pendingHi := some 0xFFFF }, ({ low liv [Rdy.meridian] with alm.pendingLo := some 0xFFFFFFFF, alm.pendingHi := some 0xFFFF } : State).advance ({} : At), rfl, by decide +kernel, by decide +kernel, by decide +kernel⟩,
    ⟨{}, 1, 4000, true, { liv with alm.alarm1 := { commit := some (4000, true) } }, ({ liv with alm.alarm1 := { commit := some (4000, true) } } : State).advance ({} : At), rfl, by decide +kernel, by decide +kernel, by decide +kernel, by decide +kernel⟩,
    ⟨{}, { liv with alm.locked := true }, ({ liv with alm.locked := true } : State).advance ({} : At), rfl, by decide +kernel⟩⟩

theorem witness_AnalogueAndAngleOutputs :
    (∃ (a : At) (s : State) (t : State), t = s.advance a ∧ t.rdy Rdy.meridian = true) ∧
    (∃ (a : At) (s : State) (t : State), t = s.advance a ∧ t.out.expired = false) ∧
    (∃ (a : At) (s : State) (t : State), t = s.advance a ∧ t.rdy Rdy.meridian = false) ∧
    (∃ (a : At) (s : State) (t : State), t = s.advance a ∧ t.out.expired = true) ∧
    (∃ (a : At) (n : Nat) (s : State) (t : State), t = s.advance a ∧ t.rdy Rdy.ago = true ∧ n < 8 ∧ t.slotsFired = true ∧ t.agoLatchAngle n = true ∧ (t.out.ago.get n).latched ≠ t.now) ∧
    (∃ (a : At) (n : Nat) (s : State) (t : State), t = s.advance a ∧ t.rdy Rdy.ago = true ∧ n < 8 ∧ 2 ≤ t.cfgN Fid.AGO_MODE n ∧ (t.out.ago.get n).stopped = false ∧ (t.out.ago.get n).highZ = false ∧ t.slotsFired = true ∧ t.agoLatchDue n = false) ∧
    (∃ (a : At) (s : State) (t : State), t = s.advance a ∧ t.rdy Rdy.ao = true ∧ t.atAngle grainsPerTurn 786432 = true ∧ t.out.monitorTurn ≠ some t.turn) ∧
    (∃ (a : At) (kind : Nat) (n : Nat) (f : Force) (u : Nat) (s : State) (t : State), t = s.advance a ∧ t.forceOf kind n = some f ∧ f.until_ = some u) ∧
    (∃ (a : At) (kind : Nat) (n : Nat) (f : Force) (s : State) (t : State), t = s.advance a ∧ t.forceOf kind n = some f ∧ f.until_ = none) :=
  ⟨⟨{}, liv, liv.advance ({} : At), rfl, by decide +kernel⟩,
    ⟨{}, liv, liv.advance ({} : At), rfl, by decide +kernel⟩,
    ⟨{}, low liv [Rdy.meridian], (low liv [Rdy.meridian] : State).advance ({} : At), rfl, by decide +kernel⟩,
    ⟨{}, { liv with out.expired := true }, ({ liv with out.expired := true } : State).advance ({} : At), rfl, by decide +kernel⟩,
    ⟨{}, 7, withCfg liv [(Fid.AGO_MODE,7,2),(Fid.AGO_ANGLE,7,7)], (withCfg liv [(Fid.AGO_MODE,7,2),(Fid.AGO_ANGLE,7,7)] : State).advance ({} : At), rfl, by decide +kernel, by decide +kernel, by decide +kernel, by decide +kernel, by decide +kernel⟩,
    ⟨{}, 7, withCfg { liv with out.ago := Tbl.set [] 7 { highZ := false } } [(Fid.AGO_MODE,7,2),(Fid.AGO_INVERT,7,1)], (withCfg { liv with out.ago := Tbl.set [] 7 { highZ := false } } [(Fid.AGO_MODE,7,2),(Fid.AGO_INVERT,7,1)] : State).advance ({} : At), rfl, by decide +kernel, by decide +kernel, by decide +kernel, by decide +kernel, by decide +kernel, by decide +kernel, by decide +kernel⟩,
    ⟨{}, { liv with mer.stamp := mkStamp 1000 786432 }, ({ liv with mer.stamp := mkStamp 1000 786432 } : State).advance ({} : At), rfl, by decide +kernel, by decide +kernel, by decide +kernel⟩,
    ⟨{}, Dest.ao, 3, { value := 5, until_ := some 1000 }, 1000, { liv with out.ao := Tbl.set [] 3 { force := some { value := 5, until_ := some 1000 } } }, ({ liv with out.ao := Tbl.set [] 3 { force := some { value := 5, until_ := some 1000 } } } : State).advance ({} : At), rfl, by decide +kernel, by decide +kernel⟩,
    ⟨{}, Dest.ao, 3, { value := 5 }, { liv with out.ao := Tbl.set [] 3 { force := some { value := 5 } } }, ({ liv with out.ao := Tbl.set [] 3 { force := some { value := 5 } } } : State).advance ({} : At), rfl, by decide +kernel, by decide +kernel⟩⟩

theorem witness_FieldInputs :
    (∃ (a : At) (n : Nat) (s : State) (t : State), t = s.advance a ∧ n < 32 ∧ (t.chRole n = 1 ∨ t.chRole n = 3) ∧ t.fcN Fid.FC_IN_THRESH n ≠ 2) ∧
    (∃ (a : At) (n : Nat) (s : State) (t : State), t = s.advance a ∧ n < 32 ∧ (t.chRole n = 1 ∨ t.chRole n = 3) ∧ t.fcN Fid.FC_IN_THRESH n = 2) ∧
    (∃ (a : At) (n : Nat) (s : State) (t : State), t = s.advance a ∧ 0 < (t.fld.ins.get n).lostRing ∧ (∀ u, (t.fld.ins.get n).lostTurn = some u → u + 64 ≤ t.turn) ∧ t.rdy Rdy.binnacle = true) ∧
    (∃ (a : At) (n : Nat) (s : State) (t : State), t = s.advance a ∧ n < 32 ∧ t.chRole n = 1 ∧ t.fcN Fid.FC_IN_MODE n = 1 ∧ t.turn % t.fcN Fid.FC_FREQ_GATE n = 0 ∧ t.grain = 0 ∧ (t.fld.ins.get n).gateTurn ≠ some t.turn ∧ t.rdy (Rdy.fg (groupOf n)) = true) :=
  ⟨⟨{}, 31, chS liv 31 { role := 1 } {} {}, (chS liv 31 { role := 1 } {} {} : State).advance ({} : At), rfl, by decide +kernel, by decide +kernel, by decide +kernel⟩,
    ⟨{}, 31, blk (chan { role := 3 } {}) 3 [(Fid.FC_IN_THRESH,31,2)], (blk (chan { role := 3 } {}) 3 [(Fid.FC_IN_THRESH,31,2)] : State).advance ({} : At), rfl, by decide +kernel, by decide +kernel, by decide +kernel⟩,
    ⟨{}, 31, chS liv 31 { lostRing := 3 } {} {}, (chS liv 31 { lostRing := 3 } {} {} : State).advance ({} : At), rfl, by decide +kernel, by decide +kernel, by decide +kernel⟩,
    ⟨{}, 31, blk { chan { role := 1 } {} with mer.stamp := mkStamp 1000 0 } 3 [(Fid.FC_IN_MODE,31,1),(Fid.FC_FREQ_GATE,31,50)], (blk { chan { role := 1 } {} with mer.stamp := mkStamp 1000 0 } 3 [(Fid.FC_IN_MODE,31,1),(Fid.FC_FREQ_GATE,31,50)] : State).advance ({} : At), rfl, by decide +kernel, by decide +kernel, by decide +kernel, by decide +kernel, by decide +kernel, by decide +kernel, by decide +kernel⟩⟩

theorem witness_BarrierLinks :
    (∃ (a : At) (g : Nat) (seq : Nat) (start : Bool) (s : State) (t : State), t = s.advance a ∧ g < 4 ∧ (t.fld.groups.get g).barrierPower = true ∧ (start = true ∨ newer 16 seq (t.fld.groups.get g).upSeq = true) ∧ t.rdy Rdy.binnacle = true) ∧
    (∃ (a : At) (g : Nat) (seq : Nat) (start : Bool) (s : State) (t : State), t = s.advance a ∧ g < 4 ∧ (t.fld.groups.get g).barrierPower = true ∧ (start = true ∨ newer 16 seq (t.fld.groups.get g).downSeq = true) ∧ t.rdy Rdy.binnacle = true) ∧
    (∃ (a : At) (s : State) (t : State), t = s.advance a) ∧
    (∃ (a : At) (g : Nat) (s : State) (t : State), t = s.advance a ∧ (t.fld.groups.get g).linkUp = true) ∧
    (∃ (a : At) (g : Nat) (s : State) (t : State), t = s.advance a ∧ (t.fld.groups.get g).linkDown = true ∧ t.sup.asleep = false) ∧
    (∃ (a : At) (g : Nat) (s : State) (t : State), t = s.advance a ∧ g < 4 ∧ (t.fld.groups.get g).linkDown = true ∧ (t.fld.groups.get g).linkUp = true ∧ t.grain = 0 ∧ t.rdy Rdy.config = true ∧ t.rdy Rdy.binnacle = true ∧ ((t.fld.groups.get g).paramsPending = true ∨ (t.fld.groups.get g).safe = true)) ∧
    (∃ (a : At) (s : State) (t : State), t = s.advance a) ∧
    (∃ (a : At) (g : Nat) (s : State) (t : State), t = s.advance a ∧ (t.fld.groups.get g).safe = true ∧ (t.fld.groups.get g).whole = true ∧ (t.fld.groups.get g).paramsSent = true ∧ t.grain = 0 ∧ t.rdy Rdy.binnacle = true) ∧
    (∃ (a : At) (g : Nat) (ns : Nat) (s : State) (t : State), t = s.advance a ∧ (t.fld.groups.get g).linkUp = true ∧ (t.fld.groups.get g).linkDown = true ∧ (∀ n, (t.fld.groups.get g).delayTurn = some n → n + 64 ≤ t.turn) ∧ 600 ≤ ns ∧ ns ≤ 900) :=
  ⟨⟨{}, 3, 1, false, chS liv 31 {} {} { barrierPower := true }, (chS liv 31 {} {} { barrierPower := true } : State).advance ({} : At), rfl, by decide +kernel, by decide +kernel, by decide +kernel, by decide +kernel⟩,
    ⟨{}, 3, 1, false, chS liv 31 {} {} { barrierPower := true }, (chS liv 31 {} {} { barrierPower := true } : State).advance ({} : At), rfl, by decide +kernel, by decide +kernel, by decide +kernel, by decide +kernel⟩,
    ⟨{}, liv, liv.advance ({} : At), rfl⟩,
    ⟨{}, 3, chS liv 31 {} {} { linkUp := true }, (chS liv 31 {} {} { linkUp := true } : State).advance ({} : At), rfl, by decide +kernel⟩,
    ⟨{}, 3, chS liv 31 {} {} { linkDown := true }, (chS liv 31 {} {} { linkDown := true } : State).advance ({} : At), rfl, by decide +kernel, by decide +kernel⟩,
    ⟨{}, 3, { chS liv 31 {} {} { linkDown := true, linkUp := true, safe := true } with mer.stamp := mkStamp 1000 0 }, ({ chS liv 31 {} {} { linkDown := true, linkUp := true, safe := true } with mer.stamp := mkStamp 1000 0 } : State).advance ({} : At), rfl, by decide +kernel, by decide +kernel, by decide +kernel, by decide +kernel, by decide +kernel, by decide +kernel, by decide +kernel⟩,
    ⟨{}, chS liv 31 {} {} { linkDown := true, safe := true }, (chS liv 31 {} {} { linkDown := true, safe := true } : State).advance ({} : At), rfl⟩,
    ⟨{}, 3, { chS liv 31 {} {} { linkDown := true, linkUp := true, barrierPower := true, vPresent := true, paramsSent := true, safe := true } with mer.stamp := mkStamp 1000 0 }, ({ chS liv 31 {} {} { linkDown := true, linkUp := true, barrierPower := true, vPresent := true, paramsSent := true, safe := true } with mer.stamp := mkStamp 1000 0 } : State).advance ({} : At), rfl, by decide +kernel, by decide +kernel, by decide +kernel, by decide +kernel, by decide +kernel⟩,
    ⟨{}, 3, 900, chS liv 31 {} {} { linkUp := true, linkDown := true, delayTurn := some 936 }, (chS liv 31 {} {} { linkUp := true, linkDown := true, delayTurn := some 936 } : State).advance ({} : At), rfl, by decide +kernel, by decide +kernel, by decide +kernel, by decide +kernel, by decide +kernel⟩⟩

theorem witness_FieldSupplies :
    (∃ (a : At) (g : Nat) (s : State) (t : State), t = s.advance a ∧ g < 4 ∧ t.powered = true ∧ t.sup.asleep = false) ∧
    (∃ (a : At) (g : Nat) (s : State) (t : State), t = s.advance a ∧ g < 4 ∧ t.powered = true ∧ t.sup.asleep = false ∧ (t.fld.groups.get g).barrierPower = true) ∧
    (∃ (a : At) (g : Nat) (v : Nat) (s : State) (t : State), t = s.advance a ∧ ((t.fld.groups.get g).vPresent = true ∧ 1200 ≤ v ∨ (t.fld.groups.get g).vPresent = false ∧ v ≤ 1400)) ∧
    (∃ (a : At) (g : Nat) (v : Nat) (s : State) (t : State), t = s.advance a ∧ (t.fld.groups.get g).vPresent = false ∧ 1400 < v) ∧
    (∃ (a : At) (g : Nat) (v : Nat) (s : State) (t : State) (w : State), t = s.advance a ∧ (t.fld.groups.get g).vPresent = true ∧ v < 1200 ∧ (t.fld.groups.get g).barrierPower = true ∧ w = ((t.group g (fun x => { x with vfield := v, vPresent := false })).vfieldRecord g 2).groupPins g) ∧
    (∃ (a : At) (g : Nat) (v : Nat) (s : State) (t : State), t = s.advance a ∧ (t.fld.groups.get g).uv = false ∧ v < 10 * t.fgN Fid.FG_VFIELD_UV g) ∧
    (∃ (a : At) (g : Nat) (v : Nat) (s : State) (t : State), t = s.advance a ∧ (t.fld.groups.get g).uv = true ∧ 10 * t.fgN Fid.FG_VFIELD_UV g + 100 ≤ v) ∧
    (∃ (a : At) (g : Nat) (v : Nat) (s : State) (t : State), t = s.advance a ∧ ((t.fld.groups.get g).uv = true ∧ v < 10 * t.fgN Fid.FG_VFIELD_UV g + 100 ∨ (t.fld.groups.get g).uv = false ∧ 10 * t.fgN Fid.FG_VFIELD_UV g ≤ v)) :=
  ⟨⟨{}, 3, liv, liv.advance ({} : At), rfl, by decide +kernel, by decide +kernel, by decide +kernel⟩,
    ⟨{}, 3, chan {} {}, (chan {} {} : State).advance ({} : At), rfl, by decide +kernel, by decide +kernel, by decide +kernel, by decide +kernel⟩,
    ⟨{}, 3, 1200, chS liv 31 {} {} { vPresent := true }, (chS liv 31 {} {} { vPresent := true } : State).advance ({} : At), rfl, by decide +kernel⟩,
    ⟨{}, 3, 1401, liv, liv.advance ({} : At), rfl, by decide +kernel, by decide +kernel⟩,
    ⟨{}, 3, 1199, chS liv 31 {} {} { vPresent := true, barrierPower := true }, (chS liv 31 {} {} { vPresent := true, barrierPower := true } : State).advance ({} : At), ((((chS liv 31 {} {} { vPresent := true, barrierPower := true } : State).advance ({} : At) : State).group 3 (fun x => { x with vfield := 1199, vPresent := false })).vfieldRecord 3 2).groupPins 3, rfl, by decide +kernel, by decide +kernel, by decide +kernel, by decide +kernel⟩,
    ⟨{}, 3, 1799, blk liv 3 [(Fid.FG_VFIELD_UV,3,180)], (blk liv 3 [(Fid.FG_VFIELD_UV,3,180)] : State).advance ({} : At), rfl, by decide +kernel, by decide +kernel⟩,
    ⟨{}, 3, 1900, withCfg (chS liv 31 {} {} { uv := true }) [(Fid.FG_VFIELD_UV,3,180)], (withCfg (chS liv 31 {} {} { uv := true }) [(Fid.FG_VFIELD_UV,3,180)] : State).advance ({} : At), rfl, by decide +kernel, by decide +kernel⟩,
    ⟨{}, 3, 1899, blk (chS liv 31 {} {} { uv := true }) 3 [(Fid.FG_VFIELD_UV,3,180)], (blk (chS liv 31 {} {} { uv := true }) 3 [(Fid.FG_VFIELD_UV,3,180)] : State).advance ({} : At), rfl, by decide +kernel⟩⟩

theorem witness_FieldTripsAndRetries :
    (∃ (a : At) (n : Nat) (s : State) (t : State), t = s.advance a ∧ t.chCmd n = true) ∧
    (∃ (a : At) (n : Nat) (s : State) (t : State), t = s.advance a ∧ t.chCmd n = false) ∧
    (∃ (a : At) (g : Nat) (current : Nat) (n : Nat) (s : State) (t : State), t = s.advance a ∧ t.fgN Fid.FG_GROUP_LIMIT g < current ∧ t.largest g = some n) ∧
    (∃ (a : At) (g : Nat) (current : Nat) (s : State) (t : State), t = s.advance a ∧ current ≤ t.fgN Fid.FG_GROUP_LIMIT g) ∧
    (∃ (a : At) (n : Nat) (cooled : Bool) (s : State) (t : State), t = s.advance a ∧ (t.fld.outs.get n).tripped = true ∧ (t.fld.outs.get n).latched = false ∧ ((t.fld.outs.get n).thermal = false ∨ cooled = true) ∧ t.grain = 0 ∧ t.turnsPassed (t.fld.outs.get n).tripAt (t.fcN Fid.FC_RETRY_DELAY n) = true) ∧
    (∃ (a : At) (n : Nat) (s : State) (t : State), t = s.advance a ∧ 0 < (t.fld.outs.get n).retries ∧ (t.fld.outs.get n).pin = true ∧ (t.fld.outs.get n).tripped = false ∧ t.turnsPassed (t.fld.outs.get n).onSince (t.fcN Fid.FC_RETRY_DELAY n) = true) ∧
    (∃ (a : At) (n : Nat) (s : State) (t : State), t = s.advance a ∧ (t.fld.outs.get n).tpoActive = true ∧ (t.fld.outs.get n).level = true ∧ (t.fld.outs.get n).onTime < t.fcN Fid.FC_TPO_PERIOD n * grainsPerTurn ∧ (t.fld.outs.get n).tpoStart.toNat + (t.fld.outs.get n).onTime ≤ t.mer.stamp.toNat) :=
  ⟨⟨{}, 31, chS liv 31 { role := 3 } { level := true } { vPresent := true }, (chS liv 31 { role := 3 } { level := true } { vPresent := true } : State).advance ({} : At), rfl, by decide +kernel⟩,
    ⟨{}, 31, chan { role := 3 } {}, (chan { role := 3 } {} : State).advance ({} : At), rfl, by decide +kernel⟩,
    ⟨{}, 3, 2001, 31, withCfg (chS liv 31 { role := 3 } { level := true } { vPresent := true }) [(Fid.FG_GROUP_LIMIT,3,2000)], (withCfg (chS liv 31 { role := 3 } { level := true } { vPresent := true }) [(Fid.FG_GROUP_LIMIT,3,2000)] : State).advance ({} : At), rfl, by decide +kernel, by decide +kernel⟩,
    ⟨{}, 3, 2000, blk (chan { role := 3 } { level := true }) 3 [(Fid.FG_GROUP_LIMIT,3,2000)], (blk (chan { role := 3 } { level := true }) 3 [(Fid.FG_GROUP_LIMIT,3,2000)] : State).advance ({} : At), rfl, by decide +kernel⟩,
    ⟨{}, 31, true, blk { chan { role := 3 } { tripped := true, thermal := true, tripAt := mkStamp 900 0 } with mer.stamp := mkStamp 1000 0 } 3 [(Fid.FC_RETRY_DELAY,31,100)], (blk { chan { role := 3 } { tripped := true, thermal := true, tripAt := mkStamp 900 0 } with mer.stamp := mkStamp 1000 0 } 3 [(Fid.FC_RETRY_DELAY,31,100)] : State).advance ({} : At), rfl, by decide +kernel, by decide +kernel, by decide +kernel, by decide +kernel, by decide +kernel⟩,
    ⟨{}, 31, withCfg (chS liv 31 { role := 3 } { retries := 2, pin := true, onSince := 900 } {}) [(Fid.FC_RETRY_DELAY,31,100)], (withCfg (chS liv 31 { role := 3 } { retries := 2, pin := true, onSince := 900 } {}) [(Fid.FC_RETRY_DELAY,31,100)] : State).advance ({} : At), rfl, by decide +kernel, by decide +kernel, by decide +kernel, by decide +kernel⟩,
    ⟨{}, 31, withCfg (chS liv 31 { role := 3 } { tpoActive := true, level := true, onTime := 7, tpoStart := mkStamp 1000 0 } {}) [(Fid.FC_TPO_PERIOD,31,100)], (withCfg (chS liv 31 { role := 3 } { tpoActive := true, level := true, onTime := 7, tpoStart := mkStamp 1000 0 } {}) [(Fid.FC_TPO_PERIOD,31,100)] : State).advance ({} : At), rfl, by decide +kernel, by decide +kernel, by decide +kernel, by decide +kernel⟩⟩

theorem witness_FieldDiagnostics :
    (∃ (a : At) (n : Nat) (level : Nat) (s : State) (t : State), t = s.advance a ∧ t.chCmd n = true ∧ bitOf (t.fcN Fid.FC_OPEN_LOAD n) 0 = true ∧ t.chIsOut n = true ∧ (t.fld.outs.get n).openLoad = false ∧ level < t.fcN Fid.FC_OPEN_I n) ∧
    (∃ (a : At) (n : Nat) (level : Nat) (s : State) (t : State), t = s.advance a ∧ t.chCmd n = false ∧ bitOf (t.fcN Fid.FC_OPEN_LOAD n) 1 = true ∧ t.chRole n = 3 ∧ t.peerHolds = false ∧ (t.fld.outs.get n).openLoad = false ∧ 3000 ≤ level ∧ level ≤ 8000) ∧
    (∃ (a : At) (n : Nat) (s : State) (t : State), t = s.advance a ∧ t.chRole n = 3 ∧ t.chCmd n = false ∧ t.peerHolds = false ∧ (t.fld.outs.get n).backfeed = false) ∧
    (∃ (a : At) (n : Nat) (s : State) (t : State), t = s.advance a ∧ t.chRole n = 3 ∧ t.chCmd n = false ∧ t.peerHolds = true ∧ t.shared n = true) ∧
    (∃ (a : At) (n : Nat) (s : State) (t : State), t = s.advance a ∧ t.peerHolds = false ∧ (t.fld.outs.get n).backfeed = true) ∧
    (∃ (a : At) (n : Nat) (current : Nat) (s : State) (t : State), t = s.advance a ∧ 20 ≤ current ∧ t.chCmd n = false ∧ t.chIsOut n = true ∧ (t.fld.outs.get n).stuckOn = false) ∧
    (∃ (a : At) (n : Nat) (current : Nat) (s : State) (t : State), t = s.advance a ∧ current < 20 ∧ (t.fld.outs.get n).stuckOn = true) ∧
    (∃ (a : At) (n : Nat) (s : State) (t : State), t = s.advance a ∧ t.chRole n = 3 ∧ t.chCmd n = true ∧ (t.fld.outs.get n).switchFail = false) ∧
    (∃ (a : At) (n : Nat) (s : State) (t : State), t = s.advance a ∧ (t.fld.outs.get n).switchFail = true) ∧
    (∃ (a : At) (n : Nat) (current : Nat) (s : State) (t : State) (u : State), t = s.advance a ∧ n < 32 ∧ t.darkDue n = true ∧ u = State.fieldEvent (groupOf n) 3 0x000B (le 1 n ++ le 2 current) n (t.chOut n (fun o => { o with darkFail := true }))) ∧
    (∃ (a : At) (s : State) (t : State), t = s.advance a) :=
  ⟨⟨{}, 31, 49, blk (chan { role := 3 } { level := true }) 3 [(Fid.FC_OPEN_LOAD,31,1),(Fid.FC_OPEN_I,31,50)], (blk (chan { role := 3 } { level := true }) 3 [(Fid.FC_OPEN_LOAD,31,1),(Fid.FC_OPEN_I,31,50)] : State).advance ({} : At), rfl, by decide +kernel, by decide +kernel, by decide +kernel, by decide +kernel, by decide +kernel⟩,
    ⟨{}, 31, 3000, blk (chan { role := 3 } {}) 3 [(Fid.FC_OPEN_LOAD,31,2)], (blk (chan { role := 3 } {}) 3 [(Fid.FC_OPEN_LOAD,31,2)] : State).advance ({} : At), rfl, by decide +kernel, by decide +kernel, by decide +kernel, by decide +kernel, by decide +kernel, by decide +kernel, by decide +kernel⟩,
    ⟨{}, 31, chS liv 31 { role := 3 } { } { vPresent := true }, (chS liv 31 { role := 3 } { } { vPresent := true } : State).advance ({} : At), rfl, by decide +kernel, by decide +kernel, by decide +kernel, by decide +kernel⟩,
    ⟨{}, 31, { blk (chan { role := 3 } {}) 3 [(Fid.FC_SHARED,31,1)] with pair.role := .standby, cfg.values := (withCfg liv [(Fid.PAIR_ENABLE,0,1)]).cfg.values }, ({ blk (chan { role := 3 } {}) 3 [(Fid.FC_SHARED,31,1)] with pair.role := .standby, cfg.values := (withCfg liv [(Fid.PAIR_ENABLE,0,1)]).cfg.values } : State).advance ({} : At), rfl, by decide +kernel, by decide +kernel, by decide +kernel, by decide +kernel⟩,
    ⟨{}, 31, chan { role := 3 } { backfeed := true }, (chan { role := 3 } { backfeed := true } : State).advance ({} : At), rfl, by decide +kernel, by decide +kernel⟩,
    ⟨{}, 31, 20, chS liv 31 { role := 3 } { } { vPresent := true }, (chS liv 31 { role := 3 } { } { vPresent := true } : State).advance ({} : At), rfl, by decide +kernel, by decide +kernel, by decide +kernel, by decide +kernel⟩,
    ⟨{}, 31, 19, chan { role := 3 } { stuckOn := true }, (chan { role := 3 } { stuckOn := true } : State).advance ({} : At), rfl, by decide +kernel, by decide +kernel⟩,
    ⟨{}, 31, chS liv 31 { role := 3 } { level := true } { vPresent := true }, (chS liv 31 { role := 3 } { level := true } { vPresent := true } : State).advance ({} : At), rfl, by decide +kernel, by decide +kernel, by decide +kernel⟩,
    ⟨{}, 31, chan { role := 3 } { level := true, switchFail := true }, (chan { role := 3 } { level := true, switchFail := true } : State).advance ({} : At), rfl, by decide +kernel⟩,
    ⟨{}, 31, 19, blk { chan { role := 3 } { level := true, pin := true } with mer.stamp := mkStamp 992 262144 } 3 [(Fid.FC_DARK,31,1),(Fid.FC_DARK_PERIOD,31,248)], (blk { chan { role := 3 } { level := true, pin := true } with mer.stamp := mkStamp 992 262144 } 3 [(Fid.FC_DARK,31,1),(Fid.FC_DARK_PERIOD,31,248)] : State).advance ({} : At), State.fieldEvent (groupOf 31) 3 0x000B (le 1 31 ++ le 2 19) 31 (((blk { chan { role := 3 } { level := true, pin := true } with mer.stamp := mkStamp 992 262144 } 3 [(Fid.FC_DARK,31,1),(Fid.FC_DARK_PERIOD,31,248)] : State).advance ({} : At) : State).chOut 31 (fun o => { o with darkFail := true })), rfl, by decide +kernel, by decide +kernel, rfl⟩,
    ⟨{}, withCfg { chS liv 31 { role := 3 } { level := true, pin := true } { vPresent := true } with mer.stamp := mkStamp 992 262144 } [(Fid.FC_DARK,31,1),(Fid.FC_DARK_PERIOD,31,248)], (withCfg { chS liv 31 { role := 3 } { level := true, pin := true } { vPresent := true } with mer.stamp := mkStamp 992 262144 } [(Fid.FC_DARK,31,1),(Fid.FC_DARK_PERIOD,31,248)] : State).advance ({} : At), rfl⟩⟩

theorem witness_UniversalInputsConvert :
    (∃ (a : At) (c : Nat) (x : Integ) (s : State) (t : State), t = s.advance a ∧ c < 4 ∧ (t.inp.cores.get c).ended = some x ∧ x.what < 4) ∧
    (∃ (a : At) (c : Nat) (x : Integ) (s : State) (t : State), t = s.advance a ∧ c < 4 ∧ (t.inp.cores.get c).ended = some x ∧ 4 ≤ x.what ∧ x.what < 6 ∧ x.capture = false) ∧
    (∃ (a : At) (c : Nat) (s : State) (t : State), t = s.advance a ∧ (t.inp.cores.get c).ended = none) ∧
    (∃ (a : At) (s : State) (t : State), t = s.advance a ∧ t.rdy Rdy.meridian = true ∧ t.rdy Rdy.ui = false ∧ (∀ c, c < 4 → (t.inp.cores.get c).startZero = true ∧ (t.inp.cores.get c).startGain = true ∧ (t.inp.cores.get c).cur = none)) ∧
    (∃ (a : At) (n : Nat) (s : State) (t : State), t = s.advance a ∧ n < 16 ∧ (t.inp.ui.get n).typ = 6) ∧
    (∃ (a : At) (n : Nat) (s : State) (t : State), t = s.advance a ∧ (t.inp.ui.get n).typ ≠ 6) :=
  ⟨⟨{}, 3, { what := 3, turn := 999 }, { liv with inp.cores := Tbl.set [] 3 { ended := some { what := 3, turn := 999 } } }, ({ liv with inp.cores := Tbl.set [] 3 { ended := some { what := 3, turn := 999 } } } : State).advance ({} : At), rfl, by decide +kernel, by decide +kernel, by decide +kernel⟩,
    ⟨{}, 3, { what := 5, turn := 999 }, { liv with inp.cores := Tbl.set [] 3 { ended := some { what := 5, turn := 999 } } }, ({ liv with inp.cores := Tbl.set [] 3 { ended := some { what := 5, turn := 999 } } } : State).advance ({} : At), rfl, by decide +kernel, by decide +kernel, by decide +kernel, by decide +kernel, by decide +kernel⟩,
    ⟨{}, 3, liv, liv.advance ({} : At), rfl, by decide +kernel⟩,
    ⟨{}, low { liv with inp.cores := [(0, { startZero := true, startGain := true }), (1, { startZero := true, startGain := true }), (2, { startZero := true, startGain := true }), (3, { startZero := true, startGain := true })] } [Rdy.ui], (low { liv with inp.cores := [(0, { startZero := true, startGain := true }), (1, { startZero := true, startGain := true }), (2, { startZero := true, startGain := true }), (3, { startZero := true, startGain := true })] } [Rdy.ui] : State).advance ({} : At), rfl, by decide +kernel, by decide +kernel, by decide +kernel⟩,
    ⟨{}, 15, { liv with inp.ui := Tbl.set [] 15 { typ := 6 } }, ({ liv with inp.ui := Tbl.set [] 15 { typ := 6 } } : State).advance ({} : At), rfl, by decide +kernel, by decide +kernel⟩,
    ⟨{}, 15, { liv with inp.ui := Tbl.set [] 15 { typ := 5 } }, ({ liv with inp.ui := Tbl.set [] 15 { typ := 5 } } : State).advance ({} : At), rfl, by decide +kernel⟩⟩

theorem witness_I2cRecipes :
    (∃ (a : At) (n : Nat) (s : State) (t : State), t = s.advance a ∧ t.recipeOn n = true ∧ t.recipeDue n = true ∧ ((t.inp.recipes.get n).queued = true ∨ (t.inp.recipes.get n).running = true)) ∧
    (∃ (a : At) (n : Nat) (s : State) (t : State), t = s.advance a ∧ t.recipeOn n = true ∧ t.recipeDue n = true ∧ (t.inp.recipes.get n).running = false ∧ (t.inp.recipes.get n).queued = false ∧ t.recipeTurn n = true) ∧
    (∃ (a : At) (n : Nat) (s : State) (t : State), t = s.advance a ∧ t.recipeOn n = true ∧ t.recipeDue n = false ∧ (t.inp.recipes.get n).queued = true ∧ t.recipeTurn n = true) ∧
    (∃ (a : At) (n : Nat) (s : State) (t : State), t = s.advance a ∧ t.recipeOn n = true ∧ (t.inp.recipes.get n).running = true ∧ (t.inp.recipes.get n).outcome.1 ≠ 0 ∧ (t.inp.recipes.get n).attempt < t.cfgN Fid.I2C_RETRY n ∧ (t.inp.recipes.get n).dueTurn = some t.turn ∧ (t.inp.recipes.get n).failedAt + 1000 ≤ t.clock) ∧
    (∃ (a : At) (n : Nat) (s : State) (t : State), t = s.advance a ∧ t.recipeOn n = true ∧ (t.inp.recipes.get n).running = true ∧ ((t.inp.recipes.get n).outcome.1 = 0 ∨ t.recipeRepeats n = false)) :=
  ⟨⟨{}, 63, withCfg { liv with inp.recipes := Tbl.set [] 63 { running := true } } [(Fid.I2C_BUS,63,1),(Fid.I2C_PERIOD,63,100)], (withCfg { liv with inp.recipes := Tbl.set [] 63 { running := true } } [(Fid.I2C_BUS,63,1),(Fid.I2C_PERIOD,63,100)] : State).advance ({} : At), rfl, by decide +kernel, by decide +kernel, by decide +kernel⟩,
    ⟨{}, 63, withCfg liv [(Fid.I2C_BUS,63,1),(Fid.I2C_PERIOD,63,100)], (withCfg liv [(Fid.I2C_BUS,63,1),(Fid.I2C_PERIOD,63,100)] : State).advance ({} : At), rfl, by decide +kernel, by decide +kernel, by decide +kernel, by decide +kernel, by decide +kernel⟩,
    ⟨{}, 63, withCfg { liv with inp.recipes := Tbl.set [] 63 { queued := true, dueTurn := some 1000 } } [(Fid.I2C_BUS,63,1),(Fid.I2C_PERIOD,63,100)], (withCfg { liv with inp.recipes := Tbl.set [] 63 { queued := true, dueTurn := some 1000 } } [(Fid.I2C_BUS,63,1),(Fid.I2C_PERIOD,63,100)] : State).advance ({} : At), rfl, by decide +kernel, by decide +kernel, by decide +kernel, by decide +kernel⟩,
    ⟨{}, 63, withCfg { liv with inp.recipes := Tbl.set [] 63 { running := true, outcome := (1, 0), dueTurn := some 1000 }, clock := 1000 } [(Fid.I2C_BUS,63,1),(Fid.I2C_PERIOD,63,100),(Fid.I2C_RETRY,63,2)], (withCfg { liv with inp.recipes := Tbl.set [] 63 { running := true, outcome := (1, 0), dueTurn := some 1000 }, clock := 1000 } [(Fid.I2C_BUS,63,1),(Fid.I2C_PERIOD,63,100),(Fid.I2C_RETRY,63,2)] : State).advance ({} : At), rfl, by decide +kernel, by decide +kernel, by decide +kernel, by decide +kernel, by decide +kernel, by decide +kernel⟩,
    ⟨{}, 63, withCfg { liv with inp.recipes := Tbl.set [] 63 { running := true } } [(Fid.I2C_BUS,63,1),(Fid.I2C_PERIOD,63,100)], (withCfg { liv with inp.recipes := Tbl.set [] 63 { running := true } } [(Fid.I2C_BUS,63,1),(Fid.I2C_PERIOD,63,100)] : State).advance ({} : At), rfl, by decide +kernel, by decide +kernel, by decide +kernel⟩⟩

theorem witness_PortLinks :
    (∃ (a : At) (phy : Nat) (s : State) (t : State), t = s.advance a ∧ t.rdy Rdy.services = true ∧ phy < 2) ∧
    (∃ (a : At) (s : State) (t : State), t = s.advance a ∧ t.rdy Rdy.services = true ∧ t.cfgN Fid.T1S_ENABLE = 1 ∧ t.cfgN Fid.PLCA_ID ≤ 31) ∧
    (∃ (a : At) (n : Nat) (s : State) (t : State), t = s.advance a ∧ t.rdy Rdy.services = true ∧ n < 4 ∧ t.cfgN Fid.LINE_PROTOCOL n = 1 ∧ t.peerHolds = false) ∧
    (∃ (a : At) (i : Nat) (s : State) (t : State), t = s.advance a ∧ t.rdy Rdy.services = true ∧ i < 2 ∧ t.cfgN Fid.IP_MODE i = 1) ∧
    (∃ (a : At) (s : State) (t : State), t = s.advance a ∧ t.rdy Rdy.services = false) ∧
    (∃ (a : At) (n : Nat) (u : Nat) (s : State) (t : State), t = s.advance a ∧ (t.bus.ports.get (2 + n)).dupUntil = some u) ∧
    (∃ (a : At) (s : State) (t : State), t = s.advance a) :=
  ⟨⟨{}, 1, liv, liv.advance ({} : At), rfl, by decide +kernel, by decide +kernel⟩,
    ⟨{}, withCfg liv [(Fid.T1S_ENABLE,0,1),(Fid.PLCA_ID,0,31)], (withCfg liv [(Fid.T1S_ENABLE,0,1),(Fid.PLCA_ID,0,31)] : State).advance ({} : At), rfl, by decide +kernel, by decide +kernel, by decide +kernel⟩,
    ⟨{}, 3, withCfg liv [(Fid.LINE_PROTOCOL,3,1)], (withCfg liv [(Fid.LINE_PROTOCOL,3,1)] : State).advance ({} : At), rfl, by decide +kernel, by decide +kernel, by decide +kernel, by decide +kernel⟩,
    ⟨{}, 1, withCfg liv [(Fid.IP_MODE,1,1)], (withCfg liv [(Fid.IP_MODE,1,1)] : State).advance ({} : At), rfl, by decide +kernel, by decide +kernel, by decide +kernel⟩,
    ⟨{}, low liv [Rdy.services], (low liv [Rdy.services] : State).advance ({} : At), rfl, by decide +kernel⟩,
    ⟨{}, 3, 1000, { liv with bus.ports := Tbl.set [] 5 { dupUntil := some 1000 } }, ({ liv with bus.ports := Tbl.set [] 5 { dupUntil := some 1000 } } : State).advance ({} : At), rfl, by decide +kernel⟩,
    ⟨{}, { liv with bus.ports := Tbl.set [] 5 { waiting := [{ since := 0 }, { since := 3000001 }] }, clock := 3000000 }, ({ liv with bus.ports := Tbl.set [] 5 { waiting := [{ since := 0 }, { since := 3000001 }] }, clock := 3000000 } : State).advance ({} : At), rfl⟩⟩

theorem witness_FramesInAndOut :
    (∃ (a : At) (f : BusFrame) (s : State) (t : State), t = s.advance a ∧ f.fcsOk = false) ∧
    (∃ (a : At) (f : BusFrame) (s : State) (t : State), t = s.advance a ∧ f.fcsOk = true ∧ 1 ≤ f.port ∧ f.port < 7 ∧ (2 ≤ f.port ∨ 64 ≤ f.length ∧ f.length ≤ 1522) ∧ t.rdy Rdy.services = true ∧ t.portHears f = true) ∧
    (∃ (a : At) (f : BusFrame) (s : State) (t : State) (u : State), t = s.advance a ∧ f.fcsOk = true ∧ f.port = 0 ∧ 64 ≤ f.length ∧ f.length ≤ 1522 ∧ t.switchRuns = true ∧ u = ((t.port (sideKey f.side) (fun p => { p with framesIn := p.framesIn + 1 })).learn f.src f.side).forward f.dst f.side) ∧
    (∃ (a : At) (p : Nat) (f : TxFrame) (s : State) (t : State), t = s.advance a ∧ nextFrame ((t.bus.ports.get p).tx.filter (t.maySend p)) = some f ∧ t.transmits p = true) ∧
    (∃ (a : At) (side : Nat) (s : State) (t : State), t = s.advance a ∧ 0 < (t.bus.ports.get (sideKey side)).egress ∧ t.switchRuns = true) ∧
    (∃ (a : At) (s : State) (t : State), t = s.advance a ∧ t.cfgN Fid.BAC_FD_BBMD ≠ 0 ∧ t.transmits 0 = true ∧ (∀ c, t.bus.fdAt = some c → c + t.cfgN Fid.BAC_FD_TTL * 500000 ≤ t.clock)) :=
  ⟨⟨{}, { fcsOk := false }, liv, liv.advance ({} : At), rfl, by decide +kernel⟩,
    ⟨{}, { port := 5, address := 9 }, withCfg liv [(Fid.LINE_PROTOCOL,3,1)], (withCfg liv [(Fid.LINE_PROTOCOL,3,1)] : State).advance ({} : At), rfl, by decide +kernel, by decide +kernel, by decide +kernel, by decide +kernel, by decide +kernel, by decide +kernel⟩,
    ⟨{}, { length := 64 }, liv, liv.advance ({} : At), (((liv.advance ({} : At) : State).port (sideKey ({ length := 64 } : BusFrame).side) (fun p => { p with framesIn := p.framesIn + 1 })).learn ({ length := 64 } : BusFrame).src ({ length := 64 } : BusFrame).side).forward ({ length := 64 } : BusFrame).dst ({ length := 64 } : BusFrame).side, rfl, by decide +kernel, by decide +kernel, by decide +kernel, by decide +kernel, by decide +kernel, rfl⟩,
    ⟨{}, 5, { cls := 1 }, { liv with bus.ports := Tbl.set [] 5 { tx := [{ cls := 2 }, { cls := 1 }] } }, ({ liv with bus.ports := Tbl.set [] 5 { tx := [{ cls := 2 }, { cls := 1 }] } } : State).advance ({} : At), rfl, by decide +kernel, by decide +kernel⟩,
    ⟨{}, 1, { liv with bus.ports := Tbl.set [] 7 { egress := 1 } }, ({ liv with bus.ports := Tbl.set [] 7 { egress := 1 } } : State).advance ({} : At), rfl, by decide +kernel, by decide +kernel⟩,
    ⟨{}, withCfg liv [(Fid.BAC_FD_BBMD,0,7),(Fid.BAC_FD_TTL,0,300)], (withCfg liv [(Fid.BAC_FD_BBMD,0,7),(Fid.BAC_FD_TTL,0,300)] : State).advance ({} : At), rfl, by decide +kernel, by decide +kernel, by decide +kernel⟩⟩

theorem witness_BacnetServices :
    (∃ (a : At) (p : Nat) (s : State) (t : State), t = s.advance a ∧ p < 7 ∧ t.bacnetPort p = true ∧ t.bacnetOn = true ∧ t.peerHolds = false) ∧
    (∃ (a : At) (p : Nat) (s : State) (t : State), t = s.advance a ∧ p < 7 ∧ t.bacnetPort p = true ∧ t.bacnetOn = true ∧ t.peerHolds = false) ∧
    (∃ (a : At) (p : Nat) (s : State) (t : State), t = s.advance a ∧ p < 7 ∧ t.bacnetPort p = true ∧ t.bacnetOn = true ∧ t.peerHolds = false) ∧
    (∃ (a : At) (p : Nat) (w : Int) (s : State) (t : State), t = s.advance a ∧ p < 7 ∧ t.bacnetPort p = true ∧ t.bacnetOn = true ∧ t.peerHolds = false ∧ (t.rxTake p).wall16 (t.rxStamp p) = some w) ∧
    (∃ (a : At) (p : Nat) (s : State) (t : State), t = s.advance a ∧ p < 7 ∧ t.bacnetPort p = true ∧ t.bacnetOn = true ∧ t.peerHolds = false) ∧
    (∃ (a : At) (p : Nat) (after : Option Nat) (ids : List Nat) (s : State) (t : State), t = s.advance a ∧ p < 7 ∧ t.bacnetPort p = true ∧ t.bacnetOn = true ∧ t.peerHolds = false ∧ ids = (t.rxTake p).activeEvents.filter (fun x => after.all (fun id => decide (id < x)))) ∧
    (∃ (a : At) (p : Nat) (object : Nat) (s : State) (t : State), t = s.advance a ∧ p < 7 ∧ t.bacnetPort p = true ∧ t.bacnetOn = true ∧ t.peerHolds = false ∧ (t.rxTake p).objOf object = none) ∧
    (∃ (a : At) (p : Nat) (object : Nat) (o : Obj) (s : State) (t : State), t = s.advance a ∧ p < 7 ∧ t.bacnetPort p = true ∧ t.bacnetOn = true ∧ t.peerHolds = false ∧ (t.rxTake p).objOf object = some o ∧ (∀ n, o ≠ .trend n)) ∧
    (∃ (a : At) (p : Nat) (object : Nat) (n : Nat) (s : State) (t : State) (u : State), t = s.advance a ∧ p < 7 ∧ t.bacnetPort p = true ∧ t.bacnetOn = true ∧ t.peerHolds = false ∧ u = t.rxTake p ∧ u.objOf object = some (.trend n)) ∧
    (∃ (a : At) (p : Nat) (s : State) (t : State), t = s.advance a ∧ (t.rdy Rdy.services = false ∨ t.bacnetPort p = false)) :=
  ⟨⟨{}, 6, bnet, bnet.advance ({} : At), rfl, by decide +kernel, by decide +kernel, by decide +kernel, by decide +kernel⟩,
    ⟨{}, 6, bnet, bnet.advance ({} : At), rfl, by decide +kernel, by decide +kernel, by decide +kernel, by decide +kernel⟩,
    ⟨{}, 6, bnet, bnet.advance ({} : At), rfl, by decide +kernel, by decide +kernel, by decide +kernel, by decide +kernel⟩,
    ⟨{}, 0, (liv2.wall16 liv2.now).getD 0, { bnet with mer.concord := liv2.mer.concord }, ({ bnet with mer.concord := liv2.mer.concord } : State).advance ({} : At), rfl, by decide +kernel, by decide +kernel, by decide +kernel, by decide +kernel, by decide +kernel⟩,
    ⟨{}, 6, bnet, bnet.advance ({} : At), rfl, by decide +kernel, by decide +kernel, by decide +kernel, by decide +kernel⟩,
    ⟨{}, 6, some 3, ((bnet.advance ({} : At) : State).rxTake 6).activeEvents.filter (fun x => (some 3 : Option Nat).all (fun id => decide (id < x))), bnet, bnet.advance ({} : At), rfl, by decide +kernel, by decide +kernel, by decide +kernel, by decide +kernel, rfl⟩,
    ⟨{}, 6, 5, bnet, bnet.advance ({} : At), rfl, by decide +kernel, by decide +kernel, by decide +kernel, by decide +kernel, by decide +kernel⟩,
    ⟨{}, 6, 15*4194304, .nc 0, withCfg bnet [(Fid.NC_ENABLE,0,1)], (withCfg bnet [(Fid.NC_ENABLE,0,1)] : State).advance ({} : At), rfl, by decide +kernel, by decide +kernel, by decide +kernel, by decide +kernel, by decide +kernel, nofun⟩,
    ⟨{}, 6, 20*4194304+3, 3, withCfg bnet [(Fid.TL_LOG_ENABLE,3,1)], (withCfg bnet [(Fid.TL_LOG_ENABLE,3,1)] : State).advance ({} : At), ((withCfg bnet [(Fid.TL_LOG_ENABLE,3,1)] : State).advance ({} : At) : State).rxTake 6, rfl, by decide +kernel, by decide +kernel, by decide +kernel, by decide +kernel, by decide +kernel, by decide +kernel⟩,
    ⟨{}, 6, low bnet [Rdy.services], (low bnet [Rdy.services] : State).advance ({} : At), rfl, by decide +kernel⟩⟩

theorem witness_CommunicationControl :
    (∃ (a : At) (p : Nat) (password : List Byte) (s : State) (t : State), t = s.advance a ∧ t.rdy Rdy.services = true ∧ p < 7 ∧ t.bacnetPort p = true ∧ t.peerHolds = false ∧ t.passwordFits password = true) ∧
    (∃ (a : At) (p : Nat) (password : List Byte) (s : State) (t : State), t = s.advance a ∧ t.rdy Rdy.services = true ∧ p < 7 ∧ t.bacnetPort p = true ∧ t.peerHolds = false ∧ t.passwordFits password = false) ∧
    (∃ (a : At) (d : Nat) (s : State) (t : State), t = s.advance a ∧ t.svc.dccUntil = some d ∧ d ≤ t.clock) ∧
    (∃ (a : At) (p : Nat) (password : List Byte) (s : State) (t : State), t = s.advance a ∧ t.rdy Rdy.services = true ∧ p < 7 ∧ t.bacnetPort p = true ∧ t.peerHolds = false ∧ t.passwordFits password = true) ∧
    (∃ (a : At) (p : Nat) (state : Nat) (password : List Byte) (s : State) (t : State), t = s.advance a ∧ t.rdy Rdy.services = true ∧ p < 7 ∧ t.bacnetPort p = true ∧ t.peerHolds = false ∧ (t.passwordFits password = false ∨ 2 ≤ state)) ∧
    (∃ (a : At) (n : Note) (rest : List Note) (s : State) (t : State), t = s.advance a ∧ t.rdy Rdy.services = true ∧ t.peerHolds = false ∧ t.svc.dcc = Dcc.enabled ∧ t.svc.notes = n :: rest ∧ (({ t with svc := { t.svc with notes := rest } } : State).recipientsOf n.cls = [])) ∧
    (∃ (a : At) (n : Note) (rest : List Note) (s : State) (t : State) (u : State), t = s.advance a ∧ t.rdy Rdy.services = true ∧ t.peerHolds = false ∧ t.svc.dcc = Dcc.enabled ∧ t.svc.notes = n :: rest ∧ u = { t with svc := { t.svc with notes := rest } }) :=
  ⟨⟨{}, 6, [0x41], { bnet with nv := withPw.nv }, ({ bnet with nv := withPw.nv } : State).advance ({} : At), rfl, by decide +kernel, by decide +kernel, by decide +kernel, by decide +kernel, by decide +kernel⟩,
    ⟨{}, 6, [], { bnet with nv := withPw.nv }, ({ bnet with nv := withPw.nv } : State).advance ({} : At), rfl, by decide +kernel, by decide +kernel, by decide +kernel, by decide +kernel, by decide +kernel⟩,
    ⟨{}, 60, { liv with svc.dcc := .disabled, svc.dccUntil := some 60, clock := 60 }, ({ liv with svc.dcc := .disabled, svc.dccUntil := some 60, clock := 60 } : State).advance ({} : At), rfl, by decide +kernel, by decide +kernel⟩,
    ⟨{}, 6, [], bnet, bnet.advance ({} : At), rfl, by decide +kernel, by decide +kernel, by decide +kernel, by decide +kernel, by decide +kernel⟩,
    ⟨{}, 6, 2, [], bnet, bnet.advance ({} : At), rfl, by decide +kernel, by decide +kernel, by decide +kernel, by decide +kernel, by decide +kernel⟩,
    ⟨{}, { object := 5 }, [], { liv with svc.notes := [{ object := 5 }] }, ({ liv with svc.notes := [{ object := 5 }] } : State).advance ({} : At), rfl, by decide +kernel, by decide +kernel, by decide +kernel, by decide +kernel, by decide +kernel⟩,
    ⟨{}, { object := 5 }, [], { bnet with svc.notes := [{ object := 5 }] }, ({ bnet with svc.notes := [{ object := 5 }] } : State).advance ({} : At), { (({ bnet with svc.notes := [{ object := 5 }] } : State).advance ({} : At) : State) with svc := { (({ bnet with svc.notes := [{ object := 5 }] } : State).advance ({} : At) : State).svc with notes := ([] : List Note) } }, rfl, by decide +kernel, by decide +kernel, by decide +kernel, by decide +kernel, rfl⟩⟩

theorem witness_PartnersAndSecureConnect :
    (∃ (a : At) (p : Nat) (s : State) (t : State), t = s.advance a ∧ t.rdy Rdy.services = true ∧ t.peerHolds = false ∧ p < 7 ∧ t.bacnetPort p = true) ∧
    (∃ (a : At) (s : State) (t : State), t = s.advance a ∧ t.bus.changedDue = true ∧ t.rdy Rdy.services = true ∧ (∀ u, t.bus.changedTurn = some u → u + 64 ≤ t.turn)) ∧
    (∃ (a : At) (i : Nat) (s : State) (t : State), t = s.advance a ∧ t.rdy Rdy.services = true ∧ (t.bus.partners.get i).state = PState.provisional) ∧
    (∃ (a : At) (i : Nat) (s : State) (t : State), t = s.advance a ∧ t.rdy Rdy.services = true ∧ t.peerHolds = false ∧ (t.bus.partners.get i).state = PState.identified ∧ (t.bus.partners.get i).kind ≠ 5 ∧ (t.bus.partners.get i).asked = false) ∧
    (∃ (a : At) (i : Nat) (s : State) (t : State), t = s.advance a ∧ t.rdy Rdy.services = true ∧ t.peerHolds = false ∧ (t.bus.partners.get i).state = PState.identified ∧ (t.bus.partners.get i).kind ≠ 5) ∧
    (∃ (a : At) (s : State) (t : State), t = s.advance a ∧ t.rdy Rdy.services = true ∧ t.peerHolds = false) ∧
    (∃ (a : At) (s : State) (t : State), t = s.advance a ∧ t.rdy Rdy.services = true) ∧
    (∃ (a : At) (c : Nat) (s : State) (t : State), t = s.advance a ∧ t.rdy Rdy.services = true ∧ t.bus.scTrying = some c ∧ t.clock ≤ c + 10000000) ∧
    (∃ (a : At) (s : State) (t : State), t = s.advance a ∧ t.rdy Rdy.services = true ∧ t.bus.scTrying.isSome = true) ∧
    (∃ (a : At) (s : State) (t : State), t = s.advance a ∧ t.bus.sc = ScState.primary ∧ t.bus.scLost = none) ∧
    (∃ (a : At) (s : State) (t : State), t = s.advance a ∧ t.bus.sc = ScState.failover) ∧
    (∃ (a : At) (d : Nat) (s : State) (t : State), t = s.advance a ∧ t.rdy Rdy.services = true ∧ t.bus.scDue = some d ∧ d ≤ t.clock) ∧
    (∃ (a : At) (p : Nat) (s : State) (t : State), t = s.advance a ∧ t.rdy Rdy.services = true ∧ t.peerHolds = false ∧ p < 7 ∧ t.bacnetPort p = true) :=
  ⟨⟨{}, 6, bnet, bnet.advance ({} : At), rfl, by decide +kernel, by decide +kernel, by decide +kernel, by decide +kernel⟩,
    ⟨{}, { liv with bus.changedDue := true }, ({ liv with bus.changedDue := true } : State).advance ({} : At), rfl, by decide +kernel, by decide +kernel, by decide +kernel⟩,
    ⟨{}, 9, { liv with bus.partners := Tbl.set [] 9 { state := .provisional }, mer.stamp := mkStamp 4096 0 }, ({ liv with bus.partners := Tbl.set [] 9 { state := .provisional }, mer.stamp := mkStamp 4096 0 } : State).advance ({} : At), rfl, by decide +kernel, by decide +kernel⟩,
    ⟨{}, 9, withCfg { liv with bus.partners := Tbl.set [] 9 { kind := 1, state := .identified, lastHeard := mkStamp 950 7 } } [(Fid.BUS_SILENCE,0,100)], (withCfg { liv with bus.partners := Tbl.set [] 9 { kind := 1, state := .identified, lastHeard := mkStamp 950 7 } } [(Fid.BUS_SILENCE,0,100)] : State).advance ({} : At), rfl, by decide +kernel, by decide +kernel, by decide +kernel, by decide +kernel, by decide +kernel⟩,
    ⟨{}, 9, withCfg { liv with bus.partners := Tbl.set [] 9 { kind := 1, state := .identified, lastHeard := mkStamp 900 7 } } [(Fid.BUS_SILENCE,0,100)], (withCfg { liv with bus.partners := Tbl.set [] 9 { kind := 1, state := .identified, lastHeard := mkStamp 900 7 } } [(Fid.BUS_SILENCE,0,100)] : State).advance ({} : At), rfl, by decide +kernel, by decide +kernel, by decide +kernel, by decide +kernel⟩,
    ⟨{}, withCfg liv [(Fid.BUS_WHOIS_PERIOD,0,1000)], (withCfg liv [(Fid.BUS_WHOIS_PERIOD,0,1000)] : State).advance ({} : At), rfl, by decide +kernel, by decide +kernel⟩,
    ⟨{}, { liv with mer.stamp := mkStamp 65536 0 }, ({ liv with mer.stamp := mkStamp 65536 0 } : State).advance ({} : At), rfl, by decide +kernel⟩,
    ⟨{}, 0, { liv with bus.sc := .connectingPrimary, bus.scTrying := some 0 }, ({ liv with bus.sc := .connectingPrimary, bus.scTrying := some 0 } : State).advance ({} : At), rfl, by decide +kernel, by decide +kernel, by decide +kernel⟩,
    ⟨{}, { liv with bus.sc := .connectingFailover, bus.scTrying := some 0 }, ({ liv with bus.sc := .connectingFailover, bus.scTrying := some 0 } : State).advance ({} : At), rfl, by decide +kernel, by decide +kernel⟩,
    ⟨{}, { liv with bus.sc := .primary }, ({ liv with bus.sc := .primary } : State).advance ({} : At), rfl, by decide +kernel, by decide +kernel⟩,
    ⟨{}, { liv with bus.sc := .failover }, ({ liv with bus.sc := .failover } : State).advance ({} : At), rfl, by decide +kernel⟩,
    ⟨{}, 0, { liv with bus.scDue := some 0 }, ({ liv with bus.scDue := some 0 } : State).advance ({} : At), rfl, by decide +kernel, by decide +kernel, by decide +kernel⟩,
    ⟨{}, 6, bnet, bnet.advance ({} : At), rfl, by decide +kernel, by decide +kernel, by decide +kernel, by decide +kernel⟩⟩

theorem witness_BindingsAndRequests :
    (∃ (a : At) (b : Nat) (i : Nat) (s : State) (t : State), t = s.advance a ∧ t.bindPartner b = some i ∧ t.pollDue b = true ∧ t.bindCanPoll b = true) ∧
    (∃ (a : At) (b : Nat) (i : Nat) (s : State) (t : State), t = s.advance a ∧ t.bindPartner b = some i ∧ (t.bus.binds.get b).inForce = true ∧ t.cfgN Fid.BIND_DIR b = 0 ∧ t.cfgN Fid.BIND_METHOD b = 1 ∧ ((t.bus.binds.get b).covActive = false ∧ (t.bus.binds.get b).covRefused = false ∨ (t.bus.binds.get b).covActive = true ∧ (t.bus.binds.get b).covSince + t.cfgN Fid.BIND_COV_LIFE b * 750000 ≤ t.clock) ∧ (∀ o ∈ t.bus.requests, ¬ (o.what = TxKind.subscribe ∧ o.binds = [b])) ∧ t.bindCanPoll b = true) ∧
    (∃ (a : At) (p : Nat) (addr : Nat) (s : State) (t : State), t = s.advance a ∧ t.bacnetOn = true ∧ t.peerHolds = false ∧ p < 7 ∧ t.bacnetPort p = true ∧ (t.rxTake p).partnerAt p addr = none) ∧
    (∃ (a : At) (p : Nat) (addr : Nat) (object : Nat) (i : Nat) (value : List Byte) (fault : Bool) (s : State) (t : State) (u : State) (v : State), t = s.advance a ∧ t.bacnetOn = true ∧ t.peerHolds = false ∧ p < 7 ∧ t.bacnetPort p = true ∧ u = t.rxTake p ∧ u.partnerAt p addr = some i ∧ v = State.each ((u.bindsOf i).filter (fun b => u.cfgN Fid.BIND_DIR b == 0 && u.cfgN Fid.BIND_METHOD b == 1 && u.cfgN Fid.BIND_OBJECT b == object && u.cfgN Fid.BIND_PROPERTY b % 65536 == Prop_.presentValue)) (fun b w => (w.bindValue b (t.rxStamp p) (valueOf value) fault).bind b (fun x => { x with lastNotified := w.turn })) u) ∧
    (∃ (a : At) (b : Nat) (i : Nat) (v : Word32) (s : State) (t : State) (u : State), t = s.advance a ∧ t.bindPartner b = some i ∧ (t.bus.binds.get b).offered = some v ∧ (t.bus.binds.get b).inForce = true ∧ t.cfgN Fid.BIND_DIR b = 1 ∧ t.bindCanPoll b = true ∧ u = t.bind b (fun x => { x with offered := none })) ∧
    (∃ (a : At) (b : Nat) (i : Nat) (v : Word32) (s : State) (t : State), t = s.advance a ∧ t.bindPartner b = some i ∧ (t.bus.binds.get b).pending.orElse (fun _ => (t.bus.binds.get b).lastSent) = some v ∧ (t.bus.binds.get b).inForce = true ∧ (t.bus.binds.get b).repeats = true ∧ t.turn % t.cfgN Fid.BIND_PERIOD b = b % t.cfgN Fid.BIND_PERIOD b ∧ t.bindCanPoll b = true) ∧
    (∃ (a : At) (id : Nat) (o : Outstanding) (s : State) (t : State), t = s.advance a ∧ t.bus.requests.find? (fun o => o.id == id && o.what != .modbusRequest) = some o ∧ t.overdue o 3000000 = true) ∧
    (∃ (a : At) (id : Nat) (o : Outstanding) (s : State) (t : State), t = s.advance a ∧ t.bus.requests.find? (fun o => o.id == id && o.what != .modbusRequest) = some o ∧ t.overdue o 3000000 = false) ∧
    (∃ (a : At) (id : Nat) (o : Outstanding) (s : State) (t : State), t = s.advance a ∧ t.bus.requests.find? (fun o => o.id == id && o.what != .modbusRequest) = some o ∧ t.overdue o 3000000 = true ∧ o.retries < 2) ∧
    (∃ (a : At) (id : Nat) (o : Outstanding) (s : State) (t : State), t = s.advance a ∧ t.bus.requests.find? (fun o => o.id == id && o.what == .modbusRequest && o.sent.isSome) = some o) ∧
    (∃ (a : At) (id : Nat) (b : Nat) (o : Outstanding) (s : State) (t : State) (v : State), t = s.advance a ∧ t.bus.requests.find? (fun o => o.id == id && o.what == .modbusRequest && o.sent.isSome) = some o ∧ o.binds = [b] ∧ v = ((t.rxTake o.port).heard o.partner).closeRequest id) ∧
    (∃ (a : At) (id : Nat) (o : Outstanding) (s : State) (t : State), t = s.advance a ∧ t.bus.requests.find? (fun o => o.id == id && o.what == .modbusRequest) = some o ∧ t.overdue o (t.cfgN Fid.MB_TIMEOUT (o.port - 2) * 1000) = true) ∧
    (∃ (a : At) (n : Nat) (fn : Nat) (addr : Nat) (count : Nat) (waddr : Nat) (values : List Nat) (d : List Nat) (v : State) (s : State) (t : State), t = s.advance a ∧ t.rdy Rdy.services = true ∧ n < 4 ∧ t.cfgN Fid.LINE_PROTOCOL n = 3 ∧ t.peerHolds = false ∧ (t.rxTake (2 + n)).mbServe fn addr count waddr values = .ok (v, d)) ∧
    (∃ (a : At) (n : Nat) (fn : Nat) (addr : Nat) (count : Nat) (waddr : Nat) (e : Nat) (values : List Nat) (s : State) (t : State), t = s.advance a ∧ t.rdy Rdy.services = true ∧ n < 4 ∧ t.cfgN Fid.LINE_PROTOCOL n = 3 ∧ t.peerHolds = false ∧ (t.rxTake (2 + n)).mbServe fn addr count waddr values = .error e) :=
  ⟨⟨{}, 4, 9, bound 0 0, (bound 0 0 : State).advance ({} : At), rfl, by decide +kernel, by decide +kernel, by decide +kernel⟩,
    ⟨{}, 4, 9, bound 0 1, (bound 0 1 : State).advance ({} : At), rfl, by decide +kernel, by decide +kernel, by decide +kernel, by decide +kernel, by decide +kernel, by decide +kernel, by decide +kernel⟩,
    ⟨{}, 6, 5, bnet, bnet.advance ({} : At), rfl, by decide +kernel, by decide +kernel, by decide +kernel, by decide +kernel, by decide +kernel⟩,
    ⟨{}, 5, 3, 5, 9, [0x44,0,0,0,0], false, withCfg (bound 0 1) [(Fid.BAC_NET,5,1),(Fid.LINE_PROTOCOL,3,1)], (withCfg (bound 0 1) [(Fid.BAC_NET,5,1),(Fid.LINE_PROTOCOL,3,1)] : State).advance ({} : At), ((withCfg (bound 0 1) [(Fid.BAC_NET,5,1),(Fid.LINE_PROTOCOL,3,1)] : State).advance ({} : At) : State).rxTake 5, State.each (((((withCfg (bound 0 1) [(Fid.BAC_NET,5,1),(Fid.LINE_PROTOCOL,3,1)] : State).advance ({} : At) : State).rxTake 5 : State).bindsOf 9).filter (fun b => (((withCfg (bound 0 1) [(Fid.BAC_NET,5,1),(Fid.LINE_PROTOCOL,3,1)] : State).advance ({} : At) : State).rxTake 5 : State).cfgN Fid.BIND_DIR b == 0 && (((withCfg (bound 0 1) [(Fid.BAC_NET,5,1),(Fid.LINE_PROTOCOL,3,1)] : State).advance ({} : At) : State).rxTake 5 : State).cfgN Fid.BIND_METHOD b == 1 && (((withCfg (bound 0 1) [(Fid.BAC_NET,5,1),(Fid.LINE_PROTOCOL,3,1)] : State).advance ({} : At) : State).rxTake 5 : State).cfgN Fid.BIND_OBJECT b == 5 && (((withCfg (bound 0 1) [(Fid.BAC_NET,5,1),(Fid.LINE_PROTOCOL,3,1)] : State).advance ({} : At) : State).rxTake 5 : State).cfgN Fid.BIND_PROPERTY b % 65536 == Prop_.presentValue)) (fun b w => (w.bindValue b (((withCfg (bound 0 1) [(Fid.BAC_NET,5,1),(Fid.LINE_PROTOCOL,3,1)] : State).advance ({} : At) : State).rxStamp 5) (valueOf ([0x44,0,0,0,0] : List Byte)) false).bind b (fun x => { x with lastNotified := w.turn })) (((withCfg (bound 0 1) [(Fid.BAC_NET,5,1),(Fid.LINE_PROTOCOL,3,1)] : State).advance ({} : At) : State).rxTake 5 : State), rfl, by decide +kernel, by decide +kernel, by decide +kernel, by decide +kernel, rfl, by decide +kernel, rfl⟩,
    ⟨{}, 4, 9, 0x41A00000, { drv with bus.binds := Tbl.set [] 4 { inForce := true, offered := some 0x41A00000 } }, ({ drv with bus.binds := Tbl.set [] 4 { inForce := true, offered := some 0x41A00000 } } : State).advance ({} : At), (({ drv with bus.binds := Tbl.set [] 4 { inForce := true, offered := some 0x41A00000 } } : State).advance ({} : At) : State).bind 4 (fun x => { x with offered := none }), rfl, by decide +kernel, by decide +kernel, by decide +kernel, by decide +kernel, by decide +kernel, rfl⟩,
    ⟨{}, 4, 9, 5, { bound 1 0 with bus.binds := Tbl.set [] 4 { inForce := true, lastSent := some 5, writeFailed := true, repeats := true } }, ({ bound 1 0 with bus.binds := Tbl.set [] 4 { inForce := true, lastSent := some 5, writeFailed := true, repeats := true } } : State).advance ({} : At), rfl, by decide +kernel, by decide +kernel, by decide +kernel, by decide +kernel, by decide +kernel, by decide +kernel⟩,
    ⟨{}, 3, { id := 3, retries := 2, sent := some 0 }, { liv with bus.requests := [{ id := 3, retries := 2, sent := some 0 }], clock := 3000000 }, ({ liv with bus.requests := [{ id := 3, retries := 2, sent := some 0 }], clock := 3000000 } : State).advance ({} : At), rfl, by decide +kernel, by decide +kernel⟩,
    ⟨{}, 3, { id := 3, retries := 2, sent := some 1 }, { liv with bus.requests := [{ id := 3, retries := 2, sent := some 1 }], clock := 3000000 }, ({ liv with bus.requests := [{ id := 3, retries := 2, sent := some 1 }], clock := 3000000 } : State).advance ({} : At), rfl, by decide +kernel, by decide +kernel⟩,
    ⟨{}, 3, { id := 3, retries := 1, sent := some 0 }, { liv with bus.requests := [{ id := 3, retries := 1, sent := some 0 }, { id := 4 }], clock := 3000000 }, ({ liv with bus.requests := [{ id := 3, retries := 1, sent := some 0 }, { id := 4 }], clock := 3000000 } : State).advance ({} : At), rfl, by decide +kernel, by decide +kernel, by decide +kernel⟩,
    ⟨{}, 3, { id := 3, what := .modbusRequest, partner := 9, port := 3, binds := [4], sent := some 0 }, partner4 1 0 { id := 3, what := .modbusRequest, partner := 9, port := 3, binds := [4], sent := some 0 }, (partner4 1 0 { id := 3, what := .modbusRequest, partner := 9, port := 3, binds := [4], sent := some 0 } : State).advance ({} : At), rfl, by decide +kernel⟩,
    ⟨{}, 3, 4, { id := 3, what := .modbusRequest, partner := 9, port := 3, binds := [4], sent := some 0 }, partner4 1 0 { id := 3, what := .modbusRequest, partner := 9, port := 3, binds := [4], sent := some 0 }, (partner4 1 0 { id := 3, what := .modbusRequest, partner := 9, port := 3, binds := [4], sent := some 0 } : State).advance ({} : At), ((((partner4 1 0 { id := 3, what := .modbusRequest, partner := 9, port := 3, binds := [4], sent := some 0 } : State).advance ({} : At) : State).rxTake ({ id := 3, what := .modbusRequest, partner := 9, port := 3, binds := [4], sent := some 0 } : Outstanding).port).heard ({ id := 3, what := .modbusRequest, partner := 9, port := 3, binds := [4], sent := some 0 } : Outstanding).partner).closeRequest 3, rfl, by decide +kernel, by decide +kernel, rfl⟩,
    ⟨{}, 3, { id := 3, what := .modbusRequest, partner := 9, port := 3, binds := [4], retries := 255, sent := some 0 }, partner4 1 0 { id := 3, what := .modbusRequest, partner := 9, port := 3, binds := [4], retries := 255, sent := some 0 }, (partner4 1 0 { id := 3, what := .modbusRequest, partner := 9, port := 3, binds := [4], retries := 255, sent := some 0 } : State).advance ({} : At), rfl, by decide +kernel, by decide +kernel⟩,
    ⟨{}, 3, 2, 0, 8, 0, [], [0,0,0,0,0,0,0,0], ((withCfg liv [(Fid.LINE_PROTOCOL,3,3)] : State).advance ({} : At) : State).rxTake 5, withCfg liv [(Fid.LINE_PROTOCOL,3,3)], (withCfg liv [(Fid.LINE_PROTOCOL,3,3)] : State).advance ({} : At), rfl, by decide +kernel, by decide +kernel, by decide +kernel, by decide +kernel, by decide +kernel⟩,
    ⟨{}, 3, 2, 31, 2, 0, 2, [], withCfg liv [(Fid.LINE_PROTOCOL,3,3)], (withCfg liv [(Fid.LINE_PROTOCOL,3,3)] : State).advance ({} : At), rfl, by decide +kernel, by decide +kernel, by decide +kernel, by decide +kernel, by decide +kernel⟩⟩

theorem witness_GuardsOfTheSafeClimate :
    (∃ (a : At) (z : Nat) (hot : Bool) (s : State) (t : State), t = s.advance a ∧ t.rdy Rdy.config = true ∧ t.present z = true ∧ ((t.policy.get z).guardRun hot).on = false ∧ (t.guardLimit hot).isSome = true ∧ t.cfgN Fid.SCP_DELAY ≤ ((t.policy.get z).guardRun hot).run) ∧
    (∃ (a : At) (z : Nat) (hot : Bool) (s : State) (t : State), t = s.advance a ∧ t.rdy Rdy.config = true ∧ ((t.policy.get z).guardRun hot).on = true ∧ (t.guardLimit hot = none ∨ t.cfgN Fid.SCP_DELAY ≤ ((t.policy.get z).guardRun hot).run ∧ t.cfgN Fid.SCP_MIN_ON ≤ t.engagedTurns ((t.policy.get z).guardRun hot))) ∧
    (∃ (a : At) (z : Nat) (hot : Bool) (s : State) (t : State), t = s.advance a ∧ t.rdy Rdy.config = true ∧ ((t.policy.get z).guardRun hot).on = true ∧ t.cfgN Fid.SCP_BLIND_LIMIT ≠ 0 ∧ (t.policy.get z).blind = true ∧ t.cfgN Fid.SCP_BLIND_LIMIT ≤ (t.policy.get z).blindTurns) :=
  ⟨⟨{}, 0, false, { withCfg zoned [(Fid.SCP_FROST,0,500)] with policy := Tbl.set [] 0 { frost := { run := 100000 } } }, ({ withCfg zoned [(Fid.SCP_FROST,0,500)] with policy := Tbl.set [] 0 { frost := { run := 100000 } } } : State).advance ({} : At), rfl, by decide +kernel, by decide +kernel, by decide +kernel, by decide +kernel, by decide +kernel⟩,
    ⟨{}, 0, false, { zoned with policy := Tbl.set [] 0 { frost := { on := true, run := 100000, since := 0 } }, mer.stamp := mkStamp 5000000 0 }, ({ zoned with policy := Tbl.set [] 0 { frost := { on := true, run := 100000, since := 0 } }, mer.stamp := mkStamp 5000000 0 } : State).advance ({} : At), rfl, by decide +kernel, by decide +kernel, by decide +kernel⟩,
    ⟨{}, 0, false, { withCfg zoned [(Fid.SCP_BLIND_LIMIT,0,100)] with policy := Tbl.set [] 0 { frost := { on := true }, blind := true, blindTurns := 100 } }, ({ withCfg zoned [(Fid.SCP_BLIND_LIMIT,0,100)] with policy := Tbl.set [] 0 { frost := { on := true }, blind := true, blindTurns := 100 } } : State).advance ({} : At), rfl, by decide +kernel, by decide +kernel, by decide +kernel, by decide +kernel, by decide +kernel⟩⟩

theorem witness_ZoneOperations :
    (∃ (a : At) (r : Req) (s : State) (t : State), t = s.advance a ∧ Safety.Asks false 13 0 r t ∧ r.target < 256 ∧ t.present r.target = true ∧ t.rdy Rdy.helm = true) ∧
    (∃ (a : At) (r : Req) (s : State) (t : State), t = s.advance a ∧ Safety.Asks false 13 0 r t ∧ t.sigTarget r = true ∧ t.present (zoneOf r) = true ∧ t.rdy Rdy.helm = true ∧ (t.rights r.session = .expert ∨ sigOf r / 16 ≠ 4 ∧ noBasic (t.sigKind (zoneOf r) (sigOf r)) = false)) ∧
    (∃ (a : At) (r : Req) (kind : Nat) (v : Option Word32) (s : State) (t : State), t = s.advance a ∧ Safety.Asks false 13 8 r t ∧ Safety.Holds t ∧ t.sigTarget r = true ∧ t.present (zoneOf r) = true ∧ t.rdy Rdy.helm = true ∧ allZero (r.payload.drop 4) = true ∧ kind = t.sigKind (zoneOf r) (sigOf r) ∧ noBasic kind = false ∧ t.sigWritable (zoneOf r) (sigOf r) = true ∧ basicFits kind (fieldAt r.payload 0 4) = true ∧ sigOf r / 16 = 0 ∧ v = ofBasic kind (fieldAt r.payload 0 4)) ∧
    (∃ (a : At) (r : Req) (kind : Nat) (v : State × Option Word32) (s : State) (t : State), t = s.advance a ∧ Safety.Asks false 13 8 r t ∧ Safety.Holds t ∧ t.sigTarget r = true ∧ t.present (zoneOf r) = true ∧ t.rdy Rdy.helm = true ∧ allZero (r.payload.drop 4) = true ∧ kind = t.sigKind (zoneOf r) (sigOf r) ∧ noBasic kind = false ∧ t.sigWritable (zoneOf r) (sigOf r) = true ∧ basicFits kind (fieldAt r.payload 0 4) = true ∧ v = (Safety.accepted opSignalWrite r t t).writeSignal (zoneOf r) (sigOf r) (t.cfgN Fid.SVC_HOST_PRIORITY) (ofBasic kind (fieldAt r.payload 0 4))) ∧
    (∃ (a : At) (r : Req) (m : ZMode) (s : State) (t : State), t = s.advance a ∧ Safety.Asks false 13 4 r t ∧ Safety.Holds t ∧ r.target < 256 ∧ t.present r.target = true ∧ t.rdy Rdy.helm = true ∧ allZero (r.payload.drop 1) = true ∧ ZMode.ofCode (fieldAt r.payload 0 1) = some m ∧ m ≠ .sounding ∧ (t.zones.get r.target).mode ≠ .sounding) ∧
    (∃ (a : At) (r : Req) (m : ZMode) (s : State) (t : State), t = s.advance a ∧ Safety.Asks false 13 4 r t ∧ Safety.Holds t ∧ r.target < 256 ∧ t.present r.target = true ∧ t.rdy Rdy.helm = true ∧ allZero (r.payload.drop 1) = true ∧ ZMode.ofCode (fieldAt r.payload 0 1) = some m ∧ m ≠ .sounding ∧ m ≠ .holdSafe ∧ (t.zones.get r.target).mode = .sounding) ∧
    (∃ (a : At) (r : Req) (s : State) (t : State), t = s.advance a ∧ Safety.Asks false 13 4 r t ∧ Safety.Holds t ∧ r.target < 256 ∧ t.present r.target = true ∧ t.rdy Rdy.helm = true ∧ allZero (r.payload.drop 1) = true ∧ fieldAt r.payload 0 1 = 0 ∧ (t.zones.get r.target).mode = .sounding) ∧
    (∃ (a : At) (r : Req) (f : Nat) (i : Nat) (v : Word32) (s : State) (t : State), t = s.advance a ∧ Safety.Asks false r.fn 8 r t ∧ Safety.Holds t ∧ f = r.target / 65536 ∧ i = r.target % 65536 ∧ hostFields.contains (f, r.fn) = true ∧ (fieldRow f).any (fun x => x.dom.has i) = true ∧ t.rdy r.fn = true ∧ t.hostOwnerOn f i = true ∧ allZero (r.payload.drop 4) = true ∧ descKind (t.cfgN f i) = 7 ∧ v = BitVec.ofNat 32 (fieldAt r.payload 0 4) ∧ F32.isInf v = false) ∧
    (∃ (a : At) (r : Req) (s : State) (t : State), t = s.advance a ∧ Safety.Asks false 13 0 r t ∧ r.target < 256 ∧ t.present r.target = true ∧ t.rdy Rdy.helm = true ∧ t.cfgN Fid.OCC_ENABLE r.target ≠ 0 ∧ (t.occ.get r.target).stamp = 0) ∧
    (∃ (a : At) (r : Req) (o : Occ) (s : State) (t : State), t = s.advance a ∧ Safety.Asks false 13 0 r t ∧ r.target < 256 ∧ t.present r.target = true ∧ t.rdy Rdy.helm = true ∧ t.cfgN Fid.OCC_ENABLE r.target ≠ 0 ∧ o = t.occ.get r.target ∧ o.stamp ≠ 0) :=
  ⟨⟨{}, { fn := 13 }, zoned, zoned.advance ({} : At), rfl, asks_of (by decide +kernel), by decide +kernel, by decide +kernel, by decide +kernel⟩,
    ⟨{}, { fn := 13 }, zoned, zoned.advance ({} : At), rfl, asks_of (by decide +kernel), by decide +kernel, by decide +kernel, by decide +kernel, by decide +kernel⟩,
    ⟨{}, { fn := 13, payload := le 4 3 ++ le 4 0 }, ((withCfg zoned [(Fid.Y_SOURCE,0,7 * 2 ^ 28),(Fid.Y_KIND,0,1)] : State).advance ({} : At) : State).sigKind (zoneOf ({ fn := 13, payload := le 4 3 ++ le 4 0 } : Req)) (sigOf ({ fn := 13, payload := le 4 3 ++ le 4 0 } : Req)), ofBasic (((withCfg zoned [(Fid.Y_SOURCE,0,7 * 2 ^ 28),(Fid.Y_KIND,0,1)] : State).advance ({} : At) : State).sigKind (zoneOf ({ fn := 13, payload := le 4 3 ++ le 4 0 } : Req)) (sigOf ({ fn := 13, payload := le 4 3 ++ le 4 0 } : Req)) : Nat) (fieldAt ({ fn := 13, payload := le 4 3 ++ le 4 0 } : Req).payload 0 4), withCfg zoned [(Fid.Y_SOURCE,0,7 * 2 ^ 28),(Fid.Y_KIND,0,1)], (withCfg zoned [(Fid.Y_SOURCE,0,7 * 2 ^ 28),(Fid.Y_KIND,0,1)] : State).advance ({} : At), rfl, asks_of (by decide +kernel), ⟨by decide +kernel, by decide +kernel⟩, by decide +kernel, by decide +kernel, by decide +kernel, by decide +kernel, rfl, by decide +kernel, by decide +kernel, by decide +kernel, by decide +kernel, rfl⟩,
    ⟨{}, { fn := 13, payload := le 4 3 ++ le 4 0 }, ((withCfg zoned [(Fid.Y_SOURCE,0,7 * 2 ^ 28),(Fid.Y_KIND,0,1)] : State).advance ({} : At) : State).sigKind (zoneOf ({ fn := 13, payload := le 4 3 ++ le 4 0 } : Req)) (sigOf ({ fn := 13, payload := le 4 3 ++ le 4 0 } : Req)), (Safety.accepted opSignalWrite ({ fn := 13, payload := le 4 3 ++ le 4 0 } : Req) ((withCfg zoned [(Fid.Y_SOURCE,0,7 * 2 ^ 28),(Fid.Y_KIND,0,1)] : State).advance ({} : At) : State) ((withCfg zoned [(Fid.Y_SOURCE,0,7 * 2 ^ 28),(Fid.Y_KIND,0,1)] : State).advance ({} : At) : State)).writeSignal (zoneOf ({ fn := 13, payload := le 4 3 ++ le 4 0 } : Req)) (sigOf ({ fn := 13, payload := le 4 3 ++ le 4 0 } : Req)) (((withCfg zoned [(Fid.Y_SOURCE,0,7 * 2 ^ 28),(Fid.Y_KIND,0,1)] : State).advance ({} : At) : State).cfgN Fid.SVC_HOST_PRIORITY) (ofBasic (((withCfg zoned [(Fid.Y_SOURCE,0,7 * 2 ^ 28),(Fid.Y_KIND,0,1)] : State).advance ({} : At) : State).sigKind (zoneOf ({ fn := 13, payload := le 4 3 ++ le 4 0 } : Req)) (sigOf ({ fn := 13, payload := le 4 3 ++ le 4 0 } : Req)) : Nat) (fieldAt ({ fn := 13, payload := le 4 3 ++ le 4 0 } : Req).payload 0 4)), withCfg zoned [(Fid.Y_SOURCE,0,7 * 2 ^ 28),(Fid.Y_KIND,0,1)], (withCfg zoned [(Fid.Y_SOURCE,0,7 * 2 ^ 28),(Fid.Y_KIND,0,1)] : State).advance ({} : At), rfl, asks_of (by decide +kernel), ⟨by decide +kernel, by decide +kernel⟩, by decide +kernel, by decide +kernel, by decide +kernel, by decide +kernel, rfl, by decide +kernel, by decide +kernel, by decide +kernel, rfl⟩,
    ⟨{}, { fn := 13, payload := le 4 1 }, .auto, zoned, zoned.advance ({} : At), rfl, asks_of (by decide +kernel), ⟨by decide +kernel, by decide +kernel⟩, by decide +kernel, by decide +kernel, by decide +kernel, by decide +kernel, by decide +kernel, by decide +kernel, by decide +kernel⟩,
    ⟨{}, { fn := 13, payload := le 4 1 }, .auto, { zoned with zones := Tbl.set [] 0 { mode := .sounding } }, ({ zoned with zones := Tbl.set [] 0 { mode := .sounding } } : State).advance ({} : At), rfl, asks_of (by decide +kernel), ⟨by decide +kernel, by decide +kernel⟩, by decide +kernel, by decide +kernel, by decide +kernel, by decide +kernel, by decide +kernel, by decide +kernel, by decide +kernel, by decide +kernel⟩,
    ⟨{}, { fn := 13, payload := le 4 0 }, { zoned with zones := Tbl.set [] 0 { mode := .sounding, deferredMode := some .auto } }, ({ zoned with zones := Tbl.set [] 0 { mode := .sounding, deferredMode := some .auto } } : State).advance ({} : At), rfl, asks_of (by decide +kernel), ⟨by decide +kernel, by decide +kernel⟩, by decide +kernel, by decide +kernel, by decide +kernel, by decide +kernel, by decide +kernel, by decide +kernel⟩,
    ⟨{}, { fn := 13, target := Fid.OCC_AIRFLOW * 65536, payload := le 4 0x3F800000 ++ le 4 0 }, ({ fn := 13, target := Fid.OCC_AIRFLOW * 65536, payload := le 4 0x3F800000 ++ le 4 0 } : Req).target / 65536, ({ fn := 13, target := Fid.OCC_AIRFLOW * 65536, payload := le 4 0x3F800000 ++ le 4 0 } : Req).target % 65536, 0x3F800000, withCfg zoned [(Fid.OCC_AIRFLOW,0,7 * 2 ^ 28),(Fid.OCC_ENABLE,0,1)], (withCfg zoned [(Fid.OCC_AIRFLOW,0,7 * 2 ^ 28),(Fid.OCC_ENABLE,0,1)] : State).advance ({} : At), rfl, asks_of (by decide +kernel), ⟨by decide +kernel, by decide +kernel⟩, rfl, rfl, by decide +kernel, by decide +kernel, by decide +kernel, by decide +kernel, by decide +kernel, by decide +kernel, by decide +kernel, by decide +kernel⟩,
    ⟨{}, { fn := 13 }, withCfg zoned [(Fid.OCC_ENABLE,0,1)], (withCfg zoned [(Fid.OCC_ENABLE,0,1)] : State).advance ({} : At), rfl, asks_of (by decide +kernel), by decide +kernel, by decide +kernel, by decide +kernel, by decide +kernel, by decide +kernel⟩,
    ⟨{}, { fn := 13 }, (({ withCfg zoned [(Fid.OCC_ENABLE,0,1)] with occ := Tbl.set [] 0 { stamp := 5, persons := 0x40000000, prob := 0x3F000000 } } : State).advance ({} : At) : State).occ.get ({ fn := 13 } : Req).target, { withCfg zoned [(Fid.OCC_ENABLE,0,1)] with occ := Tbl.set [] 0 { stamp := 5, persons := 0x40000000, prob := 0x3F000000 } }, ({ withCfg zoned [(Fid.OCC_ENABLE,0,1)] with occ := Tbl.set [] 0 { stamp := 5, persons := 0x40000000, prob := 0x3F000000 } } : State).advance ({} : At), rfl, asks_of (by decide +kernel), by decide +kernel, by decide +kernel, by decide +kernel, by decide +kernel, rfl, by decide +kernel⟩⟩

theorem witness_BankOperations :
    (∃ (a : At) (r : Req) (k : Nat) (n : Nat) (s : State) (t : State), t = s.advance a ∧ Safety.Commands false 13 8 r t ∧ bankRange r = true ∧ blockTarget r.target = some (k, n) ∧ t.blockOn k n = true ∧ t.rdy Rdy.helm = true) ∧
    (∃ (a : At) (r : Req) (k : Nat) (n : Nat) (s : State) (t : State), t = s.advance a ∧ Safety.Commands false 13 (8 + 4 * fieldAt r.payload 4 2) r t ∧ Safety.Holds t ∧ bankRange r = true ∧ blockTarget r.target = some (k, n) ∧ t.blockOn k n = true ∧ t.rdy Rdy.helm = true ∧ ((wordsOf (r.payload.drop 8)).zipIdx).all (fun x => wordAllowed k (fieldAt r.payload 2 2 / 4 + x.2) x.1) = true ∧ (fieldAt r.payload 0 1 ≠ 1 ∨ t.queueEmpty = false)) ∧
    (∃ (a : At) (r : Req) (k : Nat) (n : Nat) (s : State) (t : State), t = s.advance a ∧ Safety.Commands false 13 (8 + 4 * fieldAt r.payload 4 2) r t ∧ Safety.Holds t ∧ bankRange r = true ∧ blockTarget r.target = some (k, n) ∧ t.blockOn k n = true ∧ t.rdy Rdy.helm = true ∧ ((wordsOf (r.payload.drop 8)).zipIdx).all (fun x => wordAllowed k (fieldAt r.payload 2 2 / 4 + x.2) x.1) = true ∧ fieldAt r.payload 0 1 = 1 ∧ t.queueEmpty = true) ∧
    (∃ (a : At) (r : Req) (s : State) (t : State), t = s.advance a ∧ Safety.Commands false 13 0 r t ∧ Safety.Holds t ∧ r.target = 0x00020000 ∧ t.rdy Rdy.helm = true) ∧
    (∃ (a : At) (r : Req) (s : State) (t : State), t = s.advance a ∧ Safety.Commands false 13 0 r t ∧ Safety.Holds t ∧ r.target = 0x00020000 ∧ t.rdy Rdy.helm = true) ∧
    (∃ (a : At) (r : Req) (k : Nat) (n : Nat) (s : State) (t : State), t = s.advance a ∧ Safety.Commands false 13 0 r t ∧ blockTarget r.target = some (k, n) ∧ k ≤ 1 ∧ t.blockOn k n = true ∧ t.rdy Rdy.helm = true) ∧
    (∃ (a : At) (s : State) (t : State), t = s.advance a ∧ t.helm.copying.isSome = true) ∧
    (∃ (a : At) (r : Req) (s : State) (t : State), t = s.advance a ∧ Safety.Commands false 13 0 r t ∧ r.target < 256 ∧ t.blockOn 0 r.target = false ∧ t.rdy Rdy.helm = true) ∧
    (∃ (a : At) (s : State) (t : State), t = s.advance a ∧ t.grain = 0 ∧ (t.helm.changed = true ∧ t.turn % 64 = 0 ∨ t.helm.saveRefused = true ∧ t.turn % 4096 = 0) ∧ t.rdy Rdy.nvstore = true ∧ t.rdy Rdy.services = true ∧ t.nv.good = true) ∧
    (∃ (a : At) (s : State) (t : State) (n : Nv), t = s.advance a ∧ t.grain = 0 ∧ t.helm.changed = true ∧ t.turn % 64 = 0 ∧ t.rdy Rdy.nvstore = true ∧ t.rdy Rdy.services = true ∧ t.nv.good = true ∧ t.bankSize ≤ 448 * 1024 ∧ t.nv.putSet 0x0010 (t.nv.nextGen 0x0010) t.bankMembers = some n) ∧
    (∃ (a : At) (s : State) (t : State), t = s.advance a ∧ (t.grain ≠ 0 ∨ t.turn % 64 ≠ 0 ∨ t.rdy Rdy.nvstore = false ∨ t.rdy Rdy.services = false ∨ t.nv.good = false ∨ t.helm.changed = false ∧ t.helm.saveRefused = false)) ∧
    (∃ (a : At) (s : State) (t : State), t = s.advance a ∧ t.rdy Rdy.nvstore = true ∧ t.rdy Rdy.config = true ∧ t.rdy Rdy.helm = false ∧ t.helmProgram = true) ∧
    (∃ (a : At) (s : State) (t : State), t = s.advance a ∧ t.helmProgram = false) :=
  ⟨⟨{}, { fn := 13, payload := [0, 0, 0x7C, 0x0A, 1, 0, 0, 0] }, 0, 0, zoned, zoned.advance ({} : At), rfl, commands_of (by decide +kernel), by decide +kernel, by decide +kernel, by decide +kernel, by decide +kernel⟩,
    ⟨{}, { fn := 13, payload := [0, 0, 0, 0, 1, 0, 0, 0] ++ le 4 0x3F800000 }, 0, 0, zoned, zoned.advance ({} : At), rfl, commands_of (by decide +kernel), ⟨by decide +kernel, by decide +kernel⟩, by decide +kernel, by decide +kernel, by decide +kernel, by decide +kernel, by decide +kernel, by decide +kernel⟩,
    ⟨{}, { fn := 13, payload := [1, 0, 0, 0, 1, 0, 0, 0] ++ le 4 0x3F800000 }, 0, 0, zoned, zoned.advance ({} : At), rfl, commands_of (by decide +kernel), ⟨by decide +kernel, by decide +kernel⟩, by decide +kernel, by decide +kernel, by decide +kernel, by decide +kernel, by decide +kernel, by decide +kernel, by decide +kernel⟩,
    ⟨{}, { fn := 13, target := 0x20000 }, liv, liv.advance ({} : At), rfl, commands_of (by decide +kernel), ⟨by decide +kernel, by decide +kernel⟩, by decide +kernel, by decide +kernel⟩,
    ⟨{}, { fn := 13, target := 0x20000 }, liv, liv.advance ({} : At), rfl, commands_of (by decide +kernel), ⟨by decide +kernel, by decide +kernel⟩, by decide +kernel, by decide +kernel⟩,
    ⟨{}, { fn := 13 }, 0, 0, { zoned with zones := Tbl.set [] 0 { diverged := true } }, ({ zoned with zones := Tbl.set [] 0 { diverged := true } } : State).advance ({} : At), rfl, commands_of (by decide +kernel), by decide +kernel, by decide +kernel, by decide +kernel, by decide +kernel⟩,
    ⟨{}, { liv with helm.copying := some ({}, none) }, ({ liv with helm.copying := some ({}, none) } : State).advance ({} : At), rfl, by decide +kernel⟩,
    ⟨{}, { fn := 13 }, liv, liv.advance ({} : At), rfl, commands_of (by decide +kernel), by decide +kernel, by decide +kernel, by decide +kernel⟩,
    ⟨{}, { liv with helm.changed := true, mer.stamp := mkStamp 4160 0 }, ({ liv with helm.changed := true, mer.stamp := mkStamp 4160 0 } : State).advance ({} : At), rfl, by decide +kernel, by decide +kernel, by decide +kernel, by decide +kernel, by decide +kernel⟩,
    ⟨{}, { zoned with helm := { changed := true, bank0 := { zones := [(0, 0x3F800000)] } }, mer.stamp := mkStamp 4096 0 }, ({ zoned with helm := { changed := true, bank0 := { zones := [(0, 0x3F800000)] } }, mer.stamp := mkStamp 4096 0 } : State).advance ({} : At), ((({ zoned with helm := { changed := true, bank0 := { zones := [(0, 0x3F800000)] } }, mer.stamp := mkStamp 4096 0 } : State).advance ({} : At) : State).nv.putSet 0x0010 ((({ zoned with helm := { changed := true, bank0 := { zones := [(0, 0x3F800000)] } }, mer.stamp := mkStamp 4096 0 } : State).advance ({} : At) : State).nv.nextGen 0x0010) (({ zoned with helm := { changed := true, bank0 := { zones := [(0, 0x3F800000)] } }, mer.stamp := mkStamp 4096 0 } : State).advance ({} : At) : State).bankMembers).get!, rfl, by decide +kernel, by decide +kernel, by decide +kernel, by decide +kernel, by decide +kernel, by decide +kernel, by decide +kernel, by decide +kernel⟩,
    ⟨{}, { liv with helm.changed := true, mer.stamp := mkStamp 4097 0 }, ({ liv with helm.changed := true, mer.stamp := mkStamp 4097 0 } : State).advance ({} : At), rfl, by decide +kernel⟩,
    ⟨{}, low { zoned with helm.program := true } [Rdy.helm], (low { zoned with helm.program := true } [Rdy.helm] : State).advance ({} : At), rfl, by decide +kernel, by decide +kernel, by decide +kernel, by decide +kernel⟩,
    ⟨{}, low { zoned with bin.autopilot := true, bin.failures := 3 } [Rdy.helm], (low { zoned with bin.autopilot := true, bin.failures := 3 } [Rdy.helm] : State).advance ({} : At), rfl, by decide +kernel⟩⟩

theorem witness_SlotAndForceOperations :
    (∃ (a : At) (r : Req) (e : EvSlot) (s : State) (t : State), t = s.advance a ∧ Safety.Commands false 4 0 r t ∧ r.target < 512 ∧ t.rdy Rdy.meridian = true ∧ e = t.mer.slots.get r.target) ∧
    (∃ (a : At) (r : Req) (w : SlotWords) (s : State) (t : State), t = s.advance a ∧ Safety.Commands false 4 16 r t ∧ Safety.Holds t ∧ w = slotOfPayload r.payload ∧ 64 ≤ r.target ∧ r.target < 512 ∧ w.kind ≤ 2 ∧ w.whenFits = true ∧ w.action < 12 ∧ w.targetFits = true ∧ t.hostAction w = true ∧ t.rdy Rdy.meridian = true ∧ ((t.mer.slots.get r.target).owner = .free ∨ (t.mer.slots.get r.target).owner = .host)) ∧
    (∃ (a : At) (r : Req) (s : State) (t : State), t = s.advance a ∧ Safety.Commands false (6 + groupOf r.target) 8 r t ∧ Safety.Holds t ∧ r.target < 32 ∧ t.rdy (Rdy.fg (groupOf r.target)) = true ∧ fieldAt r.payload 0 1 ≤ 2 ∧ allZero ((r.payload.drop 1).take 3) = true ∧ t.chIsOut r.target = true ∧ 1 ≤ fieldAt r.payload 0 1 ∧ t.overrideWaits Dest.field r.target = false) ∧
    (∃ (a : At) (r : Req) (s : State) (t : State), t = s.advance a ∧ Safety.Commands false (6 + groupOf r.target) 8 r t ∧ Safety.Holds t ∧ r.target < 32 ∧ t.rdy (Rdy.fg (groupOf r.target)) = true ∧ fieldAt r.payload 0 1 ≤ 2 ∧ allZero ((r.payload.drop 1).take 3) = true ∧ t.chIsOut r.target = true ∧ fieldAt r.payload 0 1 = 0) ∧
    (∃ (a : At) (r : Req) (s : State) (t : State), t = s.advance a ∧ Safety.Commands false (6 + groupOf r.target) 8 r t ∧ Safety.Holds t ∧ r.target < 32 ∧ t.rdy (Rdy.fg (groupOf r.target)) = true ∧ fieldAt r.payload 0 1 ≤ 2 ∧ allZero ((r.payload.drop 1).take 3) = true ∧ t.chIsOut r.target = true ∧ 1 ≤ fieldAt r.payload 0 1 ∧ t.overrideWaits Dest.field r.target = true) ∧
    (∃ (a : At) (r : Req) (s : State) (t : State), t = s.advance a ∧ Safety.Commands false 11 8 r t ∧ Safety.Holds t ∧ r.target < 8 ∧ t.rdy Rdy.ao = true ∧ fieldAt r.payload 0 1 ≤ 1 ∧ fieldAt r.payload 1 1 = 0 ∧ fieldAt r.payload 2 2 ≤ 10000 ∧ t.cfgN Fid.AO_ROLE r.target = 1 ∧ 1 ≤ fieldAt r.payload 0 1 ∧ t.overrideWaits Dest.ao r.target = false) ∧
    (∃ (a : At) (r : Req) (s : State) (t : State), t = s.advance a ∧ Safety.Commands false 11 8 r t ∧ Safety.Holds t ∧ r.target < 8 ∧ t.rdy Rdy.ao = true ∧ fieldAt r.payload 0 1 ≤ 1 ∧ fieldAt r.payload 1 1 = 0 ∧ fieldAt r.payload 2 2 ≤ 10000 ∧ t.cfgN Fid.AO_ROLE r.target = 1 ∧ fieldAt r.payload 0 1 = 0) ∧
    (∃ (a : At) (r : Req) (s : State) (t : State), t = s.advance a ∧ Safety.Commands false 11 8 r t ∧ Safety.Holds t ∧ r.target < 8 ∧ t.rdy Rdy.ao = true ∧ fieldAt r.payload 0 1 ≤ 1 ∧ fieldAt r.payload 1 1 = 0 ∧ fieldAt r.payload 2 2 ≤ 10000 ∧ t.cfgN Fid.AO_ROLE r.target = 1 ∧ 1 ≤ fieldAt r.payload 0 1 ∧ t.overrideWaits Dest.ao r.target = true) ∧
    (∃ (a : At) (r : Req) (s : State) (t : State), t = s.advance a ∧ Safety.Commands false 12 8 r t ∧ Safety.Holds t ∧ r.target < 8 ∧ t.rdy Rdy.ago = true ∧ fieldAt r.payload 0 1 ≤ 1 ∧ fieldAt r.payload 1 1 = 0 ∧ 2 ≤ t.cfgN Fid.AGO_MODE r.target ∧ 1 ≤ fieldAt r.payload 0 1 ∧ t.overrideWaits Dest.ago r.target = false) ∧
    (∃ (a : At) (r : Req) (s : State) (t : State), t = s.advance a ∧ Safety.Commands false 12 8 r t ∧ Safety.Holds t ∧ r.target < 8 ∧ t.rdy Rdy.ago = true ∧ fieldAt r.payload 0 1 ≤ 1 ∧ fieldAt r.payload 1 1 = 0 ∧ 2 ≤ t.cfgN Fid.AGO_MODE r.target ∧ fieldAt r.payload 0 1 = 0) ∧
    (∃ (a : At) (r : Req) (s : State) (t : State), t = s.advance a ∧ Safety.Commands false 12 8 r t ∧ Safety.Holds t ∧ r.target < 8 ∧ t.rdy Rdy.ago = true ∧ fieldAt r.payload 0 1 ≤ 1 ∧ fieldAt r.payload 1 1 = 0 ∧ 2 ≤ t.cfgN Fid.AGO_MODE r.target ∧ 1 ≤ fieldAt r.payload 0 1 ∧ t.overrideWaits Dest.ago r.target = true) :=
  ⟨⟨{}, { fn := 4, target := 40 }, ((slotS 9 : State).advance ({} : At) : State).mer.slots.get ({ fn := 4, target := 40 } : Req).target, slotS 9, (slotS 9 : State).advance ({} : At), rfl, commands_of (by decide +kernel), by decide +kernel, by decide +kernel, rfl⟩,
    ⟨{}, { fn := 4, target := 64, payload := le 4 (2 ^ 31 + 9 * 2 ^ 24 + 7) ++ le 12 1 }, slotOfPayload (le 4 (2 ^ 31 + 9 * 2 ^ 24 + 7) ++ le 12 1), liv, liv.advance ({} : At), rfl, commands_of (by decide +kernel), ⟨by decide +kernel, by decide +kernel⟩, by decide +kernel, by decide +kernel, by decide +kernel, by decide +kernel, by decide +kernel, by decide +kernel, by decide +kernel, by decide +kernel, by decide +kernel, by decide +kernel⟩,
    ⟨{}, { fn := 9, target := 31, payload := le 4 2 ++ le 4 100 }, chan { role := 3 } {}, (chan { role := 3 } {} : State).advance ({} : At), rfl, commands_of (by decide +kernel), ⟨by decide +kernel, by decide +kernel⟩, by decide +kernel, by decide +kernel, by decide +kernel, by decide +kernel, by decide +kernel, by decide +kernel, by decide +kernel⟩,
    ⟨{}, { fn := 9, target := 31, payload := le 8 0 }, { chan { role := 3 } {} with fld.owns := Tbl.set [] 31 { force := some { value := 10000 } } }, ({ chan { role := 3 } {} with fld.owns := Tbl.set [] 31 { force := some { value := 10000 } } } : State).advance ({} : At), rfl, commands_of (by decide +kernel), ⟨by decide +kernel, by decide +kernel⟩, by decide +kernel, by decide +kernel, by decide +kernel, by decide +kernel, by decide +kernel, by decide +kernel⟩,
    ⟨{}, { fn := 9, target := 31, payload := le 4 2 ++ le 4 100 }, { chan { role := 3 } {} with cfg.values := (withCfg zoned [(Fid.U_DEST0,0,Dest.field * 2 ^ 28 + 31)]).cfg.values }, ({ chan { role := 3 } {} with cfg.values := (withCfg zoned [(Fid.U_DEST0,0,Dest.field * 2 ^ 28 + 31)]).cfg.values } : State).advance ({} : At), rfl, commands_of (by decide +kernel), ⟨by decide +kernel, by decide +kernel⟩, by decide +kernel, by decide +kernel, by decide +kernel, by decide +kernel, by decide +kernel, by decide +kernel, by decide +kernel⟩,
    ⟨{}, { fn := 11, target := 7, payload := le 2 1 ++ le 2 10000 ++ le 4 100 }, withCfg liv [(Fid.AO_ROLE,7,1)], (withCfg liv [(Fid.AO_ROLE,7,1)] : State).advance ({} : At), rfl, commands_of (by decide +kernel), ⟨by decide +kernel, by decide +kernel⟩, by decide +kernel, by decide +kernel, by decide +kernel, by decide +kernel, by decide +kernel, by decide +kernel, by decide +kernel, by decide +kernel⟩,
    ⟨{}, { fn := 11, target := 7, payload := le 2 0 ++ le 2 10000 ++ le 4 100 }, withCfg { liv with out.ao := Tbl.set [] 7 { force := some { value := 10000 } } } [(Fid.AO_ROLE,7,1)], (withCfg { liv with out.ao := Tbl.set [] 7 { force := some { value := 10000 } } } [(Fid.AO_ROLE,7,1)] : State).advance ({} : At), rfl, commands_of (by decide +kernel), ⟨by decide +kernel, by decide +kernel⟩, by decide +kernel, by decide +kernel, by decide +kernel, by decide +kernel, by decide +kernel, by decide +kernel, by decide +kernel⟩,
    ⟨{}, { fn := 11, target := 7, payload := le 2 1 ++ le 2 10000 ++ le 4 100 }, withCfg zoned [(Fid.AO_ROLE,7,1),(Fid.U_DEST0,0,Dest.ao * 2 ^ 28 + 7)], (withCfg zoned [(Fid.AO_ROLE,7,1),(Fid.U_DEST0,0,Dest.ao * 2 ^ 28 + 7)] : State).advance ({} : At), rfl, commands_of (by decide +kernel), ⟨by decide +kernel, by decide +kernel⟩, by decide +kernel, by decide +kernel, by decide +kernel, by decide +kernel, by decide +kernel, by decide +kernel, by decide +kernel, by decide +kernel⟩,
    ⟨{}, { fn := 12, target := 7, payload := le 2 1 ++ le 2 10000 ++ le 4 100 }, withCfg liv [(Fid.AGO_MODE,7,2)], (withCfg liv [(Fid.AGO_MODE,7,2)] : State).advance ({} : At), rfl, commands_of (by decide +kernel), ⟨by decide +kernel, by decide +kernel⟩, by decide +kernel, by decide +kernel, by decide +kernel, by decide +kernel, by decide +kernel, by decide +kernel, by decide +kernel⟩,
    ⟨{}, { fn := 12, target := 7, payload := le 2 0 ++ le 2 10000 ++ le 4 100 }, withCfg { liv with out.ago := Tbl.set [] 7 { force := some { value := 10000 } } } [(Fid.AGO_MODE,7,2)], (withCfg { liv with out.ago := Tbl.set [] 7 { force := some { value := 10000 } } } [(Fid.AGO_MODE,7,2)] : State).advance ({} : At), rfl, commands_of (by decide +kernel), ⟨by decide +kernel, by decide +kernel⟩, by decide +kernel, by decide +kernel, by decide +kernel, by decide +kernel, by decide +kernel, by decide +kernel⟩,
    ⟨{}, { fn := 12, target := 7, payload := le 2 1 ++ le 2 10000 ++ le 4 100 }, withCfg zoned [(Fid.AGO_MODE,7,2),(Fid.U_DEST0,0,Dest.ago * 2 ^ 28 + 7)], (withCfg zoned [(Fid.AGO_MODE,7,2),(Fid.U_DEST0,0,Dest.ago * 2 ^ 28 + 7)] : State).advance ({} : At), rfl, commands_of (by decide +kernel), ⟨by decide +kernel, by decide +kernel⟩, by decide +kernel, by decide +kernel, by decide +kernel, by decide +kernel, by decide +kernel, by decide +kernel, by decide +kernel⟩⟩

theorem witness_InputAndOutputReads :
    (∃ (a : At) (r : Req) (u : Ui) (s : State) (t : State), t = s.advance a ∧ Safety.Asks false 10 0 r t ∧ r.target < 16 ∧ t.cfgN Fid.UI_TYPE r.target ≠ 0 ∧ u = t.inp.ui.get r.target) ∧
    (∃ (a : At) (r : Req) (x : Recipe) (s : State) (t : State), t = s.advance a ∧ Safety.Asks false 24 0 r t ∧ r.target < 64 ∧ t.cfgN Fid.I2C_BUS r.target ≠ 0 ∧ t.cfgN Fid.I2C_FROM r.target = 255 ∧ x = t.inp.recipes.get r.target) ∧
    (∃ (a : At) (r : Req) (x : Recipe) (m : Nat) (s : State) (t : State), t = s.advance a ∧ Safety.Asks false 24 0 r t ∧ r.target < 64 ∧ t.cfgN Fid.I2C_BUS r.target ≠ 0 ∧ t.cfgN Fid.I2C_FROM r.target = m ∧ m ≠ 255 ∧ x = t.inp.recipes.get r.target) ∧
    (∃ (a : At) (r : Req) (c : ChIn) (s : State) (t : State), t = s.advance a ∧ Safety.Asks false (6 + groupOf r.target) 0 r t ∧ r.target < 32 ∧ t.chRole r.target ≠ 0 ∧ c = t.fld.ins.get r.target) ∧
    (∃ (a : At) (r : Req) (o : Group) (got : List Edge) (frm : Nat) (end_ : Nat) (oldest : Nat) (s : State) (t : State), t = s.advance a ∧ Safety.Asks false (6 + r.target / 8) 8 r t ∧ r.target < 32 ∧ r.target % 8 = 0 ∧ (1 ≤ fieldAt r.payload 4 2 ∧ fieldAt r.payload 4 2 ≤ 250) ∧ allZero (r.payload.drop 6) = true ∧ o = t.fld.groups.get (r.target / 8) ∧ frm = fieldAt r.payload 0 4 ∧ end_ = (o.ringSeq + 1) % 2 ^ 32 ∧ oldest = (o.ring.head?.map (fun e => e.seq)).getD end_ ∧ got = (o.ring.filter (fun e => e.seq == frm || newer 32 e.seq frm)).take (fieldAt r.payload 4 2)) ∧
    (∃ (a : At) (r : Req) (o : Ao) (s : State) (t : State), t = s.advance a ∧ Safety.Asks false 11 0 r t ∧ r.target < 8 ∧ t.cfgN Fid.AO_ROLE r.target ≠ 0 ∧ o = t.out.ao.get r.target) ∧
    (∃ (a : At) (r : Req) (o : Ago) (m : Nat) (s : State) (t : State), t = s.advance a ∧ Safety.Asks false 12 0 r t ∧ r.target < 8 ∧ m = t.cfgN Fid.AGO_MODE r.target ∧ m ≠ 0 ∧ o = t.out.ago.get r.target) ∧
    (∃ (a : At) (r : Req) (p : Nat) (x : Port) (s : State) (t : State), t = s.advance a ∧ Safety.Asks false r.fn 0 r t ∧ [17, 18, 19, 20, 21, 22, 23].contains r.fn = true ∧ statusPort r.fn r.target = some p ∧ t.portOff p = false ∧ x = t.bus.ports.get (if r.fn = 18 then 7 else p)) ∧
    (∃ (a : At) (r : Req) (got : List Nat) (next : Nat) (s : State) (t : State), t = s.advance a ∧ Safety.Asks false 16 4 r t ∧ r.target = 0 ∧ fieldAt r.payload 0 2 < 2048 ∧ (1 ≤ fieldAt r.payload 2 2 ∧ fieldAt r.payload 2 2 ≤ 126) ∧ got = ((t.bus.partners.keys).filter (fun i => decide (fieldAt r.payload 0 2 ≤ i))).take (fieldAt r.payload 2 2) ∧ next = (got.getLast?.map (fun i => i + 1)).getD 2048) ∧
    (∃ (a : At) (r : Req) (x : Bind) (s : State) (t : State), t = s.advance a ∧ Safety.Asks false 16 0 r t ∧ r.target < 8192 ∧ x = t.bus.binds.get r.target ∧ x.inForce = true) :=
  ⟨⟨{}, { fn := 10, target := 15 }, ((withCfg { liv with inp.ui := Tbl.set [] 15 { typ := 1, discarded := true, value := some 0x41A00000, stamp := 9 } } [(Fid.UI_TYPE,15,1)] : State).advance ({} : At) : State).inp.ui.get ({ fn := 10, target := 15 } : Req).target, withCfg { liv with inp.ui := Tbl.set [] 15 { typ := 1, discarded := true, value := some 0x41A00000, stamp := 9 } } [(Fid.UI_TYPE,15,1)], (withCfg { liv with inp.ui := Tbl.set [] 15 { typ := 1, discarded := true, value := some 0x41A00000, stamp := 9 } } [(Fid.UI_TYPE,15,1)] : State).advance ({} : At), rfl, asks_of (by decide +kernel), by decide +kernel, by decide +kernel, rfl⟩,
    ⟨{}, { fn := 24, target := 63 }, ((withCfg { liv with inp.recipes := Tbl.set [] 63 { fails := 3, buffer := [1,2] } } [(Fid.I2C_BUS,63,1)] : State).advance ({} : At) : State).inp.recipes.get ({ fn := 24, target := 63 } : Req).target, withCfg { liv with inp.recipes := Tbl.set [] 63 { fails := 3, buffer := [1,2] } } [(Fid.I2C_BUS,63,1)], (withCfg { liv with inp.recipes := Tbl.set [] 63 { fails := 3, buffer := [1,2] } } [(Fid.I2C_BUS,63,1)] : State).advance ({} : At), rfl, asks_of (by decide +kernel), by decide +kernel, by decide +kernel, by decide +kernel, rfl⟩,
    ⟨{}, { fn := 24, target := 63 }, ((withCfg { liv with inp.recipes := Tbl.set [] 62 { fails := 3, buffer := [1,2] } } [(Fid.I2C_BUS,63,1),(Fid.I2C_FROM,63,62)] : State).advance ({} : At) : State).inp.recipes.get ({ fn := 24, target := 63 } : Req).target, 62, withCfg { liv with inp.recipes := Tbl.set [] 62 { fails := 3, buffer := [1,2] } } [(Fid.I2C_BUS,63,1),(Fid.I2C_FROM,63,62)], (withCfg { liv with inp.recipes := Tbl.set [] 62 { fails := 3, buffer := [1,2] } } [(Fid.I2C_BUS,63,1),(Fid.I2C_FROM,63,62)] : State).advance ({} : At), rfl, asks_of (by decide +kernel), by decide +kernel, by decide +kernel, by decide +kernel, by decide +kernel, rfl⟩,
    ⟨{}, { fn := 9, target := 31 }, ((withCfg (chS liv 31 { role := 1, state := true, edgeLost := true } { darkFail := true } {}) [(Fid.FC_ROLE,31,1)] : State).advance ({} : At) : State).fld.ins.get ({ fn := 9, target := 31 } : Req).target, withCfg (chS liv 31 { role := 1, state := true, edgeLost := true } { darkFail := true } {}) [(Fid.FC_ROLE,31,1)], (withCfg (chS liv 31 { role := 1, state := true, edgeLost := true } { darkFail := true } {}) [(Fid.FC_ROLE,31,1)] : State).advance ({} : At), rfl, asks_of (by decide +kernel), by decide +kernel, by decide +kernel, rfl⟩,
    ⟨{}, { fn := 9, target := 24, payload := le 4 1 ++ le 4 250 }, ((chS liv 31 {} {} { ring := [{ seq := 5 }, { seq := 6, channel := 31 }] } : State).advance ({} : At) : State).fld.groups.get (({ fn := 9, target := 24, payload := le 4 1 ++ le 4 250 } : Req).target / 8), [{ seq := 5 }, { seq := 6, channel := 31 }], fieldAt ({ fn := 9, target := 24, payload := le 4 1 ++ le 4 250 } : Req).payload 0 4, ((((chS liv 31 {} {} { ring := [{ seq := 5 }, { seq := 6, channel := 31 }] } : State).advance ({} : At) : State).fld.groups.get (({ fn := 9, target := 24, payload := le 4 1 ++ le 4 250 } : Req).target / 8) : Group).ringSeq + 1) % 2 ^ 32, ((((chS liv 31 {} {} { ring := [{ seq := 5 }, { seq := 6, channel := 31 }] } : State).advance ({} : At) : State).fld.groups.get (({ fn := 9, target := 24, payload := le 4 1 ++ le 4 250 } : Req).target / 8) : Group).ring.head?.map (fun e => e.seq)).getD (((((chS liv 31 {} {} { ring := [{ seq := 5 }, { seq := 6, channel := 31 }] } : State).advance ({} : At) : State).fld.groups.get (({ fn := 9, target := 24, payload := le 4 1 ++ le 4 250 } : Req).target / 8) : Group).ringSeq + 1) % 2 ^ 32 : Nat), chS liv 31 {} {} { ring := [{ seq := 5 }, { seq := 6, channel := 31 }] }, (chS liv 31 {} {} { ring := [{ seq := 5 }, { seq := 6, channel := 31 }] } : State).advance ({} : At), rfl, asks_of (by decide +kernel), by decide +kernel, by decide +kernel, by decide +kernel, by decide +kernel, rfl, rfl, rfl, rfl, by decide +kernel⟩,
    ⟨{}, { fn := 11, target := 7 }, ((withCfg { liv with out.ao := Tbl.set [] 7 { watchdog := true, code := 500 } } [(Fid.AO_ROLE,7,1)] : State).advance ({} : At) : State).out.ao.get ({ fn := 11, target := 7 } : Req).target, withCfg { liv with out.ao := Tbl.set [] 7 { watchdog := true, code := 500 } } [(Fid.AO_ROLE,7,1)], (withCfg { liv with out.ao := Tbl.set [] 7 { watchdog := true, code := 500 } } [(Fid.AO_ROLE,7,1)] : State).advance ({} : At), rfl, asks_of (by decide +kernel), by decide +kernel, by decide +kernel, rfl⟩,
    ⟨{}, { fn := 12, target := 7 }, ((withCfg { liv with out.ago := Tbl.set [] 7 { watchdog := true, firing := 500 } } [(Fid.AGO_MODE,7,3)] : State).advance ({} : At) : State).out.ago.get ({ fn := 12, target := 7 } : Req).target, 3, withCfg { liv with out.ago := Tbl.set [] 7 { watchdog := true, firing := 500 } } [(Fid.AGO_MODE,7,3)], (withCfg { liv with out.ago := Tbl.set [] 7 { watchdog := true, firing := 500 } } [(Fid.AGO_MODE,7,3)] : State).advance ({} : At), rfl, asks_of (by decide +kernel), by decide +kernel, by decide +kernel, by decide +kernel, rfl⟩,
    ⟨{}, { fn := 18 }, 0, (({ liv with bus.ports := Tbl.set [] 7 { dropped := 4, framesIn := 3 } } : State).advance ({} : At) : State).bus.ports.get (if ({ fn := 18 } : Req).fn = 18 then 7 else 0), { liv with bus.ports := Tbl.set [] 7 { dropped := 4, framesIn := 3 } }, ({ liv with bus.ports := Tbl.set [] 7 { dropped := 4, framesIn := 3 } } : State).advance ({} : At), rfl, asks_of (by decide +kernel), by decide +kernel, by decide +kernel, by decide +kernel, rfl⟩,
    ⟨{}, { fn := 16, payload := le 4 (126 * 65536 + 2047) }, (((({ liv with bus.partners := Tbl.set [] 2047 { kind := 1, state := .identified } } : State).advance ({} : At) : State).bus.partners.keys).filter (fun i => decide (fieldAt ({ fn := 16, payload := le 4 (126 * 65536 + 2047) } : Req).payload 0 2 ≤ i))).take (fieldAt ({ fn := 16, payload := le 4 (126 * 65536 + 2047) } : Req).payload 2 2), 2048, { liv with bus.partners := Tbl.set [] 2047 { kind := 1, state := .identified } }, ({ liv with bus.partners := Tbl.set [] 2047 { kind := 1, state := .identified } } : State).advance ({} : At), rfl, asks_of (by decide +kernel), by decide +kernel, by decide +kernel, by decide +kernel, rfl, by decide +kernel⟩,
    ⟨{}, { fn := 16, target := 8191 }, (({ bound 0 0 with bus.binds := Tbl.set [] 8191 { inForce := true, writeFailed := true } } : State).advance ({} : At) : State).bus.binds.get ({ fn := 16, target := 8191 } : Req).target, { bound 0 0 with bus.binds := Tbl.set [] 8191 { inForce := true, writeFailed := true } }, ({ bound 0 0 with bus.binds := Tbl.set [] 8191 { inForce := true, writeFailed := true } } : State).advance ({} : At), rfl, asks_of (by decide +kernel), by decide +kernel, rfl, by decide +kernel⟩⟩

theorem witness_ServiceOperations :
    (∃ (a : At) (r : Req) (v : List Byte) (s : State) (t : State), t = s.advance a ∧ Safety.Asks false 16 8 r t ∧ t.rdy Rdy.services = true ∧ t.readProp r.target (fieldAt r.payload 0 4) (arrayIndex (fieldAt r.payload 4 4)) = .ok v) ∧
    (∃ (a : At) (r : Req) (e : BErr) (s : State) (t : State), t = s.advance a ∧ Safety.Asks false 16 8 r t ∧ t.rdy Rdy.services = true ∧ t.readProp r.target (fieldAt r.payload 0 4) (arrayIndex (fieldAt r.payload 4 4)) = .error e) ∧
    (∃ (a : At) (r : Req) (u : State) (x : WrRes) (s : State) (t : State), t = s.advance a ∧ Safety.Asks false 16 r.payload.length r t ∧ t.rdy Rdy.services = true ∧ Safety.Holds t ∧ 12 ≤ r.payload.length ∧ fieldAt r.payload 8 1 ≤ 16 ∧ allZero ((r.payload.drop 9).take 3) = true ∧ (Safety.accepted opSvcWriteProperty r t t).writeProp r.target (fieldAt r.payload 0 4) (arrayIndex (fieldAt r.payload 4 4)) (fieldAt r.payload 8 1) (r.payload.drop 12) = (u, x) ∧ x ≠ .status .storeFull ∧ x ≠ .status .nvBusy) ∧
    (∃ (a : At) (r : Req) (u : State) (st : Status) (s : State) (t : State), t = s.advance a ∧ Safety.Asks false 16 r.payload.length r t ∧ t.rdy Rdy.services = true ∧ Safety.Holds t ∧ 12 ≤ r.payload.length ∧ fieldAt r.payload 8 1 ≤ 16 ∧ allZero ((r.payload.drop 9).take 3) = true ∧ (Safety.accepted opSvcWriteProperty r t t).writeProp r.target (fieldAt r.payload 0 4) (arrayIndex (fieldAt r.payload 4 4)) (fieldAt r.payload 8 1) (r.payload.drop 12) = (u, .status st) ∧ (st = .storeFull ∨ st = .nvBusy)) ∧
    (∃ (a : At) (r : Req) (w : Int) (s : State) (t : State), t = s.advance a ∧ Safety.Asks false 16 16 r t ∧ t.rdy Rdy.services = true ∧ Safety.Holds t ∧ r.target = 0 ∧ allZero (r.payload.drop 10) = true ∧ t.wallNow = some w) ∧
    (∃ (a : At) (r : Req) (s : State) (t : State), t = s.advance a ∧ Safety.Asks false 16 0 r t ∧ t.rdy Rdy.services = true ∧ r.target = 0 ∧ t.svc.timeValid = false) ∧
    (∃ (a : At) (r : Req) (w : Int) (s : State) (t : State), t = s.advance a ∧ Safety.Asks false 16 0 r t ∧ t.rdy Rdy.services = true ∧ r.target = 0 ∧ t.svc.timeValid = true ∧ t.wallNow = some w) :=
  ⟨⟨{}, { fn := 16, target := 37748735, payload := le 4 62 ++ le 4 0xFFFFFFFF }, (match ((withCfg liv [(Fid.SVC_DEVICE_INSTANCE,0,5)] : State).advance ({} : At) : State).readProp 37748735 62 (arrayIndex 0xFFFFFFFF) with | .ok v => v | .error _ => []), withCfg liv [(Fid.SVC_DEVICE_INSTANCE,0,5)], (withCfg liv [(Fid.SVC_DEVICE_INSTANCE,0,5)] : State).advance ({} : At), rfl, asks_of (by decide +kernel), by decide +kernel, by decide +kernel⟩,
    ⟨{}, { fn := 16, target := 5, payload := le 4 77 ++ le 4 0xFFFFFFFF }, (match (liv.advance ({} : At) : State).readProp 5 77 (arrayIndex 0xFFFFFFFF) with | .ok v => default | .error e => e), liv, liv.advance ({} : At), rfl, asks_of (by decide +kernel), by decide +kernel, by decide +kernel⟩,
    ⟨{}, { fn := 16, target := 37748735, payload := le 4 119 ++ le 4 0xFFFFFFFF ++ le 4 16 ++ [0x31, 60] }, ((Safety.accepted opSvcWriteProperty ({ fn := 16, target := 37748735, payload := le 4 119 ++ le 4 0xFFFFFFFF ++ le 4 16 ++ [0x31, 60] } : Req) ((withCfg liv [(Fid.SVC_DEVICE_INSTANCE,0,5)] : State).advance ({} : At) : State) ((withCfg liv [(Fid.SVC_DEVICE_INSTANCE,0,5)] : State).advance ({} : At) : State)).writeProp ({ fn := 16, target := 37748735, payload := le 4 119 ++ le 4 0xFFFFFFFF ++ le 4 16 ++ [0x31, 60] } : Req).target (fieldAt ({ fn := 16, target := 37748735, payload := le 4 119 ++ le 4 0xFFFFFFFF ++ le 4 16 ++ [0x31, 60] } : Req).payload 0 4) (arrayIndex (fieldAt ({ fn := 16, target := 37748735, payload := le 4 119 ++ le 4 0xFFFFFFFF ++ le 4 16 ++ [0x31, 60] } : Req).payload 4 4)) (fieldAt ({ fn := 16, target := 37748735, payload := le 4 119 ++ le 4 0xFFFFFFFF ++ le 4 16 ++ [0x31, 60] } : Req).payload 8 1) (({ fn := 16, target := 37748735, payload := le 4 119 ++ le 4 0xFFFFFFFF ++ le 4 16 ++ [0x31, 60] } : Req).payload.drop 12)).1, ((Safety.accepted opSvcWriteProperty ({ fn := 16, target := 37748735, payload := le 4 119 ++ le 4 0xFFFFFFFF ++ le 4 16 ++ [0x31, 60] } : Req) ((withCfg liv [(Fid.SVC_DEVICE_INSTANCE,0,5)] : State).advance ({} : At) : State) ((withCfg liv [(Fid.SVC_DEVICE_INSTANCE,0,5)] : State).advance ({} : At) : State)).writeProp ({ fn := 16, target := 37748735, payload := le 4 119 ++ le 4 0xFFFFFFFF ++ le 4 16 ++ [0x31, 60] } : Req).target (fieldAt ({ fn := 16, target := 37748735, payload := le 4 119 ++ le 4 0xFFFFFFFF ++ le 4 16 ++ [0x31, 60] } : Req).payload 0 4) (arrayIndex (fieldAt ({ fn := 16, target := 37748735, payload := le 4 119 ++ le 4 0xFFFFFFFF ++ le 4 16 ++ [0x31, 60] } : Req).payload 4 4)) (fieldAt ({ fn := 16, target := 37748735, payload := le 4 119 ++ le 4 0xFFFFFFFF ++ le 4 16 ++ [0x31, 60] } : Req).payload 8 1) (({ fn := 16, target := 37748735, payload := le 4 119 ++ le 4 0xFFFFFFFF ++ le 4 16 ++ [0x31, 60] } : Req).payload.drop 12)).2, withCfg liv [(Fid.SVC_DEVICE_INSTANCE,0,5)], (withCfg liv [(Fid.SVC_DEVICE_INSTANCE,0,5)] : State).advance ({} : At), rfl, asks_of (by decide +kernel), by decide +kernel, ⟨by decide +kernel, by decide +kernel⟩, by decide +kernel, by decide +kernel, by decide +kernel, by decide +kernel, by decide +kernel, by decide +kernel⟩,
    ⟨{}, { fn := 16, target := 37748735, payload := le 4 119 ++ le 4 0xFFFFFFFF ++ le 4 16 ++ [0x31, 60] }, ((Safety.accepted opSvcWriteProperty ({ fn := 16, target := 37748735, payload := le 4 119 ++ le 4 0xFFFFFFFF ++ le 4 16 ++ [0x31, 60] } : Req) ((withCfg { liv with nv.good := false } [(Fid.SVC_DEVICE_INSTANCE,0,5)] : State).advance ({} : At) : State) ((withCfg { liv with nv.good := false } [(Fid.SVC_DEVICE_INSTANCE,0,5)] : State).advance ({} : At) : State)).writeProp ({ fn := 16, target := 37748735, payload := le 4 119 ++ le 4 0xFFFFFFFF ++ le 4 16 ++ [0x31, 60] } : Req).target (fieldAt ({ fn := 16, target := 37748735, payload := le 4 119 ++ le 4 0xFFFFFFFF ++ le 4 16 ++ [0x31, 60] } : Req).payload 0 4) (arrayIndex (fieldAt ({ fn := 16, target := 37748735, payload := le 4 119 ++ le 4 0xFFFFFFFF ++ le 4 16 ++ [0x31, 60] } : Req).payload 4 4)) (fieldAt ({ fn := 16, target := 37748735, payload := le 4 119 ++ le 4 0xFFFFFFFF ++ le 4 16 ++ [0x31, 60] } : Req).payload 8 1) (({ fn := 16, target := 37748735, payload := le 4 119 ++ le 4 0xFFFFFFFF ++ le 4 16 ++ [0x31, 60] } : Req).payload.drop 12)).1, .nvBusy, withCfg { liv with nv.good := false } [(Fid.SVC_DEVICE_INSTANCE,0,5)], (withCfg { liv with nv.good := false } [(Fid.SVC_DEVICE_INSTANCE,0,5)] : State).advance ({} : At), rfl, asks_of (by decide +kernel), by decide +kernel, ⟨by decide +kernel, by decide +kernel⟩, by decide +kernel, by decide +kernel, by decide +kernel, by decide +kernel, by decide +kernel⟩,
    ⟨{}, { fn := 16, payload := le 8 1700000000 ++ le 2 0x8000 ++ le 6 0 }, liv2.wallNow.get!, liv2, liv2.advance ({} : At), rfl, asks_of (by decide +kernel), by decide +kernel, ⟨by decide +kernel, by decide +kernel⟩, by decide +kernel, by decide +kernel, by decide +kernel⟩,
    ⟨{}, { fn := 16 }, liv2, liv2.advance ({} : At), rfl, asks_of (by decide +kernel), by decide +kernel, by decide +kernel, by decide +kernel⟩,
    ⟨{}, { fn := 16 }, liv2.wallNow.get!, { liv2 with svc.timeValid := true, svc.timeBase := 5 }, ({ liv2 with svc.timeValid := true, svc.timeBase := 5 } : State).advance ({} : At), rfl, asks_of (by decide +kernel), by decide +kernel, by decide +kernel, by decide +kernel, by decide +kernel⟩⟩

theorem witness_ConfigurationOperations :
    (∃ (a : At) (r : Req) (s : State) (t : State), t = s.advance a ∧ Safety.Asks true 2 0 r t ∧ t.rdy Rdy.nvstore = true ∧ t.cfg.pending.any (fun p => !p.atStart) = false ∧ r.target = 0) ∧
    (∃ (a : At) (r : Req) (s : State) (t : State), t = s.advance a ∧ Safety.Commands false 2 8 r t ∧ Safety.Holds t ∧ t.rdy Rdy.nvstore = true ∧ t.cfg.pending.any (fun p => !p.atStart) = false ∧ r.target < 4 ∧ fieldAt r.payload 4 4 = 0 ∧ t.nv.good = true ∧ (t.cfg.set r.target).state ≠ .active ∧ ((upTo 4).any (fun m => (t.cfg.set m).live && !newer 32 (fieldAt r.payload 0 4) (t.cfg.set m).generation)) = false) ∧
    (∃ (a : At) (r : Req) (s : State) (t : State), t = s.advance a ∧ Safety.Commands false 2 r.payload.length r t ∧ Safety.Holds t ∧ t.rdy Rdy.nvstore = true ∧ t.cfg.pending.any (fun p => !p.atStart) = false ∧ r.target < 4 ∧ 9 ≤ r.payload.length ∧ fieldAt r.payload 4 4 = 0 ∧ t.nv.good = true ∧ (t.cfg.set r.target).state = .staging ∧ fieldAt r.payload 0 4 + (r.payload.length - 8) ≤ 0x3FF00 ∧ t.nv.blocked (setBase r.target + fieldAt r.payload 0 4) (r.payload.length - 8) = false) ∧
    (∃ (a : At) (r : Req) (size : Nat) (s : State) (t : State), t = s.advance a ∧ Safety.Commands false 2 8 r t ∧ Safety.Holds t ∧ t.rdy Rdy.nvstore = true ∧ t.cfg.pending.any (fun p => !p.atStart) = false ∧ r.target < 4 ∧ t.nv.good = true ∧ (t.cfg.set r.target).state = .staging ∧ size = fieldAt r.payload 0 4 ∧ (32 ≤ size ∧ size ≤ 0x3FF00) ∧ t.nv.badIn (setBase r.target) size = [] ∧ crc32c (t.image r.target size) = fieldAt r.payload 4 4 ∧ headerOk (t.image r.target size) (t.cfg.set r.target).generation = true) ∧
    (∃ (a : At) (r : Req) (n : Nat) (k : Nat) (s : State) (t : State), t = s.advance a ∧ Safety.Asks true 2 8 r t ∧ t.rdy Rdy.nvstore = true ∧ t.cfg.pending.any (fun p => !p.atStart) = false ∧ r.target < 4 ∧ (1 ≤ fieldAt r.payload 4 2 ∧ fieldAt r.payload 4 2 ≤ 4048) ∧ fieldAt r.payload 6 2 = 0 ∧ n = min (fieldAt r.payload 4 2) (0x40000 - fieldAt r.payload 0 4) ∧ k = fieldAt r.payload 4 2 - n ∧ t.nv.badIn (setBase r.target + fieldAt r.payload 0 4) n = []) ∧
    (∃ (a : At) (r : Req) (es : List Clamp) (s : State) (t : State), t = s.advance a ∧ Safety.Asks true 2 8 r t ∧ t.rdy Rdy.nvstore = true ∧ t.cfg.pending.any (fun p => !p.atStart) = false ∧ r.target = 0 ∧ (1 ≤ fieldAt r.payload 2 2 ∧ fieldAt r.payload 2 2 ≤ 253) ∧ fieldAt r.payload 4 4 = 0 ∧ es = (t.cfg.report.drop (fieldAt r.payload 0 2)).take (fieldAt r.payload 2 2)) ∧
    (∃ (a : At) (r : Req) (s : State) (t : State), t = s.advance a ∧ Safety.Asks true 2 0 r t ∧ t.rdy Rdy.nvstore = true ∧ t.cfg.pending.any (fun p => !p.atStart) = false ∧ r.target < 1024) ∧
    (∃ (a : At) (r : Req) (s : State) (t : State), t = s.advance a ∧ Safety.Asks true 2 0 r t ∧ t.rdy Rdy.nvstore = true ∧ t.cfg.pending.any (fun p => !p.atStart) = true ∧ r.target = 0) ∧
    (∃ (a : At) (r : Req) (s : State) (t : State), t = s.advance a ∧ Safety.Commands false 2 8 r t ∧ t.rdy Rdy.nvstore = true ∧ t.cfg.pending.any (fun p => !p.atStart) = true ∧ Safety.Holds t ∧ r.target < 4 ∧ fieldAt r.payload 4 4 = 0) ∧
    (∃ (a : At) (r : Req) (s : State) (t : State), t = s.advance a ∧ Safety.Commands false 2 r.payload.length r t ∧ t.rdy Rdy.nvstore = true ∧ t.cfg.pending.any (fun p => !p.atStart) = true ∧ Safety.Holds t ∧ r.target < 4 ∧ 9 ≤ r.payload.length ∧ r.payload.length ≤ 4064 ∧ fieldAt r.payload 4 4 = 0) ∧
    (∃ (a : At) (r : Req) (s : State) (t : State), t = s.advance a ∧ Safety.Commands false 2 8 r t ∧ t.rdy Rdy.nvstore = true ∧ t.cfg.pending.any (fun p => !p.atStart) = true ∧ Safety.Holds t ∧ r.target < 4) ∧
    (∃ (a : At) (r : Req) (s : State) (t : State), t = s.advance a ∧ Safety.Asks true 2 8 r t ∧ t.rdy Rdy.nvstore = true ∧ t.cfg.pending.any (fun p => !p.atStart) = true ∧ r.target < 4 ∧ (1 ≤ fieldAt r.payload 4 2 ∧ fieldAt r.payload 4 2 ≤ 4048) ∧ fieldAt r.payload 6 2 = 0) ∧
    (∃ (a : At) (r : Req) (s : State) (t : State), t = s.advance a ∧ Safety.Asks true 2 8 r t ∧ t.rdy Rdy.nvstore = true ∧ t.cfg.pending.any (fun p => !p.atStart) = true ∧ r.target = 0 ∧ (1 ≤ fieldAt r.payload 2 2 ∧ fieldAt r.payload 2 2 ≤ 253) ∧ fieldAt r.payload 4 4 = 0) ∧
    (∃ (a : At) (r : Req) (s : State) (t : State), t = s.advance a ∧ Safety.Asks true 2 0 r t ∧ t.rdy Rdy.nvstore = true ∧ t.cfg.pending.any (fun p => !p.atStart) = true ∧ r.target < 1024) :=
  ⟨⟨{}, { fn := 2 }, liv, liv.advance ({} : At), rfl, asks_of (by decide +kernel), by decide +kernel, by decide +kernel, by decide +kernel⟩,
    ⟨{}, { fn := 2, target := 3, payload := le 4 9 ++ le 4 0 }, liv, liv.advance ({} : At), rfl, commands_of (by decide +kernel), ⟨by decide +kernel, by decide +kernel⟩, by decide +kernel, by decide +kernel, by decide +kernel, by decide +kernel, by decide +kernel, by decide +kernel, by decide +kernel⟩,
    ⟨{}, { fn := 2, target := 3, payload := le 4 0x3FEFF ++ le 4 0 ++ [1] }, { liv with cfg.setD := { state := .staging, generation := 9 } }, ({ liv with cfg.setD := { state := .staging, generation := 9 } } : State).advance ({} : At), rfl, commands_of (by decide +kernel), ⟨by decide +kernel, by decide +kernel⟩, by decide +kernel, by decide +kernel, by decide +kernel, by decide +kernel, by decide +kernel, by decide +kernel, by decide +kernel, by decide +kernel, by decide +kernel⟩,
    ⟨{}, { fn := 2, target := 3, payload := le 4 32 ++ le 4 (crc32c img) }, 32, { poke liv (setBase 3) img with cfg.setD := { state := .staging, generation := 9 } }, ({ poke liv (setBase 3) img with cfg.setD := { state := .staging, generation := 9 } } : State).advance ({} : At), rfl, commands_of (by decide +kernel), ⟨by decide +kernel, by decide +kernel⟩, by decide +kernel, by decide +kernel, by decide +kernel, by decide +kernel, by decide +kernel, by decide +kernel, by decide +kernel, by decide +kernel, by decide +kernel, by decide +kernel⟩,
    ⟨{}, { fn := 2, target := 3, payload := le 4 0 ++ le 2 4048 ++ le 2 0 }, min (fieldAt ({ fn := 2, target := 3, payload := le 4 0 ++ le 2 4048 ++ le 2 0 } : Req).payload 4 2) (0x40000 - fieldAt ({ fn := 2, target := 3, payload := le 4 0 ++ le 2 4048 ++ le 2 0 } : Req).payload 0 4), fieldAt ({ fn := 2, target := 3, payload := le 4 0 ++ le 2 4048 ++ le 2 0 } : Req).payload 4 2 - (min (fieldAt ({ fn := 2, target := 3, payload := le 4 0 ++ le 2 4048 ++ le 2 0 } : Req).payload 4 2) (0x40000 - fieldAt ({ fn := 2, target := 3, payload := le 4 0 ++ le 2 4048 ++ le 2 0 } : Req).payload 0 4) : Nat), poke liv (setBase 3) img, (poke liv (setBase 3) img : State).advance ({} : At), rfl, asks_of (by decide +kernel), by decide +kernel, by decide +kernel, by decide +kernel, by decide +kernel, by decide +kernel, rfl, rfl, by decide +kernel⟩,
    ⟨{}, { fn := 2, payload := le 2 0 ++ le 2 253 ++ le 4 0 }, ((({ liv with cfg.report := [{ field := 0x500, reason := 3 }] } : State).advance ({} : At) : State).cfg.report.drop (fieldAt ({ fn := 2, payload := le 2 0 ++ le 2 253 ++ le 4 0 } : Req).payload 0 2)).take (fieldAt ({ fn := 2, payload := le 2 0 ++ le 2 253 ++ le 4 0 } : Req).payload 2 2), { liv with cfg.report := [{ field := 0x500, reason := 3 }] }, ({ liv with cfg.report := [{ field := 0x500, reason := 3 }] } : State).advance ({} : At), rfl, asks_of (by decide +kernel), by decide +kernel, by decide +kernel, by decide +kernel, by decide +kernel, by decide +kernel, rfl⟩,
    ⟨{}, { fn := 2, target := 1023 }, { liv with nv.sheaf := [(1023, 5)] }, ({ liv with nv.sheaf := [(1023, 5)] } : State).advance ({} : At), rfl, asks_of (by decide +kernel), by decide +kernel, by decide +kernel, by decide +kernel⟩,
    ⟨{}, { fn := 2 }, { liv with cfg.pending := some { set := 3 } }, ({ liv with cfg.pending := some { set := 3 } } : State).advance ({} : At), rfl, asks_of (by decide +kernel), by decide +kernel, by decide +kernel, by decide +kernel⟩,
    ⟨{}, { fn := 2, target := 3, payload := le 4 9 ++ le 4 0 }, { liv with cfg.pending := some { set := 3 } }, ({ liv with cfg.pending := some { set := 3 } } : State).advance ({} : At), rfl, commands_of (by decide +kernel), by decide +kernel, by decide +kernel, ⟨by decide +kernel, by decide +kernel⟩, by decide +kernel, by decide +kernel⟩,
    ⟨{}, { fn := 2, target := 3, payload := le 4 0x3FEFF ++ le 4 0 ++ [1] }, { liv with cfg.pending := some { set := 3 } }, ({ liv with cfg.pending := some { set := 3 } } : State).advance ({} : At), rfl, commands_of (by decide +kernel), by decide +kernel, by decide +kernel, ⟨by decide +kernel, by decide +kernel⟩, by decide +kernel, by decide +kernel, by decide +kernel, by decide +kernel⟩,
    ⟨{}, { fn := 2, target := 3, payload := le 4 32 ++ le 4 0 }, { liv with cfg.pending := some { set := 3 } }, ({ liv with cfg.pending := some { set := 3 } } : State).advance ({} : At), rfl, commands_of (by decide +kernel), by decide +kernel, by decide +kernel, ⟨by decide +kernel, by decide +kernel⟩, by decide +kernel⟩,
    ⟨{}, { fn := 2, target := 3, payload := le 4 0 ++ le 2 4048 ++ le 2 0 }, { liv with cfg.pending := some { set := 3 } }, ({ liv with cfg.pending := some { set := 3 } } : State).advance ({} : At), rfl, asks_of (by decide +kernel), by decide +kernel, by decide +kernel, by decide +kernel, by decide +kernel, by decide +kernel⟩,
    ⟨{}, { fn := 2, payload := le 2 0 ++ le 2 253 ++ le 4 0 }, { liv with cfg.pending := some { set := 3 } }, ({ liv with cfg.pending := some { set := 3 } } : State).advance ({} : At), rfl, asks_of (by decide +kernel), by decide +kernel, by decide +kernel, by decide +kernel, by decide +kernel, by decide +kernel⟩,
    ⟨{}, { fn := 2 }, { liv with cfg.pending := some {} }, ({ liv with cfg.pending := some {} } : State).advance ({} : At), rfl, asks_of (by decide +kernel), by decide +kernel, by decide +kernel, by decide +kernel⟩⟩

theorem witness_SessionOperations :
    (∃ (a : At) (r : Req) (s : State) (t : State), t = s.advance a ∧ Safety.Asks true 0 0 r t ∧ t.rdy Rdy.binnacle = true ∧ r.target = 0) ∧
    (∃ (a : At) (r : Req) (s : State) (t : State), t = s.advance a ∧ Safety.Asks true 0 0 r t ∧ t.rdy Rdy.binnacle = true ∧ r.target = 0 ∧ t.mb.flights = []) ∧
    (∃ (a : At) (r : Req) (f : Flight) (s : State) (t : State), t = s.advance a ∧ Safety.Asks true 0 0 r t ∧ t.rdy Rdy.binnacle = true ∧ r.target = 0 ∧ f ∈ t.mb.flights ∧ f.rejected = false ∧ binnacleSide f.session = binnacleSide r.session ∧ f.order ≤ t.mb.orders) ∧
    (∃ (a : At) (r : Req) (s : State) (t : State), t = s.advance a ∧ Safety.Asks true 0 20 r t ∧ t.rdy Rdy.binnacle = true ∧ r.target = 0 ∧ (1 ≤ fieldAt r.payload 0 1 ∧ fieldAt r.payload 0 1 ≤ 2) ∧ allZero ((r.payload.drop 1).take 3) = true ∧ (t.keyOf (fieldAt r.payload 0 1)).isSome = true ∧ t.rdy Rdy.nvstore = true) ∧
    (∃ (a : At) (r : Req) (o : Opening) (key : List Byte) (s : State) (t : State), t = s.advance a ∧ Safety.Asks true 0 32 r t ∧ t.rdy Rdy.binnacle = true ∧ r.target = 0 ∧ (t.session r.session).opening = some o ∧ t.keyOf o.keyId = some key ∧ hmacSha256 key (proofText 0x50 r.session o) = r.payload ∧ t.rdy Rdy.nvstore = true) ∧
    (∃ (a : At) (r : Req) (s : State) (t : State), t = s.advance a ∧ Safety.Asks true 0 32 r t ∧ t.rdy Rdy.binnacle = true ∧ r.target = 0 ∧ (∀ o key, (t.session r.session).opening = some o → t.keyOf o.keyId = some key → hmacSha256 key (proofText 0x50 r.session o) ≠ r.payload) ∧ t.rdy Rdy.nvstore = true) ∧
    (∃ (a : At) (r : Req) (s : State) (t : State), t = s.advance a ∧ Safety.Asks true 0 0 r t ∧ t.rdy Rdy.binnacle = true ∧ r.target = 0) ∧
    (∃ (a : At) (r : Req) (object : Nat) (index : Nat) (st : Status) (u : State) (s : State) (t : State), t = s.advance a ∧ Safety.Commands true 0 r.payload.length r t ∧ t.rdy Rdy.binnacle = true ∧ r.target = 0 ∧ object = fieldAt r.payload 0 1 ∧ index = fieldAt r.payload 1 1 ∧ 4 ≤ r.payload.length ∧ secKnown object index = true ∧ allZero ((r.payload.drop 2).take 2) = true ∧ secFits object (r.payload.drop 4) = true ∧ t.nvTakes = true ∧ t.saveNow { typ := 7, key := object * 256 + index, payload := r.payload.drop 4, flags := if (r.payload.drop 4).isEmpty then 4 else 0 } = (st, u)) ∧
    (∃ (a : At) (r : Req) (s : State) (t : State), t = s.advance a ∧ Safety.Commands true 0 r.payload.length r t ∧ t.rdy Rdy.binnacle = true ∧ r.target = 0 ∧ 4 ≤ r.payload.length ∧ secKnown (fieldAt r.payload 0 1) (fieldAt r.payload 1 1) = true ∧ allZero ((r.payload.drop 2).take 2) = true ∧ secFits (fieldAt r.payload 0 1) (r.payload.drop 4) = true ∧ t.nvTakes = false) ∧
    (∃ (a : At) (r : Req) (object : Nat) (index : Nat) (d : List Byte) (s : State) (t : State), t = s.advance a ∧ Safety.Asks true 0 4 r t ∧ t.rdy Rdy.binnacle = true ∧ t.rdy Rdy.nvstore = true ∧ r.target = 0 ∧ object = fieldAt r.payload 0 1 ∧ index = fieldAt r.payload 1 1 ∧ secKnown object index = true ∧ allZero (r.payload.drop 2) = true ∧ t.secObject object index = some d) ∧
    (∃ (a : At) (r : Req) (object : Nat) (index : Nat) (s : State) (t : State), t = s.advance a ∧ Safety.Asks true 0 4 r t ∧ t.rdy Rdy.binnacle = true ∧ t.rdy Rdy.nvstore = true ∧ r.target = 0 ∧ object = fieldAt r.payload 0 1 ∧ index = fieldAt r.payload 1 1 ∧ secKnown object index = true ∧ allZero (r.payload.drop 2) = true ∧ t.secObject object index = none) ∧
    (∃ (a : At) (r : Req) (s : State) (t : State), t = s.advance a ∧ Safety.Asks false 16 0 r t ∧ r.target = 0) ∧
    (∃ (a : At) (r : Req) (first : Nat) (next : Nat) (js : List Nat) (s : State) (t : State), t = s.advance a ∧ Safety.Asks false 16 8 r t ∧ r.target = 0 ∧ (1 ≤ fieldAt r.payload 4 1 ∧ fieldAt r.payload 4 1 ≤ 63) ∧ allZero (r.payload.drop 5) = true ∧ first = t.evtFirst ∧ js = ((upTo t.mb.evtPosted).filter (fun j => !newer 32 (fieldAt r.payload 0 4) (seqAfter first j))).take (fieldAt r.payload 4 1) ∧ next = (js.getLast?.map (fun j => seqAfter first (j + 1))).getD (nextEventSeq t.mb.evtSeq).toNat) :=
  ⟨⟨{}, { fn := 0 }, liv, liv.advance ({} : At), rfl, asks_of (by decide +kernel), by decide +kernel, by decide +kernel⟩,
    ⟨{}, { fn := 0, session := 3 }, liv, liv.advance ({} : At), rfl, asks_of (by decide +kernel), by decide +kernel, by decide +kernel, by decide +kernel⟩,
    ⟨{}, { fn := 0, session := 2 }, { session := 3, tag := 9, order := 1 }, { liv with mb.flights := [{ session := 3, tag := 9, order := 1 }], mb.orders := 1 }, ({ liv with mb.flights := [{ session := 3, tag := 9, order := 1 }], mb.orders := 1 } : State).advance ({} : At), rfl, asks_of (by decide +kernel), by decide +kernel, by decide +kernel, by decide +kernel, by decide +kernel, by decide +kernel, by decide +kernel⟩,
    ⟨{}, { fn := 0, payload := le 4 1 ++ le 16 77 }, keyed, keyed.advance ({} : At), rfl, asks_of (by decide +kernel), by decide +kernel, by decide +kernel, by decide +kernel, by decide +kernel, by decide +kernel, by decide +kernel⟩,
    ⟨{}, { fn := 0, payload := hmacSha256 (List.replicate 32 7) (proofText 0x50 1 { keyId := 1, clientNonce := le 16 77, serverNonce := le 16 5 }) }, { keyId := 1, clientNonce := le 16 77, serverNonce := le 16 5 }, List.replicate 32 7, { keyed with mb.qspi := { opening := some { keyId := 1, clientNonce := le 16 77, serverNonce := le 16 5 } } }, ({ keyed with mb.qspi := { opening := some { keyId := 1, clientNonce := le 16 77, serverNonce := le 16 5 } } } : State).advance ({} : At), rfl, asks_of (by decide +kernel), by decide +kernel, by decide +kernel, by decide +kernel, by decide +kernel, by decide +kernel, by decide +kernel⟩,
    ⟨{}, { payload := List.replicate 32 0 }, liv, liv.advance ({} : At), rfl, asks_of (by decide +kernel), by decide +kernel, by decide +kernel, fun _ _ h => absurd (Eq.trans (c := none) h.symm (by decide +kernel)) (by simp), by decide +kernel⟩,
    ⟨{}, { fn := 0 }, { liv with mb.qspi := { proven := some .basic } }, ({ liv with mb.qspi := { proven := some .basic } } : State).advance ({} : At), rfl, asks_of (by decide +kernel), by decide +kernel, by decide +kernel⟩,
    ⟨{}, { fn := 0, payload := [0x10, 0, 0, 0] ++ List.replicate 32 7 }, fieldAt ({ fn := 0, payload := [0x10, 0, 0, 0] ++ List.replicate 32 7 } : Req).payload 0 1, fieldAt ({ fn := 0, payload := [0x10, 0, 0, 0] ++ List.replicate 32 7 } : Req).payload 1 1, .done, ((liv.advance ({} : At) : State).saveNow { typ := 7, key := 0x1000, payload := List.replicate 32 7 }).2, liv, liv.advance ({} : At), rfl, commands_of (by decide +kernel), by decide +kernel, by decide +kernel, rfl, rfl, by decide +kernel, by decide +kernel, by decide +kernel, by decide +kernel, by decide +kernel, by decide +kernel⟩,
    ⟨{}, { fn := 0, payload := [0x10, 0, 0, 0] ++ List.replicate 32 7 }, { liv with nv.good := false }, ({ liv with nv.good := false } : State).advance ({} : At), rfl, commands_of (by decide +kernel), by decide +kernel, by decide +kernel, by decide +kernel, by decide +kernel, by decide +kernel, by decide +kernel, by decide +kernel⟩,
    ⟨{}, { fn := 0, payload := [0x10, 0, 0, 0] }, fieldAt ({ fn := 0, payload := [0x10, 0, 0, 0] } : Req).payload 0 1, fieldAt ({ fn := 0, payload := [0x10, 0, 0, 0] } : Req).payload 1 1, List.replicate 32 7, keyed, keyed.advance ({} : At), rfl, asks_of (by decide +kernel), by decide +kernel, by decide +kernel, by decide +kernel, rfl, rfl, by decide +kernel, by decide +kernel, by decide +kernel⟩,
    ⟨{}, { fn := 0, payload := [3, 3, 0, 0] }, fieldAt ({ fn := 0, payload := [3, 3, 0, 0] } : Req).payload 0 1, fieldAt ({ fn := 0, payload := [3, 3, 0, 0] } : Req).payload 1 1, liv, liv.advance ({} : At), rfl, asks_of (by decide +kernel), by decide +kernel, by decide +kernel, by decide +kernel, rfl, rfl, by decide +kernel, by decide +kernel, by decide +kernel⟩,
    ⟨{}, { fn := 16 }, { liv with mb.evtSeq := 77 }, ({ liv with mb.evtSeq := 77 } : State).advance ({} : At), rfl, asks_of (by decide +kernel), by decide +kernel⟩,
    ⟨{}, { fn := 16, payload := le 4 0 ++ le 4 63 }, (({ liv with mb.evtSeq := 0xFFFFFFFF } : State).advance ({} : At) : State).evtFirst, ((((upTo (({ liv with mb.evtSeq := 0xFFFFFFFF } : State).advance ({} : At) : State).mb.evtPosted).filter (fun j => !newer 32 (fieldAt ({ fn := 16, payload := le 4 0 ++ le 4 63 } : Req).payload 0 4) (seqAfter ((({ liv with mb.evtSeq := 0xFFFFFFFF } : State).advance ({} : At) : State).evtFirst : Nat) j))).take (fieldAt ({ fn := 16, payload := le 4 0 ++ le 4 63 } : Req).payload 4 1) : List Nat).getLast?.map (fun j => seqAfter ((({ liv with mb.evtSeq := 0xFFFFFFFF } : State).advance ({} : At) : State).evtFirst : Nat) (j + 1))).getD (nextEventSeq (({ liv with mb.evtSeq := 0xFFFFFFFF } : State).advance ({} : At) : State).mb.evtSeq).toNat, ((upTo (({ liv with mb.evtSeq := 0xFFFFFFFF } : State).advance ({} : At) : State).mb.evtPosted).filter (fun j => !newer 32 (fieldAt ({ fn := 16, payload := le 4 0 ++ le 4 63 } : Req).payload 0 4) (seqAfter ((({ liv with mb.evtSeq := 0xFFFFFFFF } : State).advance ({} : At) : State).evtFirst : Nat) j))).take (fieldAt ({ fn := 16, payload := le 4 0 ++ le 4 63 } : Req).payload 4 1), { liv with mb.evtSeq := 0xFFFFFFFF }, ({ liv with mb.evtSeq := 0xFFFFFFFF } : State).advance ({} : At), rfl, asks_of (by decide +kernel), by decide +kernel, by decide +kernel, by decide +kernel, rfl, rfl, rfl⟩⟩

theorem witness_AlmanacAndLogOperations :
    (∃ (a : At) (r : Req) (m : Almanac) (s : State) (t : State), t = s.advance a ∧ Safety.Asks true 1 0 r t ∧ t.rdy Rdy.almanac = true ∧ r.target = 0 ∧ m = t.alm) ∧
    (∃ (a : At) (r : Req) (s : State) (t : State), t = s.advance a ∧ Safety.Commands true 1 8 r t ∧ t.rdy Rdy.almanac = true ∧ r.target = 0 ∧ allZero (r.payload.drop 6) = true) ∧
    (∃ (a : At) (r : Req) (v : Int) (s : State) (t : State), t = s.advance a ∧ Safety.Commands true 1 4 r t ∧ t.rdy Rdy.almanac = true ∧ r.target = 0 ∧ allZero (r.payload.drop 2) = true ∧ v = sext 16 (fieldAt r.payload 0 2) ∧ v.natAbs ≤ 536) ∧
    (∃ (a : At) (r : Req) (s : State) (t : State), t = s.advance a ∧ Safety.Commands true 1 12 r t ∧ t.rdy Rdy.almanac = true ∧ r.target = 0 ∧ fieldAt r.payload 0 1 ≤ 1 ∧ fieldAt r.payload 1 1 ≤ 1 ∧ allZero ((r.payload.drop 2).take 2) = true ∧ allZero (r.payload.drop 10) = true) ∧
    (∃ (a : At) (r : Req) (s : State) (t : State), t = s.advance a ∧ Safety.Asks true 1 4 r t ∧ t.rdy Rdy.almanac = true ∧ r.target = 0 ∧ 1 ≤ fieldAt r.payload 1 1 ∧ fieldAt r.payload 0 1 + fieldAt r.payload 1 1 ≤ 64 ∧ allZero (r.payload.drop 2) = true) ∧
    (∃ (a : At) (r : Req) (s : State) (t : State), t = s.advance a ∧ Safety.Commands true 1 (4 + fieldAt r.payload 1 1) r t ∧ t.rdy Rdy.almanac = true ∧ r.target = 0 ∧ fieldAt r.payload 0 1 + fieldAt r.payload 1 1 ≤ 64 ∧ allZero ((r.payload.drop 2).take 2) = true) ∧
    (∃ (a : At) (r : Req) (got : List (Nat × Nat)) (oldest : Nat) (next : Nat) (s : State) (t : State), t = s.advance a ∧ Safety.Asks true 3 16 r t ∧ t.rdy Rdy.logbook = true ∧ r.target = 0 ∧ allZero ((r.payload.drop 6).take 2) = true ∧ allZero (r.payload.drop 10) = true ∧ (1 ≤ fieldAt r.payload 8 2 ∧ fieldAt r.payload 8 2 ≤ 63) ∧ got = (t.log.held.filter (fun p => decide (fieldAt r.payload 0 6 ≤ p.1))).take (fieldAt r.payload 8 2) ∧ got.any (fun p => !(t.nv.badIn (logBase + p.2 * 64) 64).isEmpty) = false ∧ oldest = (t.log.held.head?.map (fun p => p.1)).getD t.log.nextSeq ∧ next = (got.getLast?.map (fun p => p.1 + 1)).getD t.log.nextSeq) ∧
    (∃ (a : At) (r : Req) (got : List (Nat × Nat)) (s : State) (t : State), t = s.advance a ∧ Safety.Asks true 3 16 r t ∧ t.rdy Rdy.logbook = true ∧ r.target = 0 ∧ allZero ((r.payload.drop 6).take 2) = true ∧ allZero (r.payload.drop 10) = true ∧ (1 ≤ fieldAt r.payload 8 2 ∧ fieldAt r.payload 8 2 ≤ 63) ∧ got = (t.log.held.filter (fun p => decide (fieldAt r.payload 0 6 ≤ p.1))).take (fieldAt r.payload 8 2) ∧ got.any (fun p => !(t.nv.badIn (logBase + p.2 * 64) 64).isEmpty) = true) ∧
    (∃ (a : At) (r : Req) (s : State) (t : State), t = s.advance a ∧ Safety.Commands true 3 8 r t ∧ t.rdy Rdy.logbook = true ∧ r.target = 0 ∧ allZero (r.payload.drop 6) = true ∧ fieldAt r.payload 0 6 < t.log.nextSeq ∧ fieldAt r.payload 0 6 ≤ t.bin.ackSeq) ∧
    (∃ (a : At) (r : Req) (b : Binnacle) (u : State) (s : State) (t : State), t = s.advance a ∧ Safety.Commands true 3 8 r t ∧ t.rdy Rdy.logbook = true ∧ r.target = 0 ∧ allZero (r.payload.drop 6) = true ∧ fieldAt r.payload 0 6 < t.log.nextSeq ∧ t.bin.ackSeq < fieldAt r.payload 0 6 ∧ b = { t.bin with ackSeq := fieldAt r.payload 0 6 } ∧ t.saveNow b.save = (.done, u)) ∧
    (∃ (a : At) (r : Req) (b : Binnacle) (st : Status) (u : State) (s : State) (t : State), t = s.advance a ∧ Safety.Commands true 3 8 r t ∧ t.rdy Rdy.logbook = true ∧ r.target = 0 ∧ allZero (r.payload.drop 6) = true ∧ fieldAt r.payload 0 6 < t.log.nextSeq ∧ t.bin.ackSeq < fieldAt r.payload 0 6 ∧ b = { t.bin with ackSeq := fieldAt r.payload 0 6 } ∧ t.saveNow b.save = (st, u) ∧ st ≠ .done) ∧
    (∃ (a : At) (r : Req) (got : List Concord) (next : Nat) (s : State) (t : State), t = s.advance a ∧ Safety.Asks true 4 8 r t ∧ t.rdy Rdy.meridian = true ∧ r.target = 0 ∧ (1 ≤ fieldAt r.payload 4 1 ∧ fieldAt r.payload 4 1 ≤ 64) ∧ allZero (r.payload.drop 5) = true ∧ got = (t.mer.concord.filter (fun p => p.seq == fieldAt r.payload 0 4 || newer 32 p.seq (fieldAt r.payload 0 4))).take (fieldAt r.payload 4 1) ∧ next = (got.getLast?.map (fun p => (p.seq + 1) % 2 ^ 32)).getD (t.mer.concordSeq + 1).toNat) :=
  ⟨⟨{}, { fn := 1 }, (({ liv with alm.count := 0x123456789ABC, alm.trim := -3, alm.alarm1 := { fired := true } } : State).advance ({} : At) : State).alm, { liv with alm.count := 0x123456789ABC, alm.trim := -3, alm.alarm1 := { fired := true } }, ({ liv with alm.count := 0x123456789ABC, alm.trim := -3, alm.alarm1 := { fired := true } } : State).advance ({} : At), rfl, asks_of (by decide +kernel), by decide +kernel, by decide +kernel, rfl⟩,
    ⟨{}, { fn := 1, payload := le 6 0xFFFFFFFFFFFF ++ le 2 0 }, liv, liv.advance ({} : At), rfl, commands_of (by decide +kernel), by decide +kernel, by decide +kernel, by decide +kernel⟩,
    ⟨{}, { fn := 1, payload := le 2 (65536 - 536) ++ le 2 0 }, -536, liv, liv.advance ({} : At), rfl, commands_of (by decide +kernel), by decide +kernel, by decide +kernel, by decide +kernel, by decide +kernel, by decide +kernel⟩,
    ⟨{}, { fn := 1, payload := [1, 1, 0, 0] ++ le 6 99999 ++ le 2 0 }, liv, liv.advance ({} : At), rfl, commands_of (by decide +kernel), by decide +kernel, by decide +kernel, by decide +kernel, by decide +kernel, by decide +kernel, by decide +kernel⟩,
    ⟨{}, { fn := 1, payload := [63, 1, 0, 0] }, { liv with alm.backup := Tbl.set [] 63 5 }, ({ liv with alm.backup := Tbl.set [] 63 5 } : State).advance ({} : At), rfl, asks_of (by decide +kernel), by decide +kernel, by decide +kernel, by decide +kernel, by decide +kernel, by decide +kernel⟩,
    ⟨{}, { fn := 1, payload := [60, 4, 0, 0, 1, 2, 3, 4] }, liv, liv.advance ({} : At), rfl, commands_of (by decide +kernel), by decide +kernel, by decide +kernel, by decide +kernel, by decide +kernel⟩,
    ⟨{}, { fn := 3, payload := le 8 0 ++ le 2 63 ++ le 6 0 }, ((logged.advance ({} : At) : State).log.held.filter (fun p => decide (fieldAt ({ fn := 3, payload := le 8 0 ++ le 2 63 ++ le 6 0 } : Req).payload 0 6 ≤ p.1))).take (fieldAt ({ fn := 3, payload := le 8 0 ++ le 2 63 ++ le 6 0 } : Req).payload 8 2), 1, 3, logged, logged.advance ({} : At), rfl, asks_of (by decide +kernel), by decide +kernel, by decide +kernel, by decide +kernel, by decide +kernel, by decide +kernel, rfl, by decide +kernel, by decide +kernel, by decide +kernel⟩,
    ⟨{}, { fn := 3, payload := le 8 0 ++ le 2 63 ++ le 6 0 }, ((({ logged with nv.badWords := [(logBase + 64) / 8] } : State).advance ({} : At) : State).log.held.filter (fun p => decide (fieldAt ({ fn := 3, payload := le 8 0 ++ le 2 63 ++ le 6 0 } : Req).payload 0 6 ≤ p.1))).take (fieldAt ({ fn := 3, payload := le 8 0 ++ le 2 63 ++ le 6 0 } : Req).payload 8 2), { logged with nv.badWords := [(logBase + 64) / 8] }, ({ logged with nv.badWords := [(logBase + 64) / 8] } : State).advance ({} : At), rfl, asks_of (by decide +kernel), by decide +kernel, by decide +kernel, by decide +kernel, by decide +kernel, by decide +kernel, rfl, by decide +kernel⟩,
    ⟨{}, { fn := 3, payload := le 8 2 }, { logged with bin.ackSeq := 2 }, ({ logged with bin.ackSeq := 2 } : State).advance ({} : At), rfl, commands_of (by decide +kernel), by decide +kernel, by decide +kernel, by decide +kernel, by decide +kernel, by decide +kernel⟩,
    ⟨{}, { fn := 3, payload := le 8 2 }, { (logged.advance ({} : At) : State).bin with ackSeq := fieldAt ({ fn := 3, payload := le 8 2 } : Req).payload 0 6 }, ((logged.advance ({} : At) : State).saveNow ({ (logged.advance ({} : At) : State).bin with ackSeq := 2 } : Binnacle).save).2, logged, logged.advance ({} : At), rfl, commands_of (by decide +kernel), by decide +kernel, by decide +kernel, by decide +kernel, by decide +kernel, by decide +kernel, rfl, by decide +kernel⟩,
    ⟨{}, { fn := 3, payload := le 8 2 }, { (({ logged with nv.good := false } : State).advance ({} : At) : State).bin with ackSeq := 2 }, .nvBusy, (({ logged with nv.good := false } : State).advance ({} : At) : State), { logged with nv.good := false }, ({ logged with nv.good := false } : State).advance ({} : At), rfl, commands_of (by decide +kernel), by decide +kernel, by decide +kernel, by decide +kernel, by decide +kernel, by decide +kernel, by decide +kernel, by decide +kernel, by decide +kernel⟩,
    ⟨{}, { fn := 4, payload := le 4 0xFFFFFFFF ++ le 4 64 }, ((({ liv with mer.concord := [{ seq := 0xFFFFFFFF, stamp := 5 }, { seq := 0 }], mer.concordSeq := 0 } : State).advance ({} : At) : State).mer.concord.filter (fun p => p.seq == fieldAt ({ fn := 4, payload := le 4 0xFFFFFFFF ++ le 4 64 } : Req).payload 0 4 || newer 32 p.seq (fieldAt ({ fn := 4, payload := le 4 0xFFFFFFFF ++ le 4 64 } : Req).payload 0 4))).take (fieldAt ({ fn := 4, payload := le 4 0xFFFFFFFF ++ le 4 64 } : Req).payload 4 1), 1, { liv with mer.concord := [{ seq := 0xFFFFFFFF, stamp := 5 }, { seq := 0 }], mer.concordSeq := 0 }, ({ liv with mer.concord := [{ seq := 0xFFFFFFFF, stamp := 5 }, { seq := 0 }], mer.concordSeq := 0 } : State).advance ({} : At), rfl, asks_of (by decide +kernel), by decide +kernel, by decide +kernel, by decide +kernel, by decide +kernel, rfl, by decide +kernel⟩⟩

theorem witness_FirmwareAndMaintenanceOperations :
    (∃ (a : At) (r : Req) (bin : Bool) (i : Nat) (s : State) (t : State), t = s.advance a ∧ Safety.Commands true 0 8 r t ∧ t.rdy Rdy.binnacle = true ∧ r.target = 0 ∧ fieldAt r.payload 0 1 ≤ 1 ∧ allZero ((r.payload.drop 1).take 3) = true ∧ bin = reqBin r ∧ fieldAt r.payload 4 4 ≤ imageMax bin ∧ t.bin.find bin .trial = none ∧ t.bin.free bin = some i ∧ t.nvTakes = true) ∧
    (∃ (a : At) (r : Req) (i : Nat) (s : State) (t : State), t = s.advance a ∧ Safety.Commands true 0 r.payload.length r t ∧ t.rdy Rdy.binnacle = true ∧ r.target = 0 ∧ 9 ≤ r.payload.length ∧ allZero ((r.payload.drop 4).take 4) = true ∧ t.writeSlot = some i ∧ t.bin.slot i = .writing ∧ t.nvTakes = true ∧ fieldAt r.payload 0 4 + (r.payload.length - 8) ≤ t.openSize) ∧
    (∃ (a : At) (r : Req) (i : Nat) (s : State) (t : State), t = s.advance a ∧ Safety.Commands true 0 r.payload.length r t ∧ t.rdy Rdy.binnacle = true ∧ r.target = 0 ∧ 9 ≤ r.payload.length ∧ allZero ((r.payload.drop 4).take 4) = true ∧ t.writeSlot = some i ∧ t.bin.slot i ≠ .writing ∧ t.nvTakes = true ∧ fieldAt r.payload 0 4 + (r.payload.length - 8) ≤ t.openSize) ∧
    (∃ (a : At) (r : Req) (i : Nat) (s : State) (t : State), t = s.advance a ∧ Safety.Commands true 0 4 r t ∧ t.rdy Rdy.binnacle = true ∧ r.target = 0 ∧ fieldAt r.payload 0 1 ≤ 1 ∧ allZero (r.payload.drop 1) = true ∧ t.bin.free (reqBin r) = some i) ∧
    (∃ (a : At) (r : Req) (s : State) (t : State), t = s.advance a ∧ Safety.Asks true 0 0 r t ∧ t.rdy Rdy.binnacle = true ∧ t.rdy Rdy.nvstore = true ∧ r.target = 0) ∧
    (∃ (a : At) (r : Req) (i : Nat) (s : State) (t : State), t = s.advance a ∧ Safety.Commands true 0 4 r t ∧ t.rdy Rdy.binnacle = true ∧ r.target = 0 ∧ fieldAt r.payload 0 1 = 0 ∧ allZero (r.payload.drop 1) = true ∧ t.bin.free false = some i ∧ (t.bin.slot i = .verified ∨ t.bin.slot i = .previous) ∧ t.nvTakes = true ∧ t.bin.failures < 3) ∧
    (∃ (a : At) (r : Req) (i : Nat) (s : State) (t : State), t = s.advance a ∧ Safety.Commands true 0 4 r t ∧ t.rdy Rdy.binnacle = true ∧ r.target = 0 ∧ fieldAt r.payload 0 1 = 0 ∧ allZero (r.payload.drop 1) = true ∧ t.bin.free false = some i ∧ (t.bin.slot i = .verified ∨ t.bin.slot i = .previous) ∧ t.nvTakes = true ∧ 3 ≤ t.bin.failures) ∧
    (∃ (a : At) (r : Req) (i : Nat) (s : State) (t : State), t = s.advance a ∧ Safety.Commands true 0 4 r t ∧ t.rdy Rdy.binnacle = true ∧ r.target = 0 ∧ fieldAt r.payload 0 1 = 1 ∧ allZero (r.payload.drop 1) = true ∧ t.bin.free true = some i ∧ (t.bin.slot i = .verified ∨ t.bin.slot i = .previous) ∧ t.nvTakes = true) ∧
    (∃ (a : At) (r : Req) (s : State) (t : State), t = s.advance a ∧ Safety.Commands true 0 4 r t ∧ t.rdy Rdy.binnacle = true ∧ r.target = 0 ∧ fieldAt r.payload 0 1 = 0 ∧ allZero (r.payload.drop 1) = true) ∧
    (∃ (a : At) (r : Req) (s : State) (t : State), t = s.advance a ∧ Safety.Commands true 0 4 r t ∧ t.rdy Rdy.binnacle = true ∧ r.target = 0 ∧ fieldAt r.payload 0 1 = 1 ∧ allZero (r.payload.drop 1) = true) ∧
    (∃ (a : At) (r : Req) (s : State) (t : State), t = s.advance a ∧ Safety.Commands true 0 8 r t ∧ t.rdy Rdy.binnacle = true ∧ r.target = 0 ∧ testKnown (fieldAt r.payload 0 2) (fieldAt r.payload 4 4) = true ∧ allZero ((r.payload.drop 2).take 2) = true ∧ testPassive (fieldAt r.payload 0 2) = true) ∧
    (∃ (a : At) (r : Req) (s : State) (t : State), t = s.advance a ∧ Safety.Commands true 0 8 r t ∧ t.rdy Rdy.binnacle = true ∧ r.target = 0 ∧ testKnown (fieldAt r.payload 0 2) (fieldAt r.payload 4 4) = true ∧ allZero ((r.payload.drop 2).take 2) = true ∧ testPassive (fieldAt r.payload 0 2) = false ∧ (t.peerHolds = false ∨ t.bin.selftest.isSome = true)) ∧
    (∃ (a : At) (r : Req) (s : State) (t : State), t = s.advance a ∧ Safety.Commands true 0 8 r t ∧ t.rdy Rdy.binnacle = true ∧ r.target = 0 ∧ testKnown (fieldAt r.payload 0 2) (fieldAt r.payload 4 4) = true ∧ allZero ((r.payload.drop 2).take 2) = true ∧ testPassive (fieldAt r.payload 0 2) = false ∧ t.peerHolds = true ∧ t.bin.selftest = none) ∧
    (∃ (a : At) (r : Req) (s : State) (t : State), t = s.advance a ∧ Safety.Asks true 0 0 r t ∧ t.rdy Rdy.binnacle = true ∧ r.target = 0) ∧
    (∃ (a : At) (r : Req) (s : State) (t : State), t = s.advance a ∧ Safety.Commands false 10 0 r t ∧ t.rdy Rdy.ui = true ∧ r.target < 4 ∧ t.calWaits r.target = false ∧ (t.inp.cores.get r.target).results = 0) ∧
    (∃ (a : At) (r : Req) (s : State) (t : State), t = s.advance a ∧ Safety.Commands false 10 0 r t ∧ t.rdy Rdy.ui = true ∧ r.target < 4 ∧ t.calWaits r.target = true) ∧
    (∃ (a : At) (r : Req) (s : State) (t : State), t = s.advance a ∧ Safety.Commands false 10 0 r t ∧ t.rdy Rdy.ui = true ∧ r.target < 4 ∧ t.calWaits r.target = false ∧ 0 < (t.inp.cores.get r.target).results) ∧
    (∃ (a : At) (r : Req) (s : State) (t : State), t = s.advance a ∧ Safety.Commands true (6 + groupOf r.target) 4 r t ∧ Safety.Holds t ∧ r.target < 32 ∧ t.rdy (Rdy.fg (groupOf r.target)) = true ∧ fieldAt r.payload 0 1 = 0 ∧ allZero (r.payload.drop 1) = true) ∧
    (∃ (a : At) (r : Req) (s : State) (t : State), t = s.advance a ∧ Safety.Commands true (6 + groupOf r.target) 4 r t ∧ Safety.Holds t ∧ r.target < 32 ∧ t.rdy (Rdy.fg (groupOf r.target)) = true ∧ fieldAt r.payload 0 1 = 1 ∧ allZero (r.payload.drop 1) = true) ∧
    (∃ (a : At) (r : Req) (p : Policy) (g : Guard) (v : Option Int) (s : State) (t : State), t = s.advance a ∧ Safety.Asks true 0 0 r t ∧ t.rdy Rdy.binnacle = true ∧ r.target < 256 ∧ t.present r.target = true ∧ p = t.policy.get r.target ∧ g = p.drives ∧ v = t.guardTemp r.target) :=
  ⟨⟨{}, { fn := 0, payload := le 4 1 ++ le 4 131072 }, true, 3, liv, liv.advance ({} : At), rfl, commands_of (by decide +kernel), by decide +kernel, by decide +kernel, by decide +kernel, by decide +kernel, by decide +kernel, by decide +kernel, by decide +kernel, by decide +kernel, by decide +kernel⟩,
    ⟨{}, { fn := 0, payload := le 4 98 ++ le 4 0 ++ [1, 2] }, 1, { liv with bin.slotB := .writing, bin.sizeSvc := 100 }, ({ liv with bin.slotB := .writing, bin.sizeSvc := 100 } : State).advance ({} : At), rfl, commands_of (by decide +kernel), by decide +kernel, by decide +kernel, by decide +kernel, by decide +kernel, by decide +kernel, by decide +kernel, by decide +kernel, by decide +kernel⟩,
    ⟨{}, { fn := 0, payload := le 4 98 ++ le 4 0 ++ [1, 2] }, 1, { liv with bin.slotB := .verified, bin.sizeSvc := 100 }, ({ liv with bin.slotB := .verified, bin.sizeSvc := 100 } : State).advance ({} : At), rfl, commands_of (by decide +kernel), by decide +kernel, by decide +kernel, by decide +kernel, by decide +kernel, by decide +kernel, by decide +kernel, by decide +kernel, by decide +kernel⟩,
    ⟨{}, { fn := 0, payload := le 4 0 }, 1, { liv with bin.slotB := .writing, bin.sizeSvc := 100 }, ({ liv with bin.slotB := .writing, bin.sizeSvc := 100 } : State).advance ({} : At), rfl, commands_of (by decide +kernel), by decide +kernel, by decide +kernel, by decide +kernel, by decide +kernel, by decide +kernel⟩,
    ⟨{}, { fn := 0 }, liv, liv.advance ({} : At), rfl, asks_of (by decide +kernel), by decide +kernel, by decide +kernel, by decide +kernel⟩,
    ⟨{}, { fn := 0, payload := le 4 0 }, 1, { liv with bin.slotB := .verified }, ({ liv with bin.slotB := .verified } : State).advance ({} : At), rfl, commands_of (by decide +kernel), by decide +kernel, by decide +kernel, by decide +kernel, by decide +kernel, by decide +kernel, by decide +kernel, by decide +kernel, by decide +kernel⟩,
    ⟨{}, { fn := 0, payload := le 4 0 }, 1, { liv with bin.slotB := .verified, bin.failures := 3 }, ({ liv with bin.slotB := .verified, bin.failures := 3 } : State).advance ({} : At), rfl, commands_of (by decide +kernel), by decide +kernel, by decide +kernel, by decide +kernel, by decide +kernel, by decide +kernel, by decide +kernel, by decide +kernel, by decide +kernel⟩,
    ⟨{}, { fn := 0, payload := le 4 1 }, 3, { liv with bin.bin1 := .verified }, ({ liv with bin.bin1 := .verified } : State).advance ({} : At), rfl, commands_of (by decide +kernel), by decide +kernel, by decide +kernel, by decide +kernel, by decide +kernel, by decide +kernel, by decide +kernel, by decide +kernel⟩,
    ⟨{}, { fn := 0, session := 2, payload := le 4 0 }, { liv with bin.failures := 3, bin.autopilot := true }, ({ liv with bin.failures := 3, bin.autopilot := true } : State).advance ({} : At), rfl, commands_of (by decide +kernel), by decide +kernel, by decide +kernel, by decide +kernel, by decide +kernel⟩,
    ⟨{}, { fn := 0, payload := le 4 1 }, liv, liv.advance ({} : At), rfl, commands_of (by decide +kernel), by decide +kernel, by decide +kernel, by decide +kernel, by decide +kernel⟩,
    ⟨{}, { fn := 0, payload := le 4 1 ++ le 4 0 }, liv, liv.advance ({} : At), rfl, commands_of (by decide +kernel), by decide +kernel, by decide +kernel, by decide +kernel, by decide +kernel, by decide +kernel⟩,
    ⟨{}, { fn := 0, payload := le 4 0x10 ++ le 4 0x3FF }, liv, liv.advance ({} : At), rfl, commands_of (by decide +kernel), by decide +kernel, by decide +kernel, by decide +kernel, by decide +kernel, by decide +kernel, by decide +kernel⟩,
    ⟨{}, { fn := 0, payload := le 4 0x10 ++ le 4 0x3FF }, pr .standby, (pr .standby : State).advance ({} : At), rfl, commands_of (by decide +kernel), by decide +kernel, by decide +kernel, by decide +kernel, by decide +kernel, by decide +kernel, by decide +kernel, by decide +kernel⟩,
    ⟨{}, { fn := 0 }, { liv with sen.stamp := 5, sen.temps := Tbl.set [] 3 { value := -100 } }, ({ liv with sen.stamp := 5, sen.temps := Tbl.set [] 3 { value := -100 } } : State).advance ({} : At), rfl, asks_of (by decide +kernel), by decide +kernel, by decide +kernel⟩,
    ⟨{}, { fn := 10, target := 3 }, liv, liv.advance ({} : At), rfl, commands_of (by decide +kernel), by decide +kernel, by decide +kernel, by decide +kernel, by decide +kernel⟩,
    ⟨{}, { fn := 10, target := 3 }, withCfg zoned [(Fid.Y_SOURCE,0,2 ^ 28 + 15)], (withCfg zoned [(Fid.Y_SOURCE,0,2 ^ 28 + 15)] : State).advance ({} : At), rfl, commands_of (by decide +kernel), by decide +kernel, by decide +kernel, by decide +kernel⟩,
    ⟨{}, { fn := 10, target := 3 }, { liv with inp.cores := Tbl.set [] 3 { results := 1 } }, ({ liv with inp.cores := Tbl.set [] 3 { results := 1 } } : State).advance ({} : At), rfl, commands_of (by decide +kernel), by decide +kernel, by decide +kernel, by decide +kernel, by decide +kernel⟩,
    ⟨{}, { fn := 9, target := 31, payload := le 4 0 }, chS liv 31 {} { latched := true, tripped := true, retries := 3 } {}, (chS liv 31 {} { latched := true, tripped := true, retries := 3 } {} : State).advance ({} : At), rfl, commands_of (by decide +kernel), ⟨by decide +kernel, by decide +kernel⟩, by decide +kernel, by decide +kernel, by decide +kernel, by decide +kernel⟩,
    ⟨{}, { fn := 9, target := 31, payload := le 4 1 }, chS liv 31 {} { latched := true, tripped := true, retries := 3 } { cut := true }, (chS liv 31 {} { latched := true, tripped := true, retries := 3 } { cut := true } : State).advance ({} : At), rfl, commands_of (by decide +kernel), ⟨by decide +kernel, by decide +kernel⟩, by decide +kernel, by decide +kernel, by decide +kernel, by decide +kernel⟩,
    ⟨{}, { fn := 0 }, (zoned.advance ({} : At) : State).policy.get ({ fn := 0 } : Req).target, ((zoned.advance ({} : At) : State).policy.get ({ fn := 0 } : Req).target : Policy).drives, (zoned.advance ({} : At) : State).guardTemp ({ fn := 0 } : Req).target, zoned, zoned.advance ({} : At), rfl, asks_of (by decide +kernel), by decide +kernel, by decide +kernel, by decide +kernel, rfl, rfl, rfl⟩⟩

theorem witness_SoundingOperationsAndEvents :
    (∃ (a : At) (r : Req) (area : Nat) (s : State) (t : State), t = s.advance a ∧ Safety.Commands false 15 52 r t ∧ Safety.Holds t ∧ r.target < 256 ∧ Snd.inRange r.payload = true ∧ t.present r.target = true ∧ t.sndFits r.target r.payload = true ∧ t.cfgN Fid.SND_ENABLE ≠ 0 ∧ t.cfgN Fid.SND_ALLOW r.target ≠ 0 ∧ t.sndNoAmp r.target r.payload = false ∧ t.rdy Rdy.sounding = true ∧ t.sndWaits r.target r.payload = false ∧ t.sndArea = some area) ∧
    (∃ (a : At) (r : Req) (s : State) (t : State), t = s.advance a ∧ Safety.Commands false 15 52 r t ∧ Safety.Holds t ∧ r.target < 256 ∧ Snd.inRange r.payload = true ∧ t.present r.target = true ∧ t.sndFits r.target r.payload = true ∧ t.cfgN Fid.SND_ENABLE ≠ 0 ∧ t.cfgN Fid.SND_ALLOW r.target ≠ 0 ∧ t.sndNoAmp r.target r.payload = false ∧ t.rdy Rdy.sounding = true ∧ t.sndWaits r.target r.payload = false ∧ t.sndArea = none) ∧
    (∃ (a : At) (r : Req) (s : State) (t : State), t = s.advance a ∧ Safety.Commands false 15 52 r t ∧ Safety.Holds t ∧ r.target < 256 ∧ Snd.inRange r.payload = true ∧ t.present r.target = true ∧ t.sndFits r.target r.payload = true ∧ t.cfgN Fid.SND_ENABLE ≠ 0 ∧ t.cfgN Fid.SND_ALLOW r.target ≠ 0 ∧ t.sndNoAmp r.target r.payload = false ∧ t.rdy Rdy.sounding = true ∧ t.sndWaits r.target r.payload = true) ∧
    (∃ (a : At) (r : Req) (s : State) (t : State), t = s.advance a ∧ Safety.Commands false 15 0 r t ∧ r.target < 256 ∧ t.present r.target = true ∧ t.cfgN Fid.SND_ENABLE ≠ 0 ∧ t.rdy Rdy.sounding = true ∧ (t.snd.zones.get r.target).runs = true) ∧
    (∃ (a : At) (r : Req) (s : State) (t : State), t = s.advance a ∧ Safety.Commands false 15 0 r t ∧ r.target < 256 ∧ t.present r.target = true ∧ t.cfgN Fid.SND_ENABLE ≠ 0 ∧ t.rdy Rdy.sounding = true ∧ (t.snd.zones.get r.target).runs = false) ∧
    (∃ (a : At) (r : Req) (s : State) (t : State), t = s.advance a ∧ Safety.Commands false 15 0 r t ∧ r.target < 256 ∧ t.present r.target = true ∧ t.cfgN Fid.SND_ENABLE ≠ 0 ∧ t.rdy Rdy.sounding = true ∧ ((t.snd.zones.get r.target).state ≠ .none ∨ (t.snd.zones.get r.target).deferredReq.isSome = true)) ∧
    (∃ (a : At) (r : Req) (o : Sounding) (ch : Nat) (first : Nat) (n : Nat) (s : State) (t : State), t = s.advance a ∧ Safety.Commands false 15 8 r t ∧ r.target < 256 ∧ t.present r.target = true ∧ t.cfgN Fid.SND_ENABLE ≠ 0 ∧ t.rdy Rdy.sounding = true ∧ o = t.sndCaptured r.target ∧ ch = fieldAt r.payload 0 1 ∧ first = fieldAt r.payload 2 2 ∧ ch ≤ 3 ∧ fieldAt r.payload 1 1 = 0 ∧ allZero (r.payload.drop 6) = true ∧ (1 ≤ fieldAt r.payload 4 2 ∧ fieldAt r.payload 4 2 ≤ 2016) ∧ o.captured = true ∧ Snd.channel o.request ch ≠ 0xFFFF ∧ n = min (fieldAt r.payload 4 2) (o.samples - first)) ∧
    (∃ (a : At) (r : Req) (o : Sounding) (s : State) (t : State), t = s.advance a ∧ Safety.Commands false 15 0 r t ∧ r.target < 256 ∧ t.present r.target = true ∧ t.cfgN Fid.SND_ENABLE ≠ 0 ∧ t.rdy Rdy.sounding = true ∧ o = t.sndEnded r.target ∧ o.hasResult = true) ∧
    (∃ (a : At) (r : Req) (o : Sounding) (m : Nat) (force : Nat) (s : State) (t : State), t = s.advance a ∧ Safety.Commands false 15 4 r t ∧ Safety.Holds t ∧ r.target < 256 ∧ t.present r.target = true ∧ t.cfgN Fid.SND_ENABLE ≠ 0 ∧ t.rdy Rdy.sounding = true ∧ o = t.sndEnded r.target ∧ m = fieldAt r.payload 0 1 ∧ force = fieldAt r.payload 1 1 ∧ (m = 1 ∨ m = 2) ∧ force ≤ 1 ∧ allZero (r.payload.drop 2) = true ∧ o.hasResult = true ∧ o.delivered = false ∧ bitOf o.fails 7 = false ∧ (o.state = .accepted ∨ force = 1)) ∧
    (∃ (a : At) (z : Nat) (o : Sounding) (s : State) (t : State), t = s.advance a ∧ o = t.snd.zones.get z ∧ o.state = .settle ∧ Snd.settle o.request * Snd.span o.request ≤ o.floorSamples) ∧
    (∃ (a : At) (z : Nat) (o : Sounding) (s : State) (t : State), t = s.advance a ∧ o = t.snd.zones.get z ∧ o.state = .capture ∧ Snd.length o.request ≤ o.samples) ∧
    (∃ (a : At) (z : Nat) (cause : Nat) (s : State) (t : State), t = s.advance a ∧ ((t.snd.zones.get z).state = .settle ∨ (t.snd.zones.get z).state = .capture) ∧ t.sndCauseHolds z cause = true) ∧
    (∃ (a : At) (z : Nat) (cause : Nat) (s : State) (t : State), t = s.advance a ∧ t.sndCauseHolds z cause = false) ∧
    (∃ (a : At) (z : Nat) (s : State) (t : State), t = s.advance a ∧ (t.sndFitting z).state = .fitting ∧ t.rdy Rdy.services = true ∧ (t.plan.running && t.plan.taken) = false ∧ t.occFirst = false) ∧
    (∃ (a : At) (z : Nat) (s : State) (t : State), t = s.advance a ∧ ((t.plan.running = true ∧ t.plan.taken = true) ∨ t.occFirst = true ∨ t.rdy Rdy.services = false ∨ (t.sndFitting z).state ≠ .fitting)) ∧
    (∃ (a : At) (n : Nat) (area : Nat) (i : Interim) (p : List Byte) (s : State) (t : State), t = s.advance a ∧ t.mb.interims[n]? = some i ∧ i.isDeferred = true ∧ i.cls = 2 ∧ i.opcode = 0x20 ∧ (t.snd.zones.get i.target).deferredReq = some p ∧ t.sndWaits i.target p = false ∧ t.sndArea = some area) ∧
    (∃ (a : At) (n : Nat) (kind : Nat) (i : Interim) (s : State) (t : State), t = s.advance a ∧ t.mb.interims[n]? = some i ∧ i.isDeferred = true ∧ i.cls = 2 ∧ (i.opcode = 0x30 ∧ kind = Dest.field ∨ i.opcode = 0x31 ∧ kind = Dest.ao ∨ i.opcode = 0x32 ∧ kind = Dest.ago) ∧ t.overrideWaits kind i.target = false) ∧
    (∃ (a : At) (n : Nat) (kind : Nat) (i : Interim) (s : State) (t : State), t = s.advance a ∧ t.mb.interims[n]? = some i ∧ i.cls = 2 ∧ (i.opcode = 0x30 ∧ kind = Dest.field ∨ i.opcode = 0x31 ∧ kind = Dest.ao ∨ i.opcode = 0x32 ∧ kind = Dest.ago) ∧ t.overrideWaits kind i.target = true) ∧
    (∃ (a : At) (n : Nat) (i : Interim) (s : State) (t : State), t = s.advance a ∧ t.mb.interims[n]? = some i ∧ i.isDeferred = true ∧ i.cls = 5) ∧
    (∃ (a : At) (n : Nat) (s : State) (t : State), t = s.advance a ∧ (t.mb.interims[n]?).any Interim.isDeferred = false) :=
  ⟨⟨{}, { fn := 15, payload := sndReq }, 0, snds, snds.advance ({} : At), rfl, commands_of (by decide +kernel), ⟨by decide +kernel, by decide +kernel⟩, by decide +kernel, by decide +kernel, by decide +kernel, by decide +kernel, by decide +kernel, by decide +kernel, by decide +kernel, by decide +kernel, by decide +kernel, by decide +kernel⟩,
    ⟨{}, { fn := 15, payload := sndReq }, { snds with snd.older := (upTo 16).map (fun a => (a + 1, { state := .fitting, area := a })) }, ({ snds with snd.older := (upTo 16).map (fun a => (a + 1, { state := .fitting, area := a })) } : State).advance ({} : At), rfl, commands_of (by decide +kernel), ⟨by decide +kernel, by decide +kernel⟩, by decide +kernel, by decide +kernel, by decide +kernel, by decide +kernel, by decide +kernel, by decide +kernel, by decide +kernel, by decide +kernel, by decide +kernel, by decide +kernel⟩,
    ⟨{}, { fn := 15, payload := sndReq }, { snds with snd.zones := Tbl.set [] 0 { state := .capture } }, ({ snds with snd.zones := Tbl.set [] 0 { state := .capture } } : State).advance ({} : At), rfl, commands_of (by decide +kernel), ⟨by decide +kernel, by decide +kernel⟩, by decide +kernel, by decide +kernel, by decide +kernel, by decide +kernel, by decide +kernel, by decide +kernel, by decide +kernel, by decide +kernel, by decide +kernel⟩,
    ⟨{}, { fn := 15 }, { snds with snd.zones := Tbl.set [] 0 { state := .capture, request := sndReq } }, ({ snds with snd.zones := Tbl.set [] 0 { state := .capture, request := sndReq } } : State).advance ({} : At), rfl, commands_of (by decide +kernel), by decide +kernel, by decide +kernel, by decide +kernel, by decide +kernel, by decide +kernel⟩,
    ⟨{}, { fn := 15 }, { snds with snd.zones := Tbl.set [] 0 { state := .accepted, area := 3, request := sndReq, deferredReq := some sndReq } }, ({ snds with snd.zones := Tbl.set [] 0 { state := .accepted, area := 3, request := sndReq, deferredReq := some sndReq } } : State).advance ({} : At), rfl, commands_of (by decide +kernel), by decide +kernel, by decide +kernel, by decide +kernel, by decide +kernel, by decide +kernel⟩,
    ⟨{}, { fn := 15 }, { snds with snd.zones := Tbl.set [] 0 { state := .rejected } }, ({ snds with snd.zones := Tbl.set [] 0 { state := .rejected } } : State).advance ({} : At), rfl, commands_of (by decide +kernel), by decide +kernel, by decide +kernel, by decide +kernel, by decide +kernel, by decide +kernel⟩,
    ⟨{}, { fn := 15, payload := [0, 0, 1, 0] ++ le 4 2016 }, (({ snds with snd.zones := Tbl.set [] 0 { state := .rejected, captured := true, samples := 2, area := 0, request := sndReq } } : State).advance ({} : At) : State).sndCaptured ({ fn := 15, payload := [0, 0, 1, 0] ++ le 4 2016 } : Req).target, fieldAt ({ fn := 15, payload := [0, 0, 1, 0] ++ le 4 2016 } : Req).payload 0 1, fieldAt ({ fn := 15, payload := [0, 0, 1, 0] ++ le 4 2016 } : Req).payload 2 2, min (fieldAt ({ fn := 15, payload := [0, 0, 1, 0] ++ le 4 2016 } : Req).payload 4 2) (((({ snds with snd.zones := Tbl.set [] 0 { state := .rejected, captured := true, samples := 2, area := 0, request := sndReq } } : State).advance ({} : At) : State).sndCaptured ({ fn := 15, payload := [0, 0, 1, 0] ++ le 4 2016 } : Req).target : Sounding).samples - (fieldAt ({ fn := 15, payload := [0, 0, 1, 0] ++ le 4 2016 } : Req).payload 2 2 : Nat)), { snds with snd.zones := Tbl.set [] 0 { state := .rejected, captured := true, samples := 2, area := 0, request := sndReq } }, ({ snds with snd.zones := Tbl.set [] 0 { state := .rejected, captured := true, samples := 2, area := 0, request := sndReq } } : State).advance ({} : At), rfl, commands_of (by decide +kernel), by decide +kernel, by decide +kernel, by decide +kernel, by decide +kernel, rfl, rfl, rfl, by decide +kernel, by decide +kernel, by decide +kernel, by decide +kernel, by decide +kernel, by decide +kernel, rfl⟩,
    ⟨{}, { fn := 15 }, (({ snds with snd.zones := Tbl.set [] 0 { state := .accepted, hasResult := true, rows := 5 } } : State).advance ({} : At) : State).sndEnded ({ fn := 15 } : Req).target, { snds with snd.zones := Tbl.set [] 0 { state := .accepted, hasResult := true, rows := 5 } }, ({ snds with snd.zones := Tbl.set [] 0 { state := .accepted, hasResult := true, rows := 5 } } : State).advance ({} : At), rfl, commands_of (by decide +kernel), by decide +kernel, by decide +kernel, by decide +kernel, by decide +kernel, rfl, by decide +kernel⟩,
    ⟨{}, { fn := 15, payload := [1, 1, 0, 0] }, (({ snds with snd.zones := Tbl.set [] 0 { state := .rejected, hasResult := true, request := sndReq } } : State).advance ({} : At) : State).sndEnded ({ fn := 15, payload := [1, 1, 0, 0] } : Req).target, fieldAt ({ fn := 15, payload := [1, 1, 0, 0] } : Req).payload 0 1, fieldAt ({ fn := 15, payload := [1, 1, 0, 0] } : Req).payload 1 1, { snds with snd.zones := Tbl.set [] 0 { state := .rejected, hasResult := true, request := sndReq } }, ({ snds with snd.zones := Tbl.set [] 0 { state := .rejected, hasResult := true, request := sndReq } } : State).advance ({} : At), rfl, commands_of (by decide +kernel), ⟨by decide +kernel, by decide +kernel⟩, by decide +kernel, by decide +kernel, by decide +kernel, by decide +kernel, rfl, rfl, rfl, by decide +kernel, by decide +kernel, by decide +kernel, by decide +kernel, by decide +kernel, by decide +kernel, by decide +kernel⟩,
    ⟨{}, 0, (({ snds with snd.zones := Tbl.set [] 0 { state := .settle, request := sndReq, floorSamples := 64 } } : State).advance ({} : At) : State).snd.zones.get 0, { snds with snd.zones := Tbl.set [] 0 { state := .settle, request := sndReq, floorSamples := 64 } }, ({ snds with snd.zones := Tbl.set [] 0 { state := .settle, request := sndReq, floorSamples := 64 } } : State).advance ({} : At), rfl, rfl, by decide +kernel, by decide +kernel⟩,
    ⟨{}, 0, (({ snds with snd.zones := Tbl.set [] 0 { state := .capture, request := sndReq, samples := 1024 } } : State).advance ({} : At) : State).snd.zones.get 0, { snds with snd.zones := Tbl.set [] 0 { state := .capture, request := sndReq, samples := 1024 } }, ({ snds with snd.zones := Tbl.set [] 0 { state := .capture, request := sndReq, samples := 1024 } } : State).advance ({} : At), rfl, rfl, by decide +kernel, by decide +kernel⟩,
    ⟨{}, 0, 4, { snds with snd.zones := Tbl.set [] 0 { state := .capture, request := sndReq, gaps := 100000 } }, ({ snds with snd.zones := Tbl.set [] 0 { state := .capture, request := sndReq, gaps := 100000 } } : State).advance ({} : At), rfl, by decide +kernel, by decide +kernel⟩,
    ⟨{}, 0, 4, { snds with snd.zones := Tbl.set [] 0 { state := .capture, request := sndReq } }, ({ snds with snd.zones := Tbl.set [] 0 { state := .capture, request := sndReq } } : State).advance ({} : At), rfl, by decide +kernel⟩,
    ⟨{}, 0, { snds with snd.zones := Tbl.set [] 0 { state := .fitting, request := sndReq } }, ({ snds with snd.zones := Tbl.set [] 0 { state := .fitting, request := sndReq } } : State).advance ({} : At), rfl, by decide +kernel, by decide +kernel, by decide +kernel, by decide +kernel⟩,
    ⟨{}, 0, { snds with plan.running := true, plan.taken := true }, ({ snds with plan.running := true, plan.taken := true } : State).advance ({} : At), rfl, by decide +kernel⟩,
    ⟨{}, 0, 0, { session := 1, tag := 4, cls := 2, opcode := 0x20, fn := 15, payload := sndReq, isDeferred := true }, sndReq, { snds with snd.zones := Tbl.set [] 0 { deferredReq := some sndReq }, mb.interims := [{ session := 1, tag := 4, cls := 2, opcode := 0x20, fn := 15, payload := sndReq, isDeferred := true }] }, ({ snds with snd.zones := Tbl.set [] 0 { deferredReq := some sndReq }, mb.interims := [{ session := 1, tag := 4, cls := 2, opcode := 0x20, fn := 15, payload := sndReq, isDeferred := true }] } : State).advance ({} : At), rfl, by decide +kernel, by decide +kernel, by decide +kernel, by decide +kernel, by decide +kernel, by decide +kernel, by decide +kernel⟩,
    ⟨{}, 0, Dest.ao, { session := 1, tag := 4, cls := 2, opcode := 0x31, fn := 11, target := 7, payload := le 2 1 ++ le 2 10000 ++ le 4 100, isDeferred := true }, { withCfg liv [(Fid.AO_ROLE,7,1)] with mb.interims := [{ session := 1, tag := 4, cls := 2, opcode := 0x31, fn := 11, target := 7, payload := le 2 1 ++ le 2 10000 ++ le 4 100, isDeferred := true }] }, ({ withCfg liv [(Fid.AO_ROLE,7,1)] with mb.interims := [{ session := 1, tag := 4, cls := 2, opcode := 0x31, fn := 11, target := 7, payload := le 2 1 ++ le 2 10000 ++ le 4 100, isDeferred := true }] } : State).advance ({} : At), rfl, by decide +kernel, by decide +kernel, by decide +kernel, by decide +kernel, by decide +kernel⟩,
    ⟨{}, 0, Dest.ao, { session := 1, tag := 4, cls := 2, opcode := 0x31, fn := 11, target := 7, payload := le 2 1 ++ le 2 10000 ++ le 4 100, isDeferred := true }, { withCfg zoned [(Fid.AO_ROLE,7,1),(Fid.U_DEST0,0,Dest.ao * 2 ^ 28 + 7)] with mb.interims := [{ session := 1, tag := 4, cls := 2, opcode := 0x31, fn := 11, target := 7, payload := le 2 1 ++ le 2 10000 ++ le 4 100, isDeferred := true }] }, ({ withCfg zoned [(Fid.AO_ROLE,7,1),(Fid.U_DEST0,0,Dest.ao * 2 ^ 28 + 7)] with mb.interims := [{ session := 1, tag := 4, cls := 2, opcode := 0x31, fn := 11, target := 7, payload := le 2 1 ++ le 2 10000 ++ le 4 100, isDeferred := true }] } : State).advance ({} : At), rfl, by decide +kernel, by decide +kernel, by decide +kernel, by decide +kernel⟩,
    ⟨{}, 0, { session := 1, tag := 4, cls := 5, opcode := 0x31, payload := le 4 0x10 ++ le 4 1, isDeferred := true }, { liv with mb.interims := [{ session := 1, tag := 4, cls := 5, opcode := 0x31, payload := le 4 0x10 ++ le 4 1, isDeferred := true }], mer.stamp := mkStamp 1000 0 }, ({ liv with mb.interims := [{ session := 1, tag := 4, cls := 5, opcode := 0x31, payload := le 4 0x10 ++ le 4 1, isDeferred := true }], mer.stamp := mkStamp 1000 0 } : State).advance ({} : At), rfl, by decide +kernel, by decide +kernel, by decide +kernel⟩,
    ⟨{}, 0, liv, liv.advance ({} : At), rfl, by decide +kernel⟩⟩

theorem witness_ForecastOperationsAndPlans :
    (∃ (a : At) (r : Req) (s : State) (t : State), t = s.advance a ∧ Safety.Asks false 14 392 r t ∧ Safety.Holds t ∧ r.target = 0 ∧ t.cfgN Fid.WP_ENABLE ≠ 0 ∧ t.rdy Rdy.waypoint = true ∧ t.wpStartOk r = true) ∧
    (∃ (a : At) (r : Req) (s : State) (t : State), t = s.advance a ∧ Safety.Asks false 14 200 r t ∧ Safety.Holds t ∧ r.target = 0 ∧ t.cfgN Fid.WP_ENABLE ≠ 0 ∧ t.rdy Rdy.waypoint = true ∧ t.wpStartOk r = true) ∧
    (∃ (a : At) (r : Req) (s : State) (t : State), t = s.advance a ∧ Safety.Asks false 14 0 r t ∧ Safety.Holds t ∧ r.target = 0 ∧ t.cfgN Fid.WP_ENABLE ≠ 0 ∧ t.rdy Rdy.waypoint = true) ∧
    (∃ (a : At) (r : Req) (s : State) (t : State), t = s.advance a ∧ Safety.Asks false 14 0 r t ∧ r.target = 0 ∧ t.cfgN Fid.WP_ENABLE ≠ 0 ∧ wpReadable t r = true) ∧
    (∃ (a : At) (r : Req) (s : State) (t : State), t = s.advance a ∧ Safety.Asks false 14 0 r t ∧ t.sigTarget r = true ∧ sigOf r / 16 = 3 ∧ t.cfgN Fid.WP_ENABLE ≠ 0 ∧ wpReadable t r = true ∧ t.present (zoneOf r) = true ∧ (t.wpPlanned (zoneOf r) (sigOf r % 16) && (t.plan.traj.get (zoneOf r * 16 + sigOf r % 16)).present) = true) ∧
    (∃ (a : At) (r : Req) (s : State) (t : State), t = s.advance a ∧ Safety.Asks false 14 0 r t ∧ t.sigTarget r = true ∧ sigOf r / 16 = 3 ∧ t.cfgN Fid.WP_ENABLE ≠ 0 ∧ wpReadable t r = true ∧ t.present (zoneOf r) = true ∧ (t.wpPlanned (zoneOf r) (sigOf r % 16) && (t.plan.traj.get (zoneOf r * 16 + sigOf r % 16)).present) = false) ∧
    (∃ (a : At) (c : Nat) (s : State) (t : State), t = s.advance a ∧ t.planRuns = true ∧ t.grain = 0 ∧ t.planDue = true ∧ t.plan.running = false ∧ t.plan.modelDue = false ∧ t.plan.modelRate ≠ 0 ∧ t.occFirst = false ∧ c = t.alm.count.toNat) ∧
    (∃ (a : At) (s : State) (t : State), t = s.advance a ∧ t.plan.running = true ∧ t.plan.taken = true ∧ t.occFirst = false) ∧
    (∃ (a : At) (s : State) (t : State), t = s.advance a ∧ t.planRuns = false) ∧
    (∃ (a : At) (s : State) (t : State), t = s.advance a ∧ t.rdy Rdy.helm = true ∧ t.planModelWanted = true) ∧
    (∃ (a : At) (x : Nat × Traj) (s : State) (t : State), t = s.advance a ∧ t.rdy Rdy.waypoint = true ∧ t.plan.staleNoted = false ∧ x ∈ t.plan.traj ∧ t.olderThan x.2.publish (t.cfgN Fid.WP_MAX_AGE) = true) ∧
    (∃ (a : At) (s : State) (t : State), t = s.advance a ∧ t.rdy Rdy.helm = true ∧ t.rdy Rdy.services = true ∧ t.peerHolds = false ∧ t.grain = 0 ∧ t.turn % 64 = 0) ∧
    (∃ (a : At) (s : State) (t : State), t = s.advance a ∧ t.rdy Rdy.almanac = true) ∧
    (∃ (a : At) (s : State) (t : State), t = s.advance a ∧ (t.rdy Rdy.almanac = false ∨ t.plan.lastStep = some (t.alm.count.toNat / planStep))) ∧
    (∃ (a : At) (s : State) (t : State), t = s.advance a ∧ t.rdy Rdy.nvstore = true ∧ t.grain = 0 ∧ t.turn % 64 = 0) :=
  ⟨⟨{}, { fn := 14, payload := le 8 29491200 ++ List.replicate 384 1 }, wp, wp.advance ({} : At), rfl, asks_of (by decide +kernel), ⟨by decide +kernel, by decide +kernel⟩, by decide +kernel, by decide +kernel, by decide +kernel, by decide +kernel⟩,
    ⟨{}, { fn := 14, payload := le 8 0 ++ List.replicate 192 1 }, wp, wp.advance ({} : At), rfl, asks_of (by decide +kernel), ⟨by decide +kernel, by decide +kernel⟩, by decide +kernel, by decide +kernel, by decide +kernel, by decide +kernel⟩,
    ⟨{}, { fn := 14 }, wp, wp.advance ({} : At), rfl, asks_of (by decide +kernel), ⟨by decide +kernel, by decide +kernel⟩, by decide +kernel, by decide +kernel, by decide +kernel⟩,
    ⟨{}, { fn := 14 }, { wp with plan.seq := 7 }, ({ wp with plan.seq := 7 } : State).advance ({} : At), rfl, asks_of (by decide +kernel), by decide +kernel, by decide +kernel, by decide +kernel⟩,
    ⟨{}, { fn := 14, target := 0x3000 }, { wp with plan.traj := Tbl.set [] 0 { present := true, planSeq := 3 } }, ({ wp with plan.traj := Tbl.set [] 0 { present := true, planSeq := 3 } } : State).advance ({} : At), rfl, asks_of (by decide +kernel), by decide +kernel, by decide +kernel, by decide +kernel, by decide +kernel, by decide +kernel, by decide +kernel⟩,
    ⟨{}, { fn := 14, target := 0x3000 }, wp, wp.advance ({} : At), rfl, asks_of (by decide +kernel), by decide +kernel, by decide +kernel, by decide +kernel, by decide +kernel, by decide +kernel, by decide +kernel⟩,
    ⟨{}, (({ wp with plan.modelRate := 50000000, mer.stamp := mkStamp 1000 0 } : State).advance ({} : At) : State).alm.count.toNat, { wp with plan.modelRate := 50000000, mer.stamp := mkStamp 1000 0 }, ({ wp with plan.modelRate := 50000000, mer.stamp := mkStamp 1000 0 } : State).advance ({} : At), rfl, by decide +kernel, by decide +kernel, by decide +kernel, by decide +kernel, by decide +kernel, by decide +kernel, by decide +kernel, rfl⟩,
    ⟨{}, { wp with plan.running := true, plan.taken := true }, ({ wp with plan.running := true, plan.taken := true } : State).advance ({} : At), rfl, by decide +kernel, by decide +kernel, by decide +kernel⟩,
    ⟨{}, { low wp [Rdy.almanac] with plan.running := true }, ({ low wp [Rdy.almanac] with plan.running := true } : State).advance ({} : At), rfl, by decide +kernel⟩,
    ⟨{}, wp, wp.advance ({} : At), rfl, by decide +kernel, by decide +kernel⟩,
    ⟨{}, (0, { present := true, publish := 0 }), { wp with plan.traj := Tbl.set [] 0 { present := true, publish := 0 }, mer.stamp := mkStamp 10000000 0 }, ({ wp with plan.traj := Tbl.set [] 0 { present := true, publish := 0 }, mer.stamp := mkStamp 10000000 0 } : State).advance ({} : At), rfl, by decide +kernel, by decide +kernel, by decide +kernel, by decide +kernel⟩,
    ⟨{}, { withCfg wp [(Fid.OCC_ENABLE,0,1)] with mer.stamp := mkStamp 1024 0 }, ({ withCfg wp [(Fid.OCC_ENABLE,0,1)] with mer.stamp := mkStamp 1024 0 } : State).advance ({} : At), rfl, by decide +kernel, by decide +kernel, by decide +kernel, by decide +kernel, by decide +kernel⟩,
    ⟨{}, { wp with plan.lastStep := some 3 }, ({ wp with plan.lastStep := some 3 } : State).advance ({} : At), rfl, by decide +kernel⟩,
    ⟨{}, low wp [Rdy.almanac], (low wp [Rdy.almanac] : State).advance ({} : At), rfl, by decide +kernel⟩,
    ⟨{}, { wp with zio := Tbl.set [] 0 { dirty := true }, mer.stamp := mkStamp 1024 0 }, ({ wp with zio := Tbl.set [] 0 { dirty := true }, mer.stamp := mkStamp 1024 0 } : State).advance ({} : At), rfl, by decide +kernel, by decide +kernel, by decide +kernel⟩⟩

theorem witness_ChartOperationsAndUpdates :
    (∃ (a : At) (r : Req) (s : State) (t : State), t = s.advance a ∧ Safety.Asks false 25 76 r t ∧ r.target = 0 ∧ t.rdy Rdy.chart = true ∧ fieldAt r.payload 72 1 ≤ 1 ∧ allZero (r.payload.drop 73) = true ∧ t.cfgN Fid.CH_MODE = 1 ∧ (upTo 192).all (fun i => blinkOf ((r.payload.drop 24).take 48) i != 3) = true) ∧
    (∃ (a : At) (r : Req) (s : State) (t : State), t = s.advance a ∧ Safety.Asks false 25 76 r t ∧ r.target = 0 ∧ t.rdy Rdy.chart = true ∧ fieldAt r.payload 72 1 ≤ 1 ∧ allZero (r.payload.drop 73) = true ∧ t.cfgN Fid.CH_MODE = 2 ∧ allZero ((r.payload.drop 24).take 48) = true ∧ (upTo 192).all (fun i => blinkOf ((r.payload.drop 24).take 48) i != 3) = true) ∧
    (∃ (a : At) (r : Req) (s : State) (t : State), t = s.advance a ∧ Safety.Asks false 25 0 r t ∧ r.target = 0 ∧ t.rdy Rdy.chart = true) ∧
    (∃ (a : At) (s : State) (t : State), t = s.advance a ∧ t.epaperRuns = true ∧ t.grain = 0 ∧ t.chart.state = .idle ∧ t.chart.interrupted = false ∧ t.updateDue = true) ∧
    (∃ (a : At) (s : State) (t : State), t = s.advance a ∧ t.epaperRuns = true ∧ t.grain = 0 ∧ t.chart.state ≠ .idle ∧ t.chart.frame < t.chart.frames ∧ t.chart.frameTurn ≠ some t.turn ∧ t.framePaged = true) ∧
    (∃ (a : At) (s : State) (t : State), t = s.advance a ∧ t.epaperRuns = true ∧ t.grain = 0 ∧ t.chart.state ≠ .idle ∧ t.chart.frame < t.chart.frames ∧ t.chart.frameTurn ≠ some t.turn ∧ t.framePaged = false) ∧
    (∃ (a : At) (s : State) (t : State), t = s.advance a ∧ t.epaperRuns = true ∧ t.grain = 0 ∧ t.chart.state = .updating ∧ t.chart.frame = t.chart.frames ∧ t.chart.frameTurn ≠ some t.turn) ∧
    (∃ (a : At) (s : State) (t : State), t = s.advance a ∧ t.epaperRuns = true ∧ t.grain = 0 ∧ t.chart.interrupted = true ∧ t.chart.state = .idle ∧ 64 ≤ t.chart.railTurns) ∧
    (∃ (a : At) (s : State) (t : State), t = s.advance a ∧ t.epaperRuns = true ∧ t.grain = 0 ∧ t.chart.state = .compensating ∧ t.chart.frame = t.chart.frames ∧ t.chart.frameTurn ≠ some t.turn) ∧
    (∃ (a : At) (s : State) (t : State), t = s.advance a ∧ (t.rdy Rdy.binnacle = false ∨ t.chartOutputs = 0 ∨ t.readbackAngle = false ∨ t.chart.readAt = some t.mer.stamp)) ∧
    (∃ (a : At) (s : State) (t : State), t = s.advance a ∧ t.rdy Rdy.binnacle = true ∧ t.cfgN Fid.CH_MODE = 1 ∧ t.readbackAngle = true ∧ t.chart.readAt ≠ some t.mer.stamp ∧ t.chart.phase ≠ 7) ∧
    (∃ (a : At) (s : State) (t : State), t = s.advance a ∧ t.rdy Rdy.binnacle = true ∧ (t.cfgN Fid.CH_MODE = 1 ∧ t.chart.phase = 7 ∨ t.cfgN Fid.CH_MODE = 2) ∧ t.readbackAngle = true ∧ t.chart.readAt ≠ some t.mer.stamp) :=
  ⟨⟨{}, { fn := 25, payload := List.replicate 72 0xAA ++ le 4 1 }, withCfg liv [(Fid.CH_MODE,0,1)], (withCfg liv [(Fid.CH_MODE,0,1)] : State).advance ({} : At), rfl, asks_of (by decide +kernel), by decide +kernel, by decide +kernel, by decide +kernel, by decide +kernel, by decide +kernel, by decide +kernel⟩,
    ⟨{}, { fn := 25, payload := List.replicate 24 0xAA ++ le 48 0 ++ le 4 1 }, withCfg liv [(Fid.CH_MODE,0,2)], (withCfg liv [(Fid.CH_MODE,0,2)] : State).advance ({} : At), rfl, asks_of (by decide +kernel), by decide +kernel, by decide +kernel, by decide +kernel, by decide +kernel, by decide +kernel, by decide +kernel, by decide +kernel⟩,
    ⟨{}, { fn := 25 }, withCfg liv [(Fid.CH_MODE,0,2)], (withCfg liv [(Fid.CH_MODE,0,2)] : State).advance ({} : At), rfl, asks_of (by decide +kernel), by decide +kernel, by decide +kernel⟩,
    ⟨{}, { withCfg liv [(Fid.CH_MODE,0,2)] with chart := { pending := some { image := List.replicate 24 3 }, useBand := 1, bandChosen := true }, mer.stamp := mkStamp 1000 0 }, ({ withCfg liv [(Fid.CH_MODE,0,2)] with chart := { pending := some { image := List.replicate 24 3 }, useBand := 1, bandChosen := true }, mer.stamp := mkStamp 1000 0 } : State).advance ({} : At), rfl, by decide +kernel, by decide +kernel, by decide +kernel, by decide +kernel, by decide +kernel⟩,
    ⟨{}, { epa with mer.stamp := mkStamp 1000 0 }, ({ epa with mer.stamp := mkStamp 1000 0 } : State).advance ({} : At), rfl, by decide +kernel, by decide +kernel, by decide +kernel, by decide +kernel, by decide +kernel, by decide +kernel⟩,
    ⟨{}, { epa0 with mer.stamp := mkStamp 1000 0 }, ({ epa0 with mer.stamp := mkStamp 1000 0 } : State).advance ({} : At), rfl, by decide +kernel, by decide +kernel, by decide +kernel, by decide +kernel, by decide +kernel, by decide +kernel⟩,
    ⟨{}, { withCfg liv [(Fid.CH_MODE,0,2)] with chart := { state := .updating, frame := 3, frames := 3, target := List.replicate 24 3 }, mer.stamp := mkStamp 1000 0 }, ({ withCfg liv [(Fid.CH_MODE,0,2)] with chart := { state := .updating, frame := 3, frames := 3, target := List.replicate 24 3 }, mer.stamp := mkStamp 1000 0 } : State).advance ({} : At), rfl, by decide +kernel, by decide +kernel, by decide +kernel, by decide +kernel, by decide +kernel⟩,
    ⟨{}, { withCfg liv [(Fid.CH_MODE,0,2)] with chart := { interrupted := true, railTurns := 64 }, mer.stamp := mkStamp 1000 0 }, ({ withCfg liv [(Fid.CH_MODE,0,2)] with chart := { interrupted := true, railTurns := 64 }, mer.stamp := mkStamp 1000 0 } : State).advance ({} : At), rfl, by decide +kernel, by decide +kernel, by decide +kernel, by decide +kernel, by decide +kernel⟩,
    ⟨{}, { withCfg liv [(Fid.CH_MODE,0,2)] with chart := { state := .compensating, frame := 3, frames := 3 }, mer.stamp := mkStamp 1000 0 }, ({ withCfg liv [(Fid.CH_MODE,0,2)] with chart := { state := .compensating, frame := 3, frames := 3 }, mer.stamp := mkStamp 1000 0 } : State).advance ({} : At), rfl, by decide +kernel, by decide +kernel, by decide +kernel, by decide +kernel, by decide +kernel⟩,
    ⟨{}, liv, liv.advance ({} : At), rfl, by decide +kernel⟩,
    ⟨{}, { withCfg liv [(Fid.CH_MODE,0,1)] with mer.stamp := mkStamp 1000 32768 }, ({ withCfg liv [(Fid.CH_MODE,0,1)] with mer.stamp := mkStamp 1000 32768 } : State).advance ({} : At), rfl, by decide +kernel, by decide +kernel, by decide +kernel, by decide +kernel, by decide +kernel⟩,
    ⟨{}, { withCfg liv [(Fid.CH_MODE,0,2)] with chart := { state := .compensating, frame := 3, frames := 3, frameTurn := some 1000 }, mer.stamp := mkStamp 1000 524288 }, ({ withCfg liv [(Fid.CH_MODE,0,2)] with chart := { state := .compensating, frame := 3, frames := 3, frameTurn := some 1000 }, mer.stamp := mkStamp 1000 524288 } : State).advance ({} : At), rfl, by decide +kernel, by decide +kernel, by decide +kernel, by decide +kernel⟩⟩

theorem witness_TillerOperationsAndScans :
    (∃ (a : At) (r : Req) (es : List KeyEvent) (s : State) (t : State), t = s.advance a ∧ Safety.Asks false 26 4 r t ∧ r.target = 0 ∧ t.cfgN Fid.TL_ENABLE ≠ 0 ∧ t.rdy Rdy.tiller = true ∧ (1 ≤ fieldAt r.payload 0 1 ∧ fieldAt r.payload 0 1 ≤ 63) ∧ allZero (r.payload.drop 1) = true ∧ es = t.tiller.queue.take (fieldAt r.payload 0 1)) ∧
    (∃ (a : At) (r : Req) (s : State) (t : State), t = s.advance a ∧ Safety.Asks false 26 0 r t ∧ r.target = 0 ∧ t.cfgN Fid.TL_ENABLE ≠ 0 ∧ t.rdy Rdy.tiller = true) ∧
    (∃ (a : At) (s : State) (t : State), t = s.advance a ∧ t.rdy Rdy.tiller = true ∧ t.tlEnabled 0 = true ∧ t.tiller.scanning = false) ∧
    (∃ (a : At) (closed : List Nat) (n : Nat) (s : State) (t : State) (u : State), t = s.advance a ∧ t.rdy Rdy.tiller = true ∧ t.tlEnabled 0 = true ∧ t.tiller.scanning = true ∧ t.tiller.scanAt + 1000 ≤ t.clock ∧ u = State.scanKeys t.keys closed t.columnStamp { t with tiller.scanAt := t.clock } ∧ n = (if u.keys.any (fun k => closed.contains k && !(u.tiller.keys.get k).masked) then 0 else u.tiller.idleScans + 1)) ∧
    (∃ (a : At) (s : State) (t : State), t = s.advance a ∧ t.rdy Rdy.tiller = true ∧ t.tlDue t.tiller.sampleAt 62 = true) ∧
    (∃ (a : At) (s : State) (t : State), t = s.advance a ∧ t.tlDue t.tiller.sampleAt 62 = false) ∧
    (∃ (a : At) (key : Nat) (x : Key) (s : State) (t : State), t = s.advance a ∧ x = t.tiller.keys.get key ∧ t.rdy Rdy.tiller = true ∧ key < 68 ∧ x.pressed = true ∧ x.ghost = false ∧ x.masked = false ∧ t.cfgN Fid.TL_STUCK_TIME * 1000000 ≤ t.clock - x.since) ∧
    (∃ (a : At) (s : State) (t : State), t = s.advance a ∧ (t.tiller.scanning = true ∨ (t.keys.filter (fun k => (t.tiller.keys.get k).masked)) = [])) ∧
    (∃ (a : At) (closed : List Nat) (masked : List Nat) (s : State) (t : State) (u : State), t = s.advance a ∧ t.rdy Rdy.tiller = true ∧ t.tlEnabled 0 = true ∧ t.tiller.scanning = false ∧ masked = t.keys.filter (fun k => (t.tiller.keys.get k).masked) ∧ masked ≠ [] ∧ t.tlDue t.tiller.pollAt 50000 = true ∧ u = State.scanKeys masked (closed.filter (fun k => (masked.map (· % 8)).contains (k % 8))) (fun _ => t.now) { t with tiller.pollAt := some t.clock }) ∧
    (∃ (a : At) (s : State) (t : State), t = s.advance a ∧ t.rdy Rdy.services = true ∧ t.rdy Rdy.tiller = false) ∧
    (∃ (a : At) (s : State) (t : State), t = s.advance a ∧ t.rdy Rdy.tiller = false) :=
  ⟨⟨{}, { fn := 26, payload := le 4 1 }, (({ withCfg liv [(Fid.TL_ENABLE,0,7)] with tiller.queue := [{ code := 5 }, { code := 6 }] } : State).advance ({} : At) : State).tiller.queue.take (fieldAt ({ fn := 26, payload := le 4 1 } : Req).payload 0 1), { withCfg liv [(Fid.TL_ENABLE,0,7)] with tiller.queue := [{ code := 5 }, { code := 6 }] }, ({ withCfg liv [(Fid.TL_ENABLE,0,7)] with tiller.queue := [{ code := 5 }, { code := 6 }] } : State).advance ({} : At), rfl, asks_of (by decide +kernel), by decide +kernel, by decide +kernel, by decide +kernel, by decide +kernel, by decide +kernel, rfl⟩,
    ⟨{}, { fn := 26 }, { withCfg liv [(Fid.TL_ENABLE,0,7)] with tiller.keys := Tbl.set [] 67 { pressed := true } }, ({ withCfg liv [(Fid.TL_ENABLE,0,7)] with tiller.keys := Tbl.set [] 67 { pressed := true } } : State).advance ({} : At), rfl, asks_of (by decide +kernel), by decide +kernel, by decide +kernel, by decide +kernel⟩,
    ⟨{}, withCfg liv [(Fid.TL_ENABLE,0,1)], (withCfg liv [(Fid.TL_ENABLE,0,1)] : State).advance ({} : At), rfl, by decide +kernel, by decide +kernel, by decide +kernel⟩,
    ⟨{}, [], 16, { withCfg liv [(Fid.TL_ENABLE,0,1)] with tiller.scanning := true, tiller.idleScans := 15, clock := 1000 }, ({ withCfg liv [(Fid.TL_ENABLE,0,1)] with tiller.scanning := true, tiller.idleScans := 15, clock := 1000 } : State).advance ({} : At), State.scanKeys (({ withCfg liv [(Fid.TL_ENABLE,0,1)] with tiller.scanning := true, tiller.idleScans := 15, clock := 1000 } : State).advance ({} : At) : State).keys [] (({ withCfg liv [(Fid.TL_ENABLE,0,1)] with tiller.scanning := true, tiller.idleScans := 15, clock := 1000 } : State).advance ({} : At) : State).columnStamp { (({ withCfg liv [(Fid.TL_ENABLE,0,1)] with tiller.scanning := true, tiller.idleScans := 15, clock := 1000 } : State).advance ({} : At) : State) with tiller.scanAt := (({ withCfg liv [(Fid.TL_ENABLE,0,1)] with tiller.scanning := true, tiller.idleScans := 15, clock := 1000 } : State).advance ({} : At) : State).clock }, rfl, by decide +kernel, by decide +kernel, by decide +kernel, by decide +kernel, by decide +kernel, by decide +kernel⟩,
    ⟨{}, withCfg liv [(Fid.TL_ENABLE,0,6)], (withCfg liv [(Fid.TL_ENABLE,0,6)] : State).advance ({} : At), rfl, by decide +kernel, by decide +kernel⟩,
    ⟨{}, { withCfg liv [(Fid.TL_ENABLE,0,4)] with tiller.sampleAt := some 0, clock := 61 }, ({ withCfg liv [(Fid.TL_ENABLE,0,4)] with tiller.sampleAt := some 0, clock := 61 } : State).advance ({} : At), rfl, by decide +kernel⟩,
    ⟨{}, 67, (({ withCfg liv [(Fid.TL_ENABLE,0,7)] with tiller.keys := Tbl.set [] 67 { pressed := true }, clock := 1000000000 } : State).advance ({} : At) : State).tiller.keys.get 67, { withCfg liv [(Fid.TL_ENABLE,0,7)] with tiller.keys := Tbl.set [] 67 { pressed := true }, clock := 1000000000 }, ({ withCfg liv [(Fid.TL_ENABLE,0,7)] with tiller.keys := Tbl.set [] 67 { pressed := true }, clock := 1000000000 } : State).advance ({} : At), rfl, rfl, by decide +kernel, by decide +kernel, by decide +kernel, by decide +kernel, by decide +kernel, by decide +kernel⟩,
    ⟨{}, withCfg liv [(Fid.TL_ENABLE,0,1)], (withCfg liv [(Fid.TL_ENABLE,0,1)] : State).advance ({} : At), rfl, by decide +kernel⟩,
    ⟨{}, [55], [63], { withCfg liv [(Fid.TL_ENABLE,0,1)] with tiller.keys := Tbl.set [] 63 { pressed := true, masked := true } }, ({ withCfg liv [(Fid.TL_ENABLE,0,1)] with tiller.keys := Tbl.set [] 63 { pressed := true, masked := true } } : State).advance ({} : At), State.scanKeys [63] [55] (fun _ => (({ withCfg liv [(Fid.TL_ENABLE,0,1)] with tiller.keys := Tbl.set [] 63 { pressed := true, masked := true } } : State).advance ({} : At) : State).now) { (({ withCfg liv [(Fid.TL_ENABLE,0,1)] with tiller.keys := Tbl.set [] 63 { pressed := true, masked := true } } : State).advance ({} : At) : State) with tiller.pollAt := some (({ withCfg liv [(Fid.TL_ENABLE,0,1)] with tiller.keys := Tbl.set [] 63 { pressed := true, masked := true } } : State).advance ({} : At) : State).clock }, rfl, by decide +kernel, by decide +kernel, by decide +kernel, by decide +kernel, by decide +kernel, by decide +kernel, by decide +kernel⟩,
    ⟨{}, low (withCfg liv [(Fid.TL_ENABLE,0,7)]) [Rdy.tiller], (low (withCfg liv [(Fid.TL_ENABLE,0,7)]) [Rdy.tiller] : State).advance ({} : At), rfl, by decide +kernel, by decide +kernel⟩,
    ⟨{}, low (withCfg liv [(Fid.TL_ENABLE,0,7)]) [Rdy.tiller], (low (withCfg liv [(Fid.TL_ENABLE,0,7)]) [Rdy.tiller] : State).advance ({} : At), rfl, by decide +kernel⟩⟩

theorem witness_PairOperationsAndRoles :
    (∃ (a : At) (r : Req) (s : State) (t : State), t = s.advance a ∧ Safety.Asks false 27 0 r t ∧ r.target = 0 ∧ t.cfgN Fid.PAIR_ENABLE = 1) ∧
    (∃ (a : At) (r : Req) (s : State) (t : State), t = s.advance a ∧ Safety.Commands false 27 0 r t ∧ Safety.Holds t ∧ r.target = 0 ∧ t.cfgN Fid.PAIR_ENABLE = 1 ∧ t.rdy Rdy.mirror = true ∧ t.pair.role = .active) ∧
    (∃ (a : At) (f : MirrorFrame) (s : State) (t : State), t = s.advance a ∧ t.member = true ∧ t.pair.withdrawn = false ∧ t.mustWithdraw = false ∧ t.pair.lanesIn ≠ 0 ∧ t.validFrame f = true) ∧
    (∃ (a : At) (f : MirrorFrame) (s : State) (t : State), t = s.advance a ∧ (t.member = false ∨ t.pair.withdrawn = true ∨ t.mustWithdraw = true ∨ t.pair.lanesIn = 0 ∨ t.validFrame f = false)) ∧
    (∃ (a : At) (s : State) (t : State), t = s.advance a) ∧
    (∃ (a : At) (s : State) (t : State), t = s.advance a) ∧
    (∃ (a : At) (s : State) (t : State), t = s.advance a ∧ t.pair.role = .electing ∧ t.pair.withdrawn = false ∧ t.mustWithdraw = false ∧ t.grain = 0) ∧
    (∃ (a : At) (s : State) (t : State), t = s.advance a ∧ t.pair.role = .standby ∧ t.pair.withdrawn = false ∧ t.mustWithdraw = false ∧ t.grain = 0 ∧ (if t.pair.yielded then 3 else 2) ≤ t.signCount) ∧
    (∃ (a : At) (s : State) (t : State), t = s.advance a ∧ (t.pair.role ≠ .standby ∨ t.signCount < 2 ∨ t.grain ≠ 0)) ∧
    (∃ (a : At) (link : Bool) (s : State) (t : State), t = s.advance a ∧ t.pairActive = true ∧ t.grain = 0 ∧ t.mustYield = some link) ∧
    (∃ (a : At) (s : State) (t : State), t = s.advance a ∧ (t.pairActive = false ∨ t.mustYield = none ∨ t.grain ≠ 0)) ∧
    (∃ (a : At) (s : State) (t : State), t = s.advance a ∧ t.pair.yielded = true ∧ 64 ≤ t.pair.noSignTurns) ∧
    (∃ (a : At) (s : State) (t : State), t = s.advance a ∧ (t.pair.yielded = false ∨ t.pair.noSignTurns < 64)) ∧
    (∃ (a : At) (s : State) (t : State), t = s.advance a ∧ t.member = true ∧ t.pair.withdrawn = false ∧ t.mustWithdraw = true) ∧
    (∃ (a : At) (s : State) (t : State), t = s.advance a ∧ (t.member = false ∨ t.pair.withdrawn = true ∨ t.mustWithdraw = false)) ∧
    (∃ (a : At) (s : State) (t : State), t = s.advance a ∧ t.grain = 0 ∧ t.pair.withdrawn = false ∧ t.pair.role = .active ∧ t.pair.handover.isSome = true ∧ t.pair.handoverAt = t.now ∧ t.handoverClear = true) ∧
    (∃ (a : At) (p : PeerHeader) (s : State) (t : State), t = s.advance a ∧ t.grain = 0 ∧ t.pair.withdrawn = false ∧ t.pair.role = .standby ∧ t.pair.peer = some p ∧ p.role = 1 ∧ bitOf p.flags 1 = true ∧ p.handoverAt ≠ 0 ∧ t.linkFresh = true ∧ (t.fromPeer p.handoverAt).toNat < t.now.toNat + halfTurn) ∧
    (∃ (a : At) (s : State) (t : State), t = s.advance a ∧ (t.grain ≠ 0 ∨ t.pair.withdrawn = true ∨ (t.pair.role = .active ∧ (t.pair.handoverAt ≠ t.now ∨ t.handoverClear = false)) ∨ (t.pair.role = .standby ∧ t.linkFresh = false))) ∧
    (∃ (a : At) (s : State) (t : State), t = s.advance a ∧ t.pair.role = .standby ∧ t.pair.bulk = true ∧ t.linkFresh = true) ∧
    (∃ (a : At) (n : Nat) (readback : Bool) (s : State) (t : State), t = s.advance a ∧ t.pair.role = .standby ∧ t.pair.current = true ∧ n < 32 ∧ t.shared n = true ∧ t.chIsOut n = true ∧ t.fld.windows.contains n = false ∧ readback = (t.fld.owns.get n).peerLevel) ∧
    (∃ (a : At) (n : Nat) (readback : Bool) (s : State) (t : State), t = s.advance a ∧ t.pair.role = .standby ∧ t.pair.current = true ∧ n < 32 ∧ t.shared n = true ∧ t.chIsOut n = true ∧ t.fld.windows.contains n = false ∧ readback ≠ (t.fld.owns.get n).peerLevel) ∧
    (∃ (a : At) (s : State) (t : State), t = s.advance a ∧ t.pair.role = .standby ∧ t.cfgN Fid.PAIR_PHASE_ALIGN = 1 ∧ t.rdy Rdy.lock = true ∧ 16 ≤ t.pair.phiRun) ∧
    (∃ (a : At) (ticks : Nat) (s : State) (t : State), t = s.advance a ∧ t.pair.role = .standby ∧ t.rdy Rdy.almanac = true ∧ t.linkFresh = true ∧ 32768 < (((ticks % 2 ^ 48 : Nat) : Int) - t.alm.count.toNat).natAbs ∧ t.alm.writes = []) :=
  ⟨⟨{}, { fn := 27 }, { pr .active with pair.txSeq := 7 }, ({ pr .active with pair.txSeq := 7 } : State).advance ({} : At), rfl, asks_of (by decide +kernel), by decide +kernel, by decide +kernel⟩,
    ⟨{}, { fn := 27 }, pr .active, (pr .active : State).advance ({} : At), rfl, commands_of (by decide +kernel), ⟨by decide +kernel, by decide +kernel⟩, by decide +kernel, by decide +kernel, by decide +kernel, by decide +kernel⟩,
    ⟨{}, { role := 1, seq := 5, sendStamp := mkStamp 999 0, generation := 3 }, pr .standby, (pr .standby : State).advance ({} : At), rfl, by decide +kernel, by decide +kernel, by decide +kernel, by decide +kernel, by decide +kernel⟩,
    ⟨{}, { ok := false }, pr .standby, (pr .standby : State).advance ({} : At), rfl, by decide +kernel⟩,
    ⟨{}, pr .active, (pr .active : State).advance ({} : At), rfl⟩,
    ⟨{}, pr .active, (pr .active : State).advance ({} : At), rfl⟩,
    ⟨{}, { pr .electing with mer.stamp := mkStamp 1000 0, pair.electTurns := 100000 }, ({ pr .electing with mer.stamp := mkStamp 1000 0, pair.electTurns := 100000 } : State).advance ({} : At), rfl, by decide +kernel, by decide +kernel, by decide +kernel, by decide +kernel⟩,
    ⟨{}, { pr .standby with mer.stamp := mkStamp 1000 0 }, ({ pr .standby with mer.stamp := mkStamp 1000 0 } : State).advance ({} : At), rfl, by decide +kernel, by decide +kernel, by decide +kernel, by decide +kernel, by decide +kernel⟩,
    ⟨{}, { pr .active with mer.stamp := mkStamp 1000 0 }, ({ pr .active with mer.stamp := mkStamp 1000 0 } : State).advance ({} : At), rfl, by decide +kernel⟩,
    ⟨{}, true, { pr .active with mer.stamp := mkStamp 1000 0, pair.peer := some { role := 1, received := mkStamp 999 0, takeover := 5 }, pair.takeover := 9 }, ({ pr .active with mer.stamp := mkStamp 1000 0, pair.peer := some { role := 1, received := mkStamp 999 0, takeover := 5 }, pair.takeover := 9 } : State).advance ({} : At), rfl, by decide +kernel, by decide +kernel, by decide +kernel⟩,
    ⟨{}, { pr .active with mer.stamp := mkStamp 1000 0 }, ({ pr .active with mer.stamp := mkStamp 1000 0 } : State).advance ({} : At), rfl, by decide +kernel⟩,
    ⟨{}, { pr .standby with pair.yielded := true, pair.noSignTurns := 64 }, ({ pr .standby with pair.yielded := true, pair.noSignTurns := 64 } : State).advance ({} : At), rfl, by decide +kernel, by decide +kernel⟩,
    ⟨{}, { pr .standby with pair.yielded := true, pair.noSignTurns := 63 }, ({ pr .standby with pair.yielded := true, pair.noSignTurns := 63 } : State).advance ({} : At), rfl, by decide +kernel⟩,
    ⟨{}, { pr .standby with bin.autopilot := true }, ({ pr .standby with bin.autopilot := true } : State).advance ({} : At), rfl, by decide +kernel, by decide +kernel, by decide +kernel⟩,
    ⟨{}, pr .standby, (pr .standby : State).advance ({} : At), rfl, by decide +kernel⟩,
    ⟨{}, { pr .active with mer.stamp := mkStamp 1000 0, pair.handover := some (1, 2), pair.handoverAt := mkStamp 1000 0 }, ({ pr .active with mer.stamp := mkStamp 1000 0, pair.handover := some (1, 2), pair.handoverAt := mkStamp 1000 0 } : State).advance ({} : At), rfl, by decide +kernel, by decide +kernel, by decide +kernel, by decide +kernel, by decide +kernel, by decide +kernel⟩,
    ⟨{}, { role := 1, received := mkStamp 999 0, handoverAt := mkStamp 1000 5, flags := 2 }, { pr .standby with mer.stamp := mkStamp 1000 0, pair.peer := some { role := 1, received := mkStamp 999 0, handoverAt := mkStamp 1000 5, flags := 2 } }, ({ pr .standby with mer.stamp := mkStamp 1000 0, pair.peer := some { role := 1, received := mkStamp 999 0, handoverAt := mkStamp 1000 5, flags := 2 } } : State).advance ({} : At), rfl, by decide +kernel, by decide +kernel, by decide +kernel, by decide +kernel, by decide +kernel, by decide +kernel, by decide +kernel, by decide +kernel, by decide +kernel⟩,
    ⟨{}, { pr .active with mer.stamp := mkStamp 1000 0, pair.handover := some (1, 2), pair.handoverAt := mkStamp 1001 0 }, ({ pr .active with mer.stamp := mkStamp 1000 0, pair.handover := some (1, 2), pair.handoverAt := mkStamp 1001 0 } : State).advance ({} : At), rfl, by decide +kernel⟩,
    ⟨{}, { pr .standby with pair.bulk := true, pair.peer := some { role := 1, received := mkStamp 999 1048575 } }, ({ pr .standby with pair.bulk := true, pair.peer := some { role := 1, received := mkStamp 999 1048575 } } : State).advance ({} : At), rfl, by decide +kernel, by decide +kernel, by decide +kernel⟩,
    ⟨{}, 31, true, blk { pr .standby with pair.current := true, fld.ins := Tbl.set [] 31 { role := 3 }, fld.owns := Tbl.set [] 31 { peerLevel := true, disagreeRun := 3, agreeRun := 1 } } 3 [(Fid.FC_SHARED,31,1)], (blk { pr .standby with pair.current := true, fld.ins := Tbl.set [] 31 { role := 3 }, fld.owns := Tbl.set [] 31 { peerLevel := true, disagreeRun := 3, agreeRun := 1 } } 3 [(Fid.FC_SHARED,31,1)] : State).advance ({} : At), rfl, by decide +kernel, by decide +kernel, by decide +kernel, by decide +kernel, by decide +kernel, by decide +kernel, by decide +kernel⟩,
    ⟨{}, 31, false, blk { pr .standby with pair.current := true, fld.ins := Tbl.set [] 31 { role := 3 }, fld.owns := Tbl.set [] 31 { peerLevel := true, disagreeRun := 3, agreeRun := 1 } } 3 [(Fid.FC_SHARED,31,1)], (blk { pr .standby with pair.current := true, fld.ins := Tbl.set [] 31 { role := 3 }, fld.owns := Tbl.set [] 31 { peerLevel := true, disagreeRun := 3, agreeRun := 1 } } 3 [(Fid.FC_SHARED,31,1)] : State).advance ({} : At), rfl, by decide +kernel, by decide +kernel, by decide +kernel, by decide +kernel, by decide +kernel, by decide +kernel, by decide +kernel⟩,
    ⟨{}, withCfg { pr .standby with pair.phiRun := 16 } [(Fid.PAIR_PHASE_ALIGN,0,1)], (withCfg { pr .standby with pair.phiRun := 16 } [(Fid.PAIR_PHASE_ALIGN,0,1)] : State).advance ({} : At), rfl, by decide +kernel, by decide +kernel, by decide +kernel, by decide +kernel⟩,
    ⟨{}, 37769, { pr .standby with pair.peer := some { role := 1, received := mkStamp 999 1048575 } }, ({ pr .standby with pair.peer := some { role := 1, received := mkStamp 999 1048575 } } : State).advance ({} : At), rfl, by decide +kernel, by decide +kernel, by decide +kernel, by decide +kernel, by decide +kernel⟩⟩

theorem witness_IndexWrites :
    (∃ (a : At) (value : Nat) (s : State) (t : State), t = s.advance a ∧ t.rdy Rdy.binnacle = true ∧ (256 < (BitVec.ofNat 16 value - t.mb.reqCons).toNat ∨ 256 < (BitVec.ofNat 16 value - t.mb.reqProd).toNat)) ∧
    (∃ (a : At) (value : Nat) (s : State) (t : State), t = s.advance a ∧ t.rdy Rdy.binnacle = true ∧ (BitVec.ofNat 16 value - t.mb.reqCons).toNat ≤ 256 ∧ (BitVec.ofNat 16 value - t.mb.reqProd).toNat ≤ 256) ∧
    (∃ (a : At) (value : Nat) (s : State) (t : State), t = s.advance a ∧ t.rdy Rdy.binnacle = true ∧ (t.mb.rspProd - t.mb.rspCons).toNat < (BitVec.ofNat 16 value - t.mb.rspCons).toNat) ∧
    (∃ (a : At) (value : Nat) (s : State) (t : State), t = s.advance a ∧ t.rdy Rdy.binnacle = true ∧ (BitVec.ofNat 16 value - t.mb.rspCons).toNat ≤ (t.mb.rspProd - t.mb.rspCons).toNat) ∧
    (∃ (a : At) (value : Nat) (s : State) (t : State), t = s.advance a ∧ t.rdy Rdy.binnacle = true ∧ (t.mb.evtProd - t.mb.evtCons).toNat < (BitVec.ofNat 16 value - t.mb.evtCons).toNat) ∧
    (∃ (a : At) (value : Nat) (s : State) (t : State), t = s.advance a ∧ t.rdy Rdy.binnacle = true ∧ (BitVec.ofNat 16 value - t.mb.evtCons).toNat ≤ (t.mb.evtProd - t.mb.evtCons).toNat) :=
  ⟨⟨{}, 0x00F1, { liv with mb.reqProd := 0xFFFF, mb.reqCons := 0xFFF0 }, ({ liv with mb.reqProd := 0xFFFF, mb.reqCons := 0xFFF0 } : State).advance ({} : At), rfl, by decide +kernel, by decide +kernel⟩,
    ⟨{}, 0x00F0, { liv with mb.reqProd := 0xFFFF, mb.reqCons := 0xFFF0 }, ({ liv with mb.reqProd := 0xFFFF, mb.reqCons := 0xFFF0 } : State).advance ({} : At), rfl, by decide +kernel, by decide +kernel, by decide +kernel⟩,
    ⟨{}, 3, { liv with mb.rspProd := 2, mb.rspCons := 0xFFFF }, ({ liv with mb.rspProd := 2, mb.rspCons := 0xFFFF } : State).advance ({} : At), rfl, by decide +kernel, by decide +kernel⟩,
    ⟨{}, 2, { liv with mb.rspProd := 2, mb.rspCons := 0xFFFF }, ({ liv with mb.rspProd := 2, mb.rspCons := 0xFFFF } : State).advance ({} : At), rfl, by decide +kernel, by decide +kernel⟩,
    ⟨{}, 3, { liv with mb.evtProd := 2, mb.evtCons := 2 }, ({ liv with mb.evtProd := 2, mb.evtCons := 2 } : State).advance ({} : At), rfl, by decide +kernel, by decide +kernel⟩,
    ⟨{}, 2, { liv with mb.evtProd := 2, mb.evtCons := 1 }, ({ liv with mb.evtProd := 2, mb.evtCons := 1 } : State).advance ({} : At), rfl, by decide +kernel, by decide +kernel⟩⟩

theorem witness_WindowAndFallback :
    (∃ (a : At) (s : State) (t : State), t = s.advance a ∧ t.rdy Rdy.binnacle = true) ∧
    (∃ (a : At) (s : State) (t : State), t = s.advance a ∧ t.rdy Rdy.binnacle = true) ∧
    (∃ (a : At) (value : Nat) (s : State) (t : State), t = s.advance a ∧ t.rdy Rdy.binnacle = true ∧ bitOf value 0 = true ∧ t.mb.fbBusy = false) ∧
    (∃ (a : At) (value : Nat) (s : State) (t : State), t = s.advance a ∧ (t.mb.fbBusy = true ∨ bitOf value 0 = false)) ∧
    (∃ (a : At) (s : State) (t : State), t = s.advance a ∧ t.rdy Rdy.binnacle = true) ∧
    (∃ (a : At) (addr : Nat) (s : State) (t : State), t = s.advance a ∧ t.rdy Rdy.binnacle = true ∧ addr < 0x1000) ∧
    (∃ (a : At) (addr : Nat) (s : State) (t : State), t = s.advance a ∧ t.rdy Rdy.binnacle = true ∧ (0x100000 ≤ addr ∧ addr < 0x200000 ∨ 0x310000 ≤ addr ∧ addr < 0x311000)) ∧
    (∃ (a : At) (addr : Nat) (s : State) (t : State), t = s.advance a ∧ 0x1000 ≤ addr ∧ hostWritable addr = false) ∧
    (∃ (a : At) (bytes : List Byte) (s : State) (t : State), t = s.advance a ∧ bytes.length = 4) ∧
    (∃ (a : At) (bytes : List Byte) (s : State) (t : State), t = s.advance a ∧ bytes.length ≠ 4) ∧
    (∃ (a : At) (bytes : List Byte) (s : State) (t : State), t = s.advance a ∧ t.rdy Rdy.binnacle = true ∧ isMessage bytes = false) ∧
    (∃ (a : At) (bytes : List Byte) (s : State) (t : State), t = s.advance a ∧ t.rdy Rdy.binnacle = true ∧ isMessage bytes = true ∧ t.uartHeld < 4) ∧
    (∃ (a : At) (bytes : List Byte) (s : State) (t : State), t = s.advance a ∧ isMessage bytes = true ∧ 4 ≤ t.uartHeld) ∧
    (∃ (a : At) (s : State) (t : State), t = s.advance a ∧ t.rdy Rdy.binnacle = true) ∧
    (∃ (a : At) (s : State) (t : State), t = s.advance a ∧ t.rdy Rdy.binnacle = false) :=
  ⟨⟨{}, { liv with mb.irqStatus := 0xFF }, ({ liv with mb.irqStatus := 0xFF } : State).advance ({} : At), rfl, by decide +kernel⟩,
    ⟨{}, { liv with mb.evtLost := 4 }, ({ liv with mb.evtLost := 4 } : State).advance ({} : At), rfl, by decide +kernel⟩,
    ⟨{}, 1, liv, liv.advance ({} : At), rfl, by decide +kernel, by decide +kernel, by decide +kernel⟩,
    ⟨{}, 1, { liv with mb.fbBusy := true }, ({ liv with mb.fbBusy := true } : State).advance ({} : At), rfl, by decide +kernel⟩,
    ⟨{}, liv, liv.advance ({} : At), rfl, by decide +kernel⟩,
    ⟨{}, 0x32, liv, liv.advance ({} : At), rfl, by decide +kernel, by decide +kernel⟩,
    ⟨{}, 0x1FFFFE, liv, liv.advance ({} : At), rfl, by decide +kernel, by decide +kernel⟩,
    ⟨{}, 0x200000, liv, liv.advance ({} : At), rfl, by decide +kernel, by decide +kernel⟩,
    ⟨{}, [1, 0, 0, 0], liv, liv.advance ({} : At), rfl, by decide +kernel⟩,
    ⟨{}, [1, 0], liv, liv.advance ({} : At), rfl, by decide +kernel⟩,
    ⟨{}, [1, 2], liv, liv.advance ({} : At), rfl, by decide +kernel, by decide +kernel⟩,
    ⟨{}, message 0 9 5 0 0 0 0 0 0 [], { liv with mb.flights := [{ session := 3, tag := 1, order := 1 }, { session := 3, tag := 2, order := 2 }, { session := 3, tag := 3, order := 3 }], mb.orders := 3 }, ({ liv with mb.flights := [{ session := 3, tag := 1, order := 1 }, { session := 3, tag := 2, order := 2 }, { session := 3, tag := 3, order := 3 }], mb.orders := 3 } : State).advance ({} : At), rfl, by decide +kernel, by decide +kernel, by decide +kernel⟩,
    ⟨{}, message 0 9 5 0 0 0 0 0 0 [], { liv with mb.flights := [{ session := 3, tag := 1, order := 1 }, { session := 3, tag := 2, order := 2 }, { session := 3, tag := 3, order := 3 }, { session := 3, tag := 4, order := 4 }], mb.orders := 4 }, ({ liv with mb.flights := [{ session := 3, tag := 1, order := 1 }, { session := 3, tag := 2, order := 2 }, { session := 3, tag := 3, order := 3 }, { session := 3, tag := 4, order := 4 }], mb.orders := 4 } : State).advance ({} : At), rfl, by decide +kernel, by decide +kernel⟩,
    ⟨{}, liv, liv.advance ({} : At), rfl, by decide +kernel⟩,
    ⟨{}, State.reset, (State.reset : State).advance ({} : At), rfl, by decide +kernel⟩⟩

theorem witness_RequestsAndResponses :
    (∃ (a : At) (s : State) (t : State), t = s.advance a ∧ t.serves 1 = true ∧ t.barred 1 = false ∧ 0 < t.requests) ∧
    (∃ (a : At) (s : State) (t : State), t = s.advance a ∧ (t.serves 1 = false ∨ t.barred 1 = true ∨ t.requests = 0)) ∧
    (∃ (a : At) (f : Flight) (x : Resp) (s : State) (t : State), t = s.advance a ∧ t.serves 1 = true ∧ (t.mb.rspProd - t.mb.rspCons).toNat < 256 ∧ t.nextPost 1 = some f ∧ f.resp = some x ∧ f.session = 1 ∧ t.mb.waiting = []) ∧
    (∃ (a : At) (n : Nat) (f : Flight) (s : State) (t : State), t = s.advance a ∧ t.canPost n = true ∧ t.nextPost n = some f) ∧
    (∃ (a : At) (n : Nat) (s : State) (t : State), t = s.advance a ∧ (t.canPost n = false ∨ t.nextPost n = none)) ∧
    (∃ (a : At) (s : State) (t : State), t = s.advance a ∧ 256 ≤ (t.mb.rspProd - t.mb.rspCons).toNat) ∧
    (∃ (a : At) (s : State) (t : State), t = s.advance a ∧ t.udpListens = false) ∧
    (∃ (a : At) (bytes : List Byte) (s : State) (t : State), t = s.advance a ∧ t.udpListens = true ∧ fieldAt bytes 0 4 = 0) ∧
    (∃ (a : At) (bytes : List Byte) (s : State) (t : State), t = s.advance a ∧ t.udpListens = true ∧ fieldAt bytes 0 4 ≠ 0 ∧ t.udpSession (fieldAt bytes 0 4) = none) ∧
    (∃ (a : At) (bytes : List Byte) (v : UdpSession) (s : State) (t : State), t = s.advance a ∧ t.udpListens = true ∧ fieldAt bytes 0 4 ≠ 0 ∧ t.udpSession (fieldAt bytes 0 4) = some v) ∧
    (∃ (a : At) (bytes : List Byte) (v : UdpSession) (s : State) (t : State), t = s.advance a ∧ t.udpListens = true ∧ fieldAt bytes 0 4 ≠ 0 ∧ t.udpSession (fieldAt bytes 0 4) = some v ∧ v.macGood bytes = true ∧ v.seqNew (fieldAt ((bytes.drop 4).take (32 + fieldAt bytes 12 2)) 12 4) = true ∧ t.udpHeld < 256) ∧
    (∃ (a : At) (session : Nat) (v : UdpSession) (s : State) (t : State), t = s.advance a ∧ t.udpSession session = some v ∧ v.lastUs + t.cfgN Fid.SEC_UDP_IDLE * 1000000 ≤ t.clock) ∧
    (∃ (a : At) (s : State) (t : State), t = s.advance a ∧ t.tr.authRefused ≠ 0 ∧ t.tr.authLastTurn.any (fun n => decide (t.turn < n + 64)) = false) ∧
    (∃ (a : At) (s : State) (t : State), t = s.advance a ∧ (t.tr.authRefused = 0 ∨ t.tr.authLastTurn.any (fun n => decide (t.turn < n + 64)) = true)) :=
  ⟨⟨{}, { liv with mb.reqProd := 0, mb.reqCons := 0xFF00, mb.mem := Tbl.writeBytes [] 0x100000 (message 0 9 0 4 0 0 0 0 0 []) }, ({ liv with mb.reqProd := 0, mb.reqCons := 0xFF00, mb.mem := Tbl.writeBytes [] 0x100000 (message 0 9 0 4 0 0 0 0 0 []) } : State).advance ({} : At), rfl, by decide +kernel, by decide +kernel, by decide +kernel⟩,
    ⟨{}, liv, liv.advance ({} : At), rfl, by decide +kernel⟩,
    ⟨{}, { session := 1, tag := 3, order := 1, completed := 2, resp := some { payload := [1] } }, { payload := [1] }, { liv with mb.rspProd := 0xFFFF, mb.rspCons := 0xFFFF, mb.flights := [{ session := 1, tag := 3, order := 1, completed := 2, resp := some { payload := [1] } }] }, ({ liv with mb.rspProd := 0xFFFF, mb.rspCons := 0xFFFF, mb.flights := [{ session := 1, tag := 3, order := 1, completed := 2, resp := some { payload := [1] } }] } : State).advance ({} : At), rfl, by decide +kernel, by decide +kernel, by decide +kernel, by decide +kernel, by decide +kernel, by decide +kernel⟩,
    ⟨{}, 3, { session := 3, tag := 4, order := 2, completed := 1, resp := some { status := .done } }, { liv with mb.flights := [{ session := 3, tag := 4, order := 2, completed := 1, resp := some { status := .done } }] }, ({ liv with mb.flights := [{ session := 3, tag := 4, order := 2, completed := 1, resp := some { status := .done } }] } : State).advance ({} : At), rfl, by decide +kernel, by decide +kernel⟩,
    ⟨{}, 3, liv, liv.advance ({} : At), rfl, by decide +kernel⟩,
    ⟨{}, { liv with mb.rspProd := 0x00FF, mb.rspCons := 0xFFFF }, ({ liv with mb.rspProd := 0x00FF, mb.rspCons := 0xFFFF } : State).advance ({} : At), rfl, by decide +kernel⟩,
    ⟨{}, liv, liv.advance ({} : At), rfl, by decide +kernel⟩,
    ⟨{}, le 4 0 ++ message 0 9 5 2 0 0 0 0 0 [], udp, udp.advance ({} : At), rfl, by decide +kernel, by decide +kernel⟩,
    ⟨{}, le 4 17 ++ List.replicate 60 0, udp, udp.advance ({} : At), rfl, by decide +kernel, by decide +kernel, by decide +kernel⟩,
    ⟨{}, le 4 16 ++ List.replicate 60 0, { id := 16, ip := 7 }, udp, udp.advance ({} : At), rfl, by decide +kernel, by decide +kernel, by decide +kernel⟩,
    ⟨{}, le 4 16 ++ message 0 9 5 4 0 0 1 0 0 (List.replicate 32 1), { id := 16, ip := 7 }, udp, udp.advance ({} : At), rfl, by decide +kernel, by decide +kernel, by decide +kernel, by decide +kernel, by decide +kernel, by decide +kernel⟩,
    ⟨{}, 16, { id := 16, ip := 7 }, { udp with clock := 100000000000 }, ({ udp with clock := 100000000000 } : State).advance ({} : At), rfl, by decide +kernel, by decide +kernel⟩,
    ⟨{}, { udp with tr.authRefused := 3 }, ({ udp with tr.authRefused := 3 } : State).advance ({} : At), rfl, by decide +kernel, by decide +kernel⟩,
    ⟨{}, udp, udp.advance ({} : At), rfl, by decide +kernel⟩⟩

end Sys2Proof.Tests
end

/-! PROOFS. The head of the state: the queue of waiting commands and the READY word. What each function of the model leaves of it is said
once, in the order of the model's files; every function but the update of READY, the resets and the low-power states leaves it as it
was. So a command keeps the queue, and bits 29 to 31 of READY stay 0 (R18). -/

namespace Sys2Proof.Machine

/-- A queue of waiting commands and a READY word. -/
abbrev Head := List Instr × Word32

/-- What no meaning of a command writes but an update of READY: the queue of waiting commands and the READY word. -/
def State.head (s : State) : Head := (s.pending, s.ready)

@[simp] theorem State.head_mk {p fr ck r mb tr cfg nv log bin sen sup mer alm pair zones zio hostIn helm plan forecast occ profile snd
    inp fld out bus svc policy chart tiller} :
    State.head ⟨p, fr, ck, r, mb, tr, cfg, nv, log, bin, sen, sup, mer, alm, pair, zones, zio, hostIn, helm, plan, forecast, occ, profile,
      snd, inp, fld, out, bus, svc, policy, chart, tiller⟩ = (p, r) := by rfl

@[simp] theorem State.mk_head (s : State) : (s.pending, s.ready) = s.head := by rfl

@[simp] theorem State.ite_head (c : Prop) [Decidable c] (s t : State) :
    (if c then s else t).head = if c then s.head else t.head := apply_ite State.head c s t

@[simp] theorem State.when_head (c : Bool) (f : State → State) (s : State) :
    (State.when c f s).head = if c then (f s).head else s.head := State.ite_head (c = true) (f s) s

@[simp] theorem State.each_head {α : Type} (xs : List α) (f : α → State → State) (s : State) (h : ∀ x t, (f x t).head = t.head) :
    (State.each xs f s).head = s.head := State.each_keeps State.head xs f s h

@[simp] theorem foldl_head {α : Type} (xs : List α) (f : State → α → State) (s : State) (h : ∀ t x, (f t x).head = t.head) :
    (xs.foldl f s).head = s.head := foldl_keeps State.head xs f s h

@[simp] theorem State.ite_fst_head {α : Type} (c : Prop) [Decidable c] (x y : State × α) :
    (if c then x else y).1.head = if c then x.1.head else y.1.head := apply_ite (fun p => p.1.head) c x y

/-! ### Interrupts, records and the event ring -/

@[simp] theorem State.advance_head (a : At) (s : State) : (State.advance a s).head = s.head := by rfl
@[simp] theorem State.freeNext_head (s : State) : (State.freeNext s).head = s.head := by rfl
@[simp] theorem State.irq_head (n : Nat) (s : State) : (State.irq n s).head = s.head := by rfl
@[simp] theorem State.record_head (src sev code : Nat) (payload : List Byte) (posts : Bool) (target : Nat) (s : State) :
    (State.record src sev code payload posts target s).head = s.head := by rfl
@[simp] theorem State.record3_head (src sev code : Nat) (payload : List Byte) (target : Nat) (s : State) :
    (State.record3 src sev code payload target s).head = s.head := by rfl
@[simp] theorem State.readyRecord_head (w : Word32) (b : Nat) (s : State) : (State.readyRecord w b s).head = s.head := by
  unfold State.readyRecord; simp
@[simp] theorem State.putEvent_head (e : EvEntry) (s : State) : (State.putEvent e s).head = s.head := by rfl
@[simp] theorem State.dropEvent_head (s : State) : (State.dropEvent s).head = s.head := by rfl
@[simp] theorem State.putEventsLost_head (s : State) : (State.putEventsLost s).head = s.head := by rfl
@[simp] theorem State.postEvent_head (e : EvEntry) (s : State) : (State.postEvent e s).head = s.head := by
  unfold State.postEvent; simp

/-! ### The store as shared operations -/

@[simp] theorem State.unread_head (a len : Nat) (s : State) : (State.unread a len s).head = s.head := by
  unfold State.unread; simp
@[simp] theorem State.storeFullRecord_head (q : SaveReq) (s : State) : (State.storeFullRecord q s).head = s.head := by rfl
@[simp] theorem State.saveNow_head (q : SaveReq) (s : State) : (State.saveNow q s).2.head = s.head := by
  unfold State.saveNow; (repeat' split) <;> simp
@[simp] theorem State.save_head (q : SaveReq) (s : State) : (State.save q s).head = s.head := by rfl
@[simp] theorem State.forget_head (typ key : Nat) (s : State) : (State.forget typ key s).head = s.head := by
  unfold State.forget; simp
@[simp] theorem State.count_head (n a : Nat) (s : State) : (State.count n a s).head = s.head := by rfl

/-! ### What every mailbox operation shares -/

@[simp] theorem State.setSession_head (n : Nat) (x : Session) (s : State) : (State.setSession n x s).head = s.head := by
  unfold State.setSession; simp
@[simp] theorem State.addFlight_head (d : OpDef) (r : Req) (s : State) : (State.addFlight d r s).head = s.head := by rfl
@[simp] theorem State.reject_head (cls opcode : Nat) (r : Req) (st : Status) (s : State) :
    (State.reject cls opcode r st s).head = s.head := by rfl
@[simp] theorem State.finishIf_head (p : Flight → Bool) (x : Resp) (s : State) : (State.finishIf p x s).head = s.head := by rfl
@[simp] theorem State.finish_head (n tag : Nat) (x : Resp) (s : State) : (State.finish n tag x s).head = s.head := by rfl
@[simp] theorem State.answer_head (w : Option Waiter) (x : Resp) (s : State) : (State.answer w x s).head = s.head := by
  unfold State.answer; split <;> simp
@[simp] theorem State.ok_head (s : State) (payload : List Byte) : (State.ok s payload).1.head = s.head := by rfl
@[simp] theorem State.fail_head (s : State) (st : Status) : (State.fail s st).1.head = s.head := by rfl
@[simp] theorem State.addInterim_head (d : OpDef) (r : Req) (x : Resp) (s : State) : (State.addInterim d r x s).head = s.head := by
  unfold State.addInterim; simp
@[simp] theorem State.settle_head (s : State) : (State.settle s).head = s.head := by
  unfold State.settle; simp
@[simp] theorem State.ringResponse_head (bs : List Byte) (s : State) : (State.ringResponse bs s).head = s.head := by rfl
@[simp] theorem State.fbResponse_head (bs : List Byte) (s : State) : (State.fbResponse bs s).head = s.head := by rfl
@[simp] theorem State.udpResponse_head (u : UdpSession) (mac : Bool) (seq : Nat) (bs : List Byte) (s : State) :
    (State.udpResponse u mac seq bs s).head = s.head := by rfl
@[simp] theorem State.send_head (f : Flight) (x : Resp) (s : State) : (State.send f x s).head = s.head := by
  unfold State.send; (repeat' split) <;> simp
@[simp] theorem State.postNext_head (n : Nat) (s : State) : (State.postNext n s).head = s.head := by
  unfold State.postNext; (repeat' split) <;> simp
@[simp] theorem State.endInterims_head (p : Interim → Bool) (fate : Fate) (st : Status) (result : List Byte) (s : State) :
    (State.endInterims p fate st result s).head = s.head := by
  unfold State.endInterims; simp
@[simp] theorem State.abortFn_head (fn : Nat) (s : State) : (State.abortFn fn s).head = s.head := by
  unfold State.abortFn; simp

/-! ### The Logbook -/

@[simp] theorem State.openWindow_head (seq : Nat) (s : State) : (State.openWindow seq s).head = s.head := by
  unfold State.openWindow; (repeat' split) <;> simp
@[simp] theorem State.recordWritten_head (r : LogRec) (slot seq : Nat) (s : State) :
    (State.recordWritten r slot seq s).head = s.head := by
  unfold State.recordWritten; simp
@[simp] theorem State.noteOverflow_head (s : State) : (State.noteOverflow s).head = s.head := by
  unfold State.noteOverflow; simp
theorem State.fillPage_head (fuel page : Nat) (bs : List Byte) (s : State) : (State.fillPage fuel page bs s).2.head = s.head := by
  induction fuel generalizing bs s with
  | zero => rfl
  | succ fuel ih =>
    rw [State.fillPage]
    split
    · rfl
    · dsimp only
      split
      · rfl
      · rw [ih]; simp

@[simp] theorem State.writeLog_head (s : State) : (State.writeLog s).head = s.head := by
  unfold State.writeLog; split
  · rfl
  · simp [State.fillPage_head]
@[simp] theorem logReadBody_head (r : Req) (s : State) : (logReadBody r s).1.head = s.head := by
  unfold logReadBody; dsimp only; split <;> simp
@[simp] theorem State.saveBinnacle_head (s : State) : (State.saveBinnacle s).head = s.head := by rfl
/-- Whatever a write made at once answers, it leaves the head as it was. -/
theorem State.saveNow_head_of {x : SaveReq} {s t : State} {st : Status} (h : s.saveNow x = (st, t)) : t.head = s.head := by
  rw [← State.saveNow_head x s, h]

@[simp] theorem logAckBody_head (r : Req) (s : State) : (logAckBody r s).1.head = s.head := by
  unfold logAckBody; dsimp only; split
  · simp
  · split <;> simpa using State.saveNow_head_of ‹_›

/-! ### Concordance -/

@[simp] theorem State.takePoint_head (transition : Bool) (s : State) : (State.takePoint transition s).head = s.head := by rfl
@[simp] theorem State.takeSetPoint_head (ticks epoch : Nat) (s : State) : (State.takeSetPoint ticks epoch s).head = s.head := by
  unfold State.takeSetPoint; simp
@[simp] theorem State.concordRecord_head (s : State) : (State.concordRecord s).head = s.head := by rfl
@[simp] theorem State.merRecord_head (sev code : Nat) (payload : List Byte) (s : State) :
    (State.merRecord sev code payload s).head = s.head := by rfl
@[simp] theorem concordReadBody_head (r : Req) (s : State) : (concordReadBody r s).1.head = s.head := by rfl

/-! ### Meridian -/

@[simp] theorem State.trackRate_head (s : State) : (State.trackRate s).head = s.head := by rfl
@[simp] theorem State.agoPin_head (n : Nat) (active : Bool) (s : State) : (State.agoPin n active s).head = s.head := by rfl
@[simp] theorem State.agoUnlock_head (s : State) : (State.agoUnlock s).head = s.head := by
  unfold State.agoUnlock; simp
@[simp] theorem State.agoStopsAnew_head (s : State) : (State.agoStopsAnew s).head = s.head := by
  unfold State.agoStopsAnew; simp
@[simp] theorem State.enterQualify_head (s : State) : (State.enterQualify s).head = s.head := by rfl
@[simp] theorem State.enterCapture_head (s : State) : (State.enterCapture s).head = s.head := by rfl
@[simp] theorem State.enterRelock_head (cause : Nat) (s : State) : (State.enterRelock cause s).head = s.head := by rfl
@[simp] theorem State.qualified_head (s : State) : (State.qualified s).head = s.head := by
  unfold State.qualified; simp
@[simp] theorem State.captureCrossing_head (s : State) : (State.captureCrossing s).head = s.head := by
  unfold State.captureCrossing; simp
@[simp] theorem State.relockTo_head (e : Int) (s : State) : (State.relockTo e s).head = s.head := by
  unfold State.relockTo; simp
@[simp] theorem State.fitUpdate_head (hz amp toEnd : Nat) (s : State) : (State.fitUpdate hz amp toEnd s).head = s.head := by
  unfold State.fitUpdate; dsimp only; split <;> simp
@[simp] theorem State.nominal_head (s : State) : (State.nominal s).head = s.head := by
  unfold State.nominal; simp
@[simp] theorem State.captureEnds_head (s : State) : (State.captureEnds s).head = s.head := by
  unfold State.captureEnds; simp
@[simp] theorem State.markTurn_head (s : State) : (State.markTurn s).head = s.head := by rfl
@[simp] theorem State.assignT0_head (s : State) : (State.assignT0 s).head = s.head := by rfl
@[simp] theorem State.slotEffects_head (s : State) : (State.slotEffects s).head = s.head := by rfl
@[simp] theorem State.clearHostSlots_head (s : State) : (State.clearHostSlots s).head = s.head := by rfl
@[simp] theorem slotReadBody_head (r : Req) (s : State) : (slotReadBody r s).1.head = s.head := by rfl
@[simp] theorem slotWriteBody_head (r : Req) (s : State) : (slotWriteBody r s).1.head = s.head := by rfl

/-! ### The store at work -/

@[simp] theorem State.pageOp_head (f : JrnFate) (s : State) : (State.pageOp f s).head = s.head := by
  unfold State.pageOp; (repeat' split) <;> simp
@[simp] theorem State.sheafStep_head (cut : Bool) (s : State) : (State.sheafStep cut s).head = s.head := by
  unfold State.sheafStep; (repeat' split) <;> simp
@[simp] theorem State.recordWrite_head (s : State) : (State.recordWrite s).head = s.head := by
  unfold State.recordWrite; dsimp only; (repeat' split) <;> simp
@[simp] theorem State.compaction_head (s : State) : (State.compaction s).head = s.head := by
  unfold State.compaction; dsimp only; (repeat' split) <;> simp
@[simp] theorem State.sheafLost_head (before : Nv) (ns : List Nat) (s : State) : (State.sheafLost before ns s).head = s.head := by
  unfold State.sheafLost; simp
@[simp] theorem State.eccFound_head (page : Nat) (corrected bad : List Nat) (s : State) :
    (State.eccFound page corrected bad s).head = s.head := by
  unfold State.eccFound; simp
@[simp] theorem State.eccSummary_head (s : State) : (State.eccSummary s).head = s.head := by
  unfold State.eccSummary; simp
@[simp] theorem State.updateRecord_head (binnacle : Bool) (slot event version : Nat) (s : State) :
    (State.updateRecord binnacle slot event version s).head = s.head := by rfl
@[simp] theorem State.failTrial_head (i : Nat) (s : State) : (State.failTrial i s).head = s.head := by
  unfold State.failTrial; simp
@[simp] theorem State.restoreBinnacle_head (s : State) : (State.restoreBinnacle s).head = s.head := by
  unfold State.restoreBinnacle; dsimp only; split <;> simp
@[simp] theorem State.loadTimeBase_head (s : State) : (State.loadTimeBase s).head = s.head := by
  unfold State.loadTimeBase; split <;> simp
@[simp] theorem State.recoverStore_head (s : State) : (State.recoverStore s).head = s.head := by
  unfold State.recoverStore; simp
@[simp] theorem State.holdFromT0_head (s : State) : (State.holdFromT0 s).head = s.head := by
  unfold State.holdFromT0; simp

/-! ### The Almanac -/

@[simp] theorem State.alarmRecord_head (n : Nat) (offline : Bool) (s : State) : (State.alarmRecord n offline s).head = s.head := by rfl
@[simp] theorem State.fireAlarm_head (n cause : Nat) (s : State) : (State.fireAlarm n cause s).head = s.head := by
  unfold State.fireAlarm; simp
@[simp] theorem State.discardPlan_head (cause : Nat) (s : State) : (State.discardPlan cause s).head = s.head := by
  unfold State.discardPlan; simp
@[simp] theorem State.saveTimeBase_head (s : State) : (State.saveTimeBase s).head = s.head := by rfl
@[simp] theorem State.countCommit_head (before value : Nat) (s : State) : (State.countCommit before value s).head = s.head := by
  unfold State.countCommit; simp
@[simp] theorem State.alarmEval_head (n : Nat) (armed : Bool) (moved : Option Nat) (s : State) :
    (State.alarmEval n armed moved s).head = s.head := by
  unfold State.alarmEval; simp
@[simp] theorem State.commitEdge_head (s : State) : (State.commitEdge s).head = s.head := by
  unfold State.commitEdge; dsimp only; (repeat' split) <;> simp
@[simp] theorem State.lockAlmanac_head (s : State) : (State.lockAlmanac s).head = s.head := by
  unfold State.lockAlmanac; simp
@[simp] theorem State.domainPowerOn_head (s : State) : (State.domainPowerOn s).head = s.head := by rfl

/-! ### Owners -/

@[simp] theorem State.policyOwners_head (s : State) : (State.policyOwners s).head = s.head := by rfl

/-! ### Analogue and angle outputs -/

@[simp] theorem State.aoLatchOne_head (n : Nat) (s : State) : (State.aoLatchOne n s).head = s.head := by
  unfold State.aoLatchOne; simp
@[simp] theorem State.aoLatch_head (mask : Nat) (s : State) : (State.aoLatch mask s).head = s.head := by
  unfold State.aoLatch; simp
@[simp] theorem State.aoToSafe_head (n : Nat) (s : State) : (State.aoToSafe n s).head = s.head := by rfl
@[simp] theorem State.agoHostRises_head (s : State) : (State.agoHostRises s).head = s.head := by
  unfold State.agoHostRises; simp
@[simp] theorem State.agoHighZ_head (n : Nat) (s : State) : (State.agoHighZ n s).head = s.head := by rfl
@[simp] theorem State.aoMonitorRecords_head (n : Nat) (before after : Ao) (s : State) :
    (State.aoMonitorRecords n before after s).head = s.head := by
  unfold State.aoMonitorRecords; simp
@[simp] theorem State.aoMonitor_head (n mv : Nat) (current : Int) (limiting : Bool) (s : State) :
    (State.aoMonitor n mv current limiting s).head = s.head := by
  unfold State.aoMonitor; simp
@[simp] theorem State.agoDrive_head (n : Nat) (s : State) : (State.agoDrive n s).head = s.head := by
  unfold State.agoDrive; simp
@[simp] theorem State.agoLatchOne_head (n : Nat) (s : State) : (State.agoLatchOne n s).head = s.head := by
  unfold State.agoLatchOne; simp
@[simp] theorem State.agoResume_head (n : Nat) (s : State) : (State.agoResume n s).head = s.head := by
  unfold State.agoResume; simp
@[simp] theorem State.agoLatch_head (n : Nat) (s : State) : (State.agoLatch n s).head = s.head := by
  unfold State.agoLatch; dsimp only; split <;> simp
@[simp] theorem State.agoHostAction_head (n act : Nat) (s : State) : (State.agoHostAction n act s).head = s.head := by
  unfold State.agoHostAction; simp
@[simp] theorem State.setForce_head (kind n : Nat) (f : Option Force) (s : State) : (State.setForce kind n f s).head = s.head := by
  unfold State.setForce; simp
@[simp] theorem State.performForce_head (kind n : Nat) (release : Bool) (value duration : Nat) (s : State) :
    (State.performForce kind n release value duration s).head = s.head := by
  unfold State.performForce; simp
@[simp] theorem State.askForce_head (kind n : Nat) (release : Bool) (value duration : Nat) (s : State) :
    (State.askForce kind n release value duration s).1.head = s.head := by
  unfold State.askForce; split <;> simp

/-! ### Input images -/

@[simp] theorem State.snapRefs_head (z : Nat) (s : State) : (State.snapRefs z s).head = s.head := by rfl
@[simp] theorem State.snapZone_head (z : Nat) (s : State) : (State.snapZone z s).head = s.head := by rfl
@[simp] theorem State.snapFloor_head (s : State) : (State.snapFloor s).head = s.head := by
  unfold State.snapFloor; (repeat' split) <;> simp
@[simp] theorem State.snapLoop_head (n : Nat) (s : State) : (State.snapLoop n s).head = s.head := by
  unfold State.snapLoop; simp
@[simp] theorem State.sampleFirst_head (s : State) : (State.sampleFirst s).head = s.head := by
  unfold State.sampleFirst; simp

/-! ### Zones -/

@[simp] theorem State.formRefs_head (z : Nat) (s : State) : (State.formRefs z s).head = s.head := by rfl
@[simp] theorem State.setMode_head (z : Nat) (m : ZMode) (s : State) : (State.setMode z m s).head = s.head := by
  unfold State.setMode; simp
@[simp] theorem State.refreshStatus_head (z : Nat) (s : State) : (State.refreshStatus z s).head = s.head := by rfl
@[simp] theorem State.setPrio_head (isRef : Bool) (z k slot : Nat) (v : Option Word32) (s : State) :
    (State.setPrio isRef z k slot v s).head = s.head := by
  unfold State.setPrio; simp
@[simp] theorem State.setHostValue_head (isY : Bool) (z k : Nat) (v : Option Word32) (s : State) :
    (State.setHostValue isY z k v s).head = s.head := by
  unfold State.setHostValue; simp
@[simp] theorem State.writeSignal_head (z sig slot : Nat) (v : Option Word32) (s : State) :
    (State.writeSignal z sig slot v s).1.head = s.head := by
  unfold State.writeSignal; split <;> simp

/-! ### Model banks -/

@[simp] theorem State.planModelDue_head (s : State) : (State.planModelDue s).head = s.head := by rfl
@[simp] theorem State.resetAllW_head (s : State) : (State.resetAllW s).head = s.head := by rfl
@[simp] theorem State.bankAnswer_head (w : Option Waiter) (y : Resp) (s : State) : (State.bankAnswer w y s).head = s.head := by
  unfold State.bankAnswer; split <;> simp
@[simp] theorem State.performWrite_head (host shadow : Bool) (kind num first : Nat) (vs : List Word32) (w : Option Waiter) (s : State) :
    (State.performWrite host shadow kind num first vs w s).head = s.head := by
  unfold State.performWrite; simp
@[simp] theorem State.performSwap_head (sounded : Option Nat) (w : Option Waiter) (s : State) :
    (State.performSwap sounded w s).head = s.head := by
  unfold State.performSwap; split <;> simp
@[simp] theorem State.performCopy_head (b : Bank) (w : Option Waiter) (s : State) : (State.performCopy b w s).head = s.head := by
  unfold State.performCopy; simp
@[simp] theorem State.mirrored_head (op : BankOp) (s : State) : (State.mirrored op s).head = s.head := by
  unfold State.mirrored; simp
@[simp] theorem State.serveQueue_head (fuel used : Nat) (first : Bool) (s : State) :
    (State.serveQueue fuel used first s).head = s.head := by
  induction fuel generalizing used first s with
  | zero => rfl
  | succ fuel ih =>
    rw [State.serveQueue]
    split
    · rfl
    · split
      · rfl
      · dsimp only; split <;> simp [ih]

@[simp] theorem State.serveAccepted_head (s : State) : (State.serveAccepted s).head = s.head := by
  unfold State.serveAccepted; simp
@[simp] theorem State.bankOps_head (s : State) : (State.bankOps s).head = s.head := by
  unfold State.bankOps; split <;> simp
@[simp] theorem State.enqueue_head (ops : List BankOp) (s : State) : (State.enqueue ops s).head = s.head := by rfl
@[simp] theorem State.dropBankQueue_head (s : State) : (State.dropBankQueue s).head = s.head := by rfl
@[simp] theorem State.clearDiag_head (kind num : Nat) (s : State) : (State.clearDiag kind num s).head = s.head := by
  unfold State.clearDiag; simp
@[simp] theorem State.bankNotSaved_head (pending : Bool) (s : State) : (State.bankNotSaved pending s).head = s.head := by rfl
@[simp] theorem State.saveBank_head (s : State) : (State.saveBank s).head = s.head := by
  unfold State.saveBank; (repeat' split) <;> simp
@[simp] theorem State.loadZone_head (z : Nat) (p : List Byte) (s : State) : (State.loadZone z p s).head = s.head := by
  unfold State.loadZone; simp
@[simp] theorem State.loadLoop_head (n : Nat) (p : List Byte) (s : State) : (State.loadLoop n p s).head = s.head := by
  unfold State.loadLoop; simp
@[simp] theorem State.loadBanks_head (s : State) : (State.loadBanks s).head = s.head := by
  unfold State.loadBanks; simp

/-! ### The Chart -/

@[simp] theorem State.chartPhase_head (s : State) : (State.chartPhase s).head = s.head := by
  unfold State.chartPhase; dsimp only; (repeat' split) <;> simp
@[simp] theorem State.chooseBand_head (s : State) : (State.chooseBand s).head = s.head := by
  unfold State.chooseBand; simp
@[simp] theorem State.ledgerPut_head (state frame : Nat) (balance : Tbl Int) (s : State) :
    (State.ledgerPut state frame balance s).head = s.head := by rfl
@[simp] theorem State.loadLedger_head (s : State) : (State.loadLedger s).head = s.head := by
  unfold State.loadLedger; split <;> simp
@[simp] theorem State.dropLedgerOps_head (s : State) : (State.dropLedgerOps s).head = s.head := by rfl
@[simp] theorem State.chartInterrupt_head (s : State) : (State.chartInterrupt s).head = s.head := by
  unfold State.chartInterrupt; simp
@[simp] theorem State.framePage_head (s : State) : (State.framePage s).head = s.head := by rfl
@[simp] theorem State.updateStart_head (s : State) : (State.updateStart s).head = s.head := by
  unfold State.updateStart; simp
@[simp] theorem State.endChartWrite_head (newest : Bool) (fate : Fate) (s : State) :
    (State.endChartWrite newest fate s).head = s.head := by
  unfold State.endChartWrite; dsimp only; split <;> simp
@[simp] theorem State.chartRises_head (s : State) : (State.chartRises s).head = s.head := by
  unfold State.chartRises; simp
@[simp] theorem State.chartDown_head (s : State) : (State.chartDown s).head = s.head := by
  unfold State.chartDown; simp
@[simp] theorem State.chartTurn_head (s : State) : (State.chartTurn s).head = s.head := by rfl
@[simp] theorem State.pumpSampled_head (s : State) : (State.pumpSampled s).head = s.head := by
  unfold State.pumpSampled; simp
@[simp] theorem State.chartCommit_head (old : State) (s : State) : (State.chartCommit old s).head = s.head := by
  unfold State.chartCommit; simp
@[simp] theorem State.chartJudge_head (n : Nat) (s : State) : (State.chartJudge n s).head = s.head := by
  unfold State.chartJudge; simp

/-! ### Soundings -/

@[simp] theorem State.sndErase_head (area : Nat) (s : State) : (State.sndErase area s).head = s.head := by rfl
@[simp] theorem State.sndEvict_head (area : Nat) (s : State) : (State.sndEvict area s).head = s.head := by rfl
@[simp] theorem State.sndAccept_head (z area : Nat) (p : List Byte) (s : State) : (State.sndAccept z area p s).head = s.head := by rfl
@[simp] theorem State.sndTake_head (z : Nat) (p : List Byte) (s : State) : (State.sndTake z p s).1.head = s.head := by
  unfold State.sndTake; split <;> simp
@[simp] theorem State.sndVanish_head (z : Nat) (s : State) : (State.sndVanish z s).head = s.head := by
  unfold State.sndVanish; simp
@[simp] theorem State.enterMode_head (z : Nat) (m : ZMode) (s : State) : (State.enterMode z m s).head = s.head := by
  unfold State.enterMode; simp
@[simp] theorem State.sndBegin_head (z : Nat) (s : State) : (State.sndBegin z s).head = s.head := by
  unfold State.sndBegin; simp
@[simp] theorem State.sndStarts_head (s : State) : (State.sndStarts s).head = s.head := by
  unfold State.sndStarts; simp
@[simp] theorem State.sndStore_head (z : Nat) (s : State) : (State.sndStore z s).head = s.head := by rfl
@[simp] theorem State.sndSample_head (z : Nat) (u : Tbl Word32) (s : State) : (State.sndSample z u s).head = s.head := by
  unfold State.sndSample; simp
@[simp] theorem State.sndLeave_head (z : Nat) (m : Option ZMode) (s : State) : (State.sndLeave z m s).head = s.head := by rfl
@[simp] theorem State.sndEnd_head (cause z : Nat) (o : Sounding) (s : State) : (State.sndEnd cause z o s).head = s.head := by
  unfold State.sndEnd; simp
@[simp] theorem State.sndAbort_head (cause z : Nat) (s : State) : (State.sndAbort cause z s).head = s.head := by
  unfold State.sndAbort; simp
@[simp] theorem State.sndDropDeferred_head (z : Nat) (s : State) : (State.sndDropDeferred z s).head = s.head := by
  unfold State.sndDropDeferred; simp
@[simp] theorem State.writeMode_head (z : Nat) (m : ZMode) (s : State) : (State.writeMode z m s).1.head = s.head := by
  unfold State.writeMode; dsimp only; (repeat' split) <;> simp
@[simp] theorem State.modesTakeEffect_head (s : State) : (State.modesTakeEffect s).head = s.head := by
  unfold State.modesTakeEffect; simp
@[simp] theorem State.sndDeliver_head (z mode force : Nat) (o : Sounding) (w : Option Waiter) (s : State) :
    (State.sndDeliver z mode force o w s).head = s.head := by
  unfold State.sndDeliver; simp

/-! ### Helm -/

@[simp] theorem State.blindRecord_head (z : Nat) (begins reached : Bool) (s : State) :
    (State.blindRecord z begins reached s).head = s.head := by rfl
@[simp] theorem State.blindStep_head (z : Nat) (s : State) : (State.blindStep z s).head = s.head := by
  unfold State.blindStep; dsimp only; split <;> simp
@[simp] theorem State.occSample_head (z : Nat) (s : State) : (State.occSample z s).head = s.head := by
  unfold State.occSample; simp
@[simp] theorem State.computeZone_head (z : Nat) (s : State) : (State.computeZone z s).head = s.head := by
  unfold State.computeZone; simp
@[simp] theorem State.computeLoop_head (n : Nat) (s : State) : (State.computeLoop n s).head = s.head := by rfl
@[simp] theorem State.loopSample_head (n : Nat) (s : State) : (State.loopSample n s).head = s.head := by
  unfold State.loopSample; simp
@[simp] theorem State.sndLost_head (s : State) : (State.sndLost s).head = s.head := by
  unfold State.sndLost; simp
@[simp] theorem State.helmSample_head (s : State) : (State.helmSample s).head = s.head := by
  unfold State.helmSample; simp
@[simp] theorem State.clampRecord_head (z mask : Nat) (s : State) : (State.clampRecord z mask s).head = s.head := by
  unfold State.clampRecord; simp
@[simp] theorem State.warmUp_head (z : Nat) (s : State) : (State.warmUp z s).head = s.head := by rfl
@[simp] theorem State.applyZone_head (z : Nat) (s : State) : (State.applyZone z s).head = s.head := by
  unfold State.applyZone; simp
@[simp] theorem State.dropZone_head (z : Nat) (s : State) : (State.dropZone z s).head = s.head := by rfl
@[simp] theorem State.warmLoop_head (n : Nat) (s : State) : (State.warmLoop n s).head = s.head := by rfl
@[simp] theorem State.formAllRefs_head (s : State) : (State.formAllRefs s).head = s.head := by
  unfold State.formAllRefs; simp
@[simp] theorem State.loopApply_head (n late : Nat) (s : State) : (State.loopApply n late s).head = s.head := by
  unfold State.loopApply; simp

/-! ### Field channels -/

@[simp] theorem State.group_head (g : Nat) (f : Group → Group) (s : State) : (State.group g f s).head = s.head := by rfl
@[simp] theorem State.chOut_head (n : Nat) (f : ChOut → ChOut) (s : State) : (State.chOut n f s).head = s.head := by rfl
@[simp] theorem State.chIn_head (n : Nat) (f : ChIn → ChIn) (s : State) : (State.chIn n f s).head = s.head := by rfl
@[simp] theorem State.chPin_head (n : Nat) (s : State) : (State.chPin n s).head = s.head := by
  unfold State.chPin; simp
@[simp] theorem State.chLevel_head (n : Nat) (on : Bool) (s : State) : (State.chLevel n on s).head = s.head := by
  unfold State.chLevel; simp
@[simp] theorem State.groupPins_head (g : Nat) (s : State) : (State.groupPins g s).head = s.head := by
  unfold State.groupPins; simp
@[simp] theorem State.fieldEvent_head (g sev code : Nat) (payload : List Byte) (target : Nat) (s : State) :
    (State.fieldEvent g sev code payload target s).head = s.head := by
  unfold State.fieldEvent; simp
@[simp] theorem State.faultCleared_head (n : Nat) (s : State) : (State.faultCleared n s).head = s.head := by
  unfold State.faultCleared; simp
@[simp] theorem State.safeRecord_head (g : Nat) (entered : Bool) (s : State) : (State.safeRecord g entered s).head = s.head := by
  unfold State.safeRecord; simp
@[simp] theorem State.vfieldRecord_head (g what : Nat) (s : State) : (State.vfieldRecord g what s).head = s.head := by
  unfold State.vfieldRecord; simp
@[simp] theorem State.enterSafe_head (g : Nat) (s : State) : (State.enterSafe g s).head = s.head := by
  unfold State.enterSafe; simp
@[simp] theorem State.groupPowerOn_head (g : Nat) (s : State) : (State.groupPowerOn g s).head = s.head := by
  unfold State.groupPowerOn; simp
@[simp] theorem State.groupUnpowered_head (g : Nat) (s : State) : (State.groupUnpowered g s).head = s.head := by
  unfold State.groupUnpowered; simp
@[simp] theorem State.sleepBarrier_head (s : State) : (State.sleepBarrier s).head = s.head := by
  unfold State.sleepBarrier; simp
@[simp] theorem State.barrierOn_head (s : State) : (State.barrierOn s).head = s.head := by
  unfold State.barrierOn; simp
@[simp] theorem State.ringEdge_head (g : Nat) (e : Edge) (s : State) : (State.ringEdge g e s).head = s.head := by
  unfold State.ringEdge; simp
@[simp] theorem State.bufferEdge_head (n : Nat) (e : Edge) (s : State) : (State.bufferEdge n e s).head = s.head := by
  unfold State.bufferEdge; simp
@[simp] theorem State.acceptState_head (n : Nat) (on : Bool) (x : Stamp) (s : State) : (State.acceptState n on x s).head = s.head := by
  unfold State.acceptState; simp
@[simp] theorem State.wireReading_head (n ua : Nat) (x : Stamp) (s₀ : State) : (State.wireReading n ua x s₀).head = s₀.head := by
  unfold State.wireReading; dsimp only; split
  · simp
  · split <;> simp
  · simp
@[simp] theorem State.closeGate_head (n : Nat) (s : State) : (State.closeGate n s).head = s.head := by
  unfold State.closeGate; simp
@[simp] theorem State.linkStart_head (g : Nat) (s : State) : (State.linkStart g s).head = s.head := by
  unfold State.linkStart; simp
@[simp] theorem State.deliverEdges_head (g : Nat) (s : State) : (State.deliverEdges g s).head = s.head := by
  unfold State.deliverEdges; simp
@[simp] theorem State.reportHeld_head (g : Nat) (s : State) : (State.reportHeld g s).head = s.head := by
  unfold State.reportHeld; simp
@[simp] theorem State.takeBlock_head (old : State) (n : Nat) (s : State) : (State.takeBlock old n s).head = s.head := by
  unfold State.takeBlock; simp
@[simp] theorem State.chApply_head (n : Nat) (s : State) : (State.chApply n s).head = s.head := by
  unfold State.chApply; simp
@[simp] theorem State.fieldApply_head (mask : Nat) (s : State) : (State.fieldApply mask s).head = s.head := by
  unfold State.fieldApply; simp
@[simp] theorem State.tpoStart_head (n : Nat) (v : Word32) (s : State) : (State.tpoStart n v s).head = s.head := by
  unfold State.tpoStart; simp
@[simp] theorem State.tpoStarts_head (s : State) : (State.tpoStarts s).head = s.head := by
  unfold State.tpoStarts; split
  · rfl
  · exact State.each_head _ _ _ (fun n t => by split <;> simp)
@[simp] theorem State.trip_head (n : Nat) (f : ChOut → ChOut) (s : State) : (State.trip n f s).head = s.head := by
  unfold State.trip; simp
@[simp] theorem State.tripRecord_head (n code : Nat) (s : State) : (State.tripRecord n code s).head = s.head := by
  unfold State.tripRecord; simp
@[simp] theorem State.retry_head (n : Nat) (s : State) : (State.retry n s).head = s.head := by
  unfold State.retry; simp
@[simp] theorem State.chCondition_head (n sev code : Nat) (payload : List Byte) (was is : Bool) (f : ChOut → ChOut) (s : State) :
    (State.chCondition n sev code payload was is f s).head = s.head := by
  unfold State.chCondition; simp
@[simp] theorem State.stuckFound_head (n current : Nat) (s : State) : (State.stuckFound n current s).head = s.head := by
  unfold State.stuckFound; simp
@[simp] theorem State.clearLatch_head (n : Nat) (s : State) : (State.clearLatch n s).head = s.head := by
  unfold State.clearLatch; simp
@[simp] theorem State.clearCut_head (g : Nat) (s : State) : (State.clearCut g s).head = s.head := by
  unfold State.clearCut; simp
@[simp] theorem State.clearChannel_head (n : Nat) (s : State) : (State.clearChannel n s).head = s.head := by
  unfold State.clearChannel; simp
@[simp] theorem State.clearGroup_head (g : Nat) (s : State) : (State.clearGroup g s).head = s.head := by
  unfold State.clearGroup; simp

/-! ### Universal inputs -/

@[simp] theorem State.core_head (c : Nat) (f : AdcCore → AdcCore) (s : State) : (State.core c f s).head = s.head := by rfl
@[simp] theorem State.uiIn_head (n : Nat) (f : Ui → Ui) (s : State) : (State.uiIn n f s).head = s.head := by rfl
@[simp] theorem State.adcStart_head (c : Nat) (s : State) : (State.adcStart c s).head = s.head := by
  unfold State.adcStart; simp
@[simp] theorem State.adcBoundary_head (s : State) : (State.adcBoundary s).head = s.head := by rfl
@[simp] theorem State.inputFault_head (n : Nat) (s : State) : (State.inputFault n s).head = s.head := by rfl
@[simp] theorem State.inputRestored_head (n : Nat) (s : State) : (State.inputRestored n s).head = s.head := by rfl
@[simp] theorem State.uiPost_head (n : Nat) (x : Integ) (p : Word32) (s : State) : (State.uiPost n x p s).head = s.head := by rfl
@[simp] theorem State.uiBad_head (n : Nat) (b : UiBand) (s : State) : (State.uiBad n b s).head = s.head := by
  unfold State.uiBad; simp
@[simp] theorem State.uiGood_head (n : Nat) (x : Integ) (p : Word32) (s : State) : (State.uiGood n x p s).head = s.head := by
  unfold State.uiGood; simp
@[simp] theorem State.convert_head (n : Nat) (x : Integ) (raw : Word32) (s : State) : (State.convert n x raw s).head = s.head := by
  unfold State.convert; simp
@[simp] theorem State.calPass_head (c : Nat) (isGain : Bool) (dev : Int) (s : State) : (State.calPass c isGain dev s).head = s.head := by
  unfold State.calPass; simp
@[simp] theorem State.calReject_head (c : Nat) (isGain : Bool) (dev : Int) (s : State) :
    (State.calReject c isGain dev s).head = s.head := by
  unfold State.calReject; simp
@[simp] theorem State.calJudge_head (c : Nat) (isGain : Bool) (dev : Int) (s : State) :
    (State.calJudge c isGain dev s).head = s.head := by
  unfold State.calJudge; simp
@[simp] theorem State.calBegin_head (c : Nat) (w : Waiter) (interim : Bool) (s : State) :
    (State.calBegin c w interim s).head = s.head := by rfl
@[simp] theorem State.calFinish_head (c : Nat) (s : State) : (State.calFinish c s).head = s.head := by
  unfold State.calFinish; dsimp only; (repeat' split) <;> simp
@[simp] theorem State.calDemand_head (c : Nat) (isGain : Bool) (dev : Option Int) (s : State) :
    (State.calDemand c isGain dev s).head = s.head := by
  unfold State.calDemand; simp
@[simp] theorem State.uiCommit_head (s : State) : (State.uiCommit s).head = s.head := by
  unfold State.uiCommit; simp
@[simp] theorem State.uiChange_head (n : Nat) (s : State) : (State.uiChange n s).head = s.head := by
  unfold State.uiChange; simp
@[simp] theorem State.uiChanges_head (s : State) : (State.uiChanges s).head = s.head := by
  unfold State.uiChanges; simp
@[simp] theorem State.calDeferred_head (i : Interim) (s : State) : (State.calDeferred i s).head = s.head := by
  unfold State.calDeferred; simp

/-! ### I2C recipes -/

@[simp] theorem State.recipe_head (n : Nat) (f : Recipe → Recipe) (s : State) : (State.recipe n f s).head = s.head := by rfl
@[simp] theorem State.busRecover_head (b : Nat) (released : Bool) (s : State) : (State.busRecover b released s).head = s.head := by
  unfold State.busRecover; simp
@[simp] theorem State.recipeAttempt_head (n attempt : Nat) (xs : List I2cXfer) (released : Bool) (s : State) :
    (State.recipeAttempt n attempt xs released s).head = s.head := by
  unfold State.recipeAttempt; simp
@[simp] theorem State.recipeRun_head (n : Nat) (xs : List I2cXfer) (released : Bool) (s : State) :
    (State.recipeRun n xs released s).head = s.head := by
  unfold State.recipeRun; simp
@[simp] theorem State.recipeGood_head (n : Nat) (buf : List Byte) (stamp : Stamp) (s : State) :
    (State.recipeGood n buf stamp s).head = s.head := by
  unfold State.recipeGood; simp
@[simp] theorem State.recipeBad_head (n cause step : Nat) (s : State) : (State.recipeBad n cause step s).head = s.head := by
  unfold State.recipeBad; simp
@[simp] theorem State.recipeEnd_head (n : Nat) (stamp : Stamp) (s : State) : (State.recipeEnd n stamp s).head = s.head := by
  unfold State.recipeEnd; simp
@[simp] theorem State.i2cStops_head (s : State) : (State.i2cStops s).head = s.head := by rfl

/-! ### Writes of the BACnet objects -/

@[simp] theorem State.storeProp_head (id prop : Nat) (bs : List Byte) (s : State) : (State.storeProp id prop bs s).1.head = s.head := by
  unfold State.storeProp; dsimp only
  split <;> simpa using State.saveNow_head_of ‹_›
@[simp] theorem State.loadStore_head (s : State) : (State.loadStore s).head = s.head := by rfl
@[simp] theorem State.dropProp_head (id prop : Nat) (s : State) : (State.dropProp id prop s).head = s.head := by
  unfold State.dropProp; simp
@[simp] theorem State.commandPoint_head (n slot : Nat) (v : Option Word32) (s : State) :
    (State.commandPoint n slot v s).head = s.head := by rfl
@[simp] theorem State.pointsStart_head (s : State) : (State.pointsStart s).head = s.head := by rfl
/-- A mode written leaves the head as it is, whatever it is answered. -/
theorem State.writeMode_head_of {z : Nat} {m : ZMode} {s u : State} {st : Status} (h : s.writeMode z m = (u, st)) : u.head = s.head := by
  rw [← State.writeMode_head z m s, h]

@[simp] theorem State.writePv_head (id slot : Nat) (o : Obj) (t : Tok) (s : State) : (State.writePv id slot o t s).1.head = s.head := by
  unfold State.writePv; split
  case h_5 =>
    split
    · split
      · split <;> exact State.writeMode_head_of ‹_›
      · rfl
    · rfl
  case h_6 => dsimp only; (repeat' split) <;> simp
  all_goals (repeat' split) <;> simp
@[simp] theorem State.trendAdd_head (n kind : Nat) (v : Word32) (s : State) : (State.trendAdd n kind v s).head = s.head := by
  unfold State.trendAdd; simp
@[simp] theorem State.trendPurge_head (n : Nat) (s : State) : (State.trendPurge n s).head = s.head := by
  unfold State.trendPurge; simp
@[simp] theorem State.startTrends_head (s : State) : (State.startTrends s).head = s.head := by
  unfold State.startTrends; simp
@[simp] theorem State.replanIfMoved_head (old s : State) : (State.replanIfMoved old s).head = s.head := by
  unfold State.replanIfMoved; simp
@[simp] theorem State.afterStore_head (old : State) (o : Obj) (prop : Nat) (ts : List Tok) (s : State) :
    (State.afterStore old o prop ts s).head = s.head := by
  unfold State.afterStore; (repeat' split) <;> simp
@[simp] theorem State.storeWrite_head (id prop : Nat) (o : Obj) (ts : List Tok) (s : State) :
    (State.storeWrite id prop o ts s).1.head = s.head := by
  have h := State.storeProp_head id prop (ts.flatMap Tok.bytes) s
  unfold State.storeWrite
  split <;> simp_all
@[simp] theorem State.writeObj_head (id prop : Nat) (idx : Option Nat) (slot : Nat) (o : Obj) (bs : List Byte) (s : State) :
    (State.writeObj id prop idx slot o bs s).1.head = s.head := by
  unfold State.writeObj; dsimp only; (repeat' split) <;> simp
@[simp] theorem State.scheduleWrite_head (n : Nat) (t : Tok) (s : State) : (State.scheduleWrite n t s).head = s.head := by
  unfold State.scheduleWrite
  exact State.each_head _ _ _ (fun r u => by split <;> simp)
@[simp] theorem State.scheduleRun_head (all : Bool) (s : State) : (State.scheduleRun all s).head = s.head := by
  unfold State.scheduleRun; simp
@[simp] theorem State.writeProp_head (id prop : Nat) (idx : Option Nat) (slot : Nat) (bs : List Byte) (s : State) :
    (State.writeProp id prop idx slot bs s).1.head = s.head := by
  unfold State.writeProp; split
  · rfl
  · rename_i o _
    have h := State.writeObj_head (s.ident id) prop idx (if slot = 0 then 16 else slot) o bs s
    split
    · rfl
    · split
      · dsimp only; split <;> simp_all
      · exact h
@[simp] theorem State.setTime_head (source : Nat) (utc16 t16 : Int) (s : State) : (State.setTime source utc16 t16 s).head = s.head := by
  unfold State.setTime; simp

/-! ### The building bus -/

@[simp] theorem State.port_head (p : Nat) (f : Port → Port) (s : State) : (State.port p f s).head = s.head := by rfl
@[simp] theorem State.queueFrame_head (p : Nat) (f : TxFrame) (s : State) : (State.queueFrame p f s).head = s.head := by
  unfold State.queueFrame; simp
@[simp] theorem State.fdRegister_head (s : State) : (State.fdRegister s).head = s.head := by
  unfold State.fdRegister; simp
@[simp] theorem State.greet_head (s : State) : (State.greet s).head = s.head := by
  unfold State.greet; simp
@[simp] theorem State.scRecord_head (code : Nat) (s : State) : (State.scRecord code s).head = s.head := by rfl
@[simp] theorem State.scFlush_head (s : State) : (State.scFlush s).head = s.head := by
  unfold State.scFlush; simp
@[simp] theorem State.scEnter_head (st : ScState) (code : Nat) (s : State) : (State.scEnter st code s).head = s.head := by
  unfold State.scEnter; simp
@[simp] theorem State.scCheck_head (s : State) : (State.scCheck s).head = s.head := by
  unfold State.scCheck; simp
@[simp] theorem State.respond_head (p peer : Nat) (what : TxKind) (data : List Nat) (s : State) :
    (State.respond p peer what data s).head = s.head := by
  unfold State.respond; simp
@[simp] theorem State.entry_head (i : Nat) (f : Partner → Partner) (s : State) : (State.entry i f s).head = s.head := by rfl
@[simp] theorem State.churn_head (n : Nat) (s : State) : (State.churn n s).head = s.head := by
  unfold State.churn; simp
@[simp] theorem State.partnerRecord_head (sev code i : Nat) (extra : List Byte) (s : State) :
    (State.partnerRecord sev code i extra s).head = s.head := by rfl
@[simp] theorem State.newPartner_head (e : Partner) (s : State) : (State.newPartner e s).head = s.head := by
  unfold State.newPartner; (repeat' split) <;> simp
@[simp] theorem State.dropPartner_head (i : Nat) (s : State) : (State.dropPartner i s).head = s.head := by rfl
@[simp] theorem State.whoIsTo_head (i : Nat) (s : State) : (State.whoIsTo i s).head = s.head := by
  unfold State.whoIsTo; simp
@[simp] theorem State.bindsReturn_head (i : Nat) (s : State) : (State.bindsReturn i s).head = s.head := by rfl
@[simp] theorem State.heard_head (i : Nat) (s : State) : (State.heard i s).head = s.head := by
  unfold State.heard; simp
@[simp] theorem State.dropProvisional_head (p addr : Nat) (s : State) : (State.dropProvisional p addr s).head = s.head := by
  unfold State.dropProvisional; split <;> simp
@[simp] theorem State.iAmKnown_head (i p addr net : Nat) (s : State) : (State.iAmKnown i p addr net s).head = s.head := by
  unfold State.iAmKnown; simp
@[simp] theorem State.iAm_head (p addr inst net : Nat) (s : State) : (State.iAm p addr inst net s).head = s.head := by
  unfold State.iAm; (repeat' split) <;> simp
@[simp] theorem State.rxTake_head (p : Nat) (s : State) : (State.rxTake p s).head = s.head := by rfl
@[simp] theorem State.fallSilent_head (i : Nat) (s : State) : (State.fallSilent i s).head = s.head := by
  unfold State.fallSilent; simp
@[simp] theorem State.whoIsAll_head (s : State) : (State.whoIsAll s).head = s.head := by
  unfold State.whoIsAll; simp
@[simp] theorem State.savePartners_head (s : State) : (State.savePartners s).head = s.head := by
  unfold State.savePartners; simp
@[simp] theorem State.restorePartners_head (s : State) : (State.restorePartners s).head = s.head := by rfl
@[simp] theorem State.bind_head (b : Nat) (f : Bind → Bind) (s : State) : (State.bind b f s).head = s.head := by rfl
@[simp] theorem State.request_head (cls : Nat) (o : Outstanding) (s : State) : (State.request cls o s).head = s.head := by
  unfold State.request; simp
@[simp] theorem State.repeatRequest_head (o : Outstanding) (s : State) : (State.repeatRequest o s).head = s.head := by
  unfold State.repeatRequest; simp
@[simp] theorem State.bindValue_head (b : Nat) (at_ : Stamp) (v : Option Word32) (fault : Bool) (s : State) :
    (State.bindValue b at_ v fault s).head = s.head := by
  unfold State.bindValue; simp
@[simp] theorem State.closeRequest_head (id : Nat) (s : State) : (State.closeRequest id s).head = s.head := by rfl
@[simp] theorem State.notifyFailed_head (cls missed : Nat) (s : State) : (State.notifyFailed cls missed s).head = s.head := by
  unfold State.notifyFailed; simp
@[simp] theorem State.requestFails_head (o : Outstanding) (s : State) : (State.requestFails o s).head = s.head := by
  unfold State.requestFails; split <;> simp
@[simp] theorem State.requestDone_head (at_ : Stamp) (o : Outstanding) (vs : List (List Byte × Bool)) (s : State) :
    (State.requestDone at_ o vs s).head = s.head := by
  unfold State.requestDone; split <;> simp
@[simp] theorem State.answerApdu_head (at_ : Stamp) (x : BusApdu) (s : State) : (State.answerApdu at_ x s).head = s.head := by
  unfold State.answerApdu; (repeat' split) <;> simp
@[simp] theorem State.learn_head (src side : Nat) (s : State) : (State.learn src side s).head = s.head := by
  unfold State.learn; simp
@[simp] theorem State.forward_head (dst side : Nat) (s : State) : (State.forward dst side s).head = s.head := by
  unfold State.forward; simp
@[simp] theorem State.arpLearn_head (p ip mac : Nat) (s : State) : (State.arpLearn p ip mac s).head = s.head := by
  unfold State.arpLearn; simp
@[simp] theorem State.recordNode_head (f : BusFrame) (s : State) : (State.recordNode f s).head = s.head := by
  unfold State.recordNode; split <;> simp
@[simp] theorem State.discover_head (f : BusFrame) (s : State) : (State.discover f s).head = s.head := by
  unfold State.discover; dsimp only; (repeat' split) <;> simp
@[simp] theorem State.dupMac_head (p : Nat) (s : State) : (State.dupMac p s).head = s.head := by rfl
@[simp] theorem State.hearBeat_head (f : BusFrame) (s : State) : (State.hearBeat f s).head = s.head := by
  unfold State.hearBeat; simp
@[simp] theorem State.segments_head (f : BusFrame) (s : State) : (State.segments f s).head = s.head := by
  unfold State.segments; simp
@[simp] theorem State.accept_head (f : BusFrame) (s0 : State) : (State.accept f s0).head = s0.head := by
  unfold State.accept; dsimp only; split
  · simp
  · split <;> split <;> simp
@[simp] theorem State.poll_head (b i : Nat) (s0 : State) : (State.poll b i s0).head = s0.head := by
  unfold State.poll; dsimp only; split <;> simp
@[simp] theorem State.sendWrite_head (b i : Nat) (v : Word32) (s : State) : (State.sendWrite b i v s).head = s.head := by
  unfold State.sendWrite; dsimp only; split <;> simp
@[simp] theorem State.offerWrites_head (n : Option Nat) (s : State) : (State.offerWrites n s).head = s.head := by
  unfold State.offerWrites; simp
@[simp] theorem State.roomMade_head (p : Nat) (s : State) : (State.roomMade p s).head = s.head := by
  unfold State.roomMade; (repeat' split) <;> simp
@[simp] theorem State.frameSent_head (p side : Nat) (f : TxFrame) (s : State) : (State.frameSent p side f s).head = s.head := by
  unfold State.frameSent; simp
@[simp] theorem State.scConnected_head (st : ScState) (code : Nat) (s : State) : (State.scConnected st code s).head = s.head := by
  unfold State.scConnected; simp
@[simp] theorem State.addRoutes_head (p router : Nat) (nets : List Nat) (s : State) :
    (State.addRoutes p router nets s).head = s.head := by
  unfold State.addRoutes; simp
@[simp] theorem State.markRoutes_head (p router : Nat) (nets : List Nat) (busy : Bool) (s : State) :
    (State.markRoutes p router nets busy s).head = s.head := by rfl
@[simp] theorem State.routing_head (p peer : Nat) (data : List Nat) (s : State) : (State.routing p peer data s).head = s.head := by
  unfold State.routing; simp
@[simp] theorem State.passOn_head (p peer net len q router : Nat) (s : State) :
    (State.passOn p peer net len q router s).head = s.head := by
  unfold State.passOn; simp
@[simp] theorem State.netMessage_head (p peer : Nat) (m : NetMsg) (s : State) : (State.netMessage p peer m s).head = s.head := by
  unfold State.netMessage; (repeat' split) <;> simp
@[simp] theorem State.bindRemoved_head (old : State) (b : Nat) (s : State) : (State.bindRemoved old b s).head = s.head := by
  unfold State.bindRemoved; split <;> simp
@[simp] theorem State.wantPartner_head (b : Nat) (s : State) : (State.wantPartner b s).head = s.head := by
  unfold State.wantPartner; simp
@[simp] theorem State.busCommit_head (old : State) (s : State) : (State.busCommit old s).head = s.head := by
  unfold State.busCommit; simp
@[simp] theorem State.busStops_head (s : State) : (State.busStops s).head = s.head := by rfl

/-! ### Standalone services -/

@[simp] theorem State.respondError_head (p peer : Nat) (e : BErr) (s : State) : (State.respondError p peer e s).head = s.head := by
  unfold State.respondError; simp
@[simp] theorem State.answerRead_head (p peer : Nat) (multiple : Bool) (items : List PropItem) (s : State) :
    (State.answerRead p peer multiple items s).head = s.head := by
  unfold State.answerRead; dsimp only; (repeat' split) <;> simp
/-- A property written leaves the head as it is, whatever it is answered. -/
theorem State.writeProp_head_of {id prop slot : Nat} {idx : Option Nat} {bs : List Byte} {s t : State} {x : WrRes}
    (h : s.writeProp id prop idx slot bs = (t, x)) : t.head = s.head := by
  rw [← State.writeProp_head id prop idx slot bs s, h]

@[simp] theorem State.writeItems_head (xs : List PropItem) (s : State) : (s.writeItems xs).1.head = s.head := by
  induction xs generalizing s with
  | nil => rfl
  | cons it rest ih =>
    rw [State.writeItems]
    split
    rename_i t r h
    have ht : t.head = s.head := by rw [← State.writeProp_head it.object it.prop it.index it.priority it.value s, h]
    split
    · exact ht
    · rw [ih, ht]

@[simp] theorem State.answerWrite_head (p peer : Nat) (multiple : Bool) (items : List PropItem) (s : State) :
    (State.answerWrite p peer multiple items s).head = s.head := by
  have h := State.writeItems_head items s
  unfold State.answerWrite
  split <;> simp_all
@[simp] theorem State.subscribe_head (p peer process object : Nat) (confirmed : Bool) (lifetime : Option Nat) (cancel : Bool)
    (s : State) : (State.subscribe p peer process object confirmed lifetime cancel s).head = s.head := by
  unfold State.subscribe; (repeat' split) <;> simp
@[simp] theorem State.covNotify_head (x : CovSub) (v : Word32) (s : State) : (State.covNotify x v s).head = s.head := by
  unfold State.covNotify; simp
@[simp] theorem State.covSend_head (s : State) : (State.covSend s).head = s.head := by
  unfold State.covSend; split
  · rfl
  · exact (State.each_head _ _ _ (fun x u => by split <;> simp)).trans (by simp)
@[simp] theorem State.iHave_head (p object : Nat) (s : State) : (State.iHave p object s).head = s.head := by
  unfold State.iHave; simp
@[simp] theorem State.answerWho_head (p : Nat) (w : WhoWhat) (s : State) : (State.answerWho p w s).head = s.head := by
  unfold State.answerWho; (repeat' split) <;> simp
@[simp] theorem State.transition_head (id : Nat) (to_ : EvState) (s : State) : (State.transition id to_ s).head = s.head := by rfl
@[simp] theorem State.evalObject_head (id : Nat) (s : State) : (State.evalObject id s).head = s.head := by
  unfold State.evalObject; dsimp only; (repeat' split) <;> simp
@[simp] theorem State.bufferReady_head (n : Nat) (s : State) : (State.bufferReady n s).head = s.head := by
  unfold State.bufferReady; simp
@[simp] theorem State.eventEval_head (s : State) : (State.eventEval s).head = s.head := by
  unfold State.eventEval; simp
@[simp] theorem State.acknowledge_head (p peer object kind : Nat) (isSeq : Bool) (time : Nat) (s : State) :
    (State.acknowledge p peer object kind isSeq time s).head = s.head := by
  unfold State.acknowledge; simp
@[simp] theorem State.trendStep_head (n : Nat) (s : State) : (State.trendStep n s).head = s.head := by
  unfold State.trendStep; dsimp only; (repeat' split) <;> simp
@[simp] theorem State.trendCapture_head (s : State) : (State.trendCapture s).head = s.head := by
  unfold State.trendCapture; simp

/-! ### The safe-climate policy -/

@[simp] theorem State.policyZone_head (z : Nat) (s : State) : (State.policyZone z s).head = s.head := by
  unfold State.policyZone; simp
@[simp] theorem State.policyEval_head (s : State) : (State.policyEval s).head = s.head := by
  unfold State.policyEval; simp
@[simp] theorem State.policyCommit_head (old : State) (s : State) : (State.policyCommit old s).head = s.head := by rfl

/-! ### Occupancy -/

@[simp] theorem State.occZone_head (z : Nat) (s : State) : (State.occZone z s).head = s.head := by
  unfold State.occZone; simp
@[simp] theorem State.learnZone_head (cls i z : Nat) (s : State) : (State.learnZone cls i z s).head = s.head := by
  unfold State.learnZone; dsimp only; split <;> simp
@[simp] theorem State.saveProfile_head (z : Nat) (s : State) : (State.saveProfile z s).head = s.head := by rfl
@[simp] theorem State.loadProfiles_head (s : State) : (State.loadProfiles s).head = s.head := by rfl
@[simp] theorem State.clearProfile_head (cause z : Nat) (s : State) : (State.clearProfile cause z s).head = s.head := by
  unfold State.clearProfile; simp
@[simp] theorem State.occCommit_head (old : State) (s : State) : (State.occCommit old s).head = s.head := by
  unfold State.occCommit; simp

/-! ### The waypoint planner -/

@[simp] theorem State.planTake_head (s : State) : (State.planTake s).head = s.head := by
  unfold State.planTake; simp
@[simp] theorem State.sndFitEnds_head (z : Nat) (t : State) : (State.sndFitEnds z t).head = t.head := by
  unfold State.sndFitEnds; simp
@[simp] theorem State.zoneNonfinite_head (seq z : Nat) (s : State) : (State.zoneNonfinite seq z s).head = s.head := by rfl
@[simp] theorem State.forecastEnds_head (s : State) : (State.forecastEnds s).head = s.head := by
  unfold State.forecastEnds; split <;> simp
@[simp] theorem State.planCommit_head (old : State) (s : State) : (State.planCommit old s).head = s.head := by
  unfold State.planCommit; simp

/-! ### Configuration sets -/

@[simp] theorem State.cfgSet_head (n : Nat) (f : CfgSet → CfgSet) (s : State) : (State.cfgSet n f s).head = s.head := by
  unfold State.cfgSet; split <;> simp
@[simp] theorem State.setIncomplete_head (n : Nat) (s : State) : (State.setIncomplete n s).head = s.head := by
  unfold State.setIncomplete; simp
@[simp] theorem State.endStaging_head (keep : Option Nat) (s : State) : (State.endStaging keep s).head = s.head := by
  unfold State.endStaging; simp
/-- A body that leaves the head alone does so behind a commit too (R422). -/
@[simp] theorem whileFree_head {cls opcode : Nat} {body : Req → State → State × Option Resp} {r : Req} {s : State}
    (h : ∀ r s, (body r s).1.head = s.head) : (whileFree cls opcode body r s).1.head = s.head := by
  unfold whileFree; split
  · simp
  · exact h r s

@[simp] theorem State.cfgBegin_head (n gen : Nat) (s : State) : (State.cfgBegin n gen s).1.head = s.head := by
  unfold State.cfgBegin; split
  · simp
  · split <;> simp
@[simp] theorem State.cfgWrite_head (n off : Nat) (data : List Byte) (s : State) : (State.cfgWrite n off data s).1.head = s.head := by
  unfold State.cfgWrite; (repeat' split) <;> simp
@[simp] theorem State.commitRefused_head (n : Nat) (st : Status) (s : State) : (State.commitRefused n st s).1.head = s.head := by rfl
@[simp] theorem State.commitSet_head (n gen size crc : Nat) (waiter : Option (Nat × Nat)) (inst : Option Nat) (s : State) :
    (State.commitSet n gen size crc waiter inst s).head = s.head := by
  unfold State.commitSet; simp
@[simp] theorem State.cfgCommit_head (n size crc : Nat) (waiter : Nat × Nat) (s : State) :
    (State.cfgCommit n size crc waiter s).1.head = s.head := by
  unfold State.cfgCommit; dsimp only; (repeat' split) <;> simp
@[simp] theorem State.cfgReceive_head (gen : Nat) (image : List Byte) (inst : Option Nat) (s : State) :
    (State.cfgReceive gen image inst s).head = s.head := by
  unfold State.cfgReceive; split <;> simp
@[simp] theorem State.classSets_head (s : State) : (State.classSets s).head = s.head := by
  unfold State.classSets; simp
@[simp] theorem State.configSelection_head (s : State) : (State.configSelection s).head = s.head := by
  unfold State.configSelection; dsimp only; (repeat' split) <;> simp
@[simp] theorem State.cfgDown_head (s : State) : (State.cfgDown s).head = s.head := by
  unfold State.cfgDown; simp

/-! ### The mirrored pair -/

@[simp] theorem State.roleRecord_head (cause : Nat) (s : State) : (State.roleRecord cause s).head = s.head := by rfl
@[simp] theorem State.peerRecord_head (s : State) : (State.peerRecord s).head = s.head := by
  unfold State.peerRecord; simp
@[simp] theorem State.strapRecord_head (s : State) : (State.strapRecord s).head = s.head := by
  unfold State.strapRecord; split <;> simp
@[simp] theorem State.releaseAnswers_head (s : State) : (State.releaseAnswers s).head = s.head := by
  unfold State.releaseAnswers; simp
@[simp] theorem State.abandonHandover_head (s : State) : (State.abandonHandover s).head = s.head := by
  unfold State.abandonHandover; split <;> simp
@[simp] theorem State.sendBeats_head (s : State) : (State.sendBeats s).head = s.head := by
  unfold State.sendBeats; simp
@[simp] theorem State.pairFrame_head (waiting : Nat) (s : State) : (State.pairFrame waiting s).head = s.head := by
  unfold State.pairFrame; simp
@[simp] theorem State.measureD_head (f : MirrorFrame) (s : State) : (State.measureD f s).head = s.head := by
  unfold State.measureD; split <;> simp
@[simp] theorem State.takeZones_head (f : MirrorFrame) (s : State) : (State.takeZones f s).head = s.head := by
  unfold State.takeZones; split <;> simp
@[simp] theorem State.takeLoops_head (f : MirrorFrame) (s : State) : (State.takeLoops f s).head = s.head := by
  unfold State.takeLoops; split <;> simp
@[simp] theorem State.takeOps_head (f : MirrorFrame) (s : State) : (State.takeOps f s).head = s.head := by
  unfold State.takeOps
  exact State.each_head _ _ _ (fun op t => by split <;> simp)
@[simp] theorem State.takeGuards_head (f : MirrorFrame) (s : State) : (State.takeGuards f s).head = s.head := by
  unfold State.takeGuards; split <;> simp
@[simp] theorem State.takeOutputs_head (f : MirrorFrame) (s : State) : (State.takeOutputs f s).head = s.head := by
  unfold State.takeOutputs; split
  · exact (State.each_head _ _ _ (fun n t => by simp)).trans ((State.each_head _ _ _ (fun n t => by simp)).trans (by simp))
  · rfl
@[simp] theorem State.takeReads_head (f : MirrorFrame) (s : State) : (State.takeReads f s).head = s.head := by
  unfold State.takeReads
  exact State.each_head _ _ _ (fun r t => by simp)
@[simp] theorem State.takePlans_head (f : MirrorFrame) (s : State) : (State.takePlans f s).head = s.head := by
  unfold State.takePlans; split <;> simp
@[simp] theorem State.takeServices_head (f : MirrorFrame) (s : State) : (State.takeServices f s).head = s.head := by
  unfold State.takeServices; split <;> simp
@[simp] theorem State.takeTrends_head (f : MirrorFrame) (s : State) : (State.takeTrends f s).head = s.head := by
  unfold State.takeTrends; split <;> simp
@[simp] theorem State.takePartners_head (f : MirrorFrame) (s : State) : (State.takePartners f s).head = s.head := by
  unfold State.takePartners; split <;> simp
@[simp] theorem State.takeBulk_head (f : MirrorFrame) (s : State) : (State.takeBulk f s).head = s.head := by
  unfold State.takeBulk; (repeat' split) <;> simp
@[simp] theorem State.takeRecords_head (f : MirrorFrame) (s : State) : (State.takeRecords f s).head = s.head := by
  unfold State.takeRecords; simp
@[simp] theorem State.takeHeader_head (f : MirrorFrame) (s : State) : (State.takeHeader f s).head = s.head := by
  unfold State.takeHeader; simp
@[simp] theorem State.keepsCurrent_head (old : Option PeerHeader) (f : MirrorFrame) (s : State) :
    (State.keepsCurrent old f s).head = s.head := by rfl
@[simp] theorem State.busQuiet_head (s : State) : (State.busQuiet s).head = s.head := by rfl
@[simp] theorem State.applyHold_head (s : State) : (State.applyHold s).head = s.head := by
  unfold State.applyHold; simp
@[simp] theorem State.endSoundings_head (s : State) : (State.endSoundings s).head = s.head := by
  unfold State.endSoundings; simp
@[simp] theorem State.enterElecting_head (s : State) : (State.enterElecting s).head = s.head := by rfl
@[simp] theorem State.leaveFloor_head (s : State) : (State.leaveFloor s).head = s.head := by
  unfold State.leaveFloor; simp
@[simp] theorem State.restoreZone_head (z : Nat) (s : State) : (State.restoreZone z s).head = s.head := by rfl
@[simp] theorem State.startStale_head (s : State) : (State.startStale s).head = s.head := by
  unfold State.startStale; simp
@[simp] theorem State.pushTail_head (s : State) : (State.pushTail s).head = s.head := by
  unfold State.pushTail; simp
@[simp] theorem State.takeShared_head (s : State) : (State.takeShared s).head = s.head := by
  unfold State.takeShared; simp
@[simp] theorem State.pairServicesRise_head (s : State) : (State.pairServicesRise s).head = s.head := by
  unfold State.pairServicesRise; simp
@[simp] theorem State.withdrawnTurn_head (s : State) : (State.withdrawnTurn s).head = s.head := by
  unfold State.withdrawnTurn; simp
@[simp] theorem State.postponeHandover_head (s : State) : (State.postponeHandover s).head = s.head := by
  unfold State.postponeHandover; split <;> simp

/-! ### The Tiller -/

@[simp] theorem State.tlRecord_head (sev code : Nat) (payload : List Byte) (s : State) :
    (State.tlRecord sev code payload s).head = s.head := by rfl
@[simp] theorem State.tlDrop_head (s : State) : (State.tlDrop s).head = s.head := by rfl
@[simp] theorem State.tlPush_head (e : KeyEvent) (s : State) : (State.tlPush e s).head = s.head := by
  unfold State.tlPush; simp
@[simp] theorem State.tlOverflow_head (s : State) : (State.tlOverflow s).head = s.head := by
  unfold State.tlOverflow; simp
@[simp] theorem State.tlPost_head (code : Word32) (stamp : Stamp) (s : State) : (State.tlPost code stamp s).head = s.head := by
  unfold State.tlPost; split <;> simp
@[simp] theorem State.updKey_head (k : Nat) (f : Key → Key) (s : State) : (State.updKey k f s).head = s.head := by rfl
@[simp] theorem State.keyRelease_head (k : Nat) (s : State) : (State.keyRelease k s).head = s.head := by
  unfold State.keyRelease; simp
@[simp] theorem State.keyPress_head (k : Nat) (s : State) : (State.keyPress k s).head = s.head := by
  unfold State.keyPress; split <;> simp
@[simp] theorem State.ghostResolve_head (released : List Nat) (x0 : Stamp) (k : Nat) (s : State) :
    (State.ghostResolve released x0 k s).head = s.head := by
  unfold State.ghostResolve; simp
@[simp] theorem State.scanKeys_head (ks closed : List Nat) (at_ : Nat → Stamp) (s : State) :
    (State.scanKeys ks closed at_ s).head = s.head := by
  unfold State.scanKeys; simp
@[simp] theorem State.scanStarts_head (s : State) : (State.scanStarts s).head = s.head := by rfl
@[simp] theorem State.encoderSample_head (n ab : Nat) (s : State) : (State.encoderSample n ab s).head = s.head := by
  unfold State.encoderSample; simp
@[simp] theorem State.tillerCommit_head (s : State) : (State.tillerCommit s).head = s.head := by rfl

/-! ### A commit takes effect -/

@[simp] theorem State.commitSoundings_head (old : State) (ds : List (Nat × Nat)) (s : State) :
    (State.commitSoundings old ds s).head = s.head := by
  unfold State.commitSoundings; simp
@[simp] theorem State.clearBlock_head (z : Nat) (s : State) : (State.clearBlock z s).head = s.head := by
  unfold State.clearBlock; simp
@[simp] theorem State.zoneGoes_head (z : Nat) (s : State) : (State.zoneGoes z s).head = s.head := by
  unfold State.zoneGoes; simp
@[simp] theorem State.zoneComes_head (z : Nat) (s : State) : (State.zoneComes z s).head = s.head := by rfl
@[simp] theorem State.commitZone_head (old : State) (ds : List (Nat × Nat)) (z : Nat) (s : State) :
    (State.commitZone old ds z s).head = s.head := by
  unfold State.commitZone; dsimp only; split <;> simp
@[simp] theorem State.commitLoop_head (old : State) (n : Nat) (s : State) : (State.commitLoop old n s).head = s.head := by
  unfold State.commitLoop; simp
@[simp] theorem State.commitHelm_head (old : State) (ds : List (Nat × Nat)) (s : State) : (State.commitHelm old ds s).head = s.head := by
  unfold State.commitHelm; simp
@[simp] theorem State.commitAo_head (n : Nat) (s : State) : (State.commitAo n s).head = s.head := by
  unfold State.commitAo; simp
@[simp] theorem State.commitAgo_head (n : Nat) (s : State) : (State.commitAgo n s).head = s.head := by
  unfold State.commitAgo; simp
@[simp] theorem State.commitGroups_head (ds : List (Nat × Nat)) (all : Bool) (s : State) :
    (State.commitGroups ds all s).head = s.head := by rfl
@[simp] theorem State.takeSlot_head (n : Nat) (w : SlotWords) (s : State) : (State.takeSlot n w s).head = s.head := by
  unfold State.takeSlot; simp
@[simp] theorem State.commitSlots_head (s : State) : (State.commitSlots s).head = s.head := by
  unfold State.commitSlots; simp
@[simp] theorem State.commitObjects_head (old : State) (ds : List (Nat × Nat)) (start : Bool) (lost : Nat × Nat) (s : State) :
    (State.commitObjects old ds start lost s).head = s.head := by
  unfold State.commitObjects; simp
@[simp] theorem State.lowPower_head (what : Nat) (s : State) : (State.lowPower what s).head = s.head := by rfl
@[simp] theorem State.committedRecord_head (p : PendingCommit) (s : State) : (State.committedRecord p s).head = s.head := by rfl
theorem storeBody_head (opcode : Nat) (r : Req) (s : State) : (storeBody opcode r s).1.head = s.head := by
  unfold storeBody
  split <;> simp [opCfgInfo, opCfgBegin, opCfgWrite, opCfgCommit, opCfgRead, opClampRead, opSheafRead]

@[simp] theorem State.runHeld_head (s : State) : (State.runHeld s).head = s.head := by
  unfold State.runHeld
  refine (State.each_head _ _ _ fun i t => ?_).trans (by simp)
  have hb := storeBody_head i.opcode i.req t
  split
  · rfl
  · split <;> rename_i e <;> rw [e] at hb <;> simpa using hb

/-! ### Services, failures and resets -/

@[simp] theorem State.parkInterims_head (s : State) : (State.parkInterims s).head = s.head := by rfl
@[simp] theorem State.soundingsStop_head (s : State) : (State.soundingsStop s).head = s.head := by
  unfold State.soundingsStop; simp
@[simp] theorem State.dropWaiters_head (s : State) : (State.dropWaiters s).head = s.head := by rfl
@[simp] theorem State.postServer_head (fuel : Nat) (s : State) : (State.postServer fuel s).head = s.head := by
  induction fuel generalizing s with
  | zero => rfl
  | succ fuel ih => rw [State.postServer, ih]; simp

@[simp] theorem State.serverStart_head (s : State) : (State.serverStart s).head = s.head := by
  unfold State.serverStart; simp
@[simp] theorem State.firstServices_head (s : State) : (State.firstServices s).head = s.head := by
  unfold State.firstServices; simp
@[simp] theorem State.trialFails_head (isBin : Bool) (s : State) : (State.trialFails isBin s).head = s.head := by
  unfold State.trialFails; split <;> simp
@[simp] theorem State.activeRejected_head (s : State) : (State.activeRejected s).head = s.head := by
  unfold State.activeRejected; split <;> simp
@[simp] theorem State.imageStarts_head (s : State) : (State.imageStarts s).head = s.head := by
  unfold State.imageStarts; simp
@[simp] theorem State.hold_head (cause : Nat) (s : State) : (State.hold cause s).head = s.head := by rfl

/-! ### Supplies -/

@[simp] theorem State.firstMeasure_head (s : State) : (State.firstMeasure s).head = s.head := by
  unfold State.firstMeasure; simp
@[simp] theorem State.lastGasp_head (ready : Word32) (ops : Nat) (s : State) : (State.lastGasp ready ops s).head = s.head := by
  unfold State.lastGasp; simp

/-! ### Sensors, scrub and self-tests -/

@[simp] theorem State.railSample_head (i mv : Nat) (s : State) : (State.railSample i mv s).head = s.head := by
  unfold State.railSample; simp
@[simp] theorem State.dieSample_head (i : Nat) (c : Int) (s : State) : (State.dieSample i c s).head = s.head := by
  unfold State.dieSample; simp
@[simp] theorem State.vbatSample_head (mv : Nat) (s : State) : (State.vbatSample mv s).head = s.head := by
  unfold State.vbatSample; simp
@[simp] theorem State.vbatTaken_head (vbat : Option Nat) (s : State) : (State.vbatTaken vbat s).head = s.head := by
  unfold State.vbatTaken; split <;> simp
@[simp] theorem State.dropTests_head (s : State) : (State.dropTests s).head = s.head := by
  unfold State.dropTests; split <;> simp
@[simp] theorem State.restartRecord_head (cause : Nat) (kept : Bool) (s : State) :
    (State.restartRecord cause kept s).head = s.head := by rfl
@[simp] theorem State.dropHostSlot_head (n : Nat) (s : State) : (State.dropHostSlot n s).head = s.head := by rfl
@[simp] theorem State.testDrives_head (c : Nat) (on : Bool) (s : State) : (State.testDrives c on s).head = s.head := by
  unfold State.testDrives; simp
@[simp] theorem State.testBegins_head (test arg : Nat) (s : State) : (State.testBegins test arg s).head = s.head := by
  unfold State.testBegins; simp
@[simp] theorem State.testTurnBegins_head (s : State) : (State.testTurnBegins s).head = s.head := by
  unfold State.testTurnBegins; split <;> simp
@[simp] theorem State.testPulses_head (test : Nat) (s : State) : (State.testPulses test s).head = s.head := by
  unfold State.testPulses; split <;> simp
@[simp] theorem selftestBody_head (r : Req) (s : State) : (selftestBody r s).1.head = s.head := by
  unfold selftestBody; dsimp only; (repeat' split) <;> simp
@[simp] theorem State.testDeferred_head (i : Interim) (s : State) : (State.testDeferred i s).head = s.head := by
  unfold State.testDeferred; simp
@[simp] theorem State.testEnds_head (test outcome : Nat) (detail : List Byte) (s : State) :
    (State.testEnds test outcome detail s).head = s.head := by
  unfold State.testEnds; simp
@[simp] theorem State.guardEndsTest_head (s : State) : (State.guardEndsTest s).head = s.head := by
  unfold State.guardEndsTest; split <;> simp

/-! ### Event slots and the turn boundary -/

@[simp] theorem State.signalEntry_head (n arg : Nat) (s : State) : (State.signalEntry n arg s).head = s.head := by
  unfold State.signalEntry; simp
@[simp] theorem State.slotLate_head (n : Nat) (w : SlotWords) (s : State) : (State.slotLate n w s).head = s.head := by
  unfold State.slotLate; simp
@[simp] theorem State.afterApply_head (s : State) : (State.afterApply s).head = s.head := by
  unfold State.afterApply; simp
@[simp] theorem State.measureDue_head (s : State) : (State.measureDue s).head = s.head := by
  unfold State.measureDue; simp
@[simp] theorem State.markBegun_head (n : Nat) (s : State) : (State.markBegun n s).head = s.head := by rfl
@[simp] theorem State.soundDeferred_head (n : Nat) (i : Interim) (s : State) : (State.soundDeferred n i s).head = s.head := by
  unfold State.soundDeferred; split
  · rename_i p _
    have h := State.sndTake_head i.target p (s.markBegun n)
    split
    · rfl
    · split <;> simp_all
  · rfl
@[simp] theorem State.forceDeferred_head (kind : Nat) (i : Interim) (s : State) : (State.forceDeferred kind i s).head = s.head := by
  unfold State.forceDeferred; simp
@[simp] theorem State.deferredStart_head (n : Nat) (i : Interim) (s : State) : (State.deferredStart n i s).head = s.head := by
  unfold State.deferredStart; (repeat' split) <;> simp

/-! ### Updates and resets by request -/

@[simp] theorem State.slotTo_head (i : Nat) (x : SlotState) (version : Nat) (s : State) :
    (State.slotTo i x version s).head = s.head := by rfl

/-! ### Sessions and security -/

@[simp] theorem openBody_head (r : Req) (s : State) : (openBody r s).1.head = s.head := by
  unfold openBody; split <;> simp
@[simp] theorem State.refuseAuth_head (ip : Nat) (s : State) : (State.refuseAuth ip s).head = s.head := by rfl
@[simp] theorem State.proofWrong_head (n : Nat) (s : State) : (State.proofWrong n s).1.head = s.head := by
  unfold State.proofWrong; simp
@[simp] theorem State.proofRight_head (n : Nat) (key : List Byte) (o : Opening) (s : State) :
    (State.proofRight n key o s).1.head = s.head := by
  unfold State.proofRight; simp
@[simp] theorem proveBody_head (r : Req) (s : State) : (proveBody r s).1.head = s.head := by
  unfold proveBody; (repeat' split) <;> simp
@[simp] theorem eventReadBody_head (r : Req) (s : State) : (eventReadBody r s).1.head = s.head := by rfl

/-! ### The mailbox -/

@[simp] theorem State.closeUdp_head (n : Nat) (s : State) : (State.closeUdp n s).head = s.head := by
  unfold State.closeUdp; simp
@[simp] theorem State.protocolError_head (off value : Nat) (s : State) : (State.protocolError off value s).head = s.head := by rfl
@[simp] theorem State.writeReqProd_head (value : Nat) (s : State) : (State.writeReqProd value s).head = s.head := by
  unfold State.writeReqProd; simp
@[simp] theorem State.writeRspCons_head (value : Nat) (s : State) : (State.writeRspCons value s).head = s.head := by
  unfold State.writeRspCons; simp
@[simp] theorem State.writeEvtCons_head (value : Nat) (s : State) : (State.writeEvtCons value s).head = s.head := by
  unfold State.writeEvtCons; simp
@[simp] theorem State.writeIrqStatus_head (value : Nat) (s : State) : (State.writeIrqStatus value s).head = s.head := by rfl
@[simp] theorem State.writeSlots_head (addr : Nat) (bs : List Byte) (s : State) : (State.writeSlots addr bs s).head = s.head := by rfl
@[simp] theorem State.answerOutside_head (ip port : Nat) (bs : List Byte) (x : Resp) (s : State) :
    (State.answerOutside ip port bs x s).head = s.head := by rfl
@[simp] theorem State.addUdp_head (ip port : Nat) (o : Opening) (s : State) : (State.addUdp ip port o s).head = s.head := by rfl
@[simp] theorem State.openUdp_head (ip port : Nat) (payload : List Byte) (s : State) :
    (State.openUdp ip port payload s).1.head = s.head := by
  unfold State.openUdp; split
  · rfl
  · dsimp only; split
    · rfl
    · rename_i t ht
      have hc : t.head = s.head := by
        split at ht
        · cases ht; rfl
        · obtain ⟨n, -, rfl⟩ := Option.map_eq_some_iff.mp ht; simp
      simpa using hc
@[simp] theorem State.udpRepeat_head (u : UdpSession) (ip port : Nat) (bs : List Byte) (s : State) :
    (State.udpRepeat u ip port bs s).head = s.head := by
  unfold State.udpRepeat; (repeat' split) <;> simp

/-! ### The Modbus slave -/

@[simp] theorem State.mbPerform_head (x : MbItem) (s : State) : (State.mbPerform x s).head = s.head := by
  unfold State.mbPerform; split <;> simp

theorem State.imageVerified_head {images : Nat} {s t : State} (h : s.imageVerified images = some t) : t.head = s.head := by
  unfold State.imageVerified at h
  obtain ⟨b, -, rfl⟩ := Option.map_eq_some_iff.mp h
  simp

theorem State.flushLog_head (fuel : Nat) (s : State) : (State.flushLog fuel s).head = s.head := by
  induction fuel generalizing s with
  | zero => rfl
  | succ fuel ih => rw [State.flushLog, ih, State.writeLog_head]

end Sys2Proof.Machine

/-! PROOFS. What may become of the head: the queue stays, and READY changes by an update (R33, R534), is cleared, or loses bits. -/

namespace Sys2Proof.Machine

/-- Bits 29 to 31 of a READY word read 0 (R18). -/
def ReservedZero (w : Word32) : Prop := ∀ n, 29 ≤ n → readyBit w n = false

theorem reservedZero_zero : ReservedZero 0#32 := fun n _ => readyBit_zero n

theorem reservedZero_readyNext (w : Word32) (sets clears : List Nat) : ReservedZero (readyNext w sets clears) :=
  fun n hn => readyNext_reserved w sets clears n hn

theorem ReservedZero.and {w : Word32} (h : ReservedZero w) (v : Word32) : ReservedZero (w &&& v) :=
  fun n hn => by rw [readyBit_and, h n hn, Bool.false_and]

/-- Setting bits below 29 leaves the reserved ones clear. -/
theorem ReservedZero.or_bitMask {w : Word32} (h : ReservedZero w) {bits : List Nat} (hb : ∀ b ∈ bits, b < 29) :
    ReservedZero (w ||| bitMask bits) := fun n hn => by
  have hm : n ∉ bits := fun hm => absurd (hb n hm) (by omega)
  simp [readyBit_or, readyBit_bitMask, h n hn, hm]

/-- The head `h` has the queue of `k`, and the reserved bits of its READY word read 0 where those of `k` do (R18). -/
def Intact (k h : Head) : Prop := h.1 = k.1 ∧ (ReservedZero k.2 → ReservedZero h.2)

theorem Intact.refl (k : Head) : Intact k k := ⟨rfl, id⟩

/-- A word whose reserved bits read 0 may take the place of READY. -/
theorem Intact.setReady {k : Head} {s : State} {w : Word32} (h : Intact k s.head)
    (hw : ReservedZero s.ready → ReservedZero w) : Intact k (s.pending, w) := ⟨h.1, fun hk => hw (h.2 hk)⟩

@[simp] theorem Intact.zero {k : Head} {s : State} (h : Intact k s.head) : Intact k (s.pending, 0#32) :=
  h.setReady fun _ => reservedZero_zero

@[simp] theorem Intact.readyNext {k : Head} {s : State} {w : Word32} {sets clears : List Nat} (h : Intact k s.head) :
    Intact k (s.pending, readyNext w sets clears) := h.setReady fun _ => reservedZero_readyNext w sets clears

@[simp] theorem Intact.and {k : Head} {s : State} {w : Word32} (h : Intact k s.head) :
    Intact k (s.pending, s.ready &&& w) := h.setReady fun hs => hs.and w

theorem Intact.or_bitMask {k : Head} {s : State} {bits : List Nat} (h : Intact k s.head) (hb : ∀ b ∈ bits, b < 29) :
    Intact k (s.pending, s.ready ||| bitMask bits) := h.setReady fun hs => hs.or_bitMask hb

@[simp] theorem Intact.ite {k : Head} {c : Prop} [Decidable c] {g h : Head} :
    Intact k (if c then g else h) ↔ if c then Intact k g else Intact k h := by split <;> rfl

theorem Intact.each {α : Type} {k : Head} {xs : List α} {f : α → State → State} {s : State} (h : Intact k s.head)
    (hf : ∀ x t, Intact k t.head → Intact k (f x t).head) : Intact k (State.each xs f s).head := by
  unfold State.each
  induction xs generalizing s with
  | nil => exact h
  | cons x xs ih => exact ih (hf x s h)

@[simp] theorem State.updateReady_head (sets clears : List Nat) (s : State) :
    (s.updateReady sets clears).head = (s.pending, readyNext s.ready sets clears) :=
  Prod.ext (State.updateReady_pending sets clears s) (State.updateReady_ready sets clears s)

/-- Under the exception of R478 the word becomes the one named. -/
@[simp] theorem State.readyExact_head (w : Word32) (s : State) : (State.readyExact w s).head = (s.pending, w) := by
  unfold State.readyExact; simp

/-- READY with BINNACLE set again (R478): only bits below 29 are set. -/
theorem State.readyExact_or_intact {k : Head} {bits : List Nat} {t u : State} (hb : ∀ b ∈ bits, b < 29) (h : Intact k t.head)
    (hu : u.head = t.head) : Intact k (u.readyExact (t.ready ||| bitMask bits)).head := by
  have hp : u.pending = t.pending := congrArg Prod.fst hu
  rw [State.readyExact_head, hp]
  exact h.or_bitMask hb

/-! ### Functions that change READY -/

section
variable {k : Head} {s : State} (h : Intact k s.head)
include h

@[simp] theorem State.lower_intact {bits : List Nat} : Intact k (State.lower bits s).head := by
  unfold State.lower; simp [h]
@[simp] theorem State.recoverLog_intact : Intact k (State.recoverLog s).head := by
  unfold State.recoverLog; simp [h]
@[simp] theorem State.unlock_intact : Intact k (State.unlock s).head := by
  unfold State.unlock; simp [h]
@[simp] theorem State.enterDr_intact {crit : Nat} : Intact k (State.enterDr crit s).head := by
  unfold State.enterDr; simp [h]
@[simp] theorem State.enterLocked_intact : Intact k (State.enterLocked s).head := by
  unfold State.enterLocked; simp [h]
@[simp] theorem State.crossing_intact {period ampFirst ampLast : Nat} : Intact k (State.crossing period ampFirst ampLast s).head := by
  unfold State.crossing; dsimp only; (repeat' split) <;> simp [h]
@[simp] theorem State.moveOffset_intact {zero pairOff : Int} : Intact k (State.moveOffset zero pairOff s).head := by
  unfold State.moveOffset; split <;> simp [h]
@[simp] theorem State.relockBoundary_intact {e : Int} : Intact k (State.relockBoundary e s).head := by
  unfold State.relockBoundary; simp [h]
@[simp] theorem State.merTurn_intact {e : Int} : Intact k (State.merTurn e s).head := by
  unfold State.merTurn; split <;> simp [h]
@[simp] theorem State.merBoundary_intact {e : Int} : Intact k (State.merBoundary e s).head := by
  unfold State.merBoundary; simp [h]
@[simp] theorem State.nvRecovery_intact {found : Recovery} : Intact k (State.nvRecovery found s).head := by
  unfold State.nvRecovery; dsimp only; split
  · exact h
  · split
    · exact h
    · rename_i v hv
      have ht : v.head = s.head := by simpa using State.imageVerified_head hv
      simp [ht, h]
@[simp] theorem State.openAlmanac_intact : Intact k (State.openAlmanac s).head := by
  unfold State.openAlmanac; simp [h]
@[simp] theorem State.closeAlmanac_intact : Intact k (State.closeAlmanac s).head := by
  unfold State.closeAlmanac; simp [h]
@[simp] theorem State.crystalCheck_intact {expected : Nat} : Intact k (State.crystalCheck expected s).head := by
  unfold State.crystalCheck; simp [h]
@[simp] theorem State.refreshWatchdog_intact : Intact k (State.refreshWatchdog s).head := by
  unfold State.refreshWatchdog; simp [h]
@[simp] theorem State.watchdogExpires_intact : Intact k (State.watchdogExpires s).head := by
  unfold State.watchdogExpires; simp [h]
@[simp] theorem State.helmRises_intact : Intact k (State.helmRises s).head := by
  unfold State.helmRises; simp [h]
@[simp] theorem State.helmApply_intact {late : Nat} : Intact k (State.helmApply late s).head := by
  unfold State.helmApply; simp [h]
@[simp] theorem State.fgRise_intact {g : Nat} : Intact k (State.fgRise g s).head := by
  unfold State.fgRise; simp [h]
@[simp] theorem State.fgLost_intact {g cause : Nat} : Intact k (State.fgLost g cause s).head := by
  unfold State.fgLost; simp [h]
@[simp] theorem State.downFrame_intact {g seq : Nat} {start : Bool} : Intact k (State.downFrame g seq start s).head := by
  unfold State.downFrame; simp [h]
@[simp] theorem State.upFrame_intact {g seq vfield : Nat} {currents : List Nat} :
    Intact k (State.upFrame g seq vfield currents s).head := by
  unfold State.upFrame; simp [h]
@[simp] theorem State.refreshPorts_intact : Intact k (State.refreshPorts s).head := by
  unfold State.refreshPorts; simp [h]
@[simp] theorem State.planPublish_intact : Intact k (State.planPublish s).head := by
  unfold State.planPublish; simp [h]
@[simp] theorem State.refreshMirror_intact : Intact k (State.refreshMirror s).head := by
  unfold State.refreshMirror; simp [h]
@[simp] theorem State.takeBits_intact {f : MirrorFrame} : Intact k (State.takeBits f s).head := by
  unfold State.takeBits; simp [h]
@[simp] theorem State.installFrame_intact {f : MirrorFrame} : Intact k (State.installFrame f s).head := by
  unfold State.installFrame; simp [h]
@[simp] theorem State.mirrorFrame_intact {f : MirrorFrame} : Intact k (State.mirrorFrame f s).head := by
  unfold State.mirrorFrame; dsimp only; (repeat' split) <;> simp [h]
@[simp] theorem State.becomeStandby_intact {cause : Nat} : Intact k (State.becomeStandby cause s).head := by
  unfold State.becomeStandby; simp [h]
@[simp] theorem State.busTakes_intact : Intact k (State.busTakes s).head := by
  unfold State.busTakes; simp [h]
@[simp] theorem State.becomeActive_intact {cause : Nat} : Intact k (State.becomeActive cause s).head := by
  unfold State.becomeActive; dsimp only; split
  · simp [h]
  · refine State.refreshMirror_intact ?_
    simp [h]
@[simp] theorem State.handOver_intact : Intact k (State.handOver s).head := by
  unfold State.handOver; split <;> simp [h]
@[simp] theorem State.pairTurn_intact : Intact k (State.pairTurn s).head := by
  unfold State.pairTurn; simp [h]
@[simp] theorem State.commitReady_intact : Intact k (State.commitReady s).head := by
  unfold State.commitReady; simp [h]
@[simp] theorem State.commitPair_intact {old : State} : Intact k (State.commitPair old s).head := by
  unfold State.commitPair; simp [h]
@[simp] theorem State.refreshEconomy_intact : Intact k (State.refreshEconomy s).head := by
  unfold State.refreshEconomy; simp [h]
@[simp] theorem State.effects_intact {old : State} {start : Bool} {lost : Nat × Nat} :
    Intact k (State.effects old start lost s).head := by
  unfold State.effects
  refine State.commitPair_intact (State.refreshEconomy_intact (State.refreshPorts_intact (State.commitReady_intact ?_)))
  have h0 : ∀ u : State, u.head = s.head → Intact k (u.moveOffset (s.cfgI Fid.ZERO_OFFSET) s.mer.pairOffset).head :=
    fun u hu => State.moveOffset_intact (hu ▸ h)
  simp [h0]
@[simp] theorem State.cfgEffect_intact : Intact k (State.cfgEffect s).head := by
  unfold State.cfgEffect; split
  · exact h
  · rename_i p _
    have he : ∀ old b lost u, u.head = s.head → Intact k (State.effects old b lost u).head :=
      fun _ _ _ u hu => State.effects_intact (hu ▸ h)
    dsimp only
    split <;> simp [he]
@[simp] theorem State.servicesDown_intact : Intact k (State.servicesDown s).head := by
  unfold State.servicesDown; simp [h]
@[simp] theorem State.servicesBegin_intact : Intact k (State.servicesBegin s).head := by
  have ht : Intact k (s.updateReady [Rdy.i2c, Rdy.chart] []).commitReady.head := by simp [h]
  unfold State.servicesBegin; dsimp only
  generalize (s.updateReady [Rdy.i2c, Rdy.chart] []).commitReady = t at ht
  simp [ht]
@[simp] theorem State.servicesRise_intact : Intact k (State.servicesRise s).head := by
  unfold State.servicesRise; simp [h]
@[simp] theorem State.serviceFailure_intact {cause core : Nat} : Intact k (State.serviceFailure cause core s).head := by
  unfold State.serviceFailure; simp [h]
@[simp] theorem State.restartServices_intact {reason : Nat} : Intact k (State.restartServices reason s).head := by
  unfold State.restartServices; simp [h]
@[simp] theorem State.moduleReset_intact {island : Bool} : Intact k (State.moduleReset island s).head := by
  unfold State.moduleReset; simp [h]
@[simp] theorem State.startUp_intact {cause : Nat} : Intact k (State.startUp cause s).head := by
  unfold State.startUp; simp [h]
@[simp] theorem State.supplyTo_intact {x : SupplyState} : Intact k (State.supplyTo x s).head := by
  unfold State.supplyTo; simp [h]
@[simp] theorem State.collapse_intact : Intact k (State.collapse s).head := by
  have ht : Intact k (if s.rdy Rdy.almanac then s.lockAlmanac else s).head := by simp [h]
  unfold State.collapse; dsimp only
  generalize (if s.rdy Rdy.almanac then s.lockAlmanac else s) = t at ht
  simp [ht]
@[simp] theorem State.powerOff_intact : Intact k (State.powerOff s).head := by
  unfold State.powerOff; simp [h]
@[simp] theorem State.enterSleep_intact : Intact k (State.enterSleep s).head := by
  unfold State.enterSleep; simp [h, State.flushLog_head]
@[simp] theorem State.railGates_intact {rails : List Nat} {temp0 : Int} : Intact k (State.railGates rails temp0 s).head := by
  unfold State.railGates; simp [h]
@[simp] theorem State.senseAll_intact {rails : List Nat} {temps : List Int} {vbat : Option Nat} {iin : Nat} :
    Intact k (State.senseAll rails temps vbat iin s).head := by
  unfold State.senseAll; simp [h]
@[simp] theorem State.binnacleRestart_intact {kept : Bool} : Intact k (State.binnacleRestart kept s).head := by
  unfold State.binnacleRestart
  refine State.readyExact_or_intact (by simp) ?_ (by simp)
  simp only [State.each_head, State.abortFn_head, State.readyExact_head, implies_true]
  exact Intact.and (by simp [h])
@[simp] theorem State.sramLoss_intact {region item : Nat} : Intact k (State.sramLoss region item s).head := by
  unfold State.sramLoss; split <;> simp [h]
@[simp] theorem State.floorApply_intact {late : Nat} : Intact k (State.floorApply late s).head := by
  unfold State.floorApply; simp [h]
@[simp] theorem State.slotAction_intact {n late waiting : Nat} {w : SlotWords} : Intact k (State.slotAction n late waiting w s).head := by
  unfold State.slotAction; split <;> simp [h]
@[simp] theorem State.slotFire_intact {n late waiting : Nat} : Intact k (State.slotFire n late waiting s).head := by
  unfold State.slotFire; simp [h]
@[simp] theorem State.turnServices_intact : Intact k (State.turnServices s).head := by
  unfold State.turnServices; simp [h]
@[simp] theorem State.turnCounts_intact : Intact k (State.turnCounts s).head := by
  unfold State.turnCounts; simp [h]
@[simp] theorem State.turnBoundary_intact {e : Int} : Intact k (State.turnBoundary e s).head := by
  unfold State.turnBoundary; dsimp only; split
  · exact h
  · refine State.turnCounts_intact (State.turnServices_intact ?_)
    simp [h]
@[simp] theorem State.swapService_intact {i : Nat} : Intact k (State.swapService i s).head := by
  unfold State.swapService; simp [h]
@[simp] theorem State.swapBinnacle_intact {i : Nat} : Intact k (State.swapBinnacle i s).head := by
  unfold State.swapBinnacle; simp [h]
@[simp] theorem State.resetServices_intact : Intact k (State.resetServices s).head := by
  unfold State.resetServices; simp [h]
@[simp] theorem State.resetModule_intact : Intact k (State.resetModule s).head := by
  unfold State.resetModule; simp [h]
@[simp] theorem secWriteBody_intact {r : Req} : Intact k (secWriteBody r s).1.head := by
  unfold secWriteBody; dsimp only; split
  · simp [h]
  · split <;> simp [State.saveNow_head_of ‹_›, h]

end

end Sys2Proof.Machine

/-! PROOFS. The mailbox operations and the transports keep the head intact. -/

namespace Sys2Proof.Machine

/-- An operation that leaves an intact head intact, whatever request it runs for. -/
def OpDef.Keeps (d : OpDef) : Prop := ∀ (k : Head) (r : Req) (s : State), Intact k s.head → Intact k (d.body r s).1.head

theorem OpDef.run_intact {k : Head} {d : OpDef} {r : Req} {s : State} (hd : d.Keeps) (h : Intact k s.head) :
    Intact k (d.run r s).head := by
  have hb := hd k r (s.addFlight d r) (by simp [h])
  unfold OpDef.run
  split <;> rename_i e <;> rw [e] at hb
  · exact hb
  · simpa using hb

theorem serve_intact {k : Head} {d : OpDef} {r : Req} {s : State} (hd : d.Keeps) (h : Intact k s.head) :
    Intact k (serve d r s).head := by
  unfold serve; split
  · exact h
  · split
    · simp [h]
    · exact OpDef.run_intact hd h

/-- What follows the answer of RESET or UPDATE_SWAP keeps an intact head if the function it names does (R35, R486). -/
theorem State.postThen_intact {k : Head} {r : Req} {f : State → State} {s : State}
    (hf : ∀ t : State, Intact k t.head → Intact k (f t).head) (h : Intact k s.head) : Intact k (s.postThen r f).1.head :=
  hf _ (by simp [h])

theorem opLogRead_keeps : opLogRead.Keeps := fun k r s h => by simp [opLogRead, h]
theorem opLogAck_keeps : opLogAck.Keeps := fun k r s h => by simp [opLogAck, h]
theorem opConcordRead_keeps : opConcordRead.Keeps := fun k r s h => by simp [opConcordRead, h]
theorem opSlotRead_keeps : opSlotRead.Keeps := fun k r s h => by simp [opSlotRead, h]
theorem opSlotWrite_keeps : opSlotWrite.Keeps := fun k r s h => by simp [opSlotWrite, h]
theorem opSheafRead_keeps : opSheafRead.Keeps := fun k r s h => by simp [opSheafRead, h]
theorem opAlmanacRead_keeps : opAlmanacRead.Keeps := fun k r s h => by simp [opAlmanacRead, h]
theorem opAlmanacWrite_keeps : opAlmanacWrite.Keeps := fun k r s h => by simp [opAlmanacWrite, h]
theorem opAlmanacTrim_keeps : opAlmanacTrim.Keeps := fun k r s h => by simp [opAlmanacTrim, h]
theorem opAlmanacAlarm_keeps : opAlmanacAlarm.Keeps := fun k r s h => by simp [opAlmanacAlarm, h]
theorem opBackupRead_keeps : opBackupRead.Keeps := fun k r s h => by simp [opBackupRead, h]
theorem opBackupWrite_keeps : opBackupWrite.Keeps := fun k r s h => by simp [opBackupWrite, h]
theorem opAoForce_keeps : opAoForce.Keeps := fun k r s h => by simp [opAoForce, h]
theorem opAgoForce_keeps : opAgoForce.Keeps := fun k r s h => by simp [opAgoForce, h]
theorem opAoRead_keeps : opAoRead.Keeps := fun k r s h => by simp [opAoRead, h]
theorem opAgoRead_keeps : opAgoRead.Keeps := fun k r s h => by simp [opAgoRead, h]
theorem opZoneStatus_keeps : opZoneStatus.Keeps := fun k r s h => by simp [opZoneStatus, h]
theorem opSignalRead_keeps : opSignalRead.Keeps := fun k r s h => by simp [opSignalRead, h]
theorem opSignalWrite_keeps : opSignalWrite.Keeps := fun k r s h => by simp [opSignalWrite, h]
theorem opHostInputWrite_keeps : opHostInputWrite.Keeps := fun k r s h => by simp [opHostInputWrite, h]
theorem opHelmRead_keeps : opHelmRead.Keeps := fun k r s h => by dsimp only [opHelmRead]; split <;> simp [h]
theorem opHelmWrite_keeps : opHelmWrite.Keeps := fun k r s h => by dsimp only [opHelmWrite]; (repeat' split) <;> simp [h]
theorem opBankCopy_keeps : opBankCopy.Keeps := fun k r s h => by simp [opBankCopy, h]
theorem opBankSwap_keeps : opBankSwap.Keeps := fun k r s h => by simp [opBankSwap, h]
theorem opHelmDiag_keeps : opHelmDiag.Keeps := fun k r s h => by dsimp only [opHelmDiag]; (repeat' split) <;> simp [h]
theorem opChartWrite_keeps : opChartWrite.Keeps := fun k r s h => by dsimp only [opChartWrite]; split <;> simp [h]
theorem opChartStatus_keeps : opChartStatus.Keeps := fun k r s h => by simp [opChartStatus, h]
theorem opSoundStart_keeps : opSoundStart.Keeps := fun k r s h => by dsimp only [opSoundStart]; (repeat' split) <;> simp [h]
theorem opModeWrite_keeps : opModeWrite.Keeps := fun k r s h => by simp [opModeWrite, h]
theorem opSoundAbort_keeps : opSoundAbort.Keeps := fun k r s h => by simp [opSoundAbort, h]
theorem opSoundStatus_keeps : opSoundStatus.Keeps := fun k r s h => by simp [opSoundStatus, h]
theorem opSoundCapture_keeps : opSoundCapture.Keeps := fun k r s h => by simp [opSoundCapture, h]
theorem opSoundResult_keeps : opSoundResult.Keeps := fun k r s h => by simp [opSoundResult, h]
theorem opSoundDeliver_keeps : opSoundDeliver.Keeps := fun k r s h => by simp [opSoundDeliver, h]
theorem opFcRead_keeps : opFcRead.Keeps := fun k r s h => by simp [opFcRead, h]
theorem opFcEdgeRead_keeps : opFcEdgeRead.Keeps := fun k r s h => by simp [opFcEdgeRead, h]
theorem opFcForce_keeps : opFcForce.Keeps := fun k r s h => by simp [opFcForce, h]
theorem opFcClear_keeps : opFcClear.Keeps := fun k r s h => by simp [opFcClear, h]
theorem opUiRead_keeps : opUiRead.Keeps := fun k r s h => by simp [opUiRead, h]
theorem opUiCalibrate_keeps : opUiCalibrate.Keeps := fun k r s h => by dsimp only [opUiCalibrate]; (repeat' split) <;> simp [h]
theorem opI2cRead_keeps : opI2cRead.Keeps := fun k r s h => by simp [opI2cRead, h]
theorem opPortStatus_keeps : opPortStatus.Keeps := fun k r s h => by simp [opPortStatus, h]
theorem opPartnerList_keeps : opPartnerList.Keeps := fun k r s h => by simp [opPartnerList, h]
theorem opBindRead_keeps : opBindRead.Keeps := fun k r s h => by simp [opBindRead, h]
theorem opSvcReadProperty_keeps : opSvcReadProperty.Keeps := fun k r s h => by dsimp only [opSvcReadProperty]; split <;> simp [h]
theorem opSvcWriteProperty_keeps : opSvcWriteProperty.Keeps := fun k r s h => by
  dsimp only [opSvcWriteProperty]
  split <;> simpa [State.writeProp_head_of ‹_›] using h
theorem opSvcTimeSet_keeps : opSvcTimeSet.Keeps := fun k r s h => by dsimp only [opSvcTimeSet]; split <;> simp [h]
theorem opSvcTimeRead_keeps : opSvcTimeRead.Keeps := fun k r s h => by simp [opSvcTimeRead, h]
theorem opPolicyRead_keeps : opPolicyRead.Keeps := fun k r s h => by simp [opPolicyRead, h]
theorem opOccRead_keeps : opOccRead.Keeps := fun k r s h => by dsimp only [opOccRead]; split <;> simp [h]
theorem opWpForecast_keeps : opWpForecast.Keeps := fun k r s h => by simp [opWpForecast, h]
theorem opWpTariff_keeps : opWpTariff.Keeps := fun k r s h => by simp [opWpTariff, h]
theorem opWpReplan_keeps : opWpReplan.Keeps := fun k r s h => by simp [opWpReplan, h]
theorem opWpStatus_keeps : opWpStatus.Keeps := fun k r s h => by simp [opWpStatus, h]
theorem opWpTrajectory_keeps : opWpTrajectory.Keeps := fun k r s h => by dsimp only [opWpTrajectory]; split <;> simp [h]
theorem opCfgBegin_keeps : opCfgBegin.Keeps := fun k r s h => by simp [opCfgBegin, h]
theorem opCfgWrite_keeps : opCfgWrite.Keeps := fun k r s h => by simp [opCfgWrite, h]
theorem opCfgCommit_keeps : opCfgCommit.Keeps := fun k r s h => by simp [opCfgCommit, h]
theorem opCfgInfo_keeps : opCfgInfo.Keeps := fun k r s h => by simp [opCfgInfo, h]
theorem opCfgRead_keeps : opCfgRead.Keeps := fun k r s h => by simp [opCfgRead, h]
theorem opClampRead_keeps : opClampRead.Keeps := fun k r s h => by simp [opClampRead, h]
theorem opPairStatus_keeps : opPairStatus.Keeps := fun k r s h => by simp [opPairStatus, h]
theorem opPairHandover_keeps : opPairHandover.Keeps := fun k r s h => by simp [opPairHandover, h]
theorem opTillerRead_keeps : opTillerRead.Keeps := fun k r s h => by simp [opTillerRead, h]
theorem opTillerState_keeps : opTillerState.Keeps := fun k r s h => by simp [opTillerState, h]
theorem opSensorRead_keeps : opSensorRead.Keeps := fun k r s h => by simp [opSensorRead, h]
theorem opSelftest_keeps : opSelftest.Keeps := fun k r s h => by simp [opSelftest, h]
theorem opUpdateBegin_keeps : opUpdateBegin.Keeps := fun k r s h => by dsimp only [opUpdateBegin]; (repeat' split) <;> simp [h]
theorem opUpdateWrite_keeps : opUpdateWrite.Keeps := fun k r s h => by dsimp only [opUpdateWrite]; (repeat' split) <;> simp [h]
theorem opUpdateVerify_keeps : opUpdateVerify.Keeps := fun k r s h => by dsimp only [opUpdateVerify]; split <;> simp [h]
theorem opUpdateStatus_keeps : opUpdateStatus.Keeps := fun k r s h => by simp [opUpdateStatus, h]
theorem opUpdateSwap_keeps : opUpdateSwap.Keeps := fun k r s h => by
  dsimp only [opUpdateSwap]
  split
  · simp [h]
  · split
    · simp [h]
    · refine State.postThen_intact (fun t ht => ?_) h
      split
      · exact State.swapBinnacle_intact ht
      · exact State.swapService_intact ht
theorem opReset_keeps : opReset.Keeps := fun k r s h => by
  dsimp only [opReset]
  refine State.postThen_intact (fun t ht => ?_) h
  split
  · exact State.resetServices_intact ht
  · exact State.resetModule_intact ht
theorem opBarrier_keeps : opBarrier.Keeps := fun k r s h => by simp [opBarrier, h]
theorem opIdentify_keeps : opIdentify.Keeps := fun k r s h => by simp [opIdentify, h]
theorem opSessionOpen_keeps : opSessionOpen.Keeps := fun k r s h => by simp [opSessionOpen, h]
theorem opSessionProve_keeps : opSessionProve.Keeps := fun k r s h => by simp [opSessionProve, h]
theorem opSessionClose_keeps : opSessionClose.Keeps := fun k r s h => by simp [opSessionClose, h]
theorem opSecWrite_keeps : opSecWrite.Keeps := fun k r s h => by simp [opSecWrite, h]
theorem opSecInfo_keeps : opSecInfo.Keeps := fun k r s h => by simp [opSecInfo, h]
theorem opEventRead_keeps : opEventRead.Keeps := fun k r s h => by simp [opEventRead, h]
theorem opEventStatus_keeps : opEventStatus.Keeps := fun k r s h => by simp [opEventStatus, h]

/-- Every operation of the opcode tables keeps the head intact. -/
theorem opTable_keeps {d : OpDef} (h : d ∈ opTable) : d.Keeps := by
  simp only [opTable, List.cons_append, List.nil_append, List.mem_cons, List.not_mem_nil, or_false] at h
  rcases h with rfl | rfl | rfl | rfl | rfl | rfl | rfl | rfl | rfl | rfl | rfl | rfl | rfl | rfl | rfl | rfl | rfl | rfl | rfl | rfl | rfl |
    rfl | rfl | rfl | rfl | rfl | rfl | rfl | rfl | rfl | rfl | rfl | rfl | rfl | rfl | rfl | rfl | rfl | rfl | rfl | rfl | rfl |
    rfl | rfl | rfl | rfl | rfl | rfl | rfl | rfl | rfl | rfl | rfl | rfl | rfl | rfl | rfl | rfl | rfl | rfl | rfl | rfl | rfl |
    rfl | rfl | rfl | rfl | rfl | rfl | rfl | rfl | rfl | rfl | rfl | rfl | rfl | rfl | rfl | rfl | rfl | rfl | rfl
  · exact opAlmanacRead_keeps
  · exact opAlmanacWrite_keeps
  · exact opAlmanacTrim_keeps
  · exact opAlmanacAlarm_keeps
  · exact opBackupRead_keeps
  · exact opBackupWrite_keeps
  · exact opHelmRead_keeps
  · exact opHelmWrite_keeps
  · exact opBankCopy_keeps
  · exact opBankSwap_keeps
  · exact opHelmDiag_keeps
  · exact opSensorRead_keeps
  · exact opSelftest_keeps
  · exact opPortStatus_keeps
  · exact opPartnerList_keeps
  · exact opBindRead_keeps
  · exact opCfgBegin_keeps
  · exact opCfgWrite_keeps
  · exact opCfgCommit_keeps
  · exact opCfgInfo_keeps
  · exact opCfgRead_keeps
  · exact opClampRead_keeps
  · exact opChartWrite_keeps
  · exact opChartStatus_keeps
  · exact opConcordRead_keeps
  · exact opFcRead_keeps
  · exact opFcEdgeRead_keeps
  · exact opFcForce_keeps
  · exact opFcClear_keeps
  · exact opI2cRead_keeps
  · exact opLogRead_keeps
  · exact opLogAck_keeps
  · exact opSlotRead_keeps
  · exact opSlotWrite_keeps
  · exact opSheafRead_keeps
  · exact opOccRead_keeps
  · exact opAoForce_keeps
  · exact opAgoForce_keeps
  · exact opAoRead_keeps
  · exact opAgoRead_keeps
  · exact opPairStatus_keeps
  · exact opPairHandover_keeps
  · exact opPolicyRead_keeps
  · exact opSvcReadProperty_keeps
  · exact opSvcWriteProperty_keeps
  · exact opSvcTimeSet_keeps
  · exact opSvcTimeRead_keeps
  · exact opSoundStart_keeps
  · exact opModeWrite_keeps
  · exact opSoundAbort_keeps
  · exact opSoundStatus_keeps
  · exact opSoundCapture_keeps
  · exact opSoundResult_keeps
  · exact opSoundDeliver_keeps
  · exact opTillerRead_keeps
  · exact opTillerState_keeps
  · exact opUiRead_keeps
  · exact opUiCalibrate_keeps
  · exact opUpdateBegin_keeps
  · exact opUpdateWrite_keeps
  · exact opUpdateVerify_keeps
  · exact opUpdateStatus_keeps
  · exact opUpdateSwap_keeps
  · exact opReset_keeps
  · exact opWpForecast_keeps
  · exact opWpTariff_keeps
  · exact opWpReplan_keeps
  · exact opWpStatus_keeps
  · exact opWpTrajectory_keeps
  · exact opZoneStatus_keeps
  · exact opSignalRead_keeps
  · exact opSignalWrite_keeps
  · exact opHostInputWrite_keeps
  · exact opBarrier_keeps
  · exact opIdentify_keeps
  · exact opSessionOpen_keeps
  · exact opSessionProve_keeps
  · exact opSessionClose_keeps
  · exact opSecWrite_keeps
  · exact opSecInfo_keeps
  · exact opEventRead_keeps
  · exact opEventStatus_keeps

theorem opNamed_keeps {cls opcode : Nat} {d : OpDef} (h : opNamed cls opcode = some d) : d.Keeps :=
  opTable_keeps (List.mem_of_find?_eq_some h)

theorem headerCheck_keeps {session : Nat} {unread : Bool} {bs : List Byte} {d : OpDef}
    (h : headerCheck session unread bs = .inr d) : d.Keeps := by
  unfold headerCheck at h
  (repeat' split at h) <;> cases h
  exact opNamed_keeps ‹_›

/-! ### Transports -/

section
variable {k : Head} {s : State} (h : Intact k s.head)
include h

@[simp] theorem State.deliver_intact {session : Nat} {unread : Bool} {bs : List Byte} :
    Intact k (State.deliver session unread bs s).head := by
  unfold State.deliver; split
  · simp [h]
  · exact serve_intact (headerCheck_keeps ‹_›) h
@[simp] theorem State.offer_intact {session : Nat} {bs : List Byte} : Intact k (State.offer session bs s).head := by
  unfold State.offer; simp [h]
@[simp] theorem State.offerWaiting_intact : Intact k (State.offerWaiting s).head := by
  unfold State.offerWaiting
  exact Intact.each (by simp [h]) fun w t ht => State.offer_intact ht
@[simp] theorem State.requestAccept_intact : Intact k (State.requestAccept s).head := by
  unfold State.requestAccept; simp [h]
@[simp] theorem State.responsePost_intact {n : Nat} : Intact k (State.responsePost n s).head := by
  unfold State.responsePost; dsimp only; (repeat' split) <;> simp [h]
@[simp] theorem State.writeDoorbell_intact {value : Nat} : Intact k (State.writeDoorbell value s).head := by
  unfold State.writeDoorbell; simp [h]
@[simp] theorem State.writeRegister_intact {off value : Nat} : Intact k (State.writeRegister off value s).head := by
  unfold State.writeRegister; simp [h]
@[simp] theorem State.writeWindow_intact {addr : Nat} {bytes : List Byte} : Intact k (State.writeWindow addr bytes s).head := by
  unfold State.writeWindow; dsimp only; split
  · exact h.each fun w t ht => State.writeRegister_intact ht
  · simp [h]
@[simp] theorem State.udpOutside_intact {ip port : Nat} {bs : List Byte} : Intact k (State.udpOutside ip port bs s).head := by
  unfold State.udpOutside; dsimp only; (repeat' split) <;> simp [h]
@[simp] theorem State.udpInside_intact {u : UdpSession} {ip port : Nat} {d : List Byte} :
    Intact k (State.udpInside u ip port d s).head := by
  unfold State.udpInside; simp [h]

end

end Sys2Proof.Machine

/-! PROOFS. Every command keeps the head intact: one lemma per command that no request asks for; a requested one is served. -/

namespace Sys2Proof.Machine

/-- An outcome whose next state, if it has one, has an intact head. -/
def Leaves (k : Head) (o : Host.Outcome State Fault Refusal) : Prop := ∀ t, o = .next t → Intact k t.head

@[simp] theorem leaves_next {k : Head} {t : State} : Leaves k (.next t) ↔ Intact k t.head :=
  ⟨fun h => h t rfl, fun h u hu => by cases hu; exact h⟩

@[simp] theorem State.advance_intact {k : Head} {a : At} {s : State} (h : Intact k s.head) : Intact k (s.advance a).head := by
  rwa [State.advance_head]

/-- A BACnet service takes effect through its own function, or only takes the frame from its port (R302, R344). -/
theorem State.bacnet_intact {k : Head} {p : Nat} {f : State → State} {s : State}
    (hf : ∀ t : State, Intact k t.head → Intact k (f t).head) (h : Intact k s.head) : Intact k (State.bacnet p f s).head := by
  unfold State.bacnet; dsimp only; split
  · split
    · exact hf _ (by simp [h])
    · simp [h]
  · exact h

theorem State.bacnetAlways_intact {k : Head} {p : Nat} {f : State → State} {s : State}
    (hf : ∀ t : State, Intact k t.head → Intact k (f t).head) (h : Intact k s.head) : Intact k (State.bacnetAlways p f s).head := by
  unfold State.bacnetAlways; dsimp only; split
  · split
    · simp [h]
    · exact hf _ (by simp [h])
  · exact h

/-- A host access to the window takes effect through its own function or not at all (R374). -/
theorem State.window_intact {k : Head} {f : State → State} {s : State}
    (hf : ∀ t : State, Intact k t.head → Intact k (f t).head) (h : Intact k s.head) : Intact k (State.window f s).head := by
  unfold State.window; split
  · exact hf s h
  · exact h

theorem State.notifyOne_head (n : Note) (r : Recipient) (x : State × Nat) : (State.notifyOne n r x).1.head = x.1.head := by
  unfold State.notifyOne; dsimp only; split
  · rfl
  · split <;> simp

theorem State.notifyEach_head (n : Note) (rs : List Recipient) (x : State × Nat) :
    (rs.foldl (fun y r => State.notifyOne n r y) x).1.head = x.1.head := by
  induction rs generalizing x with
  | nil => rfl
  | cons r rs ih => rw [List.foldl_cons, ih, State.notifyOne_head]

/-- A run of registers written performs its items one after another (R315, R316). -/
theorem State.mbWrite_head {addr limit : Nat} {values : List Nat} {s t : State} (h : s.mbWrite addr limit values = .ok t) :
    t.head = s.head := by
  unfold State.mbWrite at h
  (repeat' split at h) <;> cases h
  exact State.each_head _ _ _ fun x t => State.mbPerform_head x t

theorem Except.map_eq_ok {ε α β : Type} {f : α → β} {e : Except ε α} {y : β} (h : e.map f = .ok y) : ∃ x, e = .ok x ∧ f x = y := by
  cases e with
  | error e => cases h
  | ok x => exact ⟨x, rfl, Except.ok.inj h⟩

theorem State.mbServe_head {fn addr count waddr : Nat} {values d : List Nat} {s t : State}
    (h : s.mbServe fn addr count waddr values = .ok (t, d)) : t.head = s.head := by
  unfold State.mbServe at h
  split at h
  · (repeat' split at h) <;> cases h; rfl
  · obtain ⟨_, -, hx⟩ := Except.map_eq_ok h; cases hx; rfl
  · obtain ⟨_, -, hx⟩ := Except.map_eq_ok h; cases hx; rfl
  · obtain ⟨_, hw, hx⟩ := Except.map_eq_ok h; cases hx; exact State.mbWrite_head hw
  · obtain ⟨_, hw, hx⟩ := Except.map_eq_ok h; cases hx; exact State.mbWrite_head hw
  · split at h
    · cases h
    · obtain ⟨_, -, hx⟩ := Except.map_eq_ok h; cases hx; exact State.mbWrite_head ‹_›
  · cases h

theorem leaves_serve {k : Head} {d : OpDef} {a : At} {r : Req} {s : State} (hd : d.Keeps) (h : Intact k s.head) :
    Leaves k (.next (serve d r (s.advance a))) := leaves_next.mpr (serve_intact hd h)

/-! ### Commands -/

section
variable {k : Head} {s : State} (h : Intact k s.head)
include h

theorem execLogbookWrite_leaves {a : At} : Leaves k (execLogbookWrite a s) := by
  unfold execLogbookWrite; simp [h]
theorem execLogbookRecordRaised_leaves {a : At} {source severity code : Nat} {payload : List Byte} {posts : Bool} {target : Nat} :
    Leaves k (execLogbookRecordRaised a source severity code payload posts target s) := by
  unfold execLogbookRecordRaised; simp [h]
theorem execLogbookRecovery_leaves {a : At} : Leaves k (execLogbookRecovery a s) := by
  unfold execLogbookRecovery; simp [h]
theorem execFittedCrossing_leaves {a : At} {period ampFirst ampLast : Nat} :
    Leaves k (execFittedCrossing a period ampFirst ampLast s) := by
  unfold execFittedCrossing; dsimp only; split <;> simp [h]
theorem execFitUpdate_leaves {a : At} {hz amp toEnd : Nat} : Leaves k (execFitUpdate a hz amp toEnd s) := by
  unfold execFitUpdate; simp [h]
theorem execLossDetection_leaves {a : At} : Leaves k (execLossDetection a s) := by
  unfold execLossDetection; simp [h]
theorem execTurnMark_leaves {a : At} : Leaves k (execTurnMark a s) := by
  unfold execTurnMark; simp [h]
theorem execConcordanceLogPeriod_leaves {a : At} : Leaves k (execConcordanceLogPeriod a s) := by
  unfold execConcordanceLogPeriod; simp [h]
theorem execJournaledPageOperation_leaves {a : At} {fate : JrnFate} : Leaves k (execJournaledPageOperation a fate s) := by
  unfold execJournaledPageOperation; simp [h]
theorem execSheafAddition_leaves {a : At} {cut : Bool} : Leaves k (execSheafAddition a cut s) := by
  unfold execSheafAddition; simp [h]
theorem execRecordWrite_leaves {a : At} : Leaves k (execRecordWrite a s) := by
  unfold execRecordWrite; simp [h]
theorem execCompaction_leaves {a : At} : Leaves k (execCompaction a s) := by
  unfold execCompaction; simp [h]
theorem execMramScrubStep_leaves {a : At} {corrected bad : List Nat} : Leaves k (execMramScrubStep a corrected bad s) := by
  unfold execMramScrubStep; simp [h]
theorem execNvRecovery_leaves {a : At} {found : Recovery} : Leaves k (execNvRecovery a found s) := by
  unfold execNvRecovery; simp [h]
theorem execAlarm_leaves {a : At} {n : Nat} : Leaves k (execAlarm a n s) := by
  unfold execAlarm; simp [h]
theorem execWrapped_leaves {a : At} : Leaves k (execWrapped a s) := by
  unfold execWrapped; dsimp only; (repeat' split) <;> simp [h]
theorem execPowerLost_leaves {a : At} : Leaves k (execPowerLost a s) := by
  unfold execPowerLost; simp [h]
theorem execAlmanacCommitEdge_leaves {a : At} : Leaves k (execAlmanacCommitEdge a s) := by
  unfold execAlmanacCommitEdge; simp [h]
theorem execCountLoRead_leaves {a : At} : Leaves k (execCountLoRead a s) := by
  unfold execCountLoRead; simp [h]
theorem execCountLoWrite_leaves {a : At} {lo : Nat} : Leaves k (execCountLoWrite a lo s) := by
  unfold execCountLoWrite; simp [h]
theorem execAlarmLoWrite_leaves {a : At} {n lo : Nat} : Leaves k (execAlarmLoWrite a n lo s) := by
  unfold execAlarmLoWrite; simp [h]
theorem execTrimPeriodStart_leaves {a : At} : Leaves k (execTrimPeriodStart a s) := by
  unfold execTrimPeriodStart; simp [h]
theorem execAlmanacCrystalCheck_leaves {a : At} {expected : Nat} : Leaves k (execAlmanacCrystalCheck a expected s) := by
  unfold execAlmanacCrystalCheck; simp [h]
theorem execDomainPowerOn_leaves {a : At} : Leaves k (execDomainPowerOn a s) := by
  unfold execDomainPowerOn; simp [h]
theorem execAoWatchdogRefresh_leaves {a : At} : Leaves k (execAoWatchdogRefresh a s) := by
  unfold execAoWatchdogRefresh; dsimp only; split <;> simp [h]
theorem execWatchdog_leaves {a : At} : Leaves k (execWatchdog a s) := by
  unfold execWatchdog; dsimp only; split <;> simp [h]
theorem execAoMonitorSample_leaves {a : At} {readings : List (Nat × Int × Bool)} : Leaves k (execAoMonitorSample a readings s) := by
  unfold execAoMonitorSample; simp [h]
theorem execForceDurationEnd_leaves {a : At} {kind n : Nat} : Leaves k (execForceDurationEnd a kind n s) := by
  unfold execForceDurationEnd; dsimp only; split <;> simp [h]
theorem execHostValueSave_leaves {a : At} : Leaves k (execHostValueSave a s) := by
  unfold execHostValueSave; simp [h]
theorem execBankCopyComplete_leaves {a : At} : Leaves k (execBankCopyComplete a s) := by
  unfold execBankCopyComplete; dsimp only; split <;> simp [h]
theorem execBankSave_leaves {a : At} : Leaves k (execBankSave a s) := by
  unfold execBankSave; simp [h]
theorem execEpaperUpdateStart_leaves {a : At} : Leaves k (execEpaperUpdateStart a s) := by
  unfold execEpaperUpdateStart; simp [h]
theorem execEpaperFrame_leaves {a : At} : Leaves k (execEpaperFrame a s) := by
  unfold execEpaperFrame; dsimp only; (repeat' split) <;> simp [h]
theorem execEpaperUpdateEnd_leaves {a : At} : Leaves k (execEpaperUpdateEnd a s) := by
  unfold execEpaperUpdateEnd; dsimp only; (repeat' split) <;> simp [h]
theorem execCompensationStart_leaves {a : At} : Leaves k (execCompensationStart a s) := by
  unfold execCompensationStart; dsimp only; (repeat' split) <;> simp [h]
theorem execCompensated_leaves {a : At} : Leaves k (execCompensated a s) := by
  unfold execCompensated; simp [h]
theorem execChartReadback_leaves {a : At} {levels : List Int} : Leaves k (execChartReadback a levels s) := by
  unfold execChartReadback; simp [h]
theorem execSoundSettled_leaves {a : At} {z : Nat} : Leaves k (execSoundSettled a z s) := by
  unfold execSoundSettled; simp [h]
theorem execSoundCaptured_leaves {a : At} {z : Nat} : Leaves k (execSoundCaptured a z s) := by
  unfold execSoundCaptured; simp [h]
theorem execSoundAborted_leaves {a : At} {z cause : Nat} : Leaves k (execSoundAborted a z cause s) := by
  unfold execSoundAborted; simp [h]
theorem execEdgeAccepted_leaves {a : At} {n : Nat} {on : Bool} {ago : Nat} {current : Option Nat} :
    Leaves k (execEdgeAccepted a n on ago current s) := by
  unfold execEdgeAccepted; dsimp only; (repeat' split) <;> simp [h]
theorem execEdgeLost_leaves {a : At} {n : Nat} : Leaves k (execEdgeLost a n s) := by
  unfold execEdgeLost; simp [h]
theorem execFreqGate_leaves {a : At} {n : Nat} : Leaves k (execFreqGate a n s) := by
  unfold execFreqGate; simp [h]
theorem execBarrierFrame_leaves {a : At} {g : Nat} {up start crcOk : Bool} {seq vfield : Nat} {currents : List Nat} :
    Leaves k (execBarrierFrame a g up start crcOk seq vfield currents s) := by
  unfold execBarrierFrame; simp [h]
theorem execUplinkTimeout_leaves {a : At} {g : Nat} : Leaves k (execUplinkTimeout a g s) := by
  unfold execUplinkTimeout; dsimp only; split <;> simp [h]
theorem execBarrierTimeout_leaves {a : At} {g : Nat} : Leaves k (execBarrierTimeout a g s) := by
  unfold execBarrierTimeout; dsimp only; (repeat' split) <;> simp [h]
theorem execBarrierPowerChange_leaves {a : At} {g : Nat} {on : Bool} : Leaves k (execBarrierPowerChange a g on s) := by
  unfold execBarrierPowerChange; dsimp only; (repeat' split) <;> simp [h]
theorem execVfieldChange_leaves {a : At} {g v : Nat} : Leaves k (execVfieldChange a g v s) := by
  unfold execVfieldChange; dsimp only; (repeat' split) <;> simp [h]
theorem execVfieldUv_leaves {a : At} {g v : Nat} : Leaves k (execVfieldUv a g v s) := by
  unfold execVfieldUv; dsimp only; (repeat' split) <;> simp [h]
theorem execParameterBlockApplied_leaves {a : At} {g : Nat} {crcOk : Bool} : Leaves k (execParameterBlockApplied a g crcOk s) := by
  unfold execParameterBlockApplied; simp [h]
theorem execResume_leaves {a : At} {g : Nat} : Leaves k (execResume a g s) := by
  unfold execResume; simp [h]
theorem execBarrierDelayMeasurement_leaves {a : At} {g ns : Nat} : Leaves k (execBarrierDelayMeasurement a g ns s) := by
  unfold execBarrierDelayMeasurement; simp [h]
theorem execTpoOffEdge_leaves {a : At} {n : Nat} : Leaves k (execTpoOffEdge a n s) := by
  unfold execTpoOffEdge; simp [h]
theorem execOverload_leaves {a : At} {n : Nat} : Leaves k (execOverload a n s) := by
  unfold execOverload; simp [h]
theorem execThermal_leaves {a : At} {n : Nat} : Leaves k (execThermal a n s) := by
  unfold execThermal; simp [h]
theorem execGroupOverload_leaves {a : At} {g current : Nat} : Leaves k (execGroupOverload a g current s) := by
  unfold execGroupOverload; dsimp only; (repeat' split) <;> simp [h]
theorem execTripRetry_leaves {a : At} {n : Nat} {cooled : Bool} : Leaves k (execTripRetry a n cooled s) := by
  unfold execTripRetry; simp [h]
theorem execRetrySeriesEnd_leaves {a : At} {n : Nat} : Leaves k (execRetrySeriesEnd a n s) := by
  unfold execRetrySeriesEnd; simp [h]
theorem execOpenLoad_leaves {a : At} {n level : Nat} : Leaves k (execOpenLoad a n level s) := by
  unfold execOpenLoad; dsimp only; split <;> simp [h]
theorem execBackfeed_leaves {a : At} {n : Nat} {holds : Bool} : Leaves k (execBackfeed a n holds s) := by
  unfold execBackfeed; simp [h]
theorem execStuckOn_leaves {a : At} {n current : Nat} : Leaves k (execStuckOn a n current s) := by
  unfold execStuckOn; simp [h]
theorem execSwitchFail_leaves {a : At} {n : Nat} {holds : Bool} : Leaves k (execSwitchFail a n holds s) := by
  unfold execSwitchFail; simp [h]
theorem execDarkPulse_leaves {a : At} {n : Nat} {readOff : Bool} {current : Nat} : Leaves k (execDarkPulse a n readOff current s) := by
  unfold execDarkPulse; simp [h]
theorem execStartCalibration_leaves {a : At} : Leaves k (execStartCalibration a s) := by
  unfold execStartCalibration; simp [h]
theorem execConversionDone_leaves {a : At} {c : Nat} {p : Word32} : Leaves k (execConversionDone a c p s) := by
  unfold execConversionDone; dsimp only; split <;> simp [h]
theorem execShuntDisconnect_leaves {a : At} {n : Nat} : Leaves k (execShuntDisconnect a n s) := by
  unfold execShuntDisconnect; simp [h]
theorem execCalibrationResult_leaves {a : At} {c : Nat} {dev : Int} : Leaves k (execCalibrationResult a c dev s) := by
  unfold execCalibrationResult; dsimp only; split <;> simp [h]
theorem execRecipeRun_leaves {a : At} {n : Nat} {xs : List I2cXfer} {released : Bool} : Leaves k (execRecipeRun a n xs released s) := by
  unfold execRecipeRun; simp [h]
theorem execRecipeRetry_leaves {a : At} {n : Nat} {xs : List I2cXfer} {released : Bool} :
    Leaves k (execRecipeRetry a n xs released s) := by
  unfold execRecipeRetry; simp [h]
theorem execRecipeComplete_leaves {a : At} {n ago : Nat} : Leaves k (execRecipeComplete a n ago s) := by
  unfold execRecipeComplete; simp [h]
theorem execMdioPoll_leaves {a : At} {phy : Nat} {link : Bool} {speed : Nat} {full : Bool} :
    Leaves k (execMdioPoll a phy link speed full s) := by
  unfold execMdioPoll; simp [h]
theorem execPlcaBeacon_leaves {a : At} {seen : Bool} : Leaves k (execPlcaBeacon a seen s) := by
  unfold execPlcaBeacon; simp [h]
theorem execMstpTimeout_leaves {a : At} {n : Nat} {inLoop token : Bool} : Leaves k (execMstpTimeout a n inLoop token s) := by
  unfold execMstpTimeout; simp [h]
theorem execDhcpLeaseExpiry_leaves {a : At} {i : Nat} {lease : Option Nat} : Leaves k (execDhcpLeaseExpiry a i lease s) := by
  unfold execDhcpLeaseExpiry; simp [h]
theorem execResponseTimeoutDiscard_leaves {a : At} {p : Nat} : Leaves k (execResponseTimeoutDiscard a p s) := by
  unfold execResponseTimeoutDiscard; simp [h]
theorem execIAm_leaves {a : At} {p addr inst net : Nat} : Leaves k (execIAm a p addr inst net s) := by
  unfold execIAm; simp [h]
theorem execPartnerChanged_leaves {a : At} : Leaves k (execPartnerChanged a s) := by
  unfold execPartnerChanged; simp [h]
theorem execProvisionalTimeout_leaves {a : At} {i : Nat} : Leaves k (execProvisionalTimeout a i s) := by
  unfold execProvisionalTimeout; simp [h]
theorem execPartnerHalfSilence_leaves {a : At} {i : Nat} : Leaves k (execPartnerHalfSilence a i s) := by
  unfold execPartnerHalfSilence; simp [h]
theorem execPartnerSilent_leaves {a : At} {i : Nat} : Leaves k (execPartnerSilent a i s) := by
  unfold execPartnerSilent; simp [h]
theorem execWhoisPeriod_leaves {a : At} : Leaves k (execWhoisPeriod a s) := by
  unfold execWhoisPeriod; simp [h]
theorem execPartnerSave_leaves {a : At} : Leaves k (execPartnerSave a s) := by
  unfold execPartnerSave; simp [h]
theorem execApduTimeout_leaves {a : At} {id : Nat} : Leaves k (execApduTimeout a id s) := by
  unfold execApduTimeout; dsimp only; split <;> simp [h]
theorem execBusFrameReceived_leaves {a : At} {f : BusFrame} : Leaves k (execBusFrameReceived a f s) := by
  unfold execBusFrameReceived; simp [h]
theorem execDupMacHoldEnd_leaves {a : At} {n : Nat} : Leaves k (execDupMacHoldEnd a n s) := by
  unfold execDupMacHoldEnd; dsimp only; split <;> simp [h]
theorem execBindingPoll_leaves {a : At} {b : Nat} : Leaves k (execBindingPoll a b s) := by
  unfold execBindingPoll; dsimp only; split <;> simp [h]
theorem execCovRenew_leaves {a : At} {b : Nat} : Leaves k (execCovRenew a b s) := by
  unfold execCovRenew; dsimp only; split <;> simp [h]
theorem execCovNotification_leaves {a : At} {p addr object : Nat} {value : List Byte} {fault confirmed : Bool} :
    Leaves k (execCovNotification a p addr object value fault confirmed s) := by
  unfold execCovNotification; dsimp only; (repeat' split) <;> simp [h]
theorem execModbusReply_leaves {a : At} {id : Nat} {exception : Bool} {regs : List Nat} :
    Leaves k (execModbusReply a id exception regs s) := by
  unfold execModbusReply; dsimp only; split <;> simp [h]
theorem execModbusTimeout_leaves {a : At} {id : Nat} : Leaves k (execModbusTimeout a id s) := by
  unfold execModbusTimeout; dsimp only; split <;> simp [h]
theorem execBindingWrite_leaves {a : At} {b : Nat} : Leaves k (execBindingWrite a b s) := by
  unfold execBindingWrite; dsimp only; split <;> simp [h]
theorem execBindingWriteRetry_leaves {a : At} {b : Nat} : Leaves k (execBindingWriteRetry a b s) := by
  unfold execBindingWriteRetry; dsimp only; split <;> simp [h]
theorem execBusFrameSent_leaves {a : At} {p side : Nat} {forwarded : Bool} : Leaves k (execBusFrameSent a p side forwarded s) := by
  unfold execBusFrameSent; dsimp only; (repeat' split) <;> simp [h]
theorem execScConnectResult_leaves {a : At} {ok : Bool} {code : Nat} : Leaves k (execScConnectResult a ok code s) := by
  unfold execScConnectResult; dsimp only; (repeat' split) <;> simp [h]
theorem execScConnectionLost_leaves {a : At} {code : Nat} : Leaves k (execScConnectionLost a code s) := by
  unfold execScConnectionLost; dsimp only; (repeat' split) <;> simp [h]
theorem execScReconnect_leaves {a : At} : Leaves k (execScReconnect a s) := by
  unfold execScReconnect; dsimp only; (repeat' split) <;> simp [h]
theorem execNetworkLayerMessage_leaves {a : At} {p peer : Nat} {m : NetMsg} : Leaves k (execNetworkLayerMessage a p peer m s) := by
  unfold execNetworkLayerMessage; simp [h]
theorem execForeignDeviceReregister_leaves {a : At} : Leaves k (execForeignDeviceReregister a s) := by
  unfold execForeignDeviceReregister; dsimp only; split <;> simp [h]
theorem execBacnetReadProperty_leaves {a : At} {p peer : Nat} {multiple : Bool} {items : List PropItem} :
    Leaves k (execBacnetReadProperty a p peer multiple items s) := leaves_next.mpr (State.bacnet_intact (fun t ht => by simp [ht]) h)
theorem execBacnetWriteProperty_leaves {a : At} {p peer : Nat} {multiple : Bool} {items : List PropItem} :
    Leaves k (execBacnetWriteProperty a p peer multiple items s) := leaves_next.mpr (State.bacnet_intact (fun t ht => by simp [ht]) h)
theorem execBacnetSubscribeCov_leaves {a : At} {p peer process object : Nat} {confirmed : Bool} {lifetime : Option Nat} {cancel : Bool} :
    Leaves k (execBacnetSubscribeCov a p peer process object confirmed lifetime cancel s) :=
    leaves_next.mpr (State.bacnet_intact (fun t ht => by simp [ht]) h)
theorem execWhoIs_leaves {a : At} {p : Nat} {w : WhoWhat} :
    Leaves k (execWhoIs a p w s) := leaves_next.mpr (State.bacnet_intact (fun t ht => by simp [ht]) h)
theorem execTimeSynchronization_leaves {a : At} {p : Nat} {isLocal : Bool} {secs hundredths : Nat} :
    Leaves k (execTimeSynchronization a p isLocal secs hundredths s) := leaves_next.mpr (State.bacnet_intact (fun t ht
    => by split <;> simp [ht]) h)
theorem execEventNotificationSend_leaves {a : At} : Leaves k (execEventNotificationSend a s) := by
  unfold execEventNotificationSend; rw [leaves_next]; dsimp only; split
  · exact h
  · split
    · simp [State.notifyEach_head, h]
    · exact h
theorem execAcknowledgeAlarm_leaves {a : At} {p peer object kind : Nat} {isSeq : Bool} {time : Nat} :
    Leaves k (execAcknowledgeAlarm a p peer object kind isSeq time s) := leaves_next.mpr (State.bacnet_intact (fun t ht
    => by simp [ht]) h)
theorem execGetEventInformation_leaves {a : At} {p peer : Nat} {after : Option Nat} :
    Leaves k (execGetEventInformation a p peer after s) := leaves_next.mpr (State.bacnet_intact (fun t ht => by simp [ht]) h)
theorem execReadRange_leaves {a : At} {p peer object mode ref : Nat} {count : Int} :
    Leaves k (execReadRange a p peer object mode ref count s) := leaves_next.mpr (State.bacnet_intact (fun t ht
    => by split <;> simp [ht]) h)
theorem execDeviceCommunicationControl_leaves {a : At} {p peer : Nat} {state : Dcc3} {minutes : Option Nat} {password : List Byte} :
    Leaves k (execDeviceCommunicationControl a p peer state minutes password s) := leaves_next.mpr (State.bacnetAlways_intact (fun t ht
    => by split <;> simp [ht]) h)
theorem execDccDurationEnd_leaves {a : At} : Leaves k (execDccDurationEnd a s) := by
  unfold execDccDurationEnd; dsimp only; split <;> simp [h]
theorem execGuardEngaged_leaves {a : At} {z : Nat} {hot : Bool} : Leaves k (execGuardEngaged a z hot s) := by
  unfold execGuardEngaged; simp [h]
theorem execGuardReleased_leaves {a : At} {z : Nat} {hot : Bool} : Leaves k (execGuardReleased a z hot s) := by
  unfold execGuardReleased; simp [h]
theorem execGuardBlind_leaves {a : At} {z : Nat} {hot : Bool} : Leaves k (execGuardBlind a z hot s) := by
  unfold execGuardBlind; simp [h]
theorem execOccUpdate_leaves {a : At} : Leaves k (execOccUpdate a s) := by
  unfold execOccUpdate; simp [h]
theorem execPlanModelDerived_leaves {a : At} {us : Nat} : Leaves k (execPlanModelDerived a us s) := by
  unfold execPlanModelDerived; simp [h]
theorem execPlanStart_leaves {a : At} : Leaves k (execPlanStart a s) := by
  unfold execPlanStart; simp [h]
theorem execPlanComplete_leaves {a : At} {us : Nat} : Leaves k (execPlanComplete a us s) := by
  unfold execPlanComplete; simp [h]
theorem execSoundFitComplete_leaves {a : At} {z : Nat} : Leaves k (execSoundFitComplete a z s) := by
  unfold execSoundFitComplete; simp [h]
theorem execPlanDiscarded_leaves {a : At} : Leaves k (execPlanDiscarded a s) := by
  unfold execPlanDiscarded; simp [h]
theorem execPlanStale_leaves {a : At} : Leaves k (execPlanStale a s) := by
  unfold execPlanStale; simp [h]
theorem execPlanStepEnd_leaves {a : At} : Leaves k (execPlanStepEnd a s) := by
  unfold execPlanStepEnd; dsimp only; (repeat' split) <;> simp [h]
theorem execConfigSelection_leaves {a : At} : Leaves k (execConfigSelection a s) := by
  unfold execConfigSelection; simp [h]
theorem execMirrorFrameReceived_leaves {a : At} {f : MirrorFrame} : Leaves k (execMirrorFrameReceived a f s) := by
  unfold execMirrorFrameReceived; simp [h]
theorem execSynchronisationComplete_leaves {a : At} : Leaves k (execSynchronisationComplete a s) := by
  unfold execSynchronisationComplete; simp [h]
theorem execElection_leaves {a : At} : Leaves k (execElection a s) := by
  unfold execElection; dsimp only; (repeat' split) <;> simp [h]
theorem execTakeover_leaves {a : At} : Leaves k (execTakeover a s) := by
  unfold execTakeover; simp [h]
theorem execDualActive_leaves {a : At} : Leaves k (execDualActive a s) := by
  unfold execDualActive; dsimp only; (repeat' split) <;> simp [h]
theorem execYieldedClear_leaves {a : At} : Leaves k (execYieldedClear a s) := by
  unfold execYieldedClear; simp [h]
theorem execWithdrawal_leaves {a : At} : Leaves k (execWithdrawal a s) := by
  unfold execWithdrawal; dsimp only; (repeat' split) <;> simp [h]
theorem execLaneChange_leaves {a : At} {lanesIn lanesOut : Nat} : Leaves k (execLaneChange a lanesIn lanesOut s) := by
  unfold execLaneChange; simp [h]
theorem execPeerLineChange_leaves {a : At} {alive active : Bool} : Leaves k (execPeerLineChange a alive active s) := by
  unfold execPeerLineChange; simp [h]
theorem execHandoverBoundary_leaves {a : At} : Leaves k (execHandoverBoundary a s) := by
  unfold execHandoverBoundary; dsimp only; (repeat' split) <;> simp [h]
theorem execSharedChannelComparison_leaves {a : At} {n : Nat} {readback activeAgrees settled : Bool} :
    Leaves k (execSharedChannelComparison a n readback activeAgrees settled s) := by
  unfold execSharedChannelComparison; simp [h]
theorem execPhaseAlign_leaves {a : At} : Leaves k (execPhaseAlign a s) := by
  unfold execPhaseAlign; simp [h]
theorem execAlmanacAlign_leaves {a : At} {peerTicks : Nat} : Leaves k (execAlmanacAlign a peerTicks s) := by
  unfold execAlmanacAlign; simp [h]
theorem execTillerRowFall_leaves {a : At} : Leaves k (execTillerRowFall a s) := by
  unfold execTillerRowFall; simp [h]
theorem execTillerScan_leaves {a : At} {closed : List Nat} : Leaves k (execTillerScan a closed s) := by
  unfold execTillerScan; simp [h]
theorem execTillerSample_leaves {a : At} {buttons lines : Nat} : Leaves k (execTillerSample a buttons lines s) := by
  unfold execTillerSample; dsimp only; (repeat' split) <;> simp [h]
theorem execStuck_leaves {a : At} {key : Nat} : Leaves k (execStuck a key s) := by
  unfold execStuck; simp [h]
theorem execTillerMaskedPoll_leaves {a : At} {closed : List Nat} : Leaves k (execTillerMaskedPoll a closed s) := by
  unfold execTillerMaskedPoll; dsimp only; (repeat' split) <;> simp [h]
theorem execTillerInitial_leaves {a : At} {closed : List Nat} {buttons lines : Nat} :
    Leaves k (execTillerInitial a closed buttons lines s) := by
  unfold execTillerInitial; simp [h]
theorem execCfgEffect_leaves {a : At} : Leaves k (execCfgEffect a s) := by
  unfold execCfgEffect; dsimp only; split <;> simp [h]
theorem execServicesRises_leaves {a : At} : Leaves k (execServicesRises a s) := by
  unfold execServicesRises; simp [h]
theorem execServiceHeartbeatTimeout_leaves {a : At} {core : Nat} : Leaves k (execServiceHeartbeatTimeout a core s) := by
  unfold execServiceHeartbeatTimeout; simp [h]
theorem execServiceStartTimeout_leaves {a : At} : Leaves k (execServiceStartTimeout a s) := by
  unfold execServiceStartTimeout; simp [h]
theorem execServiceFaultReport_leaves {a : At} {core : Nat} : Leaves k (execServiceFaultReport a core s) := by
  unfold execServiceFaultReport; simp [h]
theorem execFailureCountReset_leaves {a : At} : Leaves k (execFailureCountReset a s) := by
  unfold execFailureCountReset; simp [h]
theorem execServiceRestart_leaves {a : At} {verifies : Bool} : Leaves k (execServiceRestart a verifies s) := by
  unfold execServiceRestart; simp [h]
theorem execBankLoaded_leaves {a : At} : Leaves k (execBankLoaded a s) := by
  unfold execBankLoaded; simp [h]
theorem execPowerOnStart_leaves {a : At} {second test : Bool} : Leaves k (execPowerOnStart a second test s) := by
  unfold execPowerOnStart; simp [h]
theorem execResetNAsserted_leaves {a : At} : Leaves k (execResetNAsserted a s) := by
  unfold execResetNAsserted; simp [h]
theorem execResetNReleased_leaves {a : At} : Leaves k (execResetNReleased a s) := by
  unfold execResetNReleased; simp [h]
theorem execThermalReset_leaves {a : At} : Leaves k (execThermalReset a s) := by
  unfold execThermalReset; simp [h]
theorem execThermalResetRelease_leaves {a : At} : Leaves k (execThermalResetRelease a s) := by
  unfold execThermalResetRelease; simp [h]
theorem execRailLost_leaves {a : At} {rail mv : Nat} : Leaves k (execRailLost a rail mv s) := by
  unfold execRailLost; simp [h]
theorem execRailGoodRelease_leaves {a : At} : Leaves k (execRailGoodRelease a s) := by
  unfold execRailGoodRelease; simp [h]
theorem execLdLost_leaves {a : At} {island : Bool} : Leaves k (execLdLost a island s) := by
  unfold execLdLost; simp [h]
theorem execSupplySample_leaves {a : At} {vmain vback vhold : Nat} : Leaves k (execSupplySample a vmain vback vhold s) := by
  unfold execSupplySample; simp [h]
theorem execSwitchToMain_leaves {a : At} : Leaves k (execSwitchToMain a s) := by
  unfold execSwitchToMain; simp [h]
theorem execNvGoodChange_leaves {a : At} : Leaves k (execNvGoodChange a s) := by
  unfold execNvGoodChange; simp [h]
theorem execHoldStoreMeasurement_leaves {a : At} {cap10 : Nat} : Leaves k (execHoldStoreMeasurement a cap10 s) := by
  unfold execHoldStoreMeasurement; simp [h]
theorem execCollapse_leaves {a : At} : Leaves k (execCollapse a s) := by
  unfold execCollapse; simp [h]
theorem execHoldupEnd_leaves {a : At} : Leaves k (execHoldupEnd a s) := by
  unfold execHoldupEnd; dsimp only; split <;> simp [h]
theorem execSleepEntry_leaves {a : At} : Leaves k (execSleepEntry a s) := by
  unfold execSleepEntry; simp [h]
theorem execWake_leaves {a : At} {source : Nat} : Leaves k (execWake a source s) := by
  have ha : Intact k (s.advance a).head := State.advance_intact h
  unfold execWake; rw [leaves_next]; dsimp only; split
  · refine State.startUp_intact (State.moduleReset_intact ?_)
    split
    · exact State.supplyTo_intact ha
    · exact ha
  · exact ha
theorem execCrystalLost_leaves {a : At} : Leaves k (execCrystalLost a s) := by
  unfold execCrystalLost; simp [h]
theorem execCrystalReturned_leaves {a : At} : Leaves k (execCrystalReturned a s) := by
  unfold execCrystalReturned; simp [h]
theorem execSensorSample_leaves {a : At} {rails : List Nat} {temps : List Int} {vbat : Option Nat} {iin : Nat} :
    Leaves k (execSensorSample a rails temps vbat iin s) := by
  unfold execSensorSample; simp [h]
theorem execBinnacleWatchdog_leaves {a : At} {kept : Bool} : Leaves k (execBinnacleWatchdog a kept s) := by
  unfold execBinnacleWatchdog; dsimp only; split <;> simp [h]
theorem execSramScrubStep_leaves {a : At} {region item corrected uncorrectable : Nat} :
    Leaves k (execSramScrubStep a region item corrected uncorrectable s) := by
  unfold execSramScrubStep; simp [h]
theorem execSelftestComplete_leaves {a : At} {test outcome : Nat} {detail : List Byte} :
    Leaves k (execSelftestComplete a test outcome detail s) := by
  unfold execSelftestComplete; dsimp only; (repeat' split) <;> simp [h]
theorem execSlotFire_leaves {a : At} {slot late waiting : Nat} : Leaves k (execSlotFire a slot late waiting s) := by
  unfold execSlotFire; simp [h]
theorem execAgoLatch_leaves {a : At} {n : Nat} : Leaves k (execAgoLatch a n s) := by
  unfold execAgoLatch; simp [h]
theorem execAgoEdge_leaves {a : At} {n : Nat} : Leaves k (execAgoEdge a n s) := by
  unfold execAgoEdge; simp [h]
theorem execTurnBoundary_leaves {a : At} {e : Int} : Leaves k (execTurnBoundary a e s) := by
  unfold execTurnBoundary; simp [h]
theorem execDeferredStart_leaves {a : At} {n : Nat} : Leaves k (execDeferredStart a n s) := by
  unfold execDeferredStart; dsimp only; split <;> simp [h]
theorem execVerifyComplete_leaves {a : At} {binnacle verifies : Bool} : Leaves k (execVerifyComplete a binnacle verifies s) := by
  unfold execVerifyComplete; dsimp only; split <;> simp [h]
theorem execHealthy_leaves {a : At} {binnacle : Bool} : Leaves k (execHealthy a binnacle s) := by
  unfold execHealthy; dsimp only; split <;> simp [h]
theorem execTrialTimeout_leaves {a : At} {binnacle : Bool} : Leaves k (execTrialTimeout a binnacle s) := by
  unfold execTrialTimeout; simp [h]
theorem execReinitializeDevice_leaves {a : At} {p peer state : Nat} {password : List Byte} :
    Leaves k (execReinitializeDevice a p peer state password s) := leaves_next.mpr (State.bacnetAlways_intact (fun t ht => by
    split
    · simp [ht]
    · split
      · simp [ht]
      · dsimp only; split
        · exact State.restartServices_intact (by simp [ht])
        · exact State.startUp_intact (State.moduleReset_intact (by simp [ht]))) h)
theorem execRequestAccept_leaves {a : At} : Leaves k (execRequestAccept a s) := by
  unfold execRequestAccept; simp [h]
theorem execResponsePost_leaves {a : At} {session : Nat} : Leaves k (execResponsePost a session s) := by
  unfold execResponsePost; simp [h]
theorem execReqProdWrite_leaves {a : At} {value : Nat} :
    Leaves k (execReqProdWrite a value s) := leaves_next.mpr (State.window_intact (fun t ht => by simp [ht]) h)
theorem execRspConsWrite_leaves {a : At} {value : Nat} :
    Leaves k (execRspConsWrite a value s) := leaves_next.mpr (State.window_intact (fun t ht => by simp [ht]) h)
theorem execEvtConsWrite_leaves {a : At} {value : Nat} :
    Leaves k (execEvtConsWrite a value s) := leaves_next.mpr (State.window_intact (fun t ht => by simp [ht]) h)
theorem execIrqStatusWrite_leaves {a : At} {value : Nat} :
    Leaves k (execIrqStatusWrite a value s) := leaves_next.mpr (State.window_intact (fun t ht => by simp [ht]) h)
theorem execEvtLostRead_leaves {a : At} :
    Leaves k (execEvtLostRead a s) := leaves_next.mpr (State.window_intact (fun t ht => by simp [ht]) h)
theorem execFbDoorbellGo_leaves {a : At} {value : Nat} :
    Leaves k (execFbDoorbellGo a value s) := leaves_next.mpr (State.window_intact (fun _ ht => State.writeDoorbell_intact ht) h)
theorem execRegisterWrite_leaves {a : At} {alm : Bool} {addr : Nat} {bytes : List Byte} :
    Leaves k (execRegisterWrite a alm addr bytes s) := by
  unfold execRegisterWrite; rw [leaves_next]; split
  · split <;> simp [h]
  · exact State.window_intact (fun _ ht => State.writeWindow_intact ht) h
theorem execUartMessage_leaves {a : At} {bytes : List Byte} : Leaves k (execUartMessage a bytes s) := by
  unfold execUartMessage; simp [h]
theorem execUartByteGap_leaves {a : At} : Leaves k (execUartByteGap a s) := by
  unfold execUartByteGap; dsimp only; split <;> simp [h]
theorem execUdpDatagram_leaves {a : At} {ip port : Nat} {bytes : List Byte} : Leaves k (execUdpDatagram a ip port bytes s) := by
  unfold execUdpDatagram; dsimp only; (repeat' split) <;> simp [h]
theorem execUdpSessionIdle_leaves {a : At} {session : Nat} : Leaves k (execUdpSessionIdle a session s) := by
  unfold execUdpSessionIdle; dsimp only; split <;> simp [h]
theorem execAuthFailed_leaves {a : At} : Leaves k (execAuthFailed a s) := by
  unfold execAuthFailed; simp [h]
theorem execModbusSlaveRequest_leaves {a : At} {n fn addr count waddr : Nat} {values : List Nat} :
    Leaves k (execModbusSlaveRequest a n fn addr count waddr values s) := by
  unfold execModbusSlaveRequest; rw [leaves_next]; dsimp only; split
  · split
    · simp [h]
    · split
      · simp [State.mbServe_head ‹_›, h]
      · simp [h]
  · exact h

/-- Whatever command runs, the queue stays as it is, and the reserved bits of READY read 0 where they did. -/
theorem exec_leaves (c : Instr) : Leaves k (exec c s) := by
  cases c with
  | powerOnStart a second test => exact execPowerOnStart_leaves h
  | resetNAsserted a => exact execResetNAsserted_leaves h
  | resetNReleased a => exact execResetNReleased_leaves h
  | thermalReset a => exact execThermalReset_leaves h
  | railLost a rail mv => exact execRailLost_leaves h
  | railGoodRelease a => exact execRailGoodRelease_leaves h
  | supplySample a vmain vback vhold => exact execSupplySample_leaves h
  | switchToMain a => exact execSwitchToMain_leaves h
  | collapse a => exact execCollapse_leaves h
  | holdupEnd a => exact execHoldupEnd_leaves h
  | nvGoodChange a => exact execNvGoodChange_leaves h
  | holdStoreMeasurement a cap10 => exact execHoldStoreMeasurement_leaves h
  | sleepEntry a => exact execSleepEntry_leaves h
  | wake a source => exact execWake_leaves h
  | crystalLost a => exact execCrystalLost_leaves h
  | crystalReturned a => exact execCrystalReturned_leaves h
  | sensorSample a rails temps vbat iin => exact execSensorSample_leaves h
  | sramScrubStep a region item corrected uncorrectable => exact execSramScrubStep_leaves h
  | mramScrubStep a corrected bad => exact execMramScrubStep_leaves h
  | journaledPageOperation a fate => exact execJournaledPageOperation_leaves h
  | sheafAddition a cut => exact execSheafAddition_leaves h
  | recordWrite a => exact execRecordWrite_leaves h
  | compaction a => exact execCompaction_leaves h
  | nvRecovery a found => exact execNvRecovery_leaves h
  | configSelection a => exact execConfigSelection_leaves h
  | logbookRecovery a => exact execLogbookRecovery_leaves h
  | logbookWrite a => exact execLogbookWrite_leaves h
  | logbookRecordRaised a source severity code payload posts target => exact execLogbookRecordRaised_leaves h
  | serviceHeartbeatTimeout a core => exact execServiceHeartbeatTimeout_leaves h
  | serviceStartTimeout a => exact execServiceStartTimeout_leaves h
  | serviceFaultReport a core => exact execServiceFaultReport_leaves h
  | serviceRestart a verifies => exact execServiceRestart_leaves h
  | failureCountReset a => exact execFailureCountReset_leaves h
  | binnacleWatchdog a kept => exact execBinnacleWatchdog_leaves h
  | healthy a binnacle => exact execHealthy_leaves h
  | trialTimeout a binnacle => exact execTrialTimeout_leaves h
  | verifyComplete a binnacle verifies => exact execVerifyComplete_leaves h
  | fittedCrossing a period ampFirst ampLast => exact execFittedCrossing_leaves h
  | fitUpdate a hz amp toEnd => exact execFitUpdate_leaves h
  | lossDetection a => exact execLossDetection_leaves h
  | turnBoundary a e => exact execTurnBoundary_leaves h
  | turnMark a => exact execTurnMark_leaves h
  | concordanceLogPeriod a => exact execConcordanceLogPeriod_leaves h
  | slotFire a slot late waiting => exact execSlotFire_leaves h
  | bankCopyComplete a => exact execBankCopyComplete_leaves h
  | bankSave a => exact execBankSave_leaves h
  | bankLoaded a => exact execBankLoaded_leaves h
  | conversionDone a c p => exact execConversionDone_leaves h
  | calibrationResult a c dev => exact execCalibrationResult_leaves h
  | startCalibration a => exact execStartCalibration_leaves h
  | recipeRun a n xs released => exact execRecipeRun_leaves h
  | recipeRetry a n xs released => exact execRecipeRetry_leaves h
  | recipeComplete a n ago => exact execRecipeComplete_leaves h
  | barrierFrame a g up start crcOk seq vfield currents => exact execBarrierFrame_leaves h
  | uplinkTimeout a g => exact execUplinkTimeout_leaves h
  | barrierTimeout a g => exact execBarrierTimeout_leaves h
  | barrierPowerChange a g on => exact execBarrierPowerChange_leaves h
  | vfieldChange a g v => exact execVfieldChange_leaves h
  | vfieldUv a g v => exact execVfieldUv_leaves h
  | parameterBlockApplied a g crcOk => exact execParameterBlockApplied_leaves h
  | resume a g => exact execResume_leaves h
  | barrierDelayMeasurement a g ns => exact execBarrierDelayMeasurement_leaves h
  | edgeAccepted a n on ago current => exact execEdgeAccepted_leaves h
  | edgeLost a n => exact execEdgeLost_leaves h
  | freqGate a n => exact execFreqGate_leaves h
  | tpoOffEdge a n => exact execTpoOffEdge_leaves h
  | overload a n => exact execOverload_leaves h
  | thermal a n => exact execThermal_leaves h
  | groupOverload a g current => exact execGroupOverload_leaves h
  | tripRetry a n cooled => exact execTripRetry_leaves h
  | retrySeriesEnd a n => exact execRetrySeriesEnd_leaves h
  | openLoad a n level => exact execOpenLoad_leaves h
  | darkPulse a n readOff current => exact execDarkPulse_leaves h
  | backfeed a n holds => exact execBackfeed_leaves h
  | stuckOn a n current => exact execStuckOn_leaves h
  | switchFail a n holds => exact execSwitchFail_leaves h
  | forceDurationEnd a kind n => exact execForceDurationEnd_leaves h
  | aoWatchdogRefresh a => exact execAoWatchdogRefresh_leaves h
  | watchdog a => exact execWatchdog_leaves h
  | aoMonitorSample a readings => exact execAoMonitorSample_leaves h
  | agoLatch a n => exact execAgoLatch_leaves h
  | agoEdge a n => exact execAgoEdge_leaves h
  | mdioPoll a phy link speed full => exact execMdioPoll_leaves h
  | busFrameReceived a f => exact execBusFrameReceived_leaves h
  | responseTimeoutDiscard a p => exact execResponseTimeoutDiscard_leaves h
  | bacnetReadProperty a p peer multiple items => exact execBacnetReadProperty_leaves h
  | bacnetWriteProperty a p peer multiple items => exact execBacnetWriteProperty_leaves h
  | bacnetSubscribeCov a p peer process object confirmed lifetime cancel => exact execBacnetSubscribeCov_leaves h
  | covNotification a p addr object value fault confirmed => exact execCovNotification_leaves h
  | whoIs a p w => exact execWhoIs_leaves h
  | iAm a p addr inst net => exact execIAm_leaves h
  | partnerChanged a => exact execPartnerChanged_leaves h
  | timeSynchronization a p isLocal secs hundredths => exact execTimeSynchronization_leaves h
  | acknowledgeAlarm a p peer object kind isSeq time => exact execAcknowledgeAlarm_leaves h
  | getEventInformation a p peer after => exact execGetEventInformation_leaves h
  | readRange a p peer object mode ref count => exact execReadRange_leaves h
  | deviceCommunicationControl a p peer state minutes password => exact execDeviceCommunicationControl_leaves h
  | dccDurationEnd a => exact execDccDurationEnd_leaves h
  | reinitializeDevice a p peer state password => exact execReinitializeDevice_leaves h
  | networkLayerMessage a p peer m => exact execNetworkLayerMessage_leaves h
  | apduTimeout a id => exact execApduTimeout_leaves h
  | dupMacHoldEnd a n => exact execDupMacHoldEnd_leaves h
  | modbusSlaveRequest a n fn addr count waddr values => exact execModbusSlaveRequest_leaves h
  | modbusReply a id exception regs => exact execModbusReply_leaves h
  | modbusTimeout a id => exact execModbusTimeout_leaves h
  | scConnectResult a ok code => exact execScConnectResult_leaves h
  | scConnectionLost a code => exact execScConnectionLost_leaves h
  | scReconnect a => exact execScReconnect_leaves h
  | whoisPeriod a => exact execWhoisPeriod_leaves h
  | provisionalTimeout a idx => exact execProvisionalTimeout_leaves h
  | partnerHalfSilence a idx => exact execPartnerHalfSilence_leaves h
  | partnerSilent a idx => exact execPartnerSilent_leaves h
  | partnerSave a => exact execPartnerSave_leaves h
  | bindingPoll a b => exact execBindingPoll_leaves h
  | covRenew a b => exact execCovRenew_leaves h
  | bindingWrite a b => exact execBindingWrite_leaves h
  | bindingWriteRetry a b => exact execBindingWriteRetry_leaves h
  | eventNotificationSend a => exact execEventNotificationSend_leaves h
  | guardEngaged a z hot => exact execGuardEngaged_leaves h
  | guardReleased a z hot => exact execGuardReleased_leaves h
  | guardBlind a z hot => exact execGuardBlind_leaves h
  | hostValueSave a => exact execHostValueSave_leaves h
  | planStart a => exact execPlanStart_leaves h
  | planComplete a us => exact execPlanComplete_leaves h
  | planDiscarded a => exact execPlanDiscarded_leaves h
  | planModelDerived a us => exact execPlanModelDerived_leaves h
  | planStale a => exact execPlanStale_leaves h
  | occUpdate a => exact execOccUpdate_leaves h
  | planStepEnd a => exact execPlanStepEnd_leaves h
  | soundSettled a z => exact execSoundSettled_leaves h
  | soundCaptured a z => exact execSoundCaptured_leaves h
  | soundAborted a z cause => exact execSoundAborted_leaves h
  | soundFitComplete a z => exact execSoundFitComplete_leaves h
  | deferredStart a n => exact execDeferredStart_leaves h
  | cfgEffect a => exact execCfgEffect_leaves h
  | mirrorFrameReceived a f => exact execMirrorFrameReceived_leaves h
  | laneChange a lanesIn lanesOut => exact execLaneChange_leaves h
  | peerLineChange a alive active => exact execPeerLineChange_leaves h
  | election a => exact execElection_leaves h
  | takeover a => exact execTakeover_leaves h
  | dualActive a => exact execDualActive_leaves h
  | yieldedClear a => exact execYieldedClear_leaves h
  | withdrawal a => exact execWithdrawal_leaves h
  | handoverBoundary a => exact execHandoverBoundary_leaves h
  | synchronisationComplete a => exact execSynchronisationComplete_leaves h
  | sharedChannelComparison a n readback activeAgrees settled => exact execSharedChannelComparison_leaves h
  | phaseAlign a => exact execPhaseAlign_leaves h
  | almanacAlign a peerTicks => exact execAlmanacAlign_leaves h
  | almanacCommitEdge a => exact execAlmanacCommitEdge_leaves h
  | alarm a n => exact execAlarm_leaves h
  | wrapped a => exact execWrapped_leaves h
  | almanacCrystalCheck a expected => exact execAlmanacCrystalCheck_leaves h
  | domainPowerOn a => exact execDomainPowerOn_leaves h
  | powerLost a => exact execPowerLost_leaves h
  | epaperUpdateStart a => exact execEpaperUpdateStart_leaves h
  | epaperFrame a => exact execEpaperFrame_leaves h
  | epaperUpdateEnd a => exact execEpaperUpdateEnd_leaves h
  | compensationStart a => exact execCompensationStart_leaves h
  | compensated a => exact execCompensated_leaves h
  | chartReadback a levels => exact execChartReadback_leaves h
  | tillerRowFall a => exact execTillerRowFall_leaves h
  | tillerScan a closed => exact execTillerScan_leaves h
  | tillerSample a buttons lines => exact execTillerSample_leaves h
  | stuck a key => exact execStuck_leaves h
  | tillerMaskedPoll a closed => exact execTillerMaskedPoll_leaves h
  | tillerInitial a closed buttons lines => exact execTillerInitial_leaves h
  | reqProdWrite a value => exact execReqProdWrite_leaves h
  | rspConsWrite a value => exact execRspConsWrite_leaves h
  | evtConsWrite a value => exact execEvtConsWrite_leaves h
  | irqStatusWrite a value => exact execIrqStatusWrite_leaves h
  | evtLostRead a => exact execEvtLostRead_leaves h
  | fbDoorbellGo a value => exact execFbDoorbellGo_leaves h
  | registerWrite a alm addr bytes => exact execRegisterWrite_leaves h
  | requestAccept a => exact execRequestAccept_leaves h
  | responsePost a session => exact execResponsePost_leaves h
  | uartByteGap a => exact execUartByteGap_leaves h
  | uartMessage a bytes => exact execUartMessage_leaves h
  | udpDatagram a ip port bytes => exact execUdpDatagram_leaves h
  | authFailed a => exact execAuthFailed_leaves h
  | udpSessionIdle a session => exact execUdpSessionIdle_leaves h
  | zoneStatus a r => exact leaves_serve opZoneStatus_keeps h
  | signalRead a r => exact leaves_serve opSignalRead_keeps h
  | signalWrite a r => exact leaves_serve opSignalWrite_keeps h
  | modeWrite a r => exact leaves_serve opModeWrite_keeps h
  | hostInputWrite a r => exact leaves_serve opHostInputWrite_keeps h
  | wpForecast a r => exact leaves_serve opWpForecast_keeps h
  | wpTariff a r => exact leaves_serve opWpTariff_keeps h
  | wpReplan a r => exact leaves_serve opWpReplan_keeps h
  | wpStatus a r => exact leaves_serve opWpStatus_keeps h
  | wpTrajectory a r => exact leaves_serve opWpTrajectory_keeps h
  | occRead a r => exact leaves_serve opOccRead_keeps h
  | uiRead a r => exact leaves_serve opUiRead_keeps h
  | i2cRead a r => exact leaves_serve opI2cRead_keeps h
  | fcRead a r => exact leaves_serve opFcRead_keeps h
  | fcEdgeRead a r => exact leaves_serve opFcEdgeRead_keeps h
  | aoRead a r => exact leaves_serve opAoRead_keeps h
  | agoRead a r => exact leaves_serve opAgoRead_keeps h
  | portStatus a r => exact leaves_serve opPortStatus_keeps h
  | partnerList a r => exact leaves_serve opPartnerList_keeps h
  | bindRead a r => exact leaves_serve opBindRead_keeps h
  | chartWrite a r => exact leaves_serve opChartWrite_keeps h
  | chartStatus a r => exact leaves_serve opChartStatus_keeps h
  | tillerRead a r => exact leaves_serve opTillerRead_keeps h
  | tillerState a r => exact leaves_serve opTillerState_keeps h
  | helmRead a r => exact leaves_serve opHelmRead_keeps h
  | helmWrite a r => exact leaves_serve opHelmWrite_keeps h
  | bankCopy a r => exact leaves_serve opBankCopy_keeps h
  | bankSwap a r => exact leaves_serve opBankSwap_keeps h
  | helmDiag a r => exact leaves_serve opHelmDiag_keeps h
  | slotRead a r => exact leaves_serve opSlotRead_keeps h
  | slotWrite a r => exact leaves_serve opSlotWrite_keeps h
  | soundStart a r => exact leaves_serve opSoundStart_keeps h
  | soundAbort a r => exact leaves_serve opSoundAbort_keeps h
  | soundStatus a r => exact leaves_serve opSoundStatus_keeps h
  | soundCapture a r => exact leaves_serve opSoundCapture_keeps h
  | soundResult a r => exact leaves_serve opSoundResult_keeps h
  | soundDeliver a r => exact leaves_serve opSoundDeliver_keeps h
  | fcForce a r => exact leaves_serve opFcForce_keeps h
  | aoForce a r => exact leaves_serve opAoForce_keeps h
  | agoForce a r => exact leaves_serve opAgoForce_keeps h
  | svcReadProperty a r => exact leaves_serve opSvcReadProperty_keeps h
  | svcWriteProperty a r => exact leaves_serve opSvcWriteProperty_keeps h
  | svcTimeSet a r => exact leaves_serve opSvcTimeSet_keeps h
  | svcTimeRead a r => exact leaves_serve opSvcTimeRead_keeps h
  | cfgInfo a r => exact leaves_serve opCfgInfo_keeps h
  | cfgBegin a r => exact leaves_serve opCfgBegin_keeps h
  | cfgWrite a r => exact leaves_serve opCfgWrite_keeps h
  | cfgCommit a r => exact leaves_serve opCfgCommit_keeps h
  | cfgRead a r => exact leaves_serve opCfgRead_keeps h
  | clampRead a r => exact leaves_serve opClampRead_keeps h
  | sheafRead a r => exact leaves_serve opSheafRead_keeps h
  | barrier a r => exact leaves_serve opBarrier_keeps h
  | identify a r => exact leaves_serve opIdentify_keeps h
  | sessionOpen a r => exact leaves_serve opSessionOpen_keeps h
  | sessionProve a r => exact leaves_serve opSessionProve_keeps h
  | sessionClose a r => exact leaves_serve opSessionClose_keeps h
  | secWrite a r => exact leaves_serve opSecWrite_keeps h
  | secInfo a r => exact leaves_serve opSecInfo_keeps h
  | logRead a r => exact leaves_serve opLogRead_keeps h
  | logAck a r => exact leaves_serve opLogAck_keeps h
  | concordRead a r => exact leaves_serve opConcordRead_keeps h
  | almanacRead a r => exact leaves_serve opAlmanacRead_keeps h
  | almanacWrite a r => exact leaves_serve opAlmanacWrite_keeps h
  | almanacTrim a r => exact leaves_serve opAlmanacTrim_keeps h
  | almanacAlarm a r => exact leaves_serve opAlmanacAlarm_keeps h
  | backupRead a r => exact leaves_serve opBackupRead_keeps h
  | backupWrite a r => exact leaves_serve opBackupWrite_keeps h
  | updateBegin a r => exact leaves_serve opUpdateBegin_keeps h
  | updateWrite a r => exact leaves_serve opUpdateWrite_keeps h
  | updateVerify a r => exact leaves_serve opUpdateVerify_keeps h
  | updateSwap a r => exact leaves_serve opUpdateSwap_keeps h
  | updateStatus a r => exact leaves_serve opUpdateStatus_keeps h
  | reset a r => exact leaves_serve opReset_keeps h
  | selftest a r => exact leaves_serve opSelftest_keeps h
  | selftestComplete a test outcome detail => exact execSelftestComplete_leaves h
  | sensorRead a r => exact leaves_serve opSensorRead_keeps h
  | uiCalibrate a r => exact leaves_serve opUiCalibrate_keeps h
  | fcClear a r => exact leaves_serve opFcClear_keeps h
  | policyRead a r => exact leaves_serve opPolicyRead_keeps h
  | pairStatus a r => exact leaves_serve opPairStatus_keeps h
  | pairHandover a r => exact leaves_serve opPairHandover_keeps h
  | eventRead a r => exact leaves_serve opEventRead_keeps h
  | eventStatus a r => exact leaves_serve opEventStatus_keeps h
  | countLoRead a => exact execCountLoRead_leaves h
  | countLoWrite a lo => exact execCountLoWrite_leaves h
  | alarmLoWrite a n lo => exact execAlarmLoWrite_leaves h
  | thermalResetRelease a => exact execThermalResetRelease_leaves h
  | servicesRises a => exact execServicesRises_leaves h
  | ldLost a island => exact execLdLost_leaves h
  | shuntDisconnect a n => exact execShuntDisconnect_leaves h
  | trimPeriodStart a => exact execTrimPeriodStart_leaves h
  | busFrameSent a p side forwarded => exact execBusFrameSent_leaves h
  | dhcpLeaseExpiry a idx lease => exact execDhcpLeaseExpiry_leaves h
  | plcaBeacon a seen => exact execPlcaBeacon_leaves h
  | mstpTimeout a n inLoop token => exact execMstpTimeout_leaves h
  | foreignDeviceReregister a => exact execForeignDeviceReregister_leaves h

end

theorem exec_intact {c : Instr} {s t : State} (h : exec c s = .next t) : Intact s.head t.head := exec_leaves (Intact.refl _) c t h

/-- Settles O5: an update of READY forms a word of bits 0 to 28, and nothing else that changes READY sets a higher bit. -/
theorem reservedReadyBitsReadZero : Obligations.ReservedReadyBitsReadZero := by
  unfold Obligations.ReservedReadyBitsReadZero
  intro c s t h
  exact (exec_intact h).2

end Sys2Proof.Machine

/-! PROOFS. Serial arithmetic (R16). -/

namespace Sys2Proof.Machine

/-- Serial arithmetic in the integers: the comparison is one of the difference modulo `2 ^ n` (R16). -/
theorem newer_eq_decide {n a b : Nat} (hb : b < 2 ^ n) :
    newer n a b = (decide (((a : Int) - b) % 2 ^ n ≠ 0) && decide (((a : Int) - b) % 2 ^ n < 2 ^ (n - 1))) := by
  have hd : (((a + 2 ^ n - b % 2 ^ n) % 2 ^ n : Nat) : Int) = ((a : Int) - b) % 2 ^ n := by
    rw [Nat.mod_eq_of_lt hb, Int.natCast_mod, Nat.cast_sub (by omega)]
    push_cast
    rw [show (a : Int) + 2 ^ n - b = a - b + 2 ^ n by ring, Int.add_emod_right]
  simp only [newer, ← hd]
  norm_cast

theorem newer_iff {n a b : Nat} (hb : b < 2 ^ n) :
    newer n a b = true ↔ ((a : Int) - b) % 2 ^ n ≠ 0 ∧ ((a : Int) - b) % 2 ^ n < 2 ^ (n - 1) := by
  rw [newer_eq_decide hb, Bool.and_eq_true, decide_eq_true_eq, decide_eq_true_eq]

theorem not_newer_of_half {n a b : Nat} (hb : b < 2 ^ n) (h : ((a : Int) - b) % 2 ^ n = 2 ^ (n - 1)) : newer n a b = false := by
  rw [newer_eq_decide hb, h, decide_eq_false (lt_irrefl _), Bool.and_false]

/-- Half the range is its own negative. -/
theorem neg_emod_half {n : Nat} {d : Int} (hn : 1 ≤ n) (h : d % 2 ^ n = 2 ^ (n - 1)) : -d % 2 ^ n = 2 ^ (n - 1) := by
  have hpos : (0 : Int) < 2 ^ (n - 1) := by positivity
  have hdouble : (2 : Int) ^ n = 2 * 2 ^ (n - 1) := by rw [← pow_succ', Nat.sub_add_cancel hn]
  have hd : -d = 2 ^ (n - 1) + 2 ^ n * (-(d / 2 ^ n) - 1) := by
    have hdiv := Int.emod_add_mul_ediv d (2 ^ n)
    rw [h] at hdiv
    linear_combination hdiv + hdouble
  rw [hd, Int.add_mul_emod_self_left, Int.emod_eq_of_lt hpos.le (by omega)]

/-- Settles O55: both directions compare one difference modulo `2 ^ n`. -/
theorem serialArithmetic : Obligations.SerialArithmetic := by
  unfold Obligations.SerialArithmetic
  refine ⟨fun n a b _ _ hb => newer_iff hb, fun n a b hn ha hb h => ⟨not_newer_of_half hb h, not_newer_of_half ha ?_⟩⟩
  rw [← neg_sub]
  exact neg_emod_half hn h

end Sys2Proof.Machine

/-! PROOFS. The operations on zones and their signals (R100, R103, R193, R400–R402). -/

namespace Sys2Proof.Machine

/-- A request that meets every check of R21 executes (steps 5 to 11). -/
theorem OpDef.check_eq_none {d : OpDef} {fb : Bool} {fn len : Nat} {r : Req} {t : State} (h : Safety.Asks fb fn len r t)
    (hfb : fb = true → d.fallback = true) (hlen : d.len len = true) (hfits : d.fits r = true) (hfn : fn ∈ d.fns)
    (hcontent : d.content t r = true)
    (hexpert : d.expert t r = true → t.rights r.session = .expert) (hpermits : d.permits t r = true)
    (hholds : d.holds = true → Safety.Holds t) (hoff : d.off t r = false) (hready : d.ready t r = true) : d.check r t = none := by
  obtain ⟨-, -, hpath, htag, hrights, rfl, rfl, hroom⟩ := h
  have hside : (binnacleSide r.session && !d.fallback) = false := by
    rcases hpath with h | h
    · simp [hfb h]
    · simp [h]
  have hexp : (d.expert t r && t.rights r.session != .expert) = false := by
    cases he : d.expert t r
    · rfl
    · simp [hexpert he]
  have hpeer : (d.holds && (t.peerHolds || t.pair.handover.isSome)) = false := by
    cases hh : d.holds
    · rfl
    · obtain ⟨h1, h2⟩ := hholds hh; simp [h1, h2]
  simp [OpDef.check, Nat.not_lt.mpr hroom, hlen, hfits, hfn, hcontent, htag, hside, hrights, hexp, hpermits, hpeer, hoff, hready]

theorem State.endInterims_flights (p : Interim → Bool) (x : Fate) (st : Status) (q : List Byte) (s : State) :
    (State.endInterims p x st q s).mb.flights = s.mb.flights := by
  unfold State.endInterims
  refine State.each_keeps (fun t : State => t.mb.flights) _ _ _ fun i t => ?_
  unfold State.postEvent; (repeat' split) <;> rfl

theorem State.sndEnd_flights (cause z : Nat) (o : Sounding) (s : State) : (State.sndEnd cause z o s).mb.flights = s.mb.flights := by
  unfold State.sndEnd; dsimp only
  rw [State.record_mb]
  have hleave : ∀ (b c : Bool) (m : Option ZMode) (u : State),
      (if b then State.sndLeave z m (if c then u else u.sndErase o.area) else (if c then u else u.sndErase o.area)).mb.flights
    = u.mb.flights :=
    fun b c m u => by cases b <;> cases c <;> rfl
  split
  · rw [State.endInterims_flights, hleave]
  · rw [hleave]

/-- A sounding that runs and is aborted by a mode write (cause 2) leaves its zone for HOLD_SAFE (R103, R207). -/
theorem State.sndEnd_nextMode {z : Nat} {o : Sounding} {s : State} (hruns : o.runs = true) (hm : (s.zones.get z).mode = .sounding) :
    ((State.sndEnd 2 z o s).zones.get z).nextMode = some .holdSafe := by
  have hleave : ∀ (c : Bool) (u : State), u.zones = s.zones →
      ((State.sndLeave z (some .holdSafe) (if c then u else u.sndErase o.area)).zones.get z).nextMode = some .holdSafe :=
    fun c u hu => by cases c <;> simp [State.sndLeave, State.sndErase, hu, hm]
  unfold State.sndEnd
  simp only [State.record_zones, hruns, if_true]
  split
  · rw [State.endInterims_zones]; exact hleave _ _ rfl
  · exact hleave _ _ rfl

theorem State.sndLeave_nextMode {z : Nat} {m : ZMode} {s : State} (hm : (s.zones.get z).mode = .sounding) :
    ((State.sndLeave z (some m) s).zones.get z).nextMode = some m := by
  simp [State.sndLeave, hm]

/-! ### MODE_WRITE by the mode of its zone (R103) -/

theorem State.writeMode_out {z : Nat} {m : ZMode} {s : State} (hm : (s.zones.get z).mode ≠ .sounding) :
    s.writeMode z m = ({ s with zones := s.zones.set z { s.zones.get z with nextMode := some m } }, .done) := by
  simp [State.writeMode, hm]

theorem State.writeMode_deferred {z : Nat} {m : ZMode} {s : State} (hm : (s.zones.get z).mode = .sounding) (hne : m ≠ .holdSafe) :
    (s.writeMode z m).2 = .deferred ∧ (s.writeMode z m).1.mb.flights = s.mb.flights ∧
      ((s.writeMode z m).1.zones.get z).mode = .sounding ∧ ((s.writeMode z m).1.zones.get z).deferredMode = some m := by
  simp [State.writeMode, hm, hne, State.endInterims_flights]

theorem State.writeMode_holdSafe {z : Nat} {s : State} (hm : (s.zones.get z).mode = .sounding) :
    (s.writeMode z .holdSafe).2 = .done ∧ (s.writeMode z .holdSafe).1.mb.flights = s.mb.flights ∧
      ((s.writeMode z .holdSafe).1.zones.get z).nextMode = some .holdSafe ∧
      ((s.writeMode z .holdSafe).1.zones.get z).deferredMode = none := by
  have hnext : ((if (s.snd.zones.get z).runs = true then s.sndAbort 2 z else s.sndLeave z (some .holdSafe)).zones.get z).nextMode =
      some .holdSafe := by
    split
    · exact State.sndEnd_nextMode ‹_› hm
    · exact State.sndLeave_nextMode hm
  have hflights : (if (s.snd.zones.get z).runs = true then s.sndAbort 2 z else s.sndLeave z (some .holdSafe)).mb.flights =
      s.mb.flights := by
    split
    · exact State.sndEnd_flights ..
    · rfl
  simp only [State.writeMode, hm, if_true, State.endInterims_flights, State.endInterims_zones, Tbl.get_upd_same]
  exact ⟨trivial, hflights, hnext, trivial⟩
  
@[simp] theorem le_length (n v : Nat) : (le n v).length = n := by
  induction n generalizing v with
  | zero => rfl
  | succ n ih => rw [le, List.length_cons, ih]

theorem four_le_lengthLimit (n : Nat) : 4 ≤ lengthLimit n := by
  unfold lengthLimit; split <;> decide

section
variable {a : At} {r : Req} {s t : State}

theorem opZoneStatus_check (h : Safety.Asks false 13 0 r t) (htarget : r.target < 256) (hpresent : t.present r.target = true)
    (hhelm : t.rdy Rdy.helm = true) : opZoneStatus.check r t = none := by
  have hz : zoneOf r = r.target := Nat.mod_eq_of_lt htarget
  have hr : t.rdy r.fn = true := h.fn ▸ hhelm
  apply OpDef.check_eq_none h <;> simp [opZoneStatus, zoneTarget, htarget, hz, hpresent, hr]

theorem opSignalRead_check (h : Safety.Asks false 13 0 r t) (hsig : t.sigTarget r = true) (hpresent : t.present (zoneOf r) = true)
    (hhelm : t.rdy Rdy.helm = true)
    (hrights : t.rights r.session = .expert ∨ sigOf r / 16 ≠ 4 ∧ noBasic (t.sigKind (zoneOf r) (sigOf r)) = false) :
    opSignalRead.check r t = none := by
  have hr : t.rdy r.fn = true := h.fn ▸ hhelm
  apply OpDef.check_eq_none h <;> simp [opSignalRead, hsig, hpresent, hr]
  rcases hrights with he | ⟨hne, hb⟩
  · simp [he]
  · simp [hne, hb]

theorem opSignalWrite_check (h : Safety.Asks false 13 8 r t) (hholds : Safety.Holds t) (hsig : t.sigTarget r = true)
    (hpresent : t.present (zoneOf r) = true) (hhelm : t.rdy Rdy.helm = true) (hzero : allZero (r.payload.drop 4) = true)
    (hbasic : noBasic (t.sigKind (zoneOf r) (sigOf r)) = false) (hwritable : t.sigWritable (zoneOf r) (sigOf r) = true)
    (hfits : basicFits (t.sigKind (zoneOf r) (sigOf r)) (fieldAt r.payload 0 4) = true) : opSignalWrite.check r t = none := by
  have hr : t.rdy r.fn = true := h.fn ▸ hhelm
  apply OpDef.check_eq_none h <;> simp [opSignalWrite, hsig, hpresent, hr, hzero, hbasic, hwritable, hfits, hholds]

theorem opModeWrite_check {m : ZMode} (h : Safety.Asks false 13 4 r t) (hholds : Safety.Holds t) (htarget : r.target < 256)
    (hpresent : t.present r.target = true) (hhelm : t.rdy Rdy.helm = true) (hzero : allZero (r.payload.drop 1) = true)
    (hmode : ZMode.ofCode (fieldAt r.payload 0 1) = some m) (hm : m ≠ .sounding) : opModeWrite.check r t = none := by
  have hr : t.rdy r.fn = true := h.fn ▸ hhelm
  have hcode : fieldAt r.payload 0 1 ≤ 3 := by
    generalize fieldAt r.payload 0 1 = n at hmode
    unfold ZMode.ofCode at hmode
    split at hmode <;> simp_all
  have htail : allZero r.payload.tail = true := List.drop_one ▸ hzero
  apply OpDef.check_eq_none h <;> simp [opModeWrite, zoneTarget, htarget, hpresent, hr, htail, hcode, hholds]

theorem opHostInputWrite_check {f i : Nat} {v : Word32} (h : Safety.Asks false r.fn 8 r t) (hholds : Safety.Holds t)
    (hf : f = r.target / 65536) (hi : i = r.target % 65536) (hfield : hostFields.contains (f, r.fn) = true)
    (hrow : (fieldRow f).any (fun x => x.dom.has i) = true) (hready : t.rdy r.fn = true) (howner : t.hostOwnerOn f i = true)
    (hzero : allZero (r.payload.drop 4) = true) (hkind : descKind (t.cfgN f i) = 7)
    (hv : v = BitVec.ofNat 32 (fieldAt r.payload 0 4)) (hfin : F32.isInf v = false) : opHostInputWrite.check r t = none := by
  subst hf hi hv
  have hfn : r.fn ∈ opHostInputWrite.fns := by
    have hall : ∀ x ∈ hostFields, x.2 ∈ opHostInputWrite.fns := by decide
    exact hall _ (List.contains_iff_mem.mp hfield)
  refine OpDef.check_eq_none h ?_ ?_ ?_ hfn ?_ ?_ ?_ ?_ ?_ hready <;>
    simp_all [opHostInputWrite]

theorem opOccRead_check (h : Safety.Asks false 13 0 r t) (htarget : r.target < 256) (hpresent : t.present r.target = true)
    (hhelm : t.rdy Rdy.helm = true) (hocc : t.cfgN Fid.OCC_ENABLE r.target ≠ 0) : opOccRead.check r t = none := by
  have hr : t.rdy r.fn = true := h.fn ▸ hhelm
  apply OpDef.check_eq_none h <;> simp [opOccRead, zoneTarget, htarget, hpresent, hr, hocc]

/-- An operation that reads and is answered at once leaves the block as it is, but for its answer (R21). -/
theorem serve_ok {d : OpDef} {fb : Bool} {fn len : Nat} {p : List Byte} (h : Safety.Asks fb fn len r t) (hc : d.check r t = none)
    (hbody : d.body r (t.addFlight d r) = (t.addFlight d r).ok p) : serve d r t = Safety.answered d r .done p t t :=
  serve_answered d r t t .done p h.serves h.barrier hc h.tag (by decide) hbody rfl

theorem opSignalRead_body (d : OpDef) : opSignalRead.body r (t.addFlight d r) =
    (t.addFlight d r).ok (t.signalBytes (zoneOf r) (sigOf r)) := rfl

/-- What OCC_READ answers once there was an update (R193). -/
theorem opOccRead_body {d : OpDef} (hs : (t.occ.get r.target).stamp ≠ 0) : opOccRead.body r (t.addFlight d r) =
    (t.addFlight d r).ok (le 8 (t.occ.get r.target).stamp.toNat ++ le 4 (t.occ.get r.target).gain.toNat ++
      le 2 (((F32.toRange (t.occ.get r.target).persons 100 0 65534).map Int.toNat).getD 0xFFFF) ++
      le 2 (((F32.toRange (t.occ.get r.target).prob 10000 0 65534).map Int.toNat).getD 0xFFFF) ++
      le 1 (t.occ.get r.target).paths ++ le 3 0) := by
  cases hp : F32.toRange (t.occ.get r.target).persons 100 0 65534 <;>
    cases hq : F32.toRange (t.occ.get r.target).prob 10000 0 65534 <;>
    simp only [opOccRead, State.addFlight_occ, hs, if_false, hp, hq, Option.map_some, Option.map_none, Option.getD_some, Option.getD_none]

theorem opOccRead_body_none {d : OpDef} (hs : (t.occ.get r.target).stamp = 0) : opOccRead.body r (t.addFlight d r) =
    (t.addFlight d r).ok (le 8 0 ++ le 4 F32.nan.toNat ++ le 2 0xFFFF ++ le 2 0xFFFF ++ le 4 0) := by
  simp [opOccRead, hs]

/-- MODE_WRITE runs the write of its mode (R103). -/
theorem opModeWrite_body {m : ZMode} (hmode : ZMode.ofCode (fieldAt r.payload 0 1) = some m) (u : State) :
    opModeWrite.body r u = ((u.writeMode r.target m).1, some ((u.writeMode r.target m).1.resp (u.writeMode r.target m).2)) := by
  simp only [opModeWrite, hmode, Option.getD_some]

/-- HOST_INPUT_WRITE keeps the value, or none for a NaN, with its stamp (R100). -/
theorem opHostInputWrite_body {v : Word32} (hv : v = BitVec.ofNat 32 (fieldAt r.payload 0 4)) (u : State) :
    opHostInputWrite.body r u = State.ok { u.sampleFirst with
      hostIn := u.hostIn.set r.target { valid := !F32.isNaN v, value := if F32.isNaN v then 0 else v, stamp := u.now } } := by
  subst hv
  simp only [opHostInputWrite, State.sampleFirst_hostIn]

/-- A write of a measured output stores the HOST value as it was given (R99). -/
theorem State.writeSignal_y {z sig slot : Nat} {v : Option Word32} (hy : sig / 16 = 0) (u : State) :
    u.writeSignal z sig slot v = (u.setHostValue true z (sig % 16) v, v) := by
  simp only [State.writeSignal, hy]

theorem State.setHostValue_y_get (z i : Nat) (v : Option Word32) (u : State) :
    ((u.setHostValue true z i v).zio.get z).hostY.get i = { valid := v.isSome, value := v.getD 0, stamp := u.now } := by
  simp [State.setHostValue]

theorem State.setHostValue_flights (isY : Bool) (z i : Nat) (v : Option Word32) (u : State) :
    (u.setHostValue isY z i v).mb.flights = u.mb.flights := by
  simp [State.setHostValue]

theorem State.flight_mem_addFlight (d : OpDef) (r : Req) (t : State) : Safety.flight d r t ∈ (t.addFlight d r).mb.flights :=
  List.mem_append_right _ (List.mem_singleton.mpr rfl)

/-- An operation that executes and is answered at once, with what its body leaves of the state (R21). -/
theorem exists_replied {d : OpDef} {fb : Bool} {fn len : Nat} {u : State} {x : Resp} (h : Safety.Asks fb fn len r t)
    (hc : d.check r t = none) (hbody : d.body r (t.addFlight d r) = (u, some x)) (hx : x.payload.length ≤ 4)
    (hf : u.mb.flights = (t.addFlight d r).mb.flights) :
    ∃ w, Host.Outcome.next (serve d r t) = (Host.Outcome.next w : Host.Outcome State Fault Refusal) ∧
      Safety.Replied r x.status x.payload w ∧ w = { u with mb := w.mb } := by
  obtain ⟨hrep, heq, -⟩ := serve_run d r t u x h.serves h.barrier hc hbody (hx.trans (four_le_lengthLimit _))
    (hf ▸ State.flight_mem_addFlight d r t)
  exact ⟨_, rfl, hrep, heq⟩

theorem zoneStatus_reads (h : Safety.Asks false 13 0 r t) (htarget : r.target < 256) (hpresent : t.present r.target = true)
    (hhelm : t.rdy Rdy.helm = true) :
    serve opZoneStatus r t = Safety.answered opZoneStatus r .done (le 4 (t.zio.get r.target).status.toNat ++ le 4 0) t t := by
  have hz : zoneOf r = r.target := Nat.mod_eq_of_lt htarget
  exact serve_ok h (opZoneStatus_check h htarget hpresent hhelm) (by simp [opZoneStatus, hz])

/-- SIGNAL_WRITE is answered with the value stored (R402). -/
theorem opSignalWrite_body {d : OpDef} {kind : Nat} {v : State × Option Word32} (hkind : kind = t.sigKind (zoneOf r) (sigOf r))
    (hv : v = (t.addFlight d r).writeSignal (zoneOf r) (sigOf r) (t.cfgN Fid.SVC_HOST_PRIORITY) (ofBasic kind (fieldAt r.payload 0 4))) :
    opSignalWrite.body r (t.addFlight d r) = (v.1, some (v.1.resp
      (if v.2 = ofBasic kind (fieldAt r.payload 0 4) then .done else .doneClamped) (le 4 (toBasic kind v.2)))) := by
  subst hv hkind
  rfl

/-- A request that executes and is answered DONE or DONE_CLAMPED leaves no operation running (R386). -/
theorem serve_finish {d : OpDef} {fb : Bool} {fn len : Nat} {u : State} {x : Resp} (h : Safety.Asks fb fn len r t)
    (hc : d.check r t = none) (hbody : d.body r (t.addFlight d r) = (u, some x)) (hx : x.status ≠ .accepted ∧ x.status ≠ .deferred) :
    serve d r t = u.finish r.session r.tag x := by
  simp [serve, h.serves, h.barrier, hc, OpDef.run, hbody, State.addInterim, hx.1, hx.2]

theorem signalWrite_stores_y {kind : Nat} {v : Option Word32} (h : Safety.Asks false 13 8 r t) (hc : opSignalWrite.check r t = none)
    (hkind : kind = t.sigKind (zoneOf r) (sigOf r)) (hy : sigOf r / 16 = 0) (hv : v = ofBasic kind (fieldAt r.payload 0 4)) :
    ∃ u, Host.Outcome.next (serve opSignalWrite r t) = (Host.Outcome.next u : Host.Outcome State Fault Refusal) ∧
      Safety.Replied r .done (le 4 (toBasic kind v)) u ∧
      (u.zio.get (zoneOf r)).hostY.get (sigOf r % 16) = { valid := v.isSome, value := v.getD 0, stamp := t.now } := by
  have hbody := opSignalWrite_body (t := t) (d := opSignalWrite) hkind rfl
  rw [State.writeSignal_y hy, ← hv, if_pos rfl] at hbody
  obtain ⟨w, hw, hrep, heq⟩ := exists_replied h hc hbody (by simp [State.resp]) (State.setHostValue_flights ..)
  refine ⟨w, hw, hrep, ?_⟩
  rw [heq]
  exact State.setHostValue_y_get ..

theorem modeWrite_deferred {m : ZMode} (h : Safety.Asks false 13 4 r t) (hc : opModeWrite.check r t = none)
    (hmode : ZMode.ofCode (fieldAt r.payload 0 1) = some m) (hne : m ≠ .holdSafe) (hs : (t.zones.get r.target).mode = .sounding) :
    ∃ u, Host.Outcome.next (serve opModeWrite r t) = (Host.Outcome.next u : Host.Outcome State Fault Refusal) ∧
      Safety.Replied r .deferred [] u ∧ (u.zones.get r.target).mode = .sounding ∧ (u.zones.get r.target).deferredMode = some m := by
  obtain ⟨hstatus, hflights, hm, hd⟩ := State.writeMode_deferred (s := t.addFlight opModeWrite r) hs hne
  obtain ⟨w, hw, hrep, heq⟩ := exists_replied h hc (opModeWrite_body hmode _) (by simp [State.resp]) hflights
  rw [hstatus] at hrep
  refine ⟨w, hw, hrep, ?_⟩
  rw [heq]
  exact ⟨hm, hd⟩

theorem modeWrite_holdSafe (h : Safety.Asks false 13 4 r t) (hc : opModeWrite.check r t = none)
    (hmode : ZMode.ofCode (fieldAt r.payload 0 1) = some .holdSafe) (hs : (t.zones.get r.target).mode = .sounding) :
    ∃ u, Host.Outcome.next (serve opModeWrite r t) = (Host.Outcome.next u : Host.Outcome State Fault Refusal) ∧
      Safety.Replied r .done [] u ∧ (u.zones.get r.target).nextMode = some .holdSafe ∧
      (u.zones.get r.target).deferredMode = none := by
  obtain ⟨hstatus, hflights, hn, hd⟩ := State.writeMode_holdSafe (s := t.addFlight opModeWrite r) hs
  obtain ⟨w, hw, hrep, heq⟩ := exists_replied h hc (opModeWrite_body hmode _) (by simp [State.resp]) hflights
  rw [hstatus] at hrep
  refine ⟨w, hw, hrep, ?_⟩
  rw [heq]
  exact ⟨hn, hd⟩

theorem hostInputWrite_keeps {fb : Bool} {fn len : Nat} {v : Word32} (h : Safety.Asks fb fn len r t)
    (hc : opHostInputWrite.check r t = none) (hv : v = BitVec.ofNat 32 (fieldAt r.payload 0 4)) :
    ∃ u, Host.Outcome.next (serve opHostInputWrite r t) = (Host.Outcome.next u : Host.Outcome State Fault Refusal) ∧
      Safety.Replied r .done [] u ∧
      u.hostIn = t.hostIn.set r.target { valid := !F32.isNaN v, value := if F32.isNaN v then 0 else v, stamp := t.now } := by
  obtain ⟨w, hw, hrep, heq⟩ := exists_replied h hc (opHostInputWrite_body hv _) (by simp [State.resp]) (by simp)
  refine ⟨w, hw, hrep, ?_⟩
  rw [heq]
  rfl

theorem modeWrite_out {m : ZMode} (h : Safety.Asks false 13 4 r t) (hc : opModeWrite.check r t = none)
    (hmode : ZMode.ofCode (fieldAt r.payload 0 1) = some m) (hs : (t.zones.get r.target).mode ≠ .sounding) :
    serve opModeWrite r t = Safety.answered opModeWrite r .done [] t
      { t with zones := t.zones.set r.target { t.zones.get r.target with nextMode := some m } } := by
  refine serve_answered opModeWrite r t _ .done [] h.serves h.barrier hc h.tag (by decide) ?_ rfl
  have hs' : ((t.addFlight opModeWrite r).zones.get r.target).mode ≠ .sounding := hs
  rw [opModeWrite_body hmode, State.writeMode_out hs']
  rfl

end

/-- Settles O38: each operation meets its checks (R21), and its body does what its rule says. -/
theorem zoneOperations : Obligations.ZoneOperations := by
  unfold Obligations.ZoneOperations
  refine ⟨?_, ?_, ?_, ?_, ?_, ?_, ?_, ?_, ?_, ?_⟩
  · intro a r s t ht h htarget hpresent hhelm
    subst ht
    exact congrArg _ (zoneStatus_reads h htarget hpresent hhelm)
  · intro a r s t ht h hsig hpresent hhelm hrights
    subst ht
    exact congrArg _ (serve_ok h (opSignalRead_check h hsig hpresent hhelm hrights) (opSignalRead_body _))
  · intro a r kind v s t ht h hholds hsig hpresent hhelm hzero hkind hbasic hwritable hfits hy hv
    subst ht hkind
    exact signalWrite_stores_y h (opSignalWrite_check h hholds hsig hpresent hhelm hzero hbasic hwritable hfits) rfl hy hv
  · intro a r kind v s t ht h hholds hsig hpresent hhelm hzero hkind hbasic hwritable hfits hv
    subst ht hkind
    exact congrArg _ (serve_finish h (opSignalWrite_check h hholds hsig hpresent hhelm hzero hbasic hwritable hfits)
      (opSignalWrite_body rfl hv) (by dsimp only [State.resp]; split <;> decide))
  · intro a r m s t ht h hholds htarget hpresent hhelm hzero hmode hm hs
    subst ht
    exact congrArg _ (modeWrite_out h (opModeWrite_check h hholds htarget hpresent hhelm hzero hmode hm) hmode hs)
  · intro a r m s t ht h hholds htarget hpresent hhelm hzero hmode hm hne hs
    subst ht
    exact modeWrite_deferred h (opModeWrite_check h hholds htarget hpresent hhelm hzero hmode hm) hmode hne hs
  · intro a r s t ht h hholds htarget hpresent hhelm hzero hcode hs
    subst ht
    have hmode : ZMode.ofCode (fieldAt r.payload 0 1) = some .holdSafe := by rw [hcode]; rfl
    exact modeWrite_holdSafe h (opModeWrite_check h hholds htarget hpresent hhelm hzero hmode (by decide)) hmode hs
  · intro a r f i v s t ht h hholds hf hi hfield hrow hready howner hzero hkind hv hfin
    subst ht
    exact hostInputWrite_keeps h (opHostInputWrite_check h hholds hf hi hfield hrow hready howner hzero hkind hv hfin) hv
  · intro a r s t ht h htarget hpresent hhelm hocc hstamp
    subst ht
    exact congrArg _ (serve_ok h (opOccRead_check h htarget hpresent hhelm hocc) (opOccRead_body_none hstamp))
  · intro a r o s t ht h htarget hpresent hhelm hocc ho hstamp
    subst ht ho
    exact congrArg _ (serve_ok h (opOccRead_check h htarget hpresent hhelm hocc) (opOccRead_body hstamp))

end Sys2Proof.Machine

/-! PROOFS. An update of READY (R33, R534). -/

namespace Sys2Proof.Machine

/-- A bit that stays set has lost none of the functions it requires. -/
theorem readyNext_stays (old : Word32) (sets clears : List Nat) (n : Nat) (h : readyBit (readyNext old sets clears) n = true)
    (h0 : readyBit old n = true) : ∀ r ∈ requires n, readyBit old r = true → readyBit (readyNext old sets clears) r = true := by
  by_cases hn : n < 29
  · rw [readyNext_bit _ _ _ _ hn] at h
    unfold readyRule at h
    split at h
    · simp at h
    · rw [List.all_eq_true] at h
      intro r hr hold
      simpa [hold] using h r hr
  · rw [readyNext_reserved _ _ _ _ (by omega)] at h; simp at h

/-- An update that changes no bit leaves no record and no interrupt. -/
theorem State.updateReady_eq_self {sets clears : List Nat} {s : State} (h : readyNext s.ready sets clears = s.ready) :
    s.updateReady sets clears = s := if_pos h

/-- Settles O60: each function stands in an update by R33 alone, and an update that changes no bit has no effect (R534). -/
theorem readyUpdates : Obligations.ReadyUpdates := by
  unfold Obligations.ReadyUpdates
  intro s sets clears n
  rw [State.updateReady_ready]
  exact ⟨readyNext_rises _ _ _ _, readyNext_stays _ _ _ _, readyNext_clears _ _ _ _, State.updateReady_eq_self⟩

end Sys2Proof.Machine

/-! PROOFS. The barrier links of the field groups (R245, R246, R248, R265, R266, R528). -/

namespace Sys2Proof.Machine

/-! ### The safe state leaves the supply and its SLEEP as they are -/

@[simp] theorem State.group_sup (g : Nat) (f : Group → Group) (s : State) : (State.group g f s).sup = s.sup := rfl
@[simp] theorem State.chOut_sup (n : Nat) (f : ChOut → ChOut) (s : State) : (State.chOut n f s).sup = s.sup := rfl

@[simp] theorem State.chPin_sup (n : Nat) (s : State) : (State.chPin n s).sup = s.sup := by
  unfold State.chPin; dsimp only; (repeat' split) <;> rfl

@[simp] theorem State.chLevel_sup (n : Nat) (on : Bool) (s : State) : (State.chLevel n on s).sup = s.sup := by
  simp [State.chLevel]

@[simp] theorem State.fieldEvent_sup (g sev code : Nat) (payload : List Byte) (target : Nat) (s : State) :
    (State.fieldEvent g sev code payload target s).sup = s.sup := by
  unfold State.fieldEvent; dsimp only; (repeat' split) <;> rfl

@[simp] theorem State.safeRecord_sup (g : Nat) (entered : Bool) (s : State) : (State.safeRecord g entered s).sup = s.sup := by
  simp [State.safeRecord]

@[simp] theorem State.enterSafe_sup (g : Nat) (s : State) : (State.enterSafe g s).sup = s.sup := by
  unfold State.enterSafe
  simp only [State.safeRecord_sup]
  rw [State.each_keeps State.sup _ _ _ fun n t => by simp]
  rfl

/-- Barrier power goes in SLEEP alone (R537). -/
theorem State.sleepBarrier_awake {s : State} (h : s.sup.asleep = false) : s.sleepBarrier = s := by
  simp [State.sleepBarrier, h]

/-! ### One rule per command

Each lemma says what its command does when its conditions hold; the state `s.advance a` is the one its effect starts from. -/

section
variable {a : At} {g : Nat} {s t : State}

theorem execBarrierFrame_up {seq vfield : Nat} {start : Bool} {currents : List Nat} (ht : t = s.advance a) (hg : g < 4)
    (hpower : (t.fld.groups.get g).barrierPower = true)
    (hseq : start = true ∨ newer 16 seq (t.fld.groups.get g).upSeq = true) (hready : t.rdy Rdy.binnacle = true) :
    execBarrierFrame a g true start true seq vfield currents s = .next (t.upFrame g seq vfield currents) := by
  rw [execBarrierFrame, ← ht]
  exact congrArg _ (if_pos (by simpa [hg, hpower, hready] using hseq))

theorem execBarrierFrame_down {seq vfield : Nat} {start : Bool} {currents : List Nat} (ht : t = s.advance a) (hg : g < 4)
    (hpower : (t.fld.groups.get g).barrierPower = true)
    (hseq : start = true ∨ newer 16 seq (t.fld.groups.get g).downSeq = true) (hready : t.rdy Rdy.binnacle = true) :
    execBarrierFrame a g false start true seq vfield currents s = .next (t.downFrame g seq start) := by
  rw [execBarrierFrame, ← ht]
  exact congrArg _ (if_pos (by simpa [hg, hpower, hready] using hseq))

/-- A frame whose CRC fails is discarded (R245). -/
theorem execBarrierFrame_badCrc {seq vfield : Nat} {up start : Bool} {currents : List Nat} (ht : t = s.advance a) :
    execBarrierFrame a g up start false seq vfield currents s = .next t := by
  rw [execBarrierFrame, ← ht]
  exact congrArg _ (if_neg (by simp))

theorem execUplinkTimeout_linkUp (ht : t = s.advance a) (hup : (t.fld.groups.get g).linkUp = true) :
    execUplinkTimeout a g s = .next (t.fgLost g 1) := by
  rw [execUplinkTimeout, ← ht]
  exact congrArg _ (if_pos hup)

/-- Out of SLEEP a group that loses its frames keeps its barrier power (R265, R537). -/
theorem execBarrierTimeout_awake (ht : t = s.advance a) (hdown : (t.fld.groups.get g).linkDown = true)
    (hawake : t.sup.asleep = false) :
    execBarrierTimeout a g s =
      .next (if (t.fld.groups.get g).safe then t.group g (fun x => { x with linkDown := false, paramsSent := false })
        else (t.group g (fun x => { x with linkDown := false, paramsSent := false })).enterSafe g) := by
  rw [execBarrierTimeout, ← ht]
  refine congrArg _ ((if_pos hdown).trans (State.sleepBarrier_awake ?_))
  split <;> simpa using hawake

theorem State.blockDue_eq_true (hg : g < 4) (hdown : (t.fld.groups.get g).linkDown = true) (hup : (t.fld.groups.get g).linkUp = true)
    (hgrain : t.grain = 0) (hconfig : t.rdy Rdy.config = true) (hready : t.rdy Rdy.binnacle = true)
    (hdue : (t.fld.groups.get g).paramsPending = true ∨ (t.fld.groups.get g).safe = true) : t.blockDue g = true := by
  simpa [State.blockDue, hg, hdown, hup, hgrain, hconfig, hready] using hdue

theorem execParameterBlockApplied_due (ht : t = s.advance a) (hdue : t.blockDue g = true) :
    execParameterBlockApplied a g true s = .next (State.each (channelsOf g) (State.takeBlock t)
      (t.group g (fun x => { x with params := true, block := t.cfg.blockOf g, paramsSent := true, paramsPending := false }))) := by
  rw [execParameterBlockApplied, ← ht]
  exact congrArg _ (if_pos (by simp [hdue]))

/-- A block whose CRC fails is not applied (R266). -/
theorem execParameterBlockApplied_badCrc (ht : t = s.advance a) : execParameterBlockApplied a g false s = .next t := by
  rw [execParameterBlockApplied, ← ht]
  exact congrArg _ (if_neg (by simp))

theorem execResume_leaves_safe (ht : t = s.advance a) (hsafe : (t.fld.groups.get g).safe = true)
    (hwhole : (t.fld.groups.get g).whole = true) (hparams : (t.fld.groups.get g).paramsSent = true) (hgrain : t.grain = 0)
    (hready : t.rdy Rdy.binnacle = true) :
    execResume a g s = .next (((t.group g (fun x => { x with safe := false })).safeRecord g false).fgRise g) := by
  rw [execResume, ← ht]
  exact congrArg _ (if_pos (by simp [hsafe, hwhole, hparams, hgrain, hready]))

theorem execBarrierDelayMeasurement_kept {ns : Nat} (ht : t = s.advance a) (hup : (t.fld.groups.get g).linkUp = true)
    (hdown : (t.fld.groups.get g).linkDown = true)
    (hturn : ∀ n, (t.fld.groups.get g).delayTurn = some n → n + 64 ≤ t.turn) (hlow : 600 ≤ ns) (hhigh : ns ≤ 900) :
    execBarrierDelayMeasurement a g ns s = .next (t.group g (fun x => { x with delay := ns, delayTurn := some t.turn })) := by
  rw [execBarrierDelayMeasurement, ← ht]
  exact congrArg _ (if_pos (by simpa [hup, hdown, hlow, hhigh, Option.all_eq_true] using hturn))

end

/-- Settles O25: each command runs when the conditions of its rule hold, and a frame or block with a bad CRC lets only time pass. -/
theorem barrierLinks : Obligations.BarrierLinks := by
  unfold Obligations.BarrierLinks
  refine ⟨?_, ?_, ?_, ?_, ?_, ?_, ?_, ?_, ?_⟩
  · intro a g seq vfield start currents s t ht hg hpower hseq hready
    exact execBarrierFrame_up ht hg hpower hseq hready
  · intro a g seq vfield start currents s t ht hg hpower hseq hready
    exact execBarrierFrame_down ht hg hpower hseq hready
  · intro a g seq vfield up start currents s t ht
    exact execBarrierFrame_badCrc ht
  · intro a g s t ht hup
    exact execUplinkTimeout_linkUp ht hup
  · intro a g s t ht hdown hawake
    exact execBarrierTimeout_awake ht hdown hawake
  · intro a g s t ht hg hdown hup hgrain hconfig hready hdue
    exact execParameterBlockApplied_due ht (State.blockDue_eq_true hg hdown hup hgrain hconfig hready hdue)
  · intro a g s t ht
    exact execParameterBlockApplied_badCrc ht
  · intro a g s t ht hsafe hwhole hparams hgrain hready
    exact execResume_leaves_safe ht hsafe hwhole hparams hgrain hready
  · intro a g ns s t ht hup hdown hturn hlow hhigh
    exact execBarrierDelayMeasurement_kept ht hup hdown hturn hlow hhigh

end Sys2Proof.Machine

/-! PROOFS. The stamp. What each function of the model leaves of it is said once, in the order of the model's files; no function but the
passing of time, a turn boundary, the start of Meridian and a module reset moves it (R46). -/

namespace Sys2Proof.Machine

/-- The angle time of the module. -/
def State.stamp (s : State) : Stamp := s.mer.stamp

@[simp] theorem State.stamp_mk {p fr ck r mb tr cfg nv log bin sen sup mer alm pair zones zio hostIn helm plan forecast occ profile snd
    inp fld out bus svc policy chart tiller} :
    State.stamp ⟨p, fr, ck, r, mb, tr, cfg, nv, log, bin, sen, sup, mer, alm, pair, zones, zio, hostIn, helm, plan, forecast, occ, profile,
      snd, inp, fld, out, bus, svc, policy, chart, tiller⟩ = mer.stamp := by rfl

@[simp] theorem State.mer_stamp (s : State) : s.mer.stamp = s.stamp := by rfl

@[simp] theorem Meridian.setRate_stamp (f : Nat) (m : Meridian) : (m.setRate f).stamp = m.stamp := by rfl
@[simp] theorem Meridian.addPoint_stamp (p : Concord) (m : Meridian) : (m.addPoint p).stamp = m.stamp := by rfl
@[simp] theorem Meridian.countCycle_stamp (p : Nat) (m : Meridian) : (m.countCycle p).stamp = m.stamp := by rfl
@[simp] theorem Meridian.ite_stamp (c : Prop) [Decidable c] (m n : Meridian) :
    (if c then m else n).stamp = if c then m.stamp else n.stamp := apply_ite Meridian.stamp c m n

@[simp] theorem State.ite_stamp (c : Prop) [Decidable c] (s t : State) :
    (if c then s else t).stamp = if c then s.stamp else t.stamp := apply_ite State.stamp c s t

@[simp] theorem State.when_stamp (c : Bool) (f : State → State) (s : State) :
    (State.when c f s).stamp = if c then (f s).stamp else s.stamp := State.ite_stamp (c = true) (f s) s

@[simp] theorem State.each_stamp {α : Type} (xs : List α) (f : α → State → State) (s : State) (h : ∀ x t, (f x t).stamp = t.stamp) :
    (State.each xs f s).stamp = s.stamp := State.each_keeps State.stamp xs f s h

@[simp] theorem foldl_stamp {α : Type} (xs : List α) (f : State → α → State) (s : State) (h : ∀ t x, (f t x).stamp = t.stamp) :
    (xs.foldl f s).stamp = s.stamp := foldl_keeps State.stamp xs f s h

@[simp] theorem State.ite_fst_stamp {α : Type} (c : Prop) [Decidable c] (x y : State × α) :
    (if c then x else y).1.stamp = if c then x.1.stamp else y.1.stamp := apply_ite (fun p => p.1.stamp) c x y

/-! ### Interrupts, records and the event ring -/

@[simp] theorem State.freeNext_stamp (s : State) : (State.freeNext s).stamp = s.stamp := by rfl
@[simp] theorem State.irq_stamp (n : Nat) (s : State) : (State.irq n s).stamp = s.stamp := by rfl
@[simp] theorem State.record_stamp (src sev code : Nat) (payload : List Byte) (posts : Bool) (target : Nat) (s : State) :
    (State.record src sev code payload posts target s).stamp = s.stamp := by rfl
@[simp] theorem State.record3_stamp (src sev code : Nat) (payload : List Byte) (target : Nat) (s : State) :
    (State.record3 src sev code payload target s).stamp = s.stamp := by rfl
@[simp] theorem State.readyRecord_stamp (w : Word32) (b : Nat) (s : State) : (State.readyRecord w b s).stamp = s.stamp := by
  unfold State.readyRecord; simp
@[simp] theorem State.putEvent_stamp (e : EvEntry) (s : State) : (State.putEvent e s).stamp = s.stamp := by rfl
@[simp] theorem State.dropEvent_stamp (s : State) : (State.dropEvent s).stamp = s.stamp := by rfl
@[simp] theorem State.putEventsLost_stamp (s : State) : (State.putEventsLost s).stamp = s.stamp := by rfl
@[simp] theorem State.postEvent_stamp (e : EvEntry) (s : State) : (State.postEvent e s).stamp = s.stamp := by
  unfold State.postEvent; simp

/-! ### The store as shared operations -/

@[simp] theorem State.unread_stamp (a len : Nat) (s : State) : (State.unread a len s).stamp = s.stamp := by
  unfold State.unread; simp
@[simp] theorem State.storeFullRecord_stamp (q : SaveReq) (s : State) : (State.storeFullRecord q s).stamp = s.stamp := by rfl
@[simp] theorem State.saveNow_stamp (q : SaveReq) (s : State) : (State.saveNow q s).2.stamp = s.stamp := by
  unfold State.saveNow; (repeat' split) <;> simp
@[simp] theorem State.save_stamp (q : SaveReq) (s : State) : (State.save q s).stamp = s.stamp := by rfl
@[simp] theorem State.forget_stamp (typ key : Nat) (s : State) : (State.forget typ key s).stamp = s.stamp := by
  unfold State.forget; simp
@[simp] theorem State.count_stamp (n a : Nat) (s : State) : (State.count n a s).stamp = s.stamp := by rfl

/-! ### What every mailbox operation shares -/

@[simp] theorem State.setSession_stamp (n : Nat) (x : Session) (s : State) : (State.setSession n x s).stamp = s.stamp := by
  unfold State.setSession; simp
@[simp] theorem State.addFlight_stamp (d : OpDef) (r : Req) (s : State) : (State.addFlight d r s).stamp = s.stamp := by rfl
@[simp] theorem State.reject_stamp (cls opcode : Nat) (r : Req) (st : Status) (s : State) :
    (State.reject cls opcode r st s).stamp = s.stamp := by rfl
@[simp] theorem State.finishIf_stamp (p : Flight → Bool) (x : Resp) (s : State) : (State.finishIf p x s).stamp = s.stamp := by rfl
@[simp] theorem State.finish_stamp (n tag : Nat) (x : Resp) (s : State) : (State.finish n tag x s).stamp = s.stamp := by rfl
@[simp] theorem State.answer_stamp (w : Option Waiter) (x : Resp) (s : State) : (State.answer w x s).stamp = s.stamp := by
  unfold State.answer; split <;> simp
@[simp] theorem State.ok_stamp (s : State) (payload : List Byte) : (State.ok s payload).1.stamp = s.stamp := by rfl
@[simp] theorem State.fail_stamp (s : State) (st : Status) : (State.fail s st).1.stamp = s.stamp := by rfl
@[simp] theorem State.addInterim_stamp (d : OpDef) (r : Req) (x : Resp) (s : State) : (State.addInterim d r x s).stamp = s.stamp := by
  unfold State.addInterim; simp
@[simp] theorem State.settle_stamp (s : State) : (State.settle s).stamp = s.stamp := by
  unfold State.settle; simp
@[simp] theorem State.ringResponse_stamp (bs : List Byte) (s : State) : (State.ringResponse bs s).stamp = s.stamp := by rfl
@[simp] theorem State.fbResponse_stamp (bs : List Byte) (s : State) : (State.fbResponse bs s).stamp = s.stamp := by rfl
@[simp] theorem State.udpResponse_stamp (u : UdpSession) (mac : Bool) (seq : Nat) (bs : List Byte) (s : State) :
    (State.udpResponse u mac seq bs s).stamp = s.stamp := by rfl
@[simp] theorem State.send_stamp (f : Flight) (x : Resp) (s : State) : (State.send f x s).stamp = s.stamp := by
  unfold State.send; (repeat' split) <;> simp
@[simp] theorem State.postNext_stamp (n : Nat) (s : State) : (State.postNext n s).stamp = s.stamp := by
  unfold State.postNext; (repeat' split) <;> simp
@[simp] theorem State.endInterims_stamp (p : Interim → Bool) (fate : Fate) (st : Status) (result : List Byte) (s : State) :
    (State.endInterims p fate st result s).stamp = s.stamp := by
  unfold State.endInterims; simp
@[simp] theorem State.abortFn_stamp (fn : Nat) (s : State) : (State.abortFn fn s).stamp = s.stamp := by
  unfold State.abortFn; simp

/-! ### The Logbook -/

@[simp] theorem State.openWindow_stamp (seq : Nat) (s : State) : (State.openWindow seq s).stamp = s.stamp := by
  unfold State.openWindow; (repeat' split) <;> simp
@[simp] theorem State.recordWritten_stamp (r : LogRec) (slot seq : Nat) (s : State) :
    (State.recordWritten r slot seq s).stamp = s.stamp := by
  unfold State.recordWritten; simp
@[simp] theorem State.noteOverflow_stamp (s : State) : (State.noteOverflow s).stamp = s.stamp := by
  unfold State.noteOverflow; simp
theorem State.fillPage_stamp (fuel page : Nat) (bs : List Byte) (s : State) : (State.fillPage fuel page bs s).2.stamp = s.stamp := by
  induction fuel generalizing bs s with
  | zero => rfl
  | succ fuel ih =>
    rw [State.fillPage]
    split
    · rfl
    · dsimp only
      split
      · rfl
      · rw [ih]; simp

@[simp] theorem State.writeLog_stamp (s : State) : (State.writeLog s).stamp = s.stamp := by
  unfold State.writeLog; split
  · rfl
  · simp [State.fillPage_stamp]
@[simp] theorem logReadBody_stamp (r : Req) (s : State) : (logReadBody r s).1.stamp = s.stamp := by
  unfold logReadBody; dsimp only; split <;> simp
@[simp] theorem State.saveBinnacle_stamp (s : State) : (State.saveBinnacle s).stamp = s.stamp := by rfl
/-- Whatever a write made at once answers, it leaves the head as it was. -/
theorem State.saveNow_stamp_of {x : SaveReq} {s t : State} {st : Status} (h : s.saveNow x = (st, t)) : t.stamp = s.stamp := by
  rw [← State.saveNow_stamp x s, h]

@[simp] theorem logAckBody_stamp (r : Req) (s : State) : (logAckBody r s).1.stamp = s.stamp := by
  unfold logAckBody; dsimp only; split
  · simp
  · split <;> simpa using State.saveNow_stamp_of ‹_›

/-! ### Concordance -/

@[simp] theorem State.takePoint_stamp (transition : Bool) (s : State) : (State.takePoint transition s).stamp = s.stamp := by rfl
@[simp] theorem State.takeSetPoint_stamp (ticks epoch : Nat) (s : State) : (State.takeSetPoint ticks epoch s).stamp = s.stamp := by
  unfold State.takeSetPoint; simp
@[simp] theorem State.concordRecord_stamp (s : State) : (State.concordRecord s).stamp = s.stamp := by rfl
@[simp] theorem State.merRecord_stamp (sev code : Nat) (payload : List Byte) (s : State) :
    (State.merRecord sev code payload s).stamp = s.stamp := by rfl
@[simp] theorem concordReadBody_stamp (r : Req) (s : State) : (concordReadBody r s).1.stamp = s.stamp := by rfl

/-! ### Meridian -/

@[simp] theorem State.trackRate_stamp (s : State) : (State.trackRate s).stamp = s.stamp := by rfl
@[simp] theorem State.agoPin_stamp (n : Nat) (active : Bool) (s : State) : (State.agoPin n active s).stamp = s.stamp := by rfl
@[simp] theorem State.agoUnlock_stamp (s : State) : (State.agoUnlock s).stamp = s.stamp := by
  unfold State.agoUnlock; simp
@[simp] theorem State.agoStopsAnew_stamp (s : State) : (State.agoStopsAnew s).stamp = s.stamp := by
  unfold State.agoStopsAnew; simp
@[simp] theorem State.enterQualify_stamp (s : State) : (State.enterQualify s).stamp = s.stamp := by rfl
@[simp] theorem State.enterCapture_stamp (s : State) : (State.enterCapture s).stamp = s.stamp := by rfl
@[simp] theorem State.enterRelock_stamp (cause : Nat) (s : State) : (State.enterRelock cause s).stamp = s.stamp := by rfl
@[simp] theorem State.qualified_stamp (s : State) : (State.qualified s).stamp = s.stamp := by
  unfold State.qualified; simp
@[simp] theorem State.captureCrossing_stamp (s : State) : (State.captureCrossing s).stamp = s.stamp := by
  unfold State.captureCrossing; simp
@[simp] theorem State.relockTo_stamp (e : Int) (s : State) : (State.relockTo e s).stamp = s.stamp := by
  unfold State.relockTo; simp
@[simp] theorem State.fitUpdate_stamp (hz amp toEnd : Nat) (s : State) : (State.fitUpdate hz amp toEnd s).stamp = s.stamp := by
  unfold State.fitUpdate; dsimp only; split <;> simp
@[simp] theorem State.nominal_stamp (s : State) : (State.nominal s).stamp = s.stamp := by
  unfold State.nominal; simp
@[simp] theorem State.captureEnds_stamp (s : State) : (State.captureEnds s).stamp = s.stamp := by
  unfold State.captureEnds; simp
@[simp] theorem State.markTurn_stamp (s : State) : (State.markTurn s).stamp = s.stamp := by rfl
@[simp] theorem State.slotEffects_stamp (s : State) : (State.slotEffects s).stamp = s.stamp := by rfl
@[simp] theorem State.clearHostSlots_stamp (s : State) : (State.clearHostSlots s).stamp = s.stamp := by rfl
@[simp] theorem slotReadBody_stamp (r : Req) (s : State) : (slotReadBody r s).1.stamp = s.stamp := by rfl
@[simp] theorem slotWriteBody_stamp (r : Req) (s : State) : (slotWriteBody r s).1.stamp = s.stamp := by rfl

/-! ### The store at work -/

@[simp] theorem State.pageOp_stamp (f : JrnFate) (s : State) : (State.pageOp f s).stamp = s.stamp := by
  unfold State.pageOp; (repeat' split) <;> simp
@[simp] theorem State.sheafStep_stamp (cut : Bool) (s : State) : (State.sheafStep cut s).stamp = s.stamp := by
  unfold State.sheafStep; (repeat' split) <;> simp
@[simp] theorem State.recordWrite_stamp (s : State) : (State.recordWrite s).stamp = s.stamp := by
  unfold State.recordWrite; dsimp only; (repeat' split) <;> simp
@[simp] theorem State.compaction_stamp (s : State) : (State.compaction s).stamp = s.stamp := by
  unfold State.compaction; dsimp only; (repeat' split) <;> simp
@[simp] theorem State.sheafLost_stamp (before : Nv) (ns : List Nat) (s : State) : (State.sheafLost before ns s).stamp = s.stamp := by
  unfold State.sheafLost; simp
@[simp] theorem State.eccFound_stamp (page : Nat) (corrected bad : List Nat) (s : State) :
    (State.eccFound page corrected bad s).stamp = s.stamp := by
  unfold State.eccFound; simp
@[simp] theorem State.eccSummary_stamp (s : State) : (State.eccSummary s).stamp = s.stamp := by
  unfold State.eccSummary; simp
@[simp] theorem State.updateRecord_stamp (binnacle : Bool) (slot event version : Nat) (s : State) :
    (State.updateRecord binnacle slot event version s).stamp = s.stamp := by rfl
@[simp] theorem State.failTrial_stamp (i : Nat) (s : State) : (State.failTrial i s).stamp = s.stamp := by
  unfold State.failTrial; simp
@[simp] theorem State.restoreBinnacle_stamp (s : State) : (State.restoreBinnacle s).stamp = s.stamp := by
  unfold State.restoreBinnacle; dsimp only; split <;> simp
@[simp] theorem State.loadTimeBase_stamp (s : State) : (State.loadTimeBase s).stamp = s.stamp := by
  unfold State.loadTimeBase; split <;> simp
@[simp] theorem State.recoverStore_stamp (s : State) : (State.recoverStore s).stamp = s.stamp := by
  unfold State.recoverStore; simp
@[simp] theorem State.holdFromT0_stamp (s : State) : (State.holdFromT0 s).stamp = s.stamp := by
  unfold State.holdFromT0; simp

/-! ### The Almanac -/

@[simp] theorem State.alarmRecord_stamp (n : Nat) (offline : Bool) (s : State) : (State.alarmRecord n offline s).stamp = s.stamp := by rfl
@[simp] theorem State.fireAlarm_stamp (n cause : Nat) (s : State) : (State.fireAlarm n cause s).stamp = s.stamp := by
  unfold State.fireAlarm; simp
@[simp] theorem State.discardPlan_stamp (cause : Nat) (s : State) : (State.discardPlan cause s).stamp = s.stamp := by
  unfold State.discardPlan; simp
@[simp] theorem State.saveTimeBase_stamp (s : State) : (State.saveTimeBase s).stamp = s.stamp := by rfl
@[simp] theorem State.countCommit_stamp (before value : Nat) (s : State) : (State.countCommit before value s).stamp = s.stamp := by
  unfold State.countCommit; simp
@[simp] theorem State.alarmEval_stamp (n : Nat) (armed : Bool) (moved : Option Nat) (s : State) :
    (State.alarmEval n armed moved s).stamp = s.stamp := by
  unfold State.alarmEval; simp
@[simp] theorem State.commitEdge_stamp (s : State) : (State.commitEdge s).stamp = s.stamp := by
  unfold State.commitEdge; dsimp only; (repeat' split) <;> simp
@[simp] theorem State.lockAlmanac_stamp (s : State) : (State.lockAlmanac s).stamp = s.stamp := by
  unfold State.lockAlmanac; simp
@[simp] theorem State.domainPowerOn_stamp (s : State) : (State.domainPowerOn s).stamp = s.stamp := by rfl

/-! ### Owners -/

@[simp] theorem State.policyOwners_stamp (s : State) : (State.policyOwners s).stamp = s.stamp := by rfl

/-! ### Analogue and angle outputs -/

@[simp] theorem State.aoLatchOne_stamp (n : Nat) (s : State) : (State.aoLatchOne n s).stamp = s.stamp := by
  unfold State.aoLatchOne; simp
@[simp] theorem State.aoLatch_stamp (mask : Nat) (s : State) : (State.aoLatch mask s).stamp = s.stamp := by
  unfold State.aoLatch; simp
@[simp] theorem State.aoToSafe_stamp (n : Nat) (s : State) : (State.aoToSafe n s).stamp = s.stamp := by rfl
@[simp] theorem State.agoHostRises_stamp (s : State) : (State.agoHostRises s).stamp = s.stamp := by
  unfold State.agoHostRises; simp
@[simp] theorem State.agoHighZ_stamp (n : Nat) (s : State) : (State.agoHighZ n s).stamp = s.stamp := by rfl
@[simp] theorem State.aoMonitorRecords_stamp (n : Nat) (before after : Ao) (s : State) :
    (State.aoMonitorRecords n before after s).stamp = s.stamp := by
  unfold State.aoMonitorRecords; simp
@[simp] theorem State.aoMonitor_stamp (n mv : Nat) (current : Int) (limiting : Bool) (s : State) :
    (State.aoMonitor n mv current limiting s).stamp = s.stamp := by
  unfold State.aoMonitor; simp
@[simp] theorem State.agoDrive_stamp (n : Nat) (s : State) : (State.agoDrive n s).stamp = s.stamp := by
  unfold State.agoDrive; simp
@[simp] theorem State.agoLatchOne_stamp (n : Nat) (s : State) : (State.agoLatchOne n s).stamp = s.stamp := by
  unfold State.agoLatchOne; simp
@[simp] theorem State.agoResume_stamp (n : Nat) (s : State) : (State.agoResume n s).stamp = s.stamp := by
  unfold State.agoResume; simp
@[simp] theorem State.agoLatch_stamp (n : Nat) (s : State) : (State.agoLatch n s).stamp = s.stamp := by
  unfold State.agoLatch; dsimp only; split <;> simp
@[simp] theorem State.agoHostAction_stamp (n act : Nat) (s : State) : (State.agoHostAction n act s).stamp = s.stamp := by
  unfold State.agoHostAction; simp
@[simp] theorem State.setForce_stamp (kind n : Nat) (f : Option Force) (s : State) : (State.setForce kind n f s).stamp = s.stamp := by
  unfold State.setForce; simp
@[simp] theorem State.performForce_stamp (kind n : Nat) (release : Bool) (value duration : Nat) (s : State) :
    (State.performForce kind n release value duration s).stamp = s.stamp := by
  unfold State.performForce; simp
@[simp] theorem State.askForce_stamp (kind n : Nat) (release : Bool) (value duration : Nat) (s : State) :
    (State.askForce kind n release value duration s).1.stamp = s.stamp := by
  unfold State.askForce; split <;> simp

/-! ### Input images -/

@[simp] theorem State.snapRefs_stamp (z : Nat) (s : State) : (State.snapRefs z s).stamp = s.stamp := by rfl
@[simp] theorem State.snapZone_stamp (z : Nat) (s : State) : (State.snapZone z s).stamp = s.stamp := by rfl
@[simp] theorem State.snapFloor_stamp (s : State) : (State.snapFloor s).stamp = s.stamp := by
  unfold State.snapFloor; (repeat' split) <;> simp
@[simp] theorem State.snapLoop_stamp (n : Nat) (s : State) : (State.snapLoop n s).stamp = s.stamp := by
  unfold State.snapLoop; simp
@[simp] theorem State.sampleFirst_stamp (s : State) : (State.sampleFirst s).stamp = s.stamp := by
  unfold State.sampleFirst; simp

/-! ### Zones -/

@[simp] theorem State.formRefs_stamp (z : Nat) (s : State) : (State.formRefs z s).stamp = s.stamp := by rfl
@[simp] theorem State.setMode_stamp (z : Nat) (m : ZMode) (s : State) : (State.setMode z m s).stamp = s.stamp := by
  unfold State.setMode; simp
@[simp] theorem State.refreshStatus_stamp (z : Nat) (s : State) : (State.refreshStatus z s).stamp = s.stamp := by rfl
@[simp] theorem State.setPrio_stamp (isRef : Bool) (z k slot : Nat) (v : Option Word32) (s : State) :
    (State.setPrio isRef z k slot v s).stamp = s.stamp := by
  unfold State.setPrio; simp
@[simp] theorem State.setHostValue_stamp (isY : Bool) (z k : Nat) (v : Option Word32) (s : State) :
    (State.setHostValue isY z k v s).stamp = s.stamp := by
  unfold State.setHostValue; simp
@[simp] theorem State.writeSignal_stamp (z sig slot : Nat) (v : Option Word32) (s : State) :
    (State.writeSignal z sig slot v s).1.stamp = s.stamp := by
  unfold State.writeSignal; split <;> simp

/-! ### Model banks -/

@[simp] theorem State.planModelDue_stamp (s : State) : (State.planModelDue s).stamp = s.stamp := by rfl
@[simp] theorem State.resetAllW_stamp (s : State) : (State.resetAllW s).stamp = s.stamp := by rfl
@[simp] theorem State.bankAnswer_stamp (w : Option Waiter) (y : Resp) (s : State) : (State.bankAnswer w y s).stamp = s.stamp := by
  unfold State.bankAnswer; split <;> simp
@[simp] theorem State.performWrite_stamp (host shadow : Bool) (kind num first : Nat) (vs : List Word32) (w : Option Waiter) (s : State) :
    (State.performWrite host shadow kind num first vs w s).stamp = s.stamp := by
  unfold State.performWrite; simp
@[simp] theorem State.performSwap_stamp (sounded : Option Nat) (w : Option Waiter) (s : State) :
    (State.performSwap sounded w s).stamp = s.stamp := by
  unfold State.performSwap; split <;> simp
@[simp] theorem State.performCopy_stamp (b : Bank) (w : Option Waiter) (s : State) : (State.performCopy b w s).stamp = s.stamp := by
  unfold State.performCopy; simp
@[simp] theorem State.mirrored_stamp (op : BankOp) (s : State) : (State.mirrored op s).stamp = s.stamp := by
  unfold State.mirrored; simp
@[simp] theorem State.serveQueue_stamp (fuel used : Nat) (first : Bool) (s : State) :
    (State.serveQueue fuel used first s).stamp = s.stamp := by
  induction fuel generalizing used first s with
  | zero => rfl
  | succ fuel ih =>
    rw [State.serveQueue]
    split
    · rfl
    · split
      · rfl
      · dsimp only; split <;> simp [ih]

@[simp] theorem State.serveAccepted_stamp (s : State) : (State.serveAccepted s).stamp = s.stamp := by
  unfold State.serveAccepted; simp
@[simp] theorem State.bankOps_stamp (s : State) : (State.bankOps s).stamp = s.stamp := by
  unfold State.bankOps; split <;> simp
@[simp] theorem State.enqueue_stamp (ops : List BankOp) (s : State) : (State.enqueue ops s).stamp = s.stamp := by rfl
@[simp] theorem State.dropBankQueue_stamp (s : State) : (State.dropBankQueue s).stamp = s.stamp := by rfl
@[simp] theorem State.clearDiag_stamp (kind num : Nat) (s : State) : (State.clearDiag kind num s).stamp = s.stamp := by
  unfold State.clearDiag; simp
@[simp] theorem State.bankNotSaved_stamp (pending : Bool) (s : State) : (State.bankNotSaved pending s).stamp = s.stamp := by rfl
@[simp] theorem State.saveBank_stamp (s : State) : (State.saveBank s).stamp = s.stamp := by
  unfold State.saveBank; (repeat' split) <;> simp
@[simp] theorem State.loadZone_stamp (z : Nat) (p : List Byte) (s : State) : (State.loadZone z p s).stamp = s.stamp := by
  unfold State.loadZone; simp
@[simp] theorem State.loadLoop_stamp (n : Nat) (p : List Byte) (s : State) : (State.loadLoop n p s).stamp = s.stamp := by
  unfold State.loadLoop; simp
@[simp] theorem State.loadBanks_stamp (s : State) : (State.loadBanks s).stamp = s.stamp := by
  unfold State.loadBanks; simp

/-! ### The Chart -/

@[simp] theorem State.chartPhase_stamp (s : State) : (State.chartPhase s).stamp = s.stamp := by
  unfold State.chartPhase; dsimp only; (repeat' split) <;> simp
@[simp] theorem State.chooseBand_stamp (s : State) : (State.chooseBand s).stamp = s.stamp := by
  unfold State.chooseBand; simp
@[simp] theorem State.ledgerPut_stamp (state frame : Nat) (balance : Tbl Int) (s : State) :
    (State.ledgerPut state frame balance s).stamp = s.stamp := by rfl
@[simp] theorem State.loadLedger_stamp (s : State) : (State.loadLedger s).stamp = s.stamp := by
  unfold State.loadLedger; split <;> simp
@[simp] theorem State.dropLedgerOps_stamp (s : State) : (State.dropLedgerOps s).stamp = s.stamp := by rfl
@[simp] theorem State.chartInterrupt_stamp (s : State) : (State.chartInterrupt s).stamp = s.stamp := by
  unfold State.chartInterrupt; simp
@[simp] theorem State.framePage_stamp (s : State) : (State.framePage s).stamp = s.stamp := by rfl
@[simp] theorem State.updateStart_stamp (s : State) : (State.updateStart s).stamp = s.stamp := by
  unfold State.updateStart; simp
@[simp] theorem State.endChartWrite_stamp (newest : Bool) (fate : Fate) (s : State) :
    (State.endChartWrite newest fate s).stamp = s.stamp := by
  unfold State.endChartWrite; dsimp only; split <;> simp
@[simp] theorem State.chartRises_stamp (s : State) : (State.chartRises s).stamp = s.stamp := by
  unfold State.chartRises; simp
@[simp] theorem State.chartDown_stamp (s : State) : (State.chartDown s).stamp = s.stamp := by
  unfold State.chartDown; simp
@[simp] theorem State.chartTurn_stamp (s : State) : (State.chartTurn s).stamp = s.stamp := by rfl
@[simp] theorem State.pumpSampled_stamp (s : State) : (State.pumpSampled s).stamp = s.stamp := by
  unfold State.pumpSampled; simp
@[simp] theorem State.chartCommit_stamp (old : State) (s : State) : (State.chartCommit old s).stamp = s.stamp := by
  unfold State.chartCommit; simp
@[simp] theorem State.chartJudge_stamp (n : Nat) (s : State) : (State.chartJudge n s).stamp = s.stamp := by
  unfold State.chartJudge; simp

/-! ### Soundings -/

@[simp] theorem State.sndErase_stamp (area : Nat) (s : State) : (State.sndErase area s).stamp = s.stamp := by rfl
@[simp] theorem State.sndEvict_stamp (area : Nat) (s : State) : (State.sndEvict area s).stamp = s.stamp := by rfl
@[simp] theorem State.sndAccept_stamp (z area : Nat) (p : List Byte) (s : State) : (State.sndAccept z area p s).stamp = s.stamp := by rfl
@[simp] theorem State.sndTake_stamp (z : Nat) (p : List Byte) (s : State) : (State.sndTake z p s).1.stamp = s.stamp := by
  unfold State.sndTake; split <;> simp
@[simp] theorem State.sndVanish_stamp (z : Nat) (s : State) : (State.sndVanish z s).stamp = s.stamp := by
  unfold State.sndVanish; simp
@[simp] theorem State.enterMode_stamp (z : Nat) (m : ZMode) (s : State) : (State.enterMode z m s).stamp = s.stamp := by
  unfold State.enterMode; simp
@[simp] theorem State.sndBegin_stamp (z : Nat) (s : State) : (State.sndBegin z s).stamp = s.stamp := by
  unfold State.sndBegin; simp
@[simp] theorem State.sndStarts_stamp (s : State) : (State.sndStarts s).stamp = s.stamp := by
  unfold State.sndStarts; simp
@[simp] theorem State.sndStore_stamp (z : Nat) (s : State) : (State.sndStore z s).stamp = s.stamp := by rfl
@[simp] theorem State.sndSample_stamp (z : Nat) (u : Tbl Word32) (s : State) : (State.sndSample z u s).stamp = s.stamp := by
  unfold State.sndSample; simp
@[simp] theorem State.sndLeave_stamp (z : Nat) (m : Option ZMode) (s : State) : (State.sndLeave z m s).stamp = s.stamp := by rfl
@[simp] theorem State.sndEnd_stamp (cause z : Nat) (o : Sounding) (s : State) : (State.sndEnd cause z o s).stamp = s.stamp := by
  unfold State.sndEnd; simp
@[simp] theorem State.sndAbort_stamp (cause z : Nat) (s : State) : (State.sndAbort cause z s).stamp = s.stamp := by
  unfold State.sndAbort; simp
@[simp] theorem State.sndDropDeferred_stamp (z : Nat) (s : State) : (State.sndDropDeferred z s).stamp = s.stamp := by
  unfold State.sndDropDeferred; simp
@[simp] theorem State.writeMode_stamp (z : Nat) (m : ZMode) (s : State) : (State.writeMode z m s).1.stamp = s.stamp := by
  unfold State.writeMode; dsimp only; (repeat' split) <;> simp
@[simp] theorem State.modesTakeEffect_stamp (s : State) : (State.modesTakeEffect s).stamp = s.stamp := by
  unfold State.modesTakeEffect; simp
@[simp] theorem State.sndDeliver_stamp (z mode force : Nat) (o : Sounding) (w : Option Waiter) (s : State) :
    (State.sndDeliver z mode force o w s).stamp = s.stamp := by
  unfold State.sndDeliver; simp

/-! ### Helm -/

@[simp] theorem State.blindRecord_stamp (z : Nat) (begins reached : Bool) (s : State) :
    (State.blindRecord z begins reached s).stamp = s.stamp := by rfl
@[simp] theorem State.blindStep_stamp (z : Nat) (s : State) : (State.blindStep z s).stamp = s.stamp := by
  unfold State.blindStep; dsimp only; split <;> simp
@[simp] theorem State.occSample_stamp (z : Nat) (s : State) : (State.occSample z s).stamp = s.stamp := by
  unfold State.occSample; simp
@[simp] theorem State.computeZone_stamp (z : Nat) (s : State) : (State.computeZone z s).stamp = s.stamp := by
  unfold State.computeZone; simp
@[simp] theorem State.computeLoop_stamp (n : Nat) (s : State) : (State.computeLoop n s).stamp = s.stamp := by rfl
@[simp] theorem State.loopSample_stamp (n : Nat) (s : State) : (State.loopSample n s).stamp = s.stamp := by
  unfold State.loopSample; simp
@[simp] theorem State.sndLost_stamp (s : State) : (State.sndLost s).stamp = s.stamp := by
  unfold State.sndLost; simp
@[simp] theorem State.helmSample_stamp (s : State) : (State.helmSample s).stamp = s.stamp := by
  unfold State.helmSample; simp
@[simp] theorem State.clampRecord_stamp (z mask : Nat) (s : State) : (State.clampRecord z mask s).stamp = s.stamp := by
  unfold State.clampRecord; simp
@[simp] theorem State.warmUp_stamp (z : Nat) (s : State) : (State.warmUp z s).stamp = s.stamp := by rfl
@[simp] theorem State.applyZone_stamp (z : Nat) (s : State) : (State.applyZone z s).stamp = s.stamp := by
  unfold State.applyZone; simp
@[simp] theorem State.dropZone_stamp (z : Nat) (s : State) : (State.dropZone z s).stamp = s.stamp := by rfl
@[simp] theorem State.warmLoop_stamp (n : Nat) (s : State) : (State.warmLoop n s).stamp = s.stamp := by rfl
@[simp] theorem State.formAllRefs_stamp (s : State) : (State.formAllRefs s).stamp = s.stamp := by
  unfold State.formAllRefs; simp
@[simp] theorem State.loopApply_stamp (n late : Nat) (s : State) : (State.loopApply n late s).stamp = s.stamp := by
  unfold State.loopApply; simp

/-! ### Field channels -/

@[simp] theorem State.group_stamp (g : Nat) (f : Group → Group) (s : State) : (State.group g f s).stamp = s.stamp := by rfl
@[simp] theorem State.chOut_stamp (n : Nat) (f : ChOut → ChOut) (s : State) : (State.chOut n f s).stamp = s.stamp := by rfl
@[simp] theorem State.chIn_stamp (n : Nat) (f : ChIn → ChIn) (s : State) : (State.chIn n f s).stamp = s.stamp := by rfl
@[simp] theorem State.chPin_stamp (n : Nat) (s : State) : (State.chPin n s).stamp = s.stamp := by
  unfold State.chPin; simp
@[simp] theorem State.chLevel_stamp (n : Nat) (on : Bool) (s : State) : (State.chLevel n on s).stamp = s.stamp := by
  unfold State.chLevel; simp
@[simp] theorem State.groupPins_stamp (g : Nat) (s : State) : (State.groupPins g s).stamp = s.stamp := by
  unfold State.groupPins; simp
@[simp] theorem State.fieldEvent_stamp (g sev code : Nat) (payload : List Byte) (target : Nat) (s : State) :
    (State.fieldEvent g sev code payload target s).stamp = s.stamp := by
  unfold State.fieldEvent; simp
@[simp] theorem State.faultCleared_stamp (n : Nat) (s : State) : (State.faultCleared n s).stamp = s.stamp := by
  unfold State.faultCleared; simp
@[simp] theorem State.safeRecord_stamp (g : Nat) (entered : Bool) (s : State) : (State.safeRecord g entered s).stamp = s.stamp := by
  unfold State.safeRecord; simp
@[simp] theorem State.vfieldRecord_stamp (g what : Nat) (s : State) : (State.vfieldRecord g what s).stamp = s.stamp := by
  unfold State.vfieldRecord; simp
@[simp] theorem State.enterSafe_stamp (g : Nat) (s : State) : (State.enterSafe g s).stamp = s.stamp := by
  unfold State.enterSafe; simp
@[simp] theorem State.groupPowerOn_stamp (g : Nat) (s : State) : (State.groupPowerOn g s).stamp = s.stamp := by
  unfold State.groupPowerOn; simp
@[simp] theorem State.groupUnpowered_stamp (g : Nat) (s : State) : (State.groupUnpowered g s).stamp = s.stamp := by
  unfold State.groupUnpowered; simp
@[simp] theorem State.sleepBarrier_stamp (s : State) : (State.sleepBarrier s).stamp = s.stamp := by
  unfold State.sleepBarrier; simp
@[simp] theorem State.barrierOn_stamp (s : State) : (State.barrierOn s).stamp = s.stamp := by
  unfold State.barrierOn; simp
@[simp] theorem State.ringEdge_stamp (g : Nat) (e : Edge) (s : State) : (State.ringEdge g e s).stamp = s.stamp := by
  unfold State.ringEdge; simp
@[simp] theorem State.bufferEdge_stamp (n : Nat) (e : Edge) (s : State) : (State.bufferEdge n e s).stamp = s.stamp := by
  unfold State.bufferEdge; simp
@[simp] theorem State.acceptState_stamp (n : Nat) (on : Bool) (x : Stamp) (s : State) : (State.acceptState n on x s).stamp = s.stamp := by
  unfold State.acceptState; simp
@[simp] theorem State.wireReading_stamp (n ua : Nat) (x : Stamp) (s₀ : State) : (State.wireReading n ua x s₀).stamp = s₀.stamp := by
  unfold State.wireReading; dsimp only; split
  · simp
  · split <;> simp
  · simp
@[simp] theorem State.closeGate_stamp (n : Nat) (s : State) : (State.closeGate n s).stamp = s.stamp := by
  unfold State.closeGate; simp
@[simp] theorem State.linkStart_stamp (g : Nat) (s : State) : (State.linkStart g s).stamp = s.stamp := by
  unfold State.linkStart; simp
@[simp] theorem State.deliverEdges_stamp (g : Nat) (s : State) : (State.deliverEdges g s).stamp = s.stamp := by
  unfold State.deliverEdges; simp
@[simp] theorem State.reportHeld_stamp (g : Nat) (s : State) : (State.reportHeld g s).stamp = s.stamp := by
  unfold State.reportHeld; simp
@[simp] theorem State.takeBlock_stamp (old : State) (n : Nat) (s : State) : (State.takeBlock old n s).stamp = s.stamp := by
  unfold State.takeBlock; simp
@[simp] theorem State.chApply_stamp (n : Nat) (s : State) : (State.chApply n s).stamp = s.stamp := by
  unfold State.chApply; simp
@[simp] theorem State.fieldApply_stamp (mask : Nat) (s : State) : (State.fieldApply mask s).stamp = s.stamp := by
  unfold State.fieldApply; simp
@[simp] theorem State.tpoStart_stamp (n : Nat) (v : Word32) (s : State) : (State.tpoStart n v s).stamp = s.stamp := by
  unfold State.tpoStart; simp
@[simp] theorem State.tpoStarts_stamp (s : State) : (State.tpoStarts s).stamp = s.stamp := by
  unfold State.tpoStarts; split
  · rfl
  · exact State.each_stamp _ _ _ (fun n t => by split <;> simp)
@[simp] theorem State.trip_stamp (n : Nat) (f : ChOut → ChOut) (s : State) : (State.trip n f s).stamp = s.stamp := by
  unfold State.trip; simp
@[simp] theorem State.tripRecord_stamp (n code : Nat) (s : State) : (State.tripRecord n code s).stamp = s.stamp := by
  unfold State.tripRecord; simp
@[simp] theorem State.retry_stamp (n : Nat) (s : State) : (State.retry n s).stamp = s.stamp := by
  unfold State.retry; simp
@[simp] theorem State.chCondition_stamp (n sev code : Nat) (payload : List Byte) (was is : Bool) (f : ChOut → ChOut) (s : State) :
    (State.chCondition n sev code payload was is f s).stamp = s.stamp := by
  unfold State.chCondition; simp
@[simp] theorem State.stuckFound_stamp (n current : Nat) (s : State) : (State.stuckFound n current s).stamp = s.stamp := by
  unfold State.stuckFound; simp
@[simp] theorem State.clearLatch_stamp (n : Nat) (s : State) : (State.clearLatch n s).stamp = s.stamp := by
  unfold State.clearLatch; simp
@[simp] theorem State.clearCut_stamp (g : Nat) (s : State) : (State.clearCut g s).stamp = s.stamp := by
  unfold State.clearCut; simp
@[simp] theorem State.clearChannel_stamp (n : Nat) (s : State) : (State.clearChannel n s).stamp = s.stamp := by
  unfold State.clearChannel; simp
@[simp] theorem State.clearGroup_stamp (g : Nat) (s : State) : (State.clearGroup g s).stamp = s.stamp := by
  unfold State.clearGroup; simp

/-! ### Universal inputs -/

@[simp] theorem State.core_stamp (c : Nat) (f : AdcCore → AdcCore) (s : State) : (State.core c f s).stamp = s.stamp := by rfl
@[simp] theorem State.uiIn_stamp (n : Nat) (f : Ui → Ui) (s : State) : (State.uiIn n f s).stamp = s.stamp := by rfl
@[simp] theorem State.adcStart_stamp (c : Nat) (s : State) : (State.adcStart c s).stamp = s.stamp := by
  unfold State.adcStart; simp
@[simp] theorem State.adcBoundary_stamp (s : State) : (State.adcBoundary s).stamp = s.stamp := by rfl
@[simp] theorem State.inputFault_stamp (n : Nat) (s : State) : (State.inputFault n s).stamp = s.stamp := by rfl
@[simp] theorem State.inputRestored_stamp (n : Nat) (s : State) : (State.inputRestored n s).stamp = s.stamp := by rfl
@[simp] theorem State.uiPost_stamp (n : Nat) (x : Integ) (p : Word32) (s : State) : (State.uiPost n x p s).stamp = s.stamp := by rfl
@[simp] theorem State.uiBad_stamp (n : Nat) (b : UiBand) (s : State) : (State.uiBad n b s).stamp = s.stamp := by
  unfold State.uiBad; simp
@[simp] theorem State.uiGood_stamp (n : Nat) (x : Integ) (p : Word32) (s : State) : (State.uiGood n x p s).stamp = s.stamp := by
  unfold State.uiGood; simp
@[simp] theorem State.convert_stamp (n : Nat) (x : Integ) (raw : Word32) (s : State) : (State.convert n x raw s).stamp = s.stamp := by
  unfold State.convert; simp
@[simp] theorem State.calPass_stamp (c : Nat) (isGain : Bool) (dev : Int) (s : State) :
    (State.calPass c isGain dev s).stamp = s.stamp := by
  unfold State.calPass; simp
@[simp] theorem State.calReject_stamp (c : Nat) (isGain : Bool) (dev : Int) (s : State) :
    (State.calReject c isGain dev s).stamp = s.stamp := by
  unfold State.calReject; simp
@[simp] theorem State.calJudge_stamp (c : Nat) (isGain : Bool) (dev : Int) (s : State) :
    (State.calJudge c isGain dev s).stamp = s.stamp := by
  unfold State.calJudge; simp
@[simp] theorem State.calBegin_stamp (c : Nat) (w : Waiter) (interim : Bool) (s : State) :
    (State.calBegin c w interim s).stamp = s.stamp := by rfl
@[simp] theorem State.calFinish_stamp (c : Nat) (s : State) : (State.calFinish c s).stamp = s.stamp := by
  unfold State.calFinish; dsimp only; (repeat' split) <;> simp
@[simp] theorem State.calDemand_stamp (c : Nat) (isGain : Bool) (dev : Option Int) (s : State) :
    (State.calDemand c isGain dev s).stamp = s.stamp := by
  unfold State.calDemand; simp
@[simp] theorem State.uiCommit_stamp (s : State) : (State.uiCommit s).stamp = s.stamp := by
  unfold State.uiCommit; simp
@[simp] theorem State.uiChange_stamp (n : Nat) (s : State) : (State.uiChange n s).stamp = s.stamp := by
  unfold State.uiChange; simp
@[simp] theorem State.uiChanges_stamp (s : State) : (State.uiChanges s).stamp = s.stamp := by
  unfold State.uiChanges; simp
@[simp] theorem State.calDeferred_stamp (i : Interim) (s : State) : (State.calDeferred i s).stamp = s.stamp := by
  unfold State.calDeferred; simp

/-! ### I2C recipes -/

@[simp] theorem State.recipe_stamp (n : Nat) (f : Recipe → Recipe) (s : State) : (State.recipe n f s).stamp = s.stamp := by rfl
@[simp] theorem State.busRecover_stamp (b : Nat) (released : Bool) (s : State) : (State.busRecover b released s).stamp = s.stamp := by
  unfold State.busRecover; simp
@[simp] theorem State.recipeAttempt_stamp (n attempt : Nat) (xs : List I2cXfer) (released : Bool) (s : State) :
    (State.recipeAttempt n attempt xs released s).stamp = s.stamp := by
  unfold State.recipeAttempt; simp
@[simp] theorem State.recipeRun_stamp (n : Nat) (xs : List I2cXfer) (released : Bool) (s : State) :
    (State.recipeRun n xs released s).stamp = s.stamp := by
  unfold State.recipeRun; simp
@[simp] theorem State.recipeGood_stamp (n : Nat) (buf : List Byte) (stamp : Stamp) (s : State) :
    (State.recipeGood n buf stamp s).stamp = s.stamp := by
  unfold State.recipeGood; simp
@[simp] theorem State.recipeBad_stamp (n cause step : Nat) (s : State) : (State.recipeBad n cause step s).stamp = s.stamp := by
  unfold State.recipeBad; simp
@[simp] theorem State.recipeEnd_stamp (n : Nat) (stamp : Stamp) (s : State) : (State.recipeEnd n stamp s).stamp = s.stamp := by
  unfold State.recipeEnd; simp
@[simp] theorem State.i2cStops_stamp (s : State) : (State.i2cStops s).stamp = s.stamp := by rfl

/-! ### Writes of the BACnet objects -/

@[simp] theorem State.storeProp_stamp (id prop : Nat) (bs : List Byte) (s : State) : (State.storeProp id prop bs s).1.stamp = s.stamp := by
  unfold State.storeProp; dsimp only
  split <;> simpa using State.saveNow_stamp_of ‹_›
@[simp] theorem State.loadStore_stamp (s : State) : (State.loadStore s).stamp = s.stamp := by rfl
@[simp] theorem State.dropProp_stamp (id prop : Nat) (s : State) : (State.dropProp id prop s).stamp = s.stamp := by
  unfold State.dropProp; simp
@[simp] theorem State.commandPoint_stamp (n slot : Nat) (v : Option Word32) (s : State) :
    (State.commandPoint n slot v s).stamp = s.stamp := by rfl
@[simp] theorem State.pointsStart_stamp (s : State) : (State.pointsStart s).stamp = s.stamp := by rfl
/-- A mode written leaves the head as it is, whatever it is answered. -/
theorem State.writeMode_stamp_of {z : Nat} {m : ZMode} {s u : State} {st : Status} (h : s.writeMode z m = (u, st)) : u.stamp = s.stamp := by
  rw [← State.writeMode_stamp z m s, h]

@[simp] theorem State.writePv_stamp (id slot : Nat) (o : Obj) (t : Tok) (s : State) : (State.writePv id slot o t s).1.stamp = s.stamp := by
  unfold State.writePv; split
  case h_5 =>
    split
    · split
      · split <;> exact State.writeMode_stamp_of ‹_›
      · rfl
    · rfl
  case h_6 => dsimp only; (repeat' split) <;> simp
  all_goals (repeat' split) <;> simp
@[simp] theorem State.trendAdd_stamp (n kind : Nat) (v : Word32) (s : State) : (State.trendAdd n kind v s).stamp = s.stamp := by
  unfold State.trendAdd; simp
@[simp] theorem State.trendPurge_stamp (n : Nat) (s : State) : (State.trendPurge n s).stamp = s.stamp := by
  unfold State.trendPurge; simp
@[simp] theorem State.startTrends_stamp (s : State) : (State.startTrends s).stamp = s.stamp := by
  unfold State.startTrends; simp
@[simp] theorem State.replanIfMoved_stamp (old s : State) : (State.replanIfMoved old s).stamp = s.stamp := by
  unfold State.replanIfMoved; simp
@[simp] theorem State.afterStore_stamp (old : State) (o : Obj) (prop : Nat) (ts : List Tok) (s : State) :
    (State.afterStore old o prop ts s).stamp = s.stamp := by
  unfold State.afterStore; (repeat' split) <;> simp
@[simp] theorem State.storeWrite_stamp (id prop : Nat) (o : Obj) (ts : List Tok) (s : State) :
    (State.storeWrite id prop o ts s).1.stamp = s.stamp := by
  have h := State.storeProp_stamp id prop (ts.flatMap Tok.bytes) s
  unfold State.storeWrite
  split <;> simp_all
@[simp] theorem State.writeObj_stamp (id prop : Nat) (idx : Option Nat) (slot : Nat) (o : Obj) (bs : List Byte) (s : State) :
    (State.writeObj id prop idx slot o bs s).1.stamp = s.stamp := by
  unfold State.writeObj; dsimp only; (repeat' split) <;> simp
@[simp] theorem State.scheduleWrite_stamp (n : Nat) (t : Tok) (s : State) : (State.scheduleWrite n t s).stamp = s.stamp := by
  unfold State.scheduleWrite
  exact State.each_stamp _ _ _ (fun r u => by split <;> simp)
@[simp] theorem State.scheduleRun_stamp (all : Bool) (s : State) : (State.scheduleRun all s).stamp = s.stamp := by
  unfold State.scheduleRun; simp
@[simp] theorem State.writeProp_stamp (id prop : Nat) (idx : Option Nat) (slot : Nat) (bs : List Byte) (s : State) :
    (State.writeProp id prop idx slot bs s).1.stamp = s.stamp := by
  unfold State.writeProp; split
  · rfl
  · rename_i o _
    have h := State.writeObj_stamp (s.ident id) prop idx (if slot = 0 then 16 else slot) o bs s
    split
    · rfl
    · split
      · dsimp only; split <;> simp_all
      · exact h
@[simp] theorem State.setTime_stamp (source : Nat) (utc16 t16 : Int) (s : State) : (State.setTime source utc16 t16 s).stamp = s.stamp := by
  unfold State.setTime; simp

/-! ### The building bus -/

@[simp] theorem State.port_stamp (p : Nat) (f : Port → Port) (s : State) : (State.port p f s).stamp = s.stamp := by rfl
@[simp] theorem State.queueFrame_stamp (p : Nat) (f : TxFrame) (s : State) : (State.queueFrame p f s).stamp = s.stamp := by
  unfold State.queueFrame; simp
@[simp] theorem State.fdRegister_stamp (s : State) : (State.fdRegister s).stamp = s.stamp := by
  unfold State.fdRegister; simp
@[simp] theorem State.greet_stamp (s : State) : (State.greet s).stamp = s.stamp := by
  unfold State.greet; simp
@[simp] theorem State.scRecord_stamp (code : Nat) (s : State) : (State.scRecord code s).stamp = s.stamp := by rfl
@[simp] theorem State.scFlush_stamp (s : State) : (State.scFlush s).stamp = s.stamp := by
  unfold State.scFlush; simp
@[simp] theorem State.scEnter_stamp (st : ScState) (code : Nat) (s : State) : (State.scEnter st code s).stamp = s.stamp := by
  unfold State.scEnter; simp
@[simp] theorem State.scCheck_stamp (s : State) : (State.scCheck s).stamp = s.stamp := by
  unfold State.scCheck; simp
@[simp] theorem State.respond_stamp (p peer : Nat) (what : TxKind) (data : List Nat) (s : State) :
    (State.respond p peer what data s).stamp = s.stamp := by
  unfold State.respond; simp
@[simp] theorem State.entry_stamp (i : Nat) (f : Partner → Partner) (s : State) : (State.entry i f s).stamp = s.stamp := by rfl
@[simp] theorem State.churn_stamp (n : Nat) (s : State) : (State.churn n s).stamp = s.stamp := by
  unfold State.churn; simp
@[simp] theorem State.partnerRecord_stamp (sev code i : Nat) (extra : List Byte) (s : State) :
    (State.partnerRecord sev code i extra s).stamp = s.stamp := by rfl
@[simp] theorem State.newPartner_stamp (e : Partner) (s : State) : (State.newPartner e s).stamp = s.stamp := by
  unfold State.newPartner; (repeat' split) <;> simp
@[simp] theorem State.dropPartner_stamp (i : Nat) (s : State) : (State.dropPartner i s).stamp = s.stamp := by rfl
@[simp] theorem State.whoIsTo_stamp (i : Nat) (s : State) : (State.whoIsTo i s).stamp = s.stamp := by
  unfold State.whoIsTo; simp
@[simp] theorem State.bindsReturn_stamp (i : Nat) (s : State) : (State.bindsReturn i s).stamp = s.stamp := by rfl
@[simp] theorem State.heard_stamp (i : Nat) (s : State) : (State.heard i s).stamp = s.stamp := by
  unfold State.heard; simp
@[simp] theorem State.dropProvisional_stamp (p addr : Nat) (s : State) : (State.dropProvisional p addr s).stamp = s.stamp := by
  unfold State.dropProvisional; split <;> simp
@[simp] theorem State.iAmKnown_stamp (i p addr net : Nat) (s : State) : (State.iAmKnown i p addr net s).stamp = s.stamp := by
  unfold State.iAmKnown; simp
@[simp] theorem State.iAm_stamp (p addr inst net : Nat) (s : State) : (State.iAm p addr inst net s).stamp = s.stamp := by
  unfold State.iAm; (repeat' split) <;> simp
@[simp] theorem State.rxTake_stamp (p : Nat) (s : State) : (State.rxTake p s).stamp = s.stamp := by rfl
@[simp] theorem State.fallSilent_stamp (i : Nat) (s : State) : (State.fallSilent i s).stamp = s.stamp := by
  unfold State.fallSilent; simp
@[simp] theorem State.whoIsAll_stamp (s : State) : (State.whoIsAll s).stamp = s.stamp := by
  unfold State.whoIsAll; simp
@[simp] theorem State.savePartners_stamp (s : State) : (State.savePartners s).stamp = s.stamp := by
  unfold State.savePartners; simp
@[simp] theorem State.restorePartners_stamp (s : State) : (State.restorePartners s).stamp = s.stamp := by rfl
@[simp] theorem State.bind_stamp (b : Nat) (f : Bind → Bind) (s : State) : (State.bind b f s).stamp = s.stamp := by rfl
@[simp] theorem State.request_stamp (cls : Nat) (o : Outstanding) (s : State) : (State.request cls o s).stamp = s.stamp := by
  unfold State.request; simp
@[simp] theorem State.repeatRequest_stamp (o : Outstanding) (s : State) : (State.repeatRequest o s).stamp = s.stamp := by
  unfold State.repeatRequest; simp
@[simp] theorem State.bindValue_stamp (b : Nat) (at_ : Stamp) (v : Option Word32) (fault : Bool) (s : State) :
    (State.bindValue b at_ v fault s).stamp = s.stamp := by
  unfold State.bindValue; simp
@[simp] theorem State.closeRequest_stamp (id : Nat) (s : State) : (State.closeRequest id s).stamp = s.stamp := by rfl
@[simp] theorem State.notifyFailed_stamp (cls missed : Nat) (s : State) : (State.notifyFailed cls missed s).stamp = s.stamp := by
  unfold State.notifyFailed; simp
@[simp] theorem State.requestFails_stamp (o : Outstanding) (s : State) : (State.requestFails o s).stamp = s.stamp := by
  unfold State.requestFails; split <;> simp
@[simp] theorem State.requestDone_stamp (at_ : Stamp) (o : Outstanding) (vs : List (List Byte × Bool)) (s : State) :
    (State.requestDone at_ o vs s).stamp = s.stamp := by
  unfold State.requestDone; split <;> simp
@[simp] theorem State.answerApdu_stamp (at_ : Stamp) (x : BusApdu) (s : State) : (State.answerApdu at_ x s).stamp = s.stamp := by
  unfold State.answerApdu; (repeat' split) <;> simp
@[simp] theorem State.learn_stamp (src side : Nat) (s : State) : (State.learn src side s).stamp = s.stamp := by
  unfold State.learn; simp
@[simp] theorem State.forward_stamp (dst side : Nat) (s : State) : (State.forward dst side s).stamp = s.stamp := by
  unfold State.forward; simp
@[simp] theorem State.arpLearn_stamp (p ip mac : Nat) (s : State) : (State.arpLearn p ip mac s).stamp = s.stamp := by
  unfold State.arpLearn; simp
@[simp] theorem State.recordNode_stamp (f : BusFrame) (s : State) : (State.recordNode f s).stamp = s.stamp := by
  unfold State.recordNode; split <;> simp
@[simp] theorem State.discover_stamp (f : BusFrame) (s : State) : (State.discover f s).stamp = s.stamp := by
  unfold State.discover; dsimp only; (repeat' split) <;> simp
@[simp] theorem State.dupMac_stamp (p : Nat) (s : State) : (State.dupMac p s).stamp = s.stamp := by rfl
@[simp] theorem State.hearBeat_stamp (f : BusFrame) (s : State) : (State.hearBeat f s).stamp = s.stamp := by
  unfold State.hearBeat; simp
@[simp] theorem State.segments_stamp (f : BusFrame) (s : State) : (State.segments f s).stamp = s.stamp := by
  unfold State.segments; simp
@[simp] theorem State.accept_stamp (f : BusFrame) (s0 : State) : (State.accept f s0).stamp = s0.stamp := by
  unfold State.accept; dsimp only; split
  · simp
  · split <;> split <;> simp
@[simp] theorem State.poll_stamp (b i : Nat) (s0 : State) : (State.poll b i s0).stamp = s0.stamp := by
  unfold State.poll; dsimp only; split <;> simp
@[simp] theorem State.sendWrite_stamp (b i : Nat) (v : Word32) (s : State) : (State.sendWrite b i v s).stamp = s.stamp := by
  unfold State.sendWrite; dsimp only; split <;> simp
@[simp] theorem State.offerWrites_stamp (n : Option Nat) (s : State) : (State.offerWrites n s).stamp = s.stamp := by
  unfold State.offerWrites; simp
@[simp] theorem State.roomMade_stamp (p : Nat) (s : State) : (State.roomMade p s).stamp = s.stamp := by
  unfold State.roomMade; (repeat' split) <;> simp
@[simp] theorem State.frameSent_stamp (p side : Nat) (f : TxFrame) (s : State) : (State.frameSent p side f s).stamp = s.stamp := by
  unfold State.frameSent; simp
@[simp] theorem State.scConnected_stamp (st : ScState) (code : Nat) (s : State) : (State.scConnected st code s).stamp = s.stamp := by
  unfold State.scConnected; simp
@[simp] theorem State.addRoutes_stamp (p router : Nat) (nets : List Nat) (s : State) :
    (State.addRoutes p router nets s).stamp = s.stamp := by
  unfold State.addRoutes; simp
@[simp] theorem State.markRoutes_stamp (p router : Nat) (nets : List Nat) (busy : Bool) (s : State) :
    (State.markRoutes p router nets busy s).stamp = s.stamp := by rfl
@[simp] theorem State.routing_stamp (p peer : Nat) (data : List Nat) (s : State) : (State.routing p peer data s).stamp = s.stamp := by
  unfold State.routing; simp
@[simp] theorem State.passOn_stamp (p peer net len q router : Nat) (s : State) :
    (State.passOn p peer net len q router s).stamp = s.stamp := by
  unfold State.passOn; simp
@[simp] theorem State.netMessage_stamp (p peer : Nat) (m : NetMsg) (s : State) : (State.netMessage p peer m s).stamp = s.stamp := by
  unfold State.netMessage; (repeat' split) <;> simp
@[simp] theorem State.bindRemoved_stamp (old : State) (b : Nat) (s : State) : (State.bindRemoved old b s).stamp = s.stamp := by
  unfold State.bindRemoved; split <;> simp
@[simp] theorem State.wantPartner_stamp (b : Nat) (s : State) : (State.wantPartner b s).stamp = s.stamp := by
  unfold State.wantPartner; simp
@[simp] theorem State.busCommit_stamp (old : State) (s : State) : (State.busCommit old s).stamp = s.stamp := by
  unfold State.busCommit; simp
@[simp] theorem State.busStops_stamp (s : State) : (State.busStops s).stamp = s.stamp := by rfl

/-! ### Standalone services -/

@[simp] theorem State.respondError_stamp (p peer : Nat) (e : BErr) (s : State) : (State.respondError p peer e s).stamp = s.stamp := by
  unfold State.respondError; simp
@[simp] theorem State.answerRead_stamp (p peer : Nat) (multiple : Bool) (items : List PropItem) (s : State) :
    (State.answerRead p peer multiple items s).stamp = s.stamp := by
  unfold State.answerRead; dsimp only; (repeat' split) <;> simp
/-- A property written leaves the head as it is, whatever it is answered. -/
theorem State.writeProp_stamp_of {id prop slot : Nat} {idx : Option Nat} {bs : List Byte} {s t : State} {x : WrRes}
    (h : s.writeProp id prop idx slot bs = (t, x)) : t.stamp = s.stamp := by
  rw [← State.writeProp_stamp id prop idx slot bs s, h]

@[simp] theorem State.writeItems_stamp (xs : List PropItem) (s : State) : (s.writeItems xs).1.stamp = s.stamp := by
  induction xs generalizing s with
  | nil => rfl
  | cons it rest ih =>
    rw [State.writeItems]
    split
    rename_i t r h
    have ht : t.stamp = s.stamp := by rw [← State.writeProp_stamp it.object it.prop it.index it.priority it.value s, h]
    split
    · exact ht
    · rw [ih, ht]

@[simp] theorem State.answerWrite_stamp (p peer : Nat) (multiple : Bool) (items : List PropItem) (s : State) :
    (State.answerWrite p peer multiple items s).stamp = s.stamp := by
  have h := State.writeItems_stamp items s
  unfold State.answerWrite
  split <;> simp_all
@[simp] theorem State.subscribe_stamp (p peer process object : Nat) (confirmed : Bool) (lifetime : Option Nat) (cancel : Bool)
    (s : State) : (State.subscribe p peer process object confirmed lifetime cancel s).stamp = s.stamp := by
  unfold State.subscribe; (repeat' split) <;> simp
@[simp] theorem State.covNotify_stamp (x : CovSub) (v : Word32) (s : State) : (State.covNotify x v s).stamp = s.stamp := by
  unfold State.covNotify; simp
@[simp] theorem State.covSend_stamp (s : State) : (State.covSend s).stamp = s.stamp := by
  unfold State.covSend; split
  · rfl
  · exact (State.each_stamp _ _ _ (fun x u => by split <;> simp)).trans (by simp)
@[simp] theorem State.iHave_stamp (p object : Nat) (s : State) : (State.iHave p object s).stamp = s.stamp := by
  unfold State.iHave; simp
@[simp] theorem State.answerWho_stamp (p : Nat) (w : WhoWhat) (s : State) : (State.answerWho p w s).stamp = s.stamp := by
  unfold State.answerWho; (repeat' split) <;> simp
@[simp] theorem State.transition_stamp (id : Nat) (to_ : EvState) (s : State) : (State.transition id to_ s).stamp = s.stamp := by rfl
@[simp] theorem State.evalObject_stamp (id : Nat) (s : State) : (State.evalObject id s).stamp = s.stamp := by
  unfold State.evalObject; dsimp only; (repeat' split) <;> simp
@[simp] theorem State.bufferReady_stamp (n : Nat) (s : State) : (State.bufferReady n s).stamp = s.stamp := by
  unfold State.bufferReady; simp
@[simp] theorem State.eventEval_stamp (s : State) : (State.eventEval s).stamp = s.stamp := by
  unfold State.eventEval; simp
@[simp] theorem State.acknowledge_stamp (p peer object kind : Nat) (isSeq : Bool) (time : Nat) (s : State) :
    (State.acknowledge p peer object kind isSeq time s).stamp = s.stamp := by
  unfold State.acknowledge; simp
@[simp] theorem State.trendStep_stamp (n : Nat) (s : State) : (State.trendStep n s).stamp = s.stamp := by
  unfold State.trendStep; dsimp only; (repeat' split) <;> simp
@[simp] theorem State.trendCapture_stamp (s : State) : (State.trendCapture s).stamp = s.stamp := by
  unfold State.trendCapture; simp

/-! ### The safe-climate policy -/

@[simp] theorem State.policyZone_stamp (z : Nat) (s : State) : (State.policyZone z s).stamp = s.stamp := by
  unfold State.policyZone; simp
@[simp] theorem State.policyEval_stamp (s : State) : (State.policyEval s).stamp = s.stamp := by
  unfold State.policyEval; simp
@[simp] theorem State.policyCommit_stamp (old : State) (s : State) : (State.policyCommit old s).stamp = s.stamp := by rfl

/-! ### Occupancy -/

@[simp] theorem State.occZone_stamp (z : Nat) (s : State) : (State.occZone z s).stamp = s.stamp := by
  unfold State.occZone; simp
@[simp] theorem State.learnZone_stamp (cls i z : Nat) (s : State) : (State.learnZone cls i z s).stamp = s.stamp := by
  unfold State.learnZone; dsimp only; split <;> simp
@[simp] theorem State.saveProfile_stamp (z : Nat) (s : State) : (State.saveProfile z s).stamp = s.stamp := by rfl
@[simp] theorem State.loadProfiles_stamp (s : State) : (State.loadProfiles s).stamp = s.stamp := by rfl
@[simp] theorem State.clearProfile_stamp (cause z : Nat) (s : State) : (State.clearProfile cause z s).stamp = s.stamp := by
  unfold State.clearProfile; simp
@[simp] theorem State.occCommit_stamp (old : State) (s : State) : (State.occCommit old s).stamp = s.stamp := by
  unfold State.occCommit; simp

/-! ### The waypoint planner -/

@[simp] theorem State.planTake_stamp (s : State) : (State.planTake s).stamp = s.stamp := by
  unfold State.planTake; simp
@[simp] theorem State.sndFitEnds_stamp (z : Nat) (t : State) : (State.sndFitEnds z t).stamp = t.stamp := by
  unfold State.sndFitEnds; simp
@[simp] theorem State.zoneNonfinite_stamp (seq z : Nat) (s : State) : (State.zoneNonfinite seq z s).stamp = s.stamp := by rfl
@[simp] theorem State.forecastEnds_stamp (s : State) : (State.forecastEnds s).stamp = s.stamp := by
  unfold State.forecastEnds; split <;> simp
@[simp] theorem State.planCommit_stamp (old : State) (s : State) : (State.planCommit old s).stamp = s.stamp := by
  unfold State.planCommit; simp

/-! ### Configuration sets -/

@[simp] theorem State.cfgSet_stamp (n : Nat) (f : CfgSet → CfgSet) (s : State) : (State.cfgSet n f s).stamp = s.stamp := by
  unfold State.cfgSet; split <;> simp
@[simp] theorem State.setIncomplete_stamp (n : Nat) (s : State) : (State.setIncomplete n s).stamp = s.stamp := by
  unfold State.setIncomplete; simp
@[simp] theorem State.endStaging_stamp (keep : Option Nat) (s : State) : (State.endStaging keep s).stamp = s.stamp := by
  unfold State.endStaging; simp
/-- A body that leaves the head alone does so behind a commit too (R422). -/
@[simp] theorem whileFree_stamp {cls opcode : Nat} {body : Req → State → State × Option Resp} {r : Req} {s : State}
    (h : ∀ r s, (body r s).1.stamp = s.stamp) : (whileFree cls opcode body r s).1.stamp = s.stamp := by
  unfold whileFree; split
  · simp
  · exact h r s

@[simp] theorem State.cfgBegin_stamp (n gen : Nat) (s : State) : (State.cfgBegin n gen s).1.stamp = s.stamp := by
  unfold State.cfgBegin; split
  · simp
  · split <;> simp
@[simp] theorem State.cfgWrite_stamp (n off : Nat) (data : List Byte) (s : State) : (State.cfgWrite n off data s).1.stamp = s.stamp := by
  unfold State.cfgWrite; (repeat' split) <;> simp
@[simp] theorem State.commitRefused_stamp (n : Nat) (st : Status) (s : State) : (State.commitRefused n st s).1.stamp = s.stamp := by rfl
@[simp] theorem State.commitSet_stamp (n gen size crc : Nat) (waiter : Option (Nat × Nat)) (inst : Option Nat) (s : State) :
    (State.commitSet n gen size crc waiter inst s).stamp = s.stamp := by
  unfold State.commitSet; simp
@[simp] theorem State.cfgCommit_stamp (n size crc : Nat) (waiter : Nat × Nat) (s : State) :
    (State.cfgCommit n size crc waiter s).1.stamp = s.stamp := by
  unfold State.cfgCommit; dsimp only; (repeat' split) <;> simp
@[simp] theorem State.cfgReceive_stamp (gen : Nat) (image : List Byte) (inst : Option Nat) (s : State) :
    (State.cfgReceive gen image inst s).stamp = s.stamp := by
  unfold State.cfgReceive; split <;> simp
@[simp] theorem State.classSets_stamp (s : State) : (State.classSets s).stamp = s.stamp := by
  unfold State.classSets; simp
@[simp] theorem State.configSelection_stamp (s : State) : (State.configSelection s).stamp = s.stamp := by
  unfold State.configSelection; dsimp only; (repeat' split) <;> simp
@[simp] theorem State.cfgDown_stamp (s : State) : (State.cfgDown s).stamp = s.stamp := by
  unfold State.cfgDown; simp

/-! ### The mirrored pair -/

@[simp] theorem State.roleRecord_stamp (cause : Nat) (s : State) : (State.roleRecord cause s).stamp = s.stamp := by rfl
@[simp] theorem State.peerRecord_stamp (s : State) : (State.peerRecord s).stamp = s.stamp := by
  unfold State.peerRecord; simp
@[simp] theorem State.strapRecord_stamp (s : State) : (State.strapRecord s).stamp = s.stamp := by
  unfold State.strapRecord; split <;> simp
@[simp] theorem State.releaseAnswers_stamp (s : State) : (State.releaseAnswers s).stamp = s.stamp := by
  unfold State.releaseAnswers; simp
@[simp] theorem State.abandonHandover_stamp (s : State) : (State.abandonHandover s).stamp = s.stamp := by
  unfold State.abandonHandover; split <;> simp
@[simp] theorem State.sendBeats_stamp (s : State) : (State.sendBeats s).stamp = s.stamp := by
  unfold State.sendBeats; simp
@[simp] theorem State.pairFrame_stamp (waiting : Nat) (s : State) : (State.pairFrame waiting s).stamp = s.stamp := by
  unfold State.pairFrame; simp
@[simp] theorem State.measureD_stamp (f : MirrorFrame) (s : State) : (State.measureD f s).stamp = s.stamp := by
  unfold State.measureD; split <;> simp
@[simp] theorem State.takeZones_stamp (f : MirrorFrame) (s : State) : (State.takeZones f s).stamp = s.stamp := by
  unfold State.takeZones; split <;> simp
@[simp] theorem State.takeLoops_stamp (f : MirrorFrame) (s : State) : (State.takeLoops f s).stamp = s.stamp := by
  unfold State.takeLoops; split <;> simp
@[simp] theorem State.takeOps_stamp (f : MirrorFrame) (s : State) : (State.takeOps f s).stamp = s.stamp := by
  unfold State.takeOps
  exact State.each_stamp _ _ _ (fun op t => by split <;> simp)
@[simp] theorem State.takeGuards_stamp (f : MirrorFrame) (s : State) : (State.takeGuards f s).stamp = s.stamp := by
  unfold State.takeGuards; split <;> simp
@[simp] theorem State.takeOutputs_stamp (f : MirrorFrame) (s : State) : (State.takeOutputs f s).stamp = s.stamp := by
  unfold State.takeOutputs; split
  · exact (State.each_stamp _ _ _ (fun n t => by simp)).trans ((State.each_stamp _ _ _ (fun n t => by simp)).trans (by simp))
  · rfl
@[simp] theorem State.takeReads_stamp (f : MirrorFrame) (s : State) : (State.takeReads f s).stamp = s.stamp := by
  unfold State.takeReads
  exact State.each_stamp _ _ _ (fun r t => by simp)
@[simp] theorem State.takePlans_stamp (f : MirrorFrame) (s : State) : (State.takePlans f s).stamp = s.stamp := by
  unfold State.takePlans; split <;> simp
@[simp] theorem State.takeServices_stamp (f : MirrorFrame) (s : State) : (State.takeServices f s).stamp = s.stamp := by
  unfold State.takeServices; split <;> simp
@[simp] theorem State.takeTrends_stamp (f : MirrorFrame) (s : State) : (State.takeTrends f s).stamp = s.stamp := by
  unfold State.takeTrends; split <;> simp
@[simp] theorem State.takePartners_stamp (f : MirrorFrame) (s : State) : (State.takePartners f s).stamp = s.stamp := by
  unfold State.takePartners; split <;> simp
@[simp] theorem State.takeBulk_stamp (f : MirrorFrame) (s : State) : (State.takeBulk f s).stamp = s.stamp := by
  unfold State.takeBulk; (repeat' split) <;> simp
@[simp] theorem State.takeRecords_stamp (f : MirrorFrame) (s : State) : (State.takeRecords f s).stamp = s.stamp := by
  unfold State.takeRecords; simp
@[simp] theorem State.takeHeader_stamp (f : MirrorFrame) (s : State) : (State.takeHeader f s).stamp = s.stamp := by
  unfold State.takeHeader; simp
@[simp] theorem State.keepsCurrent_stamp (old : Option PeerHeader) (f : MirrorFrame) (s : State) :
    (State.keepsCurrent old f s).stamp = s.stamp := by rfl
@[simp] theorem State.busQuiet_stamp (s : State) : (State.busQuiet s).stamp = s.stamp := by rfl
@[simp] theorem State.applyHold_stamp (s : State) : (State.applyHold s).stamp = s.stamp := by
  unfold State.applyHold; simp
@[simp] theorem State.endSoundings_stamp (s : State) : (State.endSoundings s).stamp = s.stamp := by
  unfold State.endSoundings; simp
@[simp] theorem State.enterElecting_stamp (s : State) : (State.enterElecting s).stamp = s.stamp := by rfl
@[simp] theorem State.leaveFloor_stamp (s : State) : (State.leaveFloor s).stamp = s.stamp := by
  unfold State.leaveFloor; simp
@[simp] theorem State.restoreZone_stamp (z : Nat) (s : State) : (State.restoreZone z s).stamp = s.stamp := by rfl
@[simp] theorem State.startStale_stamp (s : State) : (State.startStale s).stamp = s.stamp := by
  unfold State.startStale; simp
@[simp] theorem State.pushTail_stamp (s : State) : (State.pushTail s).stamp = s.stamp := by
  unfold State.pushTail; simp
@[simp] theorem State.takeShared_stamp (s : State) : (State.takeShared s).stamp = s.stamp := by
  unfold State.takeShared; simp
@[simp] theorem State.pairServicesRise_stamp (s : State) : (State.pairServicesRise s).stamp = s.stamp := by
  unfold State.pairServicesRise; simp
@[simp] theorem State.withdrawnTurn_stamp (s : State) : (State.withdrawnTurn s).stamp = s.stamp := by
  unfold State.withdrawnTurn; simp
@[simp] theorem State.postponeHandover_stamp (s : State) : (State.postponeHandover s).stamp = s.stamp := by
  unfold State.postponeHandover; split <;> simp

/-! ### The Tiller -/

@[simp] theorem State.tlRecord_stamp (sev code : Nat) (payload : List Byte) (s : State) :
    (State.tlRecord sev code payload s).stamp = s.stamp := by rfl
@[simp] theorem State.tlDrop_stamp (s : State) : (State.tlDrop s).stamp = s.stamp := by rfl
@[simp] theorem State.tlPush_stamp (e : KeyEvent) (s : State) : (State.tlPush e s).stamp = s.stamp := by
  unfold State.tlPush; simp
@[simp] theorem State.tlOverflow_stamp (s : State) : (State.tlOverflow s).stamp = s.stamp := by
  unfold State.tlOverflow; simp
@[simp] theorem State.tlPost_stamp (code : Word32) (stamp : Stamp) (s : State) : (State.tlPost code stamp s).stamp = s.stamp := by
  unfold State.tlPost; split <;> simp
@[simp] theorem State.updKey_stamp (k : Nat) (f : Key → Key) (s : State) : (State.updKey k f s).stamp = s.stamp := by rfl
@[simp] theorem State.keyRelease_stamp (k : Nat) (s : State) : (State.keyRelease k s).stamp = s.stamp := by
  unfold State.keyRelease; simp
@[simp] theorem State.keyPress_stamp (k : Nat) (s : State) : (State.keyPress k s).stamp = s.stamp := by
  unfold State.keyPress; split <;> simp
@[simp] theorem State.ghostResolve_stamp (released : List Nat) (x0 : Stamp) (k : Nat) (s : State) :
    (State.ghostResolve released x0 k s).stamp = s.stamp := by
  unfold State.ghostResolve; simp
@[simp] theorem State.scanKeys_stamp (ks closed : List Nat) (at_ : Nat → Stamp) (s : State) :
    (State.scanKeys ks closed at_ s).stamp = s.stamp := by
  unfold State.scanKeys; simp
@[simp] theorem State.scanStarts_stamp (s : State) : (State.scanStarts s).stamp = s.stamp := by rfl
@[simp] theorem State.encoderSample_stamp (n ab : Nat) (s : State) : (State.encoderSample n ab s).stamp = s.stamp := by
  unfold State.encoderSample; simp
@[simp] theorem State.tillerCommit_stamp (s : State) : (State.tillerCommit s).stamp = s.stamp := by rfl

/-! ### A commit takes effect -/

@[simp] theorem State.commitSoundings_stamp (old : State) (ds : List (Nat × Nat)) (s : State) :
    (State.commitSoundings old ds s).stamp = s.stamp := by
  unfold State.commitSoundings; simp
@[simp] theorem State.clearBlock_stamp (z : Nat) (s : State) : (State.clearBlock z s).stamp = s.stamp := by
  unfold State.clearBlock; simp
@[simp] theorem State.zoneGoes_stamp (z : Nat) (s : State) : (State.zoneGoes z s).stamp = s.stamp := by
  unfold State.zoneGoes; simp
@[simp] theorem State.zoneComes_stamp (z : Nat) (s : State) : (State.zoneComes z s).stamp = s.stamp := by rfl
@[simp] theorem State.commitZone_stamp (old : State) (ds : List (Nat × Nat)) (z : Nat) (s : State) :
    (State.commitZone old ds z s).stamp = s.stamp := by
  unfold State.commitZone; dsimp only; split <;> simp
@[simp] theorem State.commitLoop_stamp (old : State) (n : Nat) (s : State) : (State.commitLoop old n s).stamp = s.stamp := by
  unfold State.commitLoop; simp
@[simp] theorem State.commitHelm_stamp (old : State) (ds : List (Nat × Nat)) (s : State) :
    (State.commitHelm old ds s).stamp = s.stamp := by
  unfold State.commitHelm; simp
@[simp] theorem State.commitAo_stamp (n : Nat) (s : State) : (State.commitAo n s).stamp = s.stamp := by
  unfold State.commitAo; simp
@[simp] theorem State.commitAgo_stamp (n : Nat) (s : State) : (State.commitAgo n s).stamp = s.stamp := by
  unfold State.commitAgo; simp
@[simp] theorem State.commitGroups_stamp (ds : List (Nat × Nat)) (all : Bool) (s : State) :
    (State.commitGroups ds all s).stamp = s.stamp := by rfl
@[simp] theorem State.takeSlot_stamp (n : Nat) (w : SlotWords) (s : State) : (State.takeSlot n w s).stamp = s.stamp := by
  unfold State.takeSlot; simp
@[simp] theorem State.commitSlots_stamp (s : State) : (State.commitSlots s).stamp = s.stamp := by
  unfold State.commitSlots; simp
@[simp] theorem State.commitObjects_stamp (old : State) (ds : List (Nat × Nat)) (start : Bool) (lost : Nat × Nat) (s : State) :
    (State.commitObjects old ds start lost s).stamp = s.stamp := by
  unfold State.commitObjects; simp
@[simp] theorem State.lowPower_stamp (what : Nat) (s : State) : (State.lowPower what s).stamp = s.stamp := by rfl
@[simp] theorem State.committedRecord_stamp (p : PendingCommit) (s : State) : (State.committedRecord p s).stamp = s.stamp := by rfl
theorem storeBody_stamp (opcode : Nat) (r : Req) (s : State) : (storeBody opcode r s).1.stamp = s.stamp := by
  unfold storeBody
  split <;> simp [opCfgInfo, opCfgBegin, opCfgWrite, opCfgCommit, opCfgRead, opClampRead, opSheafRead]

@[simp] theorem State.runHeld_stamp (s : State) : (State.runHeld s).stamp = s.stamp := by
  unfold State.runHeld
  refine (State.each_stamp _ _ _ fun i t => ?_).trans (by simp)
  have hb := storeBody_stamp i.opcode i.req t
  split
  · rfl
  · split <;> rename_i e <;> rw [e] at hb <;> simpa using hb

/-! ### Services, failures and resets -/

@[simp] theorem State.parkInterims_stamp (s : State) : (State.parkInterims s).stamp = s.stamp := by rfl
@[simp] theorem State.soundingsStop_stamp (s : State) : (State.soundingsStop s).stamp = s.stamp := by
  unfold State.soundingsStop; simp
@[simp] theorem State.dropWaiters_stamp (s : State) : (State.dropWaiters s).stamp = s.stamp := by rfl
@[simp] theorem State.postServer_stamp (fuel : Nat) (s : State) : (State.postServer fuel s).stamp = s.stamp := by
  induction fuel generalizing s with
  | zero => rfl
  | succ fuel ih => rw [State.postServer, ih]; simp

@[simp] theorem State.serverStart_stamp (s : State) : (State.serverStart s).stamp = s.stamp := by
  unfold State.serverStart; simp
@[simp] theorem State.firstServices_stamp (s : State) : (State.firstServices s).stamp = s.stamp := by
  unfold State.firstServices; simp
@[simp] theorem State.trialFails_stamp (isBin : Bool) (s : State) : (State.trialFails isBin s).stamp = s.stamp := by
  unfold State.trialFails; split <;> simp
@[simp] theorem State.activeRejected_stamp (s : State) : (State.activeRejected s).stamp = s.stamp := by
  unfold State.activeRejected; split <;> simp
@[simp] theorem State.imageStarts_stamp (s : State) : (State.imageStarts s).stamp = s.stamp := by
  unfold State.imageStarts; simp
@[simp] theorem State.hold_stamp (cause : Nat) (s : State) : (State.hold cause s).stamp = s.stamp := by rfl

/-! ### Supplies -/

@[simp] theorem State.firstMeasure_stamp (s : State) : (State.firstMeasure s).stamp = s.stamp := by
  unfold State.firstMeasure; simp
@[simp] theorem State.lastGasp_stamp (ready : Word32) (ops : Nat) (s : State) : (State.lastGasp ready ops s).stamp = s.stamp := by
  unfold State.lastGasp; simp

/-! ### Sensors, scrub and self-tests -/

@[simp] theorem State.railSample_stamp (i mv : Nat) (s : State) : (State.railSample i mv s).stamp = s.stamp := by
  unfold State.railSample; simp
@[simp] theorem State.dieSample_stamp (i : Nat) (c : Int) (s : State) : (State.dieSample i c s).stamp = s.stamp := by
  unfold State.dieSample; simp
@[simp] theorem State.vbatSample_stamp (mv : Nat) (s : State) : (State.vbatSample mv s).stamp = s.stamp := by
  unfold State.vbatSample; simp
@[simp] theorem State.vbatTaken_stamp (vbat : Option Nat) (s : State) : (State.vbatTaken vbat s).stamp = s.stamp := by
  unfold State.vbatTaken; split <;> simp
@[simp] theorem State.dropTests_stamp (s : State) : (State.dropTests s).stamp = s.stamp := by
  unfold State.dropTests; split <;> simp
@[simp] theorem State.restartRecord_stamp (cause : Nat) (kept : Bool) (s : State) :
    (State.restartRecord cause kept s).stamp = s.stamp := by rfl
@[simp] theorem State.dropHostSlot_stamp (n : Nat) (s : State) : (State.dropHostSlot n s).stamp = s.stamp := by rfl
@[simp] theorem State.testDrives_stamp (c : Nat) (on : Bool) (s : State) : (State.testDrives c on s).stamp = s.stamp := by
  unfold State.testDrives; simp
@[simp] theorem State.testBegins_stamp (test arg : Nat) (s : State) : (State.testBegins test arg s).stamp = s.stamp := by
  unfold State.testBegins; simp
@[simp] theorem State.testTurnBegins_stamp (s : State) : (State.testTurnBegins s).stamp = s.stamp := by
  unfold State.testTurnBegins; split <;> simp
@[simp] theorem State.testPulses_stamp (test : Nat) (s : State) : (State.testPulses test s).stamp = s.stamp := by
  unfold State.testPulses; split <;> simp
@[simp] theorem selftestBody_stamp (r : Req) (s : State) : (selftestBody r s).1.stamp = s.stamp := by
  unfold selftestBody; dsimp only; (repeat' split) <;> simp
@[simp] theorem State.testDeferred_stamp (i : Interim) (s : State) : (State.testDeferred i s).stamp = s.stamp := by
  unfold State.testDeferred; simp
@[simp] theorem State.testEnds_stamp (test outcome : Nat) (detail : List Byte) (s : State) :
    (State.testEnds test outcome detail s).stamp = s.stamp := by
  unfold State.testEnds; simp
@[simp] theorem State.guardEndsTest_stamp (s : State) : (State.guardEndsTest s).stamp = s.stamp := by
  unfold State.guardEndsTest; split <;> simp

/-! ### Event slots and the turn boundary -/

@[simp] theorem State.signalEntry_stamp (n arg : Nat) (s : State) : (State.signalEntry n arg s).stamp = s.stamp := by
  unfold State.signalEntry; simp
@[simp] theorem State.slotLate_stamp (n : Nat) (w : SlotWords) (s : State) : (State.slotLate n w s).stamp = s.stamp := by
  unfold State.slotLate; simp
@[simp] theorem State.afterApply_stamp (s : State) : (State.afterApply s).stamp = s.stamp := by
  unfold State.afterApply; simp
@[simp] theorem State.measureDue_stamp (s : State) : (State.measureDue s).stamp = s.stamp := by
  unfold State.measureDue; simp
@[simp] theorem State.markBegun_stamp (n : Nat) (s : State) : (State.markBegun n s).stamp = s.stamp := by rfl
@[simp] theorem State.soundDeferred_stamp (n : Nat) (i : Interim) (s : State) : (State.soundDeferred n i s).stamp = s.stamp := by
  unfold State.soundDeferred; split
  · rename_i p _
    have h := State.sndTake_stamp i.target p (s.markBegun n)
    split
    · rfl
    · split <;> simp_all
  · rfl
@[simp] theorem State.forceDeferred_stamp (kind : Nat) (i : Interim) (s : State) : (State.forceDeferred kind i s).stamp = s.stamp := by
  unfold State.forceDeferred; simp
@[simp] theorem State.deferredStart_stamp (n : Nat) (i : Interim) (s : State) : (State.deferredStart n i s).stamp = s.stamp := by
  unfold State.deferredStart; (repeat' split) <;> simp

/-! ### Updates and resets by request -/

@[simp] theorem State.slotTo_stamp (i : Nat) (x : SlotState) (version : Nat) (s : State) :
    (State.slotTo i x version s).stamp = s.stamp := by rfl

/-! ### Sessions and security -/

@[simp] theorem openBody_stamp (r : Req) (s : State) : (openBody r s).1.stamp = s.stamp := by
  unfold openBody; split <;> simp
@[simp] theorem State.refuseAuth_stamp (ip : Nat) (s : State) : (State.refuseAuth ip s).stamp = s.stamp := by rfl
@[simp] theorem State.proofWrong_stamp (n : Nat) (s : State) : (State.proofWrong n s).1.stamp = s.stamp := by
  unfold State.proofWrong; simp
@[simp] theorem State.proofRight_stamp (n : Nat) (key : List Byte) (o : Opening) (s : State) :
    (State.proofRight n key o s).1.stamp = s.stamp := by
  unfold State.proofRight; simp
@[simp] theorem proveBody_stamp (r : Req) (s : State) : (proveBody r s).1.stamp = s.stamp := by
  unfold proveBody; (repeat' split) <;> simp
@[simp] theorem eventReadBody_stamp (r : Req) (s : State) : (eventReadBody r s).1.stamp = s.stamp := by rfl

/-! ### The mailbox -/

@[simp] theorem State.closeUdp_stamp (n : Nat) (s : State) : (State.closeUdp n s).stamp = s.stamp := by
  unfold State.closeUdp; simp
@[simp] theorem State.protocolError_stamp (off value : Nat) (s : State) : (State.protocolError off value s).stamp = s.stamp := by rfl
@[simp] theorem State.writeReqProd_stamp (value : Nat) (s : State) : (State.writeReqProd value s).stamp = s.stamp := by
  unfold State.writeReqProd; simp
@[simp] theorem State.writeRspCons_stamp (value : Nat) (s : State) : (State.writeRspCons value s).stamp = s.stamp := by
  unfold State.writeRspCons; simp
@[simp] theorem State.writeEvtCons_stamp (value : Nat) (s : State) : (State.writeEvtCons value s).stamp = s.stamp := by
  unfold State.writeEvtCons; simp
@[simp] theorem State.writeIrqStatus_stamp (value : Nat) (s : State) : (State.writeIrqStatus value s).stamp = s.stamp := by rfl
@[simp] theorem State.writeSlots_stamp (addr : Nat) (bs : List Byte) (s : State) : (State.writeSlots addr bs s).stamp = s.stamp := by rfl
@[simp] theorem State.answerOutside_stamp (ip port : Nat) (bs : List Byte) (x : Resp) (s : State) :
    (State.answerOutside ip port bs x s).stamp = s.stamp := by rfl
@[simp] theorem State.addUdp_stamp (ip port : Nat) (o : Opening) (s : State) : (State.addUdp ip port o s).stamp = s.stamp := by rfl
@[simp] theorem State.openUdp_stamp (ip port : Nat) (payload : List Byte) (s : State) :
    (State.openUdp ip port payload s).1.stamp = s.stamp := by
  unfold State.openUdp; split
  · rfl
  · dsimp only; split
    · rfl
    · rename_i t ht
      have hc : t.stamp = s.stamp := by
        split at ht
        · cases ht; rfl
        · obtain ⟨n, -, rfl⟩ := Option.map_eq_some_iff.mp ht; simp
      simpa using hc
@[simp] theorem State.udpRepeat_stamp (u : UdpSession) (ip port : Nat) (bs : List Byte) (s : State) :
    (State.udpRepeat u ip port bs s).stamp = s.stamp := by
  unfold State.udpRepeat; (repeat' split) <;> simp

/-! ### The Modbus slave -/

@[simp] theorem State.mbPerform_stamp (x : MbItem) (s : State) : (State.mbPerform x s).stamp = s.stamp := by
  unfold State.mbPerform; split <;> simp

theorem State.imageVerified_stamp {images : Nat} {s t : State} (h : s.imageVerified images = some t) : t.stamp = s.stamp := by
  unfold State.imageVerified at h
  obtain ⟨b, -, rfl⟩ := Option.map_eq_some_iff.mp h
  simp

theorem State.flushLog_stamp (fuel : Nat) (s : State) : (State.flushLog fuel s).stamp = s.stamp := by
  induction fuel generalizing s with
  | zero => rfl
  | succ fuel ih => rw [State.flushLog, ih, State.writeLog_stamp]

/-! ### Functions that change READY -/

@[simp] theorem State.updateReady_stamp (sets clears : List Nat) (s : State) : (State.updateReady sets clears s).stamp = s.stamp := by
  unfold State.updateReady; simp
@[simp] theorem State.readyExact_stamp (w : Word32) (s : State) : (State.readyExact w s).stamp = s.stamp := by
  unfold State.readyExact; simp
@[simp] theorem State.lower_stamp (bits : List Nat) (s : State) : (State.lower bits s).stamp = s.stamp := by
  unfold State.lower; simp
@[simp] theorem State.recoverLog_stamp (s : State) : (State.recoverLog s).stamp = s.stamp := by
  unfold State.recoverLog; simp
@[simp] theorem State.unlock_stamp (s : State) : (State.unlock s).stamp = s.stamp := by
  unfold State.unlock; simp
@[simp] theorem State.enterDr_stamp (crit : Nat) (s : State) : (State.enterDr crit s).stamp = s.stamp := by
  unfold State.enterDr; simp
@[simp] theorem State.enterLocked_stamp (s : State) : (State.enterLocked s).stamp = s.stamp := by
  unfold State.enterLocked; simp
@[simp] theorem State.crossing_stamp (period ampFirst ampLast : Nat) (s : State) :
    (State.crossing period ampFirst ampLast s).stamp = s.stamp := by
  unfold State.crossing; dsimp only; (repeat' split) <;> simp
@[simp] theorem State.moveOffset_stamp (zero pairOff : Int) (s : State) : (State.moveOffset zero pairOff s).stamp = s.stamp := by
  unfold State.moveOffset; dsimp only; (repeat' split) <;> simp
@[simp] theorem State.relockBoundary_stamp (e : Int) (s : State) : (State.relockBoundary e s).stamp = s.stamp := by
  unfold State.relockBoundary; simp
@[simp] theorem State.merTurn_stamp (e : Int) (s : State) : (State.merTurn e s).stamp = s.stamp := by
  unfold State.merTurn; split <;> simp
@[simp] theorem State.merBoundary_stamp (e : Int) (s : State) : (State.merBoundary e s).stamp = s.stamp := by
  unfold State.merBoundary; simp
@[simp] theorem State.openAlmanac_stamp (s : State) : (State.openAlmanac s).stamp = s.stamp := by
  unfold State.openAlmanac; simp
@[simp] theorem State.closeAlmanac_stamp (s : State) : (State.closeAlmanac s).stamp = s.stamp := by
  unfold State.closeAlmanac; simp
@[simp] theorem State.crystalCheck_stamp (expected : Nat) (s : State) : (State.crystalCheck expected s).stamp = s.stamp := by
  unfold State.crystalCheck; simp
@[simp] theorem State.refreshWatchdog_stamp (s : State) : (State.refreshWatchdog s).stamp = s.stamp := by
  unfold State.refreshWatchdog; simp
@[simp] theorem State.watchdogExpires_stamp (s : State) : (State.watchdogExpires s).stamp = s.stamp := by
  unfold State.watchdogExpires; simp
@[simp] theorem State.helmRises_stamp (s : State) : (State.helmRises s).stamp = s.stamp := by
  unfold State.helmRises; simp
@[simp] theorem State.helmApply_stamp (late : Nat) (s : State) : (State.helmApply late s).stamp = s.stamp := by
  unfold State.helmApply; simp
@[simp] theorem State.fgRise_stamp (g : Nat) (s : State) : (State.fgRise g s).stamp = s.stamp := by
  unfold State.fgRise; simp
@[simp] theorem State.fgLost_stamp (g cause : Nat) (s : State) : (State.fgLost g cause s).stamp = s.stamp := by
  unfold State.fgLost; simp
@[simp] theorem State.downFrame_stamp (g seq : Nat) (start : Bool) (s : State) : (State.downFrame g seq start s).stamp = s.stamp := by
  unfold State.downFrame; simp
@[simp] theorem State.upFrame_stamp (g seq vfield : Nat) (currents : List Nat) (s : State) :
    (State.upFrame g seq vfield currents s).stamp = s.stamp := by
  unfold State.upFrame; simp
@[simp] theorem State.refreshPorts_stamp (s : State) : (State.refreshPorts s).stamp = s.stamp := by
  unfold State.refreshPorts; simp
@[simp] theorem State.planPublish_stamp (s : State) : (State.planPublish s).stamp = s.stamp := by
  unfold State.planPublish; simp
@[simp] theorem State.refreshMirror_stamp (s : State) : (State.refreshMirror s).stamp = s.stamp := by
  unfold State.refreshMirror; simp
@[simp] theorem State.takeBits_stamp (f : MirrorFrame) (s : State) : (State.takeBits f s).stamp = s.stamp := by
  unfold State.takeBits; simp
@[simp] theorem State.installFrame_stamp (f : MirrorFrame) (s : State) : (State.installFrame f s).stamp = s.stamp := by
  unfold State.installFrame; simp
@[simp] theorem State.mirrorFrame_stamp (f : MirrorFrame) (s : State) : (State.mirrorFrame f s).stamp = s.stamp := by
  unfold State.mirrorFrame; dsimp only; (repeat' split) <;> simp
@[simp] theorem State.becomeStandby_stamp (cause : Nat) (s : State) : (State.becomeStandby cause s).stamp = s.stamp := by
  unfold State.becomeStandby; simp
@[simp] theorem State.busTakes_stamp (s : State) : (State.busTakes s).stamp = s.stamp := by
  unfold State.busTakes; simp
@[simp] theorem State.becomeActive_stamp (cause : Nat) (s : State) : (State.becomeActive cause s).stamp = s.stamp := by
  unfold State.becomeActive; dsimp only; split
  · simp
  · rw [State.refreshMirror_stamp]; simp
@[simp] theorem State.handOver_stamp (s : State) : (State.handOver s).stamp = s.stamp := by
  unfold State.handOver; split <;> simp
@[simp] theorem State.pairTurn_stamp (s : State) : (State.pairTurn s).stamp = s.stamp := by
  unfold State.pairTurn; simp
@[simp] theorem State.commitReady_stamp (s : State) : (State.commitReady s).stamp = s.stamp := by
  unfold State.commitReady; simp
@[simp] theorem State.commitPair_stamp (old : State) (s : State) : (State.commitPair old s).stamp = s.stamp := by
  unfold State.commitPair; simp
@[simp] theorem State.refreshEconomy_stamp (s : State) : (State.refreshEconomy s).stamp = s.stamp := by
  unfold State.refreshEconomy; simp
@[simp] theorem State.effects_stamp (old : State) (start : Bool) (lost : Nat × Nat) (s : State) :
    (State.effects old start lost s).stamp = s.stamp := by
  unfold State.effects
  rw [State.commitPair_stamp, State.refreshEconomy_stamp, State.refreshPorts_stamp, State.commitReady_stamp]
  simp
@[simp] theorem State.cfgEffect_stamp (s : State) : (State.cfgEffect s).stamp = s.stamp := by
  unfold State.cfgEffect; split
  · rfl
  · dsimp only; split <;> simp
@[simp] theorem State.servicesDown_stamp (s : State) : (State.servicesDown s).stamp = s.stamp := by
  unfold State.servicesDown; simp
@[simp] theorem State.servicesBegin_stamp (s : State) : (State.servicesBegin s).stamp = s.stamp := by
  unfold State.servicesBegin; simp
@[simp] theorem State.servicesRise_stamp (s : State) : (State.servicesRise s).stamp = s.stamp := by
  unfold State.servicesRise; simp
@[simp] theorem State.serviceFailure_stamp (cause core : Nat) (s : State) : (State.serviceFailure cause core s).stamp = s.stamp := by
  unfold State.serviceFailure; simp
@[simp] theorem State.restartServices_stamp (reason : Nat) (s : State) : (State.restartServices reason s).stamp = s.stamp := by
  unfold State.restartServices; simp
@[simp] theorem State.startUp_stamp (cause : Nat) (s : State) : (State.startUp cause s).stamp = s.stamp := by
  unfold State.startUp; simp
@[simp] theorem State.supplyTo_stamp (x : SupplyState) (s : State) : (State.supplyTo x s).stamp = s.stamp := by
  unfold State.supplyTo; simp
@[simp] theorem State.collapse_stamp (s : State) : (State.collapse s).stamp = s.stamp := by
  unfold State.collapse; simp
@[simp] theorem State.enterSleep_stamp (s : State) : (State.enterSleep s).stamp = s.stamp := by
  unfold State.enterSleep; simp [State.flushLog_stamp]
@[simp] theorem State.railGates_stamp (rails : List Nat) (temp0 : Int) (s : State) : (State.railGates rails temp0 s).stamp = s.stamp := by
  unfold State.railGates; simp
@[simp] theorem State.senseAll_stamp (rails : List Nat) (temps : List Int) (vbat : Option Nat) (iin : Nat) (s : State) :
    (State.senseAll rails temps vbat iin s).stamp = s.stamp := by
  unfold State.senseAll; simp
@[simp] theorem State.binnacleRestart_stamp (kept : Bool) (s : State) : (State.binnacleRestart kept s).stamp = s.stamp := by
  unfold State.binnacleRestart; simp
@[simp] theorem State.sramLoss_stamp (region item : Nat) (s : State) : (State.sramLoss region item s).stamp = s.stamp := by
  unfold State.sramLoss; split <;> simp
@[simp] theorem State.floorApply_stamp (late : Nat) (s : State) : (State.floorApply late s).stamp = s.stamp := by
  unfold State.floorApply; simp
@[simp] theorem State.slotAction_stamp (n late waiting : Nat) (w : SlotWords) (s : State) :
    (State.slotAction n late waiting w s).stamp = s.stamp := by
  unfold State.slotAction; split <;> simp
@[simp] theorem State.slotFire_stamp (n late waiting : Nat) (s : State) : (State.slotFire n late waiting s).stamp = s.stamp := by
  unfold State.slotFire; simp
@[simp] theorem State.turnServices_stamp (s : State) : (State.turnServices s).stamp = s.stamp := by
  unfold State.turnServices; simp
@[simp] theorem State.turnCounts_stamp (s : State) : (State.turnCounts s).stamp = s.stamp := by
  unfold State.turnCounts; simp
@[simp] theorem State.swapService_stamp (i : Nat) (s : State) : (State.swapService i s).stamp = s.stamp := by
  unfold State.swapService; simp
@[simp] theorem State.swapBinnacle_stamp (i : Nat) (s : State) : (State.swapBinnacle i s).stamp = s.stamp := by
  unfold State.swapBinnacle; simp
@[simp] theorem State.resetServices_stamp (s : State) : (State.resetServices s).stamp = s.stamp := by
  unfold State.resetServices; simp
@[simp] theorem secWriteBody_stamp (r : Req) (s : State) : (secWriteBody r s).1.stamp = s.stamp := by
  unfold secWriteBody; dsimp only; split
  · simp
  · split <;> simp [State.saveNow_stamp_of ‹_›]

end Sys2Proof.Machine

/-! PROOFS. The stamp where MERIDIAN may be cleared: a function either leaves the stamp or leaves MERIDIAN clear (R19, R46). The mailbox
operations and the transports, which may reset the module, are of this kind. -/

namespace Sys2Proof.Machine

/-- Where the READY word of the head `h` has MERIDIAN set, the stamp `x` is `k`. -/
def Timely (k : Stamp) (h : Head) (x : Stamp) : Prop := readyBit h.2 Rdy.meridian = true → x = k

theorem Timely.refl (k : Stamp) (h : Head) : Timely k h k := fun _ => rfl

@[simp] theorem Timely.zero {k x : Stamp} {p : List Instr} : Timely k (p, 0#32) x := by simp [Timely]

/-- An update that does not set MERIDIAN raises it in no word (R33). -/
@[simp] theorem Timely.readyNext {k x : Stamp} {s : State} {sets clears : List Nat} (hs : Rdy.meridian ∉ sets) (h : Timely k s.head x) :
    Timely k (s.pending, readyNext s.ready sets clears) x := by
  intro hr
  refine h ?_
  by_contra h0
  exact hs (readyNext_rises _ _ _ _ hr (Bool.eq_false_of_not_eq_true h0)).1

@[simp] theorem Timely.and {k x : Stamp} {s : State} {w : Word32} (h : Timely k s.head x) : Timely k (s.pending, s.ready &&& w) x := by
  intro hr
  simp only [readyBit_and, Bool.and_eq_true] at hr
  exact h hr.1

@[simp] theorem Timely.ite_head {k x : Stamp} {c : Prop} [Decidable c] {g h : Head} :
    Timely k (if c then g else h) x ↔ if c then Timely k g x else Timely k h x := by split <;> rfl

@[simp] theorem Timely.ite_stamp {k x y : Stamp} {c : Prop} [Decidable c] {h : Head} :
    Timely k h (if c then x else y) ↔ if c then Timely k h x else Timely k h y := by split <;> rfl

/-- READY with further bits set, none of them MERIDIAN (R478). -/
theorem State.readyExact_or_timely {k x : Stamp} {bits : List Nat} {t u : State} (hb : Rdy.meridian ∉ bits) (h : Timely k t.head x) :
    Timely k (u.readyExact (t.ready ||| bitMask bits)).head x := by
  rw [State.readyExact_head]
  intro hr
  have ht : readyBit t.ready Rdy.meridian = true := by simpa [readyBit_or, readyBit_bitMask, hb] using hr
  exact h ht

section
variable {k x : Stamp} {s : State} (h : Timely k s.head x)
include h

@[simp] theorem State.lower_timely {bits : List Nat} : Timely k (State.lower bits s).head x := by
  unfold State.lower; simp [h]
@[simp] theorem State.refreshPorts_timely : Timely k (State.refreshPorts s).head x := by
  have hports : Rdy.meridian ∉ portBits.filter s.linkHolds := fun hm => absurd (List.mem_of_mem_filter hm) (by decide)
  unfold State.refreshPorts; simp [h, hports]
@[simp] theorem State.servicesDown_timely : Timely k (State.servicesDown s).head x := by
  unfold State.servicesDown; simp [h]
@[simp] theorem State.restartServices_timely {reason : Nat} : Timely k (State.restartServices reason s).head x := by
  unfold State.restartServices; simp [h]
@[simp] theorem State.swapService_timely {i : Nat} : Timely k (State.swapService i s).head x := by
  unfold State.swapService; simp [h]
@[simp] theorem State.resetServices_timely : Timely k (State.resetServices s).head x := by
  unfold State.resetServices; simp [h]
@[simp] theorem State.binnacleRestart_timely {kept : Bool} : Timely k (State.binnacleRestart kept s).head x := by
  unfold State.binnacleRestart
  refine State.readyExact_or_timely (by decide) ?_
  simp only [State.each_head, State.abortFn_head, State.readyExact_head, implies_true]
  exact Timely.and (by simp [h])
@[simp] theorem State.swapBinnacle_timely {i : Nat} : Timely k (State.swapBinnacle i s).head x := by
  unfold State.swapBinnacle; simp [h]
@[simp] theorem State.startUp_timely {cause : Nat} : Timely k (State.startUp cause s).head x := by
  unfold State.startUp; simp [h]
@[simp] theorem secWriteBody_timely {r : Req} : Timely k (secWriteBody r s).1.head x := by
  unfold secWriteBody; dsimp only; split
  · simp [h]
  · split <;> simp [State.saveNow_head_of ‹_›, h]

end

/-- A module reset leaves MERIDIAN clear (R19). -/
@[simp] theorem State.moduleReset_timely {k x : Stamp} {island : Bool} {s : State} : Timely k (State.moduleReset island s).head x := by
  unfold State.moduleReset; simp

@[simp] theorem State.powerOff_timely {k x : Stamp} {s : State} : Timely k (State.powerOff s).head x := by
  unfold State.powerOff; simp

@[simp] theorem State.resetModule_timely {k x : Stamp} {s : State} : Timely k (State.resetModule s).head x := by
  unfold State.resetModule; simp

/-- What follows the answer of RESET or UPDATE_SWAP leaves the stamp in time if the function it names does (R35, R486). -/
theorem State.postThen_timely {k : Stamp} {r : Req} {f : State → State} {s : State}
    (hf : ∀ t : State, Timely k t.head t.stamp → Timely k (f t).head (f t).stamp) (h : Timely k s.head s.stamp) :
    Timely k (s.postThen r f).1.head (s.postThen r f).1.stamp :=
  hf _ (by simp [h])

/-- An operation that leaves a stamp in time, whatever request it runs for. -/
def OpDef.Times (d : OpDef) : Prop :=
  ∀ (k : Stamp) (r : Req) (s : State), Timely k s.head s.stamp → Timely k (d.body r s).1.head (d.body r s).1.stamp

theorem OpDef.run_timely {k : Stamp} {d : OpDef} {r : Req} {s : State} (hd : d.Times) (h : Timely k s.head s.stamp) :
    Timely k (d.run r s).head (d.run r s).stamp := by
  have hb := hd k r (s.addFlight d r) (by simp [h])
  unfold OpDef.run
  split <;> rename_i e <;> rw [e] at hb
  · exact hb
  · simpa using hb

theorem serve_timely {k : Stamp} {d : OpDef} {r : Req} {s : State} (hd : d.Times) (h : Timely k s.head s.stamp) :
    Timely k (serve d r s).head (serve d r s).stamp := by
  unfold serve; split
  · exact h
  · split
    · simp [h]
    · exact OpDef.run_timely hd h

@[simp] theorem opLogRead_times : opLogRead.Times := fun k r s h => by simp [opLogRead, h]
@[simp] theorem opLogAck_times : opLogAck.Times := fun k r s h => by simp [opLogAck, h]
@[simp] theorem opConcordRead_times : opConcordRead.Times := fun k r s h => by simp [opConcordRead, h]
@[simp] theorem opSlotRead_times : opSlotRead.Times := fun k r s h => by simp [opSlotRead, h]
@[simp] theorem opSlotWrite_times : opSlotWrite.Times := fun k r s h => by simp [opSlotWrite, h]
@[simp] theorem opSheafRead_times : opSheafRead.Times := fun k r s h => by simp [opSheafRead, h]
@[simp] theorem opAlmanacRead_times : opAlmanacRead.Times := fun k r s h => by simp [opAlmanacRead, h]
@[simp] theorem opAlmanacWrite_times : opAlmanacWrite.Times := fun k r s h => by simp [opAlmanacWrite, h]
@[simp] theorem opAlmanacTrim_times : opAlmanacTrim.Times := fun k r s h => by simp [opAlmanacTrim, h]
@[simp] theorem opAlmanacAlarm_times : opAlmanacAlarm.Times := fun k r s h => by simp [opAlmanacAlarm, h]
@[simp] theorem opBackupRead_times : opBackupRead.Times := fun k r s h => by simp [opBackupRead, h]
@[simp] theorem opBackupWrite_times : opBackupWrite.Times := fun k r s h => by simp [opBackupWrite, h]
@[simp] theorem opAoForce_times : opAoForce.Times := fun k r s h => by simp [opAoForce, h]
@[simp] theorem opAgoForce_times : opAgoForce.Times := fun k r s h => by simp [opAgoForce, h]
@[simp] theorem opAoRead_times : opAoRead.Times := fun k r s h => by simp [opAoRead, h]
@[simp] theorem opAgoRead_times : opAgoRead.Times := fun k r s h => by simp [opAgoRead, h]
@[simp] theorem opZoneStatus_times : opZoneStatus.Times := fun k r s h => by simp [opZoneStatus, h]
@[simp] theorem opSignalRead_times : opSignalRead.Times := fun k r s h => by simp [opSignalRead, h]
@[simp] theorem opSignalWrite_times : opSignalWrite.Times := fun k r s h => by simp [opSignalWrite, h]
@[simp] theorem opHostInputWrite_times : opHostInputWrite.Times := fun k r s h => by simp [opHostInputWrite, h]
@[simp] theorem opHelmRead_times : opHelmRead.Times := fun k r s h => by dsimp only [opHelmRead]; split <;> simp [h]
@[simp] theorem opHelmWrite_times : opHelmWrite.Times := fun k r s h => by dsimp only [opHelmWrite]; (repeat' split) <;> simp [h]
@[simp] theorem opBankCopy_times : opBankCopy.Times := fun k r s h => by simp [opBankCopy, h]
@[simp] theorem opBankSwap_times : opBankSwap.Times := fun k r s h => by simp [opBankSwap, h]
@[simp] theorem opHelmDiag_times : opHelmDiag.Times := fun k r s h => by dsimp only [opHelmDiag]; (repeat' split) <;> simp [h]
@[simp] theorem opChartWrite_times : opChartWrite.Times := fun k r s h => by dsimp only [opChartWrite]; split <;> simp [h]
@[simp] theorem opChartStatus_times : opChartStatus.Times := fun k r s h => by simp [opChartStatus, h]
@[simp] theorem opSoundStart_times : opSoundStart.Times := fun k r s h => by dsimp only [opSoundStart]; (repeat' split) <;> simp [h]
@[simp] theorem opModeWrite_times : opModeWrite.Times := fun k r s h => by simp [opModeWrite, h]
@[simp] theorem opSoundAbort_times : opSoundAbort.Times := fun k r s h => by simp [opSoundAbort, h]
@[simp] theorem opSoundStatus_times : opSoundStatus.Times := fun k r s h => by simp [opSoundStatus, h]
@[simp] theorem opSoundCapture_times : opSoundCapture.Times := fun k r s h => by simp [opSoundCapture, h]
@[simp] theorem opSoundResult_times : opSoundResult.Times := fun k r s h => by simp [opSoundResult, h]
@[simp] theorem opSoundDeliver_times : opSoundDeliver.Times := fun k r s h => by simp [opSoundDeliver, h]
@[simp] theorem opFcRead_times : opFcRead.Times := fun k r s h => by simp [opFcRead, h]
@[simp] theorem opFcEdgeRead_times : opFcEdgeRead.Times := fun k r s h => by simp [opFcEdgeRead, h]
@[simp] theorem opFcForce_times : opFcForce.Times := fun k r s h => by simp [opFcForce, h]
@[simp] theorem opFcClear_times : opFcClear.Times := fun k r s h => by simp [opFcClear, h]
@[simp] theorem opUiRead_times : opUiRead.Times := fun k r s h => by simp [opUiRead, h]
@[simp] theorem opUiCalibrate_times : opUiCalibrate.Times := fun k r s h => by dsimp only [opUiCalibrate]; (repeat' split) <;> simp [h]
@[simp] theorem opI2cRead_times : opI2cRead.Times := fun k r s h => by simp [opI2cRead, h]
@[simp] theorem opPortStatus_times : opPortStatus.Times := fun k r s h => by simp [opPortStatus, h]
@[simp] theorem opPartnerList_times : opPartnerList.Times := fun k r s h => by simp [opPartnerList, h]
@[simp] theorem opBindRead_times : opBindRead.Times := fun k r s h => by simp [opBindRead, h]
@[simp] theorem opSvcReadProperty_times : opSvcReadProperty.Times := fun k r s h => by dsimp only [opSvcReadProperty]; split <;> simp [h]
@[simp] theorem opSvcWriteProperty_times : opSvcWriteProperty.Times := fun k r s h => by
  dsimp only [opSvcWriteProperty]
  split <;> simpa [State.writeProp_head_of ‹_›, State.writeProp_stamp_of ‹_›] using h
@[simp] theorem opSvcTimeSet_times : opSvcTimeSet.Times := fun k r s h => by dsimp only [opSvcTimeSet]; split <;> simp [h]
@[simp] theorem opSvcTimeRead_times : opSvcTimeRead.Times := fun k r s h => by simp [opSvcTimeRead, h]
@[simp] theorem opPolicyRead_times : opPolicyRead.Times := fun k r s h => by simp [opPolicyRead, h]
@[simp] theorem opOccRead_times : opOccRead.Times := fun k r s h => by dsimp only [opOccRead]; split <;> simp [h]
@[simp] theorem opWpForecast_times : opWpForecast.Times := fun k r s h => by simp [opWpForecast, h]
@[simp] theorem opWpTariff_times : opWpTariff.Times := fun k r s h => by simp [opWpTariff, h]
@[simp] theorem opWpReplan_times : opWpReplan.Times := fun k r s h => by simp [opWpReplan, h]
@[simp] theorem opWpStatus_times : opWpStatus.Times := fun k r s h => by simp [opWpStatus, h]
@[simp] theorem opWpTrajectory_times : opWpTrajectory.Times := fun k r s h => by dsimp only [opWpTrajectory]; split <;> simp [h]
@[simp] theorem opCfgBegin_times : opCfgBegin.Times := fun k r s h => by simp [opCfgBegin, h]
@[simp] theorem opCfgWrite_times : opCfgWrite.Times := fun k r s h => by simp [opCfgWrite, h]
@[simp] theorem opCfgCommit_times : opCfgCommit.Times := fun k r s h => by simp [opCfgCommit, h]
@[simp] theorem opCfgInfo_times : opCfgInfo.Times := fun k r s h => by simp [opCfgInfo, h]
@[simp] theorem opCfgRead_times : opCfgRead.Times := fun k r s h => by simp [opCfgRead, h]
@[simp] theorem opClampRead_times : opClampRead.Times := fun k r s h => by simp [opClampRead, h]
@[simp] theorem opPairStatus_times : opPairStatus.Times := fun k r s h => by simp [opPairStatus, h]
@[simp] theorem opPairHandover_times : opPairHandover.Times := fun k r s h => by simp [opPairHandover, h]
@[simp] theorem opTillerRead_times : opTillerRead.Times := fun k r s h => by simp [opTillerRead, h]
@[simp] theorem opTillerState_times : opTillerState.Times := fun k r s h => by simp [opTillerState, h]
@[simp] theorem opSensorRead_times : opSensorRead.Times := fun k r s h => by simp [opSensorRead, h]
@[simp] theorem opSelftest_times : opSelftest.Times := fun k r s h => by simp [opSelftest, h]
@[simp] theorem opUpdateBegin_times : opUpdateBegin.Times := fun k r s h => by dsimp only [opUpdateBegin]; (repeat' split) <;> simp [h]
@[simp] theorem opUpdateWrite_times : opUpdateWrite.Times := fun k r s h => by dsimp only [opUpdateWrite]; (repeat' split) <;> simp [h]
@[simp] theorem opUpdateVerify_times : opUpdateVerify.Times := fun k r s h => by dsimp only [opUpdateVerify]; split <;> simp [h]
@[simp] theorem opUpdateStatus_times : opUpdateStatus.Times := fun k r s h => by simp [opUpdateStatus, h]
@[simp] theorem opUpdateSwap_times : opUpdateSwap.Times := fun k r s h => by
  dsimp only [opUpdateSwap]
  split
  · simp [h]
  · split
    · simp [h]
    · refine State.postThen_timely (fun t ht => ?_) h
      split
      · simpa using State.swapBinnacle_timely ht
      · simpa using State.swapService_timely ht
@[simp] theorem opReset_times : opReset.Times := fun k r s h => by
  dsimp only [opReset]
  refine State.postThen_timely (fun t ht => ?_) h
  split
  · simpa using State.resetServices_timely ht
  · exact State.resetModule_timely
@[simp] theorem opBarrier_times : opBarrier.Times := fun k r s h => by simp [opBarrier, h]
@[simp] theorem opIdentify_times : opIdentify.Times := fun k r s h => by simp [opIdentify, h]
@[simp] theorem opSessionOpen_times : opSessionOpen.Times := fun k r s h => by simp [opSessionOpen, h]
@[simp] theorem opSessionProve_times : opSessionProve.Times := fun k r s h => by simp [opSessionProve, h]
@[simp] theorem opSessionClose_times : opSessionClose.Times := fun k r s h => by simp [opSessionClose, h]
@[simp] theorem opSecWrite_times : opSecWrite.Times := fun k r s h => by simp [opSecWrite, h]
@[simp] theorem opSecInfo_times : opSecInfo.Times := fun k r s h => by simp [opSecInfo, h]
@[simp] theorem opEventRead_times : opEventRead.Times := fun k r s h => by simp [opEventRead, h]
@[simp] theorem opEventStatus_times : opEventStatus.Times := fun k r s h => by simp [opEventStatus, h]


/-- Every operation of the opcode tables leaves a stamp in time. -/
theorem opTable_times : ∀ d ∈ opTable, d.Times := by
  simp [opTable]

theorem opNamed_times {cls opcode : Nat} {d : OpDef} (h : opNamed cls opcode = some d) : d.Times :=
  opTable_times d (List.mem_of_find?_eq_some h)

theorem headerCheck_times {session : Nat} {unread : Bool} {bs : List Byte} {d : OpDef}
    (h : headerCheck session unread bs = .inr d) : d.Times := by
  unfold headerCheck at h
  (repeat' split at h) <;> cases h
  exact opNamed_times ‹_›


/-- A fold keeps a stamp in time if each of its steps does. -/
theorem Timely.each {α : Type} {k : Stamp} {xs : List α} {f : α → State → State} {s : State} (h : Timely k s.head s.stamp)
    (hf : ∀ x t, Timely k t.head t.stamp → Timely k (f x t).head (f x t).stamp) :
    Timely k (State.each xs f s).head (State.each xs f s).stamp := by
  unfold State.each
  induction xs generalizing s with
  | nil => exact h
  | cons x xs ih => exact ih (hf x s h)

/-! ### Transports -/

section
variable {k : Stamp} {s : State} (h : Timely k s.head s.stamp)
include h

@[simp] theorem State.deliver_timely {session : Nat} {unread : Bool} {bs : List Byte} :
    Timely k (State.deliver session unread bs s).head (State.deliver session unread bs s).stamp := by
  unfold State.deliver; split
  · simp [h]
  · exact serve_timely (headerCheck_times ‹_›) h
@[simp] theorem State.offer_timely {session : Nat} {bs : List Byte} :
    Timely k (State.offer session bs s).head (State.offer session bs s).stamp := by
  unfold State.offer; dsimp only; (repeat' split) <;> simp [h]
@[simp] theorem State.offerWaiting_timely : Timely k (State.offerWaiting s).head (State.offerWaiting s).stamp := by
  unfold State.offerWaiting
  exact Timely.each (by simp [h]) fun w t ht => State.offer_timely ht
@[simp] theorem State.requestAccept_timely : Timely k (State.requestAccept s).head (State.requestAccept s).stamp := by
  unfold State.requestAccept; dsimp only; (repeat' split) <;> simp [h]
@[simp] theorem State.responsePost_timely {n : Nat} : Timely k (State.responsePost n s).head (State.responsePost n s).stamp := by
  unfold State.responsePost; dsimp only; (repeat' split) <;> simp [h]
@[simp] theorem State.writeDoorbell_timely {value : Nat} :
    Timely k (State.writeDoorbell value s).head (State.writeDoorbell value s).stamp := by
  unfold State.writeDoorbell; dsimp only; (repeat' split) <;> simp [h]
@[simp] theorem State.writeRegister_timely {off value : Nat} :
    Timely k (State.writeRegister off value s).head (State.writeRegister off value s).stamp := by
  unfold State.writeRegister; dsimp only; (repeat' split) <;> simp [h]
@[simp] theorem State.writeWindow_timely {addr : Nat} {bytes : List Byte} :
    Timely k (State.writeWindow addr bytes s).head (State.writeWindow addr bytes s).stamp := by
  unfold State.writeWindow; dsimp only; split
  · exact h.each fun w t ht => State.writeRegister_timely ht
  · simp [h]
@[simp] theorem State.udpOutside_timely {ip port : Nat} {bs : List Byte} :
    Timely k (State.udpOutside ip port bs s).head (State.udpOutside ip port bs s).stamp := by
  unfold State.udpOutside; dsimp only; (repeat' split) <;> simp [h]
@[simp] theorem State.udpInside_timely {u : UdpSession} {ip port : Nat} {d : List Byte} :
    Timely k (State.udpInside u ip port d s).head (State.udpInside u ip port d s).stamp := by
  unfold State.udpInside; dsimp only; (repeat' split) <;> simp [h]

end

theorem State.bacnet_stamp {p : Nat} {f : State → State} {s : State} (hf : ∀ t : State, (f t).stamp = t.stamp) :
    (State.bacnet p f s).stamp = s.stamp := by
  unfold State.bacnet; simp [hf]

theorem State.bacnetAlways_stamp {p : Nat} {f : State → State} {s : State} (hf : ∀ t : State, (f t).stamp = t.stamp) :
    (State.bacnetAlways p f s).stamp = s.stamp := by
  unfold State.bacnetAlways; simp [hf]

theorem State.window_stamp {f : State → State} {s : State} (hf : ∀ t : State, (f t).stamp = t.stamp) :
    (State.window f s).stamp = s.stamp := by
  unfold State.window; simp [hf]

/-- A BACnet service takes effect through its own function, or only takes the frame from its port (R302, R344). -/
theorem State.bacnet_timely {k : Stamp} {p : Nat} {f : State → State} {s : State}
    (hf : ∀ t : State, Timely k t.head t.stamp → Timely k (f t).head (f t).stamp)
    (h : Timely k s.head s.stamp) : Timely k (State.bacnet p f s).head (State.bacnet p f s).stamp := by
  unfold State.bacnet; dsimp only; split
  · split
    · exact hf _ (by simp [h])
    · simp [h]
  · exact h

theorem State.bacnetAlways_timely {k : Stamp} {p : Nat} {f : State → State} {s : State}
    (hf : ∀ t : State, Timely k t.head t.stamp → Timely k (f t).head (f t).stamp)
    (h : Timely k s.head s.stamp) : Timely k (State.bacnetAlways p f s).head (State.bacnetAlways p f s).stamp := by
  unfold State.bacnetAlways; dsimp only; split
  · split
    · simp [h]
    · exact hf _ (by simp [h])
  · exact h

/-- A host access to the window takes effect through its own function or not at all (R374). -/
theorem State.window_timely {k : Stamp} {f : State → State} {s : State}
    (hf : ∀ t : State, Timely k t.head t.stamp → Timely k (f t).head (f t).stamp)
    (h : Timely k s.head s.stamp) : Timely k (State.window f s).head (State.window f s).stamp := by
  unfold State.window; split
  · exact hf s h
  · exact h

theorem State.notifyOne_stamp (n : Note) (r : Recipient) (x : State × Nat) : (State.notifyOne n r x).1.stamp = x.1.stamp := by
  unfold State.notifyOne; dsimp only; split
  · rfl
  · split <;> simp

theorem State.notifyEach_stamp (n : Note) (rs : List Recipient) (x : State × Nat) :
    (rs.foldl (fun y r => State.notifyOne n r y) x).1.stamp = x.1.stamp := by
  induction rs generalizing x with
  | nil => rfl
  | cons r rs ih => rw [List.foldl_cons, ih, State.notifyOne_stamp]

/-- A run of registers written performs its items one after another (R315, R316). -/
theorem State.mbWrite_stamp {addr limit : Nat} {values : List Nat} {s t : State} (h : s.mbWrite addr limit values = .ok t) :
    t.stamp = s.stamp := by
  unfold State.mbWrite at h
  (repeat' split at h) <;> cases h
  exact State.each_stamp _ _ _ fun x t => State.mbPerform_stamp x t

theorem State.mbServe_stamp {fn addr count waddr : Nat} {values d : List Nat} {s t : State}
    (h : s.mbServe fn addr count waddr values = .ok (t, d)) : t.stamp = s.stamp := by
  unfold State.mbServe at h
  split at h
  · (repeat' split at h) <;> cases h; rfl
  · obtain ⟨_, -, hx⟩ := Except.map_eq_ok h; cases hx; rfl
  · obtain ⟨_, -, hx⟩ := Except.map_eq_ok h; cases hx; rfl
  · obtain ⟨_, hw, hx⟩ := Except.map_eq_ok h; cases hx; exact State.mbWrite_stamp hw
  · obtain ⟨_, hw, hx⟩ := Except.map_eq_ok h; cases hx; exact State.mbWrite_stamp hw
  · split at h
    · cases h
    · obtain ⟨_, -, hx⟩ := Except.map_eq_ok h; cases hx; exact State.mbWrite_stamp ‹_›
  · cases h


end Sys2Proof.Machine

/-! PROOFS. What a command can do to the stamp (R13, R46). -/

namespace Sys2Proof.Machine

/-- With MERIDIAN set, the outcome leaves the stamp where the time of the command brings it, or MERIDIAN clear; or it begins the next
turn at grain 0, from the last grain of the one before. -/
def Advances (s : State) (o : Host.Outcome State Fault Refusal) : Prop :=
  s.rdy Rdy.meridian = true → ∃ a : At, ∀ t, o = .next t →
    Timely (s.advance a).stamp t.head t.stamp ∨
    (s.advance a).grain + 1 = grainsPerTurn ∧ t.stamp = mkStamp ((s.advance a).turn + 1) 0

theorem Advances.of_timely {s t : State} (a : At) (h : s.rdy Rdy.meridian = true → Timely (s.advance a).stamp t.head t.stamp) :
    Advances s (.next t) :=
  fun hs => ⟨a, fun _ e => by cases e; exact .inl (h hs)⟩

theorem Advances.of_stamp {s t : State} (a : At) (h : t.stamp = (s.advance a).stamp) : Advances s (.next t) :=
  .of_timely a fun _ _ => h

theorem advances_serve {d : OpDef} {a : At} {r : Req} {s : State} (hd : d.Times) : Advances s (.next (serve d r (s.advance a))) :=
  .of_timely a fun _ => serve_timely hd (Timely.refl _ _)

theorem State.turn_eq (s : State) : s.turn = Stamp.turn s.stamp := rfl
theorem State.grain_eq (s : State) : s.grain = Stamp.grain s.stamp := rfl

/-- A turn boundary away from the last grain leaves everything as it is (R46). -/
theorem State.turnBoundary_off {e : Int} {s : State} (h : s.rdy Rdy.meridian = false ∨ s.grain + 1 ≠ grainsPerTurn) :
    s.turnBoundary e = s := by
  unfold State.turnBoundary
  exact if_pos (by simpa using h)

/-- A turn boundary begins the next turn at grain 0 (R46). -/
theorem State.turnBoundary_stamp {e : Int} {s : State} (hready : s.rdy Rdy.meridian = true) (hgrain : s.grain + 1 = grainsPerTurn) :
    (s.turnBoundary e).stamp = mkStamp (s.turn + 1) 0 := by
  unfold State.turnBoundary
  rw [if_neg (by simp [hready, hgrain])]
  simp [State.turn_eq]

/-- After a Binnacle restart NV_RECOVERY leaves MERIDIAN and its stamp as they are (R478). -/
theorem State.nvRecovery_stamp {found : Recovery} {s : State} (hready : s.rdy Rdy.meridian = true) :
    (s.nvRecovery found).stamp = s.stamp := by
  have hagain : s.recoverStore.rdy Rdy.meridian = true := by
    have hhead : s.recoverStore.ready = s.ready := congrArg Prod.snd (State.recoverStore_head s)
    rwa [State.rdy, hhead]
  unfold State.nvRecovery
  split
  · rfl
  · simp only [hagain, if_true]
    split
    · rfl
    · rename_i v hv
      simpa using State.imageVerified_stamp hv

theorem execTurnBoundary_advances {a : At} {e : Int} {s : State} : Advances s (execTurnBoundary a e s) := by
  intro hs
  refine ⟨a, fun t ht => ?_⟩
  cases ht
  by_cases hgrain : (s.advance a).grain + 1 = grainsPerTurn
  · exact .inr ⟨hgrain, State.turnBoundary_stamp hs hgrain⟩
  · rw [State.turnBoundary_off (.inr hgrain)]
    exact .inl (Timely.refl _ _)

/-- Before a turn boundary no command but one that resets the module moves the stamp further than its time. -/
theorem exec_advances {s : State} (c : Instr) : Advances s (exec c s) := by
  cases c with
  | turnBoundary a e => exact execTurnBoundary_advances
  | zoneStatus a r | signalRead a r | signalWrite a r | modeWrite a r | hostInputWrite a r | wpForecast a r | wpTariff a r
  | wpReplan a r | wpStatus a r | wpTrajectory a r | occRead a r | uiRead a r | i2cRead a r | fcRead a r | fcEdgeRead a r | aoRead a r
  | agoRead a r | portStatus a r | partnerList a r | bindRead a r | chartWrite a r | chartStatus a r | tillerRead a r
  | tillerState a r | helmRead a r | helmWrite a r | bankCopy a r | bankSwap a r | helmDiag a r | slotRead a r | slotWrite a r
  | soundStart a r | soundAbort a r | soundStatus a r | soundCapture a r | soundResult a r | soundDeliver a r | fcForce a r
  | aoForce a r | agoForce a r | svcReadProperty a r | svcWriteProperty a r | svcTimeSet a r | svcTimeRead a r | cfgInfo a r
  | cfgBegin a r | cfgWrite a r | cfgCommit a r | cfgRead a r | clampRead a r | sheafRead a r | barrier a r | identify a r
  | sessionOpen a r | sessionProve a r | sessionClose a r | secWrite a r | secInfo a r | logRead a r | logAck a r | concordRead a r
  | almanacRead a r | almanacWrite a r | almanacTrim a r | almanacAlarm a r | backupRead a r | backupWrite a r | updateBegin a r
  | updateWrite a r | updateVerify a r | updateSwap a r | updateStatus a r | reset a r | selftest a r | sensorRead a r
  | uiCalibrate a r | fcClear a r | policyRead a r | pairStatus a r | pairHandover a r | eventRead a r | eventStatus a r =>
    exact advances_serve (by simp)
  | powerOnStart a second test | resetNReleased a | railGoodRelease a | supplySample a vmain vback vhold | switchToMain a | collapse a
  | nvGoodChange a | holdStoreMeasurement a cap10 | sleepEntry a | crystalLost a | crystalReturned a
  | sensorSample a rails temps vbat iin | sramScrubStep a region item corrected uncorrectable | mramScrubStep a corrected bad
  | journaledPageOperation a fate | sheafAddition a cut | recordWrite a | compaction a | configSelection a | logbookRecovery a
  | logbookWrite a | logbookRecordRaised a source severity code payload posts target | serviceHeartbeatTimeout a core
  | serviceStartTimeout a | serviceFaultReport a core | serviceRestart a verifies | failureCountReset a | trialTimeout a binnacle
  | fitUpdate a hz amp toEnd | lossDetection a | turnMark a | concordanceLogPeriod a | slotFire a slot late waiting | bankSave a
  | bankLoaded a | startCalibration a | recipeRun a n xs released | recipeRetry a n xs released | recipeComplete a n ago
  | barrierFrame a g up start crcOk seq vfield currents | parameterBlockApplied a g crcOk | resume a g
  | barrierDelayMeasurement a g ns | edgeLost a n | freqGate a n | tpoOffEdge a n | overload a n | thermal a n | tripRetry a n cooled
  | retrySeriesEnd a n | darkPulse a n readOff current | backfeed a n holds | stuckOn a n current | switchFail a n holds
  | aoMonitorSample a readings | agoLatch a n | agoEdge a n | mdioPoll a phy link speed full | busFrameReceived a f
  | responseTimeoutDiscard a p | iAm a p addr inst net | partnerChanged a | networkLayerMessage a p peer m | whoisPeriod a
  | provisionalTimeout a idx | partnerHalfSilence a idx | partnerSilent a idx | partnerSave a | guardEngaged a z hot
  | guardReleased a z hot | guardBlind a z hot | hostValueSave a | planStart a | planComplete a us | planDiscarded a
  | planModelDerived a us | planStale a | occUpdate a | soundSettled a z | soundCaptured a z | soundAborted a z cause
  | soundFitComplete a z | mirrorFrameReceived a f | laneChange a lanesIn lanesOut | peerLineChange a alive active | takeover a
  | yieldedClear a | synchronisationComplete a | sharedChannelComparison a n readback activeAgrees settled | phaseAlign a
  | almanacAlign a peerTicks | almanacCommitEdge a | alarm a n | almanacCrystalCheck a expected | domainPowerOn a | powerLost a
  | epaperUpdateStart a | compensated a | chartReadback a levels | tillerRowFall a | tillerScan a closed | stuck a key
  | tillerInitial a closed buttons lines | authFailed a | countLoRead a | countLoWrite a lo | alarmLoWrite a n lo
  | thermalResetRelease a | servicesRises a | shuntDisconnect a n | trimPeriodStart a | dhcpLeaseExpiry a idx lease
  | plcaBeacon a seen | mstpTimeout a n inLoop token =>
    exact .of_stamp a (by simp)
  | binnacleWatchdog a kept | fittedCrossing a period ampFirst ampLast | conversionDone a c p | uplinkTimeout a g
  | barrierPowerChange a g on | vfieldUv a g v | edgeAccepted a n on ago current | groupOverload a g current | openLoad a n level
  | forceDurationEnd a kind n | aoWatchdogRefresh a | watchdog a | apduTimeout a id | dupMacHoldEnd a n | bindingPoll a b
  | covRenew a b | bindingWrite a b | bindingWriteRetry a b | deferredStart a n | cfgEffect a | election a
  | busFrameSent a p side forwarded | foreignDeviceReregister a =>
    exact .of_stamp a (by (repeat' split) <;> simp)
  | healthy a binnacle | verifyComplete a binnacle verifies | bankCopyComplete a | calibrationResult a c dev | barrierTimeout a g
  | vfieldChange a g v | covNotification a p addr object value fault confirmed | dccDurationEnd a | modbusReply a id exception regs
  | modbusTimeout a id | scConnectResult a ok code | scConnectionLost a code | scReconnect a | planStepEnd a | dualActive a
  | withdrawal a | handoverBoundary a | wrapped a | epaperFrame a | epaperUpdateEnd a | compensationStart a
  | tillerSample a buttons lines | tillerMaskedPoll a closed | uartByteGap a | selftestComplete a test outcome detail =>
    exact .of_stamp a (by dsimp only; (repeat' split) <;> simp)
  | bacnetReadProperty a p peer multiple items | bacnetWriteProperty a p peer multiple items
  | bacnetSubscribeCov a p peer process object confirmed lifetime cancel | whoIs a p w
  | acknowledgeAlarm a p peer object kind isSeq time =>
    exact .of_stamp a (State.bacnet_stamp fun t => by simp)
  | timeSynchronization a p isLocal secs hundredths | getEventInformation a p peer after | readRange a p peer object mode ref count =>
    exact .of_stamp a (State.bacnet_stamp fun t => by dsimp only; (repeat' split) <;> simp)
  | deviceCommunicationControl a p peer state minutes password =>
    exact .of_stamp a (State.bacnetAlways_stamp fun t => by simp)
  | reqProdWrite a value | rspConsWrite a value | evtConsWrite a value | irqStatusWrite a value | evtLostRead a =>
    exact .of_stamp a (State.window_stamp fun t => by simp)
  | resetNAsserted a => exact .of_timely a fun _ => by split <;> simp [State.hold, Timely.refl]
  | thermalReset a => exact .of_timely a fun _ => by split <;> simp [Timely.refl]
  | railLost a rail mv => exact .of_timely a fun _ => by dsimp only; split <;> simp [Timely.refl]
  | holdupEnd a => exact .of_timely a fun _ => by split <;> simp [Timely.refl]
  | wake a source => exact .of_timely a fun _ => by dsimp only; split <;> simp [Timely.refl]
  | ldLost a island => exact .of_timely a fun _ => by dsimp only; (repeat' split) <;> simp [Timely.refl]
  | nvRecovery a found => exact .of_timely a fun hs _ => State.nvRecovery_stamp hs
  | reinitializeDevice a p peer state password =>
    exact .of_timely a fun _ => State.bacnetAlways_timely (fun t ht => by dsimp only; (repeat' split) <;> simp [ht]) (Timely.refl _ _)
  | fbDoorbellGo a value => exact .of_timely a fun _ => State.window_timely (fun _ ht => State.writeDoorbell_timely ht) (Timely.refl _ _)
  | registerWrite a alm addr bytes =>
    refine .of_timely a fun _ => ?_
    split
    · split <;> simp [Timely.refl]
    · exact State.window_timely (fun _ ht => State.writeWindow_timely ht) (Timely.refl _ _)
  | requestAccept a => exact .of_timely a fun _ => State.requestAccept_timely (Timely.refl _ _)
  | responsePost a session => exact .of_timely a fun _ => State.responsePost_timely (Timely.refl _ _)
  | uartMessage a bytes => exact .of_timely a fun _ => by dsimp only; (repeat' split) <;> simp [Timely.refl]
  | udpDatagram a ip port bytes => exact .of_timely a fun _ => by (repeat' split) <;> simp [Timely.refl]
  | udpSessionIdle a session => exact .of_timely a fun _ => by (repeat' split) <;> simp [Timely.refl]
  | eventNotificationSend a => exact .of_stamp a (by (repeat' split) <;> simp [State.notifyEach_stamp])
  | modbusSlaveRequest a n fn addr count waddr values =>
    refine .of_stamp a ?_
    dsimp only; split
    · split
      · simp
      · split
        · simp [State.mbServe_stamp ‹_›]
        · simp
    · simp

/-! ### Time within a turn -/

theorem mkStamp_toNat {turn grain : Nat} (hturn : turn < 2 ^ 44) (hgrain : grain < grainsPerTurn) :
    (mkStamp turn grain).toNat = turn * grainsPerTurn + grain := by
  unfold grainsPerTurn at hgrain
  simp only [mkStamp, grainsPerTurn, BitVec.toNat_ofNat]
  omega

theorem Stamp.turn_lt (x : Stamp) : Stamp.turn x < 2 ^ 44 := by
  have hx := x.isLt
  simp only [Stamp.turn, grainsPerTurn]
  omega

theorem Stamp.turn_mul_add_grain (x : Stamp) : Stamp.turn x * grainsPerTurn + Stamp.grain x = x.toNat :=
  Nat.div_add_mod' x.toNat grainsPerTurn

theorem Stamp.grain_lt (x : Stamp) : Stamp.grain x < grainsPerTurn := Nat.mod_lt _ (by decide)

/-- A stamp `g` grains into turn `n` lies in turn `n`. -/
theorem Stamp.turn_eq_of_toNat {x : Stamp} {n g : Nat} (h : x.toNat = n * grainsPerTurn + g) (hg : g < grainsPerTurn) :
    Stamp.turn x = n := by
  rw [Stamp.turn, h, Nat.mul_comm, Nat.mul_add_div (by decide), Nat.div_eq_of_lt hg, Nat.add_zero]

/-- Time runs within the turn: it brings the stamp to a later grain of the same turn, the last at most (R46). -/
theorem stampAfter_toNat (x : Stamp) (n : Nat) :
    ∃ g, Stamp.grain x ≤ g ∧ g < grainsPerTurn ∧ (stampAfter x n).toNat = Stamp.turn x * grainsPerTurn + g := by
  have hturn := Stamp.turn_lt x
  have hgrain := Stamp.grain_lt x
  have hx := Stamp.turn_mul_add_grain x
  unfold stampAfter
  split
  · refine ⟨Stamp.grain x + n, Nat.le_add_right _ _, ‹_›, ?_⟩
    rename_i hn
    unfold grainsPerTurn at *
    rw [BitVec.toNat_add, BitVec.toNat_ofNat]
    omega
  · exact ⟨grainsPerTurn - 1, by omega, by decide, mkStamp_toNat hturn (by decide)⟩

theorem stampAfter_turn (x : Stamp) (n : Nat) : Stamp.turn (stampAfter x n) = Stamp.turn x := by
  obtain ⟨g, -, hg, h⟩ := stampAfter_toNat x n
  exact Stamp.turn_eq_of_toNat h hg

theorem le_stampAfter (x : Stamp) (n : Nat) : x.toNat ≤ (stampAfter x n).toNat := by
  obtain ⟨g, hle, -, h⟩ := stampAfter_toNat x n
  rw [h, ← Stamp.turn_mul_add_grain x]
  omega

theorem State.advance_stamp {a : At} {s : State} (hs : s.rdy Rdy.meridian = true) :
    (s.advance a).stamp = stampAfter s.stamp (s.grainsTo a.grains) := by
  simp only [State.stamp, State.advance, hs, if_true]

theorem State.advance_turn {a : At} {s : State} (hs : s.rdy Rdy.meridian = true) : (s.advance a).turn = s.turn := by
  rw [State.turn_eq, State.advance_stamp hs, stampAfter_turn, State.turn_eq]

/-- Settles O4: a command moves the stamp within its turn, as its time does, or begins the next turn from the last grain. -/
theorem stampNeverGoesBack : Obligations.StampNeverGoesBack := by
  unfold Obligations.StampNeverGoesBack
  intro c s t h hs ht hlast
  obtain ⟨a, ha⟩ := exec_advances c hs
  rcases ha t h with htime | ⟨-, hnext⟩
  · have hstamp : t.stamp = (s.advance a).stamp := htime ht
    refine ⟨?_, .inl ?_⟩
    · rw [State.mer_stamp, State.mer_stamp, hstamp, State.advance_stamp hs]
      exact le_stampAfter _ _
    · rw [State.turn_eq, hstamp, ← State.turn_eq, State.advance_turn hs]
  · rw [State.advance_turn hs] at hnext
    have hnat : t.stamp.toNat = (s.turn + 1) * grainsPerTurn + 0 := hnext ▸ mkStamp_toNat hlast (by decide)
    refine ⟨?_, .inr (Stamp.turn_eq_of_toNat hnat (by decide))⟩
    have hx := Stamp.turn_mul_add_grain s.stamp
    have hg := Stamp.grain_lt s.stamp
    rw [State.mer_stamp, State.mer_stamp, hnat, Nat.add_one_mul, State.turn_eq]
    omega

end Sys2Proof.Machine

/-! PROOFS. The turn boundary and the events of Meridian (R41, R45, R46, R48, R56, R74). -/

namespace Sys2Proof.Machine

section
variable {a : At} {s t : State}

theorem execFittedCrossing_ready {period ampFirst ampLast : Nat} (ht : t = s.advance a) (hready : t.rdy Rdy.meridian = true) :
    execFittedCrossing a period ampFirst ampLast s = .next (t.crossing period ampFirst ampLast) := by
  rw [execFittedCrossing, ← ht]
  exact congrArg _ (if_pos hready)

/-- A fit update keeps the frequency and the amplitude it measured, in every state of Meridian (R41). -/
theorem State.fitUpdate_keeps (hz amp toEnd : Nat) (s : State) :
    (s.fitUpdate hz amp toEnd).mer.mains = hz ∧ (s.fitUpdate hz amp toEnd).mer.amplitude = amp := by
  unfold State.fitUpdate; dsimp only
  (repeat' split) <;> exact ⟨rfl, rfl⟩

/-- Where the angle does not follow the mains, a fit update changes nothing else (R45, R51). -/
theorem State.fitUpdate_free {hz amp toEnd : Nat} (h : t.mer.state = MerState.deadReckoning ∨ t.mer.state = MerState.qualify) :
    t.fitUpdate hz amp toEnd = { t with mer := { t.mer with mains := hz, amplitude := amp, fitHalf := some t.halfTurns } } := by
  unfold State.fitUpdate
  rcases h with h | h <;> rw [h]

theorem execFitUpdate_first {hz amp toEnd : Nat} (ht : t = s.advance a) (hready : t.rdy Rdy.meridian = true)
    (hhalf : t.mer.fitHalf ≠ some t.halfTurns) (hhz : 0 < hz) :
    execFitUpdate a hz amp toEnd s = .next (t.fitUpdate hz amp toEnd) := by
  rw [execFitUpdate, ← ht]
  exact congrArg _ (if_pos (by simp [hready, hhalf, hhz]))

@[simp] theorem State.agoUnlock_mer (s : State) : s.agoUnlock.mer = s.mer := by
  unfold State.agoUnlock; dsimp only; split
  · rfl
  · exact State.each_keeps State.mer _ _ _ fun _ _ => rfl

@[simp] theorem State.unlock_mer (s : State) : s.unlock.mer = s.mer := by
  unfold State.unlock; split <;> simp

/-- MERIDIAN_LOCK is clear once it has been cleared (R19). -/
theorem State.unlock_lock (s : State) : s.unlock.rdy Rdy.lock = false := by
  have hclear : Rdy.lock ∈ s.lockClears := by unfold State.lockClears; split <;> simp
  unfold State.unlock; split
  · have hready := congrArg Prod.snd (State.agoUnlock_head (s.updateReady [] s.lockClears))
    rw [State.updateReady_head] at hready
    exact (congrArg (readyBit · Rdy.lock) hready).trans (readyNext_clears _ _ _ _ hclear)
  · exact Bool.eq_false_of_not_eq_true ‹_›

theorem execLossDetection_lost (ht : t = s.advance a) (hready : t.rdy Rdy.meridian = true)
    (hstate : t.mer.state ≠ MerState.deadReckoning) (hlost : lossInterval ≤ t.sinceCrossing) :
    execLossDetection a s = .next (t.enterDr 1) := by
  rw [execLossDetection, ← ht]
  exact congrArg _ (if_pos (by simp [hready, hstate, hlost]))

/-- Dead reckoning begins with MERIDIAN_LOCK clear and the stamp as it stands (R45, R48). -/
theorem State.enterDr_lost (crit : Nat) (s : State) :
    (s.enterDr crit).mer.state = MerState.deadReckoning ∧ (s.enterDr crit).mer.stamp = s.mer.stamp ∧
      (s.enterDr crit).rdy Rdy.lock = false :=
  ⟨congrArg Meridian.state (State.unlock_mer _), State.enterDr_stamp crit s, State.unlock_lock _⟩

theorem execTurnMark_due (ht : t = s.advance a) (hready : t.rdy Rdy.meridian = true)
    (hover : t.periodOver t.mer.markTurn 65536 = true) :
    execTurnMark a s = .next (State.markTurn { t with mer.markTurn := some t.turn }) := by
  rw [execTurnMark, ← ht]
  exact congrArg _ (if_pos (by simp [hready, hover]))

theorem execConcordanceLogPeriod_due (ht : t = s.advance a) (hready : t.rdy Rdy.meridian = true) (hon : t.cfgN Fid.CONCORD_LOG = 1)
    (hover : t.periodOver t.mer.concordTurn 262144 = true) :
    execConcordanceLogPeriod a s = .next (State.concordRecord { t with mer.concordTurn := some t.turn }) := by
  rw [execConcordanceLogPeriod, ← ht]
  exact congrArg _ (if_pos (by simp [hready, hon, hover]))

end

/-- Settles O19: each event runs when its condition holds, and with MERIDIAN clear none does. -/
theorem meridianEvents : Obligations.MeridianEvents := by
  unfold Obligations.MeridianEvents
  refine ⟨?_, ?_, ?_, ?_, ?_, ?_⟩
  · intro a period ampFirst ampLast s t ht hready
    exact execFittedCrossing_ready ht hready
  · intro a hz amp toEnd s t ht hready hhalf hhz
    obtain ⟨hmains, hamp⟩ := State.fitUpdate_keeps hz amp toEnd t
    exact ⟨_, execFitUpdate_first ht hready hhalf hhz, hmains, hamp, State.fitUpdate_free⟩
  · intro a s t ht hready hstate hlost
    exact ⟨_, execLossDetection_lost ht hready hstate hlost, State.enterDr_lost 1 t⟩
  · intro a s t ht hready hover
    exact execTurnMark_due ht hready hover
  · intro a s t ht hready hon hover
    exact execConcordanceLogPeriod_due ht hready hon hover
  · intro a period ampFirst ampLast hz amp toEnd s t ht hready
    subst ht
    have hoff : s.rdy Rdy.meridian = false := hready
    simp [exec, execFittedCrossing, execFitUpdate, execLossDetection, execTurnMark, execConcordanceLogPeriod, hoff]

/-- Settles O20: the boundary begins the next turn at the last grain, and nowhere else. -/
theorem turnBoundaryBeginsTheNextTurn : Obligations.TurnBoundaryBeginsTheNextTurn := by
  unfold Obligations.TurnBoundaryBeginsTheNextTurn
  refine ⟨?_, ?_⟩
  · intro a e s t ht hready hgrain
    subst ht
    exact ⟨_, rfl, State.turnBoundary_stamp hready hgrain⟩
  · intro a e s t ht hoff
    subst ht
    exact congrArg _ (State.turnBoundary_off hoff)

end Sys2Proof.Machine

/-! PROOFS. The firing of an event slot (R66, R70–R72, R397). -/

namespace Sys2Proof.Machine

/-- What a slot's firing at stamp `x` leaves, where it is no ONE_SHOT (R66, R72). -/
theorem EvSlot.firedBy_periodic {e : EvSlot} {x : Stamp} (h : e.words.kind ≠ 2) :
    e.firedBy x = { e with fired := true, count := (e.count + 1) % 65536, firedAt := x } := by
  simp [EvSlot.firedBy, SlotWords.disarm, h]

/-- Only a ONE_SHOT can be late (R74). -/
theorem State.slotLate_periodic {n : Nat} {w : SlotWords} {s : State} (h : w.kind ≠ 2) : s.slotLate n w = s :=
  if_neg fun hk => h hk.1

theorem State.slotAction_none {n late waiting : Nat} {w : SlotWords} {s : State} (h : w.action = 0) :
    s.slotAction n late waiting w = s := by
  simp only [State.slotAction, h]

theorem State.slotAction_signal {n late waiting : Nat} {w : SlotWords} {s : State} (h : w.action = 9) :
    s.slotAction n late waiting w = s.signalEntry n w.arg := by
  simp only [State.slotAction, h]

/-- A disarmed slot is due at no stamp (R66). -/
theorem EvSlot.dueBy_disarmed {e : EvSlot} {x : Stamp} (h : e.words.en = false) : e.dueBy x = false := by
  simp [EvSlot.dueBy, SlotWords.lastDue, h]

/-- A periodic slot is due once for each due stamp (R70). -/
theorem EvSlot.dueBy_fired {e : EvSlot} {x : Stamp} {d : Nat} (hkind : e.words.kind ≠ 2) (hdue : e.words.lastDue x = some d)
    (hfired : d ≤ e.firedAt.toNat) : e.dueBy x = false := by
  simp [EvSlot.dueBy, hdue, hkind, hfired]

section
variable {a : At} {slot late waiting : Nat} {s t : State}

theorem execSlotFire_fires (ht : t = s.advance a) (hready : t.rdy Rdy.meridian = true) (hfires : t.fires slot = true) :
    execSlotFire a slot late waiting s =
      .next (State.slotAction slot late waiting (t.mer.slots.get slot).words
        (State.slotLate slot (t.mer.slots.get slot).words
          { t with mer := { t.mer with slots := t.mer.slots.set slot ((t.mer.slots.get slot).firedBy t.now) } })).afterApply := by
  rw [execSlotFire, ← ht]
  exact congrArg _ (if_pos (by simp [hready, hfires]))

/-- A periodic slot has nothing to record of being late, and its firing leaves its words (R66, R72, R74). -/
theorem execSlotFire_periodic (ht : t = s.advance a) (hready : t.rdy Rdy.meridian = true) (hfires : t.fires slot = true)
    (hkind : (t.mer.slots.get slot).words.kind ≠ 2) :
    execSlotFire a slot late waiting s =
      .next (State.slotAction slot late waiting (t.mer.slots.get slot).words
        { t with mer := { t.mer with slots := t.mer.slots.set slot { t.mer.slots.get slot with
          fired := true, count := ((t.mer.slots.get slot).count + 1) % 65536, firedAt := t.now } } }).afterApply := by
  rw [execSlotFire_fires ht hready hfires, State.slotLate_periodic hkind, EvSlot.firedBy_periodic hkind]

theorem execSlotFire_notDue (ht : t = s.advance a) (hdue : (t.mer.slots.get slot).dueBy t.now = false) :
    execSlotFire a slot late waiting s = .next t := by
  rw [execSlotFire, ← ht]
  exact congrArg _ (if_neg (by simp [State.fires, State.toFire, hdue]))

end

/-- Settles O21: a slot that is due fires as R70 says, and one that is not leaves everything but the time. -/
theorem slotFires : Obligations.SlotFires := by
  unfold Obligations.SlotFires
  refine ⟨?_, ?_, ?_, ?_, ?_⟩
  · intro a slot late waiting e s t ht hready hfires he
    subst he
    exact execSlotFire_fires ht hready hfires
  · intro a slot late waiting s t ht hready hfires haction hkind
    have hfire := execSlotFire_periodic (late := late) (waiting := waiting) ht hready hfires hkind
    rw [State.slotAction_none haction] at hfire
    exact hfire
  · intro a slot late waiting s t ht hready hfires haction hkind
    have hfire := execSlotFire_periodic (late := late) (waiting := waiting) ht hready hfires hkind
    rw [State.slotAction_signal haction] at hfire
    exact ⟨_, _, hfire, rfl, by simp, rfl, rfl, rfl, rfl, rfl⟩
  · intro a slot late waiting s t ht hen
    exact execSlotFire_notDue ht (EvSlot.dueBy_disarmed hen)
  · intro a slot late waiting d s t ht hkind hdue hfired
    exact execSlotFire_notDue ht (EvSlot.dueBy_fired hkind hdue hfired)

end Sys2Proof.Machine

/-! PROOFS. The operations on slots and forces (R66, R69, R72, R273, R295, R403). -/

namespace Sys2Proof.Machine

section
variable {a : At} {r : Req} {s t : State}

/-! ### The event slots (R66, R69, R72, R403) -/

theorem opSlotRead_check (h : Safety.Commands false 4 0 r t) (htarget : r.target < 512) (hready : t.rdy Rdy.meridian = true) :
    opSlotRead.check r t = none := by
  have hr : t.rdy r.fn = true := h.asks.fn ▸ hready
  apply OpDef.check_eq_none h.asks <;> simp [opSlotRead, htarget, hr, h.expert]

theorem slotRead_reads (h : Safety.Commands false 4 0 r t) (htarget : r.target < 512) (hready : t.rdy Rdy.meridian = true) :
    serve opSlotRead r t = Safety.answered opSlotRead r .done
      (le 4 (t.mer.slots.get r.target).words.control.toNat ++ le 4 (t.mer.slots.get r.target).words.param.toNat ++
        le 8 (t.mer.slots.get r.target).words.when.toNat ++ le 4 (t.mer.slots.get r.target).status ++ le 4 0) t
      { t with mer.slots := t.mer.slots.upd r.target (fun e => { e with late := false, fired := false }) } :=
  serve_answered _ _ _ _ _ _ h.asks.serves h.asks.barrier (opSlotRead_check h htarget hready) h.asks.tag (by decide) rfl rfl

/-- SLOT_WRITE passes every check with words in their ranges, on a slot and with an action that the host may use (R66, R67). -/
theorem opSlotWrite_check {w : SlotWords} (h : Safety.Commands false 4 16 r t) (hholds : Safety.Holds t)
    (hw : w = slotOfPayload r.payload) (hlow : 64 ≤ r.target) (htarget : r.target < 512) (hkind : w.kind ≤ 2)
    (hwhen : w.whenFits = true) (haction : w.action < 12) (hfits : w.targetFits = true) (hhost : t.hostAction w = true)
    (hready : t.rdy Rdy.meridian = true)
    (howner : (t.mer.slots.get r.target).owner = .free ∨ (t.mer.slots.get r.target).owner = .host) :
    opSlotWrite.check r t = none := by
  subst hw
  have hr : t.rdy r.fn = true := h.asks.fn ▸ hready
  apply OpDef.check_eq_none h.asks <;>
    simp [opSlotWrite, htarget, hkind, hwhen, haction, hfits, hlow, hhost, howner, hr, h.expert, hholds]

/-- The flight of a request takes the response that completes it (R380). -/
theorem State.mem_finish {f : Flight} {u : State} (n tag : Nat) (x : Resp) (hf : f ∈ u.mb.flights) (hsession : f.session = n)
    (htag : f.tag = tag) (hresp : f.resp = none) (hrejected : f.rejected = false) :
    { f with resp := some (x.fit n), completed := u.mb.completions + 1 } ∈ (u.finish n tag x).mb.flights := by
  simp only [State.finish, State.finishIf, List.mem_map]
  exact ⟨f, hf, by simp [hsession, htag, hresp, hrejected]⟩

theorem Resp.fit_of_le {n : Nat} {x : Resp} (h : x.payload.length ≤ lengthLimit n) : x.fit n = x := if_neg (Nat.not_lt.mpr h)

/-- SLOT_WRITE holds the words aside and answers the stamp of the next turn boundary (R69). -/
theorem slotWrite_holds (h : Safety.Asks false 4 16 r t) (hc : opSlotWrite.check r t = none) :
    ∃ u f x, Host.Outcome.next (serve opSlotWrite r t) = (Host.Outcome.next u : Host.Outcome State Fault Refusal) ∧
      u.mer.slots = t.mer.slots.upd r.target (fun e => { e with held := some (slotOfPayload r.payload), heldByHost := true }) ∧
      f ∈ u.mb.flights ∧ f.session = r.session ∧ f.tag = r.tag ∧ f.resp = some x ∧ x.status = .done ∧
      x.stamp = mkStamp (t.turn + 1) 0 := by
  have hserve := serve_finish (u := (slotWriteBody r (t.addFlight opSlotWrite r)).1)
    (x := { status := .done, stamp := mkStamp (t.turn + 1) 0 }) h hc rfl ⟨Status.noConfusion, Status.noConfusion⟩
  have hflight := State.mem_finish r.session r.tag { status := .done, stamp := mkStamp (t.turn + 1) 0 }
    (State.flight_mem_addFlight opSlotWrite r t) rfl rfl rfl rfl
  rw [Resp.fit_of_le (Nat.zero_le _)] at hflight
  exact ⟨_, _, _, congrArg _ hserve, rfl, hflight, rfl, rfl, rfl, rfl, rfl⟩

/-! ### The overrides (R273, R295) -/

theorem State.forceOf_setForce (kind n : Nat) (f : Option Force) (s : State) : (s.setForce kind n f).forceOf kind n = f := by
  unfold State.setForce State.forceOf
  split
  · simp
  · split <;> simp

theorem State.setForce_mb (kind n : Nat) (f : Option Force) (s : State) : (s.setForce kind n f).mb = s.mb := by
  unfold State.setForce; (repeat' split) <;> rfl

section
variable {d : OpDef} {fb release : Bool} {fn len kind n value duration : Nat} (h : Safety.Asks fb fn len r t)
  (hc : d.check r t = none) (hbody : ∀ u : State, d.body r u = u.askForce kind n release value duration)
include h hc hbody

/-- A request to which `askForce` assents is answered DONE, and the output holds what was asked for. -/
theorem force_performed (hasks : (!release && t.overrideWaits kind n) = false) :
    ∃ u, Host.Outcome.next (serve d r t) = (Host.Outcome.next u : Host.Outcome State Fault Refusal) ∧ Safety.Replied r .done [] u ∧
      u.forceOf kind n = if release then none else some (t.forceAsked value duration) := by
  have hwaits : (!release && (t.addFlight d r).overrideWaits kind n) = false := hasks
  obtain ⟨w, hw, hrep, heq⟩ := exists_replied h hc ((hbody _).trans (if_neg (by rw [hwaits]; decide))) (Nat.zero_le _)
    (congrArg Mailbox.flights (State.setForce_mb ..))
  refine ⟨w, hw, hrep, ?_⟩
  rw [heq]
  exact State.forceOf_setForce kind n _ (t.addFlight d r)

theorem force_takes (hset : release = false) (hwaits : t.overrideWaits kind n = false) :
    ∃ u, Host.Outcome.next (serve d r t) = (Host.Outcome.next u : Host.Outcome State Fault Refusal) ∧ Safety.Replied r .done [] u ∧
      u.forceOf kind n = some (t.forceAsked value duration) := by
  simpa [hset] using force_performed h hc hbody (by rw [hset, hwaits]; rfl)

theorem force_released (hrelease : release = true) :
    ∃ u, Host.Outcome.next (serve d r t) = (Host.Outcome.next u : Host.Outcome State Fault Refusal) ∧ Safety.Replied r .done [] u ∧
      u.forceOf kind n = none := by
  simpa [hrelease] using force_performed h hc hbody (by rw [hrelease]; rfl)

theorem force_deferred (hset : release = false) (hwaits : t.overrideWaits kind n = true) :
    ∃ u, Host.Outcome.next (serve d r t) = (Host.Outcome.next u : Host.Outcome State Fault Refusal) ∧
      Safety.Replied r .deferred [] u ∧ u.forceOf kind n = t.forceOf kind n := by
  have hasks : (!release && (t.addFlight d r).overrideWaits kind n) = true := by rw [hset]; exact hwaits
  obtain ⟨w, hw, hrep, heq⟩ := exists_replied h hc ((hbody _).trans (if_pos hasks)) (Nat.zero_le _) rfl
  refine ⟨w, hw, hrep, ?_⟩
  rw [heq]
  rfl

end

theorem opFcForce_check (h : Safety.Commands false (6 + groupOf r.target) 8 r t) (hholds : Safety.Holds t) (htarget : r.target < 32)
    (hready : t.rdy (Rdy.fg (groupOf r.target)) = true) (hmode : fieldAt r.payload 0 1 ≤ 2)
    (hzero : allZero ((r.payload.drop 1).take 3) = true) (hout : t.chIsOut r.target = true) : opFcForce.check r t = none := by
  have hr : t.rdy r.fn = true := h.asks.fn ▸ hready
  have hfn : 6 + groupOf r.target ∈ opFcForce.fns := by
    have : groupOf r.target < 4 := Nat.div_lt_of_lt_mul htarget
    simp [opFcForce]; omega
  have hzeros : allZero (r.payload.tail.take 3) = true := List.drop_one ▸ hzero
  refine OpDef.check_eq_none h.asks (by decide) rfl rfl hfn ?_ (fun _ => h.expert) rfl (fun _ => hholds) rfl hr
  simp [opFcForce, chTarget, htarget, h.asks.fn, hmode, hzeros, hout]

theorem opAoForce_check (h : Safety.Commands false 11 8 r t) (hholds : Safety.Holds t) (htarget : r.target < 8)
    (hready : t.rdy Rdy.ao = true) (hmode : fieldAt r.payload 0 1 ≤ 1) (hzero : fieldAt r.payload 1 1 = 0)
    (hvalue : fieldAt r.payload 2 2 ≤ 10000) (hrole : t.cfgN Fid.AO_ROLE r.target = 1) : opAoForce.check r t = none := by
  have hr : t.rdy r.fn = true := h.asks.fn ▸ hready
  apply OpDef.check_eq_none h.asks <;> simp [opAoForce, htarget, hr, hmode, hzero, hvalue, hrole, h.expert, hholds]

theorem opAgoForce_check (h : Safety.Commands false 12 8 r t) (hholds : Safety.Holds t) (htarget : r.target < 8)
    (hready : t.rdy Rdy.ago = true) (hmode : fieldAt r.payload 0 1 ≤ 1) (hzero : fieldAt r.payload 1 1 = 0)
    (hagoMode : 2 ≤ t.cfgN Fid.AGO_MODE r.target) : opAgoForce.check r t = none := by
  have hr : t.rdy r.fn = true := h.asks.fn ▸ hready
  apply OpDef.check_eq_none h.asks <;> simp [opAgoForce, htarget, hr, hmode, hzero, hagoMode, h.expert, hholds]

/-- MODE 00h releases, any other does not. -/
theorem beq_zero_of_one_le {n : Nat} (h : 1 ≤ n) : (n == 0) = false := beq_false_of_ne (Nat.one_le_iff_ne_zero.mp h)

end

/-- Settles O40: SLOT_READ and SLOT_WRITE by their bodies, the three overrides by the answer they share (`askForce`). -/
theorem slotAndForceOperations : Obligations.SlotAndForceOperations := by
  unfold Obligations.SlotAndForceOperations
  refine ⟨?_, ?_, ?_, ?_, ?_, ?_, ?_, ?_, ?_, ?_, ?_⟩
  · intro a r e s t ht h htarget hready he
    subst ht he
    exact congrArg _ (slotRead_reads h htarget hready)
  · intro a r w s t ht h hholds hw hlow htarget hkind hwhen haction hfits hhost hready howner
    subst ht hw
    exact slotWrite_holds h.asks
      (opSlotWrite_check h hholds rfl hlow htarget hkind hwhen haction hfits hhost hready howner)
  · intro a r s t ht h hholds htarget hready hmode hzero hout hset hwaits
    subst ht
    exact force_takes h.asks (opFcForce_check h hholds htarget hready hmode hzero hout) (fun _ => rfl)
      (beq_zero_of_one_le hset) hwaits
  · intro a r s t ht h hholds htarget hready hmode hzero hout hrelease
    subst ht
    exact force_released h.asks (opFcForce_check h hholds htarget hready hmode hzero hout) (fun _ => rfl)
      (beq_iff_eq.mpr hrelease)
  · intro a r s t ht h hholds htarget hready hmode hzero hout hset hwaits
    subst ht
    exact force_deferred h.asks (opFcForce_check h hholds htarget hready hmode hzero hout) (fun _ => rfl)
      (beq_zero_of_one_le hset) hwaits
  · intro a r s t ht h hholds htarget hready hmode hzero hvalue hrole hset hwaits
    subst ht
    exact force_takes h.asks (opAoForce_check h hholds htarget hready hmode hzero hvalue hrole) (fun _ => rfl)
      (beq_zero_of_one_le hset) hwaits
  · intro a r s t ht h hholds htarget hready hmode hzero hvalue hrole hrelease
    subst ht
    exact force_released h.asks (opAoForce_check h hholds htarget hready hmode hzero hvalue hrole) (fun _ => rfl)
      (beq_iff_eq.mpr hrelease)
  · intro a r s t ht h hholds htarget hready hmode hzero hvalue hrole hset hwaits
    subst ht
    exact force_deferred h.asks (opAoForce_check h hholds htarget hready hmode hzero hvalue hrole) (fun _ => rfl)
      (beq_zero_of_one_le hset) hwaits
  · intro a r s t ht h hholds htarget hready hmode hzero hagoMode hset hwaits
    subst ht
    exact force_takes h.asks (opAgoForce_check h hholds htarget hready hmode hzero hagoMode) (fun _ => rfl)
      (beq_zero_of_one_le hset) hwaits
  · intro a r s t ht h hholds htarget hready hmode hzero hagoMode hrelease
    subst ht
    exact force_released h.asks (opAgoForce_check h hholds htarget hready hmode hzero hagoMode) (fun _ => rfl)
      (beq_iff_eq.mpr hrelease)
  · intro a r s t ht h hholds htarget hready hmode hzero hagoMode hset hwaits
    subst ht
    exact force_deferred h.asks (opAgoForce_check h hholds htarget hready hmode hzero hagoMode) (fun _ => rfl)
      (beq_zero_of_one_le hset) hwaits

end Sys2Proof.Machine

/-! PROOFS. The operations on the Almanac, the Logbook and concordance (R62, R406, R466, R469, R544, R546, R550, R556). -/

namespace Sys2Proof.Machine

section
variable {a : At} {r : Req} {s t : State}

/-! ### The Almanac (R543–R556) -/

theorem opAlmanacRead_check (h : Safety.Asks true 1 0 r t) (hready : t.rdy Rdy.almanac = true) (htarget : r.target = 0) :
    opAlmanacRead.check r t = none := by
  have hr : t.rdy r.fn = true := h.fn ▸ hready
  apply OpDef.check_eq_none h <;> simp [opAlmanacRead, htarget, hr]

theorem opAlmanacWrite_check (h : Safety.Commands true 1 8 r t) (hready : t.rdy Rdy.almanac = true) (htarget : r.target = 0)
    (hzero : allZero (r.payload.drop 6) = true) : opAlmanacWrite.check r t = none := by
  have hr : t.rdy r.fn = true := h.asks.fn ▸ hready
  apply OpDef.check_eq_none h.asks <;> simp [opAlmanacWrite, htarget, hr, hzero, h.expert]

theorem opAlmanacTrim_check (h : Safety.Commands true 1 4 r t) (hready : t.rdy Rdy.almanac = true) (htarget : r.target = 0)
    (hzero : allZero (r.payload.drop 2) = true) (hv : (sext 16 (fieldAt r.payload 0 2)).natAbs ≤ 536) :
    opAlmanacTrim.check r t = none := by
  have hr : t.rdy r.fn = true := h.asks.fn ▸ hready
  apply OpDef.check_eq_none h.asks <;> simp [opAlmanacTrim, htarget, hr, hzero, hv, h.expert]

theorem opAlmanacAlarm_check (h : Safety.Commands true 1 12 r t) (hready : t.rdy Rdy.almanac = true) (htarget : r.target = 0)
    (hn : fieldAt r.payload 0 1 ≤ 1) (hen : fieldAt r.payload 1 1 ≤ 1) (hzero : allZero ((r.payload.drop 2).take 2) = true)
    (htail : allZero (r.payload.drop 10) = true) : opAlmanacAlarm.check r t = none := by
  have hr : t.rdy r.fn = true := h.asks.fn ▸ hready
  apply OpDef.check_eq_none h.asks <;> simp [opAlmanacAlarm, htarget, hr, hn, hen, hzero, htail, h.expert]

theorem opBackupRead_check (h : Safety.Asks true 1 4 r t) (hready : t.rdy Rdy.almanac = true) (htarget : r.target = 0)
    (hcount : 1 ≤ fieldAt r.payload 1 1) (hin : fieldAt r.payload 0 1 + fieldAt r.payload 1 1 ≤ 64)
    (hzero : allZero (r.payload.drop 2) = true) : opBackupRead.check r t = none := by
  have hr : t.rdy r.fn = true := h.fn ▸ hready
  have hoff : fieldAt r.payload 0 1 ≤ 63 := by omega
  have hmax : fieldAt r.payload 1 1 ≤ 64 := by omega
  apply OpDef.check_eq_none h <;> simp [opBackupRead, htarget, hr, hoff, hcount, hmax, hin, hzero]

theorem opBackupWrite_check (h : Safety.Commands true 1 (4 + fieldAt r.payload 1 1) r t) (hready : t.rdy Rdy.almanac = true)
    (htarget : r.target = 0) (hin : fieldAt r.payload 0 1 + fieldAt r.payload 1 1 ≤ 64)
    (hzero : allZero ((r.payload.drop 2).take 2) = true) : opBackupWrite.check r t = none := by
  have hr : t.rdy r.fn = true := h.asks.fn ▸ hready
  apply OpDef.check_eq_none h.asks <;> simp [opBackupWrite, htarget, hr, h.asks.len, hin, hzero, h.expert]

/-- A read takes the shadow of the count's high word (R546). -/
theorem almanacRead_reads (h : Safety.Asks true 1 0 r t) (hc : opAlmanacRead.check r t = none) :
    serve opAlmanacRead r t = Safety.answered opAlmanacRead r .done (le 6 t.alm.count.toNat ++
      le 1 (bit t.alm.wrapped + 2 * bit t.alm.alarm0.fired + 4 * bit t.alm.alarm1.fired + 8 * bit t.alm.powerLost +
        16 * bit t.alm.tickFault) ++
      le 1 t.alm.epoch.toNat ++ le 2 (ofSigned 16 t.alm.trimNew) ++ le 6 0) t { t with alm.shadow := t.alm.count.toNat / 2 ^ 32 } :=
  serve_answered _ _ _ _ _ _ h.serves h.barrier hc h.tag (by decide) rfl rfl

theorem backupWrite_writes {fn len : Nat} (h : Safety.Asks true fn len r t) (hc : opBackupWrite.check r t = none) :
    serve opBackupWrite r t = Safety.answered opBackupWrite r .done [] t
      { t with alm.backup := t.alm.backup.writeBytes (fieldAt r.payload 0 1) (r.payload.drop 4) } :=
  serve_answered _ _ _ _ _ _ h.serves h.barrier hc h.tag (by decide) rfl rfl

theorem Almanac.writeTrim_of_natAbs_le {m : Almanac} {v : Int} (h : v.natAbs ≤ 536) : m.writeTrim v = { m with trimNew := v } :=
  if_pos (by omega)

theorem almanacTrim_sets (h : Safety.Asks true 1 4 r t) (hc : opAlmanacTrim.check r t = none)
    (hv : (sext 16 (fieldAt r.payload 0 2)).natAbs ≤ 536) :
    ∃ u, Host.Outcome.next (serve opAlmanacTrim r t) = (Host.Outcome.next u : Host.Outcome State Fault Refusal) ∧
      Safety.Replied r .done [] u ∧ u.alm = { t.alm with trimNew := sext 16 (fieldAt r.payload 0 2) } := by
  obtain ⟨w, hw, hrep, heq⟩ := exists_replied h hc rfl (Nat.zero_le _) rfl
  refine ⟨w, hw, hrep, ?_⟩
  rw [heq]
  exact Almanac.writeTrim_of_natAbs_le hv

/-! ### The Logbook (R406, R466, R469) -/

theorem opLogRead_check (h : Safety.Asks true 3 16 r t) (hready : t.rdy Rdy.logbook = true) (htarget : r.target = 0)
    (hzero : allZero ((r.payload.drop 6).take 2) = true) (htail : allZero (r.payload.drop 10) = true)
    (hcount : 1 ≤ fieldAt r.payload 8 2 ∧ fieldAt r.payload 8 2 ≤ 63) : opLogRead.check r t = none := by
  have hr : t.rdy r.fn = true := h.fn ▸ hready
  apply OpDef.check_eq_none h <;> simp [opLogRead, htarget, hr, hzero, htail, hcount]

theorem opLogAck_check (h : Safety.Commands true 3 8 r t) (hready : t.rdy Rdy.logbook = true) (htarget : r.target = 0)
    (hzero : allZero (r.payload.drop 6) = true) (hseq : fieldAt r.payload 0 6 < t.log.nextSeq) : opLogAck.check r t = none := by
  have hr : t.rdy r.fn = true := h.asks.fn ▸ hready
  apply OpDef.check_eq_none h.asks <;> simp [opLogAck, htarget, hr, hzero, hseq, h.expert]

/-- What LOG_READ answers where every record asked for can be read (R469). -/
theorem logReadBody_of_readable {got : List (Nat × Nat)}
    (hgot : got = (s.log.held.filter (fun p => decide (fieldAt r.payload 0 6 ≤ p.1))).take (fieldAt r.payload 8 2))
    (hbad : got.any (fun p => !(s.nv.badIn (logBase + p.2 * 64) 64).isEmpty) = false) :
    logReadBody r s = s.ok (le 6 ((s.log.held.head?.map (fun p => p.1)).getD s.log.nextSeq) ++
      le 6 ((got.getLast?.map (fun p => p.1 + 1)).getD s.log.nextSeq) ++ le 2 got.length ++ le 2 0 ++
      got.flatMap (fun p => s.nv.logSlot p.2)) := by
  simp only [logReadBody, ← hgot, hbad, Bool.false_eq_true, if_false]
  cases s.log.held <;> cases got.getLast? <;> rfl

theorem logReadBody_of_bad {got : List (Nat × Nat)}
    (hgot : got = (s.log.held.filter (fun p => decide (fieldAt r.payload 0 6 ≤ p.1))).take (fieldAt r.payload 8 2))
    (hbad : got.any (fun p => !(s.nv.badIn (logBase + p.2 * 64) 64).isEmpty) = true) :
    logReadBody r s = (State.each got (fun p t => t.unread (logBase + p.2 * 64) 64) s).fail .nvFault := by
  subst hgot
  exact if_pos hbad

theorem Logbook.push_slots (l : Logbook) (x : LogRec) : (l.push x).slots = l.slots := by
  unfold Logbook.push; (repeat' split) <;> rfl

theorem State.unread_logSlots (base len : Nat) (s : State) : (s.unread base len).log.slots = s.log.slots :=
  State.each_keeps (fun u : State => u.log.slots) _ _ _ fun _ _ => Logbook.push_slots ..

theorem State.unread_flights (base len : Nat) (s : State) : (s.unread base len).mb.flights = s.mb.flights :=
  State.each_keeps (fun u : State => u.mb.flights) _ _ _ fun _ _ => rfl

/-- Records that cannot be read: the read raises its records, and the Logbook's slots stay as they are. -/
theorem logRead_faults {got : List (Nat × Nat)} (h : Safety.Asks true 3 16 r t) (hc : opLogRead.check r t = none)
    (hgot : got = (t.log.held.filter (fun p => decide (fieldAt r.payload 0 6 ≤ p.1))).take (fieldAt r.payload 8 2))
    (hbad : got.any (fun p => !(t.nv.badIn (logBase + p.2 * 64) 64).isEmpty) = true) :
    ∃ u, Host.Outcome.next (serve opLogRead r t) = (Host.Outcome.next u : Host.Outcome State Fault Refusal) ∧
      Safety.Replied r .nvFault [] u ∧ u.log.slots = t.log.slots := by
  obtain ⟨w, hw, hrep, heq⟩ := exists_replied h hc (logReadBody_of_bad (s := t.addFlight opLogRead r) hgot hbad) (Nat.zero_le _)
    (State.each_keeps (fun u : State => u.mb.flights) _ _ _ fun _ _ => State.unread_flights ..)
  refine ⟨w, hw, hrep, ?_⟩
  rw [heq]
  exact State.each_keeps (fun u : State => u.log.slots) _ _ _ fun _ _ => State.unread_logSlots ..

theorem logAckBody_of_old (hseq : fieldAt r.payload 0 6 ≤ s.bin.ackSeq) : logAckBody r s = s.ok := if_pos hseq

/-- What a store write answers, and what it leaves in the store, depend on the store alone (R443, R451). -/
theorem State.saveNow_of_nv {q : SaveReq} {u : State} (h : u.nv = s.nv) :
    (u.saveNow q).1 = (s.saveNow q).1 ∧ (u.saveNow q).2.nv = (s.saveNow q).2.nv := by
  unfold State.saveNow
  rw [h]
  split
  · exact ⟨rfl, h⟩
  · split
    · exact ⟨rfl, h⟩
    · split <;> exact ⟨rfl, rfl⟩

/-- LOG_ACK of a new SEQ whose write stands (R466). -/
theorem logAckBody_of_done {b : Binnacle} {u : State} (hseq : s.bin.ackSeq < fieldAt r.payload 0 6)
    (hb : b = { s.bin with ackSeq := fieldAt r.payload 0 6 }) (hsave : s.saveNow b.save = (.done, u)) :
    logAckBody r s = (State.record3 3 1 0x0003 (le 6 (fieldAt r.payload 0 6)) 0
      { u with bin := b, log.windows := u.log.windows.filter (fun w => decide (fieldAt r.payload 0 6 < w)) }).ok := by
  subst hb
  simp only [logAckBody, Nat.not_le.mpr hseq, if_false, hsave]

theorem logAckBody_of_refused {b : Binnacle} {st : Status} {u : State} (hseq : s.bin.ackSeq < fieldAt r.payload 0 6)
    (hb : b = { s.bin with ackSeq := fieldAt r.payload 0 6 }) (hsave : s.saveNow b.save = (st, u)) (hst : st ≠ .done) :
    logAckBody r s = u.fail st := by
  subst hb
  simp only [logAckBody, Nat.not_le.mpr hseq, if_false, hsave]

theorem logAck_stores {b : Binnacle} {u : State} (h : Safety.Asks true 3 8 r t) (hc : opLogAck.check r t = none)
    (hseq : t.bin.ackSeq < fieldAt r.payload 0 6) (hb : b = { t.bin with ackSeq := fieldAt r.payload 0 6 })
    (hsave : t.saveNow b.save = (.done, u)) :
    ∃ v, Host.Outcome.next (serve opLogAck r t) = (Host.Outcome.next v : Host.Outcome State Fault Refusal) ∧
      Safety.Replied r .done [] v ∧ v.bin = b ∧ v.nv = u.nv := by
  obtain ⟨hstatus, hnv⟩ := State.saveNow_of_nv (q := b.save) (u := t.addFlight opLogAck r) (s := t) rfl
  have hsaved : (t.addFlight opLogAck r).saveNow b.save = (.done, ((t.addFlight opLogAck r).saveNow b.save).2) :=
    Prod.ext (by rw [hstatus, hsave]) rfl
  obtain ⟨w, hw, hrep, heq⟩ := exists_replied h hc (logAckBody_of_done (s := t.addFlight opLogAck r) hseq hb hsaved)
    (Nat.zero_le _) (congrArg Mailbox.flights (State.saveNow_mb ..))
  refine ⟨w, hw, hrep, ?_⟩
  rw [hsave] at hnv
  rw [heq]
  exact ⟨rfl, hnv⟩

theorem logAck_refused {b : Binnacle} {st : Status} {u : State} (h : Safety.Asks true 3 8 r t) (hc : opLogAck.check r t = none)
    (hseq : t.bin.ackSeq < fieldAt r.payload 0 6) (hb : b = { t.bin with ackSeq := fieldAt r.payload 0 6 })
    (hsave : t.saveNow b.save = (st, u)) (hst : st ≠ .done) :
    ∃ v, Host.Outcome.next (serve opLogAck r t) = (Host.Outcome.next v : Host.Outcome State Fault Refusal) ∧
      Safety.Replied r st [] v ∧ v.bin.ackSeq = t.bin.ackSeq := by
  obtain ⟨hstatus, -⟩ := State.saveNow_of_nv (q := b.save) (u := t.addFlight opLogAck r) (s := t) rfl
  have hsaved : (t.addFlight opLogAck r).saveNow b.save = (st, ((t.addFlight opLogAck r).saveNow b.save).2) :=
    Prod.ext (by rw [hstatus, hsave]) rfl
  obtain ⟨w, hw, hrep, heq⟩ := exists_replied h hc (logAckBody_of_refused (s := t.addFlight opLogAck r) hseq hb hsaved hst)
    (Nat.zero_le _) (congrArg Mailbox.flights (State.saveNow_mb ..))
  refine ⟨w, hw, hrep, ?_⟩
  rw [heq]
  exact congrArg Binnacle.ackSeq (State.saveNow_bin b.save (t.addFlight opLogAck r))

/-! ### The concordance (R62, R406) -/

theorem opConcordRead_check (h : Safety.Asks true 4 8 r t) (hready : t.rdy Rdy.meridian = true) (htarget : r.target = 0)
    (hcount : 1 ≤ fieldAt r.payload 4 1 ∧ fieldAt r.payload 4 1 ≤ 64) (hzero : allZero (r.payload.drop 5) = true) :
    opConcordRead.check r t = none := by
  have hr : t.rdy r.fn = true := h.fn ▸ hready
  apply OpDef.check_eq_none h <;> simp [opConcordRead, htarget, hr, hcount, hzero]

theorem concordReadBody_eq {got : List Concord} (hgot : got = (s.mer.concord.filter (fun p => p.seq == fieldAt r.payload 0 4 ||
      newer 32 p.seq (fieldAt r.payload 0 4))).take (fieldAt r.payload 4 1)) :
    concordReadBody r s = s.ok (le 4 ((got.getLast?.map (fun p => (p.seq + 1) % 2 ^ 32)).getD (s.mer.concordSeq + 1).toNat) ++
      le 1 got.length ++ le 3 0 ++ got.flatMap Concord.bytes) := by
  simp only [concordReadBody, ← hgot]
  cases got.getLast? <;> rfl

end

/-- Settles O45: each operation meets its checks (R21), and its body does what its rule says. -/
theorem almanacAndLogOperations : Obligations.AlmanacAndLogOperations := by
  unfold Obligations.AlmanacAndLogOperations
  refine ⟨?_, ?_, ?_, ?_, ?_, ?_, ?_, ?_, ?_, ?_, ?_, ?_⟩
  · intro a r m s t ht h hready htarget hm
    subst ht hm
    exact congrArg _ (almanacRead_reads h (opAlmanacRead_check h hready htarget))
  · intro a r s t ht h hready htarget hzero
    subst ht
    exact congrArg _ (serve_accepted _ _ _ _ h.asks.serves h.asks.barrier (opAlmanacWrite_check h hready htarget hzero) rfl)
  · intro a r v s t ht h hready htarget hzero hv hle
    subst ht hv
    exact almanacTrim_sets h.asks (opAlmanacTrim_check h hready htarget hzero hle) hle
  · intro a r s t ht h hready htarget hn hen hzero htail
    subst ht
    exact congrArg _ (serve_accepted _ _ _ _ h.asks.serves h.asks.barrier
      (opAlmanacAlarm_check h hready htarget hn hen hzero htail) rfl)
  · intro a r s t ht h hready htarget hcount hin hzero
    subst ht
    exact congrArg _ (serve_ok h (opBackupRead_check h hready htarget hcount hin hzero) rfl)
  · intro a r s t ht h hready htarget hin hzero
    subst ht
    exact congrArg _ (backupWrite_writes h.asks (opBackupWrite_check h hready htarget hin hzero))
  · intro a r got oldest next s t ht h hready htarget hzero htail hcount hgot hbad holdest hnext
    subst ht holdest hnext
    exact congrArg _ (serve_ok h (opLogRead_check h hready htarget hzero htail hcount)
      (logReadBody_of_readable (s := (s.advance a).addFlight opLogRead r) hgot hbad))
  · intro a r got s t ht h hready htarget hzero htail hcount hgot hbad
    subst ht
    exact logRead_faults h (opLogRead_check h hready htarget hzero htail hcount) hgot hbad
  · intro a r s t ht h hready htarget hzero hseq hold
    subst ht
    exact congrArg _ (serve_ok h.asks (opLogAck_check h hready htarget hzero hseq)
      (logAckBody_of_old (s := (s.advance a).addFlight opLogAck r) hold))
  · intro a r b u s t ht h hready htarget hzero hseq hnew hb hsave
    subst ht
    exact logAck_stores h.asks (opLogAck_check h hready htarget hzero hseq) hnew hb hsave
  · intro a r b st u s t ht h hready htarget hzero hseq hnew hb hsave hst
    subst ht
    exact logAck_refused h.asks (opLogAck_check h hready htarget hzero hseq) hnew hb hsave hst
  · intro a r got next s t ht h hready htarget hcount hzero hgot hnext
    subst ht hnext
    exact congrArg _ (serve_ok h (opConcordRead_check h hready htarget hcount hzero)
      (concordReadBody_eq (s := (s.advance a).addFlight opConcordRead r) hgot))

end Sys2Proof.Machine

/-! PROOFS. The Waypoint operations and the plan cycle, occupancy updates and saved HOST values (R99, R170–R194). -/

namespace Sys2Proof.Machine

section
variable {a : At} {r : Req} {s t : State}

/-! ### The Waypoint operations (R170, R172, R179, R193) -/

theorem wpOff_eq_false (hon : t.cfgN Fid.WP_ENABLE ≠ 0) : wpOff t r = false := by simp [wpOff, hon]

theorem opWpForecast_check (h : Safety.Asks false 14 392 r t) (hholds : Safety.Holds t) (htarget : r.target = 0)
    (hon : t.cfgN Fid.WP_ENABLE ≠ 0) (hready : t.rdy Rdy.waypoint = true) (hstart : t.wpStartOk r = true) :
    opWpForecast.check r t = none := by
  have hr : t.rdy r.fn = true := h.fn ▸ hready
  apply OpDef.check_eq_none h <;> simp [opWpForecast, hholds, htarget, hr, hstart, wpOff_eq_false hon]

theorem opWpTariff_check (h : Safety.Asks false 14 200 r t) (hholds : Safety.Holds t) (htarget : r.target = 0)
    (hon : t.cfgN Fid.WP_ENABLE ≠ 0) (hready : t.rdy Rdy.waypoint = true) (hstart : t.wpStartOk r = true) :
    opWpTariff.check r t = none := by
  have hr : t.rdy r.fn = true := h.fn ▸ hready
  apply OpDef.check_eq_none h <;> simp [opWpTariff, hholds, htarget, hr, hstart, wpOff_eq_false hon]

theorem opWpReplan_check (h : Safety.Asks false 14 0 r t) (hholds : Safety.Holds t) (htarget : r.target = 0)
    (hon : t.cfgN Fid.WP_ENABLE ≠ 0) (hready : t.rdy Rdy.waypoint = true) : opWpReplan.check r t = none := by
  have hr : t.rdy r.fn = true := h.fn ▸ hready
  apply OpDef.check_eq_none h <;> simp [opWpReplan, hholds, htarget, hr, wpOff_eq_false hon]

theorem opWpStatus_check (h : Safety.Asks false 14 0 r t) (htarget : r.target = 0) (hon : t.cfgN Fid.WP_ENABLE ≠ 0)
    (hread : wpReadable t r = true) : opWpStatus.check r t = none := by
  apply OpDef.check_eq_none h <;> simp [opWpStatus, htarget, hread, wpOff_eq_false hon]

theorem opWpTrajectory_check (h : Safety.Asks false 14 0 r t) (hsig : t.sigTarget r = true) (href : sigOf r / 16 = 3)
    (hon : t.cfgN Fid.WP_ENABLE ≠ 0) (hread : wpReadable t r = true) (hpresent : t.present (zoneOf r) = true) :
    opWpTrajectory.check r t = none := by
  apply OpDef.check_eq_none h <;> simp [opWpTrajectory, hsig, href, hread, hpresent, wpOff_eq_false hon]

/-- A request that executes, answered DONE without payload: the state is what its operation leaves. -/
theorem serve_done {d : OpDef} {fb : Bool} {fn len : Nat} {u : State} (h : Safety.Asks fb fn len r t) (hc : d.check r t = none)
    (hbody : d.body r (t.addFlight d r) = (Safety.accepted d r t u, some (t.resp .done))) (hf : u.mb.flights = t.mb.flights) :
    serve d r t = Safety.answered d r .done [] t u :=
  serve_answered d r t u .done [] h.serves h.barrier hc h.tag (by decide) hbody hf

theorem opWpTrajectory_body_of_planned
    (hplan : (s.wpPlanned (zoneOf r) (sigOf r % 16) && (s.plan.traj.get (zoneOf r * 16 + sigOf r % 16)).present) = true) :
    opWpTrajectory.body r s = s.ok (s.trajBytes (zoneOf r) (sigOf r % 16)) := if_pos hplan

theorem opWpTrajectory_body_of_none
    (hplan : (s.wpPlanned (zoneOf r) (sigOf r % 16) && (s.plan.traj.get (zoneOf r * 16 + sigOf r % 16)).present) = false) :
    opWpTrajectory.body r s = s.fail .notReady := if_neg (Bool.eq_false_iff.mp hplan)

/-! ### The plan cycle (R174, R179–R181, R194) -/

/-- PLAN_START of a due plan with its model (R179). -/
theorem execPlanStart_of_due (ht : t = s.advance a) (hruns : t.planRuns = true) (hgrain : t.grain = 0) (hdue : t.planDue = true)
    (hidle : t.plan.running = false) (hmodel : t.plan.modelDue = false) (hrate : t.plan.modelRate ≠ 0) (hocc : t.occFirst = false) :
    execPlanStart a s = .next { t with plan := { t.plan with
      running := true, taken := false, replan := false, startStamp := t.now, startTicks := t.alm.count.toNat
      start := t.alm.count.toNat / planStep * planStep, epoch := t.alm.epoch.toNat, lastTicks := some t.alm.count.toNat
      lastStart := t.now, runModel := t.plan.model } } := by
  unfold execPlanStart
  rw [← ht]
  exact congrArg _ (if_pos (by simp [hruns, hgrain, hdue, hidle, hmodel, hrate, hocc]))

/-- PLAN_COMPLETE of a plan that has taken its start state (R180). -/
theorem execPlanComplete_of_taken {us : Nat} (ht : t = s.advance a) (hrun : t.plan.running = true) (htaken : t.plan.taken = true)
    (hocc : t.occFirst = false) :
    execPlanComplete a us s = .next { t with plan := { t.plan with running := false, readySet := true, readyTime := us } } := by
  unfold execPlanComplete
  rw [← ht]
  exact congrArg _ (if_pos (by simp [hrun, htaken, hocc]))

/-- A plan discarded neither runs nor waits for its publication; nothing else of the planner's state changes (R179). -/
theorem State.discardPlan_plan (cause : Nat) (s : State) :
    (s.discardPlan cause).plan = { s.plan with running := false, readySet := false } := by
  unfold State.discardPlan
  split
  · rfl
  · rename_i hnone
    obtain ⟨hrun, hset⟩ : s.plan.running = false ∧ s.plan.readySet = false := by simpa using hnone
    calc s.plan = { s.plan with running := s.plan.running, readySet := s.plan.readySet } := rfl
      _ = { s.plan with running := false, readySet := false } := by rw [hrun, hset]

/-- PLAN_DISCARDED where the planner may not run: a plan there is discarded, and a new one asked (R179). -/
theorem execPlanDiscarded_of_idle (ht : t = s.advance a) (h : t.planRuns = false) :
    execPlanDiscarded a s = .next { t.discardPlan 3 with plan.replan := true } := by
  have hskip : (if t.plan.running || t.plan.readySet then t.discardPlan 3 else t) = t.discardPlan 3 := by
    unfold State.discardPlan
    split <;> rfl
  simp only [execPlanDiscarded, ← ht, h, hskip, Bool.false_eq_true, if_false]

theorem execPlanDiscarded_discards (ht : t = s.advance a) (h : t.planRuns = false) :
    ∃ u, execPlanDiscarded a s = .next u ∧ u.plan = { t.plan with running := false, readySet := false, replan := true } :=
  ⟨_, execPlanDiscarded_of_idle ht h, congrArg (fun p : Plan => { p with replan := true }) (State.discardPlan_plan 3 t)⟩

theorem execPlanModelDerived_derives {us : Nat} (ht : t = s.advance a) (hready : t.rdy Rdy.helm = true)
    (hwanted : t.planModelWanted = true) :
    ∃ u, execPlanModelDerived a us s = .next u ∧ u.plan = { t.plan with
      model := t.planFloor, modelN := t.planSamples, modelRate := t.pointRate, modelDue := false } := by
  simp only [execPlanModelDerived, ← ht, hready, hwanted, Bool.and_self, if_true]
  exact ⟨_, rfl, rfl⟩

theorem dedup_isEmpty (xs : List Nat) : (dedup xs).isEmpty = xs.isEmpty := by
  fun_induction dedup xs with
  | case1 => rfl
  | case2 => rfl
  | case3 x r ih => exact ih
  | case4 => rfl

/-- PLAN_STALE notes a trajectory older than WP_MAX_AGE: as soon as there is one, the list of zones with one is not empty (R194). -/
theorem execPlanStale_notes {x : Nat × Traj} (ht : t = s.advance a) (hready : t.rdy Rdy.waypoint = true)
    (hnew : t.plan.staleNoted = false) (hx : x ∈ t.plan.traj) (hold : t.olderThan x.2.publish (t.cfgN Fid.WP_MAX_AGE) = true) :
    ∃ u, execPlanStale a s = .next u ∧ u.plan = { t.plan with staleNoted := true } := by
  have hsome : (t.plan.traj.filter (fun y => t.olderThan y.2.publish (t.cfgN Fid.WP_MAX_AGE))).isEmpty = false :=
    List.isEmpty_eq_false_iff_exists_mem.mpr ⟨x, List.mem_filter.mpr ⟨hx, hold⟩⟩
  simp only [execPlanStale, ← ht, hready, hnew, dedup_isEmpty, List.isEmpty_map, hsome, Bool.not_false, Bool.and_self, if_true]
  exact ⟨_, rfl, rfl⟩

/-- OCC_UPDATE at a turn boundary that is a multiple of 64 (R186). -/
theorem execOccUpdate_of_due (ht : t = s.advance a) (hhelm : t.rdy Rdy.helm = true) (hservices : t.rdy Rdy.services = true)
    (hpeer : t.peerHolds = false) (hgrain : t.grain = 0) (hturn : t.turn % 64 = 0) :
    execOccUpdate a s = .next (State.each t.occZones State.occZone t) := by
  unfold execOccUpdate
  rw [← ht]
  exact congrArg _ (if_pos (by simp [hhelm, hservices, hpeer, hgrain, hturn]))

/-! ### The end of a step (R190) -/

@[simp] theorem State.learnZone_plan (cls i z : Nat) (s : State) : (State.learnZone cls i z s).plan = s.plan := by
  unfold State.learnZone; dsimp only; split <;> rfl

@[simp] theorem State.saveProfile_plan (z : Nat) (s : State) : (State.saveProfile z s).plan = s.plan := rfl

@[simp] theorem State.forecastEnds_plan (s : State) : (State.forecastEnds s).plan = s.plan := by
  unfold State.forecastEnds; (repeat' split) <;> rfl

/-- What PLAN_STEP_END does once step `n` follows step `m`: the zones learn, every sixteenth step their profiles are saved, and
a forecast may end. -/
def State.stepEnds (m n : Nat) (s : State) : State :=
  let u := State.each s.occZones (State.learnZone (s.dayClass m) (m % 96)) { s with plan.lastStep := some n }
  (if n % 16 = 0 then State.each u.occZones State.saveProfile u else u).forecastEnds

theorem State.stepEnds_plan (m n : Nat) (s : State) : (s.stepEnds m n).plan = { s.plan with lastStep := some n } := by
  have hlearn := State.each_keeps State.plan s.occZones (State.learnZone (s.dayClass m) (m % 96))
    { s with plan.lastStep := some n } (State.learnZone_plan _ _)
  unfold State.stepEnds
  rw [State.forecastEnds_plan]
  split
  · rw [State.each_keeps State.plan _ _ _ State.saveProfile_plan, hlearn]
  · exact hlearn

theorem execPlanStepEnd_of_first (ht : t = s.advance a) (hready : t.rdy Rdy.almanac = true) (hlast : t.plan.lastStep = none) :
    execPlanStepEnd a s = .next { t with plan.lastStep := some (t.alm.count.toNat / planStep) } := by
  simp only [execPlanStepEnd, ← ht, hready, hlast, Bool.not_true, Bool.false_eq_true, if_false]

theorem execPlanStepEnd_of_next {m : Nat} (ht : t = s.advance a) (hready : t.rdy Rdy.almanac = true)
    (hlast : t.plan.lastStep = some m) (hne : m ≠ t.alm.count.toNat / planStep) :
    execPlanStepEnd a s = .next (t.stepEnds m (t.alm.count.toNat / planStep)) := by
  simp only [execPlanStepEnd, ← ht, hready, hlast, hne, Bool.not_true, Bool.false_eq_true, if_false, State.stepEnds]

theorem execPlanStepEnd_of_same (ht : t = s.advance a)
    (h : t.rdy Rdy.almanac = false ∨ t.plan.lastStep = some (t.alm.count.toNat / planStep)) : execPlanStepEnd a s = .next t := by
  unfold execPlanStepEnd
  rw [← ht]
  rcases h with hclear | hlast
  · simp [hclear]
  · simp [hlast]

theorem execPlanStepEnd_lastStep (ht : t = s.advance a) (hready : t.rdy Rdy.almanac = true) :
    ∃ u, execPlanStepEnd a s = .next u ∧ u.plan.lastStep = some (t.alm.count.toNat / planStep) := by
  cases hlast : t.plan.lastStep with
  | none => exact ⟨_, execPlanStepEnd_of_first ht hready hlast, rfl⟩
  | some m =>
    by_cases hm : m = t.alm.count.toNat / planStep
    · subst hm
      exact ⟨_, execPlanStepEnd_of_same ht (.inr hlast), hlast⟩
    · exact ⟨_, execPlanStepEnd_of_next ht hready hlast hm, congrArg Plan.lastStep (State.stepEnds_plan ..)⟩

/-! ### Saved HOST values (R99) -/

/-- The save of one zone's HOST values: they are no longer changed, and their record is written. -/
def State.saveHost (z : Nat) (s : State) : State :=
  State.save { typ := 0x0003, key := z, payload := (s.zio.get z).saved }
    { s with zio := s.zio.upd z (fun o => { o with dirty := false }) }

theorem State.saveHost_zio (z : Nat) (s : State) : (s.saveHost z).zio = s.zio.upd z (fun o => { o with dirty := false }) := rfl

/-- A save marks no zone as changed. -/
theorem State.saveHost_dirty {z y : Nat} (h : y = z ∨ (s.zio.get y).dirty = false) :
    ((s.saveHost z).zio.get y).dirty = false := by
  rw [State.saveHost_zio]
  by_cases hy : y = z
  · rw [hy, Tbl.get_upd_same]
  · rw [Tbl.get_upd_other _ _ _ _ hy]
    exact h.resolve_left hy

theorem State.each_saveHost_dirty (zs : List Nat) {y : Nat} (h : y ∈ zs ∨ (s.zio.get y).dirty = false) :
    ((State.each zs State.saveHost s).zio.get y).dirty = false := by
  induction zs generalizing s with
  | nil => exact h.resolve_left List.not_mem_nil
  | cons z zs ih =>
    rw [State.each_cons]
    by_cases hy : y ∈ zs
    · exact ih (.inl hy)
    · exact ih (.inr (State.saveHost_dirty (h.imp_left fun hmem => (List.mem_cons.mp hmem).resolve_right hy)))

theorem execHostValueSave_of_due (ht : t = s.advance a) (hready : t.rdy Rdy.nvstore = true) (hgrain : t.grain = 0)
    (hturn : t.turn % 64 = 0) :
    execHostValueSave a s = .next (State.each (t.zonesPresent.filter (fun z => (t.zio.get z).dirty)) State.saveHost t) := by
  unfold execHostValueSave
  rw [← ht]
  exact congrArg _ (if_pos (by simp [hready, hgrain, hturn]))

theorem execHostValueSave_saves (ht : t = s.advance a) (hready : t.rdy Rdy.nvstore = true) (hgrain : t.grain = 0)
    (hturn : t.turn % 64 = 0) :
    ∃ u, execHostValueSave a s = .next u ∧ ∀ z, z ∈ t.zonesPresent → (u.zio.get z).dirty = false := by
  refine ⟨_, execHostValueSave_of_due ht hready hgrain hturn, fun z hz => State.each_saveHost_dirty _ ?_⟩
  cases hdirty : (t.zio.get z).dirty with
  | false => exact .inr rfl
  | true => exact .inl (List.mem_filter.mpr ⟨hz, hdirty⟩)

end

/-- Settles O48: each operation meets its checks (R21), and each event whose guard holds does what its rule says. -/
theorem forecastOperationsAndPlans : Obligations.ForecastOperationsAndPlans := by
  unfold Obligations.ForecastOperationsAndPlans
  refine ⟨?_, ?_, ?_, ?_, ?_, ?_, ?_, ?_, ?_, ?_, ?_, ?_, ?_, ?_, ?_⟩
  · intro a r s t ht h hholds htarget hon hready hstart
    subst ht
    refine congrArg _ (serve_done h (opWpForecast_check h hholds htarget hon hready hstart) ?_ ?_) <;> rfl
  · intro a r s t ht h hholds htarget hon hready hstart
    subst ht
    refine congrArg _ (serve_done h (opWpTariff_check h hholds htarget hon hready hstart) ?_ ?_) <;> rfl
  · intro a r s t ht h hholds htarget hon hready
    subst ht
    refine congrArg _ (serve_done h (opWpReplan_check h hholds htarget hon hready) ?_ ?_) <;> rfl
  · intro a r s t ht h htarget hon hread
    subst ht
    exact congrArg _ (serve_ok h (opWpStatus_check h htarget hon hread) rfl)
  · intro a r s t ht h hsig href hon hread hpresent hplan
    subst ht
    exact congrArg _ (serve_ok h (opWpTrajectory_check h hsig href hon hread hpresent)
      (opWpTrajectory_body_of_planned (s := (s.advance a).addFlight opWpTrajectory r) hplan))
  · intro a r s t ht h hsig href hon hread hpresent hplan
    subst ht
    exact congrArg _ (serve_answered _ _ _ _ _ _ h.serves h.barrier
      (opWpTrajectory_check h hsig href hon hread hpresent) h.tag (by decide)
      (opWpTrajectory_body_of_none (s := (s.advance a).addFlight opWpTrajectory r) hplan) rfl)
  · intro a c s t ht hruns hgrain hdue hidle hmodel hrate hocc hc
    subst hc
    exact execPlanStart_of_due ht hruns hgrain hdue hidle hmodel hrate hocc
  · exact fun _ _ _ _ => execPlanComplete_of_taken
  · exact fun _ _ _ => execPlanDiscarded_discards
  · exact fun _ _ _ _ => execPlanModelDerived_derives
  · exact fun _ _ _ _ => execPlanStale_notes
  · exact fun _ _ _ => execOccUpdate_of_due
  · exact fun _ _ _ => execPlanStepEnd_lastStep
  · exact fun _ _ _ => execPlanStepEnd_of_same
  · exact fun _ _ _ => execHostValueSave_saves

end Sys2Proof.Machine

/-! PROOFS. The operations on the Helm banks and their diagnostics, and the saved banks (R124–R134, R155–R157, R162). -/

namespace Sys2Proof.Machine

section
variable {a : At} {r : Req} {k n : Nat} {s t : State}

/-! ### HELM_READ and HELM_WRITE (R124–R128) -/

theorem opHelmRead_check (h : Safety.Commands false 13 8 r t) (hrange : bankRange r = true)
    (htarget : blockTarget r.target = some (k, n)) (hon : t.blockOn k n = true) (hready : t.rdy Rdy.helm = true) :
    opHelmRead.check r t = none := by
  have hr : t.rdy r.fn = true := h.asks.fn ▸ hready
  apply OpDef.check_eq_none h.asks <;> simp [opHelmRead, hrange, htarget, hon, hr, h.expert]

theorem opHelmRead_body (htarget : blockTarget r.target = some (k, n)) :
    opHelmRead.body r s = s.ok (le 1 (s.helm.phys (fieldAt r.payload 0 1 == 1)) ++ le 3 0 ++
      (upTo (fieldAt r.payload 4 2)).flatMap (fun i =>
        le 4 ((s.helm.bank (fieldAt r.payload 0 1 == 1)).word k n (fieldAt r.payload 2 2 / 4 + i)).toNat)) := by
  simp only [opHelmRead, htarget]

theorem opHelmWrite_check (h : Safety.Commands false 13 (8 + 4 * fieldAt r.payload 4 2) r t) (hholds : Safety.Holds t)
    (hrange : bankRange r = true) (htarget : blockTarget r.target = some (k, n)) (hon : t.blockOn k n = true)
    (hready : t.rdy Rdy.helm = true)
    (hwords : ((wordsOf (r.payload.drop 8)).zipIdx).all (fun x => wordAllowed k (fieldAt r.payload 2 2 / 4 + x.2) x.1) = true) :
    opHelmWrite.check r t = none := by
  have hr : t.rdy r.fn = true := h.asks.fn ▸ hready
  have hfits : opHelmWrite.fits r = true := beq_iff_eq.mpr h.asks.len
  have hcontent : opHelmWrite.content t r = true := by simp only [opHelmWrite, htarget, hrange, hwords, Bool.and_self]
  refine OpDef.check_eq_none h.asks (by decide) (decide_eq_true (Nat.le_add_right ..)) hfits (List.mem_singleton.mpr rfl) hcontent
    (fun _ => h.expert) rfl (fun _ => hholds) ?_ hr
  simp [opHelmWrite, htarget, hon]

/-- A write that must wait: to the active bank, or behind other operations (R128). -/
theorem opHelmWrite_body_queues (htarget : blockTarget r.target = some (k, n))
    (hwaits : fieldAt r.payload 0 1 ≠ 1 ∨ s.queueEmpty = false) :
    opHelmWrite.body r s = (s.enqueue [.write true (fieldAt r.payload 0 1 == 1) k n (fieldAt r.payload 2 2 / 4)
      (wordsOf (r.payload.drop 8)) (some (Req.waiter r))], none) := by
  have hguard : (fieldAt r.payload 0 1 == 1 && s.queueEmpty) = false := by
    rcases hwaits with hactive | hqueue
    · simp [hactive]
    · simp [hqueue]
  simp only [opHelmWrite, htarget, hguard, Bool.false_eq_true, if_false]

/-- A write to the shadow bank with nothing before it (R128). -/
theorem opHelmWrite_body_performs (htarget : blockTarget r.target = some (k, n)) (hshadow : fieldAt r.payload 0 1 = 1)
    (hqueue : s.queueEmpty = true) :
    opHelmWrite.body r s = ((s.mirrored (.write true true k n (fieldAt r.payload 2 2 / 4) (wordsOf (r.payload.drop 8))
      (some (Req.waiter r)))).performWrite true true k n (fieldAt r.payload 2 2 / 4) (wordsOf (r.payload.drop 8))
      (some (Req.waiter r)), none) := by
  simp [opHelmWrite, htarget, hshadow, hqueue]

/-! ### BANK_COPY and BANK_SWAP (R132, R133) -/

theorem opBankCopy_check (h : Safety.Commands false 13 0 r t) (hholds : Safety.Holds t) (htarget : r.target = 0x00020000)
    (hready : t.rdy Rdy.helm = true) : opBankCopy.check r t = none := by
  have hr : t.rdy r.fn = true := h.asks.fn ▸ hready
  apply OpDef.check_eq_none h.asks <;> simp [opBankCopy, htarget, hr, h.expert, hholds]

theorem opBankSwap_check (h : Safety.Commands false 13 0 r t) (hholds : Safety.Holds t) (htarget : r.target = 0x00020000)
    (hready : t.rdy Rdy.helm = true) : opBankSwap.check r t = none := by
  have hr : t.rdy r.fn = true := h.asks.fn ▸ hready
  apply OpDef.check_eq_none h.asks <;> simp [opBankSwap, htarget, hr, h.expert, hholds]

theorem execBankCopyComplete_of_copying (ht : t = s.advance a) (hcopying : t.helm.copying.isSome = true) :
    execBankCopyComplete a s = .next { t with helm.copyDone := true } := by
  subst ht
  exact congrArg _ (if_pos hcopying)

/-! ### HELM_DIAG (R162) -/

/-- A zone may be absent; a loop must be enabled. -/
theorem opHelmDiag_check (h : Safety.Commands false 13 0 r t) (htarget : blockTarget r.target = some (k, n)) (hk : k ≤ 1)
    (hon : k = 0 ∨ t.blockOn k n = true) (hready : t.rdy Rdy.helm = true) : opHelmDiag.check r t = none := by
  have hr : t.rdy r.fn = true := h.asks.fn ▸ hready
  have hoff : opHelmDiag.off t r = false := by
    rcases hon with rfl | hon
    · simp [opHelmDiag, htarget]
    · simp [opHelmDiag, htarget, hon]
  refine OpDef.check_eq_none h.asks (by decide) rfl rfl (List.mem_singleton.mpr rfl) ?_ (fun _ => h.expert) rfl
    (fun hholds => absurd hholds (by decide)) hoff hr
  simp [opHelmDiag, htarget, hk]

/-- The accepted request stays in flight while what the diagnostic word shows is cleared. -/
theorem State.clearDiag_addFlight (d : OpDef) : (t.addFlight d r).clearDiag k n = Safety.accepted d r t (t.clearDiag k n) := by
  unfold State.clearDiag; split <;> rfl

theorem State.clearDiag_mb : (t.clearDiag k n).mb = t.mb := by
  unfold State.clearDiag; split <;> rfl

theorem State.clearDiag_now : (t.clearDiag k n).now = t.now := by
  unfold State.clearDiag; split <;> rfl

theorem opHelmDiag_body_of_on (htarget : blockTarget r.target = some (k, n)) (hon : s.blockOn k n = true) :
    opHelmDiag.body r s = (s.clearDiag k n).ok (le 4 (s.diag k n) ++ le 4 0) := by
  simp only [opHelmDiag, htarget, hon, if_true]

theorem opHelmDiag_body_of_absent (htarget : blockTarget r.target = some (k, n)) (hon : s.blockOn k n = false) :
    opHelmDiag.body r s = s.ok (le 8 0) := by
  simp only [opHelmDiag, htarget, hon, Bool.false_eq_true, if_false]

theorem helmDiag_clears (h : Safety.Commands false 13 0 r t) (htarget : blockTarget r.target = some (k, n)) (hk : k ≤ 1)
    (hon : t.blockOn k n = true) (hready : t.rdy Rdy.helm = true) :
    serve opHelmDiag r t = Safety.answered opHelmDiag r .done (le 4 (t.diag k n) ++ le 4 0) t (t.clearDiag k n) := by
  have hbody : opHelmDiag.body r (t.addFlight opHelmDiag r) =
      ((t.addFlight opHelmDiag r).clearDiag k n).ok (le 4 (t.diag k n) ++ le 4 0) :=
    opHelmDiag_body_of_on (s := t.addFlight opHelmDiag r) htarget hon
  refine serve_answered _ _ _ _ _ _ h.asks.serves h.asks.barrier (opHelmDiag_check h htarget hk (.inr hon) hready) h.asks.tag
    (by decide) ?_ (congrArg Mailbox.flights State.clearDiag_mb)
  rw [hbody, State.ok, State.resp, State.clearDiag_now, State.clearDiag_addFlight]
  rfl

theorem blockTarget_of_zone {z : Nat} (h : z < 256) : blockTarget z = some (0, z) := by
  simp [blockTarget, Nat.div_eq_of_lt h, Nat.div_eq_of_lt (h.trans (by decide : 256 < 65536)), Nat.mod_eq_of_lt h]

/-! ### The saved banks (R155–R157) -/

theorem execBankSave_of_due (ht : t = s.advance a) (hgrain : t.grain = 0)
    (hdue : t.helm.changed = true ∧ t.turn % 64 = 0 ∨ t.helm.saveRefused = true ∧ t.turn % 4096 = 0)
    (hstore : t.rdy Rdy.nvstore = true) (hservices : t.rdy Rdy.services = true) (hgood : t.nv.good = true) :
    execBankSave a s = .next t.saveBank := by
  unfold execBankSave
  rw [← ht]
  refine congrArg _ (if_pos ?_)
  rcases hdue with ⟨hchanged, hturn⟩ | ⟨hrefused, hturn⟩
  · simp [hgrain, hstore, hservices, hgood, hchanged, hturn]
  · simp [hgrain, hstore, hservices, hgood, hrefused, hturn]

/-- A save that the store takes: the set is written, and nothing is left to save (R155). -/
theorem State.saveBank_of_put {nv : Nv} (hsize : t.bankSize ≤ 448 * 1024)
    (hput : t.nv.putSet 0x0010 (t.nv.nextGen 0x0010) t.bankMembers = some nv) :
    t.saveBank = { t with nv := nv, helm := { t.helm with changed := false, saveRefused := false } } := by
  simp only [State.saveBank, Nat.not_lt.mpr hsize, if_false, hput]

/-- A turn that is no multiple of 64 is none of 4 096 either, so no save is due in it. -/
theorem execBankSave_of_notDue (ht : t = s.advance a) (h : t.grain ≠ 0 ∨ t.turn % 64 ≠ 0 ∨ t.rdy Rdy.nvstore = false ∨
      t.rdy Rdy.services = false ∨ t.nv.good = false ∨ t.helm.changed = false ∧ t.helm.saveRefused = false) :
    execBankSave a s = .next t := by
  unfold execBankSave
  rw [← ht]
  refine congrArg _ (if_neg ?_)
  rcases h with h | hturn | h | h | h | ⟨hchanged, hrefused⟩
  · simp [h]
  · have hretry : t.turn % 4096 ≠ 0 := by omega
    simp [hturn, hretry]
  · simp [h]
  · simp [h]
  · simp [h]
  · simp [hchanged, hrefused]

theorem State.loadZone_program (z : Nat) (p : List Byte) (s : State) : (s.loadZone z p).helm.program = s.helm.program := by
  simp only [State.loadZone, apply_ite State.helm, apply_ite Helm.program, Helm.bothBanks, ite_self]

theorem State.loadLoop_program (m : Nat) (p : List Byte) (s : State) : (s.loadLoop m p).helm.program = s.helm.program := by
  simp only [State.loadLoop, apply_ite State.helm, apply_ite Helm.program, Helm.bothBanks, ite_self]

theorem State.loadBanks_loaded (s : State) : s.loadBanks.helm.loaded = true := rfl

theorem State.loadBanks_program (s : State) : s.loadBanks.helm.program = s.helm.program := by
  unfold State.loadBanks
  refine (State.each_keeps (fun u : State => u.helm.program) _ _ _ fun _ _ => State.loadLoop_program ..).trans ?_
  exact State.each_keeps (fun u : State => u.helm.program) _ _ _ fun _ _ => State.loadZone_program ..

/-- Without a saved set both banks are left empty (R157). -/
theorem State.loadBanks_of_none (h : s.nv.loadSet 0x0010 = none) :
    s.loadBanks.helm.bank0 = {} ∧ s.loadBanks.helm.bank1 = {} := by
  simp [State.loadBanks, h]

theorem execBankLoaded_of_ready (ht : t = s.advance a) (hstore : t.rdy Rdy.nvstore = true) (hconfig : t.rdy Rdy.config = true)
    (hhelm : t.rdy Rdy.helm = false) (hprogram : t.helmProgram = true) :
    execBankLoaded a s = .next ({ t with helm.program := true } : State).loadBanks := by
  subst ht
  exact congrArg _ (if_pos (by simp [hstore, hconfig, hhelm, hprogram]))

theorem execBankLoaded_loads (ht : t = s.advance a) (hstore : t.rdy Rdy.nvstore = true) (hconfig : t.rdy Rdy.config = true)
    (hhelm : t.rdy Rdy.helm = false) (hprogram : t.helmProgram = true) :
    ∃ u, execBankLoaded a s = .next u ∧ u.helm.loaded = true ∧ u.helm.program = true ∧
      (t.nv.loadSet 0x0010 = none → u.helm.bank0 = {} ∧ u.helm.bank1 = {}) :=
  ⟨_, execBankLoaded_of_ready ht hstore hconfig hhelm hprogram, State.loadBanks_loaded _, State.loadBanks_program _,
    fun hnone => State.loadBanks_of_none (s := { t with helm.program := true }) hnone⟩

theorem execBankLoaded_of_noProgram (ht : t = s.advance a) (hprogram : t.helmProgram = false) :
    execBankLoaded a s = .next t := by
  subst ht
  exact congrArg _ (if_neg (by simp [hprogram]))

end

/-- Settles O39: each operation meets its checks (R21) and does what its body says; the saved banks by the guards of their events. -/
theorem bankOperations : Obligations.BankOperations := by
  unfold Obligations.BankOperations
  refine ⟨?_, ?_, ?_, ?_, ?_, ?_, ?_, ?_, ?_, ?_, ?_, ?_, ?_⟩
  · intro a r k n s t ht h hrange htarget hon hready
    subst ht
    exact congrArg _ (serve_ok h.asks (opHelmRead_check h hrange htarget hon hready)
      (opHelmRead_body (s := (s.advance a).addFlight opHelmRead r) htarget))
  · intro a r k n s t ht h hholds hrange htarget hon hready hwords hwaits
    subst ht
    exact congrArg _ (serve_accepted _ _ _ _ h.asks.serves h.asks.barrier
      (opHelmWrite_check h hholds hrange htarget hon hready hwords)
      (opHelmWrite_body_queues (s := (s.advance a).addFlight opHelmWrite r) htarget hwaits))
  · intro a r k n s t ht h hholds hrange htarget hon hready hwords hshadow hqueue
    subst ht
    exact congrArg _ (serve_accepted _ _ _ _ h.asks.serves h.asks.barrier
      (opHelmWrite_check h hholds hrange htarget hon hready hwords)
      (opHelmWrite_body_performs (s := (s.advance a).addFlight opHelmWrite r) htarget hshadow hqueue))
  · intro a r s t ht h hholds htarget hready
    subst ht
    exact congrArg _ (serve_accepted _ _ _ _ h.asks.serves h.asks.barrier (opBankCopy_check h hholds htarget hready) rfl)
  · intro a r s t ht h hholds htarget hready
    subst ht
    exact congrArg _ (serve_accepted _ _ _ _ h.asks.serves h.asks.barrier (opBankSwap_check h hholds htarget hready) rfl)
  · intro a r k n s t ht h htarget hk hon hready
    subst ht
    exact congrArg _ (helmDiag_clears h htarget hk hon hready)
  · exact fun _ _ _ => execBankCopyComplete_of_copying
  · intro a r s t ht h htarget habsent hready
    subst ht
    have hzone := blockTarget_of_zone htarget
    exact congrArg _ (serve_ok h.asks (opHelmDiag_check h hzone (Nat.zero_le _) (.inl rfl) hready)
      (opHelmDiag_body_of_absent (s := (s.advance a).addFlight opHelmDiag r) hzone habsent))
  · exact fun _ _ _ => execBankSave_of_due
  · intro a s t nv ht hgrain hchanged hturn hstore hservices hgood hsize hput
    exact (execBankSave_of_due ht hgrain (.inl ⟨hchanged, hturn⟩) hstore hservices hgood).trans
      (congrArg _ (State.saveBank_of_put hsize hput))
  · exact fun _ _ _ => execBankSave_of_notDue
  · exact fun _ _ _ => execBankLoaded_loads
  · exact fun _ _ _ => execBankLoaded_of_noProgram

end Sys2Proof.Machine

/-! PROOFS. The area that SOUND_START takes (R196, R197). -/

namespace Sys2Proof

/-! ### Keys below those of a canonical table -/

section
variable {α : Type} [Inhabited α] [DecidableEq α] {t : Tbl α} {lo i k : Nat} {v : α}

theorem Tbl.wfFrom_cons : Tbl.wfFrom lo ((i, v) :: t) = true ↔ lo ≤ i ∧ v ≠ default ∧ Tbl.wfFrom (i + 1) t = true := by
  simp [Tbl.wfFrom, and_assoc]

theorem Tbl.get_of_lt (w : Tbl.wfFrom lo t = true) (hk : k < lo) : t.get k = default := by
  induction t generalizing lo with
  | nil => rfl
  | cons p t ih =>
    obtain ⟨hlo, -, w⟩ := Tbl.wfFrom_cons.mp w
    rw [Tbl.get, if_neg (by omega), ih w (by omega)]

theorem Tbl.erase_of_lt (w : Tbl.wfFrom lo t = true) (hk : k < lo) : t.erase k = t := by
  induction t generalizing lo with
  | nil => rfl
  | cons p t ih =>
    obtain ⟨hlo, -, w⟩ := Tbl.wfFrom_cons.mp w
    rw [Tbl.erase, if_neg (by omega), ih w (by omega)]

end

end Sys2Proof

namespace Sys2Proof.Machine

/-! ### SOUND_START that need not wait -/

/-- The state in which SOUND_START that need not wait looks for its area: a start of the zone that still waited is replaced (R196). -/
def State.sndReplaced (z : Nat) (s : State) : State :=
  State.endInterims (fun i => i.isOp 2 0x0020 z && i.isDeferred) .replaced .done []
    { s with snd.zones := s.snd.zones.upd z (fun o => { o with deferredReq := none }) }

theorem State.sndReplaced_snd (z : Nat) (s : State) :
    (s.sndReplaced z).snd = { s.snd with zones := s.snd.zones.upd z (fun o => { o with deferredReq := none }) } := by
  unfold State.sndReplaced
  rw [State.endInterims_snd]

theorem State.sndTake_of_area {z b : Nat} {p : List Byte} {s : State} (h : s.sndArea = some b) :
    s.sndTake z p = (s.sndAccept z b p, some (s.resp .accepted (s.sndResponse z b p))) := by
  simp only [State.sndTake, h]

theorem State.sndAccept_zone (z b : Nat) (p : List Byte) (s : State) :
    (s.sndAccept z b p).snd.zones.get z = { state := .pending, area := b, request := p } := by
  simp [State.sndAccept]

section
variable {r : Req} {s t : State}

theorem opSoundStart_check (h : Safety.Commands false 15 52 r t) (hholds : Safety.Holds t) (htarget : r.target < 256)
    (hrange : Snd.inRange r.payload = true) (hpresent : t.present r.target = true) (hfits : t.sndFits r.target r.payload = true)
    (hon : t.cfgN Fid.SND_ENABLE ≠ 0) (hallow : t.cfgN Fid.SND_ALLOW r.target ≠ 0)
    (hamp : t.sndNoAmp r.target r.payload = false) (hready : t.rdy Rdy.sounding = true) : opSoundStart.check r t = none := by
  have hr : t.rdy r.fn = true := h.asks.fn ▸ hready
  apply OpDef.check_eq_none h.asks <;>
    simp [opSoundStart, zoneTarget, htarget, hrange, hpresent, hfits, hon, hallow, hamp, hr, h.expert, hholds]

theorem opSoundStart_body {b c : Nat} (hwaits : s.sndWaits r.target r.payload = false) (harea : s.sndArea = some c)
    (hreplaced : (s.sndReplaced r.target).sndArea = some b) :
    opSoundStart.body r s = ((s.sndReplaced r.target).sndAccept r.target b r.payload,
      some ((s.sndReplaced r.target).resp .accepted ((s.sndReplaced r.target).sndResponse r.target b r.payload))) := by
  rw [← State.sndTake_of_area hreplaced]
  simp [opSoundStart, State.sndReplaced, hwaits, harea]

theorem State.sndArea_congr {u : State} (h : u.snd = s.snd) : u.sndArea = s.sndArea := by
  simp only [State.sndArea, h]

theorem State.sndReplaced_response (z area : Nat) (p : List Byte) (s : State) :
    (s.sndReplaced z).sndResponse z area p = s.sndResponse z area p := by
  simp [State.sndReplaced, State.sndResponse, State.sndAmp, State.cfgN]

theorem State.sndResponse_length (z area : Nat) (p : List Byte) (s : State) : (s.sndResponse z area p).length = 20 := by
  simp [State.sndResponse, upTo]

theorem twenty_le_lengthLimit (n : Nat) : 20 ≤ lengthLimit n := by
  unfold lengthLimit; split <;> decide

/-- SOUND_START that need not wait is ACCEPTED into the area that R197 gives once a start of the zone that waited is replaced. -/
theorem soundStart_accepted {b c : Nat} (h : Safety.Asks false 15 52 r t) (hc : opSoundStart.check r t = none)
    (hwaits : t.sndWaits r.target r.payload = false) (harea : t.sndArea = some c)
    (hreplaced : (t.sndReplaced r.target).sndArea = some b) :
    Safety.Replied r .accepted (t.sndResponse r.target b r.payload) (serve opSoundStart r t) ∧
      (serve opSoundStart r t).snd.zones.get r.target = { state := .pending, area := b, request := r.payload } := by
  have hsame : ((t.addFlight opSoundStart r).sndReplaced r.target).sndArea = (t.sndReplaced r.target).sndArea :=
    State.sndArea_congr (by simp only [State.sndReplaced_snd, State.addFlight_snd])
  have hbody := opSoundStart_body (s := t.addFlight opSoundStart r) hwaits harea (hsame.trans hreplaced)
  rw [State.sndReplaced_response] at hbody
  have hflight : Safety.flight opSoundStart r t ∈
      (((t.addFlight opSoundStart r).sndReplaced r.target).sndAccept r.target b r.payload).mb.flights :=
    (State.endInterims_flights ..).symm ▸ State.flight_mem_addFlight opSoundStart r t
  obtain ⟨hreplied, hrest, -⟩ := serve_run opSoundStart r t _ _ h.serves h.barrier hc hbody
    ((State.sndResponse_length ..).trans_le (twenty_le_lengthLimit _)) hflight
  refine ⟨hreplied, ?_⟩
  rw [hrest]
  exact State.sndAccept_zone ..

end

/-! ### A canonical table of the zones: replacing a start leaves the areas that are held -/

/-- A sounding without the start that waits behind it. -/
def Sounding.alone (o : Sounding) : Sounding := { o with deferredReq := none }

/-- The soundings that hold an area, without the starts that wait behind them. -/
def areaHolders (xs : List (Nat × Sounding)) : List Sounding :=
  (xs.filter (fun x => x.2.area != 255)).map (fun x => x.2.alone)

theorem areaHolders_cons (i : Nat) (o : Sounding) (xs : List (Nat × Sounding)) :
    areaHolders ((i, o) :: xs) = if o.area = 255 then areaHolders xs else o.alone :: areaHolders xs := by
  by_cases h : o.area = 255 <;> simp [areaHolders, h]

theorem areaHolders_append (xs ys : List (Nat × Sounding)) : areaHolders (xs ++ ys) = areaHolders xs ++ areaHolders ys := by
  simp [areaHolders]

theorem areaHolders_put {v : Sounding} {t : Tbl Sounding} {lo k : Nat} (w : Tbl.wfFrom lo t = true)
    (harea : v.area = (t.get k).area) (hv : v.alone = (t.get k).alone) : areaHolders (t.put k v) = areaHolders t := by
  induction t generalizing lo with
  | nil => exact (areaHolders_cons k v []).trans (if_pos harea)
  | cons p t ih =>
    obtain ⟨i, o⟩ := p
    obtain ⟨-, -, w⟩ := Tbl.wfFrom_cons.mp w
    rcases lt_trichotomy k i with hlt | rfl | hgt
    · rw [Tbl.get, if_neg (Nat.ne_of_gt hlt), Tbl.get_of_lt w (Nat.lt_succ_of_lt hlt)] at harea
      rw [Tbl.put, if_pos hlt]
      exact (areaHolders_cons ..).trans (if_pos harea)
    · rw [Tbl.get, if_pos rfl] at harea hv
      rw [Tbl.put, if_neg (Nat.lt_irrefl k), if_pos rfl, areaHolders_cons, areaHolders_cons, harea, hv]
    · rw [Tbl.get, if_neg (Nat.ne_of_lt hgt)] at harea hv
      rw [Tbl.put, if_neg (Nat.not_lt_of_gt hgt), if_neg (Nat.ne_of_gt hgt), areaHolders_cons, areaHolders_cons, ih w harea hv]

theorem areaHolders_erase {t : Tbl Sounding} {lo k : Nat} (w : Tbl.wfFrom lo t = true) (hk : (t.get k).area = 255) :
    areaHolders (t.erase k) = areaHolders t := by
  induction t generalizing lo with
  | nil => rfl
  | cons p t ih =>
    obtain ⟨i, o⟩ := p
    obtain ⟨-, -, w⟩ := Tbl.wfFrom_cons.mp w
    by_cases hi : i = k
    · subst hi
      rw [Tbl.get, if_pos rfl] at hk
      rw [Tbl.erase, if_pos rfl, Tbl.erase_of_lt w (Nat.lt_succ_self i), areaHolders_cons, if_pos hk]
    · rw [Tbl.get, if_neg hi] at hk
      rw [Tbl.erase, if_neg hi, areaHolders_cons, areaHolders_cons, ih w hk]

theorem areaHolders_alone {t : Tbl Sounding} (k : Nat) (w : t.wf = true) :
    areaHolders (t.upd k Sounding.alone) = areaHolders t := by
  unfold Tbl.upd Tbl.set
  split
  · rename_i hdefault
    have harea : (t.get k).alone.area = 255 := by rw [hdefault]; rfl
    exact areaHolders_erase w harea
  · exact areaHolders_put w rfl rfl

/-- Of two ended soundings the one that ended first (R197). -/
def olderEnd (best : Option Sounding) (o : Sounding) : Option Sounding :=
  match best with
  | none => some o
  | some b => if o.ended < b.ended then some o else some b

/-- The area of R197 by the soundings that hold one. -/
def freeArea (os : List Sounding) : Option Nat :=
  match (upTo 16).find? (fun a => os.all (fun o => o.area != a)) with
  | some a => some a
  | none => ((os.filter Sounding.over).foldl olderEnd none).map Sounding.area

theorem olderEnd_alone (best : Option Sounding) (o : Sounding) :
    olderEnd (best.map Sounding.alone) o.alone = (olderEnd best o).map Sounding.alone := by
  cases best with
  | none => rfl
  | some b => exact (apply_ite (Option.map Sounding.alone) (o.ended < b.ended) (some o) (some b)).symm

theorem foldl_olderEnd_alone (xs : List (Nat × Sounding)) (best : Option Sounding) :
    (xs.map (fun x => x.2.alone)).foldl olderEnd (best.map Sounding.alone) =
      (xs.foldl (fun b x => olderEnd b x.2) best).map Sounding.alone := by
  induction xs generalizing best with
  | nil => rfl
  | cons x xs ih => rw [List.map_cons, List.foldl_cons, List.foldl_cons, olderEnd_alone, ih]

/-- R197 chooses the area by what the holders of areas are, not by the starts that wait behind them. -/
theorem State.sndArea_eq (s : State) : s.sndArea = freeArea (areaHolders s.snd.all) := by
  let held := s.snd.all.filter (fun x => x.2.area != 255)
  have hfree : (fun n => (areaHolders s.snd.all).all (fun o => o.area != n)) = fun n => held.all (fun x => x.2.area != n) :=
    funext fun n => List.all_map
  have hends : ((areaHolders s.snd.all).filter Sounding.over).foldl olderEnd none =
      ((held.filter (fun x => x.2.over)).foldl (fun b x => olderEnd b x.2) none).map Sounding.alone := by
    rw [areaHolders, List.filter_map]
    exact foldl_olderEnd_alone _ none
  rw [freeArea, hfree, hends, Option.map_map]
  rfl

theorem State.sndReplaced_area {z : Nat} {s : State} (w : s.snd.zones.wf = true) : (s.sndReplaced z).sndArea = s.sndArea := by
  rw [State.sndArea_eq, State.sndArea_eq, State.sndReplaced_snd, Soundings.all, Soundings.all, areaHolders_append, areaHolders_append]
  exact congrArg (fun os => freeArea (os ++ _)) (areaHolders_alone z w)

/-- Where the table of the zones is canonical, SOUND_START takes the area that was R197's before the request. -/
theorem soundStart_takes {area : Nat} {r : Req} {t : State} (h : Safety.Asks false 15 52 r t) (hc : opSoundStart.check r t = none)
    (hwaits : t.sndWaits r.target r.payload = false) (harea : t.sndArea = some area) (w : t.snd.zones.wf = true) :
    Safety.Replied r .accepted (t.sndResponse r.target area r.payload) (serve opSoundStart r t) ∧
      (serve opSoundStart r t).snd.zones.get r.target = { state := .pending, area := area, request := r.payload } :=
  soundStart_accepted h hc hwaits harea ((State.sndReplaced_area w).trans harea)

/-! ### A table of the zones that lists a zone twice -/

/-- A PRBS sounding of zone 0: channel 0 the output, channel 1 the excited input. -/
def startRequest : Req :=
  { fn := 15
    payload := [1, 1, 0, 1] ++ le 2 1024 ++ le 2 64 ++ [5, 1, 0, 0] ++ le 2 0 ++ le 2 16 ++ le 2 0xFFFF ++ le 2 0xFFFF ++
      le 4 100 ++ le 12 0 ++ le 4 0x80000000 ++ le 4 0x80000000 ++ le 4 0x80000000 ++ le 4 0x80000000 }

/-- A ready module with zone 0 open to soundings, whose table of the zones lists zone 0 twice: the first entry, which is what the zone
reads as, is the default, and the second holds area 0. No write makes such a table (Tbl.wf_set); the statement speaks of every state. -/
def twiceListed : State :=
  { State.reset with
    ready := 0x1FFFFFFF
    cfg.values := [(Fid.ZONE_NX, 2), (Fid.ZONE_NU, 1), (Fid.ZONE_NY, 1), (Fid.SND_ENABLE, 1), (Fid.SND_ALLOW, 1), (Fid.SND_AMP_MAX, 500),
      (Fid.U_KIND, 1)].foldl (fun t x => t.set (x.1 * 65536) (some (BitVec.ofNat 32 x.2))) State.reset.cfg.values
    snd.zones := [(0, {}), (0, { state := .accepted, area := 0 })] }

/-- The module after an advance of no time. -/
def twiceListedNow : State := twiceListed.advance {}

theorem startRequest_commands : Safety.Commands false 15 52 startRequest twiceListedNow :=
  ⟨⟨by decide +kernel, by decide +kernel, .inr rfl, by decide +kernel, by decide +kernel, rfl, rfl, by decide +kernel⟩,
    by decide +kernel⟩

theorem twiceListed_holds : Safety.Holds twiceListedNow := ⟨by decide +kernel, rfl⟩
theorem twiceListed_area : twiceListedNow.sndArea = some 1 := by decide +kernel
theorem twiceListed_waits : twiceListedNow.sndWaits 0 startRequest.payload = false := by decide +kernel

/-- The default written back unlists zone 0, its second entry too, and area 0 is free. -/
theorem twiceListed_replaced_area : (twiceListedNow.sndReplaced 0).sndArea = some 0 := by decide +kernel

/-- Refutes O47 by its first clause, in a state whose table of the zones lists a zone twice: State.sndArea counts the second entry as a
holder of area 0 and gives area 1; replacing the zone's waiting start drops both entries, and SOUND_START takes area 0. -/
theorem not_soundingOperationsAndEvents : ¬ Obligations.SoundingOperationsAndEvents := by
  unfold Obligations.SoundingOperationsAndEvents
  intro h
  obtain ⟨hstart, -⟩ := h
  have hrange : Snd.inRange startRequest.payload = true := by decide +kernel
  have hpresent : twiceListedNow.present 0 = true := by decide +kernel
  have hfits : twiceListedNow.sndFits 0 startRequest.payload = true := by decide +kernel
  have hon : twiceListedNow.cfgN Fid.SND_ENABLE ≠ 0 := by decide +kernel
  have hallow : twiceListedNow.cfgN Fid.SND_ALLOW 0 ≠ 0 := by decide +kernel
  have hamp : twiceListedNow.sndNoAmp 0 startRequest.payload = false := by decide +kernel
  have hready : twiceListedNow.rdy Rdy.sounding = true := by decide +kernel
  obtain ⟨u, hu, -, hclaimed⟩ := hstart {} startRequest 1 twiceListed twiceListedNow rfl startRequest_commands twiceListed_holds
    (by decide) hrange hpresent hfits hon hallow hamp hready twiceListed_waits twiceListed_area
  obtain ⟨-, htaken⟩ := soundStart_accepted startRequest_commands.asks
    (opSoundStart_check startRequest_commands twiceListed_holds (by decide) hrange hpresent hfits hon hallow hamp hready)
    twiceListed_waits twiceListed_area twiceListed_replaced_area
  obtain rfl : serve opSoundStart startRequest twiceListedNow = u := Host.Outcome.next.inj hu
  have hareas : (1 : Nat) = 0 := congrArg Sounding.area (hclaimed.symm.trans htaken)
  exact absurd hareas (by decide)

end Sys2Proof.Machine

/-! PROOFS. The conversions and calibrations of the universal inputs (R224, R226, R227, R232, R233, R531). -/

namespace Sys2Proof.Machine

/-! ### The start calibrations and READY (R33, R233) -/

section
variable {old : Word32} {sets clears : List Nat} {n : Nat}

/-- A function that an update sets rises once all it requires is ready after the update (R33). -/
theorem readyNext_of_sets (hn : n < 29) (hset : n ∈ sets) (hclear : n ∉ clears)
    (hreq : ∀ r ∈ requires n, readyBit (readyNext old sets clears) r = true) :
    readyBit (readyNext old sets clears) n = true := by
  have hall : (requires n).all (fun r => readyBit (readyNext old sets clears) r) = true := List.all_eq_true.mpr hreq
  rw [readyNext_bit _ _ _ _ hn, readyRule]
  split
  · exact absurd (List.contains_iff_mem.mp ‹_›) hclear
  · split
    · exact List.all_eq_true.mpr fun r hr => by simp [hreq r hr]
    · simp [hset, hall]

/-- A function that an update does not clear stays ready while all it requires does (R33). -/
theorem readyNext_of_ready (hn : n < 29) (hold : readyBit old n = true) (hclear : n ∉ clears)
    (hreq : ∀ r ∈ requires n, readyBit old r = true → readyBit (readyNext old sets clears) r = true) :
    readyBit (readyNext old sets clears) n = true := by
  rw [readyNext_bit _ _ _ _ hn, readyRule, if_neg (by simpa using hclear), if_pos hold]
  refine List.all_eq_true.mpr fun r hr => ?_
  cases hr' : readyBit old r
  · simp
  · simp [hreq r hr hr']

theorem readyNext_keeps_binnacle (hold : readyBit old Rdy.binnacle = true) (hclear : Rdy.binnacle ∉ clears) :
    readyBit (readyNext old sets clears) Rdy.binnacle = true :=
  readyNext_of_ready (by decide) hold hclear (by simp [requires])

theorem readyNext_keeps_meridian (hold : readyBit old Rdy.meridian = true) (hclear : Rdy.meridian ∉ clears)
    (hbinnacle : Rdy.binnacle ∉ clears) : readyBit (readyNext old sets clears) Rdy.meridian = true :=
  readyNext_of_ready (by decide) hold hclear
    (List.forall_mem_singleton.mpr fun h => readyNext_keeps_binnacle h hbinnacle)

end

/-- UI requires MERIDIAN alone, so it rises where MERIDIAN is set (R33). -/
theorem State.updateReady_sets_ui {s : State} (h : s.rdy Rdy.meridian = true) : (s.updateReady [Rdy.ui] []).rdy Rdy.ui = true := by
  rw [State.rdy, State.updateReady_ready]
  exact readyNext_of_sets (by decide) List.mem_cons_self List.not_mem_nil
    (List.forall_mem_singleton.mpr (readyNext_keeps_meridian h List.not_mem_nil List.not_mem_nil))

/-! ### One rule per command -/

section
variable {a : At} {c n : Nat} {p : Word32} {dev : Int} {x : Integ} {s t : State}

theorem execConversionDone_converts (ht : t = s.advance a) (hc : c < 4) (hended : (t.inp.cores.get c).ended = some x)
    (hinput : x.what < 4) :
    execConversionDone a c p s =
      .next ((t.core c (fun o => { o with ended := none })).convert (4 * c + x.what) x p) := by
  simp only [execConversionDone, ← ht, hended]
  exact congrArg _ (if_pos (by simp [hc, hinput]))

theorem execConversionDone_idle (ht : t = s.advance a) (hnone : (t.inp.cores.get c).ended = none) :
    execConversionDone a c p s = .next t := by
  simp only [execConversionDone, ← ht, hnone]

/-- A turn of the rotation or of a start calibration (`what` 4 or 5), not one on demand (6 or 7), is judged at once (R226, R228). -/
theorem execCalibrationResult_judges (ht : t = s.advance a) (hc : c < 4) (hended : (t.inp.cores.get c).ended = some x)
    (hlow : 4 ≤ x.what) (hhigh : x.what < 6) (hcapture : x.capture = false) :
    execCalibrationResult a c dev s =
      .next ((t.core c (fun o => { o with ended := none })).calJudge c (x.what % 2 == 1) dev) := by
  have hdemand : ¬ 6 ≤ x.what := Nat.not_le.mpr hhigh
  simp only [execCalibrationResult, ← ht, hended, hdemand, hcapture, Bool.false_eq_true, if_false]
  exact congrArg _ (if_pos (by simp [hc, hlow]))

theorem execCalibrationResult_idle (ht : t = s.advance a) (hnone : (t.inp.cores.get c).ended = none) :
    execCalibrationResult a c dev s = .next t := by
  simp only [execCalibrationResult, ← ht, hnone]

theorem execStartCalibration_rises (ht : t = s.advance a) (hmeridian : t.rdy Rdy.meridian = true) (hui : t.rdy Rdy.ui = false)
    (hcores : ∀ c, c < 4 → (t.inp.cores.get c).startZero = true ∧ (t.inp.cores.get c).startGain = true ∧
      (t.inp.cores.get c).cur = none) :
    execStartCalibration a s = .next (t.updateReady [Rdy.ui] []) := by
  have hall : (upTo 4).all (fun c => (t.inp.cores.get c).startZero && (t.inp.cores.get c).startGain &&
      (t.inp.cores.get c).cur.all (fun x => x.what != 5 || decide (x.turn < t.turn))) = true := by
    refine List.all_eq_true.mpr fun c hc => ?_
    obtain ⟨hzero, hgain, hidle⟩ := hcores c (List.mem_range.mp hc)
    simp [hzero, hgain, hidle]
  rw [execStartCalibration, ← ht]
  exact congrArg _ (if_pos (by simp only [hmeridian, hui, hall, Bool.not_false, Bool.and_self]))

theorem execShuntDisconnect_current (ht : t = s.advance a) (hn : n < 16) (htyp : (t.inp.ui.get n).typ = 6) :
    execShuntDisconnect a n s = .next (t.uiIn n (fun u => { u with shuntOff := true })) := by
  rw [execShuntDisconnect, ← ht]
  exact congrArg _ (if_pos (by simp [hn, htyp]))

theorem execShuntDisconnect_other (ht : t = s.advance a) (htyp : (t.inp.ui.get n).typ ≠ 6) :
    execShuntDisconnect a n s = .next t := by
  rw [execShuntDisconnect, ← ht]
  exact congrArg _ (if_neg (by simp [htyp]))

end

/-- Settles O29: each command runs when its conditions hold, and UI rises because MERIDIAN, all that it requires, stays ready. -/
theorem universalInputsConvert : Obligations.UniversalInputsConvert := by
  unfold Obligations.UniversalInputsConvert
  refine ⟨?_, ?_, ?_, ?_, ?_, ?_⟩
  · intro a c p x s t ht hc hended hinput
    exact execConversionDone_converts ht hc hended hinput
  · intro a c dev x s t ht hc hended hlow hhigh hcapture
    exact execCalibrationResult_judges ht hc hended hlow hhigh hcapture
  · intro a c p dev s t ht hnone
    exact ⟨execConversionDone_idle ht hnone, execCalibrationResult_idle ht hnone⟩
  · intro a s t ht hmeridian hui hcores
    exact ⟨_, execStartCalibration_rises ht hmeridian hui hcores, State.updateReady_sets_ui hmeridian⟩
  · intro a n s t ht hn htyp
    exact execShuntDisconnect_current ht hn htyp
  · intro a n s t ht htyp
    exact execShuntDisconnect_other ht htyp

end Sys2Proof.Machine

/-! PROOFS. The runs of the I2C recipes (R237–R240). -/

namespace Sys2Proof.Machine

section
variable {a : At} {n : Nat} {xs : List I2cXfer} {released : Bool} {s t : State}

/-! ### RECIPE_RUN by what its recipe is doing (R237) -/

theorem State.recipeRun_overruns (hdue : s.recipeDue n = true)
    (hbusy : (s.inp.recipes.get n).queued = true ∨ (s.inp.recipes.get n).running = true) :
    s.recipeRun n xs released =
      s.recipe n (fun r => { r with overruns := (r.overruns + 1) % 2 ^ 32, dueTurn := some s.turn }) := by
  unfold State.recipeRun
  exact if_pos (by simp [hdue, hbusy])

theorem State.recipeRun_due (hdue : s.recipeDue n = true) (hidle : (s.inp.recipes.get n).running = false)
    (hnew : (s.inp.recipes.get n).queued = false) (hturn : s.recipeTurn n = true) :
    s.recipeRun n xs released =
      (s.recipe n (fun r => { r with queued := true, dueTurn := some s.turn })).recipeAttempt n 0 xs released := by
  simp [State.recipeRun, hdue, hidle, hnew, hturn]

/-- A recipe that waits keeps the turn it was due for. -/
theorem State.recipeRun_waiting (hdue : s.recipeDue n = false) (hwaits : (s.inp.recipes.get n).queued = true)
    (hturn : s.recipeTurn n = true) :
    s.recipeRun n xs released = (s.recipe n (fun r => { r with queued := true })).recipeAttempt n 0 xs released := by
  simp [State.recipeRun, hdue, hwaits, hturn]

theorem execRecipeRun_on (ht : t = s.advance a) (hon : t.recipeOn n = true) :
    execRecipeRun a n xs released s = .next (t.recipeRun n xs released) := by
  rw [execRecipeRun, ← ht]
  exact congrArg _ (if_pos hon)

/-! ### The repeat and the end of a run (R240) -/

theorem State.recipeRepeats_eq_true (hleft : (s.inp.recipes.get n).attempt < s.cfgN Fid.I2C_RETRY n)
    (hturn : (s.inp.recipes.get n).dueTurn = some s.turn) : s.recipeRepeats n = true := by
  simp [State.recipeRepeats, hleft, hturn]

theorem execRecipeRetry_repeats (ht : t = s.advance a) (hon : t.recipeOn n = true) (hrun : (t.inp.recipes.get n).running = true)
    (hfailed : (t.inp.recipes.get n).outcome.1 ≠ 0) (hrepeats : t.recipeRepeats n = true)
    (hlater : (t.inp.recipes.get n).failedAt + 1000 ≤ t.clock) :
    execRecipeRetry a n xs released s =
      .next (t.recipeAttempt n ((t.inp.recipes.get n).attempt + 1) xs released) := by
  rw [execRecipeRetry, ← ht]
  exact congrArg _ (if_pos (by simp [hon, hrun, hfailed, hrepeats, hlater]))

theorem execRecipeComplete_ends {ago : Nat} (ht : t = s.advance a) (hon : t.recipeOn n = true)
    (hrun : (t.inp.recipes.get n).running = true)
    (hlast : (t.inp.recipes.get n).outcome.1 = 0 ∨ t.recipeRepeats n = false) :
    execRecipeComplete a n ago s = .next (t.recipeEnd n (t.now - BitVec.ofNat 64 ago)) := by
  rw [execRecipeComplete, ← ht]
  exact congrArg _ (if_pos (by simpa [hon, hrun] using hlast))

end

/-- Settles O30: RECIPE_RUN by the three things its recipe can be doing, the repeat and the end by their conditions. -/
theorem i2cRecipes : Obligations.I2cRecipes := by
  unfold Obligations.I2cRecipes
  refine ⟨?_, ?_, ?_, ?_, ?_⟩
  · intro a n xs released s t ht hon hdue hbusy
    exact (execRecipeRun_on ht hon).trans (congrArg _ (State.recipeRun_overruns hdue hbusy))
  · intro a n xs released s t ht hon hdue hidle hnew hturn
    exact (execRecipeRun_on ht hon).trans (congrArg _ (State.recipeRun_due hdue hidle hnew hturn))
  · intro a n xs released s t ht hon hdue hwaits hturn
    exact (execRecipeRun_on ht hon).trans (congrArg _ (State.recipeRun_waiting hdue hwaits hturn))
  · intro a n xs released s t ht hon hrun hfailed hleft hturn hlater
    exact execRecipeRetry_repeats ht hon hrun hfailed (State.recipeRepeats_eq_true hleft hturn) hlater
  · intro a n ago s t ht hon hrun hlast
    exact execRecipeComplete_ends ht hon hrun hlast

end Sys2Proof.Machine

/-! PROOFS. The reads of inputs, channels, outputs, ports, partners and bindings (R243, R273, R295, R335). -/

namespace Sys2Proof.Machine

section
variable {r : Req} {s t : State}

/-- A request that Binnacle does not serve is taken only while SERVICES is set (R370). -/
theorem services_of_asks {fn len : Nat} (h : Safety.Asks false fn len r t) : t.rdy Rdy.services = true := by
  have hside : binnacleSide r.session = false := h.path.resolve_left Bool.false_ne_true
  have hup : t.serverUp r.session = true := (Bool.and_eq_true_iff.mp h.serves).1
  simpa [State.serverUp, hside] using hup

/-! ### Each read meets its checks (R21, R531) -/

theorem opUiRead_check (h : Safety.Asks false 10 0 r t) (htarget : r.target < 16) (hon : t.cfgN Fid.UI_TYPE r.target ≠ 0) :
    opUiRead.check r t = none := by
  apply OpDef.check_eq_none h <;> simp [opUiRead, htarget, hon, services_of_asks h]

theorem opI2cRead_check (h : Safety.Asks false 24 0 r t) (htarget : r.target < 64) (hon : t.cfgN Fid.I2C_BUS r.target ≠ 0) :
    opI2cRead.check r t = none := by
  apply OpDef.check_eq_none h <;> simp [opI2cRead, htarget, hon, services_of_asks h]

theorem fieldGroup_mem {g : Nat} (h : g < 4) : 6 + g ∈ [6, 7, 8, 9] := by
  simp only [List.mem_cons, List.not_mem_nil, or_false]
  omega

theorem opFcRead_check (h : Safety.Asks false (6 + groupOf r.target) 0 r t) (htarget : r.target < 32)
    (hon : t.chRole r.target ≠ 0) : opFcRead.check r t = none := by
  refine OpDef.check_eq_none h id rfl rfl (fieldGroup_mem (Nat.div_lt_of_lt_mul htarget)) ?_ ?_ rfl ?_ ?_ (services_of_asks h) <;>
    simp [opFcRead, chTarget, htarget, hon, h.fn]

theorem opFcEdgeRead_check (h : Safety.Asks false (6 + r.target / 8) 8 r t) (htarget : r.target < 32) (hfirst : r.target % 8 = 0)
    (hcount : 1 ≤ fieldAt r.payload 4 2 ∧ fieldAt r.payload 4 2 ≤ 250) (hzero : allZero (r.payload.drop 6) = true) :
    opFcEdgeRead.check r t = none := by
  refine OpDef.check_eq_none h id rfl rfl (fieldGroup_mem (Nat.div_lt_of_lt_mul htarget)) ?_ ?_ rfl ?_ rfl (services_of_asks h) <;>
    simp [opFcEdgeRead, htarget, hfirst, hcount, hzero, h.fn]

theorem opAoRead_check (h : Safety.Asks false 11 0 r t) (htarget : r.target < 8) (hon : t.cfgN Fid.AO_ROLE r.target ≠ 0) :
    opAoRead.check r t = none := by
  apply OpDef.check_eq_none h <;> simp [opAoRead, htarget, hon, services_of_asks h]

theorem opAgoRead_check (h : Safety.Asks false 12 0 r t) (htarget : r.target < 8) (hon : t.cfgN Fid.AGO_MODE r.target ≠ 0) :
    opAgoRead.check r t = none := by
  apply OpDef.check_eq_none h <;> simp [opAgoRead, htarget, hon, services_of_asks h]

theorem opPortStatus_check {p : Nat} (h : Safety.Asks false r.fn 0 r t) (hfn : [17, 18, 19, 20, 21, 22, 23].contains r.fn = true)
    (hport : statusPort r.fn r.target = some p) (hon : t.portOff p = false) : opPortStatus.check r t = none := by
  refine OpDef.check_eq_none h id rfl rfl (List.contains_iff_mem.mp hfn) ?_ ?_ rfl ?_ ?_ (services_of_asks h) <;>
    simp [opPortStatus, hport, hon]

theorem opPartnerList_check (h : Safety.Asks false 16 4 r t) (htarget : r.target = 0) (hindex : fieldAt r.payload 0 2 < 2048)
    (hcount : 1 ≤ fieldAt r.payload 2 2 ∧ fieldAt r.payload 2 2 ≤ 126) : opPartnerList.check r t = none := by
  have hr : t.rdy r.fn = true := h.fn ▸ services_of_asks h
  apply OpDef.check_eq_none h <;> simp [opPartnerList, htarget, hindex, hcount, hr]

theorem opBindRead_check (h : Safety.Asks false 16 0 r t) (htarget : r.target < 8192)
    (hon : (t.bus.binds.get r.target).inForce = true) : opBindRead.check r t = none := by
  have hr : t.rdy r.fn = true := h.fn ▸ services_of_asks h
  apply OpDef.check_eq_none h <;> simp [opBindRead, htarget, hon, hr]

/-! ### What the reads answer where it depends on a case (R243, R273, R335) -/

theorem opI2cRead_body_own (hown : s.cfgN Fid.I2C_FROM r.target = 255) :
    opI2cRead.body r s = s.ok (le 8 (s.inp.recipes.get r.target).stamp.toNat ++
      le 4 ((s.inp.recipes.get r.target).value.getD F32.nan).toNat ++ le 1 (s.inp.recipes.get r.target).cause ++ le 3 0 ++
      le 4 (s.inp.recipes.get r.target).fails ++ le 4 (s.inp.recipes.get r.target).overruns ++
      padTo 16 (s.inp.recipes.get r.target).buffer) := by
  simp only [opI2cRead, hown, if_true]

/-- A derived recipe shows the buffer of the recipe it takes its bytes from. -/
theorem opI2cRead_body_derived (hfrom : s.cfgN Fid.I2C_FROM r.target ≠ 255) :
    opI2cRead.body r s = s.ok (le 8 (s.inp.recipes.get r.target).stamp.toNat ++
      le 4 ((s.inp.recipes.get r.target).value.getD F32.nan).toNat ++ le 1 (s.inp.recipes.get r.target).cause ++ le 3 0 ++
      le 4 (s.inp.recipes.get r.target).fails ++ le 4 (s.inp.recipes.get r.target).overruns ++
      padTo 16 (s.inp.recipes.get (s.cfgN Fid.I2C_FROM r.target)).buffer) := by
  simp only [opI2cRead, hfrom, if_false]

/-- FC_EDGE_READ, its NEXT and its oldest entry written as what the ring gives or else the SEQ after the last (R273). -/
theorem opFcEdgeRead_body {o : Group} {got : List Edge} {frm end_ oldest : Nat} (ho : o = s.fld.groups.get (r.target / 8))
    (hfrm : frm = fieldAt r.payload 0 4) (hend : end_ = (o.ringSeq + 1) % 2 ^ 32)
    (holdest : oldest = (o.ring.head?.map (fun e => e.seq)).getD end_)
    (hgot : got = (o.ring.filter (fun e => e.seq == frm || newer 32 e.seq frm)).take (fieldAt r.payload 4 2)) :
    opFcEdgeRead.body r s = s.ok (le 4 ((got.getLast?.map (fun e => (e.seq + 1) % 2 ^ 32)).getD end_) ++
      le 4 (if newer 32 oldest (max 1 frm) then (oldest + 2 ^ 32 - max 1 frm) % 2 ^ 32 else 0) ++ le 2 got.length ++ le 6 0 ++
      got.flatMap Edge.bytes) := by
  simp only [opFcEdgeRead, ← ho, ← hfrm, ← hgot, ← hend, holdest]
  cases o.ring <;> cases got.getLast? <;> rfl

theorem opPortStatus_body {p : Nat} (hport : statusPort r.fn r.target = some p) :
    opPortStatus.body r s = State.ok (s.port p (fun x => { x with dropped := 0 }))
      (le 4 (s.portStatus r.fn p) ++ le 4 (s.bus.ports.get (if r.fn = 18 then 7 else p)).framesIn.toNat ++
        le 4 (s.bus.ports.get (if r.fn = 18 then 7 else p)).framesOut.toNat ++
        le 2 (s.bus.partners.filter (fun e => e.2.port == p)).length ++ le 2 0) := by
  simp only [opPortStatus, hport, Option.getD_some]

theorem opPartnerList_body {got : List Nat}
    (hgot : got = ((s.bus.partners.keys).filter (fun i => decide (fieldAt r.payload 0 2 ≤ i))).take (fieldAt r.payload 2 2)) :
    opPartnerList.body r s = s.ok (le 2 s.bus.generation.toNat ++ le 2 s.bus.partners.length ++
      le 2 ((got.getLast?.map (fun i => i + 1)).getD 2048) ++ le 2 got.length ++ got.flatMap s.partnerBytes) := by
  simp only [opPartnerList, ← hgot]
  cases got.getLast? <;> rfl

/-- A read that is answered DONE and leaves `u`, where it has cleared what a read clears. -/
theorem serve_clears {d : OpDef} {fb : Bool} {fn len : Nat} {p : List Byte} {u : State} (h : Safety.Asks fb fn len r t)
    (hc : d.check r t = none) (hbody : d.body r (t.addFlight d r) = State.ok (Safety.accepted d r t u) p) (hnow : u.now = t.now)
    (hf : u.mb.flights = t.mb.flights) : serve d r t = Safety.answered d r .done p t u :=
  serve_answered d r t u .done p h.serves h.barrier hc h.tag (by decide) (by rw [hbody, ← hnow]; rfl) hf

end

/-- Settles O41: each read meets its checks (R21), and answers what its body gives. -/
theorem inputAndOutputReads : Obligations.InputAndOutputReads := by
  unfold Obligations.InputAndOutputReads
  refine ⟨?_, ?_, ?_, ?_, ?_, ?_, ?_, ?_, ?_, ?_⟩
  · intro a r u s t ht h htarget hon hu
    subst ht hu
    exact congrArg Host.Outcome.next (serve_clears h (opUiRead_check h htarget hon) rfl rfl rfl)
  · intro a r x s t ht h htarget hon hown hx
    subst ht hx
    exact congrArg _ (serve_ok h (opI2cRead_check h htarget hon) (opI2cRead_body_own hown))
  · intro a r x m s t ht h htarget hon hm hfrom hx
    subst ht hx hm
    exact congrArg _ (serve_ok h (opI2cRead_check h htarget hon) (opI2cRead_body_derived hfrom))
  · intro a r c s t ht h htarget hon hc
    subst ht hc
    exact congrArg Host.Outcome.next (serve_clears h (opFcRead_check h htarget hon) rfl rfl rfl)
  · intro a r o got frm end_ oldest s t ht h htarget hfirst hcount hzero ho hfrm hend holdest hgot
    subst ht
    exact congrArg _ (serve_ok h (opFcEdgeRead_check h htarget hfirst hcount hzero)
      (opFcEdgeRead_body ho hfrm hend holdest hgot))
  · intro a r o s t ht h htarget hon ho
    subst ht ho
    exact congrArg Host.Outcome.next (serve_clears h (opAoRead_check h htarget hon) rfl rfl rfl)
  · intro a r o m s t ht h htarget hm hon ho
    subst ht hm ho
    exact congrArg Host.Outcome.next (serve_clears h (opAgoRead_check h htarget hon) rfl rfl rfl)
  · intro a r p x s t ht h hfn hport hon hx
    subst ht hx
    exact congrArg Host.Outcome.next (serve_clears h (opPortStatus_check h hfn hport hon) (opPortStatus_body hport) rfl rfl)
  · intro a r got next s t ht h htarget hindex hcount hgot hnext
    subst ht hnext
    exact congrArg _ (serve_ok h (opPartnerList_check h htarget hindex hcount) (opPartnerList_body hgot))
  · intro a r x s t ht h htarget hx hon
    subst ht hx
    exact congrArg Host.Outcome.next (serve_clears h (opBindRead_check h htarget hon) rfl rfl rfl)

end Sys2Proof.Machine

/-! PROOFS. The inputs, supplies, protections and diagnostics of the field channels (R247–R255, R259–R263, R267, R268). -/

namespace Sys2Proof.Machine

section
variable {a : At} {n : Nat} {s t : State}

/-! ### Edges and gates of an input (R252–R255) -/

/-- A run of the comparator is accepted once it has lasted FC_IN_DEBOUNCE (R252). -/
theorem execEdgeAccepted_debounced {on : Bool} {ago : Nat} {current : Option Nat} (ht : t = s.advance a) (hn : n < 32)
    (hrole : t.chRole n = 1 ∨ t.chRole n = 3) (hthresh : t.fcN Fid.FC_IN_THRESH n ≠ 2) :
    execEdgeAccepted a n on ago current s =
      .next (if t.grainsIn (t.fcN Fid.FC_IN_DEBOUNCE n * 1000000) ≤ ago then
          t.acceptState n (xor on (t.fcN Fid.FC_IN_INVERT n == 1)) (t.now - BitVec.ofNat 64 (ago + t.delayGrains (groupOf n)))
        else t) := by
  unfold execEdgeAccepted
  rw [← ht]
  exact congrArg _ ((if_pos (by simpa [hn] using hrole)).trans (if_neg hthresh))

/-- A WIREBREAK input reads the current, whatever the run's length (R253). -/
theorem execEdgeAccepted_wirebreak {on : Bool} {ago ua : Nat} (ht : t = s.advance a) (hn : n < 32)
    (hrole : t.chRole n = 1 ∨ t.chRole n = 3) (hthresh : t.fcN Fid.FC_IN_THRESH n = 2) :
    execEdgeAccepted a n on ago (some ua) s =
      .next (t.wireReading n ua (t.now - BitVec.ofNat 64 (ago + t.delayGrains (groupOf n)))) := by
  unfold execEdgeAccepted
  rw [← ht]
  exact congrArg _ ((if_pos (by simpa [hn] using hrole)).trans (if_pos hthresh))

theorem execEdgeLost_due (ht : t = s.advance a) (hlost : 0 < (t.fld.ins.get n).lostRing)
    (hturn : ∀ u, (t.fld.ins.get n).lostTurn = some u → u + 64 ≤ t.turn) (hready : t.rdy Rdy.binnacle = true) :
    execEdgeLost a n s = .next (State.record3 (6 + groupOf n) 2 0x000F (le 1 n ++ le 2 (t.fld.ins.get n).lostRing ++ le 1 1) n
      (t.chIn n (fun c => { c with lostRing := 0, lostTurn := some t.turn }))) := by
  rw [execEdgeLost, ← ht]
  refine congrArg _ (if_pos ?_)
  cases hlast : (t.fld.ins.get n).lostTurn with
  | none => simp [hlost, hready]
  | some u => simp [hlost, hready, hturn u hlast]

theorem execFreqGate_due (ht : t = s.advance a) (hn : n < 32) (hrole : t.chRole n = 1) (hmode : t.fcN Fid.FC_IN_MODE n = 1)
    (hturn : t.turn % t.fcN Fid.FC_FREQ_GATE n = 0) (hgrain : t.grain = 0) (honce : (t.fld.ins.get n).gateTurn ≠ some t.turn)
    (hready : t.rdy (Rdy.fg (groupOf n)) = true) : execFreqGate a n s = .next (t.closeGate n) := by
  rw [execFreqGate, ← ht]
  exact congrArg _ (if_pos (by simp [hn, hrole, hmode, hturn, hgrain, honce, hready]))

/-! ### Trips and retries (R259, R261) -/

theorem execOverload_trips (ht : t = s.advance a) (hcmd : t.chCmd n = true) :
    execOverload a n s = .next ((t.trip n (fun o => { o with overload := true })).tripRecord n 0x0001) := by
  rw [execOverload, ← ht]
  exact congrArg _ (if_pos hcmd)

theorem execThermal_trips (ht : t = s.advance a) (hcmd : t.chCmd n = true) :
    execThermal a n s = .next ((t.trip n (fun o => { o with thermal := true })).tripRecord n 0x0002) := by
  rw [execThermal, ← ht]
  exact congrArg _ (if_pos hcmd)

theorem execOverload_off (ht : t = s.advance a) (hcmd : t.chCmd n = false) : execOverload a n s = .next t := by
  rw [execOverload, ← ht]
  exact congrArg _ (if_neg (by simp [hcmd]))

theorem execThermal_off (ht : t = s.advance a) (hcmd : t.chCmd n = false) : execThermal a n s = .next t := by
  rw [execThermal, ← ht]
  exact congrArg _ (if_neg (by simp [hcmd]))

theorem execGroupOverload_above {g current : Nat} (ht : t = s.advance a) (habove : t.fgN Fid.FG_GROUP_LIMIT g < current)
    (hlargest : t.largest g = some n) :
    execGroupOverload a g current s = .next (State.fieldEvent g 3 0x000C (le 1 n ++ le 2 current) n
      (t.trip n (fun o => { o with groupOverload := true }))) := by
  rw [execGroupOverload, ← ht]
  refine congrArg _ ((if_pos habove).trans ?_)
  rw [hlargest]

theorem execGroupOverload_within {g current : Nat} (ht : t = s.advance a) (hwithin : current ≤ t.fgN Fid.FG_GROUP_LIMIT g) :
    execGroupOverload a g current s = .next t := by
  rw [execGroupOverload, ← ht]
  exact congrArg _ (if_neg (Nat.not_lt.mpr hwithin))

theorem execTripRetry_due {cooled : Bool} (ht : t = s.advance a) (htripped : (t.fld.outs.get n).tripped = true)
    (hlatch : (t.fld.outs.get n).latched = false) (hcool : (t.fld.outs.get n).thermal = false ∨ cooled = true)
    (hgrain : t.grain = 0) (hdelay : t.turnsPassed (t.fld.outs.get n).tripAt (t.fcN Fid.FC_RETRY_DELAY n) = true) :
    execTripRetry a n cooled s = .next (t.retry n) := by
  rw [execTripRetry, ← ht]
  exact congrArg _ (if_pos (by simpa [htripped, hlatch, hgrain, hdelay] using hcool))

theorem execRetrySeriesEnd_due (ht : t = s.advance a) (hretries : 0 < (t.fld.outs.get n).retries)
    (hpin : (t.fld.outs.get n).pin = true) (htripped : (t.fld.outs.get n).tripped = false)
    (hdelay : t.turnsPassed (t.fld.outs.get n).onSince (t.fcN Fid.FC_RETRY_DELAY n) = true) :
    execRetrySeriesEnd a n s = .next (t.chOut n (fun o => { o with retries := 0 })) := by
  rw [execRetrySeriesEnd, ← ht]
  exact congrArg _ (if_pos (by simp [hretries, hpin, htripped, hdelay]))

theorem execTpoOffEdge_due (ht : t = s.advance a) (hactive : (t.fld.outs.get n).tpoActive = true)
    (hlevel : (t.fld.outs.get n).level = true)
    (hshort : (t.fld.outs.get n).onTime < t.fcN Fid.FC_TPO_PERIOD n * grainsPerTurn)
    (hended : (t.fld.outs.get n).tpoStart.toNat + (t.fld.outs.get n).onTime ≤ t.mer.stamp.toNat) :
    execTpoOffEdge a n s = .next (t.chLevel n false) := by
  rw [execTpoOffEdge, ← ht]
  exact congrArg _ (if_pos (by simp only [hactive, hlevel, hshort, hended, decide_true, Bool.and_self]))

/-! ### Diagnostics of an output (R262, R263, R267, R268) -/

section
variable {sev code : Nat} {payload : List Byte} {f : ChOut → ChOut}

theorem State.chCondition_begins :
    s.chCondition n sev code payload false true f = (s.chOut n f).fieldEvent (groupOf n) sev code payload n := rfl

theorem State.chCondition_ends : s.chCondition n sev code payload true false f = (s.chOut n f).faultCleared n := rfl

end

/-- OPEN_LOAD of an output whose detection is enabled for its state: what it finds begins the condition. -/
theorem execOpenLoad_finds {level : Nat} {on : Bool} (ht : t = s.advance a) (hcmd : t.chCmd n = on)
    (henabled : (if on then bitOf (t.fcN Fid.FC_OPEN_LOAD n) 0
      else bitOf (t.fcN Fid.FC_OPEN_LOAD n) 1 && t.chRole n == 3 && !(t.peerHolds && t.shared n)) = true)
    (hout : t.chIsOut n = true) (hwas : (t.fld.outs.get n).openLoad = false) (hfinds : t.openFinding n level on = some true) :
    execOpenLoad a n level s =
      .next ((t.chOut n (fun o => { o with openLoad := true })).fieldEvent (groupOf n) 2 0x0006 (le 1 n ++ le 1 (bit (!on))) n) := by
  rw [execOpenLoad, ← ht]
  simp only [hcmd, hfinds, henabled, hout, hwas, Bool.and_self, if_true, State.chCondition_begins]

theorem State.openFinding_on {level : Nat} (hlow : level < t.fcN Fid.FC_OPEN_I n) : t.openFinding n level true = some true := by
  simp [State.openFinding, hlow]

theorem State.openFinding_off {level : Nat} (hlow : 3000 ≤ level) (hhigh : level ≤ 8000) :
    t.openFinding n level false = some true := by
  simp [State.openFinding, hlow, hhigh]

/-- An input-output channel is an output. -/
theorem State.chIsOut_of_inOut (hrole : t.chRole n = 3) : t.chIsOut n = true := by
  simp [State.chIsOut, hrole]

theorem execBackfeed_begins (ht : t = s.advance a) (hrole : t.chRole n = 3) (hcmd : t.chCmd n = false)
    (hpeer : t.peerHolds = false) (hwas : (t.fld.outs.get n).backfeed = false) :
    execBackfeed a n true s = .next ((t.chOut n (fun o => { o with backfeed := true })).fieldEvent (groupOf n) 3 0x0003
      (le 1 n ++ le 1 (bit (t.fld.outs.get n).peerDrive) ++ le 1 (t.fcN Fid.FC_SHARED n)) n) := by
  rw [execBackfeed, ← ht]
  refine congrArg _ ((if_pos (by simp [hrole, hcmd])).trans ((if_neg (by simp [hpeer])).trans ?_))
  rw [hwas, State.chCondition_begins]

/-- On the standby a shared channel shows that its peer drives (R268). -/
theorem execBackfeed_peer {holds : Bool} (ht : t = s.advance a) (hrole : t.chRole n = 3) (hcmd : t.chCmd n = false)
    (hpeer : t.peerHolds = true) (hshared : t.shared n = true) :
    execBackfeed a n holds s = .next (t.chOut n (fun o => { o with peerDrive := holds })) := by
  rw [execBackfeed, ← ht]
  exact congrArg _ ((if_pos (by simp [hrole, hcmd])).trans (if_pos (by simp [hpeer, hshared])))

theorem execBackfeed_ends (ht : t = s.advance a) (hpeer : t.peerHolds = false) (hwas : (t.fld.outs.get n).backfeed = true) :
    execBackfeed a n false s = .next ((t.chOut n (fun o => { o with backfeed := false })).faultCleared n) := by
  rw [execBackfeed, ← ht]
  refine congrArg _ ((if_pos rfl).trans ((if_neg (by simp [hpeer])).trans ?_))
  rw [hwas, State.chCondition_ends]

theorem execStuckOn_finds {current : Nat} (ht : t = s.advance a) (hcurrent : 20 ≤ current) (hcmd : t.chCmd n = false)
    (hout : t.chIsOut n = true) (hwas : (t.fld.outs.get n).stuckOn = false) :
    execStuckOn a n current s = .next (t.stuckFound n current) := by
  rw [execStuckOn, ← ht]
  exact congrArg _ (if_pos (by simp [hcurrent, hcmd, hout, hwas]))

theorem execStuckOn_clears {current : Nat} (ht : t = s.advance a) (hcurrent : current < 20)
    (hwas : (t.fld.outs.get n).stuckOn = true) :
    execStuckOn a n current s = .next ((t.chOut n (fun o => { o with stuckOn := false })).faultCleared n) := by
  rw [execStuckOn, ← ht]
  exact congrArg _ ((if_neg (by simp [hwas])).trans (if_pos (by simp [hcurrent, hwas])))

theorem execSwitchFail_begins (ht : t = s.advance a) (hrole : t.chRole n = 3) (hcmd : t.chCmd n = true)
    (hwas : (t.fld.outs.get n).switchFail = false) :
    execSwitchFail a n true s =
      .next ((t.chOut n (fun o => { o with switchFail := true })).fieldEvent (groupOf n) 3 0x0005 (le 1 n) n) := by
  rw [execSwitchFail, ← ht]
  refine congrArg _ ((if_pos (by simp [hrole, hcmd])).trans ?_)
  rw [hwas, State.chCondition_begins]

theorem execSwitchFail_ends (ht : t = s.advance a) (hwas : (t.fld.outs.get n).switchFail = true) :
    execSwitchFail a n false s = .next ((t.chOut n (fun o => { o with switchFail := false })).faultCleared n) := by
  rw [execSwitchFail, ← ht]
  refine congrArg _ ((if_pos rfl).trans ?_)
  rw [hwas, State.chCondition_ends]

/-- A dark pulse that is due and does not read OFF has failed (R263). -/
theorem execDarkPulse_fails {current : Nat} {u : State} (ht : t = s.advance a) (hn : n < 32) (hdue : t.darkDue n = true)
    (hu : u = State.fieldEvent (groupOf n) 3 0x000B (le 1 n ++ le 2 current) n (t.chOut n (fun o => { o with darkFail := true }))) :
    execDarkPulse a n false current s = .next (if 20 ≤ current then u.stuckFound n current else u) := by
  rw [execDarkPulse, ← ht, hu]
  exact congrArg _ (if_pos (by simp [hn, hdue]))

theorem execDarkPulse_readsOff {current : Nat} (ht : t = s.advance a) : execDarkPulse a n true current s = .next t := by
  rw [execDarkPulse, ← ht]
  exact congrArg _ (ite_self t)

end

/-! ### The supplies of a group (R247, R248, R267) -/

section
variable {a : At} {g v : Nat} {s t : State}

/-- The module changes a group's barrier power only while it is powered and awake (R247, R537). -/
theorem execBarrierPowerChange_awake {on : Bool} (ht : t = s.advance a) (hg : g < 4) (hpowered : t.powered = true)
    (hawake : t.sup.asleep = false) :
    execBarrierPowerChange a g on s = .next (if on then t.group g (fun x => { x with barrierPower := true })
      else if (t.fld.groups.get g).barrierPower then (t.fgLost g 2).groupUnpowered g else t) := by
  rw [execBarrierPowerChange, ← ht]
  exact congrArg _ (if_neg (by simp [hg, hpowered, hawake]))

/-- Within the hysteresis of 2 V the presence of VFIELD stays as it is (R247). -/
theorem execVfieldChange_kept (ht : t = s.advance a)
    (hv : (t.fld.groups.get g).vPresent = true ∧ 1200 ≤ v ∨ (t.fld.groups.get g).vPresent = false ∧ v ≤ 1400) :
    execVfieldChange a g v s =
      .next (t.group g (fun x => { x with vfield := v, vPresent := (t.fld.groups.get g).vPresent })) := by
  rw [execVfieldChange, ← ht]
  obtain ⟨hwas, hv⟩ | ⟨hwas, hv⟩ := hv
  · simp [hwas, hv]
  · simp [hwas, Nat.not_lt.mpr hv]

theorem execVfieldChange_rises (ht : t = s.advance a) (hwas : (t.fld.groups.get g).vPresent = false) (hv : 1400 < v) :
    execVfieldChange a g v s =
      .next ((((t.group g (fun x => { x with vfield := v, vPresent := true })).vfieldRecord g 0).groupPins g).fgRise g) := by
  rw [execVfieldChange, ← ht]
  simp [hwas, hv]

/-- VFIELD that goes clears FGn; a group on barrier power keeps its state (R247, R248). -/
theorem execVfieldChange_falls {w : State} (ht : t = s.advance a) (hwas : (t.fld.groups.get g).vPresent = true) (hv : v < 1200)
    (hpower : (t.fld.groups.get g).barrierPower = true)
    (hw : w = ((t.group g (fun x => { x with vfield := v, vPresent := false })).vfieldRecord g 2).groupPins g) :
    execVfieldChange a g v s = .next (if w.rdy (Rdy.fg g) then w.lower [Rdy.fg g] else w) := by
  rw [execVfieldChange, ← ht, hw]
  simp [hwas, Nat.not_le.mpr hv, hpower]

theorem execVfieldUv_begins (ht : t = s.advance a) (huv : (t.fld.groups.get g).uv = false)
    (hv : v < 10 * t.fgN Fid.FG_VFIELD_UV g) :
    execVfieldUv a g v s = .next (State.vfieldRecord g 1
      ((t.group g (fun x => { x with vfield := v })).group g (fun x => { x with uv := true }))) := by
  rw [execVfieldUv, ← ht]
  exact congrArg _ (if_pos ⟨hv, by simp [huv]⟩)

theorem execVfieldUv_ends (ht : t = s.advance a) (huv : (t.fld.groups.get g).uv = true)
    (hv : 10 * t.fgN Fid.FG_VFIELD_UV g + 100 ≤ v) :
    execVfieldUv a g v s = .next (State.vfieldRecord g 0
      ((t.group g (fun x => { x with vfield := v })).group g (fun x => { x with uv := false }))) := by
  rw [execVfieldUv, ← ht]
  exact congrArg _ ((if_neg (fun h => h.2 huv)).trans (if_pos ⟨hv, huv⟩))

/-- Within the hysteresis of 1.00 V the undervoltage stays as it is (R267). -/
theorem execVfieldUv_kept (ht : t = s.advance a)
    (hv : (t.fld.groups.get g).uv = true ∧ v < 10 * t.fgN Fid.FG_VFIELD_UV g + 100 ∨
      (t.fld.groups.get g).uv = false ∧ 10 * t.fgN Fid.FG_VFIELD_UV g ≤ v) :
    execVfieldUv a g v s = .next (t.group g (fun x => { x with vfield := v })) := by
  rw [execVfieldUv, ← ht]
  obtain ⟨huv, hv⟩ | ⟨huv, hv⟩ := hv
  · exact congrArg _ ((if_neg (fun h => h.2 huv)).trans (if_neg (fun h => Nat.not_le.mpr hv h.1)))
  · exact congrArg _ ((if_neg (fun h => Nat.not_le.mpr h.1 hv)).trans (if_neg (by simp [huv])))

end

/-- Settles O24: the debounced and the WIREBREAK reading, the record of lost edges and the end of a gate. -/
theorem fieldInputs : Obligations.FieldInputs := by
  unfold Obligations.FieldInputs
  refine ⟨?_, ?_, ?_, ?_⟩
  · intro a n ago on current s t ht hn hrole hthresh
    exact execEdgeAccepted_debounced ht hn hrole hthresh
  · intro a n ago ua on s t ht hn hrole hthresh
    exact execEdgeAccepted_wirebreak ht hn hrole hthresh
  · intro a n s t ht hlost hturn hready
    exact execEdgeLost_due ht hlost hturn hready
  · intro a n s t ht hn hrole hmode hturn hgrain honce hready
    exact execFreqGate_due ht hn hrole hmode hturn hgrain honce hready

/-- Settles O26: barrier power by what it becomes, VFIELD and its undervoltage by the two limits of their hysteresis. -/
theorem fieldSupplies : Obligations.FieldSupplies := by
  unfold Obligations.FieldSupplies
  refine ⟨?_, ?_, ?_, ?_, ?_, ?_, ?_, ?_⟩
  · intro a g s t ht hg hpowered hawake
    exact execBarrierPowerChange_awake ht hg hpowered hawake
  · intro a g s t ht hg hpowered hawake hpower
    exact (execBarrierPowerChange_awake ht hg hpowered hawake).trans (congrArg _ (if_pos hpower))
  · intro a g v s t ht hwithin
    exact execVfieldChange_kept ht hwithin
  · intro a g v s t ht hwas hv
    exact execVfieldChange_rises ht hwas hv
  · intro a g v s t w ht hwas hv hpower hw
    exact execVfieldChange_falls ht hwas hv hpower hw
  · intro a g v s t ht huv hv
    exact execVfieldUv_begins ht huv hv
  · intro a g v s t ht huv hv
    exact execVfieldUv_ends ht huv hv
  · intro a g v s t ht hv
    exact execVfieldUv_kept ht hv

/-- Settles O27: each protection acts when its rule's conditions hold, and a channel commanded off or a group within its limit does not
trip. -/
theorem fieldTripsAndRetries : Obligations.FieldTripsAndRetries := by
  unfold Obligations.FieldTripsAndRetries
  refine ⟨?_, ?_, ?_, ?_, ?_, ?_, ?_⟩
  · intro a n s t ht hcmd
    exact ⟨execOverload_trips ht hcmd, execThermal_trips ht hcmd⟩
  · intro a n s t ht hcmd
    exact ⟨execOverload_off ht hcmd, execThermal_off ht hcmd⟩
  · intro a g current n s t ht habove hlargest
    exact execGroupOverload_above ht habove hlargest
  · intro a g current s t ht hwithin
    exact execGroupOverload_within ht hwithin
  · intro a n cooled s t ht htripped hlatch hcool hgrain hdelay
    exact execTripRetry_due ht htripped hlatch hcool hgrain hdelay
  · intro a n s t ht hretries hpin htripped hdelay
    exact execRetrySeriesEnd_due ht hretries hpin htripped hdelay
  · intro a n s t ht hactive hlevel hshort hended
    exact execTpoOffEdge_due ht hactive hlevel hshort hended

/-- Settles O28: each diagnostic by the condition it begins or ends on its channel. -/
theorem fieldDiagnostics : Obligations.FieldDiagnostics := by
  unfold Obligations.FieldDiagnostics
  refine ⟨?_, ?_, ?_, ?_, ?_, ?_, ?_, ?_, ?_, ?_, ?_⟩
  · intro a n level s t ht hcmd henabled hout hwas hlow
    exact execOpenLoad_finds ht hcmd henabled hout hwas (State.openFinding_on hlow)
  · intro a n level s t ht hcmd henabled hrole hpeer hwas hlow hhigh
    exact execOpenLoad_finds ht hcmd (by simp [henabled, hrole, hpeer]) (State.chIsOut_of_inOut hrole) hwas
      (State.openFinding_off hlow hhigh)
  · intro a n s t ht hrole hcmd hpeer hwas
    exact execBackfeed_begins ht hrole hcmd hpeer hwas
  · intro a n holds s t ht hrole hcmd hpeer hshared
    exact execBackfeed_peer ht hrole hcmd hpeer hshared
  · intro a n s t ht hpeer hwas
    exact execBackfeed_ends ht hpeer hwas
  · intro a n current s t ht hcurrent hcmd hout hwas
    exact execStuckOn_finds ht hcurrent hcmd hout hwas
  · intro a n current s t ht hcurrent hwas
    exact execStuckOn_clears ht hcurrent hwas
  · intro a n s t ht hrole hcmd hwas
    exact execSwitchFail_begins ht hrole hcmd hwas
  · intro a n s t ht hwas
    exact execSwitchFail_ends ht hwas
  · intro a n current s t u ht hn hdue hu
    exact execDarkPulse_fails ht hn hdue hu
  · intro a n current s t ht
    exact execDarkPulse_readsOff ht

end Sys2Proof.Machine

/-! PROOFS. The analogue and angle outputs, their PA watchdog and the end of an override (R273, R278–R282, R288, R290, R295, R296). -/

namespace Sys2Proof.Machine

/-! ### The PA watchdog (R278, R290) -/

/-- What the PA watchdog holds: the stamp of the last refresh, whether there was one, and whether an expiry stands. -/
def State.paWatchdog (s : State) : Stamp × Bool × Bool := (s.out.lastRefresh, s.out.refreshed, s.out.expired)

@[simp] theorem State.updateReady_paWatchdog (sets clears : List Nat) (s : State) :
    (s.updateReady sets clears).paWatchdog = s.paWatchdog := by
  simp [State.paWatchdog]

@[simp] theorem State.lower_paWatchdog (bits : List Nat) (s : State) : (s.lower bits).paWatchdog = s.paWatchdog := by
  simp [State.paWatchdog]

@[simp] theorem State.agoHostRises_paWatchdog (s : State) : s.agoHostRises.paWatchdog = s.paWatchdog := by
  unfold State.agoHostRises; split <;> rfl

@[simp] theorem State.record3_paWatchdog (src sev code : Nat) (p : List Byte) (g : Nat) (s : State) :
    (s.record3 src sev code p g).paWatchdog = s.paWatchdog := rfl

/-- A refresh is noted whether or not it raises AO and AGO. -/
theorem State.refreshWatchdog_paWatchdog (s : State) : s.refreshWatchdog.paWatchdog = (s.now, true, false) := by
  unfold State.refreshWatchdog; dsimp only; split
  · rfl
  · rw [State.updateReady_paWatchdog]
    exact (State.each_keeps State.paWatchdog _ _ _ fun _ _ => by rfl).trans (State.agoHostRises_paWatchdog _)

/-- An expiry stands until the next refresh; the outputs that go to AO_SAFE or to high impedance do not touch it. -/
theorem State.watchdogExpires_paWatchdog (s : State) : s.watchdogExpires.paWatchdog = (s.out.lastRefresh, false, true) := by
  unfold State.watchdogExpires
  simp only [apply_ite State.paWatchdog, State.record3_paWatchdog, State.lower_paWatchdog, ite_self]
  exact (State.each_keeps State.paWatchdog _ _ _ fun _ _ => by rfl).trans (State.each_keeps State.paWatchdog _ _ _ fun _ _ => by rfl)

/-- An expiry clears AO and AGO by the rule of READY (R33), and nothing else of it changes READY. -/
theorem State.watchdogExpires_ready (s : State) : s.watchdogExpires.ready = readyNext s.ready [] [Rdy.ao, Rdy.ago] := by
  unfold State.watchdogExpires
  simp only [apply_ite State.ready, State.record3_ready, State.lower_ready, ite_self]
  exact congrArg (readyNext · [] _)
    ((State.each_keeps State.ready _ _ _ fun _ _ => by rfl).trans (State.each_keeps State.ready _ _ _ fun _ _ => by rfl))

theorem State.watchdogExpires_clears {s : State} {n : Nat} (hn : n ∈ [Rdy.ao, Rdy.ago]) : s.watchdogExpires.rdy n = false := by
  rw [State.rdy, State.watchdogExpires_ready]
  exact readyNext_clears _ _ _ _ hn

section
variable {a : At} {n : Nat} {s t : State}

/-! ### One rule per command -/

theorem execAoWatchdogRefresh_refreshes (ht : t = s.advance a) (hmeridian : t.rdy Rdy.meridian = true) :
    execAoWatchdogRefresh a s = .next t.refreshWatchdog := by
  rw [execAoWatchdogRefresh, ← ht]
  exact congrArg _ (if_pos hmeridian)

theorem execAoWatchdogRefresh_idle (ht : t = s.advance a) (hmeridian : t.rdy Rdy.meridian = false) :
    execAoWatchdogRefresh a s = .next t := by
  rw [execAoWatchdogRefresh, ← ht]
  exact congrArg _ (if_neg (by simp [hmeridian]))

theorem execWatchdog_expires (ht : t = s.advance a) (hexpired : t.out.expired = false) :
    execWatchdog a s = .next t.watchdogExpires := by
  rw [execWatchdog, ← ht]
  exact congrArg _ (if_neg (by simp [hexpired]))

theorem execWatchdog_idle (ht : t = s.advance a) (hexpired : t.out.expired = true) : execWatchdog a s = .next t := by
  rw [execWatchdog, ← ht]
  exact congrArg _ (if_pos hexpired)

theorem State.agoLatchDue_iff : t.agoLatchDue n = true ↔ t.agoLatchAngle n = true ∧ (t.out.ago.get n).latched ≠ t.now := by
  simp [State.agoLatchDue]

theorem execAgoLatch_due (ht : t = s.advance a) (hready : t.rdy Rdy.ago = true) (hn : n < 8) (hslots : t.slotsFired = true)
    (hdue : t.agoLatchDue n = true) : execAgoLatch a n s = .next (t.agoLatch n) := by
  rw [execAgoLatch, ← ht]
  exact congrArg _ (if_pos (by simp [hready, hn, hslots, hdue]))

theorem execAgoEdge_due (ht : t = s.advance a) (hready : t.rdy Rdy.ago = true) (hn : n < 8) (hmode : 2 ≤ t.cfgN Fid.AGO_MODE n)
    (hruns : (t.out.ago.get n).stopped = false) (hdriven : (t.out.ago.get n).highZ = false) (hslots : t.slotsFired = true)
    (hlatched : t.agoLatchDue n = false) : execAgoEdge a n s = .next (t.agoPin n (t.agoActive n)) := by
  rw [execAgoEdge, ← ht]
  exact congrArg _ (if_pos (by simp [hready, hn, hmode, hruns, hdriven, hslots, hlatched]))

/-- A pin that is not in high impedance has the level it is driven to, whether or not that is an edge (R280). -/
theorem State.agoPin_pin {active : Bool} (hdriven : (t.out.ago.get n).highZ = false) :
    ((t.agoPin n active).out.ago.get n).pin = xor active (t.out.ago.get n).invert := by
  by_cases hlevel : (t.out.ago.get n).pin = xor active (t.out.ago.get n).invert <;> simp [State.agoPin, hdriven, hlevel]

theorem execAoMonitorSample_due {readings : List (Nat × Int × Bool)} (ht : t = s.advance a) (hready : t.rdy Rdy.ao = true)
    (hangle : t.atAngle grainsPerTurn 786432 = true) (honce : t.out.monitorTurn ≠ some t.turn) :
    execAoMonitorSample a readings s = .next (State.each (readings.take 8).zipIdx
      (fun x u => u.aoMonitor x.2 x.1.1 x.1.2.1 x.1.2.2) { t with out.monitorTurn := some t.turn }) := by
  rw [execAoMonitorSample, ← ht]
  exact congrArg _ (if_pos (by simp [hready, hangle, honce]))

/-! ### The end of an override (R273, R295) -/

section
variable {kind : Nat} {f : Force} (ht : t = s.advance a) (hforce : t.forceOf kind n = some f)
include ht hforce

theorem execForceDurationEnd_until {u : Nat} (huntil : f.until_ = some u) :
    execForceDurationEnd a kind n s = .next (if u ≤ t.turn then t.setForce kind n none else t) := by
  simp only [execForceDurationEnd, ← ht, hforce, Option.bind_some, huntil]

theorem execForceDurationEnd_endless (huntil : f.until_ = none) : execForceDurationEnd a kind n s = .next t := by
  simp only [execForceDurationEnd, ← ht, hforce, Option.bind_some, huntil]

end

end

/-- Settles O23: the watchdog by what a refresh and an expiry leave of it, every other command by the conditions of its rule. -/
theorem analogueAndAngleOutputs : Obligations.AnalogueAndAngleOutputs := by
  unfold Obligations.AnalogueAndAngleOutputs
  refine ⟨?_, ?_, ?_, ?_, ?_, ?_, ?_, ?_, ?_⟩
  · intro a s t ht hmeridian
    have hnoted := t.refreshWatchdog_paWatchdog
    simp only [State.paWatchdog, Prod.mk.injEq] at hnoted
    exact ⟨_, execAoWatchdogRefresh_refreshes ht hmeridian, hnoted⟩
  · intro a s t ht hexpired
    have hexpiry := t.watchdogExpires_paWatchdog
    simp only [State.paWatchdog, Prod.mk.injEq] at hexpiry
    obtain ⟨-, -, hstands⟩ := hexpiry
    exact ⟨_, execWatchdog_expires ht hexpired, hstands, State.watchdogExpires_clears (by simp),
      State.watchdogExpires_clears (by simp)⟩
  · intro a s t ht hmeridian
    exact execAoWatchdogRefresh_idle ht hmeridian
  · intro a s t ht hexpired
    exact execWatchdog_idle ht hexpired
  · intro a n s t ht hready hn hslots hangle hlatched
    exact execAgoLatch_due ht hready hn hslots (State.agoLatchDue_iff.mpr ⟨hangle, hlatched⟩)
  · intro a n s t ht hready hn hmode hruns hdriven hslots hlatched
    exact ⟨_, execAgoEdge_due ht hready hn hmode hruns hdriven hslots hlatched, State.agoPin_pin hdriven⟩
  · intro a readings s t ht hready hangle honce
    exact execAoMonitorSample_due ht hready hangle honce
  · intro a kind n f u s t ht hforce huntil
    exact execForceDurationEnd_until ht hforce huntil
  · intro a kind n f s t ht hforce huntil
    exact execForceDurationEnd_endless ht hforce huntil

end Sys2Proof.Machine

/-! PROOFS. The ports of the building bus, their links and the frames that pass them (R297–R301, R304, R306, R309, R310). -/

namespace Sys2Proof.Machine

section
variable {a : At} {s t : State}

/-! ### Links, tokens and addresses (R297, R298, R300, R301, R310) -/

section
variable {phy speed n i : Nat} {link full seen inLoop token : Bool} {lease : Option Nat}

theorem execMdioPoll_reads (ht : t = s.advance a) (hready : t.rdy Rdy.services = true) (hphy : phy < 2) :
    execMdioPoll a phy link speed full s =
      .next (t.port (sideKey phy) (fun p => { p with link := link && full, speed := if link then speed else 0 })).refreshPorts := by
  rw [execMdioPoll, ← ht]
  exact congrArg _ (if_pos (by simp [hready, hphy]))

theorem execPlcaBeacon_counts (ht : t = s.advance a) (hready : t.rdy Rdy.services = true) (hon : t.cfgN Fid.T1S_ENABLE = 1)
    (hplca : t.cfgN Fid.PLCA_ID ≤ 31) :
    execPlcaBeacon a seen s =
      .next (t.port 1 (fun p => { p with beacons := if seen then min 4 (p.beacons + 1) else 0 })).refreshPorts := by
  rw [execPlcaBeacon, ← ht]
  exact congrArg _ (if_pos (by simp [hready, hon, hplca]))

theorem execMstpTimeout_sets (ht : t = s.advance a) (hready : t.rdy Rdy.services = true) (hn : n < 4)
    (hmstp : t.cfgN Fid.LINE_PROTOCOL n = 1) (hpeer : t.peerHolds = false) :
    execMstpTimeout a n inLoop token s =
      .next (t.port (2 + n) (fun p => { p with link := inLoop, token := token && inLoop, infoSent := 0 })).refreshPorts := by
  rw [execMstpTimeout, ← ht]
  exact congrArg _ (if_pos (by simp [hready, hn, hmstp, hpeer]))

theorem execDhcpLeaseExpiry_binds (ht : t = s.advance a) (hready : t.rdy Rdy.services = true) (hi : i < 2)
    (hdhcp : t.cfgN Fid.IP_MODE i = 1) :
    execDhcpLeaseExpiry a i lease s =
      .next (t.port i (fun p => { p with dhcpBound := lease.isSome, address := lease.getD 0 })).refreshPorts := by
  rw [execDhcpLeaseExpiry, ← ht]
  exact congrArg _ (if_pos (by simp [hready, hi, hdhcp]))

/-- Without SERVICES none of the four reads its link (R297). -/
theorem linkEvents_idle (ht : t = s.advance a) (hready : t.rdy Rdy.services = false) :
    execMdioPoll a phy link speed full s = .next t ∧ execPlcaBeacon a seen s = .next t ∧
      execMstpTimeout a n inLoop token s = .next t ∧ execDhcpLeaseExpiry a i lease s = .next t := by
  simp only [execMdioPoll, execPlcaBeacon, execMstpTimeout, execDhcpLeaseExpiry, ← ht, hready, Bool.false_and,
    Bool.false_eq_true, if_false, and_self]

theorem execDupMacHoldEnd_until {u : Nat} (ht : t = s.advance a) (huntil : (t.bus.ports.get (2 + n)).dupUntil = some u) :
    execDupMacHoldEnd a n s = .next (if u ≤ t.turn then t.port (2 + n) (fun p => { p with dupUntil := none }) else t) := by
  simp only [execDupMacHoldEnd, ← ht, huntil, Option.any_some, decide_eq_true_eq]

theorem execResponseTimeoutDiscard_filters {p : Nat} (ht : t = s.advance a) :
    execResponseTimeoutDiscard a p s =
      .next (t.port p (fun x => { x with waiting := x.waiting.filter (fun f => decide (t.clock < f.since + 3000000)) })) := by
  rw [execResponseTimeoutDiscard, ← ht]

end

/-! ### Frames received and sent (R299, R304, R306) -/

section
variable {f : BusFrame}

theorem execBusFrameReceived_badCheck (ht : t = s.advance a) (hfcs : f.fcsOk = false) : execBusFrameReceived a f s = .next t := by
  rw [execBusFrameReceived, ← ht]
  exact congrArg _ (if_pos (by simp [hfcs]))

theorem execBusFrameReceived_port (ht : t = s.advance a) (hfcs : f.fcsOk = true) (hlow : 1 ≤ f.port) (hhigh : f.port < 7)
    (hlength : 2 ≤ f.port ∨ 64 ≤ f.length ∧ f.length ≤ 1522) (hready : t.rdy Rdy.services = true) (hhears : t.portHears f = true) :
    execBusFrameReceived a f s = .next (t.accept f) := by
  have hfits : (decide (2 ≤ f.port) || (decide (64 ≤ f.length) && decide (f.length ≤ 1522))) = true := by simpa using hlength
  rw [execBusFrameReceived, ← ht]
  exact congrArg _ ((if_neg (by simp [hfcs, hfits, hhigh])).trans ((if_neg (by omega)).trans (if_pos (by simp [hready, hhears]))))

/-- A frame of the switch is learned and forwarded, and goes to the module where it is meant for its port (R299). -/
theorem execBusFrameReceived_switch {u : State} (ht : t = s.advance a) (hfcs : f.fcsOk = true) (hport : f.port = 0)
    (hshort : 64 ≤ f.length) (hlong : f.length ≤ 1522) (hruns : t.switchRuns = true)
    (hu : u = ((t.port (sideKey f.side) (fun p => { p with framesIn := p.framesIn + 1 })).learn f.src f.side).forward f.dst f.side) :
    execBusFrameReceived a f s =
      .next (if t.rdy Rdy.services && toInterface 0 f.dst && !f.tagged then u.accept f else u) := by
  rw [execBusFrameReceived, ← ht, hu]
  exact congrArg _ ((if_neg (by simp [hfcs, hport, hshort, hlong])).trans ((if_pos hport).trans (if_neg (by simp [hruns]))))

end

theorem execBusFrameSent_queued {p side : Nat} {f : TxFrame} (ht : t = s.advance a)
    (hnext : nextFrame ((t.bus.ports.get p).tx.filter (t.maySend p)) = some f) (htransmits : t.transmits p = true) :
    execBusFrameSent a p side false s = .next (t.frameSent p side f) := by
  simp only [execBusFrameSent, ← ht, hnext, htransmits, Bool.false_eq_true, if_false, if_true]

theorem execBusFrameSent_forwarded {p side : Nat} (ht : t = s.advance a) (hegress : 0 < (t.bus.ports.get (sideKey side)).egress)
    (hruns : t.switchRuns = true) :
    execBusFrameSent a p side true s =
      .next (t.port (sideKey side) (fun x => { x with egress := x.egress - 1, framesOut := x.framesOut + 1 })) := by
  rw [execBusFrameSent, ← ht]
  exact congrArg _ ((if_pos rfl).trans (if_pos (by simp [hegress, hruns])))

/-! ### The registration as a foreign device (R309) -/

/-- A frame that is queued, waits or is dropped changes its port alone. -/
theorem State.queueFrame_ports (p : Nat) (f : TxFrame) (s : State) :
    ∃ ports, s.queueFrame p f = { s with bus.ports := ports } := by
  unfold State.queueFrame
  split
  · exact ⟨_, rfl⟩
  · split
    · exact ⟨_, rfl⟩
    · split <;> exact ⟨_, rfl⟩

theorem State.queueFrame_fdAt (p : Nat) (f : TxFrame) (s : State) : (s.queueFrame p f).bus.fdAt = s.bus.fdAt := by
  obtain ⟨ports, h⟩ := s.queueFrame_ports p f
  rw [h]

theorem State.fdRegister_fdAt (hbbmd : t.cfgN Fid.BAC_FD_BBMD ≠ 0) (htransmits : t.transmits 0 = true) :
    t.fdRegister.bus.fdAt = some t.clock := by
  rw [State.fdRegister, if_neg (by simp [hbbmd, htransmits]), State.queueFrame_fdAt]

theorem execForeignDeviceReregister_due (ht : t = s.advance a)
    (hdue : ∀ c, t.bus.fdAt = some c → c + t.cfgN Fid.BAC_FD_TTL * 500000 ≤ t.clock) :
    execForeignDeviceReregister a s = .next t.fdRegister := by
  rw [execForeignDeviceReregister, ← ht]
  exact congrArg _ (if_pos (by simpa [Option.all_eq_true] using hdue))

end

/-- Settles O31: each event takes what it read when its conditions hold, and without SERVICES the four of the links do not. -/
theorem portLinks : Obligations.PortLinks := by
  unfold Obligations.PortLinks
  refine ⟨?_, ?_, ?_, ?_, ?_, ?_, ?_⟩
  · intro a phy speed link full s t ht hready hphy
    exact execMdioPoll_reads ht hready hphy
  · intro a seen s t ht hready hon hplca
    exact execPlcaBeacon_counts ht hready hon hplca
  · intro a n inLoop token s t ht hready hn hmstp hpeer
    exact execMstpTimeout_sets ht hready hn hmstp hpeer
  · intro a i lease s t ht hready hi hdhcp
    exact execDhcpLeaseExpiry_binds ht hready hi hdhcp
  · intro a phy speed n i link full seen inLoop token lease s t ht hready
    exact linkEvents_idle ht hready
  · intro a n u s t ht huntil
    exact execDupMacHoldEnd_until ht huntil
  · intro a p s t ht
    exact execResponseTimeoutDiscard_filters ht

/-- Settles O32: a frame goes by its check and its port, and a registration leaves the moment it was sent. -/
theorem framesInAndOut : Obligations.FramesInAndOut := by
  unfold Obligations.FramesInAndOut
  refine ⟨?_, ?_, ?_, ?_, ?_, ?_⟩
  · intro a f s t ht hfcs
    exact execBusFrameReceived_badCheck ht hfcs
  · intro a f s t ht hfcs hlow hhigh hlength hready hhears
    exact execBusFrameReceived_port ht hfcs hlow hhigh hlength hready hhears
  · intro a f s t u ht hfcs hport hshort hlong hruns hu
    exact execBusFrameReceived_switch ht hfcs hport hshort hlong hruns hu
  · intro a p side f s t ht hnext htransmits
    exact execBusFrameSent_queued ht hnext htransmits
  · intro a p side s t ht hegress hruns
    exact execBusFrameSent_forwarded ht hegress hruns
  · intro a s t ht hbbmd htransmits hdue
    exact ⟨_, execForeignDeviceReregister_due ht hdue, State.fdRegister_fdAt hbbmd htransmits⟩

end Sys2Proof.Machine

/-! PROOFS. The BACnet services (R307, R338, R341, R354, R357, R358). -/

namespace Sys2Proof.Machine

section
variable {a : At} {p peer object mode ref : Nat} {count : Int} {s t : State}

/-! ### A request on a BACnet port (R307, R357) -/

/-- A request that is heard leaves its receive buffer and is answered where communication is not disabled. -/
theorem State.bacnet_answers {f : State → State} (hp : p < 7) (hport : t.bacnetPort p = true) (hon : t.bacnetOn = true)
    (hpeer : t.peerHolds = false) : t.bacnet p f = f (t.rxTake p) := by
  have hready : t.rdy Rdy.services = true := (Bool.and_eq_true_iff.mp hon).1
  have hanswers : ((t.rxTake p).bacnetOn && !(t.rxTake p).peerHolds) = true := by
    change (t.bacnetOn && !t.peerHolds) = true
    simp [hon, hpeer]
  exact (if_pos (by simp [hready, hp, hport])).trans (if_pos hanswers)

theorem State.bacnet_idle {f : State → State} (h : t.rdy Rdy.services = false ∨ t.bacnetPort p = false) : t.bacnet p f = t := by
  refine if_neg ?_
  rcases h with h | h <;> simp [h]

/-! ### TimeSynchronization, GetEventInformation and ReadRange (R341, R354, R358) -/

section
variable (ht : t = s.advance a) (hp : p < 7) (hport : t.bacnetPort p = true) (hon : t.bacnetOn = true) (hpeer : t.peerHolds = false)
include ht hp hport hon hpeer

theorem execTimeSynchronization_sets {secs hundredths : Nat} {isLocal : Bool} {w : Int}
    (hw : (t.rxTake p).wall16 (t.rxStamp p) = some w) :
    execTimeSynchronization a p isLocal secs hundredths s = .next ((t.rxTake p).setTime (if isLocal then 1 else 2)
      ((if isLocal then (t.rxTake p).utcOf secs else (secs : Int)) * 65536 + ((hundredths % 100 * 65536 / 100 : Nat) : Int)) w) := by
  rw [execTimeSynchronization, ← ht]
  refine congrArg _ ((State.bacnet_answers hp hport hon hpeer).trans ?_)
  rw [hw]

/-- The summary goes on after the last object of the answer before, or begins with the first (R354). -/
theorem execGetEventInformation_answers {after : Option Nat} {ids : List Nat}
    (hids : ids = (t.rxTake p).activeEvents.filter (fun x => after.all (fun id => decide (id < x)))) :
    execGetEventInformation a p peer after s = .next ((t.rxTake p).respond p peer .response
      ((ids.take 32).flatMap (t.rxTake p).eventSummary ++ [bit (decide (32 < ids.length))])) := by
  rw [execGetEventInformation, ← ht]
  refine congrArg _ ((State.bacnet_answers hp hport hon hpeer).trans ?_)
  cases after with
  | none =>
    rw [show ids = (t.rxTake p).activeEvents by rw [hids]; exact List.filter_eq_self.mpr fun _ _ => rfl]
  | some id =>
    rw [show ids = (t.rxTake p).activeEvents.filter (fun x => decide (id < x)) from hids]

theorem execReadRange_unknown (hobject : (t.rxTake p).objOf object = none) :
    execReadRange a p peer object mode ref count s = .next ((t.rxTake p).respondError p peer errUnknownObject) := by
  rw [execReadRange, ← ht]
  refine congrArg _ ((State.bacnet_answers hp hport hon hpeer).trans ?_)
  rw [hobject]

theorem execReadRange_noTrend {o : Obj} (hobject : (t.rxTake p).objOf object = some o) (hother : ∀ n, o ≠ .trend n) :
    execReadRange a p peer object mode ref count s = .next ((t.rxTake p).respondError p peer (5, 22)) := by
  rw [execReadRange, ← ht]
  refine congrArg _ ((State.bacnet_answers hp hport hon hpeer).trans ?_)
  rw [hobject]
  cases o with
  | trend n => exact absurd rfl (hother n)
  | _ => rfl

theorem execReadRange_trend {n : Nat} {u : State} (hu : u = t.rxTake p) (hobject : u.objOf object = some (.trend n)) :
    ∃ head, execReadRange a p peer object mode ref count s = .next (u.respond p peer .response
      (head ++ (u.rangeOf (u.svc.trends.get n).records mode ref count).flatMap u.recData)) ∧
      head.getLast? = some (u.rangeOf (u.svc.trends.get n).records mode ref count).length := by
  subst hu
  rw [execReadRange, ← ht, State.bacnet_answers hp hport hon hpeer, hobject]
  exact ⟨_, rfl, rfl⟩

end

end

/-- Settles O33: every service takes its request from a port that hears it and answers it, and on another port none does. -/
theorem bacnetServices : Obligations.BacnetServices := by
  unfold Obligations.BacnetServices
  refine ⟨?_, ?_, ?_, ?_, ?_, ?_, ?_, ?_, ?_, ?_⟩
  · intro a p peer m items s t ht hp hport hon hpeer
    subst ht
    exact ⟨congrArg _ (State.bacnet_answers hp hport hon hpeer), congrArg _ (State.bacnet_answers hp hport hon hpeer)⟩
  · intro a p peer process object confirmed cancel lifetime s t ht hp hport hon hpeer
    subst ht
    exact congrArg _ (State.bacnet_answers hp hport hon hpeer)
  · intro a p w s t ht hp hport hon hpeer
    subst ht
    exact congrArg _ (State.bacnet_answers hp hport hon hpeer)
  · intro a p secs hundredths isLocal w s t ht hp hport hon hpeer hw
    exact execTimeSynchronization_sets ht hp hport hon hpeer hw
  · intro a p peer object kind time isSeq s t ht hp hport hon hpeer
    subst ht
    exact congrArg _ (State.bacnet_answers hp hport hon hpeer)
  · intro a p peer after ids s t ht hp hport hon hpeer hids
    exact execGetEventInformation_answers ht hp hport hon hpeer hids
  · intro a p peer object mode ref count s t ht hp hport hon hpeer hobject
    exact execReadRange_unknown ht hp hport hon hpeer hobject
  · intro a p peer object mode ref count o s t ht hp hport hon hpeer hobject hother
    exact execReadRange_noTrend ht hp hport hon hpeer hobject hother
  · intro a p peer object mode ref n count s t u ht hp hport hon hpeer hu hobject
    exact execReadRange_trend ht hp hport hon hpeer hu hobject
  · intro a p peer process object kind time mode ref secs hundredths m confirmed cancel isSeq isLocal items lifetime after w count
      s t ht hidle
    subst ht
    refine ⟨?_, ?_, ?_, ?_, ?_, ?_, ?_, ?_⟩ <;> exact congrArg _ (State.bacnet_idle hidle)

end Sys2Proof.Machine

/-! PROOFS. The partners of the building bus and the BACnet/SC connection (R311, R312, R318–R320, R322–R324). -/

namespace Sys2Proof.Machine

section
variable {a : At} {i p code : Nat} {s t : State}

/-! ### Partners (R318–R320, R322–R324) -/

section
variable (ht : t = s.advance a) (hready : t.rdy Rdy.services = true)
include ht hready

theorem execIAm_hears {addr inst net : Nat} (hpeer : t.peerHolds = false) (hp : p < 7) (hport : t.bacnetPort p = true) :
    execIAm a p addr inst net s = .next ((t.rxTake p).iAm p addr (inst % 2 ^ 22) net) := by
  rw [execIAm, ← ht]
  exact congrArg _ (if_pos (by simp [hready, hpeer, hp, hport]))

theorem execPartnerChanged_posts (hdue : t.bus.changedDue = true)
    (hturn : ∀ u, t.bus.changedTurn = some u → u + 64 ≤ t.turn) :
    execPartnerChanged a s = .next (State.postEvent
      { source := 16, severity := 1, code := 0xF020, stamp := t.now, payload := le 2 t.bus.generation.toNat }
      { t with bus.changedDue := false, bus.changedTurn := some t.turn }) := by
  have hquiet : t.bus.changedTurn.all (fun u => decide (u + 64 ≤ t.turn)) = true := by simpa [Option.all_eq_true] using hturn
  rw [execPartnerChanged, ← ht]
  exact congrArg _ (if_pos (by simp only [hdue, hready, hquiet, Bool.and_self]))

theorem execProvisionalTimeout_provisional (hstate : (t.bus.partners.get i).state = .provisional) :
    execProvisionalTimeout a i s = .next (if (t.bus.partners.get i).since + 4096 ≤ t.turn then t.dropPartner i else t) := by
  simp [execProvisionalTimeout, ← ht, hready, hstate]

theorem execPartnerSave_saves :
    execPartnerSave a s = .next (if t.bus.savedTurn + 65536 ≤ t.turn then t.savePartners else t) := by
  simp [execPartnerSave, ← ht, hready]

theorem execNetworkLayerMessage_taken {peer : Nat} {m : NetMsg} (hpeer : t.peerHolds = false) (hp : p < 7)
    (hport : t.bacnetPort p = true) : execNetworkLayerMessage a p peer m s = .next ((t.rxTake p).netMessage p peer m) := by
  rw [execNetworkLayerMessage, ← ht]
  exact congrArg _ (if_pos (by simp [hready, hpeer, hp, hport]))

section
variable (hpeer : t.peerHolds = false)
include hpeer

theorem execWhoisPeriod_asks :
    execWhoisPeriod a s = .next (if t.bus.whoIsTurn + t.cfgN Fid.BUS_WHOIS_PERIOD ≤ t.turn then t.whoIsAll else t) := by
  simp [execWhoisPeriod, ← ht, hready, hpeer]

theorem execPartnerHalfSilence_asks (hstate : (t.bus.partners.get i).state = .identified)
    (hkind : (t.bus.partners.get i).kind ≠ 5) (hasked : (t.bus.partners.get i).asked = false) :
    execPartnerHalfSilence a i s = .next (if t.cfgN Fid.BUS_SILENCE / 2 ≤ t.turnsSince (t.bus.partners.get i).lastHeard then
      (t.entry i (fun e => { e with asked := true })).whoIsTo i else t) := by
  simp [execPartnerHalfSilence, ← ht, hready, hpeer, hstate, hkind, hasked]

theorem execPartnerSilent_falls (hstate : (t.bus.partners.get i).state = .identified) (hkind : (t.bus.partners.get i).kind ≠ 5) :
    execPartnerSilent a i s =
      .next (if t.cfgN Fid.BUS_SILENCE ≤ t.turnsSince (t.bus.partners.get i).lastHeard then t.fallSilent i else t) := by
  simp [execPartnerSilent, ← ht, hready, hpeer, hstate, hkind]

end

end

/-! ### What a change of the BACnet/SC connection leaves of it (R312) -/

theorem State.queueFrame_sc (p : Nat) (f : TxFrame) (s : State) : (s.queueFrame p f).bus.sc = s.bus.sc := by
  obtain ⟨ports, h⟩ := s.queueFrame_ports p f
  rw [h]

/-- A flush empties buffers of port 6 alone. -/
theorem State.scFlush_ports (s : State) : ∃ ports, s.scFlush = { s with bus.ports := ports } := by
  unfold State.scFlush
  split <;> exact ⟨_, rfl⟩

theorem State.scFlush_sc (s : State) : s.scFlush.bus.sc = s.bus.sc := by
  obtain ⟨ports, h⟩ := s.scFlush_ports
  rw [h]

theorem State.scEnter_sc (st : ScState) (code : Nat) (s : State) : (s.scEnter st code).bus.sc = st := by
  have hrecord : ∀ (b : Prop) [Decidable b] (u : State), (if b then u else u.scRecord code).bus.sc = u.bus.sc :=
    fun b _ u => by split <;> rfl
  rw [State.scEnter, State.scFlush_sc, hrecord]
  split
  · exact State.queueFrame_sc ..
  · rfl

theorem State.scConnected_sc (st : ScState) (code : Nat) (s : State) : (s.scConnected st code).bus.sc = st :=
  State.scEnter_sc st code s

/-! ### The attempts and losses of the connection (R312) -/

theorem execScConnectionLost_primary (ht : t = s.advance a) (hsc : t.bus.sc = .primary) (hlost : t.bus.scLost = none) :
    execScConnectionLost a code s = .next (State.scFlush { t with bus.scLost := some code, bus.scDue := t.scWait }) := by
  simp [execScConnectionLost, ← ht, hsc, hlost]

theorem execScConnectionLost_failover (ht : t = s.advance a) (hsc : t.bus.sc = .failover) :
    execScConnectionLost a code s = .next (t.scEnter .connectingPrimary code) := by
  simp only [execScConnectionLost, ← ht, hsc]

section
variable {c : Nat} (ht : t = s.advance a) (hready : t.rdy Rdy.services = true)

section
variable (htrying : t.bus.scTrying = some c) (htime : t.clock ≤ c + 10000000)
include ht hready htrying htime

theorem execScConnectResult_primary (hsc : t.bus.sc = .connectingPrimary) :
    execScConnectResult a true code s = .next (t.scConnected .primary code) := by
  simp [execScConnectResult, ← ht, hready, htrying, htime, hsc]

theorem execScConnectResult_failover (hsc : t.bus.sc = .connectingFailover) :
    execScConnectResult a true code s =
      .next { t.scConnected .failover code with bus.scDue := (t.scConnected .failover code).scWait } := by
  simp [execScConnectResult, ← ht, hready, htrying, htime, hsc]

end

section
variable (htrying : t.bus.scTrying.isSome = true)
include ht hready htrying

theorem execScConnectResult_primaryFails (hsc : t.bus.sc = .connectingPrimary) :
    execScConnectResult a false code s = .next (t.scEnter .connectingFailover code) := by
  simp [execScConnectResult, ← ht, hready, hsc, Option.isSome_iff_ne_none.mp htrying]

theorem execScConnectResult_failoverFails (hsc : t.bus.sc = .connectingFailover) :
    execScConnectResult a false code s =
      .next { t with bus.scTrying := none, bus.scLost := some code, bus.scDue := t.scWait } := by
  simp [execScConnectResult, ← ht, hready, hsc, Option.isSome_iff_ne_none.mp htrying]

end

section
variable {d : Nat} (hdue : t.bus.scDue = some d) (hover : d ≤ t.clock)
include ht hready hdue hover

theorem execScReconnect_failover (hsc : t.bus.sc = .failover) :
    execScReconnect a s = .next { t with bus.scTrying := some t.clock, bus.scDue := t.scWait } := by
  simp [execScReconnect, ← ht, hready, hdue, hover, hsc]

theorem execScReconnect_elsewhere (hsc : t.bus.sc ≠ .failover) :
    execScReconnect a s = .next (t.scEnter .connectingPrimary (t.bus.scLost.getD 0)) := by
  simp [execScReconnect, ← ht, hready, hdue, hover, hsc]

end

end

end

/-- Settles O35: each event runs when its conditions hold, and a change of the connection ends in the state it enters. -/
theorem partnersAndSecureConnect : Obligations.PartnersAndSecureConnect := by
  unfold Obligations.PartnersAndSecureConnect
  refine ⟨?_, ?_, ?_, ?_, ?_, ?_, ?_, ?_, ?_, ?_, ?_, ?_, ?_⟩
  · intro a p addr inst net s t ht hready hpeer hp hport
    exact execIAm_hears ht hready hpeer hp hport
  · intro a s t ht hdue hready hturn
    exact execPartnerChanged_posts ht hready hdue hturn
  · intro a i s t ht hready hstate
    exact execProvisionalTimeout_provisional ht hready hstate
  · intro a i s t ht hready hpeer hstate hkind hasked
    exact execPartnerHalfSilence_asks ht hready hpeer hstate hkind hasked
  · intro a i s t ht hready hpeer hstate hkind
    exact execPartnerSilent_falls ht hready hpeer hstate hkind
  · intro a s t ht hready hpeer
    exact execWhoisPeriod_asks ht hready hpeer
  · intro a s t ht hready
    exact execPartnerSave_saves ht hready
  · intro a c code s t ht hready htrying htime
    exact ⟨fun hsc => ⟨_, execScConnectResult_primary ht hready htrying htime hsc, State.scConnected_sc ..⟩,
      fun hsc => ⟨_, execScConnectResult_failover ht hready htrying htime hsc, State.scConnected_sc ..⟩⟩
  · intro a code s t ht hready htrying
    exact ⟨fun hsc => ⟨_, execScConnectResult_primaryFails ht hready htrying hsc, State.scEnter_sc ..⟩,
      fun hsc => execScConnectResult_failoverFails ht hready htrying hsc⟩
  · intro a code s t ht hsc hlost
    obtain ⟨ports, hflush⟩ := State.scFlush_ports { t with bus.scLost := some code, bus.scDue := t.scWait }
    refine ⟨_, execScConnectionLost_primary ht hsc hlost, ?_⟩
    rw [hflush]
    exact ⟨hsc, rfl, rfl⟩
  · intro a code s t ht hsc
    exact ⟨_, execScConnectionLost_failover ht hsc, State.scEnter_sc ..⟩
  · intro a d s t ht hready hdue hover
    exact ⟨execScReconnect_failover ht hready hdue hover,
      fun hsc => ⟨_, execScReconnect_elsewhere ht hready hdue hover hsc, State.scEnter_sc ..⟩⟩
  · intro a p peer m s t ht hready hpeer hp hport
    exact execNetworkLayerMessage_taken ht hready hpeer hp hport

end Sys2Proof.Machine

/-! PROOFS. The bindings and the requests to partners (R308, R314–R316, R318, R325, R326, R328, R329). -/

namespace Sys2Proof.Machine

section
variable {a : At} {b i id : Nat} {o : Outstanding} {s t : State}

/-! ### Bindings that read (R325, R326) -/

theorem execBindingPoll_due (ht : t = s.advance a) (hi : t.bindPartner b = some i) (hdue : t.pollDue b = true)
    (hcan : t.bindCanPoll b = true) : execBindingPoll a b s = .next (t.poll b i) := by
  simp only [execBindingPoll, ← ht, hi, hdue, hcan, Bool.and_self, if_true]

/-- A subscription is due where there is none yet, and once three quarters of its lifetime are over (R326). -/
theorem execCovRenew_due (ht : t = s.advance a) (hi : t.bindPartner b = some i) (hforce : (t.bus.binds.get b).inForce = true)
    (hdir : t.cfgN Fid.BIND_DIR b = 0) (hmethod : t.cfgN Fid.BIND_METHOD b = 1)
    (hdue : (t.bus.binds.get b).covActive = false ∧ (t.bus.binds.get b).covRefused = false ∨ (t.bus.binds.get b).covActive = true ∧
      (t.bus.binds.get b).covSince + t.cfgN Fid.BIND_COV_LIFE b * 750000 ≤ t.clock)
    (hopen : ∀ o ∈ t.bus.requests, ¬ (o.what = TxKind.subscribe ∧ o.binds = [b])) (hcan : t.bindCanPoll b = true) :
    execCovRenew a b s =
      .next (t.request 4 { port := (t.bus.partners.get i).port, what := .subscribe, partner := i, binds := [b] }) := by
  have hlifetime : (if (t.bus.binds.get b).covActive = true then
      decide ((t.bus.binds.get b).covSince + t.cfgN Fid.BIND_COV_LIFE b * 750000 ≤ t.clock)
      else !(t.bus.binds.get b).covRefused) = true := by
    rcases hdue with ⟨hactive, hrefused⟩ | ⟨hactive, hsince⟩
    · simp [hactive, hrefused]
    · simp [hactive, hsince]
  have hnone : t.bus.requests.any (fun o => o.what == .subscribe && o.binds == [b]) = false := by
    simpa [List.any_eq_false] using hopen
  simp only [execCovRenew, ← ht, hi, hnone, hlifetime]
  exact congrArg _ (if_pos (by simp [hforce, hdir, hmethod, hcan]))

section
variable {p addr object : Nat} {value : List Byte} {fault confirmed : Bool} (ht : t = s.advance a) (hon : t.bacnetOn = true)
  (hpeer : t.peerHolds = false) (hp : p < 7) (hport : t.bacnetPort p = true)
include ht hon hpeer hp hport

/-- A notification that comes from no partner changes no binding (R326). -/
theorem execCovNotification_stranger (hnone : (t.rxTake p).partnerAt p addr = none) :
    execCovNotification a p addr object value fault confirmed s =
      .next (if confirmed then (t.rxTake p).respond p addr .response [] else t.rxTake p) := by
  rw [execCovNotification, ← ht]
  refine congrArg _ ((if_pos (by simp [hon, hpeer, hp, hport])).trans ?_)
  simp only [hnone]

theorem execCovNotification_partner {u v : State} (hu : u = t.rxTake p) (hi : u.partnerAt p addr = some i)
    (hv : v = State.each ((u.bindsOf i).filter (fun b => u.cfgN Fid.BIND_DIR b == 0 && u.cfgN Fid.BIND_METHOD b == 1 &&
      u.cfgN Fid.BIND_OBJECT b == object && u.cfgN Fid.BIND_PROPERTY b % 65536 == Prop_.presentValue))
      (fun b w => (w.bindValue b (t.rxStamp p) (valueOf value) fault).bind b (fun x => { x with lastNotified := w.turn })) u) :
    execCovNotification a p addr object value fault confirmed s =
      .next (if confirmed then v.respond p addr .response [] else v) := by
  subst hu hv
  rw [execCovNotification, ← ht]
  refine congrArg _ ((if_pos (by simp [hon, hpeer, hp, hport])).trans ?_)
  simp only [hi]

end

/-! ### Bindings that write (R328, R329) -/

section
variable {v : Word32} (ht : t = s.advance a) (hi : t.bindPartner b = some i) (hforce : (t.bus.binds.get b).inForce = true)
  (hcan : t.bindCanPoll b = true)
include ht hi hforce hcan

theorem execBindingWrite_takes {u : State} (hoffered : (t.bus.binds.get b).offered = some v) (hdir : t.cfgN Fid.BIND_DIR b = 1)
    (hu : u = t.bind b (fun x => { x with offered := none })) :
    execBindingWrite a b s = .next (if t.writeDue b v then u.sendWrite b i v else u) := by
  subst hu
  simp [execBindingWrite, ← ht, hi, hoffered, hforce, hdir, hcan]

theorem execBindingWriteRetry_due
    (hv : (t.bus.binds.get b).pending.orElse (fun _ => (t.bus.binds.get b).lastSent) = some v)
    (hrepeats : (t.bus.binds.get b).repeats = true)
    (hturn : t.turn % t.cfgN Fid.BIND_PERIOD b = b % t.cfgN Fid.BIND_PERIOD b) :
    execBindingWriteRetry a b s = .next (t.sendWrite b i v) := by
  simp only [execBindingWriteRetry, ← ht, hi, hv]
  exact congrArg _ (if_pos (by simp [hforce, hrepeats, hturn, hcan]))

end

/-! ### BACnet requests without an answer (R308) -/

section
variable (ht : t = s.advance a) (ho : t.bus.requests.find? (fun o => o.id == id && o.what != .modbusRequest) = some o)
include ht ho

theorem execApduTimeout_overdue (hover : t.overdue o 3000000 = true) :
    execApduTimeout a id s = .next (if o.retries < 2 then t.repeatRequest o else t.requestFails o) := by
  simp only [execApduTimeout, ← ht, ho, hover, Bool.not_true, Bool.false_eq_true, if_false]

theorem execApduTimeout_waits (hover : t.overdue o 3000000 = false) : execApduTimeout a id s = .next t := by
  simp only [execApduTimeout, ← ht, ho, hover, Bool.not_false, if_true]

end

/-- The request that is repeated is counted and waits for its frame to be sent again. -/
theorem State.repeatRequest_frame (hid : o.id = id) :
    ∃ f u, t.repeatRequest o = State.queueFrame o.port f u ∧ f.cls = o.cls ∧ f.what = o.what ∧
      u.bus.requests = t.bus.requests.map
        (fun (r : Outstanding) => if r.id = id then { r with retries := r.retries + 1, sent := none } else r) := by
  subst hid
  exact ⟨_, _, rfl, rfl, rfl, rfl⟩

theorem id_of_find_request {requests : List Outstanding} {q : Outstanding → Bool}
    (h : requests.find? (fun o => o.id == id && q o) = some o) : o.id = id := by
  have hfound := List.find?_some h
  exact eq_of_beq (Bool.and_eq_true_iff.mp hfound).1

/-! ### Modbus requests and the slave (R314–R316, R318) -/

section
variable {regs : List Nat} (ht : t = s.advance a)
  (ho : t.bus.requests.find? (fun o => o.id == id && o.what == .modbusRequest && o.sent.isSome) = some o)
include ht ho

theorem execModbusReply_exception :
    execModbusReply a id true regs s = .next (((t.rxTake o.port).heard o.partner).requestFails o) := by
  simp only [execModbusReply, ← ht, ho, if_true]

theorem execModbusReply_single {v : State} (hbinds : o.binds = [b])
    (hv : v = ((t.rxTake o.port).heard o.partner).closeRequest id) :
    execModbusReply a id false regs s = .next (if v.cfgN Fid.BIND_DIR b = 1
      then v.bind b (fun x => { x with writeFailed := false, repeats := false })
      else v.bindValue b (t.rxStamp o.port) (mbDecode (v.cfgN Fid.BIND_ENCODING b) regs (v.mbAddress b - v.mbBase [b])) false) := by
  subst hv
  simp only [execModbusReply, ← ht, ho, hbinds, Bool.false_eq_true, if_false, State.each_cons, State.each_nil]

end

/-- A Modbus request that is overdue and repeated often enough fails, and its partner falls silent (R316, R318). -/
theorem execModbusTimeout_overdue (ht : t = s.advance a)
    (ho : t.bus.requests.find? (fun o => o.id == id && o.what == .modbusRequest) = some o)
    (hover : t.overdue o (t.cfgN Fid.MB_TIMEOUT (o.port - 2) * 1000) = true) :
    execModbusTimeout a id s = .next (if o.retries < t.cfgN Fid.MB_RETRY (o.port - 2) then t.repeatRequest o
      else if ((t.requestFails o).bus.partners.get o.partner).state = PState.identified then (t.requestFails o).fallSilent o.partner
      else t.requestFails o) := by
  simp only [execModbusTimeout, ← ht, ho, hover, Bool.not_true, Bool.false_eq_true, if_false]

theorem execModbusSlaveRequest_serves {n fn addr count waddr : Nat} {values : List Nat} (ht : t = s.advance a)
    (hready : t.rdy Rdy.services = true) (hn : n < 4) (hslave : t.cfgN Fid.LINE_PROTOCOL n = 3) (hpeer : t.peerHolds = false) :
    execModbusSlaveRequest a n fn addr count waddr values s =
      .next (match (t.rxTake (2 + n)).mbServe fn addr count waddr values with
        | .ok (v, d) => v.queueFrame (2 + n) { cls := 2, what := .modbusReply, data := fn :: d }
        | .error e => (t.rxTake (2 + n)).queueFrame (2 + n) { cls := 2, what := .modbusReply, data := [fn + 128, e] }) := by
  have hholds : ¬ (t.rxTake (2 + n)).peerHolds = true := Bool.eq_false_iff.mp hpeer
  rw [execModbusSlaveRequest, ← ht]
  exact congrArg _ ((if_pos (by simp [hready, hn, hslave])).trans (if_neg hholds))

end

/-- Settles O36: each command by the conditions of its rule; a repeat by the frame it queues and the request it counts. -/
theorem bindingsAndRequests : Obligations.BindingsAndRequests := by
  unfold Obligations.BindingsAndRequests
  refine ⟨?_, ?_, ?_, ?_, ?_, ?_, ?_, ?_, ?_, ?_, ?_, ?_, ?_, ?_⟩
  · intro a b i s t ht hi hdue hcan
    exact execBindingPoll_due ht hi hdue hcan
  · intro a b i s t ht hi hforce hdir hmethod hdue hopen hcan
    exact execCovRenew_due ht hi hforce hdir hmethod hdue hopen hcan
  · intro a p addr object value fault s t ht hon hpeer hp hport hnone
    exact ⟨execCovNotification_stranger ht hon hpeer hp hport hnone, execCovNotification_stranger ht hon hpeer hp hport hnone⟩
  · intro a p addr object i value fault confirmed s t u v ht hon hpeer hp hport hu hi hv
    exact execCovNotification_partner ht hon hpeer hp hport hu hi hv
  · intro a b i v s t u ht hi hoffered hforce hdir hcan hu
    exact execBindingWrite_takes ht hi hforce hcan hoffered hdir hu
  · intro a b i v s t ht hi hv hforce hrepeats hturn hcan
    exact execBindingWriteRetry_due ht hi hforce hcan hv hrepeats hturn
  · intro a id o s t ht ho hover
    exact execApduTimeout_overdue ht ho hover
  · intro a id o s t ht ho hover
    exact execApduTimeout_waits ht ho hover
  · intro a id o s t ht ho hover hretries
    obtain ⟨f, u, hrepeat, hframe⟩ := State.repeatRequest_frame (t := t) (id_of_find_request ho)
    refine ⟨f, u, ?_, hframe⟩
    rw [← hrepeat]
    exact (execApduTimeout_overdue ht ho hover).trans (congrArg _ (if_pos hretries))
  · intro a id regs o s t ht ho
    exact execModbusReply_exception ht ho
  · intro a id b regs o s t v ht ho hbinds hv
    exact execModbusReply_single ht ho hbinds hv
  · intro a id o s t ht ho hover
    exact execModbusTimeout_overdue ht ho hover
  · intro a n fn addr count waddr values d v s t ht hready hn hslave hpeer hserve
    exact (execModbusSlaveRequest_serves ht hready hn hslave hpeer).trans (by rw [hserve])
  · intro a n fn addr count waddr e values s t ht hready hn hslave hpeer hserve
    exact (execModbusSlaveRequest_serves ht hready hn hslave hpeer).trans (by rw [hserve])

end Sys2Proof.Machine

/-! PROOFS. The guards of the safe climate (R361). -/

namespace Sys2Proof.Machine

@[simp] theorem Policy.guardRun_setRun (p : Policy) (hot : Bool) (g : GuardRun) : (p.setRun hot g).guardRun hot = g := by
  cases hot <;> rfl

@[simp] theorem Policy.guardRun_setRun_other (p : Policy) (hot : Bool) (g : GuardRun) :
    (p.setRun hot g).guardRun (!hot) = p.guardRun (!hot) := by
  cases hot <;> rfl

section
variable {a : At} {z : Nat} {hot : Bool} {s t u : State}

/-- Where one guard of a zone was set, it stands as it was set and the zone's other guard as it was. -/
theorem guardRun_of_setRun {g : GuardRun} (h : u.policy = t.policy.set z ((t.policy.get z).setRun hot g)) :
    (u.policy.get z).guardRun hot = g ∧ (u.policy.get z).guardRun (!hot) = (t.policy.get z).guardRun (!hot) := by
  rw [h, Tbl.get_set_same]
  exact ⟨Policy.guardRun_setRun .., Policy.guardRun_setRun_other ..⟩

variable (ht : t = s.advance a) (hready : t.rdy Rdy.config = true)
include ht hready

theorem execGuardEngaged_engages (hpresent : t.present z = true) (hoff : ((t.policy.get z).guardRun hot).on = false)
    (harmed : (t.guardLimit hot).isSome = true) (hheld : t.cfgN Fid.SCP_DELAY ≤ ((t.policy.get z).guardRun hot).run) :
    ∃ u, execGuardEngaged a z hot s = .next u ∧
      u.policy = t.policy.set z ((t.policy.get z).setRun hot { on := true, since := t.now }) := by
  rw [execGuardEngaged, ← ht]
  exact ⟨_, congrArg _ (if_pos (by simp [hready, hpresent, hoff, harmed, hheld])), State.record_policy ..⟩

theorem execGuardReleased_releases (hon : ((t.policy.get z).guardRun hot).on = true)
    (hdue : t.guardLimit hot = none ∨ t.cfgN Fid.SCP_DELAY ≤ ((t.policy.get z).guardRun hot).run ∧
      t.cfgN Fid.SCP_MIN_ON ≤ t.engagedTurns ((t.policy.get z).guardRun hot)) :
    ∃ u, execGuardReleased a z hot s = .next u ∧ u.policy = t.policy.set z ((t.policy.get z).setRun hot {}) := by
  rw [execGuardReleased, ← ht]
  refine ⟨_, congrArg _ (if_pos ?_), State.record_policy ..⟩
  rcases hdue with hdisarmed | ⟨hheld, hlong⟩
  · simp [hready, hon, hdisarmed]
  · simp [hready, hon, hheld, hlong]

theorem execGuardBlind_releases (hon : ((t.policy.get z).guardRun hot).on = true) (hlimit : t.cfgN Fid.SCP_BLIND_LIMIT ≠ 0)
    (hblind : (t.policy.get z).blind = true) (hturns : t.cfgN Fid.SCP_BLIND_LIMIT ≤ (t.policy.get z).blindTurns) :
    ∃ u, execGuardBlind a z hot s = .next u ∧ u.policy = t.policy.set z ((t.policy.get z).setRun hot {}) := by
  rw [execGuardBlind, ← ht]
  exact ⟨_, congrArg _ (if_pos (by simp [hready, hon, hlimit, hblind, hturns])), State.record_policy ..⟩

end

/-- Settles O37: each command that is due sets its guard of the zone, and setting one guard leaves the other. -/
theorem guardsOfTheSafeClimate : Obligations.GuardsOfTheSafeClimate := by
  unfold Obligations.GuardsOfTheSafeClimate
  refine ⟨?_, ?_, ?_⟩
  · intro a z hot s t ht hready hpresent hoff harmed hheld
    obtain ⟨u, hnext, hpolicy⟩ := execGuardEngaged_engages ht hready hpresent hoff harmed hheld
    obtain ⟨hset, hother⟩ := guardRun_of_setRun hpolicy
    exact ⟨u, hnext, by rw [hset], by rw [hset], hother⟩
  · intro a z hot s t ht hready hon hdue
    obtain ⟨u, hnext, hpolicy⟩ := execGuardReleased_releases ht hready hon hdue
    obtain ⟨hset, hother⟩ := guardRun_of_setRun hpolicy
    exact ⟨u, hnext, by rw [hset], hother⟩
  · intro a z hot s t ht hready hon hlimit hblind hturns
    obtain ⟨u, hnext, hpolicy⟩ := execGuardBlind_releases ht hready hon hlimit hblind hturns
    obtain ⟨hset, hother⟩ := guardRun_of_setRun hpolicy
    exact ⟨u, hnext, by rw [hset], hother⟩

end Sys2Proof.Machine

/-! PROOFS. DeviceCommunicationControl, ReinitializeDevice and the sending of notifications (R357–R359). -/

namespace Sys2Proof.Machine

/-! ### A request that is executed even while communication is disabled (R358) -/

section
variable {p peer : Nat} {t : State}

theorem State.bacnetAlways_answers {f : State → State} (hready : t.rdy Rdy.services = true) (hp : p < 7)
    (hport : t.bacnetPort p = true) (hpeer : t.peerHolds = false) : t.bacnetAlways p f = f (t.rxTake p) := by
  have hholds : ¬ (t.rxTake p).peerHolds = true := Bool.eq_false_iff.mp hpeer
  exact (if_pos (by simp [hready, hp, hport])).trans (if_neg hholds)

/-- A response changes the building bus alone, whether it is sent, waits or is dropped. -/
theorem State.respond_bus (p peer : Nat) (what : TxKind) (data : List Nat) (s : State) :
    ∃ bus, s.respond p peer what data = { s with bus := bus } := by
  have hqueue : ∀ (q : Nat) (f : TxFrame) (b : Bus), ∃ bus, State.queueFrame q f { s with bus := b } = { s with bus := bus } := by
    intro q f b
    obtain ⟨ports, h⟩ := State.queueFrame_ports q f { s with bus := b }
    exact ⟨_, h⟩
  unfold State.respond
  dsimp only
  split
  · exact hqueue p _ s.bus
  · split
    · exact hqueue p _ s.bus
    · split
      · exact hqueue p _ s.bus
      · exact hqueue p _ _

theorem State.rxTake_respondError_bus (p peer : Nat) (e : BErr) (t : State) :
    ∃ bus, (t.rxTake p).respondError p peer e = { t with bus := bus } :=
  (t.rxTake p).respond_bus p peer .error [e.1, e.2]

@[simp] theorem State.rxTake_passwordFits (p : Nat) (password : List Byte) (t : State) :
    (t.rxTake p).passwordFits password = t.passwordFits password := rfl

end

/-! ### What a start of the module leaves beside the field sides (R526, R528) -/

/-- A state without its field sides and what they count and record: what a link-start frame cannot reach. -/
def State.offField (s : State) : State := { s with fld := {}, log := {}, nv := {} }

@[simp] theorem State.chPin_offField (n : Nat) (s : State) : (s.chPin n).offField = s.offField := by
  unfold State.chPin; dsimp only; (repeat' split) <;> rfl

@[simp] theorem State.chLevel_offField (n : Nat) (on : Bool) (s : State) : (s.chLevel n on).offField = s.offField :=
  State.chPin_offField ..

@[simp] theorem State.fieldEvent_offField (g sev code : Nat) (payload : List Byte) (target : Nat) (s : State) :
    (s.fieldEvent g sev code payload target).offField = s.offField := by
  unfold State.fieldEvent; dsimp only; (repeat' split) <;> rfl

@[simp] theorem State.enterSafe_offField (g : Nat) (s : State) : (s.enterSafe g).offField = s.offField :=
  (State.fieldEvent_offField ..).trans
    (State.each_keeps State.offField _ _ _ fun _ _ => State.chLevel_offField ..)

@[simp] theorem State.linkStart_offField (g : Nat) (s : State) : (s.linkStart g).offField = s.offField := by
  unfold State.linkStart
  dsimp only
  split
  · exact (State.enterSafe_offField ..).trans (State.each_keeps State.offField _ _ _ fun _ _ => rfl)
  · exact State.each_keeps State.offField _ _ _ fun _ _ => rfl

/-- Of the mailbox an update of the READY word changes its interrupt alone (R534). -/
theorem State.updateReady_mb (sets clears : List Nat) (s : State) :
    (s.updateReady sets clears).mb = { s.mb with irqStatus := (s.updateReady sets clears).mb.irqStatus } := by
  unfold State.updateReady
  dsimp only
  split
  · rfl
  · rw [foldl_keeps State.mb _ _ _ fun _ _ => State.readyRecord_mb ..]
    rfl

/-- The start of a module on COLDSTART or RESET (R359, R526): its cause is 4, and of the mailbox an interrupt alone may stand. -/
theorem State.startUp_host (s : State) :
    (s.startUp 4).bin.resetCause = 4 ∧ (s.startUp 4).mb = { s.mb with irqStatus := (s.startUp 4).mb.irqStatus } := by
  unfold State.startUp
  dsimp only
  split
  · exact ⟨rfl, rfl⟩
  · generalize hgs : (upTo 4).filter _ = gs
    generalize hu : State.count 1 1 _ = u
    have hbin : u.bin.resetCause = 4 := by rw [← hu]; rfl
    have hmb : u.mb = s.mb := by rw [← hu]; rfl
    have hkeeps : (State.each gs State.linkStart u).offField = u.offField :=
      State.each_keeps State.offField _ _ _ State.linkStart_offField
    have hkbin : (State.each gs State.linkStart u).bin = u.bin := (congrArg State.bin hkeeps :)
    have hkmb : (State.each gs State.linkStart u).mb = s.mb := (congrArg State.mb hkeeps :).trans hmb
    refine ⟨by rw [State.updateReady_bin, hkbin, hbin], ?_⟩
    rw [← hkmb]
    exact State.updateReady_mb ..

/-- A deliberate restart clears SERVICES, and SC0–SC3 pause without a failure counted (R473). -/
theorem State.restartServices_pauses (reason : Nat) (s : State) :
    (s.restartServices reason).rdy Rdy.services = false ∧ (s.restartServices reason).bin.svc = .paused ∧
      (s.restartServices reason).bin.deliberate = true := by
  refine ⟨?_, rfl, rfl⟩
  change s.servicesDown.rdy Rdy.services = false
  unfold State.servicesDown
  dsimp only
  rw [State.rdy, State.lower_ready]
  exact readyNext_clears _ _ _ _ List.mem_cons_self

/-! ### One rule per command -/

section
variable {a : At} {p peer : Nat} {minutes : Option Nat} {password : List Byte} {s t : State}

section
variable (ht : t = s.advance a) (hready : t.rdy Rdy.services = true) (hp : p < 7) (hport : t.bacnetPort p = true)
  (hpeer : t.peerHolds = false)
include ht hready hp hport hpeer

theorem execDeviceCommunicationControl_takes (hpassword : t.passwordFits password = true) :
    (∃ u, execDeviceCommunicationControl a p peer .disable minutes password s = .next u ∧ u.svc.dcc = .disabled ∧
      u.svc.dccUntil = minutes.map (fun m => t.clock + m * 60000000)) ∧
    (∃ u, execDeviceCommunicationControl a p peer .disableInitiation minutes password s = .next u ∧
      u.svc.dcc = .initiationDisabled ∧ u.svc.dccUntil = minutes.map (fun m => t.clock + m * 60000000)) ∧
    (∃ u, execDeviceCommunicationControl a p peer .enable minutes password s = .next u ∧ u.svc.dcc = .enabled ∧
      u.svc.dccUntil = none) := by
  obtain ⟨bus, hrespond⟩ := (t.rxTake p).respond_bus p peer .response []
  have hclock : ((t.rxTake p).respond p peer .response []).clock = t.clock := by rw [hrespond]; rfl
  simp only [execDeviceCommunicationControl, ← ht, State.bacnetAlways_answers hready hp hport hpeer, State.rxTake_passwordFits,
    hpassword, hclock]
  exact ⟨⟨_, rfl, rfl, rfl⟩, ⟨_, rfl, rfl, rfl⟩, ⟨_, rfl, rfl, rfl⟩⟩

theorem execDeviceCommunicationControl_refuses (state : Dcc3) (hpassword : t.passwordFits password = false) :
    ∃ u, execDeviceCommunicationControl a p peer state minutes password s = .next u ∧ u.svc = t.svc := by
  obtain ⟨bus, herror⟩ := t.rxTake_respondError_bus p peer errPassword
  simp only [execDeviceCommunicationControl, ← ht, State.bacnetAlways_answers hready hp hport hpeer]
  exact ⟨_, congrArg _ ((if_pos (by simp [hpassword])).trans herror), rfl⟩

/-- WARMSTART (R359). -/
theorem execReinitializeDevice_warm (hpassword : t.passwordFits password = true) :
    ∃ u, execReinitializeDevice a p peer 1 password s = .next (State.restartServices 2 u) := by
  rw [execReinitializeDevice, ← ht, State.bacnetAlways_answers hready hp hport hpeer]
  exact ⟨_, congrArg _ (if_neg (by simp [hpassword]))⟩

/-- COLDSTART (R359). -/
theorem execReinitializeDevice_cold (hpassword : t.passwordFits password = true) :
    ∃ u, execReinitializeDevice a p peer 0 password s = .next ((State.moduleReset true u).startUp 4) := by
  rw [execReinitializeDevice, ← ht, State.bacnetAlways_answers hready hp hport hpeer]
  exact ⟨_, congrArg _ (if_neg (by simp [hpassword]))⟩

/-- A wrong password, or a state that is neither COLDSTART nor WARMSTART, is answered with an error alone. -/
theorem execReinitializeDevice_refuses {state : Nat} (hrefused : t.passwordFits password = false ∨ 2 ≤ state) :
    ∃ bus, execReinitializeDevice a p peer state password s = .next { t with bus := bus } := by
  rw [execReinitializeDevice, ← ht, State.bacnetAlways_answers hready hp hport hpeer]
  cases hfits : t.passwordFits password with
  | false =>
    obtain ⟨bus, herror⟩ := t.rxTake_respondError_bus p peer errPassword
    exact ⟨bus, congrArg _ ((if_pos (by simp [hfits])).trans herror)⟩
  | true =>
    have hstate : 2 ≤ state := hrefused.resolve_left (by simp [hfits])
    obtain ⟨bus, herror⟩ := t.rxTake_respondError_bus p peer errOptional
    exact ⟨bus, congrArg _ ((if_neg (by simp [hfits])).trans ((if_pos hstate).trans herror))⟩

end

theorem execDccDurationEnd_ends {d : Nat} (ht : t = s.advance a) (huntil : t.svc.dccUntil = some d) (hover : d ≤ t.clock) :
    execDccDurationEnd a s = .next { t with svc := { t.svc with dcc := .enabled, dccUntil := none } } := by
  simp only [execDccDurationEnd, ← ht, huntil, Option.any_some, hover, decide_true, if_true]

/-- The oldest notification leaves the queue and goes to every recipient of its class that takes it (R357). -/
theorem execEventNotificationSend_sends {n : Note} {rest : List Note} {u : State} (ht : t = s.advance a)
    (hready : t.rdy Rdy.services = true) (hpeer : t.peerHolds = false) (hdcc : t.svc.dcc = .enabled)
    (hnotes : t.svc.notes = n :: rest) (hu : u = { t with svc := { t.svc with notes := rest } })
    {x : State × Nat} (hx : x = ((u.recipientsOf n.cls).filter (fun r => r.takes n.target.kind u.localNow)).foldl
      (fun (x : State × Nat) r => State.notifyOne n r x) (u, 0)) :
    execEventNotificationSend a s = .next (x.1.notifyFailed n.cls x.2) := by
  rw [execEventNotificationSend, ← ht]
  refine congrArg _ ((if_neg (by simp [hready, hpeer, hdcc])).trans ?_)
  rw [hnotes, hx, hu]

end

/-- Settles O34: each request by its rule on a port that hears it, and the notification by the fold over its recipients. -/
theorem communicationControl : Obligations.CommunicationControl := by
  unfold Obligations.CommunicationControl
  refine ⟨?_, ?_, ?_, ?_, ?_, ?_, ?_⟩
  · intro a p peer minutes password s t ht hready hp hport hpeer hpassword
    exact execDeviceCommunicationControl_takes ht hready hp hport hpeer hpassword
  · intro a p peer state minutes password s t ht hready hp hport hpeer hpassword
    obtain ⟨u, hnext, hsvc⟩ := execDeviceCommunicationControl_refuses ht hready hp hport hpeer state hpassword
    exact ⟨u, hnext, by rw [hsvc], by rw [hsvc]⟩
  · intro a d s t ht huntil hover
    exact execDccDurationEnd_ends ht huntil hover
  · intro a p peer password s t ht hready hp hport hpeer hpassword
    obtain ⟨u, hwarm⟩ := execReinitializeDevice_warm ht hready hp hport hpeer hpassword
    obtain ⟨v, hcold⟩ := execReinitializeDevice_cold ht hready hp hport hpeer hpassword
    exact ⟨⟨_, hwarm, State.restartServices_pauses 2 u⟩, ⟨_, hcold, State.startUp_host _⟩⟩
  · intro a p peer state password s t ht hready hp hport hpeer hrefused
    obtain ⟨bus, hnext⟩ := execReinitializeDevice_refuses ht hready hp hport hpeer hrefused
    exact ⟨_, hnext, rfl, rfl⟩
  · intro a n rest s t ht hready hpeer hdcc hnotes hnone
    refine (execEventNotificationSend_sends ht hready hpeer hdcc hnotes rfl rfl).trans ?_
    rw [hnone]
    rfl
  · intro a n rest s t u ht hready hpeer hdcc hnotes hu
    exact ⟨_, _, execEventNotificationSend_sends ht hready hpeer hdcc hnotes hu rfl, rfl⟩

end Sys2Proof.Machine

/-! PROOFS. The operations on properties and on the time of the services (R338, R350, R368, R404). -/

namespace Sys2Proof.Machine

/-! ### What a schedule writes leaves of the time base and of the requests in flight (R338, R353)

A time that is set runs the schedules, and a schedule writes its value through the BACnet objects (R345–R349). -/

/-- TIME_BASE with whether it holds, and the requests in flight. -/
def State.timeFrame (s : State) : Int × Bool × List Flight := (s.svc.timeBase, s.svc.timeValid, s.mb.flights)

theorem State.timeFrame_of {s u : State} (hsvc : u.svc = s.svc) (hflights : u.mb.flights = s.mb.flights) :
    u.timeFrame = s.timeFrame := by
  rw [State.timeFrame, hsvc, hflights, State.timeFrame]

theorem State.timeFrame_eq_iff {s : State} {base : Int} {valid : Bool} {flights : List Flight} :
    s.timeFrame = (base, valid, flights) ↔ s.svc.timeBase = base ∧ s.svc.timeValid = valid ∧ s.mb.flights = flights := by
  simp only [State.timeFrame, Prod.mk.injEq]

@[simp] theorem State.setPrio_timeFrame (isRef : Bool) (z k slot : Nat) (v : Option Word32) (s : State) :
    (s.setPrio isRef z k slot v).timeFrame = s.timeFrame :=
  State.timeFrame_of (State.sampleFirst_svc s) (congrArg Mailbox.flights (State.sampleFirst_mb s))

@[simp] theorem State.setHostValue_timeFrame (isY : Bool) (z k : Nat) (v : Option Word32) (s : State) :
    (s.setHostValue isY z k v).timeFrame = s.timeFrame :=
  State.timeFrame_of (State.sampleFirst_svc s) (congrArg Mailbox.flights (State.sampleFirst_mb s))

@[simp] theorem State.endInterims_timeFrame (p : Interim → Bool) (x : Fate) (st : Status) (q : List Byte) (s : State) :
    (s.endInterims p x st q).timeFrame = s.timeFrame :=
  State.timeFrame_of (State.endInterims_svc ..) (State.endInterims_flights ..)

theorem State.sndEnd_svc (cause z : Nat) (o : Sounding) (s : State) : (s.sndEnd cause z o).svc = s.svc := by
  unfold State.sndEnd
  simp only [State.record_svc]
  (repeat' split) <;> simp [State.sndLeave, State.sndErase]

@[simp] theorem State.sndAbort_timeFrame (cause z : Nat) (s : State) : (s.sndAbort cause z).timeFrame = s.timeFrame :=
  State.timeFrame_of (State.sndEnd_svc ..) (State.sndEnd_flights ..)

@[simp] theorem State.writeMode_timeFrame (z : Nat) (m : ZMode) (s : State) : (s.writeMode z m).1.timeFrame = s.timeFrame := by
  have hleave : (if (s.snd.zones.get z).runs = true then s.sndAbort 2 z else s.sndLeave z (some .holdSafe)).timeFrame =
      s.timeFrame := by
    split
    · exact State.sndAbort_timeFrame ..
    · rfl
  unfold State.writeMode
  dsimp only
  split
  · split
    · exact (State.endInterims_timeFrame ..).trans hleave
    · exact State.endInterims_timeFrame ..
  · rfl

theorem State.writeMode_timeFrame_of {z : Nat} {m : ZMode} {s u : State} {st : Status} (h : s.writeMode z m = (u, st)) :
    u.timeFrame = s.timeFrame := by
  rw [← State.writeMode_timeFrame z m s, h]

theorem State.saveNow_timeFrame_of {q : SaveReq} {s u : State} {st : Status} (h : s.saveNow q = (st, u)) :
    u.timeFrame = s.timeFrame := by
  have hu : u = (s.saveNow q).2 := by rw [h]
  rw [hu]
  exact State.timeFrame_of (State.saveNow_svc q s) (congrArg Mailbox.flights (State.saveNow_mb q s))

@[simp] theorem State.commandPoint_timeFrame (n slot : Nat) (v : Option Word32) (s : State) :
    (s.commandPoint n slot v).timeFrame = s.timeFrame := rfl

@[simp] theorem State.storeProp_timeFrame (id prop : Nat) (bs : List Byte) (s : State) :
    (s.storeProp id prop bs).1.timeFrame = s.timeFrame := by
  unfold State.storeProp
  dsimp only
  split <;> rename_i hsave <;> exact (State.saveNow_timeFrame_of hsave :)

theorem State.writePv_timeFrame (id slot : Nat) (o : Obj) (t : Tok) (s : State) :
    (s.writePv id slot o t).1.timeFrame = s.timeFrame := by
  unfold State.writePv
  dsimp only
  split
  case h_5 =>
    split
    · split
      · split <;> exact State.writeMode_timeFrame_of ‹_›
      · rfl
    · rfl
  all_goals (repeat' split) <;> simp

@[simp] theorem State.trendAdd_timeFrame (n kind : Nat) (v : Word32) (s : State) :
    (s.trendAdd n kind v).timeFrame = s.timeFrame := by
  unfold State.trendAdd
  dsimp only
  split
  · rfl
  · split
    · exact State.storeProp_timeFrame ..
    · rfl

@[simp] theorem State.scheduleWrite_timeFrame (n : Nat) (t : Tok) (s : State) : (s.scheduleWrite n t).timeFrame = s.timeFrame := by
  refine State.each_keeps State.timeFrame _ _ _ fun r u => ?_
  split
  · split
    · exact State.writePv_timeFrame ..
    · rfl
  · rfl

@[simp] theorem State.scheduleRun_timeFrame (all : Bool) (s : State) : (s.scheduleRun all).timeFrame = s.timeFrame := by
  unfold State.scheduleRun
  split
  · rfl
  · refine State.each_keeps State.timeFrame _ _ _ fun n u => ?_
    dsimp only
    split
    · exact State.scheduleWrite_timeFrame ..
    · rfl

/-- A time that is set holds with TIME_BASE from its UTC (R338). -/
theorem State.setTime_timeFrame (source : Nat) (utc16 t16 : Int) (s : State) :
    (s.setTime source utc16 t16).timeFrame = (t16 - utc16 * 32768, true, s.mb.flights) := by
  unfold State.setTime
  dsimp only
  rw [State.scheduleRun_timeFrame]
  split
  · exact State.each_keeps State.timeFrame _ _ _ fun _ _ => State.trendAdd_timeFrame ..
  · rfl

/-! ### A property reads the same once its request is in flight (R381) -/

theorem State.addFlight_objOf (d : OpDef) (r : Req) (id : Nat) (t : State) : (t.addFlight d r).objOf id = t.objOf id := rfl

theorem State.addFlight_ownProp (d : OpDef) (r : Req) (id : Nat) (o : Obj) (prop : Nat) (t : State) :
    (t.addFlight d r).ownProp id o prop = t.ownProp id o prop := by
  cases o <;> rfl

theorem State.addFlight_ident (d : OpDef) (r : Req) (id : Nat) (t : State) : (t.addFlight d r).ident id = t.ident id := rfl

theorem State.addFlight_nameOf (d : OpDef) (r : Req) (id : Nat) (o : Obj) (t : State) :
    (t.addFlight d r).nameOf id o = t.nameOf id o := rfl

theorem State.addFlight_property (d : OpDef) (r : Req) (id prop : Nat) (t : State) :
    (t.addFlight d r).property id prop = t.property id prop := by
  simp only [State.property, State.addFlight_objOf, State.addFlight_ownProp, State.addFlight_ident, State.addFlight_nameOf]

theorem State.addFlight_readProp (d : OpDef) (r : Req) (id prop : Nat) (idx : Option Nat) (t : State) :
    (t.addFlight d r).readProp id prop idx = t.readProp id prop idx := by
  simp only [State.readProp, State.addFlight_property]

/-! ### Each operation meets its checks (R21, R368) -/

section
variable {a : At} {r : Req} {s t : State}

theorem opSvcReadProperty_check (h : Safety.Asks false 16 8 r t) : opSvcReadProperty.check r t = none := by
  have hr : t.rdy r.fn = true := h.fn ▸ services_of_asks h
  apply OpDef.check_eq_none h <;> simp [opSvcReadProperty, hr]

theorem opSvcWriteProperty_check (h : Safety.Asks false 16 r.payload.length r t) (hholds : Safety.Holds t)
    (hlen : 12 ≤ r.payload.length) (hslot : fieldAt r.payload 8 1 ≤ 16) (hzero : allZero ((r.payload.drop 9).take 3) = true) :
    opSvcWriteProperty.check r t = none := by
  have hr : t.rdy r.fn = true := h.fn ▸ services_of_asks h
  apply OpDef.check_eq_none h <;> simp [opSvcWriteProperty, hr, hlen, hslot, hzero, hholds]

theorem opSvcTimeSet_check {w : Int} (h : Safety.Asks false 16 16 r t) (hholds : Safety.Holds t) (htarget : r.target = 0)
    (hzero : allZero (r.payload.drop 10) = true) (hwall : t.wallNow = some w) : opSvcTimeSet.check r t = none := by
  apply OpDef.check_eq_none h <;> simp [opSvcTimeSet, services_of_asks h, htarget, hzero, hwall, hholds]

theorem opSvcTimeRead_check (h : Safety.Asks false 16 0 r t) (htarget : r.target = 0) : opSvcTimeRead.check r t = none := by
  have hr : t.rdy r.fn = true := h.fn ▸ services_of_asks h
  apply OpDef.check_eq_none h <;> simp [opSvcTimeRead, hr, htarget]

/-! ### What each operation answers (R350, R368) -/

theorem opSvcReadProperty_body_ok {d : OpDef} {v : List Byte}
    (hv : t.readProp r.target (fieldAt r.payload 0 4) (arrayIndex (fieldAt r.payload 4 4)) = .ok v) :
    opSvcReadProperty.body r (t.addFlight d r) = (t.addFlight d r).ok (le 4 0 ++ le 2 v.length ++ le 2 0 ++ v) := by
  simp only [opSvcReadProperty, State.addFlight_readProp, hv]

theorem opSvcReadProperty_body_error {d : OpDef} {e : BErr}
    (he : t.readProp r.target (fieldAt r.payload 0 4) (arrayIndex (fieldAt r.payload 4 4)) = .error e) :
    opSvcReadProperty.body r (t.addFlight d r) = (t.addFlight d r).ok (resultOf e ++ le 2 0 ++ le 2 0) := by
  simp only [opSvcReadProperty, State.addFlight_readProp, he]

section
variable {u : State} {x : WrRes}
  (hwrite : s.writeProp r.target (fieldAt r.payload 0 4) (arrayIndex (fieldAt r.payload 4 4)) (fieldAt r.payload 8 1)
    (r.payload.drop 12) = (u, x))
include hwrite

/-- What the store does not refuse is answered with the RESULT of the write. -/
theorem opSvcWriteProperty_body_result (hfull : x ≠ .status .storeFull) (hbusy : x ≠ .status .nvBusy) :
    opSvcWriteProperty.body r s = u.ok ((x.error.map resultOf).getD (le 4 0)) := by
  simp only [opSvcWriteProperty, hwrite]
  cases x.error <;> rfl

/-- What the store refuses is answered with the mailbox's status (R350). -/
theorem opSvcWriteProperty_body_refused {st : Status} (hx : x = .status st) (hst : st = .storeFull ∨ st = .nvBusy) :
    opSvcWriteProperty.body r s = u.fail st := by
  subst hx
  rcases hst with rfl | rfl <;> simp only [opSvcWriteProperty, hwrite]

end

theorem opSvcTimeSet_body {w : Int} (hwall : s.wallNow = some w) : opSvcTimeSet.body r s =
    (s.setTime 3 ((fieldAt r.payload 0 8 * 65536 + fieldAt r.payload 8 2 : Nat) : Int) w).ok := by
  simp only [opSvcTimeSet, hwall]

theorem opSvcTimeRead_body_none (hnone : s.svc.timeValid = false) : opSvcTimeRead.body r s =
    s.ok (le 8 0 ++ le 2 0 ++ le 1 0 ++ le 1 0 ++ le 2 (ofSigned 16 s.utcOffset) ++ le 2 0) := by
  simp [opSvcTimeRead, hnone, bit]

theorem opSvcTimeRead_body_held {w : Int} (hvalid : s.svc.timeValid = true) (hwall : s.wallNow = some w) :
    opSvcTimeRead.body r s = s.ok (le 8 (s.utcSecs w) ++ le 2 (s.utcFrac w) ++ le 1 (1 + 2 * bit (s.dst (s.utcSecs w))) ++
      le 1 0 ++ le 2 (ofSigned 16 s.utcOffset) ++ le 2 0) := by
  simp [opSvcTimeRead, hvalid, hwall, bit]

/-- SVC_TIME_SET sets TIME_BASE from its UTC and is answered DONE (R338). -/
theorem svcTimeSet_sets {w : Int} (h : Safety.Asks false 16 16 r t) (hc : opSvcTimeSet.check r t = none)
    (hwall : t.wallNow = some w) :
    ∃ u, Host.Outcome.next (serve opSvcTimeSet r t) = (Host.Outcome.next u : Host.Outcome State Fault Refusal) ∧
      Safety.Replied r .done [] u ∧ u.svc.timeValid = true ∧
      u.svc.timeBase = w - (fieldAt r.payload 0 8 * 65536 + fieldAt r.payload 8 2 : Nat) * 32768 := by
  obtain ⟨hbase, hvalid, hflights⟩ := State.timeFrame_eq_iff.mp (State.setTime_timeFrame 3
    ((fieldAt r.payload 0 8 * 65536 + fieldAt r.payload 8 2 : Nat) : Int) w (t.addFlight opSvcTimeSet r))
  obtain ⟨u, hnext, hreplied, hu⟩ := exists_replied h hc (opSvcTimeSet_body hwall) (by simp [State.resp]) hflights
  refine ⟨u, hnext, hreplied, ?_⟩
  rw [hu]
  exact ⟨hvalid, hbase⟩

end

/-- Settles O42: each operation meets its checks, and is answered by what it reads, by its write's result or by the time it sets. -/
theorem serviceOperations : Obligations.ServiceOperations := by
  unfold Obligations.ServiceOperations
  refine ⟨?_, ?_, ?_, ?_, ?_, ?_, ?_⟩
  · intro a r v s t ht h _ hv
    subst ht
    exact congrArg _ (serve_ok h (opSvcReadProperty_check h) (opSvcReadProperty_body_ok hv))
  · intro a r e s t ht h _ he
    subst ht
    exact congrArg _ (serve_ok h (opSvcReadProperty_check h) (opSvcReadProperty_body_error he))
  · intro a r u x s t ht h _ hholds hlen hslot hzero hwrite hfull hbusy
    subst ht
    exact congrArg _ (serve_finish h (opSvcWriteProperty_check h hholds hlen hslot hzero)
      (opSvcWriteProperty_body_result hwrite hfull hbusy) (show Status.done ≠ .accepted ∧ Status.done ≠ .deferred by decide))
  · intro a r u st s t ht h _ hholds hlen hslot hzero hwrite hst
    subst ht
    refine congrArg _ (serve_finish h (opSvcWriteProperty_check h hholds hlen hslot hzero)
      (opSvcWriteProperty_body_refused hwrite rfl hst) (show st ≠ .accepted ∧ st ≠ .deferred from ?_))
    rcases hst with rfl | rfl <;> decide
  · intro a r w s t ht h _ hholds htarget hzero hwall
    subst ht
    exact svcTimeSet_sets h (opSvcTimeSet_check h hholds htarget hzero hwall) hwall
  · intro a r s t ht h _ htarget hnone
    subst ht
    exact congrArg _ (serve_ok h (opSvcTimeRead_check h htarget) (opSvcTimeRead_body_none hnone))
  · intro a r w s t ht h _ htarget hvalid hwall
    subst ht
    exact congrArg _ (serve_ok h (opSvcTimeRead_check h htarget) (opSvcTimeRead_body_held hvalid hwall))

end Sys2Proof.Machine


/-! PROOFS. What few functions of the model write. -/

namespace Sys2Proof.Machine

/-- What only few functions of the model write: the configuration, the run of the service image, the UDP sessions and the starts of the
server, the pair's roles, and the three memories. -/
structure Estate where
  cfg : Cfg
  svc : SvcRun
  udp : List UdpSession
  starts : Word16
  role : PairRole
  takeover : Stamp
  peer : Option PeerHeader
  current : Bool
  withdrawn : Bool
  mram : Tbl Byte
  mailbox : Tbl Byte
  backup : Tbl Byte

def State.estate (s : State) : Estate :=
  ⟨s.cfg, s.bin.svc, s.tr.udp, s.mb.serverStarts, s.pair.role, s.pair.takeover, s.pair.peer, s.pair.current, s.pair.withdrawn, s.nv.mem,
    s.mb.mem, s.alm.backup⟩

@[simp] theorem State.estate_mk {p fr ck r mb tr cfg nv log bin sen sup mer alm pair zones zio hostIn helm plan forecast occ profile snd
    inp fld out bus svc policy chart tiller} :
    State.estate ⟨p, fr, ck, r, mb, tr, cfg, nv, log, bin, sen, sup, mer, alm, pair, zones, zio, hostIn, helm, plan, forecast, occ, profile,
      snd, inp, fld, out, bus, svc, policy, chart, tiller⟩ = ⟨cfg, bin.svc, tr.udp, mb.serverStarts, pair.role, pair.takeover, pair.peer,
      pair.current, pair.withdrawn, nv.mem, mb.mem, alm.backup⟩ := rfl

@[simp] theorem State.mk_estate (s : State) : Estate.mk s.cfg s.bin.svc s.tr.udp s.mb.serverStarts s.pair.role s.pair.takeover s.pair.peer
    s.pair.current s.pair.withdrawn s.nv.mem s.mb.mem s.alm.backup = s.estate := rfl

@[simp] theorem State.ite_estate (c : Prop) [Decidable c] (s t : State) :
    (if c then s else t).estate = if c then s.estate else t.estate := apply_ite State.estate c s t

@[simp] theorem State.when_estate (c : Bool) (f : State → State) (s : State) :
    (State.when c f s).estate = if c then (f s).estate else s.estate := State.ite_estate (c = true) (f s) s

@[simp] theorem State.each_estate {α : Type} (xs : List α) (f : α → State → State) (s : State) (h : ∀ x t, (f x t).estate = t.estate) :
    (State.each xs f s).estate = s.estate := State.each_keeps State.estate xs f s h

@[simp] theorem foldl_estate {α : Type} (xs : List α) (f : State → α → State) (s : State) (h : ∀ t x, (f t x).estate = t.estate) :
    (xs.foldl f s).estate = s.estate := foldl_keeps State.estate xs f s h

@[simp] theorem State.ite_fst_estate {α : Type} (c : Prop) [Decidable c] (x y : State × α) :
    (if c then x else y).1.estate = if c then x.1.estate else y.1.estate := apply_ite (fun p => p.1.estate) c x y


@[simp] theorem State.freeNext_estate (s : State) : (State.freeNext s).estate = s.estate := by rfl
@[simp] theorem State.irq_estate (n : Nat) (s : State) : (State.irq n s).estate = s.estate := by rfl
@[simp] theorem State.record_estate (src sev code : Nat) (payload : List Byte) (posts : Bool) (target : Nat) (s : State) :
    (State.record src sev code payload posts target s).estate = s.estate := by rfl
@[simp] theorem State.record3_estate (src sev code : Nat) (payload : List Byte) (target : Nat) (s : State) :
    (State.record3 src sev code payload target s).estate = s.estate := by rfl
@[simp] theorem State.readyRecord_estate (w : Word32) (b : Nat) (s : State) : (State.readyRecord w b s).estate = s.estate := by
  unfold State.readyRecord; simp
@[simp] theorem State.dropEvent_estate (s : State) : (State.dropEvent s).estate = s.estate := by rfl
/-! ### The store as shared operations -/

@[simp] theorem State.unread_estate (a len : Nat) (s : State) : (State.unread a len s).estate = s.estate := by
  unfold State.unread; simp
@[simp] theorem State.storeFullRecord_estate (q : SaveReq) (s : State) : (State.storeFullRecord q s).estate = s.estate := by rfl
@[simp] theorem State.save_estate (q : SaveReq) (s : State) : (State.save q s).estate = s.estate := by rfl
@[simp] theorem State.forget_estate (typ key : Nat) (s : State) : (State.forget typ key s).estate = s.estate := by
  unfold State.forget; simp
@[simp] theorem State.count_estate (n a : Nat) (s : State) : (State.count n a s).estate = s.estate := by rfl

/-! ### What every mailbox operation shares -/

@[simp] theorem State.addFlight_estate (d : OpDef) (r : Req) (s : State) : (State.addFlight d r s).estate = s.estate := by rfl
@[simp] theorem State.reject_estate (cls opcode : Nat) (r : Req) (st : Status) (s : State) :
    (State.reject cls opcode r st s).estate = s.estate := by rfl
@[simp] theorem State.finishIf_estate (p : Flight → Bool) (x : Resp) (s : State) : (State.finishIf p x s).estate = s.estate := by rfl
@[simp] theorem State.finish_estate (n tag : Nat) (x : Resp) (s : State) : (State.finish n tag x s).estate = s.estate := by rfl
@[simp] theorem State.answer_estate (w : Option Waiter) (x : Resp) (s : State) : (State.answer w x s).estate = s.estate := by
  unfold State.answer; split <;> simp
@[simp] theorem State.ok_estate (s : State) (payload : List Byte) : (State.ok s payload).1.estate = s.estate := by rfl
@[simp] theorem State.fail_estate (s : State) (st : Status) : (State.fail s st).1.estate = s.estate := by rfl
@[simp] theorem State.addInterim_estate (d : OpDef) (r : Req) (x : Resp) (s : State) : (State.addInterim d r x s).estate = s.estate := by
  unfold State.addInterim; simp
@[simp] theorem State.settle_estate (s : State) : (State.settle s).estate = s.estate := by
  unfold State.settle; simp
/-! ### The Logbook -/

@[simp] theorem State.openWindow_estate (seq : Nat) (s : State) : (State.openWindow seq s).estate = s.estate := by
  unfold State.openWindow; (repeat' split) <;> simp
@[simp] theorem State.noteOverflow_estate (s : State) : (State.noteOverflow s).estate = s.estate := by
  unfold State.noteOverflow; simp
@[simp] theorem logReadBody_estate (r : Req) (s : State) : (logReadBody r s).1.estate = s.estate := by
  unfold logReadBody; dsimp only; split <;> simp
@[simp] theorem State.saveBinnacle_estate (s : State) : (State.saveBinnacle s).estate = s.estate := by rfl
/-! ### Concordance -/

@[simp] theorem State.takePoint_estate (transition : Bool) (s : State) : (State.takePoint transition s).estate = s.estate := by rfl
@[simp] theorem State.takeSetPoint_estate (ticks epoch : Nat) (s : State) : (State.takeSetPoint ticks epoch s).estate = s.estate := by
  unfold State.takeSetPoint; simp
@[simp] theorem State.concordRecord_estate (s : State) : (State.concordRecord s).estate = s.estate := by rfl
@[simp] theorem State.merRecord_estate (sev code : Nat) (payload : List Byte) (s : State) :
    (State.merRecord sev code payload s).estate = s.estate := by rfl
@[simp] theorem concordReadBody_estate (r : Req) (s : State) : (concordReadBody r s).1.estate = s.estate := by rfl

/-! ### Meridian -/

@[simp] theorem State.trackRate_estate (s : State) : (State.trackRate s).estate = s.estate := by rfl
@[simp] theorem State.agoPin_estate (n : Nat) (active : Bool) (s : State) : (State.agoPin n active s).estate = s.estate := by rfl
@[simp] theorem State.agoUnlock_estate (s : State) : (State.agoUnlock s).estate = s.estate := by
  unfold State.agoUnlock; simp
@[simp] theorem State.agoStopsAnew_estate (s : State) : (State.agoStopsAnew s).estate = s.estate := by
  unfold State.agoStopsAnew; simp
@[simp] theorem State.enterQualify_estate (s : State) : (State.enterQualify s).estate = s.estate := by rfl
@[simp] theorem State.enterCapture_estate (s : State) : (State.enterCapture s).estate = s.estate := by rfl
@[simp] theorem State.enterRelock_estate (cause : Nat) (s : State) : (State.enterRelock cause s).estate = s.estate := by rfl
@[simp] theorem State.qualified_estate (s : State) : (State.qualified s).estate = s.estate := by
  unfold State.qualified; simp
@[simp] theorem State.captureCrossing_estate (s : State) : (State.captureCrossing s).estate = s.estate := by
  unfold State.captureCrossing; simp
@[simp] theorem State.relockTo_estate (e : Int) (s : State) : (State.relockTo e s).estate = s.estate := by
  unfold State.relockTo; simp
@[simp] theorem State.nominal_estate (s : State) : (State.nominal s).estate = s.estate := by
  unfold State.nominal; simp
@[simp] theorem State.captureEnds_estate (s : State) : (State.captureEnds s).estate = s.estate := by
  unfold State.captureEnds; simp
@[simp] theorem State.markTurn_estate (s : State) : (State.markTurn s).estate = s.estate := by rfl
@[simp] theorem State.assignT0_estate (s : State) : (State.assignT0 s).estate = s.estate := by rfl
@[simp] theorem State.slotEffects_estate (s : State) : (State.slotEffects s).estate = s.estate := by rfl
@[simp] theorem State.clearHostSlots_estate (s : State) : (State.clearHostSlots s).estate = s.estate := by rfl
@[simp] theorem slotReadBody_estate (r : Req) (s : State) : (slotReadBody r s).1.estate = s.estate := by rfl
@[simp] theorem slotWriteBody_estate (r : Req) (s : State) : (slotWriteBody r s).1.estate = s.estate := by rfl

/-! ### The store at work -/

@[simp] theorem State.sheafLost_estate (before : Nv) (ns : List Nat) (s : State) : (State.sheafLost before ns s).estate = s.estate := by
  unfold State.sheafLost; simp
@[simp] theorem State.eccSummary_estate (s : State) : (State.eccSummary s).estate = s.estate := by
  unfold State.eccSummary; simp
@[simp] theorem State.updateRecord_estate (binnacle : Bool) (slot event version : Nat) (s : State) :
    (State.updateRecord binnacle slot event version s).estate = s.estate := by rfl
@[simp] theorem State.loadTimeBase_estate (s : State) : (State.loadTimeBase s).estate = s.estate := by
  unfold State.loadTimeBase; split <;> simp
@[simp] theorem State.holdFromT0_estate (s : State) : (State.holdFromT0 s).estate = s.estate := by
  unfold State.holdFromT0; simp

/-! ### The Almanac -/

@[simp] theorem State.alarmRecord_estate (n : Nat) (offline : Bool) (s : State) : (State.alarmRecord n offline s).estate = s.estate := by rfl
@[simp] theorem State.discardPlan_estate (cause : Nat) (s : State) : (State.discardPlan cause s).estate = s.estate := by
  unfold State.discardPlan; simp
@[simp] theorem State.saveTimeBase_estate (s : State) : (State.saveTimeBase s).estate = s.estate := by rfl
@[simp] theorem State.countCommit_estate (before value : Nat) (s : State) : (State.countCommit before value s).estate = s.estate := by
  unfold State.countCommit; simp
/-! ### Owners -/

@[simp] theorem State.policyOwners_estate (s : State) : (State.policyOwners s).estate = s.estate := by rfl

/-! ### Analogue and angle outputs -/

@[simp] theorem State.aoLatchOne_estate (n : Nat) (s : State) : (State.aoLatchOne n s).estate = s.estate := by
  unfold State.aoLatchOne; simp
@[simp] theorem State.aoLatch_estate (mask : Nat) (s : State) : (State.aoLatch mask s).estate = s.estate := by
  unfold State.aoLatch; simp
@[simp] theorem State.aoToSafe_estate (n : Nat) (s : State) : (State.aoToSafe n s).estate = s.estate := by rfl
@[simp] theorem State.agoHostRises_estate (s : State) : (State.agoHostRises s).estate = s.estate := by
  unfold State.agoHostRises; simp
@[simp] theorem State.agoHighZ_estate (n : Nat) (s : State) : (State.agoHighZ n s).estate = s.estate := by rfl
@[simp] theorem State.aoMonitorRecords_estate (n : Nat) (before after : Ao) (s : State) :
    (State.aoMonitorRecords n before after s).estate = s.estate := by
  unfold State.aoMonitorRecords; simp
@[simp] theorem State.aoMonitor_estate (n mv : Nat) (current : Int) (limiting : Bool) (s : State) :
    (State.aoMonitor n mv current limiting s).estate = s.estate := by
  unfold State.aoMonitor; simp
@[simp] theorem State.agoDrive_estate (n : Nat) (s : State) : (State.agoDrive n s).estate = s.estate := by
  unfold State.agoDrive; simp
@[simp] theorem State.agoLatchOne_estate (n : Nat) (s : State) : (State.agoLatchOne n s).estate = s.estate := by
  unfold State.agoLatchOne; simp
@[simp] theorem State.agoResume_estate (n : Nat) (s : State) : (State.agoResume n s).estate = s.estate := by
  unfold State.agoResume; simp
@[simp] theorem State.agoLatch_estate (n : Nat) (s : State) : (State.agoLatch n s).estate = s.estate := by
  unfold State.agoLatch; dsimp only; split <;> simp
@[simp] theorem State.agoHostAction_estate (n act : Nat) (s : State) : (State.agoHostAction n act s).estate = s.estate := by
  unfold State.agoHostAction; simp
@[simp] theorem State.setForce_estate (kind n : Nat) (f : Option Force) (s : State) : (State.setForce kind n f s).estate = s.estate := by
  unfold State.setForce; simp
@[simp] theorem State.performForce_estate (kind n : Nat) (release : Bool) (value duration : Nat) (s : State) :
    (State.performForce kind n release value duration s).estate = s.estate := by
  unfold State.performForce; simp
@[simp] theorem State.askForce_estate (kind n : Nat) (release : Bool) (value duration : Nat) (s : State) :
    (State.askForce kind n release value duration s).1.estate = s.estate := by
  unfold State.askForce; split <;> simp

/-! ### Input images -/

@[simp] theorem State.snapRefs_estate (z : Nat) (s : State) : (State.snapRefs z s).estate = s.estate := by rfl
@[simp] theorem State.snapZone_estate (z : Nat) (s : State) : (State.snapZone z s).estate = s.estate := by rfl
@[simp] theorem State.snapFloor_estate (s : State) : (State.snapFloor s).estate = s.estate := by
  unfold State.snapFloor; (repeat' split) <;> simp
@[simp] theorem State.snapLoop_estate (n : Nat) (s : State) : (State.snapLoop n s).estate = s.estate := by
  unfold State.snapLoop; simp
@[simp] theorem State.sampleFirst_estate (s : State) : (State.sampleFirst s).estate = s.estate := by
  unfold State.sampleFirst; simp

/-! ### Zones -/

@[simp] theorem State.formRefs_estate (z : Nat) (s : State) : (State.formRefs z s).estate = s.estate := by rfl
@[simp] theorem State.setMode_estate (z : Nat) (m : ZMode) (s : State) : (State.setMode z m s).estate = s.estate := by
  unfold State.setMode; simp
@[simp] theorem State.refreshStatus_estate (z : Nat) (s : State) : (State.refreshStatus z s).estate = s.estate := by rfl
@[simp] theorem State.setPrio_estate (isRef : Bool) (z k slot : Nat) (v : Option Word32) (s : State) :
    (State.setPrio isRef z k slot v s).estate = s.estate := by
  unfold State.setPrio; simp
@[simp] theorem State.setHostValue_estate (isY : Bool) (z k : Nat) (v : Option Word32) (s : State) :
    (State.setHostValue isY z k v s).estate = s.estate := by
  unfold State.setHostValue; simp
@[simp] theorem State.writeSignal_estate (z sig slot : Nat) (v : Option Word32) (s : State) :
    (State.writeSignal z sig slot v s).1.estate = s.estate := by
  unfold State.writeSignal; split <;> simp

/-! ### Model banks -/

@[simp] theorem State.planModelDue_estate (s : State) : (State.planModelDue s).estate = s.estate := by rfl
@[simp] theorem State.resetAllW_estate (s : State) : (State.resetAllW s).estate = s.estate := by rfl
@[simp] theorem State.bankAnswer_estate (w : Option Waiter) (y : Resp) (s : State) : (State.bankAnswer w y s).estate = s.estate := by
  unfold State.bankAnswer; split <;> simp
@[simp] theorem State.performWrite_estate (host shadow : Bool) (kind num first : Nat) (vs : List Word32) (w : Option Waiter) (s : State) :
    (State.performWrite host shadow kind num first vs w s).estate = s.estate := by
  unfold State.performWrite; simp
@[simp] theorem State.performSwap_estate (sounded : Option Nat) (w : Option Waiter) (s : State) :
    (State.performSwap sounded w s).estate = s.estate := by
  unfold State.performSwap; split <;> simp
@[simp] theorem State.performCopy_estate (b : Bank) (w : Option Waiter) (s : State) : (State.performCopy b w s).estate = s.estate := by
  unfold State.performCopy; simp
@[simp] theorem State.mirrored_estate (op : BankOp) (s : State) : (State.mirrored op s).estate = s.estate := by
  unfold State.mirrored; simp
@[simp] theorem State.serveQueue_estate (fuel used : Nat) (first : Bool) (s : State) :
    (State.serveQueue fuel used first s).estate = s.estate := by
  induction fuel generalizing used first s with
  | zero => rfl
  | succ fuel ih =>
    rw [State.serveQueue]
    split
    · rfl
    · split
      · rfl
      · dsimp only; split <;> simp [ih]

@[simp] theorem State.serveAccepted_estate (s : State) : (State.serveAccepted s).estate = s.estate := by
  unfold State.serveAccepted; simp
@[simp] theorem State.bankOps_estate (s : State) : (State.bankOps s).estate = s.estate := by
  unfold State.bankOps; split <;> simp
@[simp] theorem State.enqueue_estate (ops : List BankOp) (s : State) : (State.enqueue ops s).estate = s.estate := by rfl
@[simp] theorem State.dropBankQueue_estate (s : State) : (State.dropBankQueue s).estate = s.estate := by rfl
@[simp] theorem State.clearDiag_estate (kind num : Nat) (s : State) : (State.clearDiag kind num s).estate = s.estate := by
  unfold State.clearDiag; simp
@[simp] theorem State.bankNotSaved_estate (pending : Bool) (s : State) : (State.bankNotSaved pending s).estate = s.estate := by rfl
@[simp] theorem State.loadZone_estate (z : Nat) (p : List Byte) (s : State) : (State.loadZone z p s).estate = s.estate := by
  unfold State.loadZone; simp
@[simp] theorem State.loadLoop_estate (n : Nat) (p : List Byte) (s : State) : (State.loadLoop n p s).estate = s.estate := by
  unfold State.loadLoop; simp
@[simp] theorem State.loadBanks_estate (s : State) : (State.loadBanks s).estate = s.estate := by
  unfold State.loadBanks; simp

/-! ### The Chart -/

@[simp] theorem State.chartPhase_estate (s : State) : (State.chartPhase s).estate = s.estate := by
  unfold State.chartPhase; dsimp only; (repeat' split) <;> simp
@[simp] theorem State.chooseBand_estate (s : State) : (State.chooseBand s).estate = s.estate := by
  unfold State.chooseBand; simp
@[simp] theorem State.ledgerPut_estate (state frame : Nat) (balance : Tbl Int) (s : State) :
    (State.ledgerPut state frame balance s).estate = s.estate := by rfl
@[simp] theorem State.loadLedger_estate (s : State) : (State.loadLedger s).estate = s.estate := by
  unfold State.loadLedger; split <;> simp
@[simp] theorem State.dropLedgerOps_estate (s : State) : (State.dropLedgerOps s).estate = s.estate := by rfl
@[simp] theorem State.chartInterrupt_estate (s : State) : (State.chartInterrupt s).estate = s.estate := by
  unfold State.chartInterrupt; simp
@[simp] theorem State.framePage_estate (s : State) : (State.framePage s).estate = s.estate := by rfl
@[simp] theorem State.updateStart_estate (s : State) : (State.updateStart s).estate = s.estate := by
  unfold State.updateStart; simp
@[simp] theorem State.chartRises_estate (s : State) : (State.chartRises s).estate = s.estate := by
  unfold State.chartRises; simp
@[simp] theorem State.chartDown_estate (s : State) : (State.chartDown s).estate = s.estate := by
  unfold State.chartDown; simp
@[simp] theorem State.chartTurn_estate (s : State) : (State.chartTurn s).estate = s.estate := by rfl
@[simp] theorem State.pumpSampled_estate (s : State) : (State.pumpSampled s).estate = s.estate := by
  unfold State.pumpSampled; simp
@[simp] theorem State.chartCommit_estate (old : State) (s : State) : (State.chartCommit old s).estate = s.estate := by
  unfold State.chartCommit; simp
@[simp] theorem State.chartJudge_estate (n : Nat) (s : State) : (State.chartJudge n s).estate = s.estate := by
  unfold State.chartJudge; simp

/-! ### Soundings -/

@[simp] theorem State.sndErase_estate (area : Nat) (s : State) : (State.sndErase area s).estate = s.estate := by rfl
@[simp] theorem State.sndEvict_estate (area : Nat) (s : State) : (State.sndEvict area s).estate = s.estate := by rfl
@[simp] theorem State.sndAccept_estate (z area : Nat) (p : List Byte) (s : State) : (State.sndAccept z area p s).estate = s.estate := by rfl
@[simp] theorem State.sndTake_estate (z : Nat) (p : List Byte) (s : State) : (State.sndTake z p s).1.estate = s.estate := by
  unfold State.sndTake; split <;> simp
@[simp] theorem State.enterMode_estate (z : Nat) (m : ZMode) (s : State) : (State.enterMode z m s).estate = s.estate := by
  unfold State.enterMode; simp
@[simp] theorem State.sndStore_estate (z : Nat) (s : State) : (State.sndStore z s).estate = s.estate := by rfl
@[simp] theorem State.sndSample_estate (z : Nat) (u : Tbl Word32) (s : State) : (State.sndSample z u s).estate = s.estate := by
  unfold State.sndSample; simp
@[simp] theorem State.sndLeave_estate (z : Nat) (m : Option ZMode) (s : State) : (State.sndLeave z m s).estate = s.estate := by rfl
@[simp] theorem State.sndDeliver_estate (z mode force : Nat) (o : Sounding) (w : Option Waiter) (s : State) :
    (State.sndDeliver z mode force o w s).estate = s.estate := by
  unfold State.sndDeliver; simp

/-! ### Helm -/

@[simp] theorem State.blindRecord_estate (z : Nat) (begins reached : Bool) (s : State) :
    (State.blindRecord z begins reached s).estate = s.estate := by rfl
@[simp] theorem State.blindStep_estate (z : Nat) (s : State) : (State.blindStep z s).estate = s.estate := by
  unfold State.blindStep; dsimp only; split <;> simp
@[simp] theorem State.occSample_estate (z : Nat) (s : State) : (State.occSample z s).estate = s.estate := by
  unfold State.occSample; simp
@[simp] theorem State.computeZone_estate (z : Nat) (s : State) : (State.computeZone z s).estate = s.estate := by
  unfold State.computeZone; simp
@[simp] theorem State.computeLoop_estate (n : Nat) (s : State) : (State.computeLoop n s).estate = s.estate := by rfl
@[simp] theorem State.loopSample_estate (n : Nat) (s : State) : (State.loopSample n s).estate = s.estate := by
  unfold State.loopSample; simp
@[simp] theorem State.clampRecord_estate (z mask : Nat) (s : State) : (State.clampRecord z mask s).estate = s.estate := by
  unfold State.clampRecord; simp
@[simp] theorem State.warmUp_estate (z : Nat) (s : State) : (State.warmUp z s).estate = s.estate := by rfl
@[simp] theorem State.applyZone_estate (z : Nat) (s : State) : (State.applyZone z s).estate = s.estate := by
  unfold State.applyZone; simp
@[simp] theorem State.dropZone_estate (z : Nat) (s : State) : (State.dropZone z s).estate = s.estate := by rfl
@[simp] theorem State.warmLoop_estate (n : Nat) (s : State) : (State.warmLoop n s).estate = s.estate := by rfl
@[simp] theorem State.formAllRefs_estate (s : State) : (State.formAllRefs s).estate = s.estate := by
  unfold State.formAllRefs; simp
@[simp] theorem State.loopApply_estate (n late : Nat) (s : State) : (State.loopApply n late s).estate = s.estate := by
  unfold State.loopApply; simp

/-! ### Field channels -/

@[simp] theorem State.group_estate (g : Nat) (f : Group → Group) (s : State) : (State.group g f s).estate = s.estate := by rfl
@[simp] theorem State.chOut_estate (n : Nat) (f : ChOut → ChOut) (s : State) : (State.chOut n f s).estate = s.estate := by rfl
@[simp] theorem State.chIn_estate (n : Nat) (f : ChIn → ChIn) (s : State) : (State.chIn n f s).estate = s.estate := by rfl
@[simp] theorem State.chPin_estate (n : Nat) (s : State) : (State.chPin n s).estate = s.estate := by
  unfold State.chPin; simp
@[simp] theorem State.chLevel_estate (n : Nat) (on : Bool) (s : State) : (State.chLevel n on s).estate = s.estate := by
  unfold State.chLevel; simp
@[simp] theorem State.groupPins_estate (g : Nat) (s : State) : (State.groupPins g s).estate = s.estate := by
  unfold State.groupPins; simp
@[simp] theorem State.fieldEvent_estate (g sev code : Nat) (payload : List Byte) (target : Nat) (s : State) :
    (State.fieldEvent g sev code payload target s).estate = s.estate := by
  unfold State.fieldEvent; simp
@[simp] theorem State.faultCleared_estate (n : Nat) (s : State) : (State.faultCleared n s).estate = s.estate := by
  unfold State.faultCleared; simp
@[simp] theorem State.safeRecord_estate (g : Nat) (entered : Bool) (s : State) : (State.safeRecord g entered s).estate = s.estate := by
  unfold State.safeRecord; simp
@[simp] theorem State.vfieldRecord_estate (g what : Nat) (s : State) : (State.vfieldRecord g what s).estate = s.estate := by
  unfold State.vfieldRecord; simp
@[simp] theorem State.enterSafe_estate (g : Nat) (s : State) : (State.enterSafe g s).estate = s.estate := by
  unfold State.enterSafe; simp
@[simp] theorem State.groupPowerOn_estate (g : Nat) (s : State) : (State.groupPowerOn g s).estate = s.estate := by
  unfold State.groupPowerOn; simp
@[simp] theorem State.groupUnpowered_estate (g : Nat) (s : State) : (State.groupUnpowered g s).estate = s.estate := by
  unfold State.groupUnpowered; simp
@[simp] theorem State.sleepBarrier_estate (s : State) : (State.sleepBarrier s).estate = s.estate := by
  unfold State.sleepBarrier; simp
@[simp] theorem State.barrierOn_estate (s : State) : (State.barrierOn s).estate = s.estate := by
  unfold State.barrierOn; simp
@[simp] theorem State.ringEdge_estate (g : Nat) (e : Edge) (s : State) : (State.ringEdge g e s).estate = s.estate := by
  unfold State.ringEdge; simp
@[simp] theorem State.bufferEdge_estate (n : Nat) (e : Edge) (s : State) : (State.bufferEdge n e s).estate = s.estate := by
  unfold State.bufferEdge; simp
@[simp] theorem State.acceptState_estate (n : Nat) (on : Bool) (x : Stamp) (s : State) : (State.acceptState n on x s).estate = s.estate := by
  unfold State.acceptState; simp
@[simp] theorem State.wireReading_estate (n ua : Nat) (x : Stamp) (s₀ : State) : (State.wireReading n ua x s₀).estate = s₀.estate := by
  unfold State.wireReading; dsimp only; split
  · simp
  · split <;> simp
  · simp
@[simp] theorem State.closeGate_estate (n : Nat) (s : State) : (State.closeGate n s).estate = s.estate := by
  unfold State.closeGate; simp
@[simp] theorem State.linkStart_estate (g : Nat) (s : State) : (State.linkStart g s).estate = s.estate := by
  unfold State.linkStart; simp
@[simp] theorem State.deliverEdges_estate (g : Nat) (s : State) : (State.deliverEdges g s).estate = s.estate := by
  unfold State.deliverEdges; simp
@[simp] theorem State.reportHeld_estate (g : Nat) (s : State) : (State.reportHeld g s).estate = s.estate := by
  unfold State.reportHeld; simp
@[simp] theorem State.takeBlock_estate (old : State) (n : Nat) (s : State) : (State.takeBlock old n s).estate = s.estate := by
  unfold State.takeBlock; simp
@[simp] theorem State.chApply_estate (n : Nat) (s : State) : (State.chApply n s).estate = s.estate := by
  unfold State.chApply; simp
@[simp] theorem State.fieldApply_estate (mask : Nat) (s : State) : (State.fieldApply mask s).estate = s.estate := by
  unfold State.fieldApply; simp
@[simp] theorem State.tpoStart_estate (n : Nat) (v : Word32) (s : State) : (State.tpoStart n v s).estate = s.estate := by
  unfold State.tpoStart; simp
@[simp] theorem State.tpoStarts_estate (s : State) : (State.tpoStarts s).estate = s.estate := by
  unfold State.tpoStarts; split
  · rfl
  · exact State.each_estate _ _ _ (fun n t => by split <;> simp)
@[simp] theorem State.trip_estate (n : Nat) (f : ChOut → ChOut) (s : State) : (State.trip n f s).estate = s.estate := by
  unfold State.trip; simp
@[simp] theorem State.tripRecord_estate (n code : Nat) (s : State) : (State.tripRecord n code s).estate = s.estate := by
  unfold State.tripRecord; simp
@[simp] theorem State.retry_estate (n : Nat) (s : State) : (State.retry n s).estate = s.estate := by
  unfold State.retry; simp
@[simp] theorem State.chCondition_estate (n sev code : Nat) (payload : List Byte) (was is : Bool) (f : ChOut → ChOut) (s : State) :
    (State.chCondition n sev code payload was is f s).estate = s.estate := by
  unfold State.chCondition; simp
@[simp] theorem State.stuckFound_estate (n current : Nat) (s : State) : (State.stuckFound n current s).estate = s.estate := by
  unfold State.stuckFound; simp
@[simp] theorem State.clearLatch_estate (n : Nat) (s : State) : (State.clearLatch n s).estate = s.estate := by
  unfold State.clearLatch; simp
@[simp] theorem State.clearCut_estate (g : Nat) (s : State) : (State.clearCut g s).estate = s.estate := by
  unfold State.clearCut; simp
@[simp] theorem State.clearChannel_estate (n : Nat) (s : State) : (State.clearChannel n s).estate = s.estate := by
  unfold State.clearChannel; simp
@[simp] theorem State.clearGroup_estate (g : Nat) (s : State) : (State.clearGroup g s).estate = s.estate := by
  unfold State.clearGroup; simp

/-! ### Universal inputs -/

@[simp] theorem State.core_estate (c : Nat) (f : AdcCore → AdcCore) (s : State) : (State.core c f s).estate = s.estate := by rfl
@[simp] theorem State.uiIn_estate (n : Nat) (f : Ui → Ui) (s : State) : (State.uiIn n f s).estate = s.estate := by rfl
@[simp] theorem State.adcStart_estate (c : Nat) (s : State) : (State.adcStart c s).estate = s.estate := by
  unfold State.adcStart; simp
@[simp] theorem State.adcBoundary_estate (s : State) : (State.adcBoundary s).estate = s.estate := by rfl
@[simp] theorem State.inputFault_estate (n : Nat) (s : State) : (State.inputFault n s).estate = s.estate := by rfl
@[simp] theorem State.inputRestored_estate (n : Nat) (s : State) : (State.inputRestored n s).estate = s.estate := by rfl
@[simp] theorem State.uiPost_estate (n : Nat) (x : Integ) (p : Word32) (s : State) : (State.uiPost n x p s).estate = s.estate := by rfl
@[simp] theorem State.uiBad_estate (n : Nat) (b : UiBand) (s : State) : (State.uiBad n b s).estate = s.estate := by
  unfold State.uiBad; simp
@[simp] theorem State.uiGood_estate (n : Nat) (x : Integ) (p : Word32) (s : State) : (State.uiGood n x p s).estate = s.estate := by
  unfold State.uiGood; simp
@[simp] theorem State.convert_estate (n : Nat) (x : Integ) (raw : Word32) (s : State) : (State.convert n x raw s).estate = s.estate := by
  unfold State.convert; simp
@[simp] theorem State.calPass_estate (c : Nat) (isGain : Bool) (dev : Int) (s : State) : (State.calPass c isGain dev s).estate = s.estate := by
  unfold State.calPass; simp
@[simp] theorem State.calReject_estate (c : Nat) (isGain : Bool) (dev : Int) (s : State) :
    (State.calReject c isGain dev s).estate = s.estate := by
  unfold State.calReject; simp
@[simp] theorem State.calJudge_estate (c : Nat) (isGain : Bool) (dev : Int) (s : State) :
    (State.calJudge c isGain dev s).estate = s.estate := by
  unfold State.calJudge; simp
@[simp] theorem State.calBegin_estate (c : Nat) (w : Waiter) (interim : Bool) (s : State) :
    (State.calBegin c w interim s).estate = s.estate := by rfl
@[simp] theorem State.uiCommit_estate (s : State) : (State.uiCommit s).estate = s.estate := by
  unfold State.uiCommit; simp
@[simp] theorem State.uiChange_estate (n : Nat) (s : State) : (State.uiChange n s).estate = s.estate := by
  unfold State.uiChange; simp
@[simp] theorem State.uiChanges_estate (s : State) : (State.uiChanges s).estate = s.estate := by
  unfold State.uiChanges; simp
@[simp] theorem State.calDeferred_estate (i : Interim) (s : State) : (State.calDeferred i s).estate = s.estate := by
  unfold State.calDeferred; simp

/-! ### I2C recipes -/

@[simp] theorem State.recipe_estate (n : Nat) (f : Recipe → Recipe) (s : State) : (State.recipe n f s).estate = s.estate := by rfl
@[simp] theorem State.busRecover_estate (b : Nat) (released : Bool) (s : State) : (State.busRecover b released s).estate = s.estate := by
  unfold State.busRecover; simp
@[simp] theorem State.recipeAttempt_estate (n attempt : Nat) (xs : List I2cXfer) (released : Bool) (s : State) :
    (State.recipeAttempt n attempt xs released s).estate = s.estate := by
  unfold State.recipeAttempt; simp
@[simp] theorem State.recipeRun_estate (n : Nat) (xs : List I2cXfer) (released : Bool) (s : State) :
    (State.recipeRun n xs released s).estate = s.estate := by
  unfold State.recipeRun; simp
@[simp] theorem State.recipeGood_estate (n : Nat) (buf : List Byte) (stamp : Stamp) (s : State) :
    (State.recipeGood n buf stamp s).estate = s.estate := by
  unfold State.recipeGood; simp
@[simp] theorem State.recipeBad_estate (n cause step : Nat) (s : State) : (State.recipeBad n cause step s).estate = s.estate := by
  unfold State.recipeBad; simp
@[simp] theorem State.recipeEnd_estate (n : Nat) (stamp : Stamp) (s : State) : (State.recipeEnd n stamp s).estate = s.estate := by
  unfold State.recipeEnd; simp
@[simp] theorem State.i2cStops_estate (s : State) : (State.i2cStops s).estate = s.estate := by rfl

/-! ### Writes of the BACnet objects -/

@[simp] theorem State.loadStore_estate (s : State) : (State.loadStore s).estate = s.estate := by rfl
@[simp] theorem State.dropProp_estate (id prop : Nat) (s : State) : (State.dropProp id prop s).estate = s.estate := by
  unfold State.dropProp; simp
@[simp] theorem State.commandPoint_estate (n slot : Nat) (v : Option Word32) (s : State) :
    (State.commandPoint n slot v s).estate = s.estate := by rfl
@[simp] theorem State.pointsStart_estate (s : State) : (State.pointsStart s).estate = s.estate := by rfl
@[simp] theorem State.replanIfMoved_estate (old s : State) : (State.replanIfMoved old s).estate = s.estate := by
  unfold State.replanIfMoved; simp
@[simp] theorem State.afterStore_estate (old : State) (o : Obj) (prop : Nat) (ts : List Tok) (s : State) :
    (State.afterStore old o prop ts s).estate = s.estate := by
  unfold State.afterStore; (repeat' split) <;> simp
/-! ### The building bus -/

@[simp] theorem State.port_estate (p : Nat) (f : Port → Port) (s : State) : (State.port p f s).estate = s.estate := by rfl
@[simp] theorem State.queueFrame_estate (p : Nat) (f : TxFrame) (s : State) : (State.queueFrame p f s).estate = s.estate := by
  unfold State.queueFrame; simp
@[simp] theorem State.fdRegister_estate (s : State) : (State.fdRegister s).estate = s.estate := by
  unfold State.fdRegister; simp
@[simp] theorem State.greet_estate (s : State) : (State.greet s).estate = s.estate := by
  unfold State.greet; simp
@[simp] theorem State.scRecord_estate (code : Nat) (s : State) : (State.scRecord code s).estate = s.estate := by rfl
@[simp] theorem State.scFlush_estate (s : State) : (State.scFlush s).estate = s.estate := by
  unfold State.scFlush; simp
@[simp] theorem State.scEnter_estate (st : ScState) (code : Nat) (s : State) : (State.scEnter st code s).estate = s.estate := by
  unfold State.scEnter; simp
@[simp] theorem State.scCheck_estate (s : State) : (State.scCheck s).estate = s.estate := by
  unfold State.scCheck; simp
@[simp] theorem State.respond_estate (p peer : Nat) (what : TxKind) (data : List Nat) (s : State) :
    (State.respond p peer what data s).estate = s.estate := by
  unfold State.respond; simp
@[simp] theorem State.entry_estate (i : Nat) (f : Partner → Partner) (s : State) : (State.entry i f s).estate = s.estate := by rfl
@[simp] theorem State.churn_estate (n : Nat) (s : State) : (State.churn n s).estate = s.estate := by
  unfold State.churn; simp
@[simp] theorem State.partnerRecord_estate (sev code i : Nat) (extra : List Byte) (s : State) :
    (State.partnerRecord sev code i extra s).estate = s.estate := by rfl
@[simp] theorem State.newPartner_estate (e : Partner) (s : State) : (State.newPartner e s).estate = s.estate := by
  unfold State.newPartner; (repeat' split) <;> simp
@[simp] theorem State.dropPartner_estate (i : Nat) (s : State) : (State.dropPartner i s).estate = s.estate := by rfl
@[simp] theorem State.whoIsTo_estate (i : Nat) (s : State) : (State.whoIsTo i s).estate = s.estate := by
  unfold State.whoIsTo; simp
@[simp] theorem State.bindsReturn_estate (i : Nat) (s : State) : (State.bindsReturn i s).estate = s.estate := by rfl
@[simp] theorem State.heard_estate (i : Nat) (s : State) : (State.heard i s).estate = s.estate := by
  unfold State.heard; simp
@[simp] theorem State.dropProvisional_estate (p addr : Nat) (s : State) : (State.dropProvisional p addr s).estate = s.estate := by
  unfold State.dropProvisional; split <;> simp
@[simp] theorem State.iAmKnown_estate (i p addr net : Nat) (s : State) : (State.iAmKnown i p addr net s).estate = s.estate := by
  unfold State.iAmKnown; simp
@[simp] theorem State.iAm_estate (p addr inst net : Nat) (s : State) : (State.iAm p addr inst net s).estate = s.estate := by
  unfold State.iAm; (repeat' split) <;> simp
@[simp] theorem State.rxTake_estate (p : Nat) (s : State) : (State.rxTake p s).estate = s.estate := by rfl
@[simp] theorem State.fallSilent_estate (i : Nat) (s : State) : (State.fallSilent i s).estate = s.estate := by
  unfold State.fallSilent; simp
@[simp] theorem State.whoIsAll_estate (s : State) : (State.whoIsAll s).estate = s.estate := by
  unfold State.whoIsAll; simp
@[simp] theorem State.savePartners_estate (s : State) : (State.savePartners s).estate = s.estate := by
  unfold State.savePartners; simp
@[simp] theorem State.restorePartners_estate (s : State) : (State.restorePartners s).estate = s.estate := by rfl
@[simp] theorem State.bind_estate (b : Nat) (f : Bind → Bind) (s : State) : (State.bind b f s).estate = s.estate := by rfl
@[simp] theorem State.request_estate (cls : Nat) (o : Outstanding) (s : State) : (State.request cls o s).estate = s.estate := by
  unfold State.request; simp
@[simp] theorem State.repeatRequest_estate (o : Outstanding) (s : State) : (State.repeatRequest o s).estate = s.estate := by
  unfold State.repeatRequest; simp
@[simp] theorem State.bindValue_estate (b : Nat) (at_ : Stamp) (v : Option Word32) (fault : Bool) (s : State) :
    (State.bindValue b at_ v fault s).estate = s.estate := by
  unfold State.bindValue; simp
@[simp] theorem State.closeRequest_estate (id : Nat) (s : State) : (State.closeRequest id s).estate = s.estate := by rfl
@[simp] theorem State.notifyFailed_estate (cls missed : Nat) (s : State) : (State.notifyFailed cls missed s).estate = s.estate := by
  unfold State.notifyFailed; simp
@[simp] theorem State.requestFails_estate (o : Outstanding) (s : State) : (State.requestFails o s).estate = s.estate := by
  unfold State.requestFails; split <;> simp
@[simp] theorem State.requestDone_estate (at_ : Stamp) (o : Outstanding) (vs : List (List Byte × Bool)) (s : State) :
    (State.requestDone at_ o vs s).estate = s.estate := by
  unfold State.requestDone; split <;> simp
@[simp] theorem State.answerApdu_estate (at_ : Stamp) (x : BusApdu) (s : State) : (State.answerApdu at_ x s).estate = s.estate := by
  unfold State.answerApdu; (repeat' split) <;> simp
@[simp] theorem State.learn_estate (src side : Nat) (s : State) : (State.learn src side s).estate = s.estate := by
  unfold State.learn; simp
@[simp] theorem State.forward_estate (dst side : Nat) (s : State) : (State.forward dst side s).estate = s.estate := by
  unfold State.forward; simp
@[simp] theorem State.arpLearn_estate (p ip mac : Nat) (s : State) : (State.arpLearn p ip mac s).estate = s.estate := by
  unfold State.arpLearn; simp
@[simp] theorem State.recordNode_estate (f : BusFrame) (s : State) : (State.recordNode f s).estate = s.estate := by
  unfold State.recordNode; split <;> simp
@[simp] theorem State.discover_estate (f : BusFrame) (s : State) : (State.discover f s).estate = s.estate := by
  unfold State.discover; dsimp only; (repeat' split) <;> simp
@[simp] theorem State.dupMac_estate (p : Nat) (s : State) : (State.dupMac p s).estate = s.estate := by rfl
@[simp] theorem State.hearBeat_estate (f : BusFrame) (s : State) : (State.hearBeat f s).estate = s.estate := by
  unfold State.hearBeat; simp
@[simp] theorem State.segments_estate (f : BusFrame) (s : State) : (State.segments f s).estate = s.estate := by
  unfold State.segments; simp
@[simp] theorem State.accept_estate (f : BusFrame) (s0 : State) : (State.accept f s0).estate = s0.estate := by
  unfold State.accept; dsimp only; split
  · simp
  · split <;> split <;> simp
@[simp] theorem State.poll_estate (b i : Nat) (s0 : State) : (State.poll b i s0).estate = s0.estate := by
  unfold State.poll; dsimp only; split <;> simp
@[simp] theorem State.sendWrite_estate (b i : Nat) (v : Word32) (s : State) : (State.sendWrite b i v s).estate = s.estate := by
  unfold State.sendWrite; dsimp only; split <;> simp
@[simp] theorem State.offerWrites_estate (n : Option Nat) (s : State) : (State.offerWrites n s).estate = s.estate := by
  unfold State.offerWrites; simp
@[simp] theorem State.roomMade_estate (p : Nat) (s : State) : (State.roomMade p s).estate = s.estate := by
  unfold State.roomMade; (repeat' split) <;> simp
@[simp] theorem State.frameSent_estate (p side : Nat) (f : TxFrame) (s : State) : (State.frameSent p side f s).estate = s.estate := by
  unfold State.frameSent; simp
@[simp] theorem State.scConnected_estate (st : ScState) (code : Nat) (s : State) : (State.scConnected st code s).estate = s.estate := by
  unfold State.scConnected; simp
@[simp] theorem State.addRoutes_estate (p router : Nat) (nets : List Nat) (s : State) :
    (State.addRoutes p router nets s).estate = s.estate := by
  unfold State.addRoutes; simp
@[simp] theorem State.markRoutes_estate (p router : Nat) (nets : List Nat) (busy : Bool) (s : State) :
    (State.markRoutes p router nets busy s).estate = s.estate := by rfl
@[simp] theorem State.routing_estate (p peer : Nat) (data : List Nat) (s : State) : (State.routing p peer data s).estate = s.estate := by
  unfold State.routing; simp
@[simp] theorem State.passOn_estate (p peer net len q router : Nat) (s : State) :
    (State.passOn p peer net len q router s).estate = s.estate := by
  unfold State.passOn; simp
@[simp] theorem State.netMessage_estate (p peer : Nat) (m : NetMsg) (s : State) : (State.netMessage p peer m s).estate = s.estate := by
  unfold State.netMessage; (repeat' split) <;> simp
@[simp] theorem State.bindRemoved_estate (old : State) (b : Nat) (s : State) : (State.bindRemoved old b s).estate = s.estate := by
  unfold State.bindRemoved; split <;> simp
@[simp] theorem State.wantPartner_estate (b : Nat) (s : State) : (State.wantPartner b s).estate = s.estate := by
  unfold State.wantPartner; simp
@[simp] theorem State.busCommit_estate (old : State) (s : State) : (State.busCommit old s).estate = s.estate := by
  unfold State.busCommit; simp
@[simp] theorem State.busStops_estate (s : State) : (State.busStops s).estate = s.estate := by rfl

/-! ### Standalone services -/

@[simp] theorem State.respondError_estate (p peer : Nat) (e : BErr) (s : State) : (State.respondError p peer e s).estate = s.estate := by
  unfold State.respondError; simp
@[simp] theorem State.answerRead_estate (p peer : Nat) (multiple : Bool) (items : List PropItem) (s : State) :
    (State.answerRead p peer multiple items s).estate = s.estate := by
  unfold State.answerRead; dsimp only; (repeat' split) <;> simp
@[simp] theorem State.subscribe_estate (p peer process object : Nat) (confirmed : Bool) (lifetime : Option Nat) (cancel : Bool)
    (s : State) : (State.subscribe p peer process object confirmed lifetime cancel s).estate = s.estate := by
  unfold State.subscribe; (repeat' split) <;> simp
@[simp] theorem State.covNotify_estate (x : CovSub) (v : Word32) (s : State) : (State.covNotify x v s).estate = s.estate := by
  unfold State.covNotify; simp
@[simp] theorem State.covSend_estate (s : State) : (State.covSend s).estate = s.estate := by
  unfold State.covSend; split
  · rfl
  · exact (State.each_estate _ _ _ (fun x u => by split <;> simp)).trans (by simp)
@[simp] theorem State.iHave_estate (p object : Nat) (s : State) : (State.iHave p object s).estate = s.estate := by
  unfold State.iHave; simp
@[simp] theorem State.answerWho_estate (p : Nat) (w : WhoWhat) (s : State) : (State.answerWho p w s).estate = s.estate := by
  unfold State.answerWho; (repeat' split) <;> simp
@[simp] theorem State.transition_estate (id : Nat) (to_ : EvState) (s : State) : (State.transition id to_ s).estate = s.estate := by rfl
@[simp] theorem State.evalObject_estate (id : Nat) (s : State) : (State.evalObject id s).estate = s.estate := by
  unfold State.evalObject; dsimp only; (repeat' split) <;> simp
@[simp] theorem State.bufferReady_estate (n : Nat) (s : State) : (State.bufferReady n s).estate = s.estate := by
  unfold State.bufferReady; simp
@[simp] theorem State.eventEval_estate (s : State) : (State.eventEval s).estate = s.estate := by
  unfold State.eventEval; simp
@[simp] theorem State.acknowledge_estate (p peer object kind : Nat) (isSeq : Bool) (time : Nat) (s : State) :
    (State.acknowledge p peer object kind isSeq time s).estate = s.estate := by
  unfold State.acknowledge; simp
/-! ### The safe-climate policy -/

@[simp] theorem State.policyZone_estate (z : Nat) (s : State) : (State.policyZone z s).estate = s.estate := by
  unfold State.policyZone; simp
@[simp] theorem State.policyEval_estate (s : State) : (State.policyEval s).estate = s.estate := by
  unfold State.policyEval; simp
@[simp] theorem State.policyCommit_estate (old : State) (s : State) : (State.policyCommit old s).estate = s.estate := by rfl

/-! ### Occupancy -/

@[simp] theorem State.occZone_estate (z : Nat) (s : State) : (State.occZone z s).estate = s.estate := by
  unfold State.occZone; simp
@[simp] theorem State.learnZone_estate (cls i z : Nat) (s : State) : (State.learnZone cls i z s).estate = s.estate := by
  unfold State.learnZone; dsimp only; split <;> simp
@[simp] theorem State.saveProfile_estate (z : Nat) (s : State) : (State.saveProfile z s).estate = s.estate := by rfl
@[simp] theorem State.loadProfiles_estate (s : State) : (State.loadProfiles s).estate = s.estate := by rfl
@[simp] theorem State.clearProfile_estate (cause z : Nat) (s : State) : (State.clearProfile cause z s).estate = s.estate := by
  unfold State.clearProfile; simp
@[simp] theorem State.occCommit_estate (old : State) (s : State) : (State.occCommit old s).estate = s.estate := by
  unfold State.occCommit; simp

/-! ### The waypoint planner -/

@[simp] theorem State.planTake_estate (s : State) : (State.planTake s).estate = s.estate := by
  unfold State.planTake; simp
@[simp] theorem State.sndFitEnds_estate (z : Nat) (t : State) : (State.sndFitEnds z t).estate = t.estate := by
  unfold State.sndFitEnds; simp
@[simp] theorem State.zoneNonfinite_estate (seq z : Nat) (s : State) : (State.zoneNonfinite seq z s).estate = s.estate := by rfl
@[simp] theorem State.forecastEnds_estate (s : State) : (State.forecastEnds s).estate = s.estate := by
  unfold State.forecastEnds; split <;> simp
@[simp] theorem State.planCommit_estate (old : State) (s : State) : (State.planCommit old s).estate = s.estate := by
  unfold State.planCommit; simp

/-! ### Configuration sets -/

@[simp] theorem State.commitRefused_estate (n : Nat) (st : Status) (s : State) : (State.commitRefused n st s).1.estate = s.estate := by rfl
/-! ### The mirrored pair -/

@[simp] theorem State.roleRecord_estate (cause : Nat) (s : State) : (State.roleRecord cause s).estate = s.estate := by rfl
@[simp] theorem State.peerRecord_estate (s : State) : (State.peerRecord s).estate = s.estate := by
  unfold State.peerRecord; simp
@[simp] theorem State.strapRecord_estate (s : State) : (State.strapRecord s).estate = s.estate := by
  unfold State.strapRecord; split <;> simp
@[simp] theorem State.releaseAnswers_estate (s : State) : (State.releaseAnswers s).estate = s.estate := by
  unfold State.releaseAnswers; simp
@[simp] theorem State.abandonHandover_estate (s : State) : (State.abandonHandover s).estate = s.estate := by
  unfold State.abandonHandover; split <;> simp
@[simp] theorem State.sendBeats_estate (s : State) : (State.sendBeats s).estate = s.estate := by
  unfold State.sendBeats; simp
@[simp] theorem State.pairFrame_estate (waiting : Nat) (s : State) : (State.pairFrame waiting s).estate = s.estate := by
  unfold State.pairFrame; simp
@[simp] theorem State.measureD_estate (f : MirrorFrame) (s : State) : (State.measureD f s).estate = s.estate := by
  unfold State.measureD; split <;> simp
@[simp] theorem State.takeZones_estate (f : MirrorFrame) (s : State) : (State.takeZones f s).estate = s.estate := by
  unfold State.takeZones; split <;> simp
@[simp] theorem State.takeLoops_estate (f : MirrorFrame) (s : State) : (State.takeLoops f s).estate = s.estate := by
  unfold State.takeLoops; split <;> simp
@[simp] theorem State.takeOps_estate (f : MirrorFrame) (s : State) : (State.takeOps f s).estate = s.estate := by
  unfold State.takeOps
  exact State.each_estate _ _ _ (fun op t => by split <;> simp)
@[simp] theorem State.takeGuards_estate (f : MirrorFrame) (s : State) : (State.takeGuards f s).estate = s.estate := by
  unfold State.takeGuards; split <;> simp
@[simp] theorem State.takeOutputs_estate (f : MirrorFrame) (s : State) : (State.takeOutputs f s).estate = s.estate := by
  unfold State.takeOutputs; split
  · exact (State.each_estate _ _ _ (fun n t => by simp)).trans ((State.each_estate _ _ _ (fun n t => by simp)).trans (by simp))
  · rfl
@[simp] theorem State.takeReads_estate (f : MirrorFrame) (s : State) : (State.takeReads f s).estate = s.estate := by
  unfold State.takeReads
  exact State.each_estate _ _ _ (fun r t => by simp)
@[simp] theorem State.takePlans_estate (f : MirrorFrame) (s : State) : (State.takePlans f s).estate = s.estate := by
  unfold State.takePlans; split <;> simp
@[simp] theorem State.takeServices_estate (f : MirrorFrame) (s : State) : (State.takeServices f s).estate = s.estate := by
  unfold State.takeServices; split <;> simp
@[simp] theorem State.takeTrends_estate (f : MirrorFrame) (s : State) : (State.takeTrends f s).estate = s.estate := by
  unfold State.takeTrends; split <;> simp
@[simp] theorem State.takePartners_estate (f : MirrorFrame) (s : State) : (State.takePartners f s).estate = s.estate := by
  unfold State.takePartners; split <;> simp
@[simp] theorem State.takeRecords_estate (f : MirrorFrame) (s : State) : (State.takeRecords f s).estate = s.estate := by
  unfold State.takeRecords; simp
@[simp] theorem State.busQuiet_estate (s : State) : (State.busQuiet s).estate = s.estate := by rfl
@[simp] theorem State.applyHold_estate (s : State) : (State.applyHold s).estate = s.estate := by
  unfold State.applyHold; simp
@[simp] theorem State.restoreZone_estate (z : Nat) (s : State) : (State.restoreZone z s).estate = s.estate := by rfl
@[simp] theorem State.pushTail_estate (s : State) : (State.pushTail s).estate = s.estate := by
  unfold State.pushTail; simp
@[simp] theorem State.takeShared_estate (s : State) : (State.takeShared s).estate = s.estate := by
  unfold State.takeShared; simp
/-! ### The Tiller -/

@[simp] theorem State.tlRecord_estate (sev code : Nat) (payload : List Byte) (s : State) :
    (State.tlRecord sev code payload s).estate = s.estate := by rfl
@[simp] theorem State.tlDrop_estate (s : State) : (State.tlDrop s).estate = s.estate := by rfl
@[simp] theorem State.tlPush_estate (e : KeyEvent) (s : State) : (State.tlPush e s).estate = s.estate := by
  unfold State.tlPush; simp
@[simp] theorem State.tlOverflow_estate (s : State) : (State.tlOverflow s).estate = s.estate := by
  unfold State.tlOverflow; simp
@[simp] theorem State.tlPost_estate (code : Word32) (stamp : Stamp) (s : State) : (State.tlPost code stamp s).estate = s.estate := by
  unfold State.tlPost; split <;> simp
@[simp] theorem State.updKey_estate (k : Nat) (f : Key → Key) (s : State) : (State.updKey k f s).estate = s.estate := by rfl
@[simp] theorem State.keyRelease_estate (k : Nat) (s : State) : (State.keyRelease k s).estate = s.estate := by
  unfold State.keyRelease; simp
@[simp] theorem State.keyPress_estate (k : Nat) (s : State) : (State.keyPress k s).estate = s.estate := by
  unfold State.keyPress; split <;> simp
@[simp] theorem State.ghostResolve_estate (released : List Nat) (x0 : Stamp) (k : Nat) (s : State) :
    (State.ghostResolve released x0 k s).estate = s.estate := by
  unfold State.ghostResolve; simp
@[simp] theorem State.scanKeys_estate (ks closed : List Nat) (at_ : Nat → Stamp) (s : State) :
    (State.scanKeys ks closed at_ s).estate = s.estate := by
  unfold State.scanKeys; simp
@[simp] theorem State.scanStarts_estate (s : State) : (State.scanStarts s).estate = s.estate := by rfl
@[simp] theorem State.encoderSample_estate (n ab : Nat) (s : State) : (State.encoderSample n ab s).estate = s.estate := by
  unfold State.encoderSample; simp
@[simp] theorem State.tillerCommit_estate (s : State) : (State.tillerCommit s).estate = s.estate := by rfl

/-! ### A commit takes effect -/

@[simp] theorem State.clearBlock_estate (z : Nat) (s : State) : (State.clearBlock z s).estate = s.estate := by
  unfold State.clearBlock; simp
@[simp] theorem State.zoneGoes_estate (z : Nat) (s : State) : (State.zoneGoes z s).estate = s.estate := by
  unfold State.zoneGoes; simp
@[simp] theorem State.zoneComes_estate (z : Nat) (s : State) : (State.zoneComes z s).estate = s.estate := by rfl
@[simp] theorem State.commitLoop_estate (old : State) (n : Nat) (s : State) : (State.commitLoop old n s).estate = s.estate := by
  unfold State.commitLoop; simp
@[simp] theorem State.commitAo_estate (n : Nat) (s : State) : (State.commitAo n s).estate = s.estate := by
  unfold State.commitAo; simp
@[simp] theorem State.commitAgo_estate (n : Nat) (s : State) : (State.commitAgo n s).estate = s.estate := by
  unfold State.commitAgo; simp
@[simp] theorem State.commitGroups_estate (ds : List (Nat × Nat)) (all : Bool) (s : State) :
    (State.commitGroups ds all s).estate = s.estate := by rfl
@[simp] theorem State.takeSlot_estate (n : Nat) (w : SlotWords) (s : State) : (State.takeSlot n w s).estate = s.estate := by
  unfold State.takeSlot; simp
@[simp] theorem State.commitSlots_estate (s : State) : (State.commitSlots s).estate = s.estate := by
  unfold State.commitSlots; simp
@[simp] theorem State.commitObjects_estate (old : State) (ds : List (Nat × Nat)) (start : Bool) (lost : Nat × Nat) (s : State) :
    (State.commitObjects old ds start lost s).estate = s.estate := by
  unfold State.commitObjects; simp
@[simp] theorem State.lowPower_estate (what : Nat) (s : State) : (State.lowPower what s).estate = s.estate := by rfl
@[simp] theorem State.committedRecord_estate (p : PendingCommit) (s : State) : (State.committedRecord p s).estate = s.estate := by rfl
/-! ### Services, failures and resets -/

@[simp] theorem State.parkInterims_estate (s : State) : (State.parkInterims s).estate = s.estate := by rfl
@[simp] theorem State.dropWaiters_estate (s : State) : (State.dropWaiters s).estate = s.estate := by rfl
@[simp] theorem State.hold_estate (cause : Nat) (s : State) : (State.hold cause s).estate = s.estate := by rfl

/-! ### Supplies -/

@[simp] theorem State.firstMeasure_estate (s : State) : (State.firstMeasure s).estate = s.estate := by
  unfold State.firstMeasure; simp
/-! ### Sensors, scrub and self-tests -/

@[simp] theorem State.railSample_estate (i mv : Nat) (s : State) : (State.railSample i mv s).estate = s.estate := by
  unfold State.railSample; simp
@[simp] theorem State.dieSample_estate (i : Nat) (c : Int) (s : State) : (State.dieSample i c s).estate = s.estate := by
  unfold State.dieSample; simp
@[simp] theorem State.vbatSample_estate (mv : Nat) (s : State) : (State.vbatSample mv s).estate = s.estate := by
  unfold State.vbatSample; simp
@[simp] theorem State.vbatTaken_estate (vbat : Option Nat) (s : State) : (State.vbatTaken vbat s).estate = s.estate := by
  unfold State.vbatTaken; split <;> simp
@[simp] theorem State.dropTests_estate (s : State) : (State.dropTests s).estate = s.estate := by
  unfold State.dropTests; split <;> simp
@[simp] theorem State.restartRecord_estate (cause : Nat) (kept : Bool) (s : State) :
    (State.restartRecord cause kept s).estate = s.estate := by rfl
@[simp] theorem State.dropHostSlot_estate (n : Nat) (s : State) : (State.dropHostSlot n s).estate = s.estate := by rfl
@[simp] theorem State.testDrives_estate (c : Nat) (on : Bool) (s : State) : (State.testDrives c on s).estate = s.estate := by
  unfold State.testDrives; simp
@[simp] theorem State.testBegins_estate (test arg : Nat) (s : State) : (State.testBegins test arg s).estate = s.estate := by
  unfold State.testBegins; simp
@[simp] theorem State.testTurnBegins_estate (s : State) : (State.testTurnBegins s).estate = s.estate := by
  unfold State.testTurnBegins; split <;> simp
@[simp] theorem State.testPulses_estate (test : Nat) (s : State) : (State.testPulses test s).estate = s.estate := by
  unfold State.testPulses; split <;> simp
@[simp] theorem State.testDeferred_estate (i : Interim) (s : State) : (State.testDeferred i s).estate = s.estate := by
  unfold State.testDeferred; simp
/-! ### Event slots and the turn boundary -/

@[simp] theorem State.slotLate_estate (n : Nat) (w : SlotWords) (s : State) : (State.slotLate n w s).estate = s.estate := by
  unfold State.slotLate; simp
@[simp] theorem State.measureDue_estate (s : State) : (State.measureDue s).estate = s.estate := by
  unfold State.measureDue; simp
@[simp] theorem State.markBegun_estate (n : Nat) (s : State) : (State.markBegun n s).estate = s.estate := by rfl
/-! ### Updates and resets by request -/

/-! ### Sessions and security -/

@[simp] theorem State.refuseAuth_estate (ip : Nat) (s : State) : (State.refuseAuth ip s).estate = s.estate := by rfl
@[simp] theorem eventReadBody_estate (r : Req) (s : State) : (eventReadBody r s).1.estate = s.estate := by rfl

/-! ### The mailbox -/

@[simp] theorem State.protocolError_estate (off value : Nat) (s : State) : (State.protocolError off value s).estate = s.estate := by rfl
@[simp] theorem State.writeReqProd_estate (value : Nat) (s : State) : (State.writeReqProd value s).estate = s.estate := by
  unfold State.writeReqProd; simp
@[simp] theorem State.writeRspCons_estate (value : Nat) (s : State) : (State.writeRspCons value s).estate = s.estate := by
  unfold State.writeRspCons; simp
@[simp] theorem State.writeEvtCons_estate (value : Nat) (s : State) : (State.writeEvtCons value s).estate = s.estate := by
  unfold State.writeEvtCons; simp
@[simp] theorem State.writeIrqStatus_estate (value : Nat) (s : State) : (State.writeIrqStatus value s).estate = s.estate := by rfl
@[simp] theorem State.answerOutside_estate (ip port : Nat) (bs : List Byte) (x : Resp) (s : State) :
    (State.answerOutside ip port bs x s).estate = s.estate := by rfl
@[simp] theorem State.udpRepeat_estate (u : UdpSession) (ip port : Nat) (bs : List Byte) (s : State) :
    (State.udpRepeat u ip port bs s).estate = s.estate := by
  unfold State.udpRepeat; (repeat' split) <;> simp

/-! ### The Modbus slave -/

end Sys2Proof.Machine


/-! PROOFS. The memories of the model change by writes of bytes, and by being emptied. -/

namespace Sys2Proof.Machine

/-- The second memory is the first with bytes written to it, or was emptied since. -/
inductive Rewritten (m : Tbl Byte) : Tbl Byte → Prop
  | refl : Rewritten m m
  | write {n : Tbl Byte} (h : Rewritten m n) (a : Nat) (bs : List Byte) : Rewritten m (n.writeBytes a bs)
  | clear : Rewritten m []

theorem Rewritten.wf {m n : Tbl Byte} (h : Rewritten m n) (hm : m.wf = true) : n.wf = true := by
  induction h with
  | refl => exact hm
  | write _ a bs ih => exact Tbl.wf_writeBytes _ a bs ih
  | clear => rfl

theorem Rewritten.foldl {α : Type} {m : Tbl Byte} (xs : List α) (f : Nv → α → Nv)
    (hf : ∀ t x, Rewritten m t.mem → Rewritten m (f t x).mem) (n : Nv) (h : Rewritten m n.mem) : Rewritten m (xs.foldl f n).mem := by
  induction xs generalizing n with
  | nil => exact h
  | cons x xs ih => exact ih _ (hf n x h)

/-! ### The operations of the store -/

section
variable {m : Tbl Byte} {n : Nv} (h : Rewritten m n.mem)
include h

theorem Nv.write_rewritten (a : Nat) (bs : List Byte) : Rewritten m (n.write a bs).mem := h.write a bs

theorem Nv.jrnSlot_rewritten (data : List Byte) : Rewritten m (n.jrnSlot data).mem := h.write _ _

theorem Nv.jrnCommit_rewritten (page state : Nat) (data : List Byte) : Rewritten m (n.jrnCommit page state data).mem := h.write _ _

theorem Nv.intent_rewritten (page : Nat) (d bs : List Byte) :
    Rewritten m (((n.jrnSlot d).jrnCommit page 1 d).write (page * 256) bs).mem :=
  Nv.write_rewritten (Nv.jrnCommit_rewritten (Nv.jrnSlot_rewritten h d) page 1 d) _ bs

theorem Nv.journal_rewritten (page : Nat) (data : List Byte) : Rewritten m (n.journal page data).mem :=
  Nv.jrnCommit_rewritten (Nv.intent_rewritten h page (padTo 256 data) (padTo 256 data)) page 2 _

theorem Nv.journals_rewritten (ops : List (Nat × List Byte)) : Rewritten m (ops.foldl (fun t o => t.journal o.1 o.2) n).mem :=
  Rewritten.foldl _ _ (fun _ o ht => Nv.journal_rewritten ht o.1 o.2) n h

theorem Nv.storeBytes_rewritten (a : Nat) (bs : List Byte) : Rewritten m (n.storeBytes a bs).mem :=
  Rewritten.foldl _ _ (fun _ p ht => Nv.journal_rewritten ht p _) n h

theorem Nv.putAt_rewritten (q : SaveReq) (p : Nat) : Rewritten m (n.putAt q p).mem := Nv.journals_rewritten h _

theorem Nv.compactStep_rewritten {t : Nv} (ht : n.compactStep = some t) : Rewritten m t.mem := by
  unfold Nv.compactStep at ht
  dsimp only at ht
  split at ht
  · cases ht
  · cases ht
    exact Nv.journals_rewritten h _

omit h in
theorem Nv.compact_rewritten (fuel len : Nat) {n : Nv} (h : Rewritten m n.mem) : Rewritten m (Nv.compact fuel len n).mem := by
  induction fuel generalizing n with
  | zero => exact h
  | succ fuel ih =>
    rw [Nv.compact]
    split
    · exact h
    · split
      · exact ih (Nv.compactStep_rewritten h ‹_›)
      · exact h

theorem Nv.place_rewritten (len : Nat) : Rewritten m (n.place len).1.mem := by
  unfold Nv.place
  split
  · exact h
  · dsimp only
    generalize 2048 = fuel
    exact Nv.compact_rewritten fuel len h

theorem Nv.putOne_rewritten {q : SaveReq} {y : Nv × Nat} (hy : n.putOne q = some y) : Rewritten m y.1.mem := by
  have hp := Nv.place_rewritten h (recordPages q.payload.length)
  unfold Nv.putOne at hy
  split at hy
  · cases hy
  · split at hy <;> rename_i e <;> rw [e] at hp <;> cases hy
    exact Nv.putAt_rewritten hp _ _

end

theorem Nv.committed_mem (n : Nv) (page : Nat) : (n.committed page).mem = n.mem := by
  unfold Nv.committed
  split
  · dsimp only; split <;> rfl
  · rfl

theorem Nv.resume_mem (n : Nv) (restart : Bool) (old : Nv) : (n.resume restart old).mem = n.mem := by
  unfold Nv.resume; split <;> rfl

theorem Nv.queueRecord_mem (n : Nv) (q : SaveReq) (p : Nat) : (n.queueRecord q p).mem = n.mem :=
  List.foldlRecOn (motive := fun t : Nv => t.mem = n.mem) _ _ rfl fun _ ht _ _ => ht

section
variable {m : Tbl Byte} {n : Nv} (h : Rewritten m n.mem)
include h

theorem Nv.runOp_rewritten (o : PageOp) (f : JrnFate) : Rewritten m (n.runOp o f).mem := by
  cases f with
  | whole => exact (Nv.committed_mem _ _).symm ▸ Nv.journal_rewritten h _ _
  | cutSlot w => exact Nv.write_rewritten (n := { n with journalSeq := n.journalSeq + 1 }) h _ _
  | cutTarget w => exact Nv.intent_rewritten h _ _ _
  | failSlot => exact Nv.jrnSlot_rewritten h _
  | failTarget held => exact Nv.intent_rewritten h _ _ _

theorem Nv.redo_rewritten (c : Nat × Nat × Nat × Nat) : Rewritten m (n.redo c).mem :=
  Nv.write_rewritten (Nv.write_rewritten h _ _) _ _

end

/-- Members of a set written one after the other stay within writes of bytes (R449). -/
theorem foldl_bind_rewritten {α β : Type} {m : Tbl Byte} {f : Nv × β → α → Option (Nv × β)}
    (hf : ∀ x a y, Rewritten m x.1.mem → f x a = some y → Rewritten m y.1.mem) (xs : List α) (o : Option (Nv × β))
    (h : ∀ x, o = some x → Rewritten m x.1.mem) :
    ∀ y, xs.foldl (fun acc a => acc.bind fun x => f x a) o = some y → Rewritten m y.1.mem := by
  induction xs generalizing o with
  | nil => exact h
  | cons a xs ih =>
    refine ih _ fun x hx => ?_
    obtain ⟨z, hz, hf'⟩ := Option.bind_eq_some_iff.mp hx
    exact hf z a x (h z hz) hf'

theorem Nv.putSet_rewritten {m : Tbl Byte} {n t : Nv} {typ gen : Nat} {members : List (Nat × List Byte)} (h : Rewritten m n.mem)
    (ht : n.putSet typ gen members = some t) : Rewritten m t.mem := by
  unfold Nv.putSet at ht
  dsimp only at ht
  split at ht
  · cases ht
  · rename_i w listed hw
    obtain ⟨y, hy, rfl⟩ := Option.map_eq_some_iff.mp ht
    refine Nv.putOne_rewritten (n := w) ?_ hy
    refine foldl_bind_rewritten (fun x a y hx hxy => ?_) members (some (n, [])) (fun x hx => by cases hx; exact h) (w, listed) hw
    split at hxy
    · cases hxy; exact hx
    · obtain ⟨z, hz, rfl⟩ := Option.map_eq_some_iff.mp hxy
      exact Nv.putOne_rewritten hx hz

end Sys2Proof.Machine


/-! PROOFS. A predicate of the estate that writes of bytes do not touch holds through the functions of the model. -/

namespace Sys2Proof.Machine

/-! ### BACKUP through the Almanac's own steps -/

@[simp] theorem Almanac.advance_backup (m : Almanac) (n : Nat) : (m.advance n).backup = m.backup := by
  unfold Almanac.advance; dsimp only; (repeat' split) <;> rfl

@[simp] theorem State.advance_estate (a : At) (s : State) : (State.advance a s).estate = s.estate := by
  unfold State.advance; (repeat' split) <;> simp

@[simp] theorem State.advance_alm_backup (a : At) (s : State) : (State.advance a s).alm.backup = s.alm.backup :=
  congrArg Estate.backup (State.advance_estate a s)

@[simp] theorem Almanac.setAlarm_backup (m : Almanac) (n : Nat) (f : AlmAlarm → AlmAlarm) : (m.setAlarm n f).backup = m.backup := by
  unfold Almanac.setAlarm; split <;> rfl

@[simp] theorem Almanac.edge_backup (m : Almanac) : m.edge.backup = m.backup := by
  unfold Almanac.edge; dsimp only; split <;> rfl

@[simp] theorem Almanac.start_backup (m : Almanac) : m.start.backup = m.backup := by
  unfold Almanac.start; (repeat' split) <;> simp

theorem Almanac.writeTrim_backup (m : Almanac) (v : Int) : (m.writeTrim v).backup = m.backup := by
  unfold Almanac.writeTrim; split <;> rfl

theorem Almanac.enqueue_backup (m : Almanac) (w : AlmWrite) : (m.enqueue w).backup = m.backup := by
  unfold Almanac.enqueue; dsimp only; split <;> simp

theorem Binnacle.setSlot_svc (b : Binnacle) (i : Nat) (x : SlotState) : (b.setSlot i x).svc = b.svc := by
  unfold Binnacle.setSlot; (repeat' split) <;> rfl

theorem Binnacle.verifyFails_svc (b : Binnacle) : b.verifyFails.svc = b.svc := by
  unfold Binnacle.verifyFails
  split
  · rw [Binnacle.setSlot_svc, Binnacle.setSlot_svc]
  · rfl

theorem Binnacle.imageFor_svc {b c : Binnacle} {images : Nat} (h : b.imageFor images = some c) : c.svc = b.svc := by
  have hf : ∀ xs : List Nat, (xs.foldl (fun x i => x.setSlot i .rejected) b).svc = b.svc := fun xs =>
    List.foldlRecOn (motive := fun x : Binnacle => x.svc = b.svc) _ _ rfl fun x hx i _ => by rw [Binnacle.setSlot_svc, hx]
  unfold Binnacle.imageFor at h
  dsimp only at h
  split at h
  · cases h; exact hf _
  · split at h
    · cases h
      rw [Binnacle.setSlot_svc, Binnacle.setSlot_svc]
      exact hf _
    · cases h

/-- A predicate of the estate that holds whatever bytes are written to the memories. -/
structure Keeper where
  Holds : Estate → Prop
  rewrites : ∀ {e : Estate} {mram mailbox backup : Tbl Byte}, Holds e → Rewritten e.mram mram → Rewritten e.mailbox mailbox →
    Rewritten e.backup backup → Holds { e with mram := mram, mailbox := mailbox, backup := backup }

/-- The predicate says nothing of the configuration. -/
def Keeper.OpenCfg (k : Keeper) : Prop := ∀ (e : Estate) (c : Cfg), k.Holds e → k.Holds { e with cfg := c }

/-- The predicate says nothing of the roles of the pair. -/
def Keeper.OpenPair (k : Keeper) : Prop := ∀ (e : Estate) (r : PairRole) (t : Stamp) (p : Option PeerHeader) (c w : Bool), k.Holds e →
  k.Holds { e with role := r, takeover := t, peer := p, current := c, withdrawn := w }

/-- The predicate says nothing of how the service image runs. -/
def Keeper.OpenRun (k : Keeper) : Prop := ∀ (e : Estate) (x : SvcRun), k.Holds e → k.Holds { e with svc := x }

/-- The predicate says nothing of the UDP sessions. -/
def Keeper.OpenUdp (k : Keeper) : Prop := ∀ (e : Estate) (us : List UdpSession), k.Holds e → k.Holds { e with udp := us }

/-- The predicate says nothing of how often the server started. -/
def Keeper.OpenStarts (k : Keeper) : Prop := ∀ (e : Estate) (n : Word16), k.Holds e → k.Holds { e with starts := n }

/-- The predicate says nothing but of the memories. -/
structure Keeper.Open (k : Keeper) : Prop where
  cfg : k.OpenCfg
  pair : k.OpenPair
  run : k.OpenRun
  udp : k.OpenUdp
  starts : k.OpenStarts

@[simp] theorem Keeper.ite {k : Keeper} {c : Prop} [Decidable c] {a b : Estate} :
    k.Holds (if c then a else b) ↔ if c then k.Holds a else k.Holds b := by split <;> rfl

section
variable {k : Keeper} {s : State} (h : k.Holds s.estate)
include h

theorem Keeper.mram {m : Tbl Byte} (hm : Rewritten s.nv.mem m) : k.Holds { s.estate with mram := m } := k.rewrites h hm .refl .refl

theorem Keeper.nv {n : Nv} (hn : Rewritten s.nv.mem n.mem) : k.Holds (State.estate { s with nv := n }) := k.rewrites h hn .refl .refl

theorem Keeper.mailbox {m : Tbl Byte} (hm : Rewritten s.mb.mem m) : k.Holds { s.estate with mailbox := m } :=
  k.rewrites h .refl hm .refl

theorem Keeper.backup {m : Tbl Byte} (hm : Rewritten s.alm.backup m) : k.Holds { s.estate with backup := m } :=
  k.rewrites h .refl .refl hm

theorem Keeper.each {α : Type} {xs : List α} {f : α → State → State}
    (hf : ∀ x t, k.Holds t.estate → k.Holds (f x t).estate) : k.Holds (State.each xs f s).estate := by
  unfold State.each
  induction xs generalizing s with
  | nil => exact h
  | cons x xs ih => exact ih (hf x s h)

/-! ### The mailbox -/

theorem State.putEvent_kept {e : EvEntry} : k.Holds (State.putEvent e s).estate := Keeper.mailbox h (.write .refl _ _)

theorem State.putEventsLost_kept : k.Holds (State.putEventsLost s).estate := Keeper.mailbox h (.write .refl _ _)

@[simp] theorem State.postEvent_kept {e : EvEntry} : k.Holds (State.postEvent e s).estate := by
  unfold State.postEvent
  split
  · split
    · exact State.putEvent_kept (State.putEventsLost_kept h)
    · simpa using h
  · split
    · simpa using h
    · exact State.putEvent_kept h

@[simp] theorem State.endInterims_kept {p : Interim → Bool} {fate : Fate} {st : Status} {result : List Byte} :
    k.Holds (State.endInterims p fate st result s).estate := by
  unfold State.endInterims
  dsimp only
  refine Keeper.each ?_ fun _ _ ht => State.postEvent_kept ht
  exact h

@[simp] theorem State.abortFn_kept {fn : Nat} : k.Holds (State.abortFn fn s).estate := State.endInterims_kept (by simpa using h)

/-! ### The store and the Logbook -/

theorem State.saveNow_kept {q : SaveReq} : k.Holds (State.saveNow q s).2.estate := by
  have hp := Nv.place_rewritten (m := s.nv.mem) .refl (recordPages q.payload.length)
  unfold State.saveNow
  split
  · exact h
  · split
    · simpa using h
    · split <;> rename_i e <;> rw [e] at hp
      · exact Keeper.mram h (Nv.putAt_rewritten hp _ _)
      · exact Keeper.mram h hp

/-- Whatever a write made at once answers, the predicate holds after it. -/
theorem State.saveNow_kept_of {q : SaveReq} {st : Status} {t : State} (ht : s.saveNow q = (st, t)) : k.Holds t.estate := by
  have hk : k.Holds (s.saveNow q).2.estate := State.saveNow_kept h
  rwa [ht] at hk

@[simp] theorem State.recordWritten_kept {r : LogRec} {slot seq : Nat} : k.Holds (State.recordWritten r slot seq s).estate := by
  unfold State.recordWritten
  dsimp only
  rw [State.when_estate]
  split
  · exact State.postEvent_kept (by simpa using h)
  · simpa using h

theorem State.fillPage_kept {fuel page : Nat} {bs : List Byte} : k.Holds (State.fillPage fuel page bs s).2.estate := by
  induction fuel generalizing bs s with
  | zero => exact h
  | succ fuel ih =>
    rw [State.fillPage]
    split
    · exact h
    · dsimp only
      split
      · exact h
      · exact ih (State.recordWritten_kept (by simpa using h))

@[simp] theorem State.writeLog_kept : k.Holds (State.writeLog s).estate := by
  have hf : k.Holds (s.fillPage 4 (s.log.place / 4) (s.nv.page (logBase / 256 + s.log.place / 4))).2.estate := State.fillPage_kept h
  unfold State.writeLog
  split
  · exact h
  · dsimp only
    rw [State.noteOverflow_estate]
    exact Keeper.mram hf (Nv.journal_rewritten .refl _ _)

theorem State.flushLog_kept {fuel : Nat} : k.Holds (State.flushLog fuel s).estate := by
  induction fuel generalizing s with
  | zero => exact h
  | succ fuel ih => exact ih (State.writeLog_kept h)

@[simp] theorem logAckBody_kept {r : Req} : k.Holds (logAckBody r s).1.estate := by
  unfold logAckBody
  dsimp only
  split
  · simpa using h
  · split <;> rename_i e
    · have hb := congrArg (fun x => x.2.bin) e
      simp only [State.saveNow_bin] at hb
      simpa [hb] using State.saveNow_kept_of h e
    · simpa using State.saveNow_kept_of h e

@[simp] theorem State.pageOp_kept {f : JrnFate} : k.Holds (State.pageOp f s).estate := by
  unfold State.pageOp
  split
  · exact h
  · split
    · split
      · exact h
      · rename_i o _ _
        have hr : Rewritten s.nv.mem ((s.nv.dropOp o).runOp o f).mem := Nv.runOp_rewritten (n := s.nv.dropOp o) .refl o f
        exact Keeper.mram h hr
    · exact h

@[simp] theorem State.sheafStep_kept {cut : Bool} : k.Holds (State.sheafStep cut s).estate := by
  unfold State.sheafStep
  split
  · exact h
  · split
    · exact h
    · dsimp only
      refine Keeper.mram h ?_
      split
      · exact Nv.write_rewritten .refl _ _
      · exact .refl

@[simp] theorem State.recordWrite_kept : k.Holds (State.recordWrite s).estate := by
  unfold State.recordWrite
  dsimp only
  split
  · exact h
  · split
    · exact h
    · split
      · simpa using h
      · split
        · refine Keeper.mram h ?_
          rw [Nv.queueRecord_mem]
          exact .refl
        · exact h

@[simp] theorem State.compaction_kept : k.Holds (State.compaction s).estate := by
  have hc : ∀ fuel len, Rewritten s.nv.mem (s.nv.compact fuel len).mem := fun fuel len => Nv.compact_rewritten fuel len .refl
  unfold State.compaction
  generalize 2048 = fuel
  dsimp only
  split
  · exact h
  · split
    · exact h
    · split
      · refine Keeper.mram h ?_
        rw [Nv.queueRecord_mem]
        exact hc _ _
      · exact Keeper.mram h (hc _ _)

@[simp] theorem State.eccFound_kept {page : Nat} {corrected bad : List Nat} : k.Holds (State.eccFound page corrected bad s).estate := by
  unfold State.eccFound
  dsimp only
  (repeat' split) <;> simpa [Nv.queuePage] using h

@[simp] theorem State.failTrial_kept {i : Nat} : k.Holds (State.failTrial i s).estate := by
  unfold State.failTrial
  split
  · simpa [Binnacle.setSlot_svc] using h
  · exact h

@[simp] theorem State.restoreBinnacle_kept : k.Holds (State.restoreBinnacle s).estate := by
  unfold State.restoreBinnacle
  dsimp only
  refine Keeper.each ?_ fun _ _ ht => State.failTrial_kept ht
  split <;> simpa [Binnacle.restore] using h

@[simp] theorem State.recoverStore_kept : k.Holds (State.recoverStore s).estate := by
  have h1 : Rewritten s.nv.mem (s.nv.strays.foldl (fun n c => n.write (commitAddr c.1) (List.replicate 8 0)) s.nv).mem :=
    Rewritten.foldl _ _ (fun _ _ ht => Nv.write_rewritten ht _ _) _ .refl
  have h2 := Rewritten.foldl s.nv.intents (fun n c => n.redo c) (fun _ c ht => Nv.redo_rewritten ht c) _ h1
  unfold State.recoverStore
  dsimp only
  generalize List.foldl (fun n c => Nv.redo n c) _ _ = n2 at h2
  generalize hn : Nv.resume _ _ n2 = n3
  have h3 : Rewritten s.nv.mem n3.mem := by rw [← hn, Nv.resume_mem]; exact h2
  have ht : k.Holds (State.estate { s with nv := n3 }) := Keeper.mram h h3
  split <;> simpa using ht

/-! ### The Almanac -/

@[simp] theorem State.fireAlarm_kept {n cause : Nat} : k.Holds (State.fireAlarm n cause s).estate := by
  unfold State.fireAlarm
  dsimp only
  split <;> simpa using h

@[simp] theorem State.alarmEval_kept {n : Nat} {armed : Bool} {moved : Option Nat} :
    k.Holds (State.alarmEval n armed moved s).estate := by
  unfold State.alarmEval
  split
  · exact h
  · exact State.fireAlarm_kept h

theorem State.commitEdge_kept : k.Holds (State.commitEdge s).estate := by
  unfold State.commitEdge
  split
  · exact h
  · extract_lets armed0 armed1 m before value t u moved w
    have ht : k.Holds t.estate := by
      unfold t
      generalize value = v
      split <;> simpa [m] using h
    have hu : k.Holds u.estate := ht
    have hw : k.Holds w.estate := State.alarmEval_kept (State.alarmEval_kept hu)
    split
    · exact hw
    · rw [State.finish_estate]
      refine Keeper.backup hw ?_
      rw [Almanac.start_backup]
      exact .refl

@[simp] theorem State.lockAlmanac_kept : k.Holds (State.lockAlmanac s).estate := State.abortFn_kept (by simpa [Almanac.dropPending] using h)

@[simp] theorem State.domainPowerOn_kept : k.Holds (State.domainPowerOn s).estate := Keeper.backup h .clear

/-! ### Soundings, modes and the bank -/

@[simp] theorem State.saveBank_kept : k.Holds (State.saveBank s).estate := by
  unfold State.saveBank
  split
  · simpa using h
  · split
    · exact Keeper.mram h (Nv.putSet_rewritten .refl ‹_›)
    · simpa using h

@[simp] theorem State.endChartWrite_kept {newest : Bool} {fate : Fate} : k.Holds (State.endChartWrite newest fate s).estate := by
  unfold State.endChartWrite
  dsimp only
  split
  · exact State.endInterims_kept h
  · exact h

@[simp] theorem State.sndVanish_kept {z : Nat} : k.Holds (State.sndVanish z s).estate := by
  refine State.endInterims_kept ?_
  exact h

@[simp] theorem State.sndBegin_kept {z : Nat} : k.Holds (State.sndBegin z s).estate := by
  unfold State.sndBegin
  dsimp only
  split
  · exact State.sndVanish_kept h
  · exact State.endInterims_kept (by simpa using h)

@[simp] theorem State.sndStarts_kept : k.Holds (State.sndStarts s).estate := by
  unfold State.sndStarts
  split
  · exact h
  · exact Keeper.each h fun _ _ ht => State.sndBegin_kept ht

@[simp] theorem State.sndEnd_kept {cause z : Nat} {o : Sounding} : k.Holds (State.sndEnd cause z o s).estate := by
  unfold State.sndEnd
  dsimp only
  rw [State.record_estate, State.ite_estate, Keeper.ite]
  split
  · refine State.endInterims_kept ?_
    split <;> split <;> simpa using h
  · split <;> split <;> simpa using h

@[simp] theorem State.sndAbort_kept {cause z : Nat} : k.Holds (State.sndAbort cause z s).estate := State.sndEnd_kept h

@[simp] theorem State.sndDropDeferred_kept {z : Nat} : k.Holds (State.sndDropDeferred z s).estate := by
  refine State.endInterims_kept ?_
  exact h

theorem State.writeMode_kept {z : Nat} {m : ZMode} : k.Holds (State.writeMode z m s).1.estate := by
  unfold State.writeMode
  dsimp only
  split
  · split
    · refine State.endInterims_kept ?_
      split <;> simp [h]
    · refine State.endInterims_kept ?_
      exact h
  · exact h

/-- Whatever a mode written answers, the predicate holds after it. -/
theorem State.writeMode_kept_of {z : Nat} {m : ZMode} {t : State} {st : Status} (ht : s.writeMode z m = (t, st)) :
    k.Holds t.estate := by
  have hk : k.Holds (s.writeMode z m).1.estate := State.writeMode_kept h
  rwa [ht] at hk

@[simp] theorem State.modesTakeEffect_kept : k.Holds (State.modesTakeEffect s).estate := by
  unfold State.modesTakeEffect
  refine Keeper.each h fun z t ht => ?_
  dsimp only
  split
  · exact State.endInterims_kept (by simpa using ht)
  · simpa using ht

@[simp] theorem State.sndLost_kept : k.Holds (State.sndLost s).estate := Keeper.each h fun _ _ ht => State.sndAbort_kept ht

theorem State.helmSample_kept : k.Holds (State.helmSample s).estate := by
  unfold State.helmSample
  have hm : ∀ u : State, u.estate = s.estate → k.Holds u.sndLost.modesTakeEffect.sndStarts.estate := fun u hu =>
    State.sndStarts_kept (State.modesTakeEffect_kept (State.sndLost_kept (hu ▸ h)))
  split
  · exact h
  · split
    · simpa using h
    · simp [hm]

/-! ### Calibration, objects and trends -/

@[simp] theorem State.calFinish_kept {c : Nat} : k.Holds (State.calFinish c s).estate := by
  unfold State.calFinish
  extract_lets o t u n body v v1
  have hu : k.Holds u.estate := by
    unfold u t
    split <;> split <;> simpa using h
  have hv : k.Holds v.estate := by
    unfold v
    split
    · split
      · exact State.endInterims_kept hu
      · simpa using hu
    · exact hu
  split <;> simpa [v1] using hv

@[simp] theorem State.calDemand_kept {c : Nat} {isGain : Bool} {dev : Option Int} : k.Holds (State.calDemand c isGain dev s).estate := by
  unfold State.calDemand
  extract_lets t
  have ht : k.Holds t.estate := by simpa [t] using h
  split
  · exact State.calFinish_kept ht
  · exact ht

theorem State.storeProp_kept {id prop : Nat} {bs : List Byte} : k.Holds (State.storeProp id prop bs s).1.estate := by
  unfold State.storeProp
  dsimp only
  split <;> rename_i e <;> simpa using State.saveNow_kept_of h e

theorem State.writePv_kept {id slot : Nat} {o : Obj} {t : Tok} : k.Holds (State.writePv id slot o t s).1.estate := by
  unfold State.writePv
  split
  case h_5 =>
    split
    · split
      · split <;> exact State.writeMode_kept_of h ‹_›
      · exact h
    · exact h
  case h_6 =>
    dsimp only
    split
    · (repeat' split) <;> simpa using h
    · split
      · split
        · exact State.storeProp_kept h
        · exact h
      · exact h
  all_goals (repeat' split) <;> simpa using h

@[simp] theorem State.trendAdd_kept {n kind : Nat} {v : Word32} : k.Holds (State.trendAdd n kind v s).estate := by
  unfold State.trendAdd
  dsimp only
  split
  · exact h
  · split
    · refine State.storeProp_kept ?_
      exact h
    · exact h

@[simp] theorem State.trendPurge_kept {n : Nat} : k.Holds (State.trendPurge n s).estate := by
  refine State.trendAdd_kept ?_
  exact h

@[simp] theorem State.startTrends_kept : k.Holds (State.startTrends s).estate := by
  unfold State.startTrends
  refine Keeper.each h fun n t ht => ?_
  dsimp only
  have hn := State.trendPurge_kept (n := n) ht
  generalize t.trendPurge n = u at hn
  exact hn

theorem State.storeWrite_kept {id prop : Nat} {o : Obj} {ts : List Tok} : k.Holds (State.storeWrite id prop o ts s).1.estate := by
  have hp : k.Holds (s.storeProp id prop (ts.flatMap Tok.bytes)).1.estate := State.storeProp_kept h
  unfold State.storeWrite
  split
  · rename_i e
    rw [e] at hp
    simpa using hp
  · exact hp

theorem State.writeObj_kept {id prop : Nat} {idx : Option Nat} {slot : Nat} {o : Obj} {bs : List Byte} :
    k.Holds (State.writeObj id prop idx slot o bs s).1.estate := by
  have hw : ∀ ts, k.Holds (s.storeWrite id prop o ts).1.estate := fun _ => State.storeWrite_kept h
  have hv : ∀ t, k.Holds (s.writePv id slot o t).1.estate := fun _ => State.writePv_kept h
  unfold State.writeObj
  dsimp only
  (repeat' split) <;> simp [h, hw, hv]

@[simp] theorem State.scheduleWrite_kept {n : Nat} {t : Tok} : k.Holds (State.scheduleWrite n t s).estate := by
  unfold State.scheduleWrite
  refine Keeper.each h fun r u hu => ?_
  split
  · split
    · exact State.writePv_kept hu
    · exact hu
  · exact hu

@[simp] theorem State.scheduleRun_kept {all : Bool} : k.Holds (State.scheduleRun all s).estate := by
  unfold State.scheduleRun
  split
  · exact h
  · dsimp only
    refine Keeper.each ?_ fun n u hu => ?_
    · exact h
    · split
      · refine State.scheduleWrite_kept ?_
        exact hu
      · exact hu

theorem State.writeProp_kept {id prop : Nat} {idx : Option Nat} {slot : Nat} {bs : List Byte} :
    k.Holds (State.writeProp id prop idx slot bs s).1.estate := by
  unfold State.writeProp
  split
  · exact h
  · rename_i o _
    have hw : k.Holds (s.writeObj (s.ident id) prop idx (if slot = 0 then 16 else slot) o bs).1.estate := State.writeObj_kept h
    split
    · exact h
    · split
      · rename_i e
        rw [e] at hw
        dsimp only
        split
        · exact State.scheduleRun_kept hw
        · exact State.scheduleRun_kept hw
        · exact hw
      · exact hw

/-- Whatever a property written answers, the predicate holds after it. -/
theorem State.writeProp_kept_of {id prop slot : Nat} {idx : Option Nat} {bs : List Byte} {t : State} {x : WrRes}
    (ht : s.writeProp id prop idx slot bs = (t, x)) : k.Holds t.estate := by
  have hk : k.Holds (s.writeProp id prop idx slot bs).1.estate := State.writeProp_kept h
  rwa [ht] at hk

@[simp] theorem State.setTime_kept {source : Nat} {utc16 t16 : Int} : k.Holds (State.setTime source utc16 t16 s).estate := by
  unfold State.setTime
  dsimp only
  refine State.scheduleRun_kept ?_
  split
  · refine Keeper.each ?_ fun _ _ hv => State.trendAdd_kept hv
    simpa using h
  · simpa using h

theorem State.writeItems_kept {xs : List PropItem} : k.Holds (s.writeItems xs).1.estate := by
  induction xs generalizing s with
  | nil => exact h
  | cons it rest ih =>
    rw [State.writeItems]
    split
    rename_i t r e
    have ht : k.Holds t.estate := State.writeProp_kept_of h e
    split
    · exact ht
    · exact ih ht

@[simp] theorem State.answerWrite_kept {p peer : Nat} {multiple : Bool} {items : List PropItem} :
    k.Holds (State.answerWrite p peer multiple items s).estate := by
  have hi : k.Holds (s.writeItems items).1.estate := State.writeItems_kept h
  unfold State.answerWrite
  split <;> rename_i e <;> rw [e] at hi <;> simpa using hi

theorem State.trendStep_kept {n : Nat} : k.Holds (State.trendStep n s).estate := by
  unfold State.trendStep
  extract_lets t runs svc s1 v
  have h1 : k.Holds s1.estate := by
    unfold s1
    split
    · exact h
    · refine State.trendAdd_kept ?_
      exact h
  split
  · exact h1
  · split
    · split
      · dsimp only
        split
        · refine State.trendAdd_kept ?_
          exact h1
        · exact h1
      · exact h1
    · split
      · refine State.trendAdd_kept ?_
        exact h1
      · exact h1
    · refine Keeper.each ?_ fun _ _ hv => State.trendAdd_kept hv
      exact h1

@[simp] theorem State.trendCapture_kept : k.Holds (State.trendCapture s).estate := by
  unfold State.trendCapture
  split
  · exact h
  · exact Keeper.each h fun _ _ ht => State.trendStep_kept ht

end

/-! ### Configuration sets: the predicate says nothing of the configuration -/

section
variable {k : Keeper} {s : State} (h : k.Holds s.estate) (hc : k.OpenCfg)
include h hc

theorem State.cfgSet_kept {n : Nat} {f : CfgSet → CfgSet} : k.Holds (State.cfgSet n f s).estate := by
  unfold State.cfgSet
  split <;> exact hc _ _ h

theorem State.setIncomplete_kept {n : Nat} : k.Holds (State.setIncomplete n s).estate := by
  unfold State.setIncomplete
  rw [State.record_estate]
  exact State.cfgSet_kept h hc

theorem State.endStaging_kept {keep : Option Nat} : k.Holds (State.endStaging keep s).estate := by
  refine Keeper.each h fun n t ht => ?_
  split
  · exact State.setIncomplete_kept ht hc
  · exact ht

theorem State.cfgBegin_kept {n gen : Nat} : k.Holds (State.cfgBegin n gen s).1.estate := by
  unfold State.cfgBegin
  split
  · exact h
  · split
    · exact h
    · refine State.cfgSet_kept (Keeper.nv (State.endStaging_kept h hc) ?_) hc
      exact Nv.journal_rewritten .refl _ _

theorem State.cfgWrite_kept {n off : Nat} {data : List Byte} : k.Holds (State.cfgWrite n off data s).1.estate := by
  unfold State.cfgWrite
  split
  · exact h
  · split
    · exact h
    · split
      · exact State.setIncomplete_kept h hc
      · exact Keeper.mram h (Nv.storeBytes_rewritten .refl _ _)

theorem State.commitSet_kept {n gen size crc : Nat} {waiter : Option (Nat × Nat)} {inst : Option Nat} :
    k.Holds (State.commitSet n gen size crc waiter inst s).estate := by
  unfold State.commitSet
  refine State.cfgSet_kept ?_ hc
  exact hc _ _ (Keeper.nv h (Nv.journal_rewritten .refl _ _))

theorem State.cfgCommit_kept {n size crc : Nat} {waiter : Nat × Nat} : k.Holds (State.cfgCommit n size crc waiter s).1.estate := by
  unfold State.cfgCommit
  dsimp only
  split
  · simpa using h
  · split
    · simpa using State.setIncomplete_kept h hc
    · split
      · simpa using h
      · split
        · simpa using h
        · exact State.commitSet_kept h hc

theorem State.cfgReceive_kept {gen : Nat} {image : List Byte} {inst : Option Nat} :
    k.Holds (State.cfgReceive gen image inst s).estate := by
  unfold State.cfgReceive
  split
  · exact h
  · extract_lets n taken t u
    have ht : k.Holds t.estate := by
      refine Keeper.each h fun m v hv => ?_
      refine State.setIncomplete_kept (Keeper.nv hv ?_) hc
      exact Nv.journal_rewritten .refl _ _
    have hu : k.Holds u.estate := Keeper.nv ht (Nv.storeBytes_rewritten (Nv.journal_rewritten .refl _ _) _ _)
    rw [State.record_estate]
    exact State.commitSet_kept hu hc

theorem State.classSets_kept : k.Holds (State.classSets s).estate := by
  unfold State.classSets
  dsimp only
  refine Keeper.each (Keeper.each h fun n t ht => ?_) fun n u hu => ?_
  · have hx : ∀ f, k.Holds (t.cfgSet n f).estate := fun _ => State.cfgSet_kept ht hc
    split <;> simp [hx]
  · split <;> simpa using hu

theorem State.configSelection_kept : k.Holds (State.configSelection s).estate := by
  have ht : k.Holds s.classSets.estate := State.classSets_kept h hc
  unfold State.configSelection
  generalize s.classSets = t at ht
  dsimp only
  split
  · exact h
  · split
    · simpa using ht
    · exact hc _ _ ht

theorem State.cfgDown_kept : k.Holds (State.cfgDown s).estate := by
  have ht : k.Holds (s.endStaging none).estate := State.endStaging_kept h hc
  unfold State.cfgDown
  generalize s.endStaging none = t at ht
  exact hc _ _ ht

theorem State.takeBulk_kept {f : MirrorFrame} : k.Holds (State.takeBulk f s).estate := by
  unfold State.takeBulk
  extract_lets t
  have ht : k.Holds t.estate := by
    unfold t
    split <;> simpa using h
  split
  · split
    · exact ht
    · exact State.cfgReceive_kept ht hc
  · exact ht

end

/-! ### The pair: the predicate says nothing of its roles -/

section
variable {k : Keeper} {s : State} (h : k.Holds s.estate) (hp : k.OpenPair)
include h hp

theorem State.takeHeader_kept {f : MirrorFrame} : k.Holds (State.takeHeader f s).estate := by
  unfold State.takeHeader
  extract_lets pair t apart
  have ht : k.Holds t.estate := by
    unfold t
    rw [State.measureD_estate]
    exact hp _ _ _ _ _ _ h
  exact ht

theorem State.keepsCurrent_kept {old : Option PeerHeader} {f : MirrorFrame} : k.Holds (State.keepsCurrent old f s).estate :=
  hp _ _ _ _ _ _ h

theorem State.enterElecting_kept : k.Holds (State.enterElecting s).estate := hp _ _ _ _ _ _ h

end

section
variable {k : Keeper} {s : State} (h : k.Holds s.estate)
include h

@[simp] theorem State.endSoundings_kept : k.Holds (State.endSoundings s).estate := Keeper.each h fun _ _ ht => State.sndEnd_kept ht

@[simp] theorem State.leaveFloor_kept : k.Holds (State.leaveFloor s).estate := by
  unfold State.leaveFloor
  have he : k.Holds (State.endSoundings { s with helm.sampling := false }).estate := State.endSoundings_kept h
  simpa using he

@[simp] theorem State.startStale_kept : k.Holds (State.startStale s).estate := by
  unfold State.startStale
  extract_lets t helm t1 t2 svc t3
  have h1 : k.Holds t1.estate := by simpa [t1, t] using h
  have h2 : k.Holds t2.estate := Keeper.each h1 fun _ _ hu => State.trendPurge_kept hu
  have h3 : k.Holds t3.estate := by simpa [t3] using h2
  simpa using h3

theorem State.pairServicesRise_kept (hp : k.OpenPair) : k.Holds (State.pairServicesRise s).estate := by
  unfold State.pairServicesRise
  split
  · refine State.leaveFloor_kept (State.enterElecting_kept ?_ hp)
    exact hp _ _ _ _ _ _ h
  · exact hp _ .none _ _ _ _ h

theorem State.withdrawnTurn_kept (hp : k.OpenPair) : k.Holds (State.withdrawnTurn s).estate := by
  have he : k.Holds (State.enterElecting { s with pair.withdrawn := false }).estate := State.enterElecting_kept (hp _ _ _ _ _ _ h) hp
  unfold State.withdrawnTurn
  dsimp only
  split
  · exact h
  · split
    · rw [State.roleRecord_estate]
      split
      · exact State.leaveFloor_kept he
      · exact he
    · split
      · rw [State.roleRecord_estate]
        exact State.leaveFloor_kept (State.enterElecting_kept h hp)
      · exact h

@[simp] theorem State.postponeHandover_kept : k.Holds (State.postponeHandover s).estate := by
  have hx : ∀ x, k.Holds (State.estate { s with pair.handoverAt := x }) := fun _ => h
  unfold State.postponeHandover
  split
  · exact hx _
  · exact h

@[simp] theorem State.commitSoundings_kept {old : State} {ds : List (Nat × Nat)} : k.Holds (State.commitSoundings old ds s).estate :=
  Keeper.each h fun _ _ ht => State.sndAbort_kept ht

@[simp] theorem State.commitZone_kept {old : State} {ds : List (Nat × Nat)} {z : Nat} : k.Holds (State.commitZone old ds z s).estate := by
  have hx : ∀ (u : State) (b : Helm), k.Holds u.estate → k.Holds (State.estate { u with helm := b }) := fun _ _ hu => hu
  unfold State.commitZone
  extract_lets t links t1
  have ht : k.Holds t.estate := by simpa [t] using h
  have h1 : k.Holds t1.estate := Keeper.each ht fun _ _ hu => hx _ _ hu
  split
  · simpa using h1
  · exact h1

@[simp] theorem State.commitHelm_kept {old : State} {ds : List (Nat × Nat)} : k.Holds (State.commitHelm old ds s).estate := by
  unfold State.commitHelm
  have hz : ∀ zs : List Nat, k.Holds (State.each zs (State.commitZone old ds) (State.commitSoundings old ds s)).estate := fun _ =>
    Keeper.each (State.commitSoundings_kept h) fun _ _ ht => State.commitZone_kept ht
  simpa using hz _

/-! ### Services, tests and the start of an image -/

@[simp] theorem State.fitUpdate_kept {hz amp toEnd : Nat} : k.Holds (State.fitUpdate hz amp toEnd s).estate := by
  have hx : ∀ m, k.Holds (State.estate { s with mer := m }) := fun _ => h
  unfold State.fitUpdate
  dsimp only
  (repeat' split) <;> exact hx _

@[simp] theorem State.soundingsStop_kept : k.Holds (State.soundingsStop s).estate := by
  unfold State.soundingsStop
  extract_lets t zs
  have ht : k.Holds t.estate := Keeper.each h fun _ _ hu => State.sndEnd_kept hu
  exact ht

@[simp] theorem State.signalEntry_kept {n arg : Nat} : k.Holds (State.signalEntry n arg s).estate := State.postEvent_kept h

@[simp] theorem selftestBody_kept {r : Req} : k.Holds (selftestBody r s).1.estate := by
  unfold selftestBody
  extract_lets test arg t
  have ht : k.Holds t.estate := State.endInterims_kept h
  split
  · simpa using h
  · split <;> simpa using ht

@[simp] theorem State.testEnds_kept {test outcome : Nat} {detail : List Byte} : k.Holds (State.testEnds test outcome detail s).estate := by
  unfold State.testEnds
  refine State.endInterims_kept ?_
  split <;> simpa using h

theorem State.soundDeferred_kept {n : Nat} {i : Interim} : k.Holds (State.soundDeferred n i s).estate := by
  unfold State.soundDeferred
  split
  · rename_i p _
    have ht := State.sndTake_estate i.target p (s.markBegun n)
    split
    · exact h
    · split <;> rename_i e <;> rw [e] at ht
      · split
        · simpa [ht] using h
        · refine State.endInterims_kept ?_
          simpa [ht] using h
      · simpa [ht] using h
  · exact h

theorem State.forceDeferred_kept {kind : Nat} {i : Interim} : k.Holds (State.forceDeferred kind i s).estate := by
  unfold State.forceDeferred
  dsimp only
  split
  · exact h
  · exact State.endInterims_kept (by simpa using h)

@[simp] theorem State.guardEndsTest_kept : k.Holds (State.guardEndsTest s).estate := by
  unfold State.guardEndsTest
  split
  · split
    · exact State.testEnds_kept h
    · exact h
  · exact h

@[simp] theorem State.deferredStart_kept {n : Nat} {i : Interim} : k.Holds (State.deferredStart n i s).estate := by
  unfold State.deferredStart
  split
  · split
    · exact State.soundDeferred_kept h
    · exact State.forceDeferred_kept h
    · exact State.forceDeferred_kept h
    · exact State.forceDeferred_kept h
    · exact h
  · split
    · split <;> simpa using h
    · exact h

@[simp] theorem State.mbPerform_kept {x : MbItem} : k.Holds (State.mbPerform x s).estate := by
  unfold State.mbPerform
  split
  · simpa using h
  · exact State.writeMode_kept h

theorem State.firstServices_kept : k.Holds (State.firstServices s).estate := by
  unfold State.firstServices
  dsimp only
  refine State.startTrends_kept ?_
  rw [State.when_estate]
  split <;> simpa using h

@[simp] theorem State.afterApply_kept : k.Holds (State.afterApply s).estate := by
  unfold State.afterApply
  split
  · rw [State.formAllRefs_estate]
    refine State.trendCapture_kept ?_
    exact h
  · exact h

@[simp] theorem State.trialFails_kept {isBin : Bool} : k.Holds (State.trialFails isBin s).estate := by
  unfold State.trialFails
  split
  · simpa [Binnacle.setSlot_svc] using h
  · exact h

@[simp] theorem State.activeRejected_kept : k.Holds (State.activeRejected s).estate := by
  unfold State.activeRejected
  split
  · simpa [Binnacle.verifyFails_svc] using h
  · exact h

theorem State.imageStarts_kept (hr : k.OpenRun) : k.Holds (State.imageStarts s).estate := by
  have hx : k.Holds (State.estate { s with bin.svc := .starting }) := hr _ _ h
  unfold State.imageStarts
  dsimp only
  split <;> simpa using hx

@[simp] theorem State.lastGasp_kept {ready : Word32} {ops : Nat} : k.Holds (State.lastGasp ready ops s).estate := by
  unfold State.lastGasp
  refine State.recordWritten_kept ?_
  exact Keeper.mram h (Nv.journal_rewritten .refl _ _)

@[simp] theorem State.slotTo_kept {i : Nat} {x : SlotState} {version : Nat} : k.Holds (State.slotTo i x version s).estate := by
  unfold State.slotTo
  dsimp only
  (repeat' split) <;> simpa [Binnacle.setSlot_svc] using h

@[simp] theorem State.writeSlots_kept {addr : Nat} {bs : List Byte} : k.Holds (State.writeSlots addr bs s).estate :=
  Keeper.mailbox h (.write .refl _ _)

theorem State.imageVerified_kept {images : Nat} {t : State} (ht : s.imageVerified images = some t) : k.Holds t.estate := by
  unfold State.imageVerified at ht
  obtain ⟨b, hb, rfl⟩ := Option.map_eq_some_iff.mp ht
  have hs := Binnacle.imageFor_svc hb
  dsimp only
  split <;> simpa [hs] using h

/-! ### Sessions: the predicate says nothing of those over UDP -/

theorem State.setSession_kept (hu : k.OpenUdp) {n : Nat} {x : Session} : k.Holds (State.setSession n x s).estate := by
  unfold State.setSession
  split
  · exact h
  · split
    · exact h
    · split
      · exact h
      · exact hu _ _ h

theorem State.send_kept (hu : k.OpenUdp) {f : Flight} {x : Resp} : k.Holds (State.send f x s).estate := by
  unfold State.send
  dsimp only
  split
  · exact Keeper.mailbox h (.write .refl _ _)
  · split
    · exact Keeper.mailbox h (.write .refl _ _)
    · split
      · exact h
      · split
        · exact hu _ _ h
        · exact h

theorem State.postNext_kept (hu : k.OpenUdp) {n : Nat} : k.Holds (State.postNext n s).estate := by
  unfold State.postNext
  split
  · exact h
  · split
    · exact h
    · split
      · exact h
      · rw [State.settle_estate]
        refine State.send_kept ?_ hu
        exact h

theorem State.postServer_kept (hu : k.OpenUdp) {fuel : Nat} : k.Holds (State.postServer fuel s).estate := by
  induction fuel generalizing s with
  | zero => exact h
  | succ fuel ih => exact ih (Keeper.each h fun _ _ ht => State.postNext_kept ht hu)

theorem State.closeUdp_kept (hu : k.OpenUdp) {n : Nat} : k.Holds (State.closeUdp n s).estate := by
  unfold State.closeUdp
  rw [State.settle_estate]
  exact hu _ _ h

theorem State.addUdp_kept (hu : k.OpenUdp) {ip port : Nat} {o : Opening} : k.Holds (State.addUdp ip port o s).estate := hu _ _ h

theorem openBody_kept (hu : k.OpenUdp) {r : Req} : k.Holds (openBody r s).1.estate := by
  unfold openBody
  split
  · simpa using h
  · refine State.setSession_kept ?_ hu
    simpa using h

theorem State.proofWrong_kept (hu : k.OpenUdp) {n : Nat} : k.Holds (State.proofWrong n s).1.estate := State.setSession_kept h hu

theorem State.proofRight_kept (hu : k.OpenUdp) {n : Nat} {key : List Byte} {o : Opening} :
    k.Holds (State.proofRight n key o s).1.estate := State.setSession_kept h hu

theorem proveBody_kept (hu : k.OpenUdp) {r : Req} : k.Holds (proveBody r s).1.estate := by
  unfold proveBody
  split
  · exact State.proofWrong_kept h hu
  · split
    · exact State.proofWrong_kept h hu
    · split
      · exact State.proofRight_kept h hu
      · exact State.proofWrong_kept h hu

theorem State.openUdp_kept (hu : k.OpenUdp) {ip port : Nat} {payload : List Byte} :
    k.Holds (State.openUdp ip port payload s).1.estate := by
  unfold State.openUdp
  split
  · exact h
  · dsimp only
    split
    · exact h
    · rename_i t ht
      refine State.addUdp_kept ?_ hu
      split at ht
      · cases ht; exact h
      · obtain ⟨n, -, rfl⟩ := Option.map_eq_some_iff.mp ht
        exact State.closeUdp_kept h hu

theorem State.serverStart_kept (hu : k.OpenUdp) (hn : k.OpenStarts) : k.Holds (State.serverStart s).estate := by
  unfold State.serverStart
  extract_lets kept lost t1 t2 t3 mb tr t4 n t5
  have h1 : k.Holds t1.estate := State.postServer_kept h hu
  have h2 : k.Holds t2.estate := State.postServer_kept (by simpa using h1) hu
  have h3 : k.Holds t3.estate := Keeper.each h2 fun _ _ ht => State.postEvent_kept ht
  have h4 : k.Holds t4.estate := hn _ _ (hu _ _ h3)
  simpa using State.postEvent_kept h4

end

section
variable {k : Keeper} {s : State} (h : k.Holds s.estate) (hc : k.OpenCfg)
include h hc

theorem whileFree_kept {cls opcode : Nat} {body : Req → State → State × Option Resp} {r : Req}
    (hb : k.Holds (body r s).1.estate) : k.Holds (whileFree cls opcode body r s).1.estate := by
  unfold whileFree
  split
  · exact hc _ _ h
  · exact hb

theorem storeBody_kept {opcode : Nat} {r : Req} : k.Holds (storeBody opcode r s).1.estate := by
  unfold storeBody
  split
  · exact whileFree_kept h hc (by simpa using h)
  · exact whileFree_kept h hc (State.cfgBegin_kept h hc)
  · exact whileFree_kept h hc (State.cfgWrite_kept h hc)
  · exact whileFree_kept h hc (State.cfgCommit_kept h hc)
  · refine whileFree_kept h hc ?_
    dsimp only
    split <;> simpa using h
  · exact whileFree_kept h hc (by simpa using h)
  · exact whileFree_kept h hc (by simpa using h)

theorem State.runHeld_kept : k.Holds (State.runHeld s).estate := by
  unfold State.runHeld
  dsimp only
  refine Keeper.each ?_ fun i t ht => ?_
  · exact hc _ _ h
  have hb : k.Holds (storeBody i.opcode i.req t).1.estate := storeBody_kept ht hc
  split
  · exact ht
  · split <;> rename_i e <;> rw [e] at hb
    · exact hb
    · simpa using hb

end

end Sys2Proof.Machine


/-! PROOFS. Functions that change READY and nothing of the estate. -/

namespace Sys2Proof.Machine

@[simp] theorem State.updateReady_estate (sets clears : List Nat) (s : State) : (State.updateReady sets clears s).estate = s.estate := by
  unfold State.updateReady; simp
@[simp] theorem State.readyExact_estate (w : Word32) (s : State) : (State.readyExact w s).estate = s.estate := by
  unfold State.readyExact; simp
@[simp] theorem State.unlock_estate (s : State) : (State.unlock s).estate = s.estate := by
  unfold State.unlock; simp
@[simp] theorem State.enterDr_estate (crit : Nat) (s : State) : (State.enterDr crit s).estate = s.estate := by
  unfold State.enterDr; simp
@[simp] theorem State.enterLocked_estate (s : State) : (State.enterLocked s).estate = s.estate := by
  unfold State.enterLocked; simp
@[simp] theorem State.crossing_estate (period ampFirst ampLast : Nat) (s : State) : (State.crossing period ampFirst ampLast s).estate = s.estate := by
  unfold State.crossing; dsimp only; (repeat' split) <;> simp
@[simp] theorem State.moveOffset_estate (zero pairOff : Int) (s : State) : (State.moveOffset zero pairOff s).estate = s.estate := by
  unfold State.moveOffset; split <;> simp
@[simp] theorem State.relockBoundary_estate (e : Int) (s : State) : (State.relockBoundary e s).estate = s.estate := by
  unfold State.relockBoundary; simp
@[simp] theorem State.merTurn_estate (e : Int) (s : State) : (State.merTurn e s).estate = s.estate := by
  unfold State.merTurn; split <;> simp
@[simp] theorem State.merBoundary_estate (e : Int) (s : State) : (State.merBoundary e s).estate = s.estate := by
  unfold State.merBoundary; simp
@[simp] theorem State.openAlmanac_estate (s : State) : (State.openAlmanac s).estate = s.estate := by
  unfold State.openAlmanac; simp
@[simp] theorem State.refreshWatchdog_estate (s : State) : (State.refreshWatchdog s).estate = s.estate := by
  unfold State.refreshWatchdog; simp
@[simp] theorem State.helmRises_estate (s : State) : (State.helmRises s).estate = s.estate := by
  unfold State.helmRises; simp
@[simp] theorem State.helmApply_estate (late : Nat) (s : State) : (State.helmApply late s).estate = s.estate := by
  unfold State.helmApply; simp
@[simp] theorem State.fgRise_estate (g : Nat) (s : State) : (State.fgRise g s).estate = s.estate := by
  unfold State.fgRise; simp
@[simp] theorem State.downFrame_estate (g seq : Nat) (start : Bool) (s : State) : (State.downFrame g seq start s).estate = s.estate := by
  unfold State.downFrame; simp
@[simp] theorem State.planPublish_estate (s : State) : (State.planPublish s).estate = s.estate := by
  unfold State.planPublish; simp
@[simp] theorem State.takeBits_estate (f : MirrorFrame) (s : State) : (State.takeBits f s).estate = s.estate := by
  unfold State.takeBits; simp
@[simp] theorem State.startUp_estate (cause : Nat) (s : State) : (State.startUp cause s).estate = s.estate := by
  unfold State.startUp; simp

end Sys2Proof.Machine


/-! PROOFS. The predicate through the changes of READY, of the roles and of the services. -/

namespace Sys2Proof.Machine

/-! ### Functions that change READY -/

section
variable {k : Keeper} {s : State} (h : k.Holds s.estate)
include h

@[simp] theorem State.lower_kept {bits : List Nat} : k.Holds (State.lower bits s).estate := by
  unfold State.lower
  dsimp only
  split
  · simpa using h
  · exact Keeper.each (by simpa using h) fun _ _ ht => State.abortFn_kept ht

@[simp] theorem State.recoverLog_kept : k.Holds (State.recoverLog s).estate := by
  unfold State.recoverLog
  extract_lets rs newest ws log l covered s1 s2 gasp bin s3
  have h2 : k.Holds s2.estate := by simpa [s2, s1] using h
  split
  · exact h2
  · simpa [s3, bin] using h2

@[simp] theorem State.nvRecovery_kept {found : Recovery} : k.Holds (State.nvRecovery found s).estate := by
  have hr : k.Holds s.recoverStore.estate := State.recoverStore_kept h
  unfold State.nvRecovery
  generalize s.recoverStore = t at hr
  dsimp only
  split
  · exact h
  · split
    · exact h
    · rename_i v hv
      have ht : k.Holds v.estate := by
        refine State.imageVerified_kept ?_ hv
        split
        · exact hr
        · exact State.restoreBinnacle_kept hr
      split <;> simpa using ht

@[simp] theorem State.closeAlmanac_kept : k.Holds (State.closeAlmanac s).estate := by
  unfold State.closeAlmanac
  split
  · exact State.lower_kept (State.lockAlmanac_kept h)
  · exact h

@[simp] theorem State.crystalCheck_kept {expected : Nat} : k.Holds (State.crystalCheck expected s).estate := by
  have hx : ∀ m : Almanac, m.backup = s.alm.backup → k.Holds (State.estate { s with alm := m }) := fun m hm => by
    rw [State.estate_mk, hm]; exact h
  unfold State.crystalCheck
  extract_lets adv pass fail alm t
  split
  · rw [State.record3_estate]
    exact State.closeAlmanac_kept (hx _ rfl)
  · split
    · rw [State.record3_estate, State.when_estate]
      split
      · rw [State.openAlmanac_estate]
        exact hx _ rfl
      · exact hx _ rfl
    · exact hx _ rfl

@[simp] theorem State.watchdogExpires_kept : k.Holds (State.watchdogExpires s).estate := by
  unfold State.watchdogExpires
  extract_lets last aos out t v
  have hv : k.Holds v.estate := State.lower_kept (by simpa [t] using h)
  split <;> simpa using hv

@[simp] theorem State.fgLost_kept {g cause : Nat} : k.Holds (State.fgLost g cause s).estate := by
  unfold State.fgLost
  dsimp only
  split
  · rw [State.record3_estate]
    exact State.lower_kept (by simpa using h)
  · simpa using h

@[simp] theorem State.upFrame_kept {g seq vfield : Nat} {currents : List Nat} : k.Holds (State.upFrame g seq vfield currents s).estate := by
  unfold State.upFrame
  dsimp only
  split <;> simpa using h

@[simp] theorem State.refreshPorts_kept : k.Holds (State.refreshPorts s).estate := by
  unfold State.refreshPorts
  split
  · exact h
  · simpa using h

@[simp] theorem State.refreshMirror_kept : k.Holds (State.refreshMirror s).estate := by
  unfold State.refreshMirror
  split
  · simpa using h
  · split
    · exact State.lower_kept (by simpa using h)
    · exact h

@[simp] theorem State.commitReady_kept : k.Holds (State.commitReady s).estate := by
  unfold State.commitReady
  extract_lets off t
  have ht : k.Holds t.estate := by
    unfold t
    split
    · exact h
    · exact State.lower_kept h
  split <;> simpa using ht

@[simp] theorem State.refreshEconomy_kept : k.Holds (State.refreshEconomy s).estate := by
  unfold State.refreshEconomy
  dsimp only
  split
  · exact h
  · split
    · rw [State.lowPower_estate]
      have ht : k.Holds (((s.discardPlan 3).chartInterrupt).lower [Rdy.waypoint]).estate := State.lower_kept (by simpa using h)
      exact ht
    · simpa using h

@[simp] theorem State.supplyTo_kept {x : SupplyState} : k.Holds (State.supplyTo x s).estate := by
  unfold State.supplyTo
  dsimp only
  refine State.refreshEconomy_kept ?_
  split <;> simpa using h

@[simp] theorem State.collapse_kept : k.Holds (State.collapse s).estate := by
  unfold State.collapse
  extract_lets ops t nv sup u
  have ht : k.Holds t.estate := by
    unfold t
    split
    · exact State.lockAlmanac_kept h
    · exact h
  have hu : k.Holds u.estate := ht
  split
  · exact State.lastGasp_kept hu
  · exact hu

@[simp] theorem State.railGates_kept {rails : List Nat} {temp0 : Int} : k.Holds (State.railGates rails temp0 s).estate := by
  unfold State.railGates
  extract_lets good sen t
  have ht : k.Holds t.estate := h
  split
  · exact State.closeAlmanac_kept ht
  · split <;> simpa using ht

@[simp] theorem State.senseAll_kept {rails : List Nat} {temps : List Int} {vbat : Option Nat} {iin : Nat} :
    k.Holds (State.senseAll rails temps vbat iin s).estate := by
  unfold State.senseAll
  exact State.railGates_kept (by simpa using h)

@[simp] theorem State.binnacleRestart_kept {kept : Bool} : k.Holds (State.binnacleRestart kept s).estate := by
  have ht : ∀ (r : State) (w : Word32), k.Holds r.estate → k.Holds (State.each [0, 2, 3] State.abortFn (r.readyExact w)).estate :=
    fun r w hr => Keeper.each (f := State.abortFn) (by rw [State.readyExact_estate]; exact hr) fun _ _ hu => State.abortFn_kept hu
  have hd : ∀ t : State, k.Holds t.estate →
      k.Holds (State.estate { t.dropTests with mb.fbBusy := false, alm := t.alm.dropPending }) := fun t ht => by
    have hb : t.dropTests.alm.backup = t.alm.backup := congrArg Estate.backup (State.dropTests_estate t)
    have hk : k.Holds t.dropTests.estate := by simpa using ht
    rw [State.estate_mk]
    exact Keeper.backup (m := t.alm.dropPending.backup) hk (by rw [hb]; exact .refl)
  unfold State.binnacleRestart
  dsimp only
  rw [State.readyExact_estate]
  refine hd _ (ht _ _ ?_)
  split
  · exact h
  · split <;> simpa [Binnacle.restore] using h

@[simp] theorem State.floorApply_kept {late : Nat} : k.Holds (State.floorApply late s).estate := by
  have hg : k.Holds ((s.policyOwners.helmApply late).planPublish.planTake).guardEndsTest.estate := State.guardEndsTest_kept (by simpa using h)
  unfold State.floorApply
  simpa using hg

@[simp] theorem State.slotAction_kept {n late waiting : Nat} {w : SlotWords} : k.Holds (State.slotAction n late waiting w s).estate := by
  unfold State.slotAction
  split
  case h_7 =>
    split
    · exact State.helmSample_kept h
    · simpa using h
  case h_8 =>
    split
    · exact State.floorApply_kept h
    · simpa using h
  all_goals simp [h]

@[simp] theorem State.slotFire_kept {n late waiting : Nat} : k.Holds (State.slotFire n late waiting s).estate := by
  unfold State.slotFire
  dsimp only
  split
  · exact State.afterApply_kept (State.slotAction_kept (by simpa using h))
  · exact h

@[simp] theorem State.turnCounts_kept : k.Holds (State.turnCounts s).estate := by
  unfold State.turnCounts
  extract_lets sen sup t u
  have hu : k.Holds u.estate := by
    unfold u
    rw [State.measureDue_estate]
    split
    · exact h
    · exact State.refreshPorts_kept h
  split <;> simpa using hu

theorem State.swapBinnacle_kept {i : Nat} : k.Holds (State.swapBinnacle i s).estate := by
  have ht : k.Holds (s.slotTo i .trial (s.bin.version i)).estate := State.slotTo_kept h
  unfold State.swapBinnacle
  exact State.binnacleRestart_kept (by simpa using ht)

theorem State.enterSleep_kept (hr : k.OpenRun) : k.Holds (State.enterSleep s).estate := by
  have h1 : ∀ q, k.Holds ((s.saveNow q).2.lowPower 2).estate := fun q => by simpa using State.saveNow_kept h
  have h2 : ∀ (r u : State), k.Holds r.estate → u.estate = r.estate → k.Holds (State.flushLog 80 u).estate := fun r u hr hu =>
    State.flushLog_kept (hu ▸ hr)
  unfold State.enterSleep
  dsimp only
  rw [State.sleepBarrier_estate]
  generalize ht : State.flushLog 80 _ = t
  have hk : k.Holds t.estate := by
    rw [← ht]
    refine h2 (State.lowPower 2 (s.saveNow { typ := 1, key := 0, payload := turnMark s.turn s.alm.count.toNat s.mer.lastMean }).2) _ (h1 _) ?_
    rw [State.estate_mk]
    exact State.updateReady_estate [] (upTo 29) _
  have hi : k.Holds t.chartInterrupt.estate := by simpa using hk
  have hb : t.chartInterrupt.alm.backup = t.alm.backup := congrArg Estate.backup (State.chartInterrupt_estate t)
  have hc : k.Holds (State.estate { t.chartInterrupt with bin.svc := .stopped }) := hr _ _ hi
  rw [State.estate_mk]
  exact Keeper.backup (m := t.alm.kept.backup) hc (hb ▸ .refl)

/-! ### The roles of the pair -/

@[simp] theorem State.busTakes_kept : k.Holds (State.busTakes s).estate := by
  have ht : k.Holds s.refreshPorts.estate := State.refreshPorts_kept h
  unfold State.busTakes
  simpa using ht

end

section
variable {k : Keeper} {s : State}

/-- A predicate that holds with the role taken holds of a standby. -/
theorem State.becomeStandby_kept {cause : Nat} (h : k.Holds { s.estate with role := .standby, current := false }) :
    k.Holds (State.becomeStandby cause s).estate := by
  unfold State.becomeStandby
  dsimp only
  refine State.refreshMirror_kept ?_
  rw [State.roleRecord_estate]
  exact State.leaveFloor_kept h

/-- A predicate that holds with the role taken holds of an active. -/
theorem State.becomeActive_kept {cause : Nat} (h : k.Holds { s.estate with role := .active, takeover := s.now, current := false }) :
    k.Holds (State.becomeActive cause s).estate := by
  unfold State.becomeActive
  extract_lets stale signs seq missed pair fld t t1 t2 t3 t4 plan t5
  have h1 : k.Holds t1.estate := by
    unfold t1
    rw [State.roleRecord_estate]
    exact h
  split
  · exact State.refreshMirror_kept (State.busTakes_kept (by simpa using h1))
  · have h3 : k.Holds t3.estate := by
      simp only [t3, State.resetAllW_estate, State.takeShared_estate]
      split
      · exact State.startStale_kept (by simpa [t2] using h1)
      · simpa [t2] using h1
    have h4 : k.Holds t4.estate := Keeper.each (f := State.sndAbort 7) h3 fun _ _ hu => State.sndAbort_kept hu
    have h5 : k.Holds t5.estate := by
      unfold t5
      rw [State.estate_mk]
      exact h4
    have h6 : k.Holds t5.busTakes.estate := State.busTakes_kept h5
    exact State.refreshMirror_kept (by simpa using h6)

/-- The predicate as it would be of a standby. -/
def Keeper.atStandby (k : Keeper) : Keeper where
  Holds e := k.Holds { e with role := .standby, current := false }
  rewrites h h₁ h₂ h₃ := k.rewrites h h₁ h₂ h₃

theorem State.handOver_kept (h : k.Holds { s.estate with role := .standby, current := false }) :
    k.Holds (State.handOver s).estate := by
  unfold State.handOver
  dsimp only
  refine State.becomeStandby_kept (State.endInterims_kept (k := k.atStandby) ?_)
  have hs : k.atStandby.Holds s.estate := h
  split
  · rename_i n tag _
    rw [← State.finish_estate n tag (s.resp .done) s] at hs
    exact hs
  · exact hs

end

section
variable {k : Keeper} {s : State} (h : k.Holds s.estate) (hp : k.OpenPair)
include h hp

@[simp] theorem State.pairTurn_kept : k.Holds (State.pairTurn s).estate := by
  have hx : ∀ (u : State) (a b c d : Nat), k.Holds u.estate → k.Holds (State.estate { u with
      pair := { u.pair with electTurns := a, noFrameTurns := b, peerActiveTurns := c, noSignTurns := d } }) := fun _ _ _ _ _ hu => hu
  have hv : ∀ u : State, k.Holds u.estate → k.Holds u.peerRecord.refreshMirror.postponeHandover.estate := fun u hu =>
    State.postponeHandover_kept (State.refreshMirror_kept (by simpa using hu))
  have ht : k.Holds s.withdrawnTurn.estate := State.withdrawnTurn_kept h hp
  unfold State.pairTurn
  generalize s.withdrawnTurn = t at ht
  split
  · exact h
  · dsimp only
    rw [State.ite_estate, State.pushTail_estate, ite_self]
    exact hv _ (hx _ _ _ _ _ ht)

theorem State.commitPair_kept {old : State} : k.Holds (State.commitPair old s).estate := by
  unfold State.commitPair
  split
  · split
    · exact h
    · refine State.refreshMirror_kept ?_
      exact hp _ _ _ _ _ _ h
  · split
    · exact State.pairServicesRise_kept h hp
    · refine State.refreshMirror_kept ?_
      exact hp _ _ _ _ _ _ h

@[simp] theorem State.turnServices_kept : k.Holds (State.turnServices s).estate := by
  have hs : k.Holds (s.scheduleRun false).estate := State.scheduleRun_kept h
  unfold State.turnServices
  exact State.pairTurn_kept (by simpa using hs) hp

@[simp] theorem State.turnBoundary_kept {e : Int} : k.Holds (State.turnBoundary e s).estate := by
  have ha : k.Holds s.adcBoundary.estate := by simpa using h
  have hx : ∀ x, k.Holds (State.estate { s.adcBoundary with mer.stamp := x }) := fun _ => ha
  unfold State.turnBoundary
  dsimp only
  split
  · exact h
  · refine State.turnCounts_kept (State.turnServices_kept ?_ hp)
    rw [State.uiChanges_estate, State.sampleFirst_estate, State.slotEffects_estate, State.merBoundary_estate]
    exact hx _

theorem State.effects_kept {old : State} {start : Bool} {lost : Nat × Nat} : k.Holds (State.effects old start lost s).estate := by
  have hm : ∀ t : State, k.Holds t.estate → k.Holds (State.commitPair old t.commitReady.refreshPorts.refreshEconomy).estate := fun t ht =>
    State.commitPair_kept (State.refreshEconomy_kept (State.refreshPorts_kept (State.commitReady_kept ht))) hp
  have hs : ∀ (c : Bool) (t : State), k.Holds t.estate → k.Holds (t.when c State.startTrends).estate := fun c t ht => by
    rw [State.when_estate]
    split
    · exact State.startTrends_kept ht
    · exact ht
  unfold State.effects
  dsimp only
  refine hm _ (hs _ _ ?_)
  cases start
  · simpa using State.commitHelm_kept (by simpa using h)
  · simpa using h

theorem State.servicesBegin_kept : k.Holds (State.servicesBegin s).estate := by
  unfold State.servicesBegin
  extract_lets t bus u plan v
  have ht : k.Holds t.estate := State.commitReady_kept (by simpa using h)
  have hw : k.Holds (State.estate { t with bus.whoIsTurn := t.turn }) := by
    rw [State.estate_mk]
    exact ht
  have hu : k.Holds u.estate := State.scheduleRun_kept (State.refreshPorts_kept hw)
  exact State.pairServicesRise_kept (by simpa [v] using hu) hp

end

section
variable {k : Keeper} {s : State} (h : k.Holds s.estate) (hc : k.OpenCfg)
include h hc

theorem State.servicesDown_kept : k.Holds (State.servicesDown s).estate := by
  have hs : k.Holds s.parkInterims.soundingsStop.estate := State.soundingsStop_kept (by simpa using h)
  have hd : k.Holds s.parkInterims.soundingsStop.dropBankQueue.busStops.i2cStops.chartDown.cfgDown.estate :=
    State.cfgDown_kept (by simpa using hs) hc
  unfold State.servicesDown
  exact State.lower_kept (by simpa using hd)

theorem State.installFrame_kept {f : MirrorFrame} : k.Holds (State.installFrame f s).estate := by
  unfold State.installFrame
  rw [State.takeBits_estate]
  exact State.takeBulk_kept (by simpa using h) hc

theorem State.mirrorFrame_kept (hp : k.OpenPair) {f : MirrorFrame} : k.Holds (State.mirrorFrame f s).estate := by
  have ht : k.Holds ((s.takeHeader f).takeRecords f.whole').strapRecord.estate := by simpa using State.takeHeader_kept h hp
  unfold State.mirrorFrame
  generalize ((s.takeHeader f).takeRecords f.whole').strapRecord = t at ht
  dsimp only
  split
  · exact h
  · refine State.refreshMirror_kept ?_
    rw [State.peerRecord_estate]
    split
    · split
      · exact State.installFrame_kept (State.keepsCurrent_kept ht hp) hc
      · exact ht
    · simpa using ht
    · exact ht

theorem State.serviceFailure_kept (hr : k.OpenRun) {cause core : Nat} : k.Holds (State.serviceFailure cause core s).estate := by
  have hd : k.Holds s.servicesDown.estate := State.servicesDown_kept h hc
  have hx : ∀ (t : State) n, k.Holds t.estate → k.Holds (State.estate { t with
      bin.failures := n, bin.svc := SvcRun.paused, bin.since := t.clock, bin.deliberate := false, svc.restartReason := 5 }) :=
    fun t n ht => hr _ _ ht
  have ha : ∀ t : State, k.Holds t.estate → k.Holds (State.estate { t with bin.autopilot := true }) := fun _ ht => ht
  have hb : ∀ (t : State) x, k.Holds t.estate → k.Holds (State.saveBinnacle { t with bin.svc := x }).estate := fun t x ht => hr _ _ ht
  unfold State.serviceFailure
  generalize hg : s.servicesDown.count 5 1 = t
  have ht : k.Holds t.estate := by rw [← hg]; simpa using hd
  dsimp only
  refine hb _ _ ?_
  generalize hg : State.record3 0 4 0x0005 _ 0 _ = t1
  have h1 : k.Holds t1.estate := by
    rw [← hg, State.record3_estate]
    exact hx _ _ ht
  have h2 : k.Holds (if (s.bin.find false .trial).isSome then t1.trialFails false
      else if cause = 4 then t1.activeRejected else t1).estate := by
    split
    · exact State.trialFails_kept h1
    · split
      · exact State.activeRejected_kept h1
      · exact h1
  generalize (if (s.bin.find false .trial).isSome then t1.trialFails false else if cause = 4 then t1.activeRejected else t1) = t2 at h2
  split
  · exact h2
  · rw [State.record3_estate]
    exact ha _ h2

theorem State.restartServices_kept (hr : k.OpenRun) {reason : Nat} : k.Holds (State.restartServices reason s).estate := by
  have hd : k.Holds s.servicesDown.estate := State.servicesDown_kept h hc
  unfold State.restartServices
  exact hr _ _ hd

theorem State.swapService_kept (hr : k.OpenRun) {i : Nat} : k.Holds (State.swapService i s).estate := by
  have ht : k.Holds (s.slotTo i .trial (s.bin.version i)).estate := State.slotTo_kept h
  unfold State.swapService
  dsimp only
  split
  · exact ht
  · exact State.restartServices_kept ht hc hr

theorem State.resetServices_kept (hr : k.OpenRun) : k.Holds (State.resetServices s).estate :=
  State.restartServices_kept (s := State.saveBinnacle { s with bin.failures := 0 }) h hc hr

theorem State.sramLoss_kept (hr : k.OpenRun) {region item : Nat} : k.Holds (State.sramLoss region item s).estate := by
  unfold State.sramLoss
  split
  · split
    · exact State.serviceFailure_kept h hc hr
    · exact h
  · dsimp only
    split <;> simpa using h
  · simpa using h
  · split <;> simpa using h
  · simpa using h
  · rw [State.restartRecord_estate]
    exact State.binnacleRestart_kept h
  · simpa using h
  · exact h

theorem State.cfgEffect_kept (hp : k.OpenPair) : k.Holds (State.cfgEffect s).estate := by
  unfold State.cfgEffect
  split
  · exact h
  · rename_i p _
    extract_lets x ev was t cfg u v w st y
    have ht : k.Holds t.estate := Keeper.each h fun n u hu => State.cfgSet_kept hu hc
    have hu : k.Holds u.estate := by
      refine State.cfgSet_kept ?_ hc
      exact hc _ _ ht
    have hv : k.Holds v.estate := State.effects_kept (by simpa using hu) hp
    have hw : k.Holds w.estate := by
      unfold w
      split <;> simpa using hv
    have hy : k.Holds y.estate := by
      unfold y
      split <;> simpa using hw
    exact State.runHeld_kept hy hc

end

section
variable {k : Keeper} {s : State} (h : k.Holds s.estate)
include h

@[simp] theorem secWriteBody_kept {r : Req} : k.Holds (secWriteBody r s).1.estate := by
  unfold secWriteBody
  dsimp only
  split
  · simpa using h
  · split <;> rename_i e
    · exact State.refreshPorts_kept (by simpa using State.saveNow_kept_of h e)
    · simpa using State.saveNow_kept_of h e

theorem State.servicesRise_kept (hr : k.OpenRun) (hu : k.OpenUdp) (hn : k.OpenStarts) (hp : k.OpenPair) :
    k.Holds (State.servicesRise s).estate := by
  have hx : ∀ t : State, k.Holds t.estate → k.Holds (State.estate { t with
      bin.svc := SvcRun.running, bin.since := t.clock, bin.servicesSince := t.turn, bin.deliberate := false }) := fun _ ht => hr _ _ ht
  unfold State.servicesRise
  extract_lets first t bin u v
  have ht : k.Holds t.estate := State.serverStart_kept (by simpa using h) hu hn
  have hu : k.Holds u.estate := hx t ht
  have hv : k.Holds v.estate := by
    unfold v
    rw [State.when_estate]
    split
    · simpa using hu
    · exact hu
  refine State.servicesBegin_kept ?_ hp
  rw [State.when_estate]
  split
  · exact State.firstServices_kept hv
  · exact hv

end

/-! ### Resets: the predicate says nothing but of the memories -/

section
variable {k : Keeper} {s : State} (h : k.Holds s.estate) (ho : k.Open)
include h ho

theorem Keeper.Open.all {c : Cfg} {x : SvcRun} {us : List UdpSession} {n : Word16} {r : PairRole} {t : Stamp} {p : Option PeerHeader}
    {cu w : Bool} {m₁ m₂ m₃ : Tbl Byte} (h₁ : Rewritten s.nv.mem m₁) (h₂ : Rewritten s.mb.mem m₂) (h₃ : Rewritten s.alm.backup m₃) :
    k.Holds ⟨c, x, us, n, r, t, p, cu, w, m₁, m₂, m₃⟩ :=
  k.rewrites (ho.starts _ n (ho.udp _ us (ho.run _ x (ho.pair _ r t p cu w (ho.cfg _ c h))))) h₁ h₂ h₃

theorem State.moduleReset_kept {island : Bool} : k.Holds (State.moduleReset island s).estate := by
  unfold State.moduleReset
  rw [State.estate_mk]
  exact Keeper.Open.all h ho .refl .clear .refl

theorem State.powerOff_kept : k.Holds (State.powerOff s).estate := by
  have hm : k.Holds (s.moduleReset false).estate := State.moduleReset_kept h ho
  unfold State.powerOff
  generalize s.moduleReset false = t at hm
  dsimp only
  refine Keeper.each (f := State.groupUnpowered) ?_ fun _ _ hu => by simpa using hu
  rw [State.estate_mk]
  exact Keeper.Open.all hm ho .refl .refl .refl

theorem State.resetModule_kept : k.Holds (State.resetModule s).estate := by
  unfold State.resetModule
  dsimp only
  rw [State.startUp_estate]
  refine State.moduleReset_kept ?_ ho
  split
  · exact h
  · exact h

end

end Sys2Proof.Machine

/-! PROOFS. The predicate through the mailbox operations and the transports. -/

namespace Sys2Proof.Machine

/-- An operation through which a predicate of the memories holds, whatever request it runs for. -/
def OpDef.Stays (d : OpDef) : Prop := ∀ (k : Keeper), k.Open → ∀ (r : Req) (s : State), k.Holds s.estate → k.Holds (d.body r s).1.estate

theorem OpDef.run_kept {k : Keeper} {d : OpDef} {r : Req} {s : State} (hd : d.Stays) (ho : k.Open) (h : k.Holds s.estate) :
    k.Holds (d.run r s).estate := by
  have hb := hd k ho r (s.addFlight d r) (by simp [h])
  unfold OpDef.run
  split <;> rename_i e <;> rw [e] at hb
  · exact hb
  · simpa using hb

theorem serve_kept {k : Keeper} {d : OpDef} {r : Req} {s : State} (hd : d.Stays) (ho : k.Open) (h : k.Holds s.estate) :
    k.Holds (serve d r s).estate := by
  unfold serve; split
  · exact h
  · split
    · simp [h]
    · exact OpDef.run_kept hd ho h

/-- The predicate holds after what follows the answer of RESET or UPDATE_SWAP if it does after the function named (R35, R486). -/
theorem State.postThen_kept {k : Keeper} (ho : k.Open) {r : Req} {f : State → State} {s : State}
    (hf : ∀ t : State, k.Holds t.estate → k.Holds (f t).estate) (h : k.Holds s.estate) : k.Holds (s.postThen r f).1.estate :=
  hf _ (State.postNext_kept (by simpa using h) ho.udp)

theorem opLogRead_stays : opLogRead.Stays := fun _ _ _ _ h => by simp [opLogRead, h]
theorem opLogAck_stays : opLogAck.Stays := fun _ _ _ _ h => by simp [opLogAck, h]
theorem opConcordRead_stays : opConcordRead.Stays := fun _ _ _ _ h => by simp [opConcordRead, h]
theorem opSlotRead_stays : opSlotRead.Stays := fun _ _ _ _ h => by simp [opSlotRead, h]
theorem opSlotWrite_stays : opSlotWrite.Stays := fun _ _ _ _ h => by simp [opSlotWrite, h]
theorem opSheafRead_stays : opSheafRead.Stays := fun _ ho _ _ h => whileFree_kept h ho.cfg (by simpa using h)
theorem opAlmanacRead_stays : opAlmanacRead.Stays := fun _ _ _ _ h => by simp [opAlmanacRead, h]
theorem opAlmanacWrite_stays : opAlmanacWrite.Stays := fun _ _ _ _ h => by
  simpa [opAlmanacWrite, Almanac.enqueue_backup] using h
theorem opAlmanacTrim_stays : opAlmanacTrim.Stays := fun _ _ _ _ h => by simpa [opAlmanacTrim, Almanac.writeTrim_backup] using h
theorem opAlmanacAlarm_stays : opAlmanacAlarm.Stays := fun _ _ _ _ h => by
  simpa [opAlmanacAlarm, Almanac.enqueue_backup] using h
theorem opBackupRead_stays : opBackupRead.Stays := fun _ _ _ _ h => by simp [opBackupRead, h]
theorem opBackupWrite_stays : opBackupWrite.Stays := fun _ _ _ _ h => Keeper.backup h (.write .refl _ _)
theorem opAoForce_stays : opAoForce.Stays := fun _ _ _ _ h => by simp [opAoForce, h]
theorem opAgoForce_stays : opAgoForce.Stays := fun _ _ _ _ h => by simp [opAgoForce, h]
theorem opAoRead_stays : opAoRead.Stays := fun _ _ _ _ h => by simp [opAoRead, h]
theorem opAgoRead_stays : opAgoRead.Stays := fun _ _ _ _ h => by simp [opAgoRead, h]
theorem opZoneStatus_stays : opZoneStatus.Stays := fun _ _ _ _ h => by simp [opZoneStatus, h]
theorem opSignalRead_stays : opSignalRead.Stays := fun _ _ _ _ h => by simp [opSignalRead, h]
theorem opSignalWrite_stays : opSignalWrite.Stays := fun _ _ _ _ h => by simp [opSignalWrite, h]
theorem opHostInputWrite_stays : opHostInputWrite.Stays := fun _ _ _ _ h => by simp [opHostInputWrite, h]
theorem opHelmRead_stays : opHelmRead.Stays := fun _ _ _ _ h => by dsimp only [opHelmRead]; split <;> simp [h]
theorem opHelmWrite_stays : opHelmWrite.Stays := fun _ _ _ _ h => by dsimp only [opHelmWrite]; (repeat' split) <;> simp [h]
theorem opBankCopy_stays : opBankCopy.Stays := fun _ _ _ _ h => by simp [opBankCopy, h]
theorem opBankSwap_stays : opBankSwap.Stays := fun _ _ _ _ h => by simp [opBankSwap, h]
theorem opHelmDiag_stays : opHelmDiag.Stays := fun _ _ _ _ h => by dsimp only [opHelmDiag]; (repeat' split) <;> simp [h]
theorem opChartWrite_stays : opChartWrite.Stays := fun _ _ _ _ h => by dsimp only [opChartWrite]; split <;> simp [h]
theorem opChartStatus_stays : opChartStatus.Stays := fun _ _ _ _ h => by simp [opChartStatus, h]
theorem opSoundStart_stays : opSoundStart.Stays := fun k _ _ _ h => by
  dsimp only [opSoundStart]
  generalize ht : State.endInterims _ _ _ _ _ = t
  have hk : k.Holds t.estate := by
    rw [← ht]
    refine State.endInterims_kept ?_
    exact h
  (repeat' split) <;> simp [h, hk]
theorem opModeWrite_stays : opModeWrite.Stays := fun _ _ _ _ h => State.writeMode_kept h
theorem opSoundAbort_stays : opSoundAbort.Stays := fun _ _ _ _ h => by simp [opSoundAbort, h]
theorem opSoundStatus_stays : opSoundStatus.Stays := fun _ _ _ _ h => by simp [opSoundStatus, h]
theorem opSoundCapture_stays : opSoundCapture.Stays := fun _ _ _ _ h => by simp [opSoundCapture, h]
theorem opSoundResult_stays : opSoundResult.Stays := fun _ _ _ _ h => by simp [opSoundResult, h]
theorem opSoundDeliver_stays : opSoundDeliver.Stays := fun _ _ _ _ h => by simp [opSoundDeliver, h]
theorem opFcRead_stays : opFcRead.Stays := fun _ _ _ _ h => by simp [opFcRead, h]
theorem opFcEdgeRead_stays : opFcEdgeRead.Stays := fun _ _ _ _ h => by simp [opFcEdgeRead, h]
theorem opFcForce_stays : opFcForce.Stays := fun _ _ _ _ h => by simp [opFcForce, h]
theorem opFcClear_stays : opFcClear.Stays := fun _ _ _ _ h => by simp [opFcClear, h]
theorem opUiRead_stays : opUiRead.Stays := fun _ _ _ _ h => by simp [opUiRead, h]
theorem opUiCalibrate_stays : opUiCalibrate.Stays := fun _ _ _ _ h => by dsimp only [opUiCalibrate]; (repeat' split) <;> simp [h]
theorem opI2cRead_stays : opI2cRead.Stays := fun _ _ _ _ h => by simp [opI2cRead, h]
theorem opPortStatus_stays : opPortStatus.Stays := fun _ _ _ _ h => by simp [opPortStatus, h]
theorem opPartnerList_stays : opPartnerList.Stays := fun _ _ _ _ h => by simp [opPartnerList, h]
theorem opBindRead_stays : opBindRead.Stays := fun _ _ _ _ h => by simp [opBindRead, h]
theorem opSvcReadProperty_stays : opSvcReadProperty.Stays := fun _ _ _ _ h => by dsimp only [opSvcReadProperty]; split <;> simp [h]
theorem opSvcWriteProperty_stays : opSvcWriteProperty.Stays := fun _ _ _ _ h => by
  dsimp only [opSvcWriteProperty]
  split <;> simp [State.writeProp_kept_of h ‹_›]
theorem opSvcTimeSet_stays : opSvcTimeSet.Stays := fun _ _ _ _ h => by dsimp only [opSvcTimeSet]; split <;> simp [h]
theorem opSvcTimeRead_stays : opSvcTimeRead.Stays := fun _ _ _ _ h => by simp [opSvcTimeRead, h]
theorem opPolicyRead_stays : opPolicyRead.Stays := fun _ _ _ _ h => by simp [opPolicyRead, h]
theorem opOccRead_stays : opOccRead.Stays := fun _ _ _ _ h => by dsimp only [opOccRead]; split <;> simp [h]
theorem opWpForecast_stays : opWpForecast.Stays := fun _ _ _ _ h => by simp [opWpForecast, h]
theorem opWpTariff_stays : opWpTariff.Stays := fun _ _ _ _ h => by simp [opWpTariff, h]
theorem opWpReplan_stays : opWpReplan.Stays := fun _ _ _ _ h => by simp [opWpReplan, h]
theorem opWpStatus_stays : opWpStatus.Stays := fun _ _ _ _ h => by simp [opWpStatus, h]
theorem opWpTrajectory_stays : opWpTrajectory.Stays := fun _ _ _ _ h => by dsimp only [opWpTrajectory]; split <;> simp [h]
theorem opCfgBegin_stays : opCfgBegin.Stays := fun _ ho _ _ h => whileFree_kept h ho.cfg (State.cfgBegin_kept h ho.cfg)
theorem opCfgWrite_stays : opCfgWrite.Stays := fun _ ho _ _ h => whileFree_kept h ho.cfg (State.cfgWrite_kept h ho.cfg)
theorem opCfgCommit_stays : opCfgCommit.Stays := fun _ ho _ _ h => whileFree_kept h ho.cfg (State.cfgCommit_kept h ho.cfg)
theorem opCfgInfo_stays : opCfgInfo.Stays := fun _ ho _ _ h => whileFree_kept h ho.cfg (by simpa using h)
theorem opCfgRead_stays : opCfgRead.Stays := fun _ ho _ _ h => whileFree_kept h ho.cfg (by
  dsimp only
  split <;> simpa using h)
theorem opClampRead_stays : opClampRead.Stays := fun _ ho _ _ h => whileFree_kept h ho.cfg (by simpa using h)
theorem opPairStatus_stays : opPairStatus.Stays := fun _ _ _ _ h => by simp [opPairStatus, h]
theorem opPairHandover_stays : opPairHandover.Stays := fun k _ _ s h =>
  have hx : ∀ w t, k.Holds (State.estate { s with pair.handover := w, pair.handoverAt := t }) := fun _ _ => h
  hx _ _
theorem opTillerRead_stays : opTillerRead.Stays := fun _ _ _ _ h => by simp [opTillerRead, h]
theorem opTillerState_stays : opTillerState.Stays := fun _ _ _ _ h => by simp [opTillerState, h]
theorem opSensorRead_stays : opSensorRead.Stays := fun _ _ _ _ h => by simp [opSensorRead, h]
theorem opSelftest_stays : opSelftest.Stays := fun _ _ _ _ h => by simp [opSelftest, h]
theorem opUpdateBegin_stays : opUpdateBegin.Stays := fun _ _ _ _ h => by dsimp only [opUpdateBegin]; (repeat' split) <;> simp [h]
theorem opUpdateWrite_stays : opUpdateWrite.Stays := fun _ _ _ _ h => by
  dsimp only [opUpdateWrite]
  split
  · exact h
  · split
    · exact h
    · refine Keeper.nv ?_ (Nv.storeBytes_rewritten .refl _ _)
      split
      · exact h
      · exact State.slotTo_kept h
theorem opUpdateVerify_stays : opUpdateVerify.Stays := fun _ _ _ _ h => by dsimp only [opUpdateVerify]; split <;> simp [h]
theorem opUpdateStatus_stays : opUpdateStatus.Stays := fun _ _ _ _ h => by simp [opUpdateStatus, h]
theorem opUpdateSwap_stays : opUpdateSwap.Stays := fun _ ho _ _ h => by
  dsimp only [opUpdateSwap]
  split
  · simp [h]
  · split
    · simp [h]
    · refine State.postThen_kept ho (fun t ht => ?_) h
      split
      · exact State.swapBinnacle_kept ht
      · exact State.swapService_kept ht ho.cfg ho.run
theorem opReset_stays : opReset.Stays := fun _ ho _ _ h => by
  dsimp only [opReset]
  refine State.postThen_kept ho (fun t ht => ?_) h
  split
  · exact State.resetServices_kept ht ho.cfg ho.run
  · exact State.resetModule_kept ht ho
theorem opBarrier_stays : opBarrier.Stays := fun _ _ _ _ h => by simp [opBarrier, h]
theorem opIdentify_stays : opIdentify.Stays := fun _ _ _ _ h => by simp [opIdentify, h]
theorem opSessionOpen_stays : opSessionOpen.Stays := fun _ ho _ _ h => openBody_kept h ho.udp
theorem opSessionProve_stays : opSessionProve.Stays := fun _ ho _ _ h => proveBody_kept h ho.udp
theorem opSessionClose_stays : opSessionClose.Stays := fun _ ho _ _ h => State.setSession_kept h ho.udp
theorem opSecWrite_stays : opSecWrite.Stays := fun _ _ _ _ h => by simp [opSecWrite, h]
theorem opSecInfo_stays : opSecInfo.Stays := fun _ _ _ _ h => by simp [opSecInfo, h]
theorem opEventRead_stays : opEventRead.Stays := fun _ _ _ _ h => by simp [opEventRead, h]
theorem opEventStatus_stays : opEventStatus.Stays := fun _ _ _ _ h => by simp [opEventStatus, h]

/-- The predicate holds through every operation of the opcode tables. -/
theorem opTable_stays {d : OpDef} (h : d ∈ opTable) : d.Stays := by
  simp only [opTable, List.cons_append, List.nil_append, List.mem_cons, List.not_mem_nil, or_false] at h
  rcases h with rfl | rfl | rfl | rfl | rfl | rfl | rfl | rfl | rfl | rfl | rfl | rfl | rfl | rfl | rfl | rfl | rfl | rfl | rfl | rfl | rfl |
    rfl | rfl | rfl | rfl | rfl | rfl | rfl | rfl | rfl | rfl | rfl | rfl | rfl | rfl | rfl | rfl | rfl | rfl | rfl | rfl | rfl |
    rfl | rfl | rfl | rfl | rfl | rfl | rfl | rfl | rfl | rfl | rfl | rfl | rfl | rfl | rfl | rfl | rfl | rfl | rfl | rfl | rfl |
    rfl | rfl | rfl | rfl | rfl | rfl | rfl | rfl | rfl | rfl | rfl | rfl | rfl | rfl | rfl | rfl | rfl | rfl | rfl
  · exact opAlmanacRead_stays
  · exact opAlmanacWrite_stays
  · exact opAlmanacTrim_stays
  · exact opAlmanacAlarm_stays
  · exact opBackupRead_stays
  · exact opBackupWrite_stays
  · exact opHelmRead_stays
  · exact opHelmWrite_stays
  · exact opBankCopy_stays
  · exact opBankSwap_stays
  · exact opHelmDiag_stays
  · exact opSensorRead_stays
  · exact opSelftest_stays
  · exact opPortStatus_stays
  · exact opPartnerList_stays
  · exact opBindRead_stays
  · exact opCfgBegin_stays
  · exact opCfgWrite_stays
  · exact opCfgCommit_stays
  · exact opCfgInfo_stays
  · exact opCfgRead_stays
  · exact opClampRead_stays
  · exact opChartWrite_stays
  · exact opChartStatus_stays
  · exact opConcordRead_stays
  · exact opFcRead_stays
  · exact opFcEdgeRead_stays
  · exact opFcForce_stays
  · exact opFcClear_stays
  · exact opI2cRead_stays
  · exact opLogRead_stays
  · exact opLogAck_stays
  · exact opSlotRead_stays
  · exact opSlotWrite_stays
  · exact opSheafRead_stays
  · exact opOccRead_stays
  · exact opAoForce_stays
  · exact opAgoForce_stays
  · exact opAoRead_stays
  · exact opAgoRead_stays
  · exact opPairStatus_stays
  · exact opPairHandover_stays
  · exact opPolicyRead_stays
  · exact opSvcReadProperty_stays
  · exact opSvcWriteProperty_stays
  · exact opSvcTimeSet_stays
  · exact opSvcTimeRead_stays
  · exact opSoundStart_stays
  · exact opModeWrite_stays
  · exact opSoundAbort_stays
  · exact opSoundStatus_stays
  · exact opSoundCapture_stays
  · exact opSoundResult_stays
  · exact opSoundDeliver_stays
  · exact opTillerRead_stays
  · exact opTillerState_stays
  · exact opUiRead_stays
  · exact opUiCalibrate_stays
  · exact opUpdateBegin_stays
  · exact opUpdateWrite_stays
  · exact opUpdateVerify_stays
  · exact opUpdateStatus_stays
  · exact opUpdateSwap_stays
  · exact opReset_stays
  · exact opWpForecast_stays
  · exact opWpTariff_stays
  · exact opWpReplan_stays
  · exact opWpStatus_stays
  · exact opWpTrajectory_stays
  · exact opZoneStatus_stays
  · exact opSignalRead_stays
  · exact opSignalWrite_stays
  · exact opHostInputWrite_stays
  · exact opBarrier_stays
  · exact opIdentify_stays
  · exact opSessionOpen_stays
  · exact opSessionProve_stays
  · exact opSessionClose_stays
  · exact opSecWrite_stays
  · exact opSecInfo_stays
  · exact opEventRead_stays
  · exact opEventStatus_stays

theorem opNamed_stays {cls opcode : Nat} {d : OpDef} (h : opNamed cls opcode = some d) : d.Stays :=
  opTable_stays (List.mem_of_find?_eq_some h)

theorem headerCheck_stays {session : Nat} {unread : Bool} {bs : List Byte} {d : OpDef}
    (h : headerCheck session unread bs = .inr d) : d.Stays := by
  unfold headerCheck at h
  (repeat' split at h) <;> cases h
  exact opNamed_stays ‹_›

/-! ### Transports -/

section
variable {k : Keeper} {s : State} (h : k.Holds s.estate) (ho : k.Open)
include h ho

theorem State.deliver_kept {session : Nat} {unread : Bool} {bs : List Byte} :
    k.Holds (State.deliver session unread bs s).estate := by
  unfold State.deliver; split
  · simp [h]
  · exact serve_kept (headerCheck_stays ‹_›) ho h
theorem State.offer_kept {session : Nat} {bs : List Byte} : k.Holds (State.offer session bs s).estate := by
  unfold State.offer
  split
  · exact h
  · exact State.deliver_kept h ho
theorem State.offerWaiting_kept : k.Holds (State.offerWaiting s).estate := by
  unfold State.offerWaiting
  refine Keeper.each ?_ fun w t ht => State.offer_kept ht ho
  exact h
theorem State.requestAccept_kept : k.Holds (State.requestAccept s).estate := by
  unfold State.requestAccept
  dsimp only
  split
  · exact h
  · exact State.deliver_kept (by simpa using h) ho
theorem State.responsePost_kept {n : Nat} : k.Holds (State.responsePost n s).estate := by
  have hp : k.Holds (s.postNext n).estate := State.postNext_kept h ho.udp
  unfold State.responsePost
  dsimp only
  split
  · exact h
  · split
    · exact h
    · refine State.offerWaiting_kept ?_ ho
      split
      · exact State.closeUdp_kept hp ho.udp
      · exact hp
theorem State.writeDoorbell_kept {value : Nat} : k.Holds (State.writeDoorbell value s).estate := by
  unfold State.writeDoorbell
  split
  · exact h
  · refine State.deliver_kept ?_ ho
    exact h
theorem State.writeRegister_kept {off value : Nat} : k.Holds (State.writeRegister off value s).estate := by
  have hd : k.Holds (s.writeDoorbell value).estate := State.writeDoorbell_kept h ho
  unfold State.writeRegister
  simp [h, hd]
theorem State.writeWindow_kept {addr : Nat} {bytes : List Byte} : k.Holds (State.writeWindow addr bytes s).estate := by
  unfold State.writeWindow; dsimp only; split
  · exact Keeper.each h fun w t ht => State.writeRegister_kept ht ho
  · simp [h]
theorem State.udpOutside_kept {ip port : Nat} {bs : List Byte} : k.Holds (State.udpOutside ip port bs s).estate := by
  have hu : ∀ p, k.Holds (s.openUdp ip port p).1.estate := fun _ => State.openUdp_kept h ho.udp
  unfold State.udpOutside
  dsimp only
  (repeat' split) <;> simp [h, hu]
theorem State.udpInside_kept {u : UdpSession} {ip port : Nat} {d : List Byte} :
    k.Holds (State.udpInside u ip port d s).estate := by
  unfold State.udpInside
  dsimp only
  split
  · exact h
  · split
    · simpa using h
    · split
      · exact h
      · refine State.offer_kept ?_ ho
        exact ho.udp _ _ h

end


end Sys2Proof.Machine

/-! PROOFS. A predicate of the memories holds through every command: one lemma per command that no request asks for; a requested one is
served. -/

namespace Sys2Proof.Machine

/-- An outcome whose next state, if it has one, meets the predicate. -/
def KeptBy (k : Keeper) (o : Host.Outcome State Fault Refusal) : Prop := ∀ t, o = .next t → k.Holds t.estate

@[simp] theorem keptBy_next {k : Keeper} {t : State} : KeptBy k (.next t) ↔ k.Holds t.estate :=
  ⟨fun h => h t rfl, fun h u hu => by cases hu; exact h⟩

theorem Keeper.guard {k : Keeper} {c : Prop} [Decidable c] {t u : State} (ht : k.Holds t.estate) (hu : k.Holds u.estate) :
    k.Holds (if c then u else t).estate := by
  split
  · exact hu
  · exact ht

/-- A command that does something only under its condition. -/
theorem KeptBy.guard {k : Keeper} {c : Prop} [Decidable c] {t u : State} (ht : k.Holds t.estate) (hu : k.Holds u.estate) :
    KeptBy k (.next (if c then u else t)) := keptBy_next.mpr (Keeper.guard ht hu)

theorem State.advance_kept {k : Keeper} {a : At} {s : State} (h : k.Holds s.estate) : k.Holds (s.advance a).estate := by simpa using h

/-- A BACnet service takes effect through its own function, or only takes the frame from its port (R302, R344). -/
theorem State.bacnet_kept {k : Keeper} {p : Nat} {f : State → State} {s : State}
    (hf : ∀ t : State, k.Holds t.estate → k.Holds (f t).estate) (h : k.Holds s.estate) : k.Holds (State.bacnet p f s).estate := by
  unfold State.bacnet; dsimp only; split
  · split
    · exact hf _ (by simp [h])
    · simp [h]
  · exact h

theorem State.bacnetAlways_kept {k : Keeper} {p : Nat} {f : State → State} {s : State}
    (hf : ∀ t : State, k.Holds t.estate → k.Holds (f t).estate) (h : k.Holds s.estate) : k.Holds (State.bacnetAlways p f s).estate := by
  unfold State.bacnetAlways; dsimp only; split
  · split
    · simp [h]
    · exact hf _ (by simp [h])
  · exact h

/-- A host access to the window takes effect through its own function or not at all (R374). -/
theorem State.window_kept {k : Keeper} {f : State → State} {s : State}
    (hf : ∀ t : State, k.Holds t.estate → k.Holds (f t).estate) (h : k.Holds s.estate) : k.Holds (State.window f s).estate := by
  unfold State.window; split
  · exact hf s h
  · exact h

theorem State.notifyOne_estate (n : Note) (r : Recipient) (x : State × Nat) : (State.notifyOne n r x).1.estate = x.1.estate := by
  unfold State.notifyOne; dsimp only; split
  · rfl
  · split <;> simp

theorem State.notifyEach_estate (n : Note) (rs : List Recipient) (x : State × Nat) :
    (rs.foldl (fun y r => State.notifyOne n r y) x).1.estate = x.1.estate := by
  induction rs generalizing x with
  | nil => rfl
  | cons r rs ih => rw [List.foldl_cons, ih, State.notifyOne_estate]

/-- A run of registers written performs its items one after another (R315, R316). -/
theorem State.mbWrite_kept {k : Keeper} {addr limit : Nat} {values : List Nat} {s t : State} (h : k.Holds s.estate)
    (ht : s.mbWrite addr limit values = .ok t) : k.Holds t.estate := by
  unfold State.mbWrite at ht
  (repeat' split at ht) <;> cases ht
  exact Keeper.each h fun x t hx => State.mbPerform_kept hx

theorem State.mbServe_kept {k : Keeper} {fn addr count waddr : Nat} {values d : List Nat} {s t : State} (hs : k.Holds s.estate)
    (h : s.mbServe fn addr count waddr values = .ok (t, d)) : k.Holds t.estate := by
  unfold State.mbServe at h
  split at h
  · (repeat' split at h) <;> cases h
    exact hs
  · obtain ⟨_, -, hx⟩ := Except.map_eq_ok h; cases hx; exact hs
  · obtain ⟨_, -, hx⟩ := Except.map_eq_ok h; cases hx; exact hs
  · obtain ⟨_, hw, hx⟩ := Except.map_eq_ok h; cases hx; exact State.mbWrite_kept hs hw
  · obtain ⟨_, hw, hx⟩ := Except.map_eq_ok h; cases hx; exact State.mbWrite_kept hs hw
  · split at h
    · cases h
    · obtain ⟨_, -, hx⟩ := Except.map_eq_ok h; cases hx; exact State.mbWrite_kept hs ‹_›
  · cases h

theorem keptBy_serve {k : Keeper} {d : OpDef} {a : At} {r : Req} {s : State} (hd : d.Stays) (ho : k.Open) (h : k.Holds s.estate) :
    KeptBy k (.next (serve d r (s.advance a))) := keptBy_next.mpr (serve_kept hd ho (by simpa using h))

/-- A write of an Almanac register writes BACKUP at most (R551, R555). -/
theorem Almanac.writeReg_rewritten (m : Almanac) (off v : Nat) : Rewritten m.backup (m.writeReg off v).backup := by
  unfold Almanac.writeReg
  (repeat' split) <;> simp [Almanac.writeTrim_backup, Rewritten.refl]
  exact .write .refl _ _

/-! ### Commands -/

section
variable {k : Keeper} {s : State} (h : k.Holds s.estate)
include h

theorem execLogbookWrite_keptBy {a : At} : KeptBy k (execLogbookWrite a s) := by
  unfold execLogbookWrite; simp [h]
theorem execLogbookRecordRaised_keptBy {a : At} {source severity code : Nat} {payload : List Byte} {posts : Bool} {target : Nat} :
    KeptBy k (execLogbookRecordRaised a source severity code payload posts target s) := by
  unfold execLogbookRecordRaised; simp [h]
theorem execLogbookRecovery_keptBy {a : At} : KeptBy k (execLogbookRecovery a s) := by
  unfold execLogbookRecovery; simp [h]
theorem execFittedCrossing_keptBy {a : At} {period ampFirst ampLast : Nat} :
    KeptBy k (execFittedCrossing a period ampFirst ampLast s) := by
  unfold execFittedCrossing; dsimp only; split <;> simp [h]
theorem execFitUpdate_keptBy {a : At} {hz amp toEnd : Nat} : KeptBy k (execFitUpdate a hz amp toEnd s) := by
  unfold execFitUpdate; simp [h]
theorem execLossDetection_keptBy {a : At} : KeptBy k (execLossDetection a s) := by
  unfold execLossDetection; simp [h]
theorem execTurnMark_keptBy {a : At} : KeptBy k (execTurnMark a s) := by
  unfold execTurnMark; simp [h]
theorem execConcordanceLogPeriod_keptBy {a : At} : KeptBy k (execConcordanceLogPeriod a s) := by
  unfold execConcordanceLogPeriod; simp [h]
theorem execJournaledPageOperation_keptBy {a : At} {fate : JrnFate} : KeptBy k (execJournaledPageOperation a fate s) := by
  unfold execJournaledPageOperation; simp [h]
theorem execSheafAddition_keptBy {a : At} {cut : Bool} : KeptBy k (execSheafAddition a cut s) := by
  unfold execSheafAddition; simp [h]
theorem execRecordWrite_keptBy {a : At} : KeptBy k (execRecordWrite a s) := by
  unfold execRecordWrite; simp [h]
theorem execCompaction_keptBy {a : At} : KeptBy k (execCompaction a s) := by
  unfold execCompaction; simp [h]
theorem execMramScrubStep_keptBy {a : At} {corrected bad : List Nat} : KeptBy k (execMramScrubStep a corrected bad s) := by
  unfold execMramScrubStep; simp [h]
theorem execNvRecovery_keptBy {a : At} {found : Recovery} : KeptBy k (execNvRecovery a found s) := by
  unfold execNvRecovery; simp [h]
theorem execAlarm_keptBy {a : At} {n : Nat} : KeptBy k (execAlarm a n s) := by
  unfold execAlarm; simp [h]
theorem execWrapped_keptBy {a : At} : KeptBy k (execWrapped a s) := by
  unfold execWrapped; dsimp only; (repeat' split) <;> simp [h]
theorem execPowerLost_keptBy {a : At} : KeptBy k (execPowerLost a s) := by
  unfold execPowerLost; simp [h]
theorem execAlmanacCommitEdge_keptBy {a : At} : KeptBy k (execAlmanacCommitEdge a s) := keptBy_next.mpr (State.commitEdge_kept (State.advance_kept h))
theorem execCountLoRead_keptBy {a : At} : KeptBy k (execCountLoRead a s) := by
  unfold execCountLoRead; simp [h]
theorem execCountLoWrite_keptBy {a : At} {lo : Nat} : KeptBy k (execCountLoWrite a lo s) := by
  unfold execCountLoWrite; simp [h]
theorem execAlarmLoWrite_keptBy {a : At} {n lo : Nat} : KeptBy k (execAlarmLoWrite a n lo s) := by
  unfold execAlarmLoWrite; simp [h]
theorem execTrimPeriodStart_keptBy {a : At} : KeptBy k (execTrimPeriodStart a s) := by
  unfold execTrimPeriodStart; simp [h]
theorem execAlmanacCrystalCheck_keptBy {a : At} {expected : Nat} : KeptBy k (execAlmanacCrystalCheck a expected s) := by
  unfold execAlmanacCrystalCheck; simp [h]
theorem execDomainPowerOn_keptBy {a : At} : KeptBy k (execDomainPowerOn a s) := by
  unfold execDomainPowerOn; simp [h]
theorem execAoWatchdogRefresh_keptBy {a : At} : KeptBy k (execAoWatchdogRefresh a s) := by
  unfold execAoWatchdogRefresh; dsimp only; split <;> simp [h]
theorem execWatchdog_keptBy {a : At} : KeptBy k (execWatchdog a s) := by
  unfold execWatchdog; dsimp only; split <;> simp [h]
theorem execAoMonitorSample_keptBy {a : At} {readings : List (Nat × Int × Bool)} : KeptBy k (execAoMonitorSample a readings s) := by
  unfold execAoMonitorSample; simp [h]
theorem execForceDurationEnd_keptBy {a : At} {kind n : Nat} : KeptBy k (execForceDurationEnd a kind n s) := by
  unfold execForceDurationEnd; dsimp only; split <;> simp [h]
theorem execHostValueSave_keptBy {a : At} : KeptBy k (execHostValueSave a s) := by
  unfold execHostValueSave; simp [h]
theorem execBankCopyComplete_keptBy {a : At} : KeptBy k (execBankCopyComplete a s) := by
  unfold execBankCopyComplete; dsimp only; split <;> simp [h]
theorem execBankSave_keptBy {a : At} : KeptBy k (execBankSave a s) := by
  unfold execBankSave; simp [h]
theorem execEpaperUpdateStart_keptBy {a : At} : KeptBy k (execEpaperUpdateStart a s) := by
  unfold execEpaperUpdateStart; simp [h]
theorem execEpaperFrame_keptBy {a : At} : KeptBy k (execEpaperFrame a s) := by
  unfold execEpaperFrame; dsimp only; (repeat' split) <;> simp [h]
theorem execEpaperUpdateEnd_keptBy {a : At} : KeptBy k (execEpaperUpdateEnd a s) := by
  unfold execEpaperUpdateEnd; dsimp only; (repeat' split) <;> simp [h]
theorem execCompensationStart_keptBy {a : At} : KeptBy k (execCompensationStart a s) := by
  unfold execCompensationStart; dsimp only; (repeat' split) <;> simp [h]
theorem execCompensated_keptBy {a : At} : KeptBy k (execCompensated a s) := by
  unfold execCompensated; simp [h]
theorem execChartReadback_keptBy {a : At} {levels : List Int} : KeptBy k (execChartReadback a levels s) := by
  unfold execChartReadback; simp [h]
theorem execSoundSettled_keptBy {a : At} {z : Nat} : KeptBy k (execSoundSettled a z s) := by
  unfold execSoundSettled; simp [h]
theorem execSoundCaptured_keptBy {a : At} {z : Nat} : KeptBy k (execSoundCaptured a z s) := by
  unfold execSoundCaptured; simp [h]
theorem execSoundAborted_keptBy {a : At} {z cause : Nat} : KeptBy k (execSoundAborted a z cause s) := by
  unfold execSoundAborted; simp [h]
theorem execEdgeAccepted_keptBy {a : At} {n : Nat} {on : Bool} {ago : Nat} {current : Option Nat} :
    KeptBy k (execEdgeAccepted a n on ago current s) := by
  unfold execEdgeAccepted; dsimp only; (repeat' split) <;> simp [h]
theorem execEdgeLost_keptBy {a : At} {n : Nat} : KeptBy k (execEdgeLost a n s) := by
  unfold execEdgeLost; simp [h]
theorem execFreqGate_keptBy {a : At} {n : Nat} : KeptBy k (execFreqGate a n s) := by
  unfold execFreqGate; simp [h]
theorem execBarrierFrame_keptBy {a : At} {g : Nat} {up start crcOk : Bool} {seq vfield : Nat} {currents : List Nat} :
    KeptBy k (execBarrierFrame a g up start crcOk seq vfield currents s) := by
  unfold execBarrierFrame; simp [h]
theorem execUplinkTimeout_keptBy {a : At} {g : Nat} : KeptBy k (execUplinkTimeout a g s) := by
  unfold execUplinkTimeout; dsimp only; split <;> simp [h]
theorem execBarrierTimeout_keptBy {a : At} {g : Nat} : KeptBy k (execBarrierTimeout a g s) := by
  unfold execBarrierTimeout; dsimp only; (repeat' split) <;> simp [h]
theorem execBarrierPowerChange_keptBy {a : At} {g : Nat} {on : Bool} : KeptBy k (execBarrierPowerChange a g on s) := by
  unfold execBarrierPowerChange; dsimp only; (repeat' split) <;> simp [h]
theorem execVfieldChange_keptBy {a : At} {g v : Nat} : KeptBy k (execVfieldChange a g v s) := by
  unfold execVfieldChange; dsimp only; (repeat' split) <;> simp [h]
theorem execVfieldUv_keptBy {a : At} {g v : Nat} : KeptBy k (execVfieldUv a g v s) := by
  unfold execVfieldUv; dsimp only; (repeat' split) <;> simp [h]
theorem execParameterBlockApplied_keptBy {a : At} {g : Nat} {crcOk : Bool} : KeptBy k (execParameterBlockApplied a g crcOk s) := by
  unfold execParameterBlockApplied; simp [h]
theorem execResume_keptBy {a : At} {g : Nat} : KeptBy k (execResume a g s) := by
  unfold execResume; simp [h]
theorem execBarrierDelayMeasurement_keptBy {a : At} {g ns : Nat} : KeptBy k (execBarrierDelayMeasurement a g ns s) := by
  unfold execBarrierDelayMeasurement; simp [h]
theorem execTpoOffEdge_keptBy {a : At} {n : Nat} : KeptBy k (execTpoOffEdge a n s) := by
  unfold execTpoOffEdge; simp [h]
theorem execOverload_keptBy {a : At} {n : Nat} : KeptBy k (execOverload a n s) := by
  unfold execOverload; simp [h]
theorem execThermal_keptBy {a : At} {n : Nat} : KeptBy k (execThermal a n s) := by
  unfold execThermal; simp [h]
theorem execGroupOverload_keptBy {a : At} {g current : Nat} : KeptBy k (execGroupOverload a g current s) := by
  unfold execGroupOverload; dsimp only; (repeat' split) <;> simp [h]
theorem execTripRetry_keptBy {a : At} {n : Nat} {cooled : Bool} : KeptBy k (execTripRetry a n cooled s) := by
  unfold execTripRetry; simp [h]
theorem execRetrySeriesEnd_keptBy {a : At} {n : Nat} : KeptBy k (execRetrySeriesEnd a n s) := by
  unfold execRetrySeriesEnd; simp [h]
theorem execOpenLoad_keptBy {a : At} {n level : Nat} : KeptBy k (execOpenLoad a n level s) := by
  unfold execOpenLoad; dsimp only; split <;> simp [h]
theorem execBackfeed_keptBy {a : At} {n : Nat} {holds : Bool} : KeptBy k (execBackfeed a n holds s) := by
  unfold execBackfeed; simp [h]
theorem execStuckOn_keptBy {a : At} {n current : Nat} : KeptBy k (execStuckOn a n current s) := by
  unfold execStuckOn; simp [h]
theorem execSwitchFail_keptBy {a : At} {n : Nat} {holds : Bool} : KeptBy k (execSwitchFail a n holds s) := by
  unfold execSwitchFail; simp [h]
theorem execDarkPulse_keptBy {a : At} {n : Nat} {readOff : Bool} {current : Nat} : KeptBy k (execDarkPulse a n readOff current s) := by
  unfold execDarkPulse; simp [h]
theorem execStartCalibration_keptBy {a : At} : KeptBy k (execStartCalibration a s) := by
  unfold execStartCalibration; simp [h]
theorem execConversionDone_keptBy {a : At} {c : Nat} {p : Word32} : KeptBy k (execConversionDone a c p s) := by
  unfold execConversionDone; dsimp only; split <;> simp [h]
theorem execShuntDisconnect_keptBy {a : At} {n : Nat} : KeptBy k (execShuntDisconnect a n s) := by
  unfold execShuntDisconnect; simp [h]
theorem execCalibrationResult_keptBy {a : At} {c : Nat} {dev : Int} : KeptBy k (execCalibrationResult a c dev s) := by
  unfold execCalibrationResult; dsimp only; split <;> simp [h]
theorem execRecipeRun_keptBy {a : At} {n : Nat} {xs : List I2cXfer} {released : Bool} : KeptBy k (execRecipeRun a n xs released s) := by
  unfold execRecipeRun; simp [h]
theorem execRecipeRetry_keptBy {a : At} {n : Nat} {xs : List I2cXfer} {released : Bool} :
    KeptBy k (execRecipeRetry a n xs released s) := by
  unfold execRecipeRetry; simp [h]
theorem execRecipeComplete_keptBy {a : At} {n ago : Nat} : KeptBy k (execRecipeComplete a n ago s) := by
  unfold execRecipeComplete; simp [h]
theorem execMdioPoll_keptBy {a : At} {phy : Nat} {link : Bool} {speed : Nat} {full : Bool} :
    KeptBy k (execMdioPoll a phy link speed full s) := by
  unfold execMdioPoll; simp [h]
theorem execPlcaBeacon_keptBy {a : At} {seen : Bool} : KeptBy k (execPlcaBeacon a seen s) := by
  unfold execPlcaBeacon; simp [h]
theorem execMstpTimeout_keptBy {a : At} {n : Nat} {inLoop token : Bool} : KeptBy k (execMstpTimeout a n inLoop token s) := by
  unfold execMstpTimeout; simp [h]
theorem execDhcpLeaseExpiry_keptBy {a : At} {i : Nat} {lease : Option Nat} : KeptBy k (execDhcpLeaseExpiry a i lease s) := by
  unfold execDhcpLeaseExpiry; simp [h]
theorem execResponseTimeoutDiscard_keptBy {a : At} {p : Nat} : KeptBy k (execResponseTimeoutDiscard a p s) := by
  unfold execResponseTimeoutDiscard; simp [h]
theorem execIAm_keptBy {a : At} {p addr inst net : Nat} : KeptBy k (execIAm a p addr inst net s) := by
  unfold execIAm; simp [h]
theorem execPartnerChanged_keptBy {a : At} : KeptBy k (execPartnerChanged a s) := by
  unfold execPartnerChanged; simp [h]
theorem execProvisionalTimeout_keptBy {a : At} {i : Nat} : KeptBy k (execProvisionalTimeout a i s) := by
  unfold execProvisionalTimeout; simp [h]
theorem execPartnerHalfSilence_keptBy {a : At} {i : Nat} : KeptBy k (execPartnerHalfSilence a i s) := by
  unfold execPartnerHalfSilence; simp [h]
theorem execPartnerSilent_keptBy {a : At} {i : Nat} : KeptBy k (execPartnerSilent a i s) := by
  unfold execPartnerSilent; simp [h]
theorem execWhoisPeriod_keptBy {a : At} : KeptBy k (execWhoisPeriod a s) := by
  unfold execWhoisPeriod; simp [h]
theorem execPartnerSave_keptBy {a : At} : KeptBy k (execPartnerSave a s) := by
  unfold execPartnerSave; simp [h]
theorem execApduTimeout_keptBy {a : At} {id : Nat} : KeptBy k (execApduTimeout a id s) := by
  unfold execApduTimeout; dsimp only; split <;> simp [h]
theorem execBusFrameReceived_keptBy {a : At} {f : BusFrame} : KeptBy k (execBusFrameReceived a f s) := by
  unfold execBusFrameReceived; simp [h]
theorem execDupMacHoldEnd_keptBy {a : At} {n : Nat} : KeptBy k (execDupMacHoldEnd a n s) := by
  unfold execDupMacHoldEnd; dsimp only; split <;> simp [h]
theorem execBindingPoll_keptBy {a : At} {b : Nat} : KeptBy k (execBindingPoll a b s) := by
  unfold execBindingPoll; dsimp only; split <;> simp [h]
theorem execCovRenew_keptBy {a : At} {b : Nat} : KeptBy k (execCovRenew a b s) := by
  unfold execCovRenew; dsimp only; split <;> simp [h]
theorem execCovNotification_keptBy {a : At} {p addr object : Nat} {value : List Byte} {fault confirmed : Bool} :
    KeptBy k (execCovNotification a p addr object value fault confirmed s) := by
  unfold execCovNotification; dsimp only; (repeat' split) <;> simp [h]
theorem execModbusReply_keptBy {a : At} {id : Nat} {exception : Bool} {regs : List Nat} :
    KeptBy k (execModbusReply a id exception regs s) := by
  unfold execModbusReply; dsimp only; split <;> simp [h]
theorem execModbusTimeout_keptBy {a : At} {id : Nat} : KeptBy k (execModbusTimeout a id s) := by
  unfold execModbusTimeout; dsimp only; split <;> simp [h]
theorem execBindingWrite_keptBy {a : At} {b : Nat} : KeptBy k (execBindingWrite a b s) := by
  unfold execBindingWrite; dsimp only; split <;> simp [h]
theorem execBindingWriteRetry_keptBy {a : At} {b : Nat} : KeptBy k (execBindingWriteRetry a b s) := by
  unfold execBindingWriteRetry; dsimp only; split <;> simp [h]
theorem execBusFrameSent_keptBy {a : At} {p side : Nat} {forwarded : Bool} : KeptBy k (execBusFrameSent a p side forwarded s) := by
  unfold execBusFrameSent; dsimp only; (repeat' split) <;> simp [h]
theorem execScConnectResult_keptBy {a : At} {ok : Bool} {code : Nat} : KeptBy k (execScConnectResult a ok code s) := by
  unfold execScConnectResult; dsimp only; (repeat' split) <;> simp [h]
theorem execScConnectionLost_keptBy {a : At} {code : Nat} : KeptBy k (execScConnectionLost a code s) := by
  unfold execScConnectionLost; dsimp only; (repeat' split) <;> simp [h]
theorem execScReconnect_keptBy {a : At} : KeptBy k (execScReconnect a s) := by
  unfold execScReconnect; dsimp only; (repeat' split) <;> simp [h]
theorem execNetworkLayerMessage_keptBy {a : At} {p peer : Nat} {m : NetMsg} : KeptBy k (execNetworkLayerMessage a p peer m s) := by
  unfold execNetworkLayerMessage; simp [h]
theorem execForeignDeviceReregister_keptBy {a : At} : KeptBy k (execForeignDeviceReregister a s) := by
  unfold execForeignDeviceReregister; dsimp only; split <;> simp [h]
theorem execBacnetReadProperty_keptBy {a : At} {p peer : Nat} {multiple : Bool} {items : List PropItem} :
    KeptBy k (execBacnetReadProperty a p peer multiple items s) :=
      keptBy_next.mpr (State.bacnet_kept (fun t ht => by simp [ht]) (State.advance_kept h))
theorem execBacnetWriteProperty_keptBy {a : At} {p peer : Nat} {multiple : Bool} {items : List PropItem} :
    KeptBy k (execBacnetWriteProperty a p peer multiple items s) :=
      keptBy_next.mpr (State.bacnet_kept (fun t ht => by simp [ht]) (State.advance_kept h))
theorem execBacnetSubscribeCov_keptBy {a : At} {p peer process object : Nat} {confirmed : Bool} {lifetime : Option Nat} {cancel : Bool} :
    KeptBy k (execBacnetSubscribeCov a p peer process object confirmed lifetime cancel s) :=
    keptBy_next.mpr (State.bacnet_kept (fun t ht => by simp [ht]) (State.advance_kept h))
theorem execWhoIs_keptBy {a : At} {p : Nat} {w : WhoWhat} :
    KeptBy k (execWhoIs a p w s) := keptBy_next.mpr (State.bacnet_kept (fun t ht => by simp [ht]) (State.advance_kept h))
theorem execTimeSynchronization_keptBy {a : At} {p : Nat} {isLocal : Bool} {secs hundredths : Nat} :
    KeptBy k (execTimeSynchronization a p isLocal secs hundredths s) := keptBy_next.mpr (State.bacnet_kept (fun t ht
    => by split <;> simp [ht]) (State.advance_kept h))
theorem execEventNotificationSend_keptBy {a : At} : KeptBy k (execEventNotificationSend a s) := by
  have ha : k.Holds (s.advance a).estate := State.advance_kept h
  unfold execEventNotificationSend
  generalize s.advance a = t at ha
  rw [keptBy_next]
  dsimp only
  split
  · exact ha
  · split
    · simpa [State.notifyEach_estate] using ha
    · exact ha
theorem execAcknowledgeAlarm_keptBy {a : At} {p peer object kind : Nat} {isSeq : Bool} {time : Nat} :
    KeptBy k (execAcknowledgeAlarm a p peer object kind isSeq time s) := keptBy_next.mpr (State.bacnet_kept (fun t ht
    => by simp [ht]) (State.advance_kept h))
theorem execGetEventInformation_keptBy {a : At} {p peer : Nat} {after : Option Nat} :
    KeptBy k (execGetEventInformation a p peer after s) := keptBy_next.mpr (State.bacnet_kept (fun t ht => by simp [ht]) (State.advance_kept h))
theorem execReadRange_keptBy {a : At} {p peer object mode ref : Nat} {count : Int} :
    KeptBy k (execReadRange a p peer object mode ref count s) := keptBy_next.mpr (State.bacnet_kept (fun t ht
    => by split <;> simp [ht]) (State.advance_kept h))
theorem execDeviceCommunicationControl_keptBy {a : At} {p peer : Nat} {state : Dcc3} {minutes : Option Nat} {password : List Byte} :
    KeptBy k (execDeviceCommunicationControl a p peer state minutes password s) := keptBy_next.mpr (State.bacnetAlways_kept (fun t ht
    => by split <;> simp [ht]) (State.advance_kept h))
theorem execDccDurationEnd_keptBy {a : At} : KeptBy k (execDccDurationEnd a s) := by
  unfold execDccDurationEnd; dsimp only; split <;> simp [h]
theorem execGuardEngaged_keptBy {a : At} {z : Nat} {hot : Bool} : KeptBy k (execGuardEngaged a z hot s) := by
  unfold execGuardEngaged; simp [h]
theorem execGuardReleased_keptBy {a : At} {z : Nat} {hot : Bool} : KeptBy k (execGuardReleased a z hot s) := by
  unfold execGuardReleased; simp [h]
theorem execGuardBlind_keptBy {a : At} {z : Nat} {hot : Bool} : KeptBy k (execGuardBlind a z hot s) := by
  unfold execGuardBlind; simp [h]
theorem execOccUpdate_keptBy {a : At} : KeptBy k (execOccUpdate a s) := by
  unfold execOccUpdate; simp [h]
theorem execPlanModelDerived_keptBy {a : At} {us : Nat} : KeptBy k (execPlanModelDerived a us s) := by
  unfold execPlanModelDerived; simp [h]
theorem execPlanStart_keptBy {a : At} : KeptBy k (execPlanStart a s) := by
  unfold execPlanStart; simp [h]
theorem execPlanComplete_keptBy {a : At} {us : Nat} : KeptBy k (execPlanComplete a us s) := by
  unfold execPlanComplete; simp [h]
theorem execSoundFitComplete_keptBy {a : At} {z : Nat} : KeptBy k (execSoundFitComplete a z s) := by
  unfold execSoundFitComplete; simp [h]
theorem execPlanDiscarded_keptBy {a : At} : KeptBy k (execPlanDiscarded a s) := by
  unfold execPlanDiscarded; simp [h]
theorem execPlanStale_keptBy {a : At} : KeptBy k (execPlanStale a s) := by
  unfold execPlanStale; simp [h]
theorem execPlanStepEnd_keptBy {a : At} : KeptBy k (execPlanStepEnd a s) := by
  unfold execPlanStepEnd; dsimp only; (repeat' split) <;> simp [h]
theorem execConfigSelection_keptBy (ho : k.Open) {a : At} : KeptBy k (execConfigSelection a s) :=
  keptBy_next.mpr (State.configSelection_kept (State.advance_kept h) ho.cfg)
theorem execMirrorFrameReceived_keptBy (ho : k.Open) {a : At} {f : MirrorFrame} : KeptBy k (execMirrorFrameReceived a f s) :=
  keptBy_next.mpr (State.mirrorFrame_kept (State.advance_kept h) ho.cfg ho.pair)
theorem execSynchronisationComplete_keptBy (ho : k.Open) {a : At} : KeptBy k (execSynchronisationComplete a s) := by
  have ha : k.Holds (s.advance a).estate := State.advance_kept h
  refine KeptBy.guard ha (State.refreshMirror_kept ?_)
  exact ho.pair _ _ _ _ _ _ ha
theorem execElection_keptBy (ho : k.Open) {a : At} : KeptBy k (execElection a s) := by
  have ha : k.Holds (s.advance a).estate := State.advance_kept h
  refine KeptBy.guard ha ?_
  split
  · exact State.becomeActive_kept (ho.pair _ _ _ _ _ _ ha)
  · exact State.becomeStandby_kept (ho.pair _ _ _ _ _ _ ha)
  · exact ha
theorem execTakeover_keptBy (ho : k.Open) {a : At} : KeptBy k (execTakeover a s) := by
  have ha : k.Holds (s.advance a).estate := State.advance_kept h
  exact KeptBy.guard ha (State.becomeActive_kept (ho.pair _ _ _ _ _ _ ha))
theorem execDualActive_keptBy (ho : k.Open) {a : At} : KeptBy k (execDualActive a s) := by
  have ha : k.Holds (s.advance a).estate := State.advance_kept h
  refine KeptBy.guard ha ?_
  split
  · refine State.becomeStandby_kept ?_
    exact ho.pair _ _ _ _ _ _ (by simpa using ha)
  · exact ha
theorem execYieldedClear_keptBy {a : At} : KeptBy k (execYieldedClear a s) := by
  unfold execYieldedClear; simp [h]
theorem execWithdrawal_keptBy (ho : k.Open) {a : At} : KeptBy k (execWithdrawal a s) := by
  have ha : k.Holds (s.advance a).estate := State.advance_kept h
  have hu : k.Holds (State.refreshMirror { s.advance a with pair.withdrawn := true }).estate :=
    State.refreshMirror_kept (ho.pair _ _ _ _ _ _ ha)
  unfold execWithdrawal
  refine KeptBy.guard ha ?_
  dsimp only
  split
  · exact hu
  · rw [State.roleRecord_estate]
    exact State.enterElecting_kept hu ho.pair
theorem execLaneChange_keptBy {a : At} {lanesIn lanesOut : Nat} : KeptBy k (execLaneChange a lanesIn lanesOut s) := by
  unfold execLaneChange; simp [h]
theorem execPeerLineChange_keptBy {a : At} {alive active : Bool} : KeptBy k (execPeerLineChange a alive active s) := by
  unfold execPeerLineChange; simp [h]
theorem execHandoverBoundary_keptBy (ho : k.Open) {a : At} : KeptBy k (execHandoverBoundary a s) := by
  have ha : k.Holds (s.advance a).estate := State.advance_kept h
  unfold execHandoverBoundary
  rw [keptBy_next]
  dsimp only
  split
  · exact ha
  · split
    · split
      · exact State.handOver_kept (ho.pair _ _ _ _ _ _ ha)
      · exact ha
    · split
      · split
        · exact State.becomeActive_kept (ho.pair _ _ _ _ _ _ ha)
        · exact ha
      · exact ha
    · exact ha
theorem execSharedChannelComparison_keptBy {a : At} {n : Nat} {readback activeAgrees settled : Bool} :
    KeptBy k (execSharedChannelComparison a n readback activeAgrees settled s) := by
  unfold execSharedChannelComparison; simp [h]
theorem execPhaseAlign_keptBy {a : At} : KeptBy k (execPhaseAlign a s) := by
  unfold execPhaseAlign; simp [h]
theorem execAlmanacAlign_keptBy {a : At} {peerTicks : Nat} : KeptBy k (execAlmanacAlign a peerTicks s) := by
  have ha : k.Holds (s.advance a).estate := State.advance_kept h
  refine KeptBy.guard ha (Keeper.backup ha ?_)
  rw [Almanac.enqueue_backup]
  exact .refl
theorem execTillerRowFall_keptBy {a : At} : KeptBy k (execTillerRowFall a s) := by
  unfold execTillerRowFall; simp [h]
theorem execTillerScan_keptBy {a : At} {closed : List Nat} : KeptBy k (execTillerScan a closed s) := by
  unfold execTillerScan; simp [h]
theorem execTillerSample_keptBy {a : At} {buttons lines : Nat} : KeptBy k (execTillerSample a buttons lines s) := by
  unfold execTillerSample; dsimp only; (repeat' split) <;> simp [h]
theorem execStuck_keptBy {a : At} {key : Nat} : KeptBy k (execStuck a key s) := by
  unfold execStuck; simp [h]
theorem execTillerMaskedPoll_keptBy {a : At} {closed : List Nat} : KeptBy k (execTillerMaskedPoll a closed s) := by
  unfold execTillerMaskedPoll; dsimp only; (repeat' split) <;> simp [h]
theorem execTillerInitial_keptBy {a : At} {closed : List Nat} {buttons lines : Nat} :
    KeptBy k (execTillerInitial a closed buttons lines s) := by
  have ha : k.Holds (s.advance a).estate := State.advance_kept h
  unfold execTillerInitial
  generalize s.advance a = t at ha
  rw [keptBy_next]
  dsimp only
  split
  · exact ha
  · have hu : k.Holds (t.updateReady [Rdy.tiller] []).estate := by simpa using ha
    refine Keeper.each ?_ fun _ _ hw => by simpa using hw
    rw [State.estate_mk]
    exact hu
theorem execCfgEffect_keptBy (ho : k.Open) {a : At} : KeptBy k (execCfgEffect a s) := by
  have ha : k.Holds (s.advance a).estate := State.advance_kept h
  unfold execCfgEffect
  rw [keptBy_next]
  split
  · split
    · exact State.cfgEffect_kept ha ho.cfg ho.pair
    · exact ha
  · exact ha
theorem execServicesRises_keptBy (ho : k.Open) {a : At} : KeptBy k (execServicesRises a s) :=
  KeptBy.guard (State.advance_kept h) (State.servicesRise_kept (State.advance_kept h) ho.run ho.udp ho.starts ho.pair)
theorem execServiceHeartbeatTimeout_keptBy (ho : k.Open) {a : At} {core : Nat} : KeptBy k (execServiceHeartbeatTimeout a core s) :=
  KeptBy.guard (State.advance_kept h) (State.serviceFailure_kept (State.advance_kept h) ho.cfg ho.run)
theorem execServiceStartTimeout_keptBy (ho : k.Open) {a : At} : KeptBy k (execServiceStartTimeout a s) :=
  KeptBy.guard (State.advance_kept h) (State.serviceFailure_kept (State.advance_kept h) ho.cfg ho.run)
theorem execServiceFaultReport_keptBy (ho : k.Open) {a : At} {core : Nat} : KeptBy k (execServiceFaultReport a core s) :=
  KeptBy.guard (State.advance_kept h) (State.serviceFailure_kept (State.advance_kept h) ho.cfg ho.run)
theorem execFailureCountReset_keptBy {a : At} : KeptBy k (execFailureCountReset a s) := by
  unfold execFailureCountReset; simp [h]
theorem execServiceRestart_keptBy (ho : k.Open) {a : At} {verifies : Bool} : KeptBy k (execServiceRestart a verifies s) := by
  have ha : k.Holds (s.advance a).estate := State.advance_kept h
  unfold execServiceRestart
  rw [keptBy_next]
  split
  · exact ha
  · split
    · exact State.imageStarts_kept ha ho.run
    · exact State.serviceFailure_kept ha ho.cfg ho.run
theorem execBankLoaded_keptBy {a : At} : KeptBy k (execBankLoaded a s) := by
  unfold execBankLoaded; simp [h]
theorem execPowerOnStart_keptBy {a : At} {second test : Bool} : KeptBy k (execPowerOnStart a second test s) := by
  unfold execPowerOnStart; simp [h]
theorem execResetNAsserted_keptBy (ho : k.Open) {a : At} : KeptBy k (execResetNAsserted a s) :=
  KeptBy.guard (State.advance_kept h) (State.moduleReset_kept (State.advance_kept h) ho)
theorem execResetNReleased_keptBy {a : At} : KeptBy k (execResetNReleased a s) := by
  unfold execResetNReleased; simp [h]
theorem execThermalReset_keptBy (ho : k.Open) {a : At} : KeptBy k (execThermalReset a s) :=
  KeptBy.guard (State.advance_kept h) (State.moduleReset_kept (State.advance_kept h) ho)
theorem execThermalResetRelease_keptBy {a : At} : KeptBy k (execThermalResetRelease a s) := by
  unfold execThermalResetRelease; simp [h]
theorem execRailLost_keptBy (ho : k.Open) {a : At} {rail mv : Nat} : KeptBy k (execRailLost a rail mv s) := by
  have ha : k.Holds (s.advance a).estate := State.advance_kept h
  refine KeptBy.guard ha ?_
  exact State.moduleReset_kept (s := State.record3 0 5 0x0002 (le 1 rail ++ le 2 mv) 0 (s.advance a)) (by simpa using ha) ho
theorem execRailGoodRelease_keptBy {a : At} : KeptBy k (execRailGoodRelease a s) := by
  unfold execRailGoodRelease; simp [h]
theorem execLdLost_keptBy (ho : k.Open) {a : At} {island : Bool} : KeptBy k (execLdLost a island s) := by
  have ha : k.Holds (s.advance a).estate := State.advance_kept h
  have hr : k.Holds (((s.advance a).moduleReset false).hold 7).estate := State.moduleReset_kept ha ho
  unfold execLdLost
  rw [keptBy_next]
  dsimp only
  split
  · exact ha
  · split
    · exact hr
    · exact hr
theorem execSupplySample_keptBy {a : At} {vmain vback vhold : Nat} : KeptBy k (execSupplySample a vmain vback vhold s) := by
  unfold execSupplySample; simp [h]
theorem execSwitchToMain_keptBy {a : At} : KeptBy k (execSwitchToMain a s) := by
  unfold execSwitchToMain; simp [h]
theorem execNvGoodChange_keptBy {a : At} : KeptBy k (execNvGoodChange a s) := by
  unfold execNvGoodChange; simp [h]
theorem execHoldStoreMeasurement_keptBy {a : At} {cap10 : Nat} : KeptBy k (execHoldStoreMeasurement a cap10 s) := by
  unfold execHoldStoreMeasurement; simp [h]
theorem execCollapse_keptBy {a : At} : KeptBy k (execCollapse a s) := by
  unfold execCollapse; simp [h]
theorem execHoldupEnd_keptBy (ho : k.Open) {a : At} : KeptBy k (execHoldupEnd a s) :=
  KeptBy.guard (State.advance_kept h) (State.powerOff_kept (State.advance_kept h) ho)
theorem execSleepEntry_keptBy (ho : k.Open) {a : At} : KeptBy k (execSleepEntry a s) :=
  KeptBy.guard (State.advance_kept h) (State.enterSleep_kept (State.advance_kept h) ho.run)
theorem execWake_keptBy (ho : k.Open) {a : At} {source : Nat} : KeptBy k (execWake a source s) := by
  have ha : k.Holds (s.advance a).estate := State.advance_kept h
  refine KeptBy.guard ha ?_
  dsimp only
  rw [State.startUp_estate]
  refine State.moduleReset_kept ?_ ho
  split
  · exact State.supplyTo_kept ha
  · exact ha
theorem execCrystalLost_keptBy {a : At} : KeptBy k (execCrystalLost a s) := by
  unfold execCrystalLost; simp [h]
theorem execCrystalReturned_keptBy {a : At} : KeptBy k (execCrystalReturned a s) := by
  unfold execCrystalReturned; simp [h]
theorem execSensorSample_keptBy {a : At} {rails : List Nat} {temps : List Int} {vbat : Option Nat} {iin : Nat} :
    KeptBy k (execSensorSample a rails temps vbat iin s) := by
  unfold execSensorSample; simp [h]
theorem execBinnacleWatchdog_keptBy {a : At} {kept : Bool} : KeptBy k (execBinnacleWatchdog a kept s) := by
  unfold execBinnacleWatchdog; dsimp only; split <;> simp [h]
theorem execSramScrubStep_keptBy (ho : k.Open) {a : At} {region item corrected uncorrectable : Nat} :
    KeptBy k (execSramScrubStep a region item corrected uncorrectable s) := by
  have ha : k.Holds (s.advance a).estate := State.advance_kept h
  unfold execSramScrubStep
  rw [keptBy_next]
  dsimp only
  split
  · exact ha
  · split
    · simpa using ha
    · exact State.sramLoss_kept (by simpa using ha) ho.cfg ho.run
theorem execSelftestComplete_keptBy {a : At} {test outcome : Nat} {detail : List Byte} :
    KeptBy k (execSelftestComplete a test outcome detail s) := by
  unfold execSelftestComplete; dsimp only; (repeat' split) <;> simp [h]
theorem execSlotFire_keptBy {a : At} {slot late waiting : Nat} : KeptBy k (execSlotFire a slot late waiting s) := by
  unfold execSlotFire; simp [h]
theorem execAgoLatch_keptBy {a : At} {n : Nat} : KeptBy k (execAgoLatch a n s) := by
  unfold execAgoLatch; simp [h]
theorem execAgoEdge_keptBy {a : At} {n : Nat} : KeptBy k (execAgoEdge a n s) := by
  unfold execAgoEdge; simp [h]
theorem execTurnBoundary_keptBy (ho : k.Open) {a : At} {e : Int} : KeptBy k (execTurnBoundary a e s) :=
  keptBy_next.mpr (State.turnBoundary_kept (State.advance_kept h) ho.pair)
theorem execDeferredStart_keptBy {a : At} {n : Nat} : KeptBy k (execDeferredStart a n s) := by
  unfold execDeferredStart; dsimp only; split <;> simp [h]
theorem execVerifyComplete_keptBy {a : At} {binnacle verifies : Bool} : KeptBy k (execVerifyComplete a binnacle verifies s) := by
  unfold execVerifyComplete; dsimp only; split <;> simp [h]
theorem execHealthy_keptBy {a : At} {binnacle : Bool} : KeptBy k (execHealthy a binnacle s) := by
  have ha : k.Holds (s.advance a).estate := State.advance_kept h
  unfold execHealthy
  generalize s.advance a = t at ha
  rw [keptBy_next]
  dsimp only
  split
  · refine Keeper.guard ha ?_
    rw [State.updateRecord_estate]
    refine State.slotTo_kept ?_
    split
    · simpa [Binnacle.setSlot_svc] using ha
    · exact ha
  · exact ha
theorem execTrialTimeout_keptBy (ho : k.Open) {a : At} {binnacle : Bool} : KeptBy k (execTrialTimeout a binnacle s) := by
  have ha : k.Holds (s.advance a).estate := State.advance_kept h
  have ht : k.Holds ((s.advance a).trialFails true).saveBinnacle.estate := by
    rw [State.saveBinnacle_estate]
    exact State.trialFails_kept ha
  unfold execTrialTimeout
  rw [keptBy_next]
  split
  · exact ha
  · split
    · exact State.binnacleRestart_kept ht
    · split
      · exact State.serviceFailure_kept ha ho.cfg ho.run
      · exact ha
theorem execReinitializeDevice_keptBy (ho : k.Open) {a : At} {p peer state : Nat} {password : List Byte} :
    KeptBy k (execReinitializeDevice a p peer state password s) := by
  refine keptBy_next.mpr (State.bacnetAlways_kept (fun t ht => ?_) (State.advance_kept h))
  split
  · simpa using ht
  · split
    · simpa using ht
    · dsimp only
      split
      · exact State.restartServices_kept (by simpa using ht) ho.cfg ho.run
      · rw [State.startUp_estate]
        exact State.moduleReset_kept (by simpa using ht) ho
theorem execRequestAccept_keptBy (ho : k.Open) {a : At} : KeptBy k (execRequestAccept a s) :=
  keptBy_next.mpr (State.requestAccept_kept (State.advance_kept h) ho)
theorem execResponsePost_keptBy (ho : k.Open) {a : At} {session : Nat} : KeptBy k (execResponsePost a session s) :=
  keptBy_next.mpr (State.responsePost_kept (State.advance_kept h) ho)
theorem execReqProdWrite_keptBy {a : At} {value : Nat} :
    KeptBy k (execReqProdWrite a value s) := keptBy_next.mpr (State.window_kept (fun t ht => by simp [ht]) (State.advance_kept h))
theorem execRspConsWrite_keptBy {a : At} {value : Nat} :
    KeptBy k (execRspConsWrite a value s) := keptBy_next.mpr (State.window_kept (fun t ht => by simp [ht]) (State.advance_kept h))
theorem execEvtConsWrite_keptBy {a : At} {value : Nat} :
    KeptBy k (execEvtConsWrite a value s) := keptBy_next.mpr (State.window_kept (fun t ht => by simp [ht]) (State.advance_kept h))
theorem execIrqStatusWrite_keptBy {a : At} {value : Nat} :
    KeptBy k (execIrqStatusWrite a value s) := keptBy_next.mpr (State.window_kept (fun t ht => by simp [ht]) (State.advance_kept h))
theorem execEvtLostRead_keptBy {a : At} :
    KeptBy k (execEvtLostRead a s) := keptBy_next.mpr (State.window_kept (fun t ht => by simp [ht]) (State.advance_kept h))
theorem execFbDoorbellGo_keptBy (ho : k.Open) {a : At} {value : Nat} :
    KeptBy k (execFbDoorbellGo a value s) := keptBy_next.mpr (State.window_kept (fun _ ht => State.writeDoorbell_kept ht ho) (State.advance_kept h))
theorem execRegisterWrite_keptBy (ho : k.Open) {a : At} {alm : Bool} {addr : Nat} {bytes : List Byte} :
    KeptBy k (execRegisterWrite a alm addr bytes s) := by
  have ha : k.Holds (s.advance a).estate := State.advance_kept h
  unfold execRegisterWrite
  rw [keptBy_next]
  split
  · split
    · exact Keeper.backup ha (Almanac.writeReg_rewritten _ _ _)
    · exact ha
  · exact State.window_kept (fun _ ht => State.writeWindow_kept ht ho) ha
theorem execUartMessage_keptBy (ho : k.Open) {a : At} {bytes : List Byte} : KeptBy k (execUartMessage a bytes s) := by
  have ha : k.Holds (s.advance a).estate := State.advance_kept h
  unfold execUartMessage
  rw [keptBy_next]
  split
  · exact ha
  · split
    · exact ha
    · split
      · exact ha
      · exact State.offer_kept ha ho
theorem execUartByteGap_keptBy {a : At} : KeptBy k (execUartByteGap a s) := by
  unfold execUartByteGap; dsimp only; split <;> simp [h]
theorem execUdpDatagram_keptBy (ho : k.Open) {a : At} {ip port : Nat} {bytes : List Byte} : KeptBy k (execUdpDatagram a ip port bytes s) := by
  have ha : k.Holds (s.advance a).estate := State.advance_kept h
  unfold execUdpDatagram
  rw [keptBy_next]
  split
  · exact ha
  · split
    · exact State.udpOutside_kept ha ho
    · split
      · exact State.udpInside_kept ha ho
      · exact ha
theorem execUdpSessionIdle_keptBy (ho : k.Open) {a : At} {session : Nat} : KeptBy k (execUdpSessionIdle a session s) := by
  have ha : k.Holds (s.advance a).estate := State.advance_kept h
  unfold execUdpSessionIdle
  rw [keptBy_next]
  split
  · split
    · exact State.offerWaiting_kept (State.closeUdp_kept ha ho.udp) ho
    · exact ha
  · exact ha
theorem execAuthFailed_keptBy {a : At} : KeptBy k (execAuthFailed a s) := by
  unfold execAuthFailed; simp [h]
theorem execModbusSlaveRequest_keptBy {a : At} {n fn addr count waddr : Nat} {values : List Nat} :
    KeptBy k (execModbusSlaveRequest a n fn addr count waddr values s) := by
  have ha : k.Holds ((s.advance a).rxTake (2 + n)).estate := by simpa using h
  unfold execModbusSlaveRequest
  rw [keptBy_next]
  dsimp only
  split
  · split
    · exact ha
    · split
      · rename_i e
        simpa using State.mbServe_kept ha e
      · simpa using ha
  · exact State.advance_kept h

/-- Whatever command runs, a predicate of the memories holds after it. -/
theorem exec_keptBy (ho : k.Open) (c : Instr) : KeptBy k (exec c s) := by
  cases c with
  | powerOnStart a second test => exact execPowerOnStart_keptBy h
  | resetNAsserted a => exact execResetNAsserted_keptBy h ho
  | resetNReleased a => exact execResetNReleased_keptBy h
  | thermalReset a => exact execThermalReset_keptBy h ho
  | railLost a rail mv => exact execRailLost_keptBy h ho
  | railGoodRelease a => exact execRailGoodRelease_keptBy h
  | supplySample a vmain vback vhold => exact execSupplySample_keptBy h
  | switchToMain a => exact execSwitchToMain_keptBy h
  | collapse a => exact execCollapse_keptBy h
  | holdupEnd a => exact execHoldupEnd_keptBy h ho
  | nvGoodChange a => exact execNvGoodChange_keptBy h
  | holdStoreMeasurement a cap10 => exact execHoldStoreMeasurement_keptBy h
  | sleepEntry a => exact execSleepEntry_keptBy h ho
  | wake a source => exact execWake_keptBy h ho
  | crystalLost a => exact execCrystalLost_keptBy h
  | crystalReturned a => exact execCrystalReturned_keptBy h
  | sensorSample a rails temps vbat iin => exact execSensorSample_keptBy h
  | sramScrubStep a region item corrected uncorrectable => exact execSramScrubStep_keptBy h ho
  | mramScrubStep a corrected bad => exact execMramScrubStep_keptBy h
  | journaledPageOperation a fate => exact execJournaledPageOperation_keptBy h
  | sheafAddition a cut => exact execSheafAddition_keptBy h
  | recordWrite a => exact execRecordWrite_keptBy h
  | compaction a => exact execCompaction_keptBy h
  | nvRecovery a found => exact execNvRecovery_keptBy h
  | configSelection a => exact execConfigSelection_keptBy h ho
  | logbookRecovery a => exact execLogbookRecovery_keptBy h
  | logbookWrite a => exact execLogbookWrite_keptBy h
  | logbookRecordRaised a source severity code payload posts target => exact execLogbookRecordRaised_keptBy h
  | serviceHeartbeatTimeout a core => exact execServiceHeartbeatTimeout_keptBy h ho
  | serviceStartTimeout a => exact execServiceStartTimeout_keptBy h ho
  | serviceFaultReport a core => exact execServiceFaultReport_keptBy h ho
  | serviceRestart a verifies => exact execServiceRestart_keptBy h ho
  | failureCountReset a => exact execFailureCountReset_keptBy h
  | binnacleWatchdog a kept => exact execBinnacleWatchdog_keptBy h
  | healthy a binnacle => exact execHealthy_keptBy h
  | trialTimeout a binnacle => exact execTrialTimeout_keptBy h ho
  | verifyComplete a binnacle verifies => exact execVerifyComplete_keptBy h
  | fittedCrossing a period ampFirst ampLast => exact execFittedCrossing_keptBy h
  | fitUpdate a hz amp toEnd => exact execFitUpdate_keptBy h
  | lossDetection a => exact execLossDetection_keptBy h
  | turnBoundary a e => exact execTurnBoundary_keptBy h ho
  | turnMark a => exact execTurnMark_keptBy h
  | concordanceLogPeriod a => exact execConcordanceLogPeriod_keptBy h
  | slotFire a slot late waiting => exact execSlotFire_keptBy h
  | bankCopyComplete a => exact execBankCopyComplete_keptBy h
  | bankSave a => exact execBankSave_keptBy h
  | bankLoaded a => exact execBankLoaded_keptBy h
  | conversionDone a c p => exact execConversionDone_keptBy h
  | calibrationResult a c dev => exact execCalibrationResult_keptBy h
  | startCalibration a => exact execStartCalibration_keptBy h
  | recipeRun a n xs released => exact execRecipeRun_keptBy h
  | recipeRetry a n xs released => exact execRecipeRetry_keptBy h
  | recipeComplete a n ago => exact execRecipeComplete_keptBy h
  | barrierFrame a g up start crcOk seq vfield currents => exact execBarrierFrame_keptBy h
  | uplinkTimeout a g => exact execUplinkTimeout_keptBy h
  | barrierTimeout a g => exact execBarrierTimeout_keptBy h
  | barrierPowerChange a g on => exact execBarrierPowerChange_keptBy h
  | vfieldChange a g v => exact execVfieldChange_keptBy h
  | vfieldUv a g v => exact execVfieldUv_keptBy h
  | parameterBlockApplied a g crcOk => exact execParameterBlockApplied_keptBy h
  | resume a g => exact execResume_keptBy h
  | barrierDelayMeasurement a g ns => exact execBarrierDelayMeasurement_keptBy h
  | edgeAccepted a n on ago current => exact execEdgeAccepted_keptBy h
  | edgeLost a n => exact execEdgeLost_keptBy h
  | freqGate a n => exact execFreqGate_keptBy h
  | tpoOffEdge a n => exact execTpoOffEdge_keptBy h
  | overload a n => exact execOverload_keptBy h
  | thermal a n => exact execThermal_keptBy h
  | groupOverload a g current => exact execGroupOverload_keptBy h
  | tripRetry a n cooled => exact execTripRetry_keptBy h
  | retrySeriesEnd a n => exact execRetrySeriesEnd_keptBy h
  | openLoad a n level => exact execOpenLoad_keptBy h
  | darkPulse a n readOff current => exact execDarkPulse_keptBy h
  | backfeed a n holds => exact execBackfeed_keptBy h
  | stuckOn a n current => exact execStuckOn_keptBy h
  | switchFail a n holds => exact execSwitchFail_keptBy h
  | forceDurationEnd a kind n => exact execForceDurationEnd_keptBy h
  | aoWatchdogRefresh a => exact execAoWatchdogRefresh_keptBy h
  | watchdog a => exact execWatchdog_keptBy h
  | aoMonitorSample a readings => exact execAoMonitorSample_keptBy h
  | agoLatch a n => exact execAgoLatch_keptBy h
  | agoEdge a n => exact execAgoEdge_keptBy h
  | mdioPoll a phy link speed full => exact execMdioPoll_keptBy h
  | busFrameReceived a f => exact execBusFrameReceived_keptBy h
  | responseTimeoutDiscard a p => exact execResponseTimeoutDiscard_keptBy h
  | bacnetReadProperty a p peer multiple items => exact execBacnetReadProperty_keptBy h
  | bacnetWriteProperty a p peer multiple items => exact execBacnetWriteProperty_keptBy h
  | bacnetSubscribeCov a p peer process object confirmed lifetime cancel => exact execBacnetSubscribeCov_keptBy h
  | covNotification a p addr object value fault confirmed => exact execCovNotification_keptBy h
  | whoIs a p w => exact execWhoIs_keptBy h
  | iAm a p addr inst net => exact execIAm_keptBy h
  | partnerChanged a => exact execPartnerChanged_keptBy h
  | timeSynchronization a p isLocal secs hundredths => exact execTimeSynchronization_keptBy h
  | acknowledgeAlarm a p peer object kind isSeq time => exact execAcknowledgeAlarm_keptBy h
  | getEventInformation a p peer after => exact execGetEventInformation_keptBy h
  | readRange a p peer object mode ref count => exact execReadRange_keptBy h
  | deviceCommunicationControl a p peer state minutes password => exact execDeviceCommunicationControl_keptBy h
  | dccDurationEnd a => exact execDccDurationEnd_keptBy h
  | reinitializeDevice a p peer state password => exact execReinitializeDevice_keptBy h ho
  | networkLayerMessage a p peer m => exact execNetworkLayerMessage_keptBy h
  | apduTimeout a id => exact execApduTimeout_keptBy h
  | dupMacHoldEnd a n => exact execDupMacHoldEnd_keptBy h
  | modbusSlaveRequest a n fn addr count waddr values => exact execModbusSlaveRequest_keptBy h
  | modbusReply a id exception regs => exact execModbusReply_keptBy h
  | modbusTimeout a id => exact execModbusTimeout_keptBy h
  | scConnectResult a ok code => exact execScConnectResult_keptBy h
  | scConnectionLost a code => exact execScConnectionLost_keptBy h
  | scReconnect a => exact execScReconnect_keptBy h
  | whoisPeriod a => exact execWhoisPeriod_keptBy h
  | provisionalTimeout a idx => exact execProvisionalTimeout_keptBy h
  | partnerHalfSilence a idx => exact execPartnerHalfSilence_keptBy h
  | partnerSilent a idx => exact execPartnerSilent_keptBy h
  | partnerSave a => exact execPartnerSave_keptBy h
  | bindingPoll a b => exact execBindingPoll_keptBy h
  | covRenew a b => exact execCovRenew_keptBy h
  | bindingWrite a b => exact execBindingWrite_keptBy h
  | bindingWriteRetry a b => exact execBindingWriteRetry_keptBy h
  | eventNotificationSend a => exact execEventNotificationSend_keptBy h
  | guardEngaged a z hot => exact execGuardEngaged_keptBy h
  | guardReleased a z hot => exact execGuardReleased_keptBy h
  | guardBlind a z hot => exact execGuardBlind_keptBy h
  | hostValueSave a => exact execHostValueSave_keptBy h
  | planStart a => exact execPlanStart_keptBy h
  | planComplete a us => exact execPlanComplete_keptBy h
  | planDiscarded a => exact execPlanDiscarded_keptBy h
  | planModelDerived a us => exact execPlanModelDerived_keptBy h
  | planStale a => exact execPlanStale_keptBy h
  | occUpdate a => exact execOccUpdate_keptBy h
  | planStepEnd a => exact execPlanStepEnd_keptBy h
  | soundSettled a z => exact execSoundSettled_keptBy h
  | soundCaptured a z => exact execSoundCaptured_keptBy h
  | soundAborted a z cause => exact execSoundAborted_keptBy h
  | soundFitComplete a z => exact execSoundFitComplete_keptBy h
  | deferredStart a n => exact execDeferredStart_keptBy h
  | cfgEffect a => exact execCfgEffect_keptBy h ho
  | mirrorFrameReceived a f => exact execMirrorFrameReceived_keptBy h ho
  | laneChange a lanesIn lanesOut => exact execLaneChange_keptBy h
  | peerLineChange a alive active => exact execPeerLineChange_keptBy h
  | election a => exact execElection_keptBy h ho
  | takeover a => exact execTakeover_keptBy h ho
  | dualActive a => exact execDualActive_keptBy h ho
  | yieldedClear a => exact execYieldedClear_keptBy h
  | withdrawal a => exact execWithdrawal_keptBy h ho
  | handoverBoundary a => exact execHandoverBoundary_keptBy h ho
  | synchronisationComplete a => exact execSynchronisationComplete_keptBy h ho
  | sharedChannelComparison a n readback activeAgrees settled => exact execSharedChannelComparison_keptBy h
  | phaseAlign a => exact execPhaseAlign_keptBy h
  | almanacAlign a peerTicks => exact execAlmanacAlign_keptBy h
  | almanacCommitEdge a => exact execAlmanacCommitEdge_keptBy h
  | alarm a n => exact execAlarm_keptBy h
  | wrapped a => exact execWrapped_keptBy h
  | almanacCrystalCheck a expected => exact execAlmanacCrystalCheck_keptBy h
  | domainPowerOn a => exact execDomainPowerOn_keptBy h
  | powerLost a => exact execPowerLost_keptBy h
  | epaperUpdateStart a => exact execEpaperUpdateStart_keptBy h
  | epaperFrame a => exact execEpaperFrame_keptBy h
  | epaperUpdateEnd a => exact execEpaperUpdateEnd_keptBy h
  | compensationStart a => exact execCompensationStart_keptBy h
  | compensated a => exact execCompensated_keptBy h
  | chartReadback a levels => exact execChartReadback_keptBy h
  | tillerRowFall a => exact execTillerRowFall_keptBy h
  | tillerScan a closed => exact execTillerScan_keptBy h
  | tillerSample a buttons lines => exact execTillerSample_keptBy h
  | stuck a key => exact execStuck_keptBy h
  | tillerMaskedPoll a closed => exact execTillerMaskedPoll_keptBy h
  | tillerInitial a closed buttons lines => exact execTillerInitial_keptBy h
  | reqProdWrite a value => exact execReqProdWrite_keptBy h
  | rspConsWrite a value => exact execRspConsWrite_keptBy h
  | evtConsWrite a value => exact execEvtConsWrite_keptBy h
  | irqStatusWrite a value => exact execIrqStatusWrite_keptBy h
  | evtLostRead a => exact execEvtLostRead_keptBy h
  | fbDoorbellGo a value => exact execFbDoorbellGo_keptBy h ho
  | registerWrite a alm addr bytes => exact execRegisterWrite_keptBy h ho
  | requestAccept a => exact execRequestAccept_keptBy h ho
  | responsePost a session => exact execResponsePost_keptBy h ho
  | uartByteGap a => exact execUartByteGap_keptBy h
  | uartMessage a bytes => exact execUartMessage_keptBy h ho
  | udpDatagram a ip port bytes => exact execUdpDatagram_keptBy h ho
  | authFailed a => exact execAuthFailed_keptBy h
  | udpSessionIdle a session => exact execUdpSessionIdle_keptBy h ho
  | zoneStatus a r => exact keptBy_serve opZoneStatus_stays ho h
  | signalRead a r => exact keptBy_serve opSignalRead_stays ho h
  | signalWrite a r => exact keptBy_serve opSignalWrite_stays ho h
  | modeWrite a r => exact keptBy_serve opModeWrite_stays ho h
  | hostInputWrite a r => exact keptBy_serve opHostInputWrite_stays ho h
  | wpForecast a r => exact keptBy_serve opWpForecast_stays ho h
  | wpTariff a r => exact keptBy_serve opWpTariff_stays ho h
  | wpReplan a r => exact keptBy_serve opWpReplan_stays ho h
  | wpStatus a r => exact keptBy_serve opWpStatus_stays ho h
  | wpTrajectory a r => exact keptBy_serve opWpTrajectory_stays ho h
  | occRead a r => exact keptBy_serve opOccRead_stays ho h
  | uiRead a r => exact keptBy_serve opUiRead_stays ho h
  | i2cRead a r => exact keptBy_serve opI2cRead_stays ho h
  | fcRead a r => exact keptBy_serve opFcRead_stays ho h
  | fcEdgeRead a r => exact keptBy_serve opFcEdgeRead_stays ho h
  | aoRead a r => exact keptBy_serve opAoRead_stays ho h
  | agoRead a r => exact keptBy_serve opAgoRead_stays ho h
  | portStatus a r => exact keptBy_serve opPortStatus_stays ho h
  | partnerList a r => exact keptBy_serve opPartnerList_stays ho h
  | bindRead a r => exact keptBy_serve opBindRead_stays ho h
  | chartWrite a r => exact keptBy_serve opChartWrite_stays ho h
  | chartStatus a r => exact keptBy_serve opChartStatus_stays ho h
  | tillerRead a r => exact keptBy_serve opTillerRead_stays ho h
  | tillerState a r => exact keptBy_serve opTillerState_stays ho h
  | helmRead a r => exact keptBy_serve opHelmRead_stays ho h
  | helmWrite a r => exact keptBy_serve opHelmWrite_stays ho h
  | bankCopy a r => exact keptBy_serve opBankCopy_stays ho h
  | bankSwap a r => exact keptBy_serve opBankSwap_stays ho h
  | helmDiag a r => exact keptBy_serve opHelmDiag_stays ho h
  | slotRead a r => exact keptBy_serve opSlotRead_stays ho h
  | slotWrite a r => exact keptBy_serve opSlotWrite_stays ho h
  | soundStart a r => exact keptBy_serve opSoundStart_stays ho h
  | soundAbort a r => exact keptBy_serve opSoundAbort_stays ho h
  | soundStatus a r => exact keptBy_serve opSoundStatus_stays ho h
  | soundCapture a r => exact keptBy_serve opSoundCapture_stays ho h
  | soundResult a r => exact keptBy_serve opSoundResult_stays ho h
  | soundDeliver a r => exact keptBy_serve opSoundDeliver_stays ho h
  | fcForce a r => exact keptBy_serve opFcForce_stays ho h
  | aoForce a r => exact keptBy_serve opAoForce_stays ho h
  | agoForce a r => exact keptBy_serve opAgoForce_stays ho h
  | svcReadProperty a r => exact keptBy_serve opSvcReadProperty_stays ho h
  | svcWriteProperty a r => exact keptBy_serve opSvcWriteProperty_stays ho h
  | svcTimeSet a r => exact keptBy_serve opSvcTimeSet_stays ho h
  | svcTimeRead a r => exact keptBy_serve opSvcTimeRead_stays ho h
  | cfgInfo a r => exact keptBy_serve opCfgInfo_stays ho h
  | cfgBegin a r => exact keptBy_serve opCfgBegin_stays ho h
  | cfgWrite a r => exact keptBy_serve opCfgWrite_stays ho h
  | cfgCommit a r => exact keptBy_serve opCfgCommit_stays ho h
  | cfgRead a r => exact keptBy_serve opCfgRead_stays ho h
  | clampRead a r => exact keptBy_serve opClampRead_stays ho h
  | sheafRead a r => exact keptBy_serve opSheafRead_stays ho h
  | barrier a r => exact keptBy_serve opBarrier_stays ho h
  | identify a r => exact keptBy_serve opIdentify_stays ho h
  | sessionOpen a r => exact keptBy_serve opSessionOpen_stays ho h
  | sessionProve a r => exact keptBy_serve opSessionProve_stays ho h
  | sessionClose a r => exact keptBy_serve opSessionClose_stays ho h
  | secWrite a r => exact keptBy_serve opSecWrite_stays ho h
  | secInfo a r => exact keptBy_serve opSecInfo_stays ho h
  | logRead a r => exact keptBy_serve opLogRead_stays ho h
  | logAck a r => exact keptBy_serve opLogAck_stays ho h
  | concordRead a r => exact keptBy_serve opConcordRead_stays ho h
  | almanacRead a r => exact keptBy_serve opAlmanacRead_stays ho h
  | almanacWrite a r => exact keptBy_serve opAlmanacWrite_stays ho h
  | almanacTrim a r => exact keptBy_serve opAlmanacTrim_stays ho h
  | almanacAlarm a r => exact keptBy_serve opAlmanacAlarm_stays ho h
  | backupRead a r => exact keptBy_serve opBackupRead_stays ho h
  | backupWrite a r => exact keptBy_serve opBackupWrite_stays ho h
  | updateBegin a r => exact keptBy_serve opUpdateBegin_stays ho h
  | updateWrite a r => exact keptBy_serve opUpdateWrite_stays ho h
  | updateVerify a r => exact keptBy_serve opUpdateVerify_stays ho h
  | updateSwap a r => exact keptBy_serve opUpdateSwap_stays ho h
  | updateStatus a r => exact keptBy_serve opUpdateStatus_stays ho h
  | reset a r => exact keptBy_serve opReset_stays ho h
  | selftest a r => exact keptBy_serve opSelftest_stays ho h
  | selftestComplete a test outcome detail => exact execSelftestComplete_keptBy h
  | sensorRead a r => exact keptBy_serve opSensorRead_stays ho h
  | uiCalibrate a r => exact keptBy_serve opUiCalibrate_stays ho h
  | fcClear a r => exact keptBy_serve opFcClear_stays ho h
  | policyRead a r => exact keptBy_serve opPolicyRead_stays ho h
  | pairStatus a r => exact keptBy_serve opPairStatus_stays ho h
  | pairHandover a r => exact keptBy_serve opPairHandover_stays ho h
  | eventRead a r => exact keptBy_serve opEventRead_stays ho h
  | eventStatus a r => exact keptBy_serve opEventStatus_stays ho h
  | countLoRead a => exact execCountLoRead_keptBy h
  | countLoWrite a lo => exact execCountLoWrite_keptBy h
  | alarmLoWrite a n lo => exact execAlarmLoWrite_keptBy h
  | thermalResetRelease a => exact execThermalResetRelease_keptBy h
  | servicesRises a => exact execServicesRises_keptBy h ho
  | ldLost a island => exact execLdLost_keptBy h ho
  | shuntDisconnect a n => exact execShuntDisconnect_keptBy h
  | trimPeriodStart a => exact execTrimPeriodStart_keptBy h
  | busFrameSent a p side forwarded => exact execBusFrameSent_keptBy h
  | dhcpLeaseExpiry a idx lease => exact execDhcpLeaseExpiry_keptBy h
  | plcaBeacon a seen => exact execPlcaBeacon_keptBy h
  | mstpTimeout a n inLoop token => exact execMstpTimeout_keptBy h
  | foreignDeviceReregister a => exact execForeignDeviceReregister_keptBy h

end


end Sys2Proof.Machine


/-! PROOFS. O59: the memories stay canonical. -/

namespace Sys2Proof.Machine

/-- The MRAM, the mailbox memory and BACKUP in canonical form. -/
def Keeper.canonical : Keeper where
  Holds e := e.mram.wf = true ∧ e.mailbox.wf = true ∧ e.backup.wf = true
  rewrites h h₁ h₂ h₃ := ⟨h₁.wf h.1, h₂.wf h.2.1, h₃.wf h.2.2⟩

theorem Keeper.canonical_open : Keeper.canonical.Open where
  cfg _ _ h := h
  pair _ _ _ _ _ _ h := h
  run _ _ h := h
  udp _ _ h := h
  starts _ _ h := h

/-- Settles O59: every function of the model writes the three memories only byte by byte or empties them, and both keep the form. -/
theorem memoriesStayCanonical : Obligations.MemoriesStayCanonical := by
  unfold Obligations.MemoriesStayCanonical
  refine ⟨⟨rfl, rfl, rfl⟩, fun c s t h hm hb ha => ?_⟩
  have hs : Keeper.canonical.Holds s.estate := ⟨hm, hb, ha⟩
  exact exec_keptBy hs Keeper.canonical_open c t h

end Sys2Proof.Machine

/-! PROOFS. Commands, the queue they wait in, and the state after reset (R18, R372, R521). -/

namespace Sys2Proof.Machine

/-- Settles O1: a step is defined by the command at the front of the queue. -/
theorem stepRunsTheFrontCommand : Obligations.StepRunsTheFrontCommand := by
  unfold Obligations.StepRunsTheFrontCommand
  refine ⟨fun c rest s => rfl, fun s h => ?_⟩
  unfold step
  rw [h]

/-- Settles O2: the meaning of each command is a next state. -/
theorem everyCommandAnswers : Obligations.EveryCommandAnswers := by
  unfold Obligations.EveryCommandAnswers
  intro c s
  cases c <;> exact ⟨_, rfl⟩

/-- Settles O3: the meaning of a command keeps the head of the state, and a step takes one command from the queue first. -/
theorem queueIsFirstInFirstOut : Obligations.QueueIsFirstInFirstOut := by
  unfold Obligations.QueueIsFirstInFirstOut
  have hexec : ∀ (c : Instr) (s t : State), exec c s = .next t → t.pending = s.pending := fun c s t h => (exec_intact h).1
  refine ⟨hexec, fun s t h => ?_⟩
  unfold step at h
  split at h
  · rename_i hq
    cases h
    rw [hq]; rfl
  · rename_i c rest hq
    rw [hexec _ _ _ h, hq]; rfl

/-- Settles O6: every field of the state after reset has its default. -/
theorem resetState : Obligations.ResetState := by
  unfold Obligations.ResetState
  exact ⟨rfl, rfl, rfl, rfl, rfl, rfl, rfl, rfl, rfl, rfl, rfl, rfl, rfl, rfl, fun n => readyBit_zero n⟩

end Sys2Proof.Machine

/-! PROOFS. A message reads back as it was laid out (R11, R375, R377). -/

namespace Sys2Proof.Machine

theorem leNat_le {n v : Nat} (h : v < 256 ^ n) : leNat (le n v) = v := by
  induction n generalizing v with
  | zero => simp_all [le, leNat]
  | succ n ih =>
    have hv : v / 256 < 256 ^ n := Nat.div_lt_of_lt_mul (by rwa [Nat.pow_succ'] at h)
    rw [le, leNat, ih hv, BitVec.toNat_ofNat]
    omega

/-- The field at the front of a run of bytes. -/
theorem fieldAt_le {n v : Nat} (rest : List Byte) (h : v < 256 ^ n) : fieldAt (le n v ++ rest) 0 n = v := by
  rw [fieldAt, List.drop_zero, List.take_left' (le_length n v), leNat_le h]

/-- A field behind the one at the front. -/
theorem fieldAt_le_append {m v off n : Nat} (rest : List Byte) (h : m ≤ off) : fieldAt (le m v ++ rest) off n = fieldAt rest (off - m) n := by
  obtain ⟨k, rfl⟩ := Nat.exists_eq_add_of_le h
  rw [fieldAt, fieldAt, ← List.drop_drop, List.drop_left' (le_length m v), Nat.add_sub_cancel_left]

/-- Bytes 0 to 27 of a request's header: what its CRC covers before the payload (R375). -/
def headerBytes (tag cls opcode fn seq target length : Nat) (stamp : Stamp) : List Byte :=
  le 2 0x4D4A ++ le 1 1 ++ le 1 0 ++ le 1 tag ++ le 1 cls ++ le 2 opcode ++ le 2 length ++ le 1 0 ++ le 1 fn ++ le 4 seq ++
    le 4 target ++ le 8 stamp.toNat

theorem headerBytes_length (tag cls opcode fn seq target length : Nat) (stamp : Stamp) :
    (headerBytes tag cls opcode fn seq target length stamp).length = 28 := by
  simp [headerBytes]

section
variable {tag cls opcode fn seq target : Nat} {stamp : Stamp} {payload : List Byte}

/-- A request message is its header, its CRC and its payload (R375). -/
theorem message_request : message 0 tag cls opcode 0 fn seq target stamp payload =
    headerBytes tag cls opcode fn seq target payload.length stamp ++
      (le 4 (crc32c (headerBytes tag cls opcode fn seq target payload.length stamp ++ payload)) ++ payload) := by
  rw [message, List.append_assoc]; rfl

theorem message_append_take (rest : List Byte) : (message 0 tag cls opcode 0 fn seq target stamp payload ++ rest).take 28 =
    headerBytes tag cls opcode fn seq target payload.length stamp := by
  rw [message_request, List.append_assoc, List.take_left' (headerBytes_length ..)]

theorem message_append_drop (rest : List Byte) :
    (message 0 tag cls opcode 0 fn seq target stamp payload ++ rest).drop 32 = payload ++ rest := by
  rw [message_request, List.append_assoc, List.append_assoc, ← List.append_assoc]
  exact List.drop_left' (by simp [headerBytes_length])

theorem fieldAt_message_crc (rest : List Byte) : fieldAt (message 0 tag cls opcode 0 fn seq target stamp payload ++ rest) 28 4 =
    crc32c (headerBytes tag cls opcode fn seq target payload.length stamp ++ payload) := by
  rw [message_request, List.append_assoc, List.append_assoc, fieldAt, List.drop_left' (headerBytes_length ..),
    List.take_left' (le_length ..), leNat_le]
  exact BitVec.isLt _

/-- The fields of a request message, one behind the other (R375). -/
theorem message_append_fields (rest : List Byte) : ∃ tail,
    message 0 tag cls opcode 0 fn seq target stamp payload ++ rest = le 2 0x4D4A ++ (le 1 1 ++ (le 1 0 ++ (le 1 tag ++ (le 1 cls ++
      (le 2 opcode ++ (le 2 payload.length ++ (le 1 0 ++ (le 1 fn ++ (le 4 seq ++ (le 4 target ++ tail)))))))))) := by
  rw [message_request]
  simp only [headerBytes, List.append_assoc]
  exact ⟨_, rfl⟩

end

/-- Settles O57: each field of the header stands behind those before it, of the widths that R375 gives. -/
theorem messagesReadBack : Obligations.MessagesReadBack := by
  unfold Obligations.MessagesReadBack
  intro session tag cls opcode fn seq target stamp payload rest htag hcls hopcode hfn hseq htarget hlen bs
  norm_num only at htag hcls hopcode hfn hseq htarget hlen
  obtain ⟨tail, hfields⟩ : ∃ tail, bs = _ := message_append_fields rest
  have hlength : fieldAt bs 8 2 = payload.length := by simp [hfields, fieldAt_le_append, fieldAt_le, hlen]
  have hpayload : (bs.drop 32).take (fieldAt bs 8 2) = payload := by
    rw [hlength, message_append_drop, List.take_left' rfl]
  refine ⟨?_, ?_, ?_, ?_, ?_⟩
  · simp [headerGood, hfields, fieldAt_le_append, fieldAt_le]
  · rw [crcGood, hpayload, message_append_take, fieldAt_message_crc, beq_self_eq_true]
  · simp [hfields, fieldAt_le_append, fieldAt_le, hcls]
  · simp [hfields, fieldAt_le_append, fieldAt_le, hopcode]
  · rw [requestOf, hpayload]
    simp [hfields, fieldAt_le_append, fieldAt_le, htag, hseq, htarget, hfn]

end Sys2Proof.Machine

/-! PROOFS. The order in which responses are posted (R382, R384). -/

namespace Sys2Proof.Machine

/-- The step of a search for the flight completed first. -/
def earlierOf (best : Option Flight) (f : Flight) : Option Flight :=
  match best with
  | none => some f
  | some b => if f.completed < b.completed then some f else some b

theorem earlierOf_spec (best : Option Flight) (f : Flight) : ∃ b, earlierOf best f = some b ∧ (b = f ∨ best = some b) ∧
    b.completed ≤ f.completed ∧ ∀ x, best = some x → b.completed ≤ x.completed := by
  unfold earlierOf
  split
  · exact ⟨f, rfl, .inl rfl, le_rfl, nofun⟩
  · rename_i b
    split
    · exact ⟨f, rfl, .inl rfl, le_rfl, fun x hx => by cases hx; omega⟩
    · exact ⟨b, rfl, .inr rfl, by omega, fun x hx => by cases hx; exact le_rfl⟩

/-- The search finds a flight of the list, or the one it began with, and none that it saw was completed before it. -/
theorem foldl_earlierOf {fs : List Flight} {best : Option Flight} {f : Flight} (h : fs.foldl earlierOf best = some f) :
    (f ∈ fs ∨ best = some f) ∧ (∀ g ∈ fs, f.completed ≤ g.completed) ∧ ∀ b, best = some b → f.completed ≤ b.completed := by
  induction fs generalizing best with
  | nil => exact ⟨.inr h, nofun, fun b hb => by rw [show b = f from Option.some.inj (hb.symm.trans h)]⟩
  | cons x xs ih =>
    obtain ⟨b, hb, hfrom, hx, hbest⟩ := earlierOf_spec best x
    rw [List.foldl_cons, hb] at h
    obtain ⟨hmem, hrest, hle⟩ := ih h
    have hfb : f.completed ≤ b.completed := hle b rfl
    refine ⟨?_, fun g hg => ?_, fun y hy => hfb.trans (hbest y hy)⟩
    · rcases hmem with hmem | hmem
      · exact .inl (List.mem_cons_of_mem _ hmem)
      · cases hmem
        exact hfrom.imp (fun hf => by rw [hf]; exact List.mem_cons_self) id
    · rcases List.mem_cons.mp hg with rfl | hg
      · exact hfb.trans hx
      · exact hrest g hg

/-- A response of session `n` that may be posted: no request of its FUNCTION and TARGET accepted before it still waits (R384). -/
def State.mayPost (s : State) (n : Nat) (f : Flight) : Prop :=
  f ∈ s.mb.flights ∧ f.session = n ∧ f.resp.isSome = true ∧
    ∀ g ∈ s.mb.flights, g.session = n → g.fn = f.fn → g.target = f.target → f.order ≤ g.order

/-- The response posted next may be posted, and no other that may was completed before it (R382, R384). -/
theorem State.nextPost_spec {s : State} {n : Nat} {f : Flight} (h : s.nextPost n = some f) :
    s.mayPost n f ∧ ∀ g, s.mayPost n g → f.completed ≤ g.completed := by
  obtain ⟨hmem, hmin, -⟩ := foldl_earlierOf (show List.foldl earlierOf none _ = some f from h)
  have hmay : ∀ g, g ∈ s.mb.flights.filter (fun f => f.session == n && f.resp.isSome && s.mb.flights.all (fun g =>
      !(g.session == n && g.fn == f.fn && g.target == f.target && decide (g.order < f.order)))) ↔ s.mayPost n g := fun g => by
    simp [State.mayPost, and_assoc, or_iff_not_imp_left]
  refine ⟨(hmay f).mp (hmem.resolve_right nofun), fun g hg => hmin g ((hmay g).mpr hg)⟩

/-- Settles O56: the search takes the one completed first among the responses that may be posted. -/
theorem postingOrder : Obligations.PostingOrder := by
  unfold Obligations.PostingOrder
  intro s n f h
  obtain ⟨⟨hmem, hsession, hresp, hfirst⟩, hmin⟩ := State.nextPost_spec h
  refine ⟨hmem, hsession, hresp, hfirst, fun g hg hgs hgr hgf => hmin g ⟨hg, hgs, hgr, hgf⟩⟩

end Sys2Proof.Machine

/-! PROOFS. The operations that only read (R400, R401, R404, R406, R407, R409). -/

namespace Sys2Proof.Machine

/-- The operation leaves the state `s` as it is and ends with its answer. -/
def OpDef.Reads (d : OpDef) (r : Req) (s : State) : Prop :=
  ∃ x, d.body r s = (s, some x) ∧ x.status ≠ .accepted ∧ x.status ≠ .deferred

theorem State.ok_reads {d : OpDef} {r : Req} {s : State} {p : List Byte} (h : d.body r s = s.ok p) : d.Reads r s :=
  ⟨_, h, Status.noConfusion, Status.noConfusion⟩

theorem State.fail_reads {d : OpDef} {r : Req} {s : State} {st : Status} (h : d.body r s = s.fail st)
    (hst : st ≠ .accepted ∧ st ≠ .deferred) : d.Reads r s :=
  ⟨_, h, hst⟩

/-- The state `u` differs from `t` in the list of flights and its two counters alone. -/
def SameButFlights (t u : State) : Prop :=
  u = { t with mb := { t.mb with orders := u.mb.orders, completions := u.mb.completions, flights := u.mb.flights } }

/-- Whether it is taken, rejected or executed, a request for an operation that only reads leaves the rest as it is (R21). -/
theorem serve_sameButFlights {d : OpDef} {r : Req} {t : State} (h : d.Reads r (t.addFlight d r)) : SameButFlights t (serve d r t) := by
  unfold serve
  split
  · rfl
  · split
    · rfl
    · obtain ⟨x, hbody, hx⟩ := h
      rw [OpDef.run, hbody]
      simp only [State.addInterim, hx.1, hx.2, or_self, if_false]
      rfl

section
variable {r : Req} {s : State}

theorem opOccRead_reads : opOccRead.Reads r s := by
  by_cases h : (s.occ.get r.target).stamp = 0
  · exact State.ok_reads (if_pos h)
  · exact State.ok_reads (if_neg h)

theorem opHelmRead_reads : opHelmRead.Reads r s := by
  cases h : blockTarget r.target with
  | none => exact State.fail_reads (st := .badFormat) (by simp only [opHelmRead, h]) (by decide)
  | some k => exact State.ok_reads (by simp only [opHelmRead, h]; rfl)

theorem opWpTrajectory_reads : opWpTrajectory.Reads r s := by
  cases h : s.wpPlanned (zoneOf r) (sigOf r % 16) && (s.plan.traj.get (zoneOf r * 16 + sigOf r % 16)).present
  · exact State.fail_reads (opWpTrajectory_body_of_none h) (by decide)
  · exact State.ok_reads (opWpTrajectory_body_of_planned h)

theorem opSvcReadProperty_reads : opSvcReadProperty.Reads r s := by
  cases h : s.readProp r.target (fieldAt r.payload 0 4) (arrayIndex (fieldAt r.payload 4 4)) with
  | error e => exact State.ok_reads (by simp only [opSvcReadProperty, h]; rfl)
  | ok v => exact State.ok_reads (by simp only [opSvcReadProperty, h]; rfl)

/-- LOG_READ records the words it finds uncorrectable; where none is known so it only reads (R406, R437). -/
theorem opLogRead_reads (h : s.nv.badWords = []) : opLogRead.Reads r s :=
  State.ok_reads (logReadBody_of_readable rfl (by simp [Nv.badIn, h]))

end

/-- Settles O58: the body of each of these operations answers and leaves the state as it is. -/
theorem readsChangeOnlyTheirFlight : Obligations.ReadsChangeOnlyTheirFlight := by
  unfold Obligations.ReadsChangeOnlyTheirFlight
  intro c a r s u hc h
  have hserve : ∀ d : OpDef, d.Reads r ((s.advance a).addFlight d r) → exec c s = .next (serve d r (s.advance a)) →
      SameButFlights (s.advance a) u := fun d hd hexec => by
    cases h.symm.trans hexec
    exact serve_sameButFlights hd
  have hok : ∀ d : OpDef, (∃ p, d.body r ((s.advance a).addFlight d r) = ((s.advance a).addFlight d r).ok p) →
      exec c s = .next (serve d r (s.advance a)) → SameButFlights (s.advance a) u :=
    fun d ⟨_, hd⟩ hexec => hserve d (State.ok_reads hd) hexec
  rcases hc with rfl | rfl | rfl | rfl | rfl | rfl | rfl | rfl | rfl | rfl | rfl | rfl | rfl | ⟨rfl, hbad⟩ | rfl | rfl | rfl | rfl |
    rfl | rfl | rfl | rfl | rfl | rfl | rfl | rfl | rfl
  · exact hok opZoneStatus ⟨_, rfl⟩ rfl
  · exact hok opSignalRead ⟨_, rfl⟩ rfl
  · exact hserve opOccRead opOccRead_reads rfl
  · exact hserve opHelmRead opHelmRead_reads rfl
  · exact hok opI2cRead ⟨_, rfl⟩ rfl
  · exact hok opFcEdgeRead ⟨_, rfl⟩ rfl
  · exact hok opPartnerList ⟨_, rfl⟩ rfl
  · exact hok opWpStatus ⟨_, rfl⟩ rfl
  · exact hserve opWpTrajectory opWpTrajectory_reads rfl
  · exact hserve opSvcReadProperty opSvcReadProperty_reads rfl
  · exact hok opSvcTimeRead ⟨_, rfl⟩ rfl
  · exact hok opIdentify ⟨_, rfl⟩ rfl
  · exact hok opSecInfo ⟨_, rfl⟩ rfl
  · exact hserve opLogRead (opLogRead_reads hbad) rfl
  · exact hok opConcordRead ⟨_, rfl⟩ rfl
  · exact hok opBackupRead ⟨_, rfl⟩ rfl
  · exact hok opUpdateStatus ⟨_, rfl⟩ rfl
  · exact hok opSensorRead ⟨_, rfl⟩ rfl
  · exact hok opPolicyRead ⟨_, rfl⟩ rfl
  · exact hok opPairStatus ⟨_, rfl⟩ rfl
  · exact hok opEventRead ⟨_, rfl⟩ rfl
  · exact hok opEventStatus ⟨_, rfl⟩ rfl
  · exact hok opSoundStatus ⟨_, rfl⟩ rfl
  · exact hok opSoundCapture ⟨_, rfl⟩ rfl
  · exact hok opSoundResult ⟨_, rfl⟩ rfl
  · exact hok opTillerState ⟨_, rfl⟩ rfl
  · exact hok opChartStatus ⟨_, rfl⟩ rfl

end Sys2Proof.Machine

/-! PROOFS. Requests taken and responses posted, on the rings and over UDP (R380, R382, R385, R390–R392, R412). -/

namespace Sys2Proof.Machine

/-! ### Completing BARRIERs (R385) -/

/-- What does not look at the flights, nor at the count of completions, is kept while BARRIERs complete. -/
theorem State.settle_keeps {β : Type} (p : State → β) (s : State) (h : ∀ n tag x t, p (State.finish n tag x t) = p t) :
    p s.settle = p s := by
  unfold State.settle
  exact foldl_keeps p _ _ _ fun t f => h f.session f.tag _ t

/-- What holds of every flight and does not look at its answer, holds once an operation is completed. -/
theorem State.finish_forall {P : Flight → Prop} (hP : ∀ f x c, P f → P { f with resp := x, completed := c }) {n tag : Nat} {x : Resp}
    {s : State} (h : ∀ f ∈ s.mb.flights, P f) : ∀ f ∈ (s.finish n tag x).mb.flights, P f := by
  simp only [State.finish, State.finishIf, List.mem_map]
  rintro _ ⟨g, hg, rfl⟩
  split
  · exact hP _ _ _ (h g hg)
  · exact h g hg

theorem State.settle_forall {P : Flight → Prop} (hP : ∀ f x c, P f → P { f with resp := x, completed := c }) {s : State}
    (h : ∀ f ∈ s.mb.flights, P f) : ∀ f ∈ s.settle.mb.flights, P f := by
  unfold State.settle
  dsimp only
  generalize s.mb.flights.filter (fun f => f.resp.isNone && s.barrierDone f) = fs
  induction fs generalizing s with
  | nil => exact h
  | cons f fs ih => exact ih (State.finish_forall hP h)

/-! ### The rings (R380, R382) -/

section
variable {t : State}

theorem State.requestAccept_of_request (hserves : t.serves 1 = true) (hbarred : t.barred 1 = false) (hrequests : 0 < t.requests) :
    t.requestAccept = State.deliver 1
      (t.slotUnread (0x100000 + t.mb.reqCons.toNat % 256 * 4096) (t.messageLength (0x100000 + t.mb.reqCons.toNat % 256 * 4096)))
      (t.mb.mem.readBytes (0x100000 + t.mb.reqCons.toNat % 256 * 4096) 4096)
      (State.when (t.requests == 256) (State.irq Irq.reqSpace) { t with mb.reqCons := t.mb.reqCons + 1 }) :=
  if_neg (by simp [hserves, hbarred, Nat.pos_iff_ne_zero.mp hrequests])

theorem State.requestAccept_of_idle (h : t.serves 1 = false ∨ t.barred 1 = true ∨ t.requests = 0) : t.requestAccept = t :=
  if_pos (by simpa [or_assoc] using h)

theorem State.responsePost_of_next {n : Nat} {f : Flight} (hcan : t.canPost n = true) (hnext : t.nextPost n = some f) :
    t.responsePost n = (if f.endsUdp then (t.postNext n).closeUdp n else t.postNext n).offerWaiting := by
  simp only [State.responsePost, hcan, hnext, Bool.not_true, Bool.false_eq_true, if_false]

theorem State.responsePost_of_none {n : Nat} (h : t.canPost n = false ∨ t.nextPost n = none) : t.responsePost n = t := by
  unfold State.responsePost
  rcases h with h | h
  · simp [h]
  · simp [h]

theorem State.canPost_of_room (hserves : t.serves 1 = true) (hroom : (t.mb.rspProd - t.mb.rspCons).toNat < 256) :
    t.canPost 1 = true := by
  rw [State.canPost, hserves, decide_eq_true hroom]; rfl

theorem State.canPost_of_full (hfull : 256 ≤ (t.mb.rspProd - t.mb.rspCons).toNat) : t.canPost 1 = false := by
  rw [State.canPost, decide_eq_false (Nat.not_lt.mpr hfull)]; simp

/-- Only a session over UDP ends with one of its responses. -/
theorem Flight.endsUdp_of_lt {f : Flight} (h : f.session < 16) : f.endsUdp = false := by
  simp [Flight.endsUdp, Nat.not_le.mpr h]

theorem State.postNext_of_qspi {f : Flight} {x : Resp} (hcan : t.canPost 1 = true) (hnext : t.nextPost 1 = some f)
    (hresp : f.resp = some x) (hsession : f.session = 1) :
    t.postNext 1 = (State.ringResponse (f.bytes x) { t with mb.flights := t.mb.flights.filter (fun g => g.order != f.order) }).settle := by
  simp only [State.postNext, hcan, hnext, hresp, State.send, hsession, Bool.not_true, Bool.false_eq_true, if_false, if_true]

theorem State.offerWaiting_of_none (h : t.mb.waiting = []) : t.offerWaiting = t := by
  unfold State.offerWaiting
  rw [h, State.each_nil, ← h]

/-- A response of the QSPI session is written into its slot, and its tag leaves flight (R381, R382). -/
theorem State.responsePost_qspi {f : Flight} {x : Resp} (hcan : t.canPost 1 = true) (hnext : t.nextPost 1 = some f)
    (hresp : f.resp = some x) (hsession : f.session = 1) (hwaiting : t.mb.waiting = []) :
    (t.responsePost 1).mb.rspProd = t.mb.rspProd + 1 ∧
      (t.responsePost 1).mb.mem = t.mb.mem.writeBytes (0x200000 + t.mb.rspProd.toNat % 256 * 4096) (f.bytes x) ∧
      ∀ g ∈ (t.responsePost 1).mb.flights, g.order ≠ f.order := by
  have hpost := State.postNext_of_qspi hcan hnext hresp hsession
  have hwait : (t.postNext 1).mb.waiting = [] := by
    rw [hpost, State.settle_keeps (fun u : State => u.mb.waiting) _ fun _ _ _ _ => rfl]; exact hwaiting
  rw [State.responsePost_of_next hcan hnext, Flight.endsUdp_of_lt (by omega), if_neg Bool.false_ne_true,
    State.offerWaiting_of_none hwait, hpost]
  refine ⟨State.settle_keeps (fun u : State => u.mb.rspProd) _ fun _ _ _ _ => rfl,
    State.settle_keeps (fun u : State => u.mb.mem) _ fun _ _ _ _ => rfl, State.settle_forall (fun _ _ _ h => h) ?_⟩
  intro g hg
  simpa using (List.mem_filter.mp hg).2

/-! ### UDP (R391, R392) -/

theorem State.udpInside_of_new {v : UdpSession} {ip port : Nat} {d : List Byte} (hmac : v.macGood d = true)
    (hnew : v.seqNew (fieldAt ((d.drop 4).take (32 + fieldAt d 12 2)) 12 4) = true) (hroom : t.udpHeld < 256) :
    t.udpInside v ip port d = State.offer v.id ((d.drop 4).take (32 + fieldAt d 12 2))
      { t with tr.udp := t.tr.udp.map (fun x => if x.id == v.id then
        v.accept (fieldAt ((d.drop 4).take (32 + fieldAt d 12 2)) 12 4) ip port t.clock else x) } := by
  simp only [State.udpInside, hmac, hnew, Nat.not_le.mpr hroom, Bool.not_true, Bool.false_eq_true, if_false]

/-- Of a UDP session that has ended nothing is left (R391). -/
theorem State.closeUdp_gone (n : Nat) : (t.closeUdp n).udpSession n = none ∧ ∀ f ∈ (t.closeUdp n).mb.flights, f.session ≠ n := by
  unfold State.closeUdp
  constructor
  · rw [State.udpSession, State.settle_tr]
    simp
  · refine State.settle_forall (fun _ _ _ h => h) fun g hg => ?_
    simpa using (List.mem_filter.mp hg).2

end

/-- Settles O54: each clause is one rule of the rings or of UDP. -/
theorem requestsAndResponses : Obligations.RequestsAndResponses := by
  unfold Obligations.RequestsAndResponses
  refine ⟨?_, ?_, ?_, ?_, ?_, ?_, ?_, ?_, ?_, ?_, ?_, ?_, ?_, ?_⟩
  · intro a s t ht hserves hbarred hrequests
    subst ht
    exact ⟨_, rfl, congrArg _ (State.requestAccept_of_request hserves hbarred hrequests)⟩
  · intro a s t ht h
    subst ht
    exact congrArg _ (State.requestAccept_of_idle h)
  · intro a f x s t ht hserves hroom hnext hresp hsession hwaiting
    subst ht
    exact ⟨_, rfl, State.responsePost_qspi (State.canPost_of_room hserves hroom) hnext hresp hsession hwaiting⟩
  · intro a n f s t ht hcan hnext
    subst ht
    exact congrArg _ (State.responsePost_of_next hcan hnext)
  · intro a n s t ht h
    subst ht
    exact congrArg _ (State.responsePost_of_none h)
  · intro a s t ht hfull
    subst ht
    exact congrArg _ (State.responsePost_of_none (.inl (State.canPost_of_full hfull)))
  · intro a ip port bytes s t ht hlistens
    subst ht
    exact congrArg _ (if_pos (by simp [hlistens]))
  · intro a ip port bytes s t ht hlistens hzero
    subst ht
    simp only [exec, execUdpDatagram, hlistens, hzero, Bool.not_true, Bool.false_eq_true, if_false, if_true]
  · intro a ip port bytes s t ht hlistens hzero hnone
    subst ht
    simp only [exec, execUdpDatagram, hlistens, hzero, hnone, Bool.not_true, Bool.false_eq_true, if_false, State.refuseAuth]
  · intro a ip port bytes v s t ht hlistens hzero hsome
    subst ht
    simp only [exec, execUdpDatagram, hlistens, hzero, hsome, Bool.not_true, Bool.false_eq_true, if_false]
  · intro a ip port bytes v s t ht hlistens hzero hsome hmac hnew hroom
    subst ht
    simp only [exec, execUdpDatagram, hlistens, hzero, hsome, Bool.not_true, Bool.false_eq_true, if_false,
      State.udpInside_of_new hmac hnew hroom]
  · intro a session v s t ht hsome hidle
    subst ht
    refine ⟨?_, State.closeUdp_gone session⟩
    simp only [exec, execUdpSessionIdle, hsome, hidle, if_true]
  · intro a s t ht hrefused hlast
    subst ht
    exact ⟨_, congrArg Host.Outcome.next (if_neg (by rw [hlast, decide_eq_false hrefused]; decide)), rfl, rfl⟩
  · intro a s t ht h
    subst ht
    exact congrArg _ (if_pos (by rcases h with h | h <;> simp only [h, decide_true, Bool.true_or, Bool.or_true]))

end Sys2Proof.Machine

/-! PROOFS. What the functions of the supplies, the field sides, the ports and the Mirror link leave of the state (R443–R444, R519–R538). -/

namespace Sys2Proof.Machine

/-! ### The field sides: the MRAM and the sheaf counters below the channels' (R247, R455) -/

/-- The MRAM and what the sheaf counters owe that do not count a channel's switching. -/
def State.tally (s : State) : Tbl Byte × (Fin 8 → Nat) := (s.nv.mem, fun c => s.nv.sheaf.get c)

theorem State.tally_eq_iff {s t : State} :
    s.tally = t.tally ↔ s.nv.mem = t.nv.mem ∧ ∀ c, c < 8 → s.nv.sheaf.get c = t.nv.sheaf.get c := by
  simp only [State.tally, Prod.mk.injEq, funext_iff, Fin.forall_iff]

theorem State.tally_of_nv {s t : State} (h : s.nv = t.nv) : s.tally = t.tally := by
  rw [State.tally, h, State.tally]

theorem State.count_tally {n : Nat} (hn : 8 ≤ n) (k : Nat) (s : State) : (s.count n k).tally = s.tally :=
  State.tally_eq_iff.mpr ⟨rfl, fun c hc => Tbl.get_upd_other s.nv.sheaf n c (· + k) (by omega)⟩

@[simp] theorem State.chPin_tally (n : Nat) (s : State) : (s.chPin n).tally = s.tally := by
  unfold State.chPin
  dsimp only
  split
  · rfl
  · split
    · exact State.count_tally (by omega) 1 _
    · rfl

@[simp] theorem State.chLevel_tally (n : Nat) (on : Bool) (s : State) : (s.chLevel n on).tally = s.tally := State.chPin_tally ..

@[simp] theorem State.fieldEvent_tally (g sev code : Nat) (payload : List Byte) (target : Nat) (s : State) :
    (s.fieldEvent g sev code payload target).tally = s.tally := by
  unfold State.fieldEvent
  dsimp only
  (repeat' split) <;> rfl

@[simp] theorem State.enterSafe_tally (g : Nat) (s : State) : (s.enterSafe g).tally = s.tally :=
  (State.fieldEvent_tally ..).trans (State.each_keeps State.tally _ _ _ fun _ _ => State.chLevel_tally ..)

@[simp] theorem State.linkStart_tally (g : Nat) (s : State) : (s.linkStart g).tally = s.tally := by
  unfold State.linkStart
  dsimp only
  split
  · exact (State.enterSafe_tally ..).trans (State.each_keeps State.tally _ _ _ fun _ _ => rfl)
  · exact State.each_keeps State.tally _ _ _ fun _ _ => rfl

@[simp] theorem State.barrierOn_tally (s : State) : s.barrierOn.tally = s.tally :=
  State.each_keeps State.tally _ _ _ fun _ _ => rfl

@[simp] theorem State.barrierOn_offField (s : State) : s.barrierOn.offField = s.offField :=
  State.each_keeps State.offField _ _ _ fun _ _ => rfl

@[simp] theorem State.groupUnpowered_tally (g : Nat) (s : State) : (s.groupUnpowered g).tally = s.tally := by
  unfold State.groupUnpowered State.groupPowerOn
  dsimp only
  split
  · rfl
  · exact State.each_keeps State.tally _ _ _ fun _ _ => State.chPin_tally ..

@[simp] theorem State.groupUnpowered_offField (g : Nat) (s : State) : (s.groupUnpowered g).offField = s.offField := by
  unfold State.groupUnpowered State.groupPowerOn
  dsimp only
  split
  · rfl
  · exact State.each_keeps State.offField _ _ _ fun _ _ => State.chPin_offField ..

@[simp] theorem State.sleepBarrier_offField (s : State) : s.sleepBarrier.offField = s.offField := by
  unfold State.sleepBarrier
  split
  · exact State.each_keeps State.offField _ _ _ State.groupUnpowered_offField
  · rfl

/-! ### The record store and the sheaf -/

/-- The MRAM and what the sheaf owes. -/
def State.memorySheaf (s : State) : Tbl Byte × Tbl Nat := (s.nv.mem, s.nv.sheaf)

@[simp] theorem State.loadLedger_nv (s : State) : s.loadLedger.nv = s.nv := by
  unfold State.loadLedger
  dsimp only
  (repeat' split) <;> rfl

@[simp] theorem State.chartInterrupt_memorySheaf (s : State) : s.chartInterrupt.memorySheaf = s.memorySheaf := by
  unfold State.chartInterrupt
  split
  · rfl
  · simp only [State.memorySheaf, State.loadLedger_nv]
    rfl

@[simp] theorem State.discardPlan_nv (cause : Nat) (s : State) : (s.discardPlan cause).nv = s.nv := by
  unfold State.discardPlan
  split <;> rfl

@[simp] theorem State.discardPlan_sup (cause : Nat) (s : State) : (s.discardPlan cause).sup = s.sup := by
  unfold State.discardPlan
  split <;> rfl

@[simp] theorem State.chartInterrupt_sup (s : State) : s.chartInterrupt.sup = s.sup := by
  have hload : ∀ t : State, t.loadLedger.sup = t.sup := by
    intro t
    unfold State.loadLedger
    dsimp only
    (repeat' split) <;> rfl
  unfold State.chartInterrupt
  split
  · rfl
  · exact hload _

theorem State.refreshEconomy_memorySheaf (s : State) : s.refreshEconomy.memorySheaf = s.memorySheaf := by
  have hlower : ∀ t : State, (t.lower [Rdy.waypoint]).memorySheaf = t.memorySheaf := fun t => by
    rw [State.memorySheaf, State.lower_nv, State.memorySheaf]
  have hplan : (s.discardPlan 3).memorySheaf = s.memorySheaf := by
    rw [State.memorySheaf, State.discardPlan_nv, State.memorySheaf]
  unfold State.refreshEconomy
  dsimp only
  split
  · rfl
  · split
    · exact (hlower _).trans ((State.chartInterrupt_memorySheaf _).trans hplan)
    · rfl

/-- ECONOMY alone changes of the supplies (R536). -/
theorem State.refreshEconomy_sup (s : State) : ∃ economy, s.refreshEconomy.sup = { s.sup with economy := economy } := by
  unfold State.refreshEconomy
  dsimp only
  split
  · exact ⟨s.sup.economy, rfl⟩
  · split
    · refine ⟨true, ?_⟩
      change { (State.lower _ _).sup with economy := true } = _
      rw [State.lower_sup, State.chartInterrupt_sup, State.discardPlan_sup]
    · exact ⟨false, rfl⟩

/-! ### The ports and the Mirror link -/

/-- A state without its building bus, its READY word and what an update of that records and interrupts. -/
def State.offPorts (s : State) : State := { s with ready := 0, bus := {}, log := {}, mb := { s.mb with irqStatus := 0 } }

theorem State.updateReady_offPorts (sets clears : List Nat) (s : State) : (s.updateReady sets clears).offPorts = s.offPorts := by
  have hrecord : ∀ (w : Word32) (b : Nat) (t : State), (t.readyRecord w b).offPorts = t.offPorts := fun w b t => by
    unfold State.readyRecord
    split <;> rfl
  unfold State.updateReady
  dsimp only
  split
  · rfl
  · exact (foldl_keeps State.offPorts _ _ _ fun _ _ => hrecord ..).trans rfl

@[simp] theorem State.queueFrame_offPorts (p : Nat) (f : TxFrame) (s : State) : (s.queueFrame p f).offPorts = s.offPorts := by
  obtain ⟨ports, h⟩ := s.queueFrame_ports p f
  rw [h]
  rfl

@[simp] theorem State.fdRegister_offPorts (s : State) : s.fdRegister.offPorts = s.offPorts := by
  unfold State.fdRegister
  split
  · rfl
  · exact State.queueFrame_offPorts ..

@[simp] theorem State.greet_offPorts (s : State) : s.greet.offPorts = s.offPorts :=
  State.each_keeps State.offPorts _ _ _ fun _ _ => State.queueFrame_offPorts ..

@[simp] theorem State.scFlush_offPorts (s : State) : s.scFlush.offPorts = s.offPorts := by
  unfold State.scFlush
  split <;> rfl

@[simp] theorem State.scEnter_offPorts (x : ScState) (code : Nat) (s : State) : (s.scEnter x code).offPorts = s.offPorts := by
  have hrecord : ∀ t : State, (t.scRecord code).offPorts = t.offPorts := fun _ => rfl
  unfold State.scEnter
  dsimp only
  rw [State.scFlush_offPorts]
  split
  · split
    · exact State.queueFrame_offPorts ..
    · rfl
  · rw [hrecord]
    split
    · exact State.queueFrame_offPorts ..
    · rfl

@[simp] theorem State.scCheck_offPorts (s : State) : s.scCheck.offPorts = s.offPorts := by
  unfold State.scCheck
  dsimp only
  (repeat' split) <;> simp

/-- The ports that come up or go change the building bus, their READY bits and what these record alone. -/
@[simp] theorem State.refreshPorts_offPorts (s : State) : s.refreshPorts.offPorts = s.offPorts := by
  unfold State.refreshPorts
  split
  · rfl
  · rw [State.greet_offPorts, State.when_keeps State.offPorts _ _ _ State.fdRegister_offPorts, State.scCheck_offPorts,
      State.updateReady_offPorts]

@[simp] theorem State.refreshPorts_sen (s : State) : s.refreshPorts.sen = s.sen := (congrArg State.sen s.refreshPorts_offPorts :)

@[simp] theorem State.refreshPorts_nv (s : State) : s.refreshPorts.nv = s.nv := (congrArg State.nv s.refreshPorts_offPorts :)

@[simp] theorem State.refreshPorts_flights (s : State) : s.refreshPorts.mb.flights = s.mb.flights :=
  (congrArg (fun t : State => t.mb.flights) s.refreshPorts_offPorts :)

/-- The sensors and the lanes of the Mirror link. -/
def State.lanes (s : State) : Sensors × Nat × Nat := (s.sen, s.pair.lanesIn, s.pair.lanesOut)

theorem State.lanes_of {s t : State} (hsen : s.sen = t.sen) (hpair : s.pair = t.pair) : s.lanes = t.lanes := by
  rw [State.lanes, hsen, hpair, State.lanes]

@[simp] theorem State.releaseAnswers_lanes (s : State) : s.releaseAnswers.lanes = s.lanes :=
  State.each_keeps State.lanes _ _ _ fun _ _ => State.lanes_of (State.answer_sen ..) (State.answer_pair ..)

@[simp] theorem State.abandonHandover_lanes (s : State) : s.abandonHandover.lanes = s.lanes := by
  unfold State.abandonHandover
  split <;> rfl

@[simp] theorem State.refreshMirror_lanes (s : State) : s.refreshMirror.lanes = s.lanes := by
  unfold State.refreshMirror
  split
  · exact State.lanes_of (State.updateReady_sen ..) (State.updateReady_pair ..)
  · split
    · exact (State.lanes_of (State.lower_sen ..) (State.lower_pair ..)).trans
        ((State.abandonHandover_lanes _).trans (State.releaseAnswers_lanes s))
    · rfl

end Sys2Proof.Machine

/-! PROOFS. Resets that hold the module (R19, R34, R35, R526) and its starts (R529, R538). -/

namespace Sys2Proof.Machine

/-! ### The module held in reset -/

theorem State.powered_of_ne_off {t : State} (h : t.sup.state ≠ SupplyState.off) : t.powered = true := by
  simpa [State.powered] using h

/-- A reset of the module holds it with its cause; the MRAM, the Almanac domain and the queue of commands stand. -/
theorem State.hold_moduleReset (cause : Nat) (island : Bool) (t : State) :
    Safety.HeldInReset cause t ((t.moduleReset island).hold cause) :=
  ⟨rfl, rfl, rfl, rfl, rfl, rfl, rfl, rfl, rfl⟩

section
variable {a : At} {s t : State} (ht : t = s.advance a) (hon : t.sup.state ≠ SupplyState.off)
include ht hon

theorem execResetNAsserted_holds (hnot : t.bin.resetHeld ≠ 3) :
    execResetNAsserted a s = .next ((t.moduleReset true).hold 3) := by
  unfold execResetNAsserted
  rw [← ht]
  exact congrArg _ (if_pos (by simp [State.powered_of_ne_off hon, hnot]))

theorem execRailLost_holds {rail mv : Nat} (hfree : t.bin.resetHeld = 0) (hrail : rail ≤ 1) (hlow : mv < 720) :
    ∃ u, execRailLost a rail mv s = .next u ∧ Safety.HeldInReset 2 t u := by
  unfold execRailLost
  rw [← ht]
  exact ⟨_, congrArg Host.Outcome.next (if_pos (by simp [State.powered_of_ne_off hon, hfree, lostRail, hrail, hlow])),
    ⟨rfl, rfl, rfl, rfl, rfl, rfl, rfl, rfl, rfl⟩⟩

theorem execThermalReset_holds (hfree : t.bin.resetHeld = 0) (hhot : 10 ≤ t.sen.hotRun) :
    execThermalReset a s = .next ((t.moduleReset true).hold 5) := by
  unfold execThermalReset
  rw [← ht]
  exact congrArg _ (if_pos (by simp [State.powered_of_ne_off hon, hfree, hhot]))

theorem execLdLost_holds (island : Bool) : ∃ u, execLdLost a island s = .next u ∧ Safety.HeldInReset 7 t u := by
  unfold execLdLost
  rw [← ht]
  refine ⟨_, congrArg Host.Outcome.next (if_neg (by simp [State.powered_of_ne_off hon])), ?_⟩
  cases island <;> exact ⟨rfl, rfl, rfl, rfl, rfl, rfl, rfl, rfl, rfl⟩

end

/-- Settles O7: each of the four resets is State.moduleReset, held with its cause. -/
theorem resetsHoldTheModule : Obligations.ResetsHoldTheModule := by
  unfold Obligations.ResetsHoldTheModule
  refine ⟨?_, ?_, ?_, ?_⟩
  · intro a s t ht hon hnot
    exact ⟨_, execResetNAsserted_holds ht hon hnot, State.hold_moduleReset ..⟩
  · intro a rail mv s t ht hon hfree hrail hlow
    exact execRailLost_holds ht hon hfree hrail hlow
  · intro a s t ht hon hfree hhot
    exact ⟨_, execThermalReset_holds ht hon hfree hhot, State.hold_moduleReset ..⟩
  · intro a island s t ht hon
    exact execLdLost_holds ht hon island

end Sys2Proof.Machine

/-! PROOFS. The starts of the module (R455, R526, R529, R538). -/

namespace Sys2Proof.Machine

/-! ### Time zero of the timeline -/

/-- A start's causes are kept, and no reset is held (R526, R341). -/
def State.withCause (cause : Nat) (s : State) : State :=
  { s with bin.resetHeld := 0, bin.resetCause := cause, bin.supplyAtStart := s.sup.state.code, svc.restartReason := restartReasonOf cause }

theorem State.count_tally_congr {s t : State} (n k : Nat) (h : s.tally = t.tally) : (s.count n k).tally = (t.count n k).tally := by
  obtain ⟨hmem, hsheaf⟩ := State.tally_eq_iff.mp h
  refine State.tally_eq_iff.mpr ⟨hmem, fun c hc => ?_⟩
  change (s.nv.sheaf.upd n (· + k)).get c = (t.nv.sheaf.upd n (· + k)).get c
  by_cases hcn : c = n
  · rw [hcn, Tbl.get_upd_same, Tbl.get_upd_same, ← hcn, hsheaf c hc]
  · rw [Tbl.get_upd_other _ _ _ _ hcn, Tbl.get_upd_other _ _ _ _ hcn, hsheaf c hc]

theorem State.startUp_testHold {cause : Nat} {s : State} (h : s.sup.testHold = true) : s.startUp cause = s.withCause cause :=
  if_pos h

/-- BINNACLE rises after barrier power and the barrier links, which change the field sides alone. -/
theorem State.startUp_runs {cause : Nat} {s : State} (h : s.sup.testHold = false) :
    ∃ v : State, s.startUp cause = v.updateReady [Rdy.binnacle] [] ∧ v.offField = (s.withCause cause).offField ∧
      v.tally = ((s.withCause cause).count 1 1).tally := by
  have hoff : ((s.withCause cause).when (cause == 1 || cause == 6) State.barrierOn).offField = (s.withCause cause).offField :=
    State.when_keeps State.offField _ _ _ State.barrierOn_offField
  have htally : ((s.withCause cause).when (cause == 1 || cause == 6) State.barrierOn).tally = (s.withCause cause).tally :=
    State.when_keeps State.tally _ _ _ State.barrierOn_tally
  exact ⟨_, if_neg (by simp [h]), (State.each_keeps State.offField _ _ _ State.linkStart_offField).trans hoff,
    (State.each_keeps State.tally _ _ _ State.linkStart_tally).trans (State.count_tally_congr 1 1 htally)⟩

/-- What a start leaves and what it counts. -/
theorem State.startUp_started (cause : Nat) (s : State) : Safety.Started cause s.sup.testHold s (s.startUp cause) := by
  cases htest : s.sup.testHold with
  | true =>
    rw [State.startUp_testHold htest]
    exact ⟨rfl, rfl, rfl, nofun, rfl⟩
  | false =>
    obtain ⟨v, hv, hoff, htally⟩ := State.startUp_runs (cause := cause) htest
    have hbin : v.bin = (s.withCause cause).bin := (congrArg State.bin hoff :)
    have hpending : v.pending = s.pending := (congrArg State.pending hoff :)
    obtain ⟨hmem, hsheaf⟩ := State.tally_eq_iff.mp htally
    have hready : (v.updateReady [Rdy.binnacle] []).rdy Rdy.binnacle = true := by
      rw [State.rdy, State.updateReady_ready]
      exact readyNext_binnacle _ _ _ (List.mem_singleton_self _) List.not_mem_nil
    have hone : v.nv.sheaf.get 1 = s.nv.sheaf.get 1 + 1 :=
      (hsheaf 1 (by omega)).trans (Tbl.get_upd_same s.nv.sheaf 1 (· + 1))
    rw [hv]
    exact ⟨by rw [State.updateReady_bin, hbin]; rfl, by rw [State.updateReady_bin, hbin]; rfl,
      by rw [State.updateReady_nv, hmem]; rfl, fun _ => ⟨hready, by rw [State.updateReady_nv, hone]⟩,
      by rw [State.updateReady_pending, hpending]⟩

/-- A start changes neither the supplies nor the pair. -/
theorem State.startUp_supplies (cause : Nat) (s : State) : (s.startUp cause).sup = s.sup ∧ (s.startUp cause).pair = s.pair := by
  cases htest : s.sup.testHold with
  | true =>
    rw [State.startUp_testHold htest]
    exact ⟨rfl, rfl⟩
  | false =>
    obtain ⟨v, hv, hoff, -⟩ := State.startUp_runs (cause := cause) htest
    rw [hv, State.updateReady_sup, State.updateReady_pair]
    exact ⟨(congrArg State.sup hoff :), (congrArg State.pair hoff :)⟩

/-! ### The power path leaves the MRAM -/

theorem State.supplyTo_memory (x : SupplyState) (s : State) : (s.supplyTo x).nv.mem = s.nv.mem := by
  unfold State.supplyTo
  refine (congrArg Prod.fst (State.refreshEconomy_memorySheaf _)).trans ?_
  cases x <;> (dsimp only; split <;> rfl)

theorem State.supplyTo_pending (x : SupplyState) (s : State) : (s.supplyTo x).pending = s.pending :=
  (State.supplyTo_intact (Intact.refl s.head)).1

/-! ### The commands -/

section
variable {a : At} {s t : State} (ht : t = s.advance a)
include ht

theorem execPowerOnStart_starts {second test : Bool} (hoff : t.sup.state = SupplyState.off) (hsamples : 20 ≤ t.sup.startSamples) :
    ∃ u, execPowerOnStart a second test s = .next u ∧ Safety.Started 1 test t u ∧ u.pair.strapSecond = second ∧
      u.sup.state = (if t.sup.mainPresent then SupplyState.main else SupplyState.backup) := by
  unfold execPowerOnStart
  rw [← ht]
  refine ⟨_, congrArg Host.Outcome.next (if_neg (by simp [State.powered, hoff, hsamples])), ?_⟩
  dsimp only
  have hpower : ∀ (c : Bool) (v : State), (v.when c State.domainPowerOn).sup = v.sup ∧ (v.when c State.domainPowerOn).pair = v.pair ∧
      (v.when c State.domainPowerOn).nv = v.nv ∧ (v.when c State.domainPowerOn).pending = v.pending := fun c v => by
    cases c <;> exact ⟨rfl, rfl, rfl, rfl⟩
  obtain ⟨hsup, hpair, hnv, hpending⟩ := hpower t.alm.dead { t with
      sup.state := if t.sup.mainPresent then SupplyState.main else SupplyState.backup
      sup.testHold := test, pair.strapSecond := second }
  generalize State.when _ State.domainPowerOn _ = u at hsup hpair hnv hpending
  obtain ⟨hcause, hheld, hmram, hruns, hqueue⟩ := State.startUp_started 1 u
  obtain ⟨hksup, hkpair⟩ := State.startUp_supplies 1 u
  have htest : u.sup.testHold = test := by rw [hsup]
  exact ⟨⟨hcause, hheld, by rw [hmram, hnv], fun h => by rw [← hnv]; exact hruns (htest.trans h), by rw [hqueue, hpending]⟩,
    by rw [hkpair, hpair], by rw [hksup, hsup]⟩

section
variable (hon : t.sup.state ≠ SupplyState.off)
include hon

theorem execResetNReleased_starts (hheld : t.bin.resetHeld = 3) : execResetNReleased a s = .next (t.startUp 3) := by
  unfold execResetNReleased
  rw [← ht]
  exact congrArg _ (if_pos (by simp [State.powered_of_ne_off hon, hheld]))

theorem execRailGoodRelease_starts (hheld : t.bin.resetHeld = 2) (hgood : 10 ≤ t.sen.heldGood) :
    execRailGoodRelease a s = .next (t.startUp 2) := by
  unfold execRailGoodRelease
  rw [← ht]
  exact congrArg _ (if_pos (by simp [State.powered_of_ne_off hon, hheld, hgood]))

theorem execThermalResetRelease_starts (hheld : t.bin.resetHeld = 5) (hcool : (t.sen.temps.get 0).value < 11500) :
    execThermalResetRelease a s = .next (t.startUp 5) := by
  unfold execThermalResetRelease
  rw [← ht]
  exact congrArg _ (if_pos (by simp [State.powered_of_ne_off hon, hheld, hcool]))

end

theorem execWake_starts {source : Nat} (hasleep : t.sup.asleep = true) (hwakes : t.wakes source = true) :
    execWake a source s = .next (State.startUp 6 ((if source = 0 then t.supplyTo .main else t).moduleReset true)) := by
  unfold execWake
  rw [← ht]
  exact congrArg _ (if_pos (by simp [hasleep, hwakes]))

end

/-- A wake resets the module and starts it: the reset ends SLEEP, and nothing was owed to the sheaf (R538). -/
theorem State.wake_starts (t : State) :
    ((t.moduleReset true).startUp 6).bin.resetCause = 6 ∧ ((t.moduleReset true).startUp 6).sup.asleep = false ∧
      ((t.moduleReset true).startUp 6).nv.mem = t.nv.mem ∧ ((t.moduleReset true).startUp 6).pending = t.pending ∧
      (t.sup.testHold = false → ((t.moduleReset true).startUp 6).rdy Rdy.binnacle = true ∧
        ((t.moduleReset true).startUp 6).nv.sheaf.get 1 = 1) := by
  obtain ⟨hcause, -, hmram, hruns, hqueue⟩ := State.startUp_started 6 (t.moduleReset true)
  refine ⟨hcause, ?_, hmram, hqueue, fun h => hruns h⟩
  rw [(State.startUp_supplies 6 (t.moduleReset true)).1]
  rfl

theorem State.supplyTo_testHold (x : SupplyState) (s : State) : (s.supplyTo x).sup.testHold = s.sup.testHold := by
  unfold State.supplyTo
  dsimp only
  obtain ⟨economy, h⟩ := State.refreshEconomy_sup _
  rw [h]
  cases x <;> (dsimp only; split <;> rfl)

/-- Settles O8: each start is State.startUp with its cause. -/
theorem startsOfTheModule : Obligations.StartsOfTheModule := by
  unfold Obligations.StartsOfTheModule
  refine ⟨?_, ?_, ?_, ?_, ?_⟩
  · intro a second test s t ht hoff hsamples
    exact execPowerOnStart_starts ht hoff hsamples
  · intro a s t ht hon hheld
    exact ⟨_, execResetNReleased_starts ht hon hheld, State.startUp_started 3 t⟩
  · intro a s t ht hon hheld hgood
    exact ⟨_, execRailGoodRelease_starts ht hon hheld hgood, State.startUp_started 2 t⟩
  · intro a s t ht hon hheld hcool
    exact ⟨_, execThermalResetRelease_starts ht hon hheld hcool, State.startUp_started 5 t⟩
  · intro a source s t ht hasleep hwakes
    refine ⟨_, execWake_starts ht hasleep hwakes, ?_⟩
    split
    · have h := State.wake_starts (t.supplyTo .main)
      rwa [State.supplyTo_memory, State.supplyTo_pending, State.supplyTo_testHold] at h
    · exact State.wake_starts t

end Sys2Proof.Machine

/-! PROOFS. The supplies, collapse, SLEEP and the crystal (R39, R443–R444, R519–R525, R536–R538). -/

namespace Sys2Proof.Machine

/-! ### The power path between MAIN and BACKUP -/

/-- The supplies on a path, once its change is recorded: of them ECONOMY alone moves further (R522, R536). -/
theorem State.supplyTo_sup (x : SupplyState) (s : State) :
    ∃ economy, (s.supplyTo x).sup = { s.sup.toState x with economy := economy } := by
  unfold State.supplyTo
  dsimp only
  obtain ⟨economy, h⟩ := State.refreshEconomy_sup _
  refine ⟨economy, h.trans ?_⟩
  cases x <;> (dsimp only; split <;> rfl)

theorem State.supplyTo_sheaf_main (s : State) : (s.supplyTo .main).nv.sheaf = s.nv.sheaf := by
  unfold State.supplyTo
  refine (congrArg Prod.snd (State.refreshEconomy_memorySheaf _)).trans ?_
  dsimp only
  split <;> rfl

theorem State.supplyTo_sheaf_backup {s : State} (h : s.rdy Rdy.binnacle = true) :
    (s.supplyTo .backup).nv.sheaf = s.nv.sheaf.upd 3 (· + 1) := by
  unfold State.supplyTo
  refine (congrArg Prod.snd (State.refreshEconomy_memorySheaf _)).trans ?_
  dsimp only
  have hready : State.rdy { s with sup := s.sup.toState .backup } Rdy.binnacle = true := h
  rw [if_neg (by simp [hready])]
  rfl

theorem State.firstMeasure_nv (s : State) : s.firstMeasure.nv = s.nv := by
  unfold State.firstMeasure
  split <;> rfl

theorem State.firstMeasure_sup (s : State) : ∃ measuring, s.firstMeasure.sup = { s.sup with measuring := measuring } := by
  unfold State.firstMeasure
  split
  · exact ⟨true, rfl⟩
  · exact ⟨s.sup.measuring, rfl⟩

/-- The state with a sample of the supplies taken. -/
def State.sampled (vmain vback vhold : Nat) (s : State) : State :=
  { s with sup := { s.sup.sample vmain vback vhold with sampledAt := some s.clock } }

theorem State.sampledAt_due {t : State} (h : ∀ c, t.sup.sampledAt = some c → c + 50 ≤ t.clock) :
    t.sup.sampledAt.any (fun c => decide (t.clock < c + 50)) = false := by
  cases hc : t.sup.sampledAt with
  | none => rfl
  | some c => simpa using h c hc

section
variable {a : At} {s t : State} (ht : t = s.advance a)
include ht

/-- A sample that leaves the power path where it is. -/
theorem execSupplySample_stays {vmain vback vhold : Nat} (hdue : ∀ c, t.sup.sampledAt = some c → c + 50 ≤ t.clock)
    (hstay : ¬ (t.sup.state = .main ∧ (t.sup.sample vmain vback vhold).mainPresent = false ∧
      (t.sup.sample vmain vback vhold).backPresent = true)) :
    execSupplySample a vmain vback vhold s = .next (t.sampled vmain vback vhold).firstMeasure := by
  unfold execSupplySample
  rw [← ht]
  dsimp only
  rw [State.sampledAt_due hdue, if_neg (by simp)]
  refine congrArg (fun u => Host.Outcome.next (State.firstMeasure u)) (if_neg fun h => hstay ?_)
  have hsample : (t.sup.sample vmain vback vhold).state = .main ∧ (t.sup.sample vmain vback vhold).mainPresent = false ∧
      (t.sup.sample vmain vback vhold).backPresent = true := by simpa [and_assoc] using h
  exact hsample

/-- A sample without VMAIN, with VBACK present: MAIN is left for BACKUP. -/
theorem execSupplySample_switches {vmain vback vhold : Nat} (hdue : ∀ c, t.sup.sampledAt = some c → c + 50 ≤ t.clock)
    (hmain : t.sup.state = .main) (hlost : (t.sup.sample vmain vback vhold).mainPresent = false)
    (hback : (t.sup.sample vmain vback vhold).backPresent = true) :
    execSupplySample a vmain vback vhold s = .next ((t.sampled vmain vback vhold).supplyTo .backup).firstMeasure := by
  unfold execSupplySample
  rw [← ht]
  dsimp only
  rw [State.sampledAt_due hdue, if_neg (by simp)]
  have hstate : (t.sup.sample vmain vback vhold).state = .main := hmain
  exact congrArg (fun u => Host.Outcome.next (State.firstMeasure u)) (if_pos (by simp [hstate, hlost, hback]))

theorem execSupplySample_path {vmain vback vhold : Nat} {p : Supply}
    (hdue : ∀ c, t.sup.sampledAt = some c → c + 50 ≤ t.clock) (hp : p = t.sup.sample vmain vback vhold) :
    ∃ v, execSupplySample a vmain vback vhold s = .next v ∧ v.sup.vmain = (vmain :: t.sup.vmain).take 20 ∧
      v.sup.vback = vback ∧ v.sup.vhold = vhold ∧
      v.sup.state = (if t.sup.state = SupplyState.main ∧ p.mainPresent = false ∧ p.backPresent = true then SupplyState.backup
        else t.sup.state) ∧
      (t.sup.state = SupplyState.main → p.mainPresent = false → p.backPresent = true → t.rdy Rdy.binnacle = true →
        v.nv.sheaf.get 3 = t.nv.sheaf.get 3 + 1) := by
  subst hp
  by_cases hleave : t.sup.state = .main ∧ (t.sup.sample vmain vback vhold).mainPresent = false ∧
      (t.sup.sample vmain vback vhold).backPresent = true
  · obtain ⟨hmain, hlost, hback⟩ := hleave
    refine ⟨_, execSupplySample_switches ht hdue hmain hlost hback, ?_⟩
    obtain ⟨measuring, hsup⟩ := ((t.sampled vmain vback vhold).supplyTo .backup).firstMeasure_sup
    obtain ⟨economy, hpath⟩ := (t.sampled vmain vback vhold).supplyTo_sup .backup
    have hcount : t.rdy Rdy.binnacle = true →
        ((t.sampled vmain vback vhold).supplyTo .backup).firstMeasure.nv.sheaf.get 3 = t.nv.sheaf.get 3 + 1 := fun h => by
      rw [State.firstMeasure_nv, State.supplyTo_sheaf_backup (s := t.sampled vmain vback vhold) h]
      exact Tbl.get_upd_same t.nv.sheaf 3 (· + 1)
    rw [hsup, hpath, if_pos ⟨hmain, hlost, hback⟩]
    exact ⟨rfl, rfl, rfl, rfl, fun _ _ _ => hcount⟩
  · refine ⟨_, execSupplySample_stays ht hdue hleave, ?_⟩
    obtain ⟨measuring, hsup⟩ := (t.sampled vmain vback vhold).firstMeasure_sup
    rw [hsup, if_neg hleave]
    exact ⟨rfl, rfl, rfl, rfl, fun h1 h2 h3 => absurd ⟨h1, h2, h3⟩ hleave⟩

theorem execSwitchToMain_switches (hbackup : t.sup.state = .backup) (hawake : t.sup.asleep = false)
    (hmain : 2000 ≤ t.sup.mainSamples ∨ (t.sup.backPresent = false ∧ t.sup.meanAtLeast 16000 = true)) :
    execSwitchToMain a s = .next (t.supplyTo .main) := by
  unfold execSwitchToMain
  rw [← ht]
  exact congrArg _ (if_pos (by simpa [hbackup, hawake] using hmain))

/-! ### The NV-good condition -/

theorem execNvGoodChange_returns (hon : t.sup.state ≠ .off) (hbad : t.nv.good = false) (hhigh : 12000 ≤ t.sup.vhold) :
    ∃ u, execNvGoodChange a s = .next u ∧ u.nv.good = true ∧ u.nv.mem = t.nv.mem ∧ u.nv.queue = t.nv.queue := by
  unfold execNvGoodChange
  rw [← ht]
  dsimp only
  rw [if_neg (by simp [State.powered_of_ne_off hon]), if_neg (by simp [hbad]), if_pos (by simp [hbad, hhigh])]
  have hkeeps : ∀ (c : Bool) (f : State → List Byte) (w : State), (w.when c (fun v => v.record3 2 2 0x0007 (f v) 0)).nv = w.nv :=
    fun c f w => by cases c <;> rfl
  refine ⟨_, rfl, ?_⟩
  rw [hkeeps]
  exact ⟨rfl, rfl, rfl⟩

theorem execNvGoodChange_goes (hon : t.sup.state ≠ .off) (hgood : t.nv.good = true) (hlow : t.sup.vhold < 11500) :
    execNvGoodChange a s = .next { t with nv.good := false } := by
  unfold execNvGoodChange
  rw [← ht]
  dsimp only
  rw [if_neg (by simp [State.powered_of_ne_off hon]), if_pos (by simp [hgood, hlow])]

theorem execNvGoodChange_between (hlow : 11500 ≤ t.sup.vhold) (hhigh : t.sup.vhold < 12000) : execNvGoodChange a s = .next t := by
  have hnlow : ¬ t.sup.vhold < 11500 := by omega
  have hnhigh : ¬ 12000 ≤ t.sup.vhold := by omega
  unfold execNvGoodChange
  rw [← ht]
  dsimp only
  rw [if_neg (by simp [hnlow] : ¬ (t.nv.good && decide (t.sup.vhold < 11500)) = true),
    if_neg (by simp [hnhigh] : ¬ (!t.nv.good && decide (12000 ≤ t.sup.vhold)) = true), ite_self]

end

/-- Settles O9: what a sample, the return of VMAIN and the hold-up voltage change. -/
theorem suppliesAndNvGood : Obligations.SuppliesAndNvGood := by
  unfold Obligations.SuppliesAndNvGood
  refine ⟨?_, ?_, ?_, ?_, ?_⟩
  · intro a vmain vback vhold s t p ht hdue hp
    exact execSupplySample_path ht hdue hp
  · intro a s t ht hbackup hawake hmain
    refine ⟨_, execSwitchToMain_switches ht hbackup hawake hmain, ?_, State.supplyTo_sheaf_main t⟩
    obtain ⟨economy, hsup⟩ := t.supplyTo_sup .main
    rw [hsup]
    rfl
  · intro a s t ht hon hbad hhigh
    exact execNvGoodChange_returns ht hon hbad hhigh
  · intro a s t ht hon hgood hlow
    exact execNvGoodChange_goes ht hon hgood hlow
  · intro a s t ht hlow hhigh
    exact execNvGoodChange_between ht hlow hhigh

/-! ### Collapse and the end of the hold-up -/

/-- What no record written in the Logbook reaches of the store and the supplies. -/
theorem State.recordWritten_keeps (r : LogRec) (slot seq : Nat) (s : State) :
    (State.recordWritten r slot seq s).nv = s.nv ∧ (State.recordWritten r slot seq s).sup = s.sup := by
  have hwindow : ∀ (n : Nat) (t : State), (t.openWindow n).nv = t.nv ∧ (t.openWindow n).sup = t.sup := by
    intro n t
    unfold State.openWindow
    (repeat' split) <;> exact ⟨rfl, rfl⟩
  unfold State.recordWritten
  dsimp only
  constructor
  · rw [State.when_keeps State.nv _ _ _ fun t => State.postEvent_nv .., State.when_keeps State.nv _ _ _ fun t => (hwindow seq t).1,
      State.when_keeps State.nv _ _ _ fun t => State.irq_nv ..]
  · rw [State.when_keeps State.sup _ _ _ fun t => State.postEvent_sup .., State.when_keeps State.sup _ _ _ fun t => (hwindow seq t).2,
      State.when_keeps State.sup _ _ _ fun t => State.irq_sup ..]

/-- What waits for the store. -/
def Nv.waits (n : Nv) : List PageOp × List SaveReq × Tbl Nat := (n.queue, n.saves, n.sheaf)

theorem Nv.journal_waits (n : Nv) (page : Nat) (data : List Byte) : (n.journal page data).waits = n.waits := rfl

theorem State.lastGasp_keeps (ready : Word32) (ops : Nat) (s : State) :
    (s.lastGasp ready ops).nv.waits = s.nv.waits ∧ (s.lastGasp ready ops).sup = s.sup ∧ (s.lastGasp ready ops).ready = s.ready := by
  unfold State.lastGasp
  dsimp only
  obtain ⟨hnv, hsup⟩ := State.recordWritten_keeps _ _ _ _
  exact ⟨by rw [hnv, Nv.journal_waits], hsup, congrArg Prod.snd (State.recordWritten_head ..)⟩

theorem and_shedMask (w : Word32) : (w &&& shedMask) &&& ~~~shedMask = 0 := by
  rw [BitVec.and_assoc, BitVec.and_not_self]
  exact BitVec.and_zero

theorem State.collapse_sheds (s : State) :
    s.collapse.sup.state = SupplyState.holdup ∧ s.collapse.nv.waits = ([], [], []) ∧ s.collapse.ready &&& ~~~shedMask = 0 := by
  unfold State.collapse
  dsimp only
  generalize (if s.rdy Rdy.almanac then s.lockAlmanac else s) = t
  split
  · obtain ⟨hwaits, hsup, hready⟩ := State.lastGasp_keeps s.ready s.nv.waiting { t with
      sup := { t.sup.toState SupplyState.holdup with collapseSamples := 0, economy := false }
      nv.queue := [], nv.saves := [], nv.sheaf := []
      ready := t.ready &&& shedMask }
    exact ⟨by rw [hsup]; rfl, by rw [hwaits]; rfl, by rw [hready]; exact and_shedMask _⟩
  · exact ⟨rfl, rfl, and_shedMask _⟩

/-- LD and PA without their rails, the barrier power not yet gone (R525). -/
def State.railsOff (s : State) : State :=
  let t := s.moduleReset false
  { t with
    out := {}, pair := {}, sen := { crystal := t.sen.crystal }
    nv.good := false
    sup := { state := SupplyState.off, vmain := t.sup.vmain, mainPresent := t.sup.mainPresent, backPresent := t.sup.backPresent, vback := t.sup.vback, vhold := t.sup.vhold, vbat := t.sup.vbat }
    alm := { t.alm with dead := t.alm.dead || decide (t.sup.vbat < 1800) } }

theorem State.powerOff_eq (s : State) : s.powerOff = State.each (upTo 4) State.groupUnpowered s.railsOff := rfl

/-- Barrier power goes last, and leaves all but the field sides. -/
theorem State.powerOff_keeps (s : State) :
    s.powerOff.sup.state = SupplyState.off ∧ s.powerOff.ready = 0 ∧ s.powerOff.nv.mem = s.nv.mem ∧
      s.powerOff.alm.count = s.alm.count := by
  rw [State.powerOff_eq]
  have hoff : (State.each (upTo 4) State.groupUnpowered s.railsOff).offField = s.railsOff.offField :=
    State.each_keeps State.offField _ _ _ State.groupUnpowered_offField
  have htally : (State.each (upTo 4) State.groupUnpowered s.railsOff).tally = s.railsOff.tally :=
    State.each_keeps State.tally _ _ _ State.groupUnpowered_tally
  generalize State.each (upTo 4) State.groupUnpowered s.railsOff = u at hoff htally
  have hsup : u.sup = s.railsOff.sup := (congrArg State.sup hoff :)
  have hready : u.ready = s.railsOff.ready := (congrArg State.ready hoff :)
  have halm : u.alm = s.railsOff.alm := (congrArg State.alm hoff :)
  rw [hsup, hready, halm, (State.tally_eq_iff.mp htally).1]
  exact ⟨rfl, rfl, rfl, rfl⟩

section
variable {a : At} {s t : State} (ht : t = s.advance a)
include ht

theorem execCollapse_collapses (hon : t.sup.state = .main ∨ t.sup.state = .backup) (hsamples : 2 ≤ t.sup.collapseSamples) :
    execCollapse a s = .next t.collapse := by
  unfold execCollapse
  rw [← ht]
  exact congrArg _ (if_pos (by simpa [hsamples] using hon))

theorem execHoldupEnd_ends (hholdup : t.sup.state = .holdup) : execHoldupEnd a s = .next t.powerOff := by
  unfold execHoldupEnd
  rw [← ht]
  exact congrArg _ (if_pos hholdup)

end

/-- Settles O10: collapse is State.collapse, and the end of the hold-up State.powerOff. -/
theorem collapseShedsTheLoads : Obligations.CollapseShedsTheLoads := by
  unfold Obligations.CollapseShedsTheLoads
  refine ⟨?_, ?_⟩
  · intro a s t ht hon hsamples
    obtain ⟨hstate, hwaits, hready⟩ := t.collapse_sheds
    obtain ⟨hqueue, hrest⟩ := Prod.mk.inj hwaits
    obtain ⟨hsaves, hsheaf⟩ := Prod.mk.inj hrest
    exact ⟨_, execCollapse_collapses ht hon hsamples, hstate, hqueue, hsaves, hsheaf, hready⟩
  · intro a s t ht hholdup
    exact ⟨_, execHoldupEnd_ends ht hholdup, t.powerOff_keeps⟩

/-! ### The hold-up store, SLEEP and the crystal -/

theorem State.enterSleep_sleeps (s : State) :
    s.enterSleep.ready = 0 ∧ s.enterSleep.sup.asleep = true ∧ s.enterSleep.bin.svc = SvcRun.stopped := by
  unfold State.enterSleep
  dsimp only
  have hoff := State.sleepBarrier_offField
  refine ⟨(congrArg State.ready (hoff _) :), (congrArg (fun u => u.sup.asleep) (hoff _) :), (congrArg (fun u => u.bin.svc) (hoff _) :)⟩

section
variable {a : At} {s t : State} (ht : t = s.advance a)
include ht

theorem execHoldStoreMeasurement_ends {cap10 : Nat} (hruns : t.sup.measuring = true) :
    ∃ u, execHoldStoreMeasurement a cap10 s = .next u ∧ u.sup.measuring = false ∧ u.sup.holdTurn = some t.turn ∧
      u.sup.holdClass = some (t.holdClassOf cap10) := by
  unfold execHoldStoreMeasurement
  rw [← ht]
  refine ⟨_, congrArg Host.Outcome.next (if_neg (by simp [hruns])), ?_⟩
  dsimp only
  rw [State.when_keeps State.sup _ _ _ fun w => State.record3_sup ..]
  exact ⟨rfl, rfl, rfl⟩

theorem execSleepEntry_sleeps (hdoze : t.mayDoze = true) : execSleepEntry a s = .next t.enterSleep := by
  unfold execSleepEntry
  rw [← ht]
  exact congrArg _ (if_pos hdoze)

theorem execCrystalLost_stops (hon : t.sup.state ≠ .off) (hruns : t.sen.crystal = true) :
    ∃ u, execCrystalLost a s = .next u ∧ u.sen.crystal = false ∧ u.pair.lanesIn = 0 ∧ u.pair.lanesOut = 0 := by
  unfold execCrystalLost
  rw [← ht]
  refine ⟨_, congrArg Host.Outcome.next (if_neg (by simp [State.powered_of_ne_off hon, hruns])), ?_⟩
  dsimp only
  split
  · exact ⟨rfl, rfl, rfl⟩
  · have hlanes : ∀ (bits : List Nat) (u : State), (u.lower bits).refreshMirror.lanes = u.lanes := fun bits u =>
      (State.refreshMirror_lanes _).trans (State.lanes_of (State.lower_sen ..) (State.lower_pair ..))
    obtain ⟨hsen, hpair⟩ := Prod.mk.inj (hlanes _ _)
    obtain ⟨hin, hout⟩ := Prod.mk.inj hpair
    rw [hsen, hin, hout]
    exact ⟨rfl, rfl, rfl⟩

theorem execCrystalReturned_returns (hlost : t.sen.crystal = false) (hbin : t.rdy Rdy.binnacle = true) (hgrain : t.grain = 0)
    (hgood : 64 ≤ t.sen.crystalGoodTurns) :
    ∃ u, execCrystalReturned a s = .next u ∧ u.sen.crystal = true ∧ u.sen.crystalGoodTurns = 0 := by
  unfold execCrystalReturned
  rw [← ht]
  refine ⟨_, congrArg Host.Outcome.next (if_pos (by simp [hlost, hbin, hgrain, hgood])), ?_⟩
  rw [State.refreshPorts_sen, State.record3_sen]
  exact ⟨rfl, rfl⟩

end

/-- Settles O11: a measurement of the store, the entry to SLEEP and the crystal. -/
theorem storeClassSleepAndCrystal : Obligations.StoreClassSleepAndCrystal := by
  unfold Obligations.StoreClassSleepAndCrystal
  refine ⟨?_, ?_, ?_, ?_⟩
  · intro a cap10 s t ht hruns
    exact execHoldStoreMeasurement_ends ht hruns
  · intro a s t ht hdoze
    exact ⟨_, execSleepEntry_sleeps ht hdoze, t.enterSleep_sleeps⟩
  · intro a s t ht hon hruns
    exact execCrystalLost_stops ht hon hruns
  · intro a s t ht hlost hbin hgrain hgood
    exact execCrystalReturned_returns ht hlost hbin hgrain hgood

end Sys2Proof.Machine

/-! PROOFS. Binnacle's own state through the stop of the services and a service-firmware failure (R473–R475). -/

namespace Sys2Proof.Machine

/-! ### The stop of SC0–SC3 leaves Binnacle's state -/

theorem State.sndEnd_bin (cause z : Nat) (o : Sounding) (s : State) : (s.sndEnd cause z o).bin = s.bin := by
  unfold State.sndEnd
  simp only [State.record_bin]
  (repeat' split) <;> simp [State.sndLeave, State.sndErase]

theorem State.soundingsStop_bin (s : State) : s.soundingsStop.bin = s.bin :=
  State.each_keeps State.bin _ _ _ fun x t => State.sndEnd_bin 6 x.1 x.2 t

theorem State.loadLedger_bin (s : State) : s.loadLedger.bin = s.bin := by
  unfold State.loadLedger
  dsimp only
  (repeat' split) <;> rfl

theorem State.chartInterrupt_bin (s : State) : s.chartInterrupt.bin = s.bin := by
  unfold State.chartInterrupt
  split
  · rfl
  · exact State.loadLedger_bin _

theorem State.chartDown_bin (s : State) : s.chartDown.bin = s.bin := State.chartInterrupt_bin s

theorem State.discardPlan_bin (cause : Nat) (s : State) : (s.discardPlan cause).bin = s.bin := by
  unfold State.discardPlan
  split <;> rfl

theorem State.setIncomplete_bin (n : Nat) (s : State) : (State.setIncomplete n s).bin = s.bin := by
  unfold State.setIncomplete State.cfgSet
  rw [State.record_bin]
  split <;> rfl

theorem State.cfgDown_bin (s : State) : s.cfgDown.bin = s.bin := by
  unfold State.cfgDown State.endStaging
  refine State.each_keeps State.bin _ _ _ fun n t => ?_
  split
  · exact State.setIncomplete_bin n t
  · rfl

@[simp] theorem State.servicesDown_bin (s : State) : s.servicesDown.bin = s.bin := by
  have hwait : ∀ t : State, t.dropWaiters.bin = t.bin := fun _ => rfl
  have hstops : ∀ t : State, t.dropBankQueue.busStops.i2cStops.bin = t.bin := fun _ => rfl
  have hpark : s.parkInterims.bin = s.bin := rfl
  simp only [State.servicesDown, State.lower_bin, hwait, State.discardPlan_bin, State.cfgDown_bin, State.chartDown_bin, hstops,
    State.soundingsStop_bin, hpark]

theorem State.servicesDown_services (s : State) : s.servicesDown.rdy Rdy.services = false := by
  unfold State.servicesDown
  rw [State.rdy, State.lower_ready]
  exact readyNext_clears _ _ _ _ (List.mem_singleton_self _)

/-! ### A service-firmware failure -/

@[simp] theorem State.updateRecord_bin (isBin : Bool) (slot event version : Nat) (s : State) :
    (State.updateRecord isBin slot event version s).bin = s.bin := rfl

/-- What a slot that changes state leaves of Binnacle: the count of failures and autopilot. -/
theorem Binnacle.setSlot_failures (b : Binnacle) (i : Nat) (x : SlotState) : (b.setSlot i x).failures = b.failures := by
  unfold Binnacle.setSlot
  (repeat' split) <;> rfl

theorem State.trialFails_failures (isBin : Bool) (s : State) : (s.trialFails isBin).bin.failures = s.bin.failures := by
  unfold State.trialFails
  split
  · exact Binnacle.setSlot_failures ..
  · rfl

theorem State.activeRejected_failures (s : State) : s.activeRejected.bin.failures = s.bin.failures := by
  unfold State.activeRejected Binnacle.verifyFails
  split <;> rename_i hactive hprevious
  · rw [State.updateRecord_bin]
    exact (Binnacle.setSlot_failures ..).trans (Binnacle.setSlot_failures ..)
  · rfl

theorem State.trialFails_ready (isBin : Bool) (s : State) : (s.trialFails isBin).ready = s.ready :=
  congrArg Prod.snd (State.trialFails_head isBin s)

theorem State.activeRejected_ready (s : State) : s.activeRejected.ready = s.ready :=
  congrArg Prod.snd (State.activeRejected_head s)


/-- The failure counted and the slot of the image judged, before the third failure leads into autopilot. -/
def State.failureJudged (cause core : Nat) (s : State) : State :=
  let t := s.servicesDown.count 5 1
  let n := min 3 (t.bin.failures + 1)
  let t1 := State.record3 0 4 0x0005 (le 1 cause ++ le 1 (s.bin.running false) ++ le 1 n ++ le 1 core) 0
    { t with bin.failures := n, bin.svc := SvcRun.paused, bin.since := t.clock, bin.deliberate := false, svc.restartReason := 5 }
  if (s.bin.find false .trial).isSome then t1.trialFails false else if cause = 4 then t1.activeRejected else t1

theorem State.failureJudged_failures (cause core : Nat) (s : State) :
    (s.failureJudged cause core).bin.failures = min 3 (s.bin.failures + 1) := by
  unfold State.failureJudged
  dsimp only
  split
  · simp [State.trialFails_failures]
  · split <;> simp [State.activeRejected_failures]

theorem State.failureJudged_services (cause core : Nat) (s : State) : (s.failureJudged cause core).rdy Rdy.services = false := by
  have hdown := s.servicesDown_services
  unfold State.rdy at hdown ⊢
  unfold State.failureJudged
  dsimp only
  split
  · simp [State.trialFails_ready, hdown]
  · split <;> simp [State.activeRejected_ready, hdown]

/-- A service-firmware failure, from the failure judged. -/
theorem State.serviceFailure_eq (cause core : Nat) (s : State) :
    s.serviceFailure cause core =
      let t := s.failureJudged cause core
      let u := if min 3 (s.bin.failures + 1) < 3 || t.bin.autopilot then t
        else State.record3 0 5 0x0006 (le 1 1 ++ le 1 (bit (t.rdy Rdy.helm))) 0 { t with bin.autopilot := true }
      ({ u with bin.svc := if min 3 (s.bin.failures + 1) < 3 then SvcRun.paused else SvcRun.stopped } : State).saveBinnacle := by
  have hbin : (s.servicesDown.count 5 1).bin.failures = s.bin.failures := congrArg Binnacle.failures s.servicesDown_bin
  unfold State.serviceFailure State.failureJudged
  simp only [hbin]

theorem State.serviceFailure_counted (cause core : Nat) (s : State) : Safety.FailureCounted s (s.serviceFailure cause core) := by
  have hcount := s.failureJudged_failures cause core
  have hservices := s.failureJudged_services cause core
  rw [State.serviceFailure_eq]
  generalize s.failureJudged cause core = t at hcount hservices
  by_cases hlow : min 3 (s.bin.failures + 1) < 3
  · exact { count := by simp [hlow, hcount], services := by simpa [hlow, State.rdy] using hservices
            below := by simp [hlow], third := by simp [hlow, hcount]; omega }
  · cases hauto : t.bin.autopilot
    · exact { count := by simp [hlow, hcount, hauto], services := by simpa [hlow, hauto, State.rdy] using hservices
              below := by simp [hlow, hcount, hauto], third := by simp [hlow, hauto] }
    · exact { count := by simp [hlow, hcount, hauto], services := by simpa [hlow, hauto, State.rdy] using hservices
              below := by simp [hlow, hcount, hauto], third := by simp [hlow, hauto] }

section
variable {a : At} {s t : State} (ht : t = s.advance a) (hbin : t.rdy Rdy.binnacle = true)
include ht hbin

theorem execServiceHeartbeatTimeout_fails {core : Nat} (hon : t.svcOn = true) (hcore : core < 4) :
    execServiceHeartbeatTimeout a core s = .next (t.serviceFailure 1 core) := by
  unfold execServiceHeartbeatTimeout
  rw [← ht]
  exact congrArg _ (if_pos (by simp [hon, hbin, hcore]))

theorem execServiceFaultReport_fails {core : Nat} (hon : t.svcOn = true) :
    execServiceFaultReport a core s = .next (t.serviceFailure 3 (if core < 4 then core else 255)) := by
  unfold execServiceFaultReport
  rw [← ht]
  exact congrArg _ (if_pos (by simp [hon, hbin]))

theorem execServiceStartTimeout_fails (hsvc : t.bin.svc = .starting) (hlate : t.bin.since + 2000000 ≤ t.clock) :
    execServiceStartTimeout a s = .next (t.serviceFailure 2 255) := by
  unfold execServiceStartTimeout
  rw [← ht]
  exact congrArg _ (if_pos (by simp [hsvc, hbin, hlate]))

end

/-- Settles O12: a heartbeat timeout, a fault report and a start timeout each are a service-firmware failure. -/
theorem serviceFirmwareFailures : Obligations.ServiceFirmwareFailures := by
  unfold Obligations.ServiceFirmwareFailures
  refine ⟨?_, ?_, ?_⟩
  · intro a core s t ht hon hbin hcore
    exact ⟨_, execServiceHeartbeatTimeout_fails ht hbin hon hcore, State.serviceFailure_counted ..⟩
  · intro a core s t ht hon hbin
    exact ⟨_, execServiceFaultReport_fails ht hbin hon, State.serviceFailure_counted ..⟩
  · intro a s t ht hsvc hbin hlate
    exact ⟨_, execServiceStartTimeout_fails ht hbin hsvc hlate, State.serviceFailure_counted ..⟩

end Sys2Proof.Machine

/-! PROOFS. The restart of Binnacle, the sensors, the SRAM scrub and the self-tests (R471, R472, R478, R480–R482). -/

namespace Sys2Proof.Machine

/-! ### The restart of Binnacle -/

theorem State.readyExact_ready (w : Word32) (s : State) : (s.readyExact w).ready = w := congrArg Prod.snd (State.readyExact_head w s)

@[simp] theorem State.readyExact_nv (w : Word32) (s : State) : (s.readyExact w).nv = s.nv :=
  foldl_keeps State.nv _ _ _ fun _ _ => State.readyRecord_nv ..

/-- The list of outputs a test lets go of is walked without a change beside them and the test itself. -/
theorem State.dropTests_keeps {β : Type} (p : State → β) (hfld : ∀ (t : State) x, p { t with fld := x } = p t)
    (hout : ∀ (t : State) x, p { t with out := x } = p t) (s : State) :
    p s.dropTests = p { s with bin.selftest := none } := by
  unfold State.dropTests
  split
  · refine State.each_keeps p _ _ _ fun x t => ?_
    split
    · exact hfld t _
    · split <;> exact hout t _
  · rename_i h
    have hbin : s.bin = { s.bin with selftest := none } := by rw [← h]
    exact congrArg (fun b => p { s with bin := b }) hbin

@[simp] theorem State.dropTests_nv (s : State) : s.dropTests.nv = s.nv :=
  State.dropTests_keeps State.nv (fun _ _ => rfl) (fun _ _ => rfl) s

theorem State.dropTests_bin (s : State) : s.dropTests.bin = { s.bin with selftest := none } :=
  State.dropTests_keeps State.bin (fun _ _ => rfl) (fun _ _ => rfl) s

theorem State.binnacleRestart_nv (kept : Bool) (s : State) : (s.binnacleRestart kept).nv = s.nv := by
  have habort : ∀ t : State, (State.each [0, 2, 3] State.abortFn t).nv = t.nv := fun t =>
    State.each_keeps State.nv _ _ t State.abortFn_nv
  unfold State.binnacleRestart
  simp only [State.readyExact_nv, State.dropTests_nv, habort]
  split <;> rfl

/-- BINNACLE returns within the step; NVSTORE and LOGBOOK wait for their recovery (R478). -/
theorem State.binnacleRestart_ready (kept : Bool) (s : State) :
    (s.binnacleRestart kept).ready = (s.ready &&& ~~~(bitMask [0, 2, 3])) ||| bitMask [0] := by
  unfold State.binnacleRestart
  dsimp only
  rw [State.readyExact_ready, State.each_keeps State.ready _ _ _ State.abortFn_ready, State.readyExact_ready]
  split <;> rfl

theorem State.binnacleRestart_rdy (kept : Bool) (s : State) :
    (s.binnacleRestart kept).rdy Rdy.binnacle = true ∧ (s.binnacleRestart kept).rdy Rdy.nvstore = false ∧
      (s.binnacleRestart kept).rdy Rdy.logbook = false := by
  have hnot : ∀ n, n < 32 → readyBit (~~~(bitMask [0, 2, 3])) n = !readyBit (bitMask [0, 2, 3]) n := fun n hn => by
    simp [readyBit, hn]
  simp only [State.rdy, State.binnacleRestart_ready, readyBit_or, readyBit_and, readyBit_bitMask]
  rw [hnot _ (by decide), hnot _ (by decide), hnot _ (by decide)]
  simp [readyBit_bitMask, Rdy.binnacle, Rdy.nvstore, Rdy.logbook]

/-! ### The sensors (R471) -/

/-- A table that a walk over numbered values sets place by place holds each value in its place; `value` reads it. -/
theorem State.each_zipIdx_get {α β γ : Type} [Inhabited γ] [DecidableEq γ] (xs : List α) (k : Nat) (f : α × Nat → State → State)
    (tbl : State → Tbl γ) (value : γ → β) (val : α → β)
    (hstep : ∀ x n s, ∃ m, tbl (f (x, n) s) = (tbl s).set n m ∧ value m = val x) (s : State) (i : Nat) (hi : i < xs.length) :
    value ((tbl (State.each (xs.zipIdx k) f s)).get (k + i)) = val xs[i] := by
  have hbelow : ∀ (ys : List α) (n j : Nat) (t : State), j < n → (tbl (State.each (ys.zipIdx n) f t)).get j = (tbl t).get j := by
    intro ys
    induction ys with
    | nil => exact fun _ _ _ _ => rfl
    | cons y ys ih =>
      intro n j t hj
      obtain ⟨m, hm, -⟩ := hstep y n t
      rw [List.zipIdx_cons]
      exact (ih (n + 1) j (f (y, n) t) (by omega)).trans (by rw [hm, Tbl.get_set_other _ _ _ _ (by omega)])
  induction xs generalizing k i s with
  | nil => exact absurd hi (by simp)
  | cons x xs ih =>
    obtain ⟨m, hm, hv⟩ := hstep x k s
    rw [List.zipIdx_cons]
    change value ((tbl (State.each (xs.zipIdx (k + 1)) f (f (x, k) s))).get (k + i)) = _
    cases i with
    | zero => rw [hbelow xs (k + 1) _ _ (by omega), hm, Nat.add_zero, Tbl.get_set_same, hv]; rfl
    | succ i => rw [show k + (i + 1) = k + 1 + i by omega]; exact ih (k + 1) (f (x, k) s) i (by simpa using hi)

theorem State.railSample_rails (i mv : Nat) (s : State) :
    ∃ m, (State.railSample i mv s).sen = { s.sen with rails := s.sen.rails.set i m } ∧ m.value = mv := by
  unfold State.railSample
  dsimp only
  rw [State.when_keeps State.sen _ _ _ fun u => State.record3_sen ..]
  exact ⟨_, rfl, rfl⟩

theorem State.dieSample_temps (i : Nat) (c : Int) (s : State) :
    ∃ m, (State.dieSample i c s).sen = { s.sen with temps := s.sen.temps.set i m } ∧ m.value = c := by
  unfold State.dieSample
  dsimp only
  rw [State.when_keeps State.sen _ _ _ fun u => State.record3_sen ..]
  exact ⟨_, rfl, rfl⟩

/-- What a sample of the sensors keeps besides a table of values: its stamp and the input current. -/
def Sensors.gauge (x : Sensors) : Stamp × Nat × Tbl Monitor × Tbl Monitor := (x.stamp, x.iin, x.rails, x.temps)

theorem State.chartInterrupt_sen (s : State) : s.chartInterrupt.sen = s.sen := by
  unfold State.chartInterrupt State.loadLedger
  dsimp only
  (repeat' split) <;> rfl

theorem State.pumpSampled_sen (s : State) : s.pumpSampled.sen = s.sen := by
  unfold State.pumpSampled
  split
  · rfl
  · exact State.chartInterrupt_sen _

theorem State.closeAlmanac_sen (s : State) : s.closeAlmanac.sen = s.sen := by
  unfold State.closeAlmanac
  split
  · exact (State.lower_sen ..).trans (State.abortFn_sen ..)
  · rfl

theorem State.openAlmanac_sen (s : State) : s.openAlmanac.sen = s.sen := by
  unfold State.openAlmanac
  dsimp only
  split
  · rfl
  · split
    · rfl
    · refine (State.each_keeps State.sen _ _ _ fun _ _ => ?_).trans ?_
      · rfl
      · exact State.updateReady_sen ..

theorem State.railGates_gauge (rails : List Nat) (temp0 : Int) (s : State) : (s.railGates rails temp0).sen.gauge = s.sen.gauge := by
  have hgates : ∀ (c d : Prop) [Decidable c] [Decidable d] (t : State),
      (if c then t.closeAlmanac else if d then t.openAlmanac else t).sen.gauge = t.sen.gauge := fun c d _ _ t => by
    split
    · rw [State.closeAlmanac_sen]
    · split
      · rw [State.openAlmanac_sen]
      · rfl
  exact hgates _ _ _

theorem State.vbatTaken_gauge (vbat : Option Nat) (s : State) : (s.vbatTaken vbat).sen.gauge = s.sen.gauge := by
  unfold State.vbatTaken
  split
  · split
    · unfold State.vbatSample
      dsimp only
      rw [State.when_keeps State.sen _ _ _ fun u => State.record3_sen ..]
      rfl
    · rfl
  · rfl

/-- A sample keeps each rail's and each die's value, the stamp of its instant and the input current. -/
theorem State.senseAll_gauge (rails : List Nat) (temps : List Int) (vbat : Option Nat) (iin : Nat) (s : State) :
    (s.senseAll rails temps vbat iin).sen.stamp = s.now ∧ (s.senseAll rails temps vbat iin).sen.iin = iin ∧
      (∀ i, i < 12 → i < rails.length → ((s.senseAll rails temps vbat iin).sen.rails.get i).value = rails.getD i 0) ∧
      (∀ i, i < 4 → i < temps.length → ((s.senseAll rails temps vbat iin).sen.temps.get i).value = temps.getD i 0) := by
  unfold State.senseAll
  dsimp only
  generalize hu : ({ s with sen := _ } : State) = u
  have hgauge := fun w : State => (State.railGates_gauge (rails.take 12) (temps.headD 0) (w.vbatTaken vbat)).trans
    (State.vbatTaken_gauge vbat w)
  generalize hv : (State.each ((rails.take 12).zipIdx) (fun x t => t.railSample x.2 x.1) u).pumpSampled = v
  generalize hw : State.each ((temps.take 4).zipIdx) (fun x t => t.dieSample x.2 x.1) v = w
  have hvsen : v.sen = (State.each ((rails.take 12).zipIdx) (fun x t => t.railSample x.2 x.1) u).sen := by
    rw [← hv, State.pumpSampled_sen]
  have hstampV : (v.sen.stamp, v.sen.iin) = (s.now, iin) := by
    rw [hvsen, State.each_keeps (fun t : State => (t.sen.stamp, t.sen.iin)) _ _ _ fun x t => by
      obtain ⟨m, hm, -⟩ := State.railSample_rails x.2 x.1 t
      rw [hm], ← hu]
  have hkeepW : (w.sen.stamp, w.sen.iin, w.sen.rails) = (v.sen.stamp, v.sen.iin, v.sen.rails) := by
    rw [← hw]
    exact State.each_keeps (fun t : State => (t.sen.stamp, t.sen.iin, t.sen.rails)) _ _ _ fun x t => by
      obtain ⟨m, hm, -⟩ := State.dieSample_temps x.2 x.1 t
      rw [hm]
  obtain ⟨hstamp, hrest⟩ := Prod.mk.inj (hgauge w)
  obtain ⟨hiin, hrest⟩ := Prod.mk.inj hrest
  obtain ⟨hrails, htemps⟩ := Prod.mk.inj hrest
  obtain ⟨hstampW, hrest⟩ := Prod.mk.inj hkeepW
  obtain ⟨hiinW, hrailsW⟩ := Prod.mk.inj hrest
  obtain ⟨hstampS, hiinS⟩ := Prod.mk.inj hstampV
  refine ⟨hstamp.trans (hstampW.trans hstampS), hiin.trans (hiinW.trans hiinS), fun i hi hlen => ?_, fun i hi hlen => ?_⟩
  · have hlen12 : i < (rails.take 12).length := by simp [hi, hlen]
    have hget := State.each_zipIdx_get (rails.take 12) 0 (fun x t => t.railSample x.2 x.1) (fun t => t.sen.rails) Monitor.value
      (fun n => (n : Int)) (fun x n t => by
        obtain ⟨m, hm, hv⟩ := State.railSample_rails n x t
        exact ⟨m, by rw [hm], hv⟩) u i hlen12
    rw [hrails, hrailsW, hvsen]
    rw [Nat.zero_add] at hget
    rw [hget, List.getElem_take, List.getD_eq_getElem _ _ hlen]
  · have hlen4 : i < (temps.take 4).length := by simp [hi, hlen]
    have hget := State.each_zipIdx_get (temps.take 4) 0 (fun x t => t.dieSample x.2 x.1) (fun t => t.sen.temps) Monitor.value id
      (fun x n t => by
        obtain ⟨m, hm, hv⟩ := State.dieSample_temps n x t
        exact ⟨m, by rw [hm], hv⟩) v i hlen4
    rw [htemps, ← hw]
    rw [Nat.zero_add] at hget
    rw [hget, List.getElem_take, List.getD_eq_getElem _ _ hlen]
    rfl

/-! ### Self-tests -/

/-- Events change nothing of the operations not ended. -/
@[simp] theorem State.postEvent_interims (e : EvEntry) (s : State) : (s.postEvent e).mb.interims = s.mb.interims := by
  unfold State.postEvent
  (repeat' split) <;> rfl

theorem State.endInterims_interims (p : Interim → Bool) (fate : Fate) (st : Status) (result : List Byte) (s : State) :
    (s.endInterims p fate st result).mb.interims = s.mb.interims.filter (fun i => !p i) := by
  unfold State.endInterims
  dsimp only
  rw [State.each_keeps (fun t : State => t.mb.interims) _ _ _ fun i t => State.postEvent_interims _ t]
  exact congrArg Prod.snd (List.partition_eq_filter_filter ..)

@[simp] theorem State.chApply_bin (n : Nat) (s : State) : (s.chApply n).bin = s.bin := by
  unfold State.chApply
  split
  · rfl
  · exact (congrArg State.bin (State.chLevel_offField _ _ _) :)

theorem State.testPulses_bin (test : Nat) (s : State) : (s.testPulses test).bin = s.bin := by
  unfold State.testPulses
  split
  · split
    · exact State.each_keeps State.bin _ _ _ fun x t => (State.chApply_bin ..).trans (State.chApply_bin ..)
    · rfl
  · rfl

/-- A test that ends leaves no request for it that is not deferred, and if it is the one that drove outputs it drives none (R482). -/
theorem State.testEnds_ends (test outcome : Nat) (detail : List Byte) (s : State) :
    (∀ i, i ∈ (s.testEnds test outcome detail).mb.interims → isTest test i = true → i.isDeferred = true) ∧
      (s.bin.selftest.map (fun x => x.1) = some test → (s.testEnds test outcome detail).bin.selftest = none) := by
  unfold State.testEnds
  refine ⟨fun i hi htest => ?_, fun hruns => ?_⟩
  · rw [State.endInterims_interims] at hi
    have hnot := (List.mem_filter.mp hi).2
    simpa [htest] using hnot
  · dsimp only
    rw [State.endInterims_bin, State.record3_bin, if_pos hruns, State.dropTests_bin]

/-! ### The commands -/

section
variable {a : At} {s t : State} (ht : t = s.advance a) (hbin : t.rdy Rdy.binnacle = true)
include ht hbin

theorem execBinnacleWatchdog_restarts (kept : Bool) :
    execBinnacleWatchdog a kept s = .next ((t.binnacleRestart kept).restartRecord 1 kept) := by
  unfold execBinnacleWatchdog
  rw [← ht]
  exact congrArg _ (if_pos hbin)

theorem execSensorSample_samples {rails : List Nat} {temps : List Int} {vbat : Option Nat} {iin : Nat}
    (hdue : ∀ c, t.sen.sampledAt = some c → c + 1000 ≤ t.clock) :
    execSensorSample a rails temps vbat iin s = .next (t.senseAll rails temps vbat iin) := by
  have hpast : t.periodPast t.sen.sampledAt 1000 = true := by
    unfold State.periodPast
    cases hc : t.sen.sampledAt with
    | none => rfl
    | some c => simpa using hdue c hc
  unfold execSensorSample
  rw [← ht]
  dsimp only
  rw [hpast, if_neg (by simp), if_pos hbin]

theorem execSramScrubStep_corrects {region item corrected : Nat} (hregion : region < 8) (hsome : corrected ≠ 0) :
    execSramScrubStep a region item corrected 0 s =
      .next (t.record3 0 1 0x000B (le 1 region ++ le 4 corrected ++ le 4 0) 0) := by
  unfold execSramScrubStep
  rw [← ht]
  exact congrArg _ (if_neg (by simp [hbin, hsome, hregion]))

theorem execSramScrubStep_loses {region item corrected uncorrectable : Nat} (hregion : region < 8) (hbad : uncorrectable ≠ 0) :
    execSramScrubStep a region item corrected uncorrectable s =
      .next ((t.record3 0 4 0x000B (le 1 region ++ le 4 corrected ++ le 4 uncorrectable) 0).sramLoss region item) := by
  unfold execSramScrubStep
  rw [← ht]
  dsimp only
  rw [if_neg (by simp [hbin, hbad, hregion]), if_neg hbad, if_neg hbad]

/-- A self-test that may end does so with one outcome or another, on a state that has driven its outputs or not. -/
theorem execSelftestComplete_ends {test outcome : Nat} {detail : List Byte} (hruns : t.testRuns test = true)
    (hdriven : 2 ≤ outcome ∨ t.bin.testTurn + testTurns test ≤ t.turn) :
    ∃ (u : State) (result : Nat), execSelftestComplete a test outcome detail s = .next (u.testEnds test result detail) ∧ u.bin = t.bin := by
  unfold execSelftestComplete
  rw [← ht]
  dsimp only
  rw [if_neg (by simp [hbin, hruns])]
  split
  · split
    · exact ⟨t, 3, rfl, rfl⟩
    · exact ⟨_, _, congrArg Host.Outcome.next (if_pos (by simpa [State.testDriven] using hdriven)), State.testPulses_bin ..⟩
  · rw [if_neg Bool.false_ne_true]
    exact ⟨_, _, congrArg Host.Outcome.next (if_pos (by simpa [State.testDriven] using hdriven)), State.testPulses_bin ..⟩

end

/-- Settles O14: the restart of Binnacle, a sample of the sensors, a finding of the scrub and the end of a self-test. -/
theorem binnacleRestartsAndScrubs : Obligations.BinnacleRestartsAndScrubs := by
  unfold Obligations.BinnacleRestartsAndScrubs
  refine ⟨?_, ?_, ?_, ?_, ?_⟩
  · intro a kept s t ht hbin
    obtain ⟨hb, hnv, hlog⟩ := t.binnacleRestart_rdy kept
    exact ⟨_, execBinnacleWatchdog_restarts ht hbin kept, hb, hnv, hlog, congrArg Nv.mem (t.binnacleRestart_nv kept)⟩
  · intro a rails temps vbat iin s t ht hbin hdue
    exact ⟨_, execSensorSample_samples ht hbin hdue, t.senseAll_gauge rails temps vbat iin⟩
  · intro a region item corrected s t ht hbin hregion hsome
    exact execSramScrubStep_corrects ht hbin hregion hsome
  · intro a region item corrected uncorrectable s t ht hbin hregion hbad
    exact execSramScrubStep_loses ht hbin hregion hbad
  · intro a test outcome detail s t ht hbin hruns hdriven
    obtain ⟨u, result, hexec, hubin⟩ := execSelftestComplete_ends ht hbin (detail := detail) hruns hdriven
    obtain ⟨hends, hdrops⟩ := u.testEnds_ends test result detail
    refine ⟨_, hexec, hends, fun hactive => hdrops ?_⟩
    rw [hubin]
    simpa [State.testRuns, hactive] using hruns

end Sys2Proof.Machine

/-! PROOFS. The writes of the store in their order (R440, R442, R447, R448, R453). -/

namespace Sys2Proof.Machine

/-- The store with `k` owed to counter `n` taken into one cell, as far as a cell holds it (R453). -/
def Nv.owesLess (n k : Nat) (v : Nv) : Nv := { v with sheaf := v.sheaf.set n (k - min k 65535) }

/-- The store with a write taken from those that wait. -/
def Nv.serves (q : SaveReq) (v : Nv) : Nv := { v with saves := v.saves.erase q }

section
variable {s : State} (hnv : s.rdy Rdy.nvstore = true) (hgood : s.nv.good = true)
include hnv hgood

theorem State.pageOp_runs {f : JrnFate} {o : PageOp} (hnext : s.nv.nextOp = some o) (hlog : 3 < o.prio → s.logWaits = false)
    (hsheaf : 5 < o.prio → s.nv.sheaf = []) : s.pageOp f = { s with nv := (s.nv.dropOp o).runOp o f } := by
  have hfirst : ((decide (3 < o.prio) && s.logWaits) || (decide (5 < o.prio) && !s.nv.sheaf.isEmpty)) = false := by
    by_cases h3 : 3 < o.prio
    · by_cases h5 : 5 < o.prio
      · simp [hlog h3, hsheaf h5]
      · simp [hlog h3, h5]
    · have h5 : ¬ 5 < o.prio := by omega
      simp [h3, h5]
  simp [State.pageOp, hnv, hgood, hnext, hfirst]

theorem State.sheafStep_writes {cut : Bool} {n k : Nat} {rest : Tbl Nat} {c : Nat} {bs : List Byte} (hlog : s.logWaits = false)
    (hprio : ∀ o, o ∈ s.nv.queue → 5 ≤ o.prio) (hsheaf : s.nv.sheaf = (n, k) :: rest)
    (hcell : (s.nv.owesLess n k).sheafCell n (min k 65535) = some (c, bs)) :
    s.sheafStep cut =
      { s with nv := (s.nv.owesLess n k).write (cellAddr n c) (if cut then bs.take 8 else bs) } := by
  have hqueue : s.nv.queue.any (fun o => decide (o.prio < 5)) = false := by simpa using hprio
  unfold State.sheafStep
  rw [if_neg (by simp [hnv, hgood, hlog, hqueue])]
  split
  · rename_i hnone
    exact absurd (hsheaf.symm.trans hnone) (by simp)
  · rename_i m b tail hsome
    obtain ⟨hhead, -⟩ := List.cons.inj (hsheaf.symm.trans hsome)
    obtain ⟨rfl, rfl⟩ := Prod.mk.inj hhead
    unfold Nv.owesLess at hcell
    dsimp only
    rw [hcell]
    rfl

section
variable {q : SaveReq} (hnext : s.nv.nextSave = some q)
include hnext

theorem State.recordWrite_queues {p : Nat} (hadmits : (s.nv.serves q).admits q = true)
    (hrun : (s.nv.serves q).findRun (recordPages q.payload.length) = some p) :
    s.recordWrite = { s with nv := (s.nv.serves q).queueRecord q p } := by
  unfold State.recordWrite
  rw [if_neg (by simp [hnv, hgood]), hnext]
  exact (if_neg (by rw [Nv.serves] at hadmits; simp [hadmits])).trans (by rw [Nv.serves] at hrun; dsimp only; rw [hrun]; rfl)

theorem State.recordWrite_compacts (hadmits : (s.nv.serves q).admits q = true)
    (hrun : (s.nv.serves q).findRun (recordPages q.payload.length) = none) :
    s.recordWrite = { s with nv.compacting := true } := by
  unfold State.recordWrite
  rw [if_neg (by simp [hnv, hgood]), hnext]
  exact (if_neg (by rw [Nv.serves] at hadmits; simp [hadmits])).trans (by rw [Nv.serves] at hrun; dsimp only; rw [hrun])

theorem State.recordWrite_refuses (hadmits : (s.nv.serves q).admits q = false) :
    s.recordWrite = State.storeFullRecord q { s with nv := s.nv.serves q } := by
  unfold State.recordWrite
  rw [if_neg (by simp [hnv, hgood]), hnext]
  exact if_pos (by rw [Nv.serves] at hadmits; simp [hadmits])

end
end

/-- What COMPACTION leaves of the store when the write `q` waited for it. -/
def Nv.compactedFor (q : SaveReq) (n : Nv) : Nv :=
  { (n.compact 2048 (recordPages q.payload.length) : Nv) with compacting := false, saves := n.saves.erase q }

section
variable {s : State} {q : SaveReq} (hcompacting : s.nv.compacting = true) (hgood : s.nv.good = true) (hnext : s.nv.nextSave = some q)
include hcompacting hgood hnext

theorem State.compaction_queues {p : Nat} (hrun : (s.nv.compactedFor q).findRun (recordPages q.payload.length) = some p) :
    s.compaction = { s with nv := (s.nv.compactedFor q).queueRecord q p } := by
  unfold State.compaction
  rw [if_neg (by simp [hcompacting, hgood]), hnext]
  unfold Nv.compactedFor at hrun
  dsimp only
  rw [hrun]
  rfl

theorem State.compaction_refuses (hrun : (s.nv.compactedFor q).findRun (recordPages q.payload.length) = none) :
    s.compaction = State.storeFullRecord q { s with nv := s.nv.compactedFor q } := by
  unfold State.compaction
  rw [if_neg (by simp [hcompacting, hgood]), hnext]
  unfold Nv.compactedFor at hrun
  dsimp only
  rw [hrun]
  rfl

end

/-- Without NVSTORE or the NV-good condition nothing is written (R443). -/
theorem State.store_waits {s : State} (f : JrnFate) (cut : Bool) (h : s.rdy Rdy.nvstore = false ∨ s.nv.good = false) :
    s.pageOp f = s ∧ s.sheafStep cut = s ∧ s.recordWrite = s := by
  have hoff : (!s.rdy Rdy.nvstore || !s.nv.good) = true := by simpa using h
  exact ⟨if_pos hoff, if_pos (by simp only [hoff, Bool.true_or]), if_pos hoff⟩

/-- Settles O15: each of the store's writers runs in its turn, and waits without NVSTORE or the NV-good condition. -/
theorem storeWritesRunInOrder : Obligations.StoreWritesRunInOrder := by
  unfold Obligations.StoreWritesRunInOrder
  refine ⟨?_, ?_, ?_, ?_, ?_, ?_, ?_⟩
  · intro a fate o s t ht hnv hgood hnext hlog hsheaf
    subst ht
    exact congrArg Host.Outcome.next (State.pageOp_runs hnv hgood hnext hlog hsheaf)
  · intro a cut n k m rest w c bs s t ht hnv hgood hlog hprio hsheaf hm hw hcell
    subst ht hm hw
    exact congrArg Host.Outcome.next (State.sheafStep_writes hnv hgood hlog hprio hsheaf hcell)
  · intro a q p n s t ht hnv hgood hnext hn hadmits hrun
    subst ht hn
    exact congrArg Host.Outcome.next (State.recordWrite_queues hnv hgood hnext hadmits hrun)
  · intro a q n s t ht hnv hgood hnext hn hadmits hrun
    subst ht hn
    exact congrArg Host.Outcome.next (State.recordWrite_compacts hnv hgood hnext hadmits hrun)
  · intro a q n s t ht hnv hgood hnext hn hadmits
    subst ht hn
    exact congrArg Host.Outcome.next (State.recordWrite_refuses hnv hgood hnext hadmits)
  · intro a q n s t ht hcompacting hgood hnext hn
    subst ht hn
    exact ⟨fun p hrun => congrArg Host.Outcome.next (State.compaction_queues hcompacting hgood hnext hrun),
      fun hrun => congrArg Host.Outcome.next (State.compaction_refuses hcompacting hgood hnext hrun)⟩
  · intro a fate cut s t ht hoff
    subst ht
    obtain ⟨hpage, hsheaf, hwrite⟩ := State.store_waits fate cut hoff
    exact ⟨congrArg Host.Outcome.next hpage, congrArg Host.Outcome.next hsheaf, congrArg Host.Outcome.next hwrite⟩

end Sys2Proof.Machine

/-! PROOFS. The recovery of the store and of the Logbook, the scrub, and the Logbook's queue (R438, R456, R461–R462, R468, R529). -/

namespace Sys2Proof.Machine

/-! ### What the recovery of the store leaves of Meridian -/

@[simp] theorem State.unread_mer (base len : Nat) (s : State) : (s.unread base len).mer = s.mer :=
  State.each_keeps State.mer _ _ _ fun _ _ => State.record3_mer ..

@[simp] theorem State.recoverStore_mer (s : State) : s.recoverStore.mer = s.mer := by
  unfold State.recoverStore
  dsimp only
  rw [State.each_keeps State.mer _ _ _ fun _ _ => State.record3_mer .., State.each_keeps State.mer _ _ _ fun _ _ => State.record3_mer ..,
    State.each_keeps State.mer _ _ _ fun _ _ => State.unread_mer ..]
  split
  · exact State.each_keeps State.mer _ _ _ fun _ _ => State.record3_mer ..
  · rw [State.record3_mer, State.each_keeps State.mer _ _ _ fun _ _ => State.record3_mer ..]

@[simp] theorem State.failTrial_mer (i : Nat) (s : State) : (State.failTrial i s).mer = s.mer := by
  unfold State.failTrial
  split <;> rfl

@[simp] theorem State.restoreBinnacle_mer (s : State) : s.restoreBinnacle.mer = s.mer := by
  unfold State.restoreBinnacle
  dsimp only
  rw [State.each_keeps State.mer _ _ _ State.failTrial_mer]
  split <;> rfl

theorem State.imageVerified_mer {images : Nat} {s t : State} (h : s.imageVerified images = some t) : t.mer = s.mer := by
  unfold State.imageVerified at h
  obtain ⟨b, -, rfl⟩ := Option.map_eq_some_iff.mp h
  have hrecords : ∀ (gone : List Nat) (f : Nat → State → State) (u : State), (∀ i v, (f i v).mer = v.mer) →
      (State.each gone f u).mer = u.mer := fun gone f u hf => State.each_keeps State.mer gone f u hf
  dsimp only
  split
  · exact hrecords _ _ _ fun _ _ => rfl
  · exact (State.save_mer ..).trans (hrecords _ _ _ fun _ _ => rfl)

@[simp] theorem State.loadTimeBase_mer (s : State) : s.loadTimeBase.mer = s.mer := by
  unfold State.loadTimeBase
  split
  · exact State.when_keeps State.mer _ _ _ fun _ => State.save_mer ..
  · rfl

@[simp] theorem State.holdFromT0_mer (s : State) : s.holdFromT0.mer = s.mer := by
  unfold State.holdFromT0
  split <;> rfl

/-! ### T0 (R57) -/

theorem State.one_le_t0 (s : State) : 1 ≤ s.t0.1 := by
  unfold State.t0
  dsimp only
  split
  · rename_i h; exact h.1
  · split
    · assumption
    · exact Nat.le_refl 1

/-- Meridian starts in DEAD_RECKONING at the first grain of T0 plus the grains since Binnacle started. -/
theorem State.assignT0_mer (s : State) :
    s.assignT0.mer.state = MerState.deadReckoning ∧
      s.assignT0.mer.stamp = BitVec.ofNat 64 (s.t0.1 * grainsPerTurn + s.mer.early) := by
  unfold State.assignT0
  dsimp only
  have hpoint : ∀ (b : Bool) (u : State), (State.takePoint b u).mer.state = u.mer.state ∧ (State.takePoint b u).mer.stamp = u.mer.stamp :=
    fun _ _ => ⟨rfl, rfl⟩
  obtain ⟨hstate, hstamp⟩ := hpoint true _
  exact ⟨hstate.trans rfl, hstamp.trans rfl⟩

/-! ### The READY bits that rise -/

theorem State.updateReady_rises {sets : List Nat} {s : State} {n : Nat} (hn : n < 29) (hset : n ∈ sets) (hreq : requires n = [Rdy.binnacle])
    (hbin : s.rdy Rdy.binnacle = true) : (s.updateReady sets []).rdy n = true := by
  rw [State.rdy, State.updateReady_ready]
  refine readyNext_of_sets hn hset List.not_mem_nil fun r hr => ?_
  rw [hreq, List.mem_singleton] at hr
  rw [hr]
  exact readyNext_keeps_binnacle hbin List.not_mem_nil

theorem State.rdy_of_head {s t : State} (h : t.head = s.head) (n : Nat) : t.rdy n = s.rdy n := by
  rw [State.rdy, State.rdy, show t.ready = s.ready from congrArg Prod.snd h]

section
variable {found : Recovery} {s v : State} (hbin : s.rdy Rdy.binnacle = true) (hgood : s.nv.good = true) (hnv : s.rdy Rdy.nvstore = false)
  (htime : s.rdy Rdy.almanac = true ∨ found.late = true)
include hbin hgood hnv htime

theorem State.nvRecovery_due :
    ¬ (!s.rdy Rdy.binnacle || !s.nv.good || s.rdy Rdy.nvstore || !(s.rdy Rdy.almanac || found.late)) = true := by
  have hin : (s.rdy Rdy.almanac || found.late) = true := by simpa using htime
  rw [hbin, hgood, hnv, hin]
  decide

theorem State.nvRecovery_starts (hmer : s.rdy Rdy.meridian = false)
    (himage : s.recoverStore.restoreBinnacle.imageVerified found.images = some v) :
    s.nvRecovery found = (State.holdFromT0 (State.assignT0 (State.loadTimeBase { v with bin.svcVerified := found.service }))).updateReady
      [Rdy.nvstore, Rdy.meridian] [] := by
  have hagain : s.recoverStore.rdy Rdy.meridian = false := (State.rdy_of_head (State.recoverStore_head s) _).trans hmer
  unfold State.nvRecovery
  rw [if_neg (State.nvRecovery_due hbin hgood hnv htime)]
  simp only [hagain, Bool.false_eq_true, if_false, himage]

theorem State.nvRecovery_resumes (hmer : s.rdy Rdy.meridian = true) (himage : s.recoverStore.imageVerified found.images = some v) :
    s.nvRecovery found = State.updateReady [Rdy.nvstore] [] { v with bin.svcVerified := found.service } := by
  have hagain : s.recoverStore.rdy Rdy.meridian = true := (State.rdy_of_head (State.recoverStore_head s) _).trans hmer
  unfold State.nvRecovery
  rw [if_neg (State.nvRecovery_due hbin hgood hnv htime)]
  simp only [hagain, if_true, himage]

theorem State.nvRecovery_first (hmer : s.rdy Rdy.meridian = false)
    (himage : (s.recoverStore.restoreBinnacle.imageVerified found.images).isSome = true) :
    (s.nvRecovery found).rdy Rdy.nvstore = true ∧ (s.nvRecovery found).rdy Rdy.meridian = true ∧
      (s.nvRecovery found).mer.state = MerState.deadReckoning ∧
      ∃ t0 : Nat, 1 ≤ t0 ∧ (s.nvRecovery found).mer.stamp = BitVec.ofNat 64 (t0 * grainsPerTurn + s.mer.early) := by
  obtain ⟨v, hv⟩ := Option.isSome_iff_exists.mp himage
  have hhead : v.head = s.head := (State.imageVerified_head hv).trans ((State.restoreBinnacle_head _).trans (State.recoverStore_head s))
  have hmerv : v.mer = s.mer := by rw [State.imageVerified_mer hv, State.restoreBinnacle_mer, State.recoverStore_mer]
  rw [State.nvRecovery_starts hbin hgood hnv htime hmer hv]
  generalize hu : State.loadTimeBase { v with bin.svcVerified := found.service } = u
  have huhead : u.head = s.head := by rw [← hu, State.loadTimeBase_head]; exact hhead
  have humer : u.mer = s.mer := by rw [← hu, State.loadTimeBase_mer]; exact hmerv
  have hb : u.assignT0.holdFromT0.rdy Rdy.binnacle = true :=
    (State.rdy_of_head ((State.holdFromT0_head _).trans ((State.assignT0_head u).trans huhead)) _).trans hbin
  obtain ⟨hstate, hstamp⟩ := u.assignT0_mer
  refine ⟨State.updateReady_rises (by decide) (by simp) rfl hb, State.updateReady_rises (by decide) (by simp) rfl hb, ?_, u.t0.1,
    u.one_le_t0, ?_⟩
  · rw [State.updateReady_mer, State.holdFromT0_mer, hstate]
  · rw [State.updateReady_mer, State.holdFromT0_mer, hstamp, humer]

theorem State.nvRecovery_again (hmer : s.rdy Rdy.meridian = true)
    (himage : (s.recoverStore.imageVerified found.images).isSome = true) :
    (s.nvRecovery found).rdy Rdy.nvstore = true ∧ (s.nvRecovery found).mer = s.mer := by
  obtain ⟨v, hv⟩ := Option.isSome_iff_exists.mp himage
  have hhead : v.head = s.head := (State.imageVerified_head hv).trans (State.recoverStore_head s)
  rw [State.nvRecovery_resumes hbin hgood hnv htime hmer hv]
  refine ⟨State.updateReady_rises (by decide) (by simp) rfl ((State.rdy_of_head hhead _).trans hbin), ?_⟩
  rw [State.updateReady_mer]
  exact (State.imageVerified_mer hv).trans (State.recoverStore_mer s)

end

/-! ### LOGBOOK_RECOVERY -/

/-- NVSTORE stands through an update that clears nothing. -/
theorem State.updateReady_keeps_nvstore {sets : List Nat} {s : State} (h : s.rdy Rdy.nvstore = true) :
    readyBit (readyNext s.ready sets []) Rdy.nvstore = true :=
  readyNext_of_ready (by decide) h List.not_mem_nil
    (List.forall_mem_singleton.mpr fun hb => readyNext_keeps_binnacle hb List.not_mem_nil)

theorem State.recoverLog_logbook {s : State} (h : s.rdy Rdy.nvstore = true) : s.recoverLog.rdy Rdy.logbook = true := by
  have hrise : readyBit (readyNext s.ready [Rdy.logbook] []) Rdy.logbook = true := by
    refine readyNext_of_sets (by decide) (List.mem_singleton_self _) List.not_mem_nil fun r hr => ?_
    rw [List.mem_singleton.mp hr]
    exact State.updateReady_keeps_nvstore h
  unfold State.recoverLog
  dsimp only
  split
  · rw [State.rdy, State.updateReady_ready]
    exact hrise
  · rw [State.rdy, State.when_keeps State.ready _ _ _ fun u => State.count_ready .., State.record3_ready]
    dsimp only
    rw [State.updateReady_ready]
    exact hrise

/-! ### The scrub -/

theorem State.sheafLost_nv (before : Nv) (ns : List Nat) (s : State) : (State.sheafLost before ns s).nv = s.nv := by
  refine State.each_keeps State.nv _ _ _ fun n t => ?_
  dsimp only
  split <;> rfl

/-- What a read of a page finds is counted, queued and recorded; the MRAM is not written by it (R437). -/
theorem State.eccFound_mem (page : Nat) (corrected bad : List Nat) (s : State) :
    (s.eccFound page corrected bad).nv.mem = s.nv.mem := by
  have hrecords : ∀ (ws : List Nat) (f : Nat → State → State) (u : State), (∀ w v, (f w v).nv = v.nv) →
      (State.each ws f u).nv = u.nv := fun ws f u hf => State.each_keeps State.nv ws f u hf
  unfold State.eccFound
  dsimp only
  split
  · rw [hrecords _ _ _ fun w v => State.record3_nv ..]
    dsimp only
    split <;> (split <;> rfl)
  · rw [State.sheafLost_nv, hrecords _ _ _ fun w v => State.record3_nv ..]
    dsimp only
    split <;> (split <;> rfl)

/-! ### The commands -/

section
variable {a : At} {s t : State} (ht : t = s.advance a)
include ht

theorem execLogbookRecovery_recovers (hnv : t.rdy Rdy.nvstore = true) (hlog : t.rdy Rdy.logbook = false) :
    execLogbookRecovery a s = .next t.recoverLog := by
  unfold execLogbookRecovery
  rw [← ht]
  exact congrArg _ (if_pos (by simp [hnv, hlog]))

theorem execMramScrubStep_steps {corrected bad : List Nat} (hnv : t.rdy Rdy.nvstore = true) (hdue : t.scrubDue = true) :
    ∃ u, execMramScrubStep a corrected bad s = .next u ∧ u.nv.scrubPage = (t.nv.scrubPage + 1) % 32768 ∧
      u.nv.scrubTurn = some t.turn ∧ u.nv.mem = t.nv.mem := by
  unfold execMramScrubStep
  rw [← ht]
  exact ⟨_, congrArg Host.Outcome.next (if_pos (by simp [hnv, hdue])), rfl, rfl, State.eccFound_mem ..⟩

end

/-- Settles O16: the recoveries raise their bits, and a scrub step goes on by one page. -/
theorem recoveryRaisesTheStore : Obligations.RecoveryRaisesTheStore := by
  unfold Obligations.RecoveryRaisesTheStore
  refine ⟨?_, ?_, ?_, ?_⟩
  · intro a found s t ht hbin hgood hnv hmer htime himage
    subst ht
    exact ⟨_, rfl, State.nvRecovery_first hbin hgood hnv htime hmer himage⟩
  · intro a found s t ht hbin hgood hnv hmer htime himage
    subst ht
    exact ⟨_, rfl, State.nvRecovery_again hbin hgood hnv htime hmer himage⟩
  · intro a s t ht hnv hlog
    exact ⟨_, execLogbookRecovery_recovers ht hnv hlog, State.recoverLog_logbook hnv⟩
  · intro a corrected bad s t ht hnv hdue
    exact execMramScrubStep_steps ht hnv hdue

/-! ### The Logbook's queue (R461, R462) -/

theorem Logbook.push_room {l : Logbook} (h : l.queue.length < 256) (r : LogRec) : l.push r = { l with queue := l.queue ++ [r] } :=
  if_pos h

theorem Logbook.push_nextSeq (l : Logbook) (r : LogRec) : (l.push r).nextSeq = l.nextSeq := by
  unfold Logbook.push
  (repeat' split) <;> rfl

theorem State.record3_nextSeq (src sev code : Nat) (payload : List Byte) (target : Nat) (s : State) :
    (s.record3 src sev code payload target).log.nextSeq = s.log.nextSeq := Logbook.push_nextSeq ..

theorem State.openWindow_nextSeq (seq : Nat) (s : State) : (s.openWindow seq).log.nextSeq = s.log.nextSeq := by
  unfold State.openWindow
  (repeat' split)
  · rfl
  · exact State.record3_nextSeq ..
  · rfl

/-- An event entry is no record, unless it says that entries were lost. -/
theorem State.postEvent_nextSeq (e : EvEntry) (s : State) : (s.postEvent e).log.nextSeq = s.log.nextSeq := by
  unfold State.postEvent
  (repeat' split)
  · exact Logbook.push_nextSeq ..
  · rfl
  · rfl
  · rfl

theorem State.recordWritten_nextSeq (r : LogRec) (slot seq : Nat) (s : State) : (State.recordWritten r slot seq s).log.nextSeq = seq + 1 := by
  have hwhen : ∀ (c : Bool) (f : State → State) (u : State), (∀ v, (f v).log.nextSeq = v.log.nextSeq) →
      (u.when c f).log.nextSeq = u.log.nextSeq := fun c f u hf => State.when_keeps (fun v : State => v.log.nextSeq) c f u hf
  unfold State.recordWritten
  dsimp only
  rw [hwhen _ _ _ fun v => State.postEvent_nextSeq .., hwhen _ _ _ fun v => State.openWindow_nextSeq ..]
  exact hwhen _ (State.irq Irq.critical) _ fun v => rfl

theorem State.nextSeq_le_fillPage (fuel page : Nat) (bs : List Byte) (s : State) :
    s.log.nextSeq ≤ (s.fillPage fuel page bs).2.log.nextSeq := by
  induction fuel generalizing bs s with
  | zero => exact Nat.le_refl _
  | succ fuel ih =>
    rw [State.fillPage]
    split
    · exact Nat.le_refl _
    · dsimp only
      split
      · exact Nat.le_refl _
      · refine Nat.le_trans (Nat.le_succ _) (Nat.le_trans (Nat.le_of_eq ?_) (ih ..))
        exact (State.recordWritten_nextSeq ..).symm

/-- The first record of the queue goes into the page of the write position and takes the next SEQ. -/
theorem State.nextSeq_lt_fillPage {fuel : Nat} {bs : List Byte} {s : State} (h : s.log.queue ≠ []) :
    s.log.nextSeq < (s.fillPage (fuel + 1) (s.log.place / 4) bs).2.log.nextSeq := by
  rw [State.fillPage]
  split
  · contradiction
  · dsimp only
    rw [if_neg (by simp)]
    refine Nat.lt_of_lt_of_le (Nat.lt_succ_self _) ?_
    refine Nat.le_trans (Nat.le_of_eq ?_) (State.nextSeq_le_fillPage ..)
    rw [State.recordWritten_nextSeq]

theorem State.noteOverflow_nextSeq (s : State) : s.noteOverflow.log.nextSeq = s.log.nextSeq := by
  unfold State.noteOverflow
  (repeat' split)
  · rfl
  · rfl
  · exact State.record3_nextSeq ..

theorem State.writeLog_advances {s : State} (hlog : s.rdy Rdy.logbook = true) (hgood : s.nv.good = true) (hqueue : s.log.queue ≠ []) :
    s.log.nextSeq < s.writeLog.log.nextSeq := by
  unfold State.writeLog
  rw [if_neg (by simpa [hlog, hgood] using hqueue)]
  dsimp only
  rw [State.noteOverflow_nextSeq]
  exact State.nextSeq_lt_fillPage hqueue

theorem State.writeLog_waits {s : State} (h : s.rdy Rdy.logbook = false ∨ s.nv.good = false ∨ s.log.queue = []) : s.writeLog = s :=
  if_pos (by simpa [or_assoc] using h)

/-- Settles O17: what a raised record leaves and what a write assigns. -/
theorem logbookQueueAndWrite : Obligations.LogbookQueueAndWrite := by
  unfold Obligations.LogbookQueueAndWrite
  refine ⟨?_, ?_, ?_⟩
  · intro a source severity code target payload posts s t ht hroom
    subst ht
    exact ⟨_, _, rfl, congrArg Logbook.queue (Logbook.push_room hroom _), rfl, rfl, rfl, rfl, rfl, rfl⟩
  · intro a s t ht hlog hgood hqueue
    subst ht
    exact ⟨_, rfl, State.writeLog_advances hlog hgood hqueue⟩
  · intro a s t ht hoff
    subst ht
    exact congrArg Host.Outcome.next (State.writeLog_waits hoff)

end Sys2Proof.Machine

/-! PROOFS. The register window, the fallback paths and the UART (R371–R374, R379, R393, R394). -/

namespace Sys2Proof.Machine

/-! ### The window -/

theorem State.window_open {f : State → State} {s : State} (h : s.rdy Rdy.binnacle = true) : s.window f = f s := if_pos h

theorem State.window_shut {f : State → State} {s : State} (h : s.rdy Rdy.binnacle = false) : s.window f = s :=
  if_neg (by simp [h])

/-- An index write that is ignored sets PROTOCOL, and nothing else of the mailbox changes (R379). -/
theorem State.protocolError_mb (off value : Nat) (s : State) :
    (s.protocolError off value).mb = { s.mb with irqStatus := s.mb.irqStatus ||| 16#32 } := rfl

theorem State.writeReqProd_ignored {value : Nat} {s : State}
    (h : 256 < (BitVec.ofNat 16 value - s.mb.reqCons).toNat ∨ 256 < (BitVec.ofNat 16 value - s.mb.reqProd).toNat) :
    s.writeReqProd value = s.protocolError 0x010 value := if_pos h

theorem State.writeReqProd_taken {value : Nat} {s : State} (hcons : (BitVec.ofNat 16 value - s.mb.reqCons).toNat ≤ 256)
    (hprod : (BitVec.ofNat 16 value - s.mb.reqProd).toNat ≤ 256) :
    s.writeReqProd value = { s with mb.reqProd := BitVec.ofNat 16 value } := if_neg (by omega)

theorem State.writeRspCons_ignored {value : Nat} {s : State}
    (h : (s.mb.rspProd - s.mb.rspCons).toNat < (BitVec.ofNat 16 value - s.mb.rspCons).toNat) :
    s.writeRspCons value = s.protocolError 0x01C value := if_pos h

theorem State.writeRspCons_taken {value : Nat} {s : State}
    (h : (BitVec.ofNat 16 value - s.mb.rspCons).toNat ≤ (s.mb.rspProd - s.mb.rspCons).toNat) :
    s.writeRspCons value = { s with mb.rspCons := BitVec.ofNat 16 value } := if_neg (by omega)

theorem State.writeEvtCons_ignored {value : Nat} {s : State}
    (h : (s.mb.evtProd - s.mb.evtCons).toNat < (BitVec.ofNat 16 value - s.mb.evtCons).toNat) :
    s.writeEvtCons value = s.protocolError 0x024 value := if_pos h

theorem State.writeEvtCons_taken {value : Nat} {s : State}
    (h : (BitVec.ofNat 16 value - s.mb.evtCons).toNat ≤ (s.mb.evtProd - s.mb.evtCons).toNat) :
    s.writeEvtCons value = { s with mb.evtCons := BitVec.ofNat 16 value } := if_neg (by omega)

theorem State.hostIrqLow_iff (s : State) : s.hostIrqLow = true ↔ s.mb.irqStatus &&& s.mb.irqEnable ≠ 0 := by
  simp [State.hostIrqLow]

section
variable {a : At} {s t : State} (ht : t = s.advance a) (hbin : t.rdy Rdy.binnacle = true)
include ht hbin

theorem execReqProdWrite_open (value : Nat) : execReqProdWrite a value s = .next (t.writeReqProd value) := by
  unfold execReqProdWrite
  rw [← ht, State.window_open hbin]

theorem execRspConsWrite_open (value : Nat) : execRspConsWrite a value s = .next (t.writeRspCons value) := by
  unfold execRspConsWrite
  rw [← ht, State.window_open hbin]

theorem execEvtConsWrite_open (value : Nat) : execEvtConsWrite a value s = .next (t.writeEvtCons value) := by
  unfold execEvtConsWrite
  rw [← ht, State.window_open hbin]

end

/-- Settles O52: each index write is ignored beyond its bound and taken within it. -/
theorem indexWrites : Obligations.IndexWrites := by
  unfold Obligations.IndexWrites
  refine ⟨?_, ?_, ?_, ?_, ?_, ?_, State.hostIrqLow_iff⟩
  · intro a value s t ht hbin hfar
    exact ⟨_, (execReqProdWrite_open ht hbin value).trans (congrArg _ (State.writeReqProd_ignored hfar)), State.protocolError_mb ..⟩
  · intro a value s t ht hbin hcons hprod
    exact (execReqProdWrite_open ht hbin value).trans (congrArg _ (State.writeReqProd_taken hcons hprod))
  · intro a value s t ht hbin hfar
    exact ⟨_, (execRspConsWrite_open ht hbin value).trans (congrArg _ (State.writeRspCons_ignored hfar)), State.protocolError_mb ..⟩
  · intro a value s t ht hbin hnear
    exact (execRspConsWrite_open ht hbin value).trans (congrArg _ (State.writeRspCons_taken hnear))
  · intro a value s t ht hbin hfar
    exact ⟨_, (execEvtConsWrite_open ht hbin value).trans (congrArg _ (State.writeEvtCons_ignored hfar)), State.protocolError_mb ..⟩
  · intro a value s t ht hbin hnear
    exact (execEvtConsWrite_open ht hbin value).trans (congrArg _ (State.writeEvtCons_taken hnear))

/-! ### The doorbell and a write transaction -/

theorem State.writeDoorbell_runs {value : Nat} {s : State} (hgo : bitOf value 0 = true) (hidle : s.mb.fbBusy = false) :
    s.writeDoorbell value = State.deliver 2 (s.slotUnread 0x310000 (s.messageLength 0x310000)) (s.mb.mem.readBytes 0x310000 4096)
      { s with mb := { s.mb with fbBusy := true, fbDone := false } } := if_neg (by simp [hgo, hidle])

theorem State.writeDoorbell_idle {value : Nat} {s : State} (h : s.mb.fbBusy = true ∨ bitOf value 0 = false) :
    s.writeDoorbell value = s := if_pos (by simpa [or_comm] using h)

theorem State.writeWindow_registers {addr : Nat} {bytes : List Byte} {s : State} (h : addr < 0x1000) :
    s.writeWindow addr bytes =
      State.each (wholeWords addr (bytes.take (0x1000 - addr))) (fun w v => v.writeRegister w.1 w.2) s := by
  unfold State.writeWindow regionEnd
  rw [if_pos h, if_pos h]

theorem State.writeWindow_slots {addr : Nat} {bytes : List Byte} {s : State}
    (h : 0x100000 ≤ addr ∧ addr < 0x200000 ∨ 0x310000 ≤ addr ∧ addr < 0x311000) :
    s.writeWindow addr bytes = s.writeSlots addr (bytes.take ((if addr < 0x200000 then 0x200000 else 0x311000) - addr)) := by
  have hbeyond : ¬ addr < 0x1000 := by omega
  have hwritable : hostWritable addr = true := by simpa [hostWritable] using h
  unfold State.writeWindow regionEnd
  rw [if_neg hbeyond, if_neg hbeyond, if_pos hwritable]

theorem State.writeWindow_reserved {addr : Nat} {bytes : List Byte} {s : State} (h : 0x1000 ≤ addr) (hnot : hostWritable addr = false) :
    s.writeWindow addr bytes = s := by
  unfold State.writeWindow
  dsimp only
  rw [if_neg (by omega), if_neg (by simp [hnot])]

/-- Four bytes at IRQ_ENABLE are one whole word. -/
theorem wholeWords_irqEnable (b0 b1 b2 b3 : Byte) : wholeWords 0x034 [b0, b1, b2, b3] = [(0x034, leNat [b0, b1, b2, b3])] := by
  have hone : (upTo 1024).filter (fun k => decide (0x034 ≤ 4 * k ∧ 4 * k + 4 ≤ 0x034 + 4)) = [13] := by decide +kernel
  unfold wholeWords
  exact congrArg (List.map fun k => (4 * k, fieldAt [b0, b1, b2, b3] (4 * k - 0x034) 4)) hone

section
variable {a : At} {s t : State} (ht : t = s.advance a)
include ht

theorem execRegisterWrite_window {addr : Nat} {bytes : List Byte} (hbin : t.rdy Rdy.binnacle = true) :
    execRegisterWrite a false addr bytes s = .next (t.writeWindow addr bytes) := by
  unfold execRegisterWrite
  rw [← ht]
  exact congrArg _ ((if_neg Bool.false_ne_true).trans (State.window_open hbin))

theorem execRegisterWrite_reserved {addr : Nat} {bytes : List Byte} (h : 0x1000 ≤ addr) (hnot : hostWritable addr = false) :
    execRegisterWrite a false addr bytes s = .next t := by
  cases hbin : t.rdy Rdy.binnacle
  · unfold execRegisterWrite
    rw [← ht]
    exact congrArg _ ((if_neg Bool.false_ne_true).trans (State.window_shut hbin))
  · exact (execRegisterWrite_window ht hbin).trans (congrArg _ (State.writeWindow_reserved h hnot))

theorem execRegisterWrite_irqEnable {b0 b1 b2 b3 : Byte} (hbin : t.rdy Rdy.binnacle = true) :
    execRegisterWrite a false 0x034 [b0, b1, b2, b3] s =
      .next { t with mb.irqEnable := BitVec.ofNat 32 (leNat [b0, b1, b2, b3]) &&& 0xFF } := by
  have htake : [b0, b1, b2, b3].take (0x1000 - 0x034) = [b0, b1, b2, b3] := List.take_of_length_le (by simp)
  rw [execRegisterWrite_window ht hbin, State.writeWindow_registers (by omega), htake, wholeWords_irqEnable]
  rfl

theorem execRegisterWrite_almanac {addr : Nat} {bytes : List Byte} (h : bytes.length = 4) :
    execRegisterWrite a true addr bytes s = .next { t with alm := t.alm.writeReg addr (leNat bytes) } := by
  unfold execRegisterWrite
  rw [← ht]
  exact congrArg _ ((if_pos rfl).trans (if_pos h))

theorem execRegisterWrite_almanacLength {addr : Nat} {bytes : List Byte} (h : bytes.length ≠ 4) :
    execRegisterWrite a true addr bytes s = .next t := by
  unfold execRegisterWrite
  rw [← ht]
  exact congrArg _ ((if_pos rfl).trans (if_neg h))

theorem execFbDoorbellGo_idle {value : Nat} (h : t.mb.fbBusy = true ∨ bitOf value 0 = false) : execFbDoorbellGo a value s = .next t := by
  unfold execFbDoorbellGo
  rw [← ht]
  cases hbin : t.rdy Rdy.binnacle
  · rw [State.window_shut hbin]
  · rw [State.window_open hbin, State.writeDoorbell_idle h]

/-! ### The UART -/

theorem execUartMessage_discarded {bytes : List Byte} (hbin : t.rdy Rdy.binnacle = true) (hnot : isMessage bytes = false) :
    execUartMessage a bytes s = .next { t with tr.uartDiscarded := t.tr.uartDiscarded + 1 } := by
  unfold execUartMessage
  rw [← ht]
  exact congrArg _ ((if_neg (by simp [hbin])).trans (if_pos (by simp [hnot])))

theorem execUartMessage_offered {bytes : List Byte} (hbin : t.rdy Rdy.binnacle = true) (his : isMessage bytes = true)
    (hroom : t.uartHeld < 4) : execUartMessage a bytes s = .next (t.offer 3 bytes) := by
  unfold execUartMessage
  rw [← ht]
  exact congrArg _ ((if_neg (by simp [hbin])).trans ((if_neg (by simp [his])).trans (if_neg (by omega))))

theorem execUartMessage_fifth {bytes : List Byte} (his : isMessage bytes = true) (hfull : 4 ≤ t.uartHeld) :
    execUartMessage a bytes s = .next t := by
  unfold execUartMessage
  rw [← ht]
  cases hbin : t.rdy Rdy.binnacle
  · exact congrArg _ (if_pos (by simp [hbin]))
  · exact congrArg _ ((if_neg (by simp [hbin])).trans ((if_neg (by simp [his])).trans (if_pos hfull)))

end

/-- Without BINNACLE the window, the UART and the fallback path do nothing (R374). -/
theorem exec_window_shut {a : At} {s t : State} (ht : t = s.advance a) (hbin : t.rdy Rdy.binnacle = false) (value addr : Nat)
    (bytes : List Byte) :
    exec (.irqStatusWrite a value) s = .next t ∧ exec (.evtLostRead a) s = .next t ∧ exec (.fbDoorbellGo a value) s = .next t ∧
    exec (.registerWrite a false addr bytes) s = .next t ∧ exec (.uartMessage a bytes) s = .next t ∧ exec (.uartByteGap a) s = .next t ∧
    exec (.reqProdWrite a value) s = .next t ∧ exec (.rspConsWrite a value) s = .next t ∧ exec (.evtConsWrite a value) s = .next t := by
  subst ht
  have hshut : ∀ f : State → State, (Host.Outcome.next ((s.advance a).window f) : Host.Outcome State Fault Refusal) = .next (s.advance a) :=
    fun f => congrArg _ (State.window_shut hbin)
  have hoff : (!(s.advance a).rdy Rdy.binnacle) = true := by simp [hbin]
  have hnot : ¬ (s.advance a).rdy Rdy.binnacle = true := by simp [hbin]
  exact ⟨hshut _, hshut _, hshut _, hshut _, congrArg Host.Outcome.next (if_pos hoff), congrArg Host.Outcome.next (if_neg hnot),
    hshut _, hshut _, hshut _⟩

/-- Settles O53: the window's other writes, the fallback request buffer and the UART. -/
theorem windowAndFallback : Obligations.WindowAndFallback := by
  unfold Obligations.WindowAndFallback
  refine ⟨?_, ?_, ?_, ?_, ?_, ?_, ?_, ?_, ?_, ?_, ?_, ?_, ?_, ?_, ?_⟩
  · intro a value s t ht hbin
    subst ht
    exact congrArg Host.Outcome.next (State.window_open hbin)
  · intro a s t ht hbin
    subst ht
    exact congrArg Host.Outcome.next (State.window_open hbin)
  · intro a value s t ht hbin hgo hidle
    subst ht
    exact congrArg Host.Outcome.next ((State.window_open hbin).trans (State.writeDoorbell_runs hgo hidle))
  · intro a value s t ht hidle
    exact execFbDoorbellGo_idle ht hidle
  · intro a b0 b1 b2 b3 s t ht hbin
    exact execRegisterWrite_irqEnable ht hbin
  · intro a addr bytes s t ht hbin haddr
    exact (execRegisterWrite_window ht hbin).trans (congrArg _ (State.writeWindow_registers haddr))
  · intro a addr bytes s t ht hbin haddr
    exact ⟨_, (execRegisterWrite_window ht hbin).trans (congrArg _ (State.writeWindow_slots haddr)), rfl, rfl⟩
  · intro a addr bytes s t ht haddr hnot
    exact execRegisterWrite_reserved ht haddr hnot
  · intro a addr bytes s t ht hlen
    exact execRegisterWrite_almanac ht hlen
  · intro a addr bytes s t ht hlen
    exact execRegisterWrite_almanacLength ht hlen
  · intro a bytes s t ht hbin hnot
    exact execUartMessage_discarded ht hbin hnot
  · intro a bytes s t ht hbin his hroom
    exact execUartMessage_offered ht hbin his hroom
  · intro a bytes s t ht his hfull
    exact execUartMessage_fifth ht his hfull
  · intro a s t ht hbin
    subst ht
    exact congrArg Host.Outcome.next (if_pos hbin)
  · intro a value addr bytes s t ht hbin
    exact exec_window_shut ht hbin value addr bytes

end Sys2Proof.Machine


/-! PROOFS. SHEAF_READ of a counter with an uncorrectable word (R437, R458): it raises a record before it answers. -/

namespace Sys2Proof.Machine

/-- A module with BINNACLE and NVSTORE set, whose word E8000h of the MRAM, in the first cell of sheaf counter 0, is uncorrectable. -/
def State.sheafDamaged : State := { ready := 5, nv.badWords := [0xE8000] }

/-- SHEAF_READ of counter 0 over the fallback path. -/
def Req.sheafZero : Req := { session := 2, tag := 1, fn := 2 }

theorem asks_sheafZero : Safety.Asks true 2 0 Req.sheafZero (State.sheafDamaged.advance {}) := by
  constructor <;> decide

/-- The read raises ECC_UNCORRECTABLE for the word (R437, R458). -/
theorem sheafRead_damaged_records :
    (serve opSheafRead Req.sheafZero (State.sheafDamaged.advance {})).log.queue.length = 1 := by decide

/-- Refutes O43: SHEAF_READ of a counter with an uncorrectable word in a cell raises a record (R437, R458) besides answering, where
the statement leaves everything but the mailbox as the passing of time does. -/
theorem not_configurationOperations : ¬ Obligations.ConfigurationOperations := by
  unfold Obligations.ConfigurationOperations
  rintro ⟨-, -, -, -, -, -, hsheaf, -⟩
  have hread := hsheaf {} Req.sheafZero State.sheafDamaged _ rfl asks_sheafZero (by decide) rfl (by decide)
  have hstate : serve opSheafRead Req.sheafZero (State.sheafDamaged.advance {}) = Safety.answered opSheafRead Req.sheafZero .done _ _ _ :=
    Host.Outcome.next.inj hread
  have hqueue : (serve opSheafRead Req.sheafZero (State.sheafDamaged.advance {})).log.queue.length = 0 :=
    congrArg (fun u : State => u.log.queue.length) hstate
  exact absurd (sheafRead_damaged_records.symm.trans hqueue) (by decide)

end Sys2Proof.Machine


/-! PROOFS. The operations of sessions, keys and the event ring (R385, R389, R390, R395, R399, R406, R407, R409). -/

namespace Sys2Proof.Machine

/-! ### Sessions read back (R389–R391) -/

/-- A UDP session with another session state. -/
def UdpSession.withSession (n : Nat) (x : Session) (u : UdpSession) : UdpSession := if u.id == n then { u with ses := x } else u

theorem UdpSession.find_withSession {n : Nat} {x : Session} (us : List UdpSession) :
    (us.map (UdpSession.withSession n x)).find? (fun u => u.id == n) =
      (us.find? (fun u => u.id == n)).map (fun u => { u with ses := x }) := by
  induction us with
  | nil => rfl
  | cons u us ih =>
    by_cases hu : u.id = n
    · simp [UdpSession.withSession, hu]
    · simpa [UdpSession.withSession, hu] using ih

/-- A session that its server serves holds what it is given (R390, R391). -/
theorem State.session_setSession {n : Nat} {s : State} (x : Session) (h : s.serves n = true) :
    (State.setSession n x s).session n = x := by
  unfold State.setSession State.session
  by_cases h1 : n = 1
  · simp [h1]
  by_cases h2 : n = 2
  · simp [h2]
  by_cases h3 : n = 3
  · simp [h3]
  obtain ⟨-, hserves⟩ := (Bool.and_eq_true _ _).mp h
  obtain ⟨u, hu⟩ : ∃ u, s.udpSession n = some u :=
    Option.isSome_iff_exists.mp (by simpa only [binnacleSide, h1, h2, h3, beq_iff_eq, Bool.or_eq_true, or_false, false_or] using hserves)
  have hfind := UdpSession.find_withSession (n := n) (x := x) s.tr.udp
  rw [show s.tr.udp.find? (fun u => u.id == n) = some u from hu] at hfind
  simp only [h1, h2, h3, if_false]
  show (match (s.tr.udp.map (UdpSession.withSession n x)).find? (fun u => u.id == n) with
    | some u => u.ses
    | none => {}) = x
  rw [hfind]
  rfl

theorem State.setSession_flights (n : Nat) (x : Session) (s : State) : (State.setSession n x s).mb.flights = s.mb.flights := by
  unfold State.setSession; (repeat' split) <;> rfl

theorem State.setSession_cfg (n : Nat) (x : Session) (s : State) : (State.setSession n x s).cfg = s.cfg := by
  unfold State.setSession; (repeat' split) <;> rfl

/-- A session is what the mailbox and the transports hold of it. -/
theorem State.session_congr {n : Nat} {s u : State} (hmb : u.mb = s.mb) (htr : u.tr = s.tr) : u.session n = s.session n := by
  simp only [State.session, State.udpSession, hmb, htr]

/-- A session's rights come from its proof, or else from its start (R389). -/
theorem State.rights_of {n : Nat} {x : Session} {s u : State} (hx : u.session n = x) (hcfg : u.cfg = s.cfg) :
    u.rights n = x.proven.getD (s.startRights n) := by
  have hstart : u.startRights n = s.startRights n := by unfold State.startRights State.cfgN; rw [hcfg]
  rw [State.rights, hx, hstart]

/-! ### The length of a digest -/

theorem Sha.be_length (n v : Nat) : (Sha.be n v).length = n := by
  induction n generalizing v with
  | zero => rfl
  | succ n ih => simp [Sha.be, ih]

theorem sha256_length (m : List Byte) : (sha256 m).length = 32 := by simp [sha256, Sha.be_length]

theorem hmacSha256_length (key msg : List Byte) : (hmacSha256 key msg).length = 32 := sha256_length _

theorem le_lengthLimit {k : Nat} (n : Nat) (h : k ≤ 1404) : k ≤ lengthLimit n := by unfold lengthLimit; split <;> omega

section
variable {a : At} {r : Req} {s t u : State} {fb : Bool} {fn len : Nat}

/-- A session operation that executes and is answered at once, with the session it leaves (R390). -/
theorem session_replied {d : OpDef} {x : Resp} {ses : Session} (h : Safety.Asks fb fn len r t) (hc : d.check r t = none)
    (hbody : d.body r (t.addFlight d r) = (u, some x)) (hx : x.payload.length ≤ 1404)
    (hf : u.mb.flights = (t.addFlight d r).mb.flights) (hses : u.session r.session = ses) (hcfg : u.cfg = t.cfg)
    (hinterim : x.status ≠ .accepted ∧ x.status ≠ .deferred) :
    ∃ w, Host.Outcome.next (serve d r t) = (Host.Outcome.next w : Host.Outcome State Fault Refusal) ∧
      Safety.Replied r x.status x.payload w ∧ w.session r.session = ses ∧
      w.rights r.session = ses.proven.getD (t.startRights r.session) := by
  obtain ⟨hrep, -, -⟩ := serve_run d r t u x h.serves h.barrier hc hbody (le_lengthLimit _ hx)
    (hf ▸ State.flight_mem_addFlight d r t)
  have hw := serve_finish h hc hbody hinterim
  have hsw : (serve d r t).session r.session = ses := by rw [hw]; exact hses
  exact ⟨_, rfl, hrep, hsw, State.rights_of hsw (by rw [hw]; exact hcfg)⟩

/-! ### IDENTIFY and BARRIER (R385, R407) -/

theorem opIdentify_check (h : Safety.Asks true 0 0 r t) (hready : t.rdy Rdy.binnacle = true) (htarget : r.target = 0) :
    opIdentify.check r t = none := by
  have hr : t.rdy r.fn = true := h.fn ▸ hready
  apply OpDef.check_eq_none h <;> simp [opIdentify, htarget, hr]

theorem opBarrier_check (h : Safety.Asks true 0 0 r t) (hready : t.rdy Rdy.binnacle = true) (htarget : r.target = 0) :
    opBarrier.check r t = none := by
  have hr : t.rdy r.fn = true := h.fn ▸ hready
  apply OpDef.check_eq_none h <;> simp [opBarrier, htarget, hr]

theorem barrier_serves (h : Safety.Asks true 0 0 r t) (hc : opBarrier.check r t = none) :
    serve opBarrier r t = (t.addFlight opBarrier r).settle :=
  serve_accepted _ _ _ _ h.serves h.barrier hc rfl

/-- A BARRIER alone in flight completes at once (R385). -/
theorem barrier_alone (h : t.mb.flights = []) : Safety.Replied r .done [] (t.addFlight opBarrier r).settle := by
  have hflights : (t.addFlight opBarrier r).mb.flights = [Safety.flight opBarrier r t] := by
    rw [State.addFlight, h]; rfl
  have hdone : (t.addFlight opBarrier r).barrierDone (Safety.flight opBarrier r t) = true := by
    rw [State.barrierDone, hflights]
    simp [Safety.flight, opBarrier]
  have hready : (t.addFlight opBarrier r).mb.flights.filter
      (fun f => f.resp.isNone && (t.addFlight opBarrier r).barrierDone f) = [Safety.flight opBarrier r t] := by
    rw [hflights, List.filter_cons_of_pos (by rw [hdone]; rfl), List.filter_nil]
  have hsettle : (t.addFlight opBarrier r).settle = (t.addFlight opBarrier r).finish r.session r.tag
      ((t.addFlight opBarrier r).resp .done) := by
    rw [State.settle, hready]; rfl
  have hfinish := State.mem_finish r.session r.tag ((t.addFlight opBarrier r).resp .done)
    (State.flight_mem_addFlight opBarrier r t) rfl rfl rfl rfl
  rw [Resp.fit_of_le (Nat.zero_le _)] at hfinish
  rw [hsettle]
  exact ⟨_, _, hfinish, rfl, rfl, rfl, rfl, rfl⟩

/-- The completion of other sessions' flights leaves a flight as it is. -/
theorem mem_foldl_finish {f : Flight} (gs : List Flight) (hother : ∀ g ∈ gs, g.session ≠ f.session) :
    ∀ u : State, f ∈ u.mb.flights → f ∈ (gs.foldl (fun t g => t.finish g.session g.tag (t.resp .done)) u).mb.flights := by
  induction gs with
  | nil => exact fun _ hf => hf
  | cons g gs ih =>
    intro u hf
    refine ih (fun x hx => hother x (List.mem_cons_of_mem _ hx)) _ ?_
    have hne : (f.session == g.session) = false := beq_false_of_ne (Ne.symm (hother g List.mem_cons_self))
    simp only [State.finish, State.finishIf, List.mem_map]
    exact ⟨f, hf, by simp [hne]⟩

/-- With a request accepted before it on its server still in flight, a BARRIER waits (R385). -/
theorem barrier_waits {f : Flight} (hb : t.barred r.session = false) (hf : f ∈ t.mb.flights) (hrej : f.rejected = false)
    (hside : binnacleSide f.session = binnacleSide r.session) (horder : f.order ≤ t.mb.orders) :
    ((t.addFlight opBarrier r).settle).barred r.session = true := by
  refine List.any_eq_true.mpr ⟨Safety.flight opBarrier r t, mem_foldl_finish _ ?_ _ (State.flight_mem_addFlight ..), ?_⟩
  · intro g hg hsession
    obtain ⟨hmem, hready⟩ := List.mem_filter.mp hg
    simp only [State.barrierDone, Bool.and_eq_true, List.all_eq_true] at hready
    obtain ⟨hnone, ⟨hcls, hop⟩, hall⟩ := hready
    rcases List.mem_append.mp hmem with hold | hnew
    · have hbarred : t.barred r.session = true := List.any_eq_true.mpr ⟨g, hold, by
        simp [hnone, hcls, hop, show g.session = r.session from hsession]⟩
      exact absurd hbarred (by simp [hb])
    · have hown : g = Safety.flight opBarrier r t := List.mem_singleton.mp hnew
      have hfirst := hall f (List.mem_append_left _ hf)
      rw [hown] at hfirst
      simp [hrej, Safety.flight, hside] at hfirst
      omega
  · simp [Safety.flight, opBarrier]

/-! ### Keys and proofs (R390) -/

theorem opSessionOpen_check (h : Safety.Asks true 0 20 r t) (hready : t.rdy Rdy.binnacle = true) (hnv : t.rdy Rdy.nvstore = true)
    (htarget : r.target = 0) (hkey : 1 ≤ fieldAt r.payload 0 1 ∧ fieldAt r.payload 0 1 ≤ 2)
    (hzero : allZero ((r.payload.drop 1).take 3) = true) : opSessionOpen.check r t = none := by
  have hr : t.rdy r.fn = true := h.fn ▸ hready
  have hzeros : allZero (r.payload.tail.take 3) = true := List.drop_one ▸ hzero
  apply OpDef.check_eq_none h <;> simp [opSessionOpen, htarget, hr, hnv, hkey, hzeros]

theorem opSessionProve_check (h : Safety.Asks true 0 32 r t) (hready : t.rdy Rdy.binnacle = true) (hnv : t.rdy Rdy.nvstore = true)
    (htarget : r.target = 0) : opSessionProve.check r t = none := by
  have hr : t.rdy r.fn = true := h.fn ▸ hready
  apply OpDef.check_eq_none h <;> simp [opSessionProve, htarget, hr, hnv]

theorem opSessionClose_check (h : Safety.Asks true 0 0 r t) (hready : t.rdy Rdy.binnacle = true) (htarget : r.target = 0) :
    opSessionClose.check r t = none := by
  have hr : t.rdy r.fn = true := h.fn ▸ hready
  apply OpDef.check_eq_none h <;> simp [opSessionClose, htarget, hr]

/-- SESSION_OPEN keeps the opening and leaves what was proven (R390). -/
theorem sessionOpen_opens (h : Safety.Asks true 0 20 r t) (hc : opSessionOpen.check r t = none)
    (hkey : (t.keyOf (fieldAt r.payload 0 1)).isSome = true) :
    ∃ u, Host.Outcome.next (serve opSessionOpen r t) = (Host.Outcome.next u : Host.Outcome State Fault Refusal) ∧
      Safety.Replied r .done (le 4 r.session ++ (t.newOpening r.payload).serverNonce) u ∧
      (u.session r.session).opening = some (t.newOpening r.payload) ∧ u.rights r.session = t.rights r.session := by
  have hbody : opSessionOpen.body r (t.addFlight opSessionOpen r) = State.ok (State.setSession r.session
      { t.session r.session with opening := some (t.newOpening r.payload) } (t.addFlight opSessionOpen r).freeNext)
      (le 4 r.session ++ (t.newOpening r.payload).serverNonce) :=
    if_neg (by rw [show (t.addFlight opSessionOpen r).keyOf _ = t.keyOf _ from rfl, Option.isNone_eq_false_iff.mpr hkey]; decide)
  obtain ⟨w, hw, hrep, hses, hrights⟩ := session_replied h hc hbody (by simp [State.resp, State.newOpening])
    (State.setSession_flights ..) (State.session_setSession _ h.serves) (State.setSession_cfg ..) ⟨Status.noConfusion, Status.noConfusion⟩
  exact ⟨w, hw, hrep, by rw [hses], hrights⟩

theorem proveBody_right {o : Opening} {key : List Byte} (hopen : (s.session r.session).opening = some o)
    (hkey : s.keyOf o.keyId = some key) (hproof : hmacSha256 key (proofText 0x50 r.session o) = r.payload) :
    proveBody r s = s.proofRight r.session key o := by
  simp only [proveBody, hopen, hkey, hproof, if_true]

/-- The right PROOF gives the rights of its key and the session key (R390). -/
theorem sessionProve_right {o : Opening} {key : List Byte} (h : Safety.Asks true 0 32 r t) (hc : opSessionProve.check r t = none)
    (hopen : (t.session r.session).opening = some o) (hkey : t.keyOf o.keyId = some key)
    (hproof : hmacSha256 key (proofText 0x50 r.session o) = r.payload) :
    ∃ u, Host.Outcome.next (serve opSessionProve r t) = (Host.Outcome.next u : Host.Outcome State Fault Refusal) ∧
      Safety.Replied r .done (hmacSha256 key (proofText 0x53 r.session o)) u ∧
      u.rights r.session = (if o.keyId = 1 then .basic else .expert) ∧
      (u.session r.session).sk = hmacSha256 key (proofText 0x4B r.session o) := by
  have hbody : opSessionProve.body r (t.addFlight opSessionProve r) =
      (t.addFlight opSessionProve r).proofRight r.session key o :=
    proveBody_right (s := t.addFlight opSessionProve r) hopen hkey hproof
  obtain ⟨w, hw, hrep, hses, hrights⟩ := session_replied
    (ses := { proven := some (if o.keyId = 1 then .basic else .expert), sk := hmacSha256 key (proofText 0x4B r.session o) })
    h hc hbody (by simp [State.resp, hmacSha256_length])
    ((congrArg Mailbox.flights (State.record_mb ..)).trans (State.setSession_flights ..))
    ((State.session_congr (State.record_mb ..) (State.record_tr ..)).trans
      (State.session_setSession (s := t.addFlight opSessionProve r) _ h.serves))
    ((State.record_cfg ..).trans (State.setSession_cfg ..)) ⟨Status.noConfusion, Status.noConfusion⟩
  exact ⟨w, hw, hrep, hrights, by rw [hses]⟩

/-- A PROOF that is not the one over the opening, or one without an opening or its key, is wrong (R390). -/
theorem proveBody_wrong (hwrong : ∀ o key, (s.session r.session).opening = some o → s.keyOf o.keyId = some key →
    hmacSha256 key (proofText 0x50 r.session o) ≠ r.payload) : proveBody r s = s.proofWrong r.session := by
  unfold proveBody
  split
  · rfl
  · split
    · rfl
    · exact if_neg (hwrong _ _ ‹_› ‹_›)

theorem sessionProve_wrong (h : Safety.Asks true 0 32 r t) (hc : opSessionProve.check r t = none)
    (hwrong : ∀ o key, (t.session r.session).opening = some o → t.keyOf o.keyId = some key →
      hmacSha256 key (proofText 0x50 r.session o) ≠ r.payload) :
    ∃ u, Host.Outcome.next (serve opSessionProve r t) = (Host.Outcome.next u : Host.Outcome State Fault Refusal) ∧
      Safety.Replied r .notPermitted [] u ∧ u.rights r.session = t.startRights r.session ∧ (u.session r.session).opening = none := by
  have hbody : opSessionProve.body r (t.addFlight opSessionProve r) = (t.addFlight opSessionProve r).proofWrong r.session :=
    proveBody_wrong (s := t.addFlight opSessionProve r) hwrong
  obtain ⟨w, hw, hrep, hses, hrights⟩ := session_replied
    (ses := { t.session r.session with proven := none, opening := none }) h hc hbody (Nat.zero_le _)
    (State.setSession_flights ..) (State.session_setSession (s := t.addFlight opSessionProve r) _ h.serves)
    (State.setSession_cfg ..) ⟨Status.noConfusion, Status.noConfusion⟩
  exact ⟨w, hw, hrep, hrights, by rw [hses]⟩

/-- SESSION_CLOSE ends what was proven; a UDP session keeps its key for its answer (R390). -/
theorem sessionClose_ends (h : Safety.Asks true 0 0 r t) (hc : opSessionClose.check r t = none) :
    ∃ u, Host.Outcome.next (serve opSessionClose r t) = (Host.Outcome.next u : Host.Outcome State Fault Refusal) ∧
      Safety.Replied r .done [] u ∧ u.rights r.session = t.startRights r.session ∧
      u.session r.session = { sk := if 16 ≤ r.session then (t.session r.session).sk else [] } := by
  obtain ⟨w, hw, hrep, hses, hrights⟩ := session_replied
    (ses := { sk := if 16 ≤ r.session then (t.session r.session).sk else [] }) h hc rfl (Nat.zero_le _)
    (State.setSession_flights ..) (State.session_setSession (s := t.addFlight opSessionClose r) _ h.serves)
    (State.setSession_cfg ..) ⟨Status.noConfusion, Status.noConfusion⟩
  exact ⟨w, hw, hrep, hrights, hses⟩

/-! ### Security objects (R399) -/

theorem opSecWrite_check (h : Safety.Commands true 0 r.payload.length r t) (hready : t.rdy Rdy.binnacle = true) (htarget : r.target = 0)
    (hlen : 4 ≤ r.payload.length) (hknown : secKnown (fieldAt r.payload 0 1) (fieldAt r.payload 1 1) = true)
    (hzero : allZero ((r.payload.drop 2).take 2) = true) (hfits : secFits (fieldAt r.payload 0 1) (r.payload.drop 4) = true) :
    opSecWrite.check r t = none := by
  have hr : t.rdy r.fn = true := h.asks.fn ▸ hready
  have hmax : r.payload.length ≤ 4064 := h.asks.room.trans (by unfold lengthLimit; split <;> decide)
  apply OpDef.check_eq_none h.asks <;> simp [opSecWrite, htarget, hr, h.expert, hlen, hmax, hknown, hzero, hfits]

theorem State.secInfo_of_some {object index : Nat} {d : List Byte} (h : s.secObject object index = some d) :
    s.secInfo object index = le 1 1 ++ le 3 0 ++ le 4 d.length ++ (if secSecret object then List.replicate 32 0 else sha256 d) := by
  rw [State.secInfo, h]

theorem State.secInfo_of_none {object index : Nat} (h : s.secObject object index = none) :
    s.secInfo object index = List.replicate 40 0 := by
  rw [State.secInfo, h]

theorem opSecInfo_body : opSecInfo.body r s = s.ok (s.secInfo (fieldAt r.payload 0 1) (fieldAt r.payload 1 1)) := rfl

theorem opSecInfo_check (h : Safety.Asks true 0 4 r t) (hready : t.rdy Rdy.binnacle = true) (hnv : t.rdy Rdy.nvstore = true)
    (htarget : r.target = 0) (hknown : secKnown (fieldAt r.payload 0 1) (fieldAt r.payload 1 1) = true)
    (hzero : allZero (r.payload.drop 2) = true) : opSecInfo.check r t = none := by
  have hr : t.rdy r.fn = true := h.fn ▸ hready
  apply OpDef.check_eq_none h <;> simp [opSecInfo, htarget, hr, hnv, hknown, hzero]

/-- The store request of SEC_WRITE (R399, R446). -/
def secSave (r : Req) : SaveReq :=
  { typ := 7, key := fieldAt r.payload 0 1 * 256 + fieldAt r.payload 1 1, payload := r.payload.drop 4,
    flags := if (r.payload.drop 4).isEmpty then 4 else 0 }

/-- SEC_WRITE answers what the store says, and leaves the store as its write does (R399, R451). -/
theorem secWriteBody_saved (htakes : s.nvTakes = true) :
    ∃ v, secWriteBody r s = (v, some (v.resp (s.saveNow (secSave r)).1)) ∧ v.nv = (s.saveNow (secSave r)).2.nv ∧
      v.mb.flights = s.mb.flights := by
  have hbody : secWriteBody r s = match s.saveNow (secSave r) with
      | (.done, t) => State.ok ((t.record (sessionSource r.session) 2 0x0305 (le 1 (fieldAt r.payload 0 1) ++
          le 1 (fieldAt r.payload 1 1) ++ le 1 (bit (!(r.payload.drop 4).isEmpty))) false 0).refreshPorts)
      | (st, t) => t.fail st := if_neg (by simp [htakes])
  have hmb := State.saveNow_mb (secSave r) s
  rw [hbody]
  generalize s.saveNow (secSave r) = p at hmb ⊢
  obtain ⟨st, t⟩ := p
  split
  · rename_i u heq
    obtain ⟨rfl, rfl⟩ := Prod.mk.inj heq
    exact ⟨_, rfl, (State.refreshPorts_nv _).trans (State.record_nv ..), (State.refreshPorts_flights _).trans
      (congrArg Mailbox.flights ((State.record_mb ..).trans hmb))⟩
  · rename_i heq
    obtain ⟨rfl, rfl⟩ := Prod.mk.inj heq
    exact ⟨_, rfl, rfl, congrArg Mailbox.flights hmb⟩

theorem secWrite_saves (h : Safety.Asks true 0 len r t) (hc : opSecWrite.check r t = none) (htakes : t.nvTakes = true) :
    ∃ v, Host.Outcome.next (serve opSecWrite r t) = (Host.Outcome.next v : Host.Outcome State Fault Refusal) ∧
      Safety.Replied r (t.saveNow (secSave r)).1 [] v ∧ v.nv = (t.saveNow (secSave r)).2.nv := by
  obtain ⟨v, hbody, hnv, hflights⟩ := secWriteBody_saved (r := r) (s := t.addFlight opSecWrite r) htakes
  obtain ⟨hstatus, hstore⟩ := State.saveNow_of_nv (q := secSave r) (u := t.addFlight opSecWrite r) (s := t) rfl
  rw [hstatus] at hbody
  obtain ⟨w, hw, hrep, heq⟩ := exists_replied (d := opSecWrite) h hc hbody (Nat.zero_le _) hflights
  exact ⟨w, hw, hrep, by rw [heq]; exact hnv.trans hstore⟩

theorem secWrite_busy (h : Safety.Asks true 0 len r t) (hc : opSecWrite.check r t = none) (htakes : t.nvTakes = false) :
    ∃ v, Host.Outcome.next (serve opSecWrite r t) = (Host.Outcome.next v : Host.Outcome State Fault Refusal) ∧
      Safety.Replied r .nvBusy [] v ∧ v.nv = t.nv := by
  have hbody : opSecWrite.body r (t.addFlight opSecWrite r) = (t.addFlight opSecWrite r).fail .nvBusy :=
    if_pos (by rw [show (t.addFlight opSecWrite r).nvTakes = t.nvTakes from rfl, htakes]; rfl)
  obtain ⟨w, hw, hrep, heq⟩ := exists_replied h hc hbody (Nat.zero_le _) rfl
  exact ⟨w, hw, hrep, by rw [heq]; rfl⟩

/-! ### The event ring (R395, R409) -/

theorem opEventStatus_check (h : Safety.Asks false 16 0 r t) (htarget : r.target = 0) : opEventStatus.check r t = none := by
  have hr : t.rdy r.fn = true := h.fn ▸ services_of_asks h
  apply OpDef.check_eq_none h <;> simp [opEventStatus, htarget, hr]

theorem opEventRead_check (h : Safety.Asks false 16 8 r t) (htarget : r.target = 0)
    (hcount : 1 ≤ fieldAt r.payload 4 1 ∧ fieldAt r.payload 4 1 ≤ 63) (hzero : allZero (r.payload.drop 5) = true) :
    opEventRead.check r t = none := by
  have hr : t.rdy r.fn = true := h.fn ▸ services_of_asks h
  apply OpDef.check_eq_none h <;> simp [opEventRead, htarget, hr, hcount, hzero]

/-- What EVENT_READ answers (R409). -/
theorem eventReadBody_ok {js : List Nat}
    (hjs : js = ((upTo s.mb.evtPosted).filter (fun j => !newer 32 (fieldAt r.payload 0 4) (seqAfter s.evtFirst j))).take
      (fieldAt r.payload 4 1)) :
    eventReadBody r s = s.ok (le 4 s.evtFirst ++
      le 4 ((js.getLast?.map (fun j => seqAfter s.evtFirst (j + 1))).getD (nextEventSeq s.mb.evtSeq).toNat) ++
      le 1 js.length ++ le 7 0 ++ js.flatMap s.evtEntry) := by
  simp only [eventReadBody, ← hjs]
  cases js.getLast? <;> rfl

end

/-- Settles O44: the answered operations by their bodies, BARRIER by what is in flight, the session operations by the session
read back, SEC_WRITE by what the store says. -/
theorem sessionOperations : Obligations.SessionOperations := by
  unfold Obligations.SessionOperations
  refine ⟨?_, ?_, ?_, ?_, ?_, ?_, ?_, ?_, ?_, ?_, ?_, ?_, ?_⟩
  · intro a r s t ht h hready htarget
    subst ht
    exact congrArg _ (serve_ok h (opIdentify_check h hready htarget) rfl)
  · intro a r s t ht h hready htarget hnone
    subst ht
    exact ⟨_, congrArg Host.Outcome.next (barrier_serves h (opBarrier_check h hready htarget)), barrier_alone hnone⟩
  · intro a r f s t ht h hready htarget hf hrej hside horder
    subst ht
    exact ⟨_, congrArg Host.Outcome.next (barrier_serves h (opBarrier_check h hready htarget)), barrier_waits h.barrier hf hrej hside horder⟩
  · intro a r s t ht h hready htarget hid hzero hkey hnv
    subst ht
    exact sessionOpen_opens h (opSessionOpen_check h hready hnv htarget hid hzero) hkey
  · intro a r o key s t ht h hready htarget hopen hkey hproof hnv
    subst ht
    exact sessionProve_right h (opSessionProve_check h hready hnv htarget) hopen hkey hproof
  · intro a r s t ht h hready htarget hwrong hnv
    subst ht
    exact sessionProve_wrong h (opSessionProve_check h hready hnv htarget) hwrong
  · intro a r s t ht h hready htarget
    subst ht
    exact sessionClose_ends h (opSessionClose_check h hready htarget)
  · intro a r object index st u s t ht h hready htarget hobject hindex hlen hknown hzero hfits htakes hsave
    subst ht hobject hindex
    have hsaves := secWrite_saves h.asks (opSecWrite_check h hready htarget hlen hknown hzero hfits) htakes
    rw [secSave, hsave] at hsaves
    exact hsaves
  · intro a r s t ht h hready htarget hlen hknown hzero hfits htakes
    subst ht
    exact secWrite_busy h.asks (opSecWrite_check h hready htarget hlen hknown hzero hfits) htakes
  · intro a r object index d s t ht h hready hnv htarget hobject hindex hknown hzero hd
    subst ht hobject hindex
    exact congrArg _ (serve_ok h (opSecInfo_check h hready hnv htarget hknown hzero) (by
      rw [opSecInfo_body, State.secInfo_of_some (s := State.addFlight opSecInfo r (s.advance a)) hd]))
  · intro a r object index s t ht h hready hnv htarget hobject hindex hknown hzero hd
    subst ht hobject hindex
    exact congrArg _ (serve_ok h (opSecInfo_check h hready hnv htarget hknown hzero) (by
      rw [opSecInfo_body, State.secInfo_of_none (s := State.addFlight opSecInfo r (s.advance a)) hd]))
  · intro a r s t ht h htarget
    subst ht
    exact congrArg _ (serve_ok h (opEventStatus_check h htarget) rfl)
  · intro a r first next js s t ht h htarget hcount hzero hfirst hjs hnext
    subst ht hfirst hnext
    exact congrArg _ (serve_ok h (opEventRead_check h htarget hcount hzero)
      (eventReadBody_ok (s := State.addFlight opEventRead r (s.advance a)) hjs))

end Sys2Proof.Machine


/-! PROOFS. The Almanac's domain and its registers (R543–R553). -/

namespace Sys2Proof.Machine

/-! ### The alarms (R549, R550) -/

theorem Almanac.alarm_setAlarm_same (m : Almanac) (n : Nat) (f : AlmAlarm → AlmAlarm) :
    (m.setAlarm n f).alarm n = f (m.alarm n) := by
  unfold Almanac.setAlarm Almanac.alarm
  split <;> simp [*]

theorem Almanac.alarm_setAlarm_other {n k : Nat} (hn : n < 2) (hk : k < 2) (h : n ≠ k) (m : Almanac) (f : AlmAlarm → AlmAlarm) :
    (m.setAlarm n f).alarm k = m.alarm k := by
  obtain ⟨rfl, rfl⟩ | ⟨rfl, rfl⟩ : (n = 0 ∧ k = 1) ∨ (n = 1 ∧ k = 0) := by omega
  · rfl
  · rfl

/-- An Almanac without its alarms. -/
def Almanac.offAlarms (m : Almanac) : Almanac := { m with alarm0 := {}, alarm1 := {} }

theorem Almanac.setAlarm_offAlarms (m : Almanac) (n : Nat) (f : AlmAlarm → AlmAlarm) : (m.setAlarm n f).offAlarms = m.offAlarms := by
  unfold Almanac.setAlarm
  split <;> rfl

/-- An alarm as it stands once it has fired (R549, R551). -/
def AlmAlarm.firedBy (cause : Nat) (owed : Bool) (x : AlmAlarm) : AlmAlarm :=
  { x with fired := true, cause := cause, owed := owed, woke := true }

theorem State.fireAlarm_alm (n cause : Nat) (s : State) :
    (s.fireAlarm n cause).alm = s.alm.setAlarm n (AlmAlarm.firedBy cause (!s.rdy Rdy.almanac)) := by
  unfold State.fireAlarm State.alarmRecord
  dsimp only
  split
  · exact State.record_alm ..
  · rfl

section
variable {a : At} {s t : State}

theorem execAlarm_due {n : Nat} (ht : t = s.advance a) (hn : n < 2) (hdue : t.alm.due n = true) :
    execAlarm a n s = .next (t.fireAlarm n 1) := by
  unfold execAlarm
  rw [← ht]
  exact congrArg _ (if_pos (by simp [hn, hdue]))

/-! ### The records that are owed, and the period of TRIM (R543, R544, R553) -/

theorem execWrapped_owed (ht : t = s.advance a) (howed : t.alm.wrapOwed = true) :
    execWrapped a s = .next (if t.rdy Rdy.almanac then
      State.record3 1 3 0x0005 [] 0 { t with svc.timeValid := false, alm.wrapOwed := false } else { t with svc.timeValid := false }) := by
  unfold execWrapped
  rw [← ht]
  exact congrArg _ (if_pos howed)

theorem execPowerLost_owed (ht : t = s.advance a) (howed : t.alm.powerLostOwed = true) (hready : t.rdy Rdy.almanac = true) :
    execPowerLost a s = .next (State.record3 1 3 0x0004 [] 0 { t with alm.powerLostOwed := false }) := by
  unfold execPowerLost
  rw [← ht]
  exact congrArg _ (if_pos (by simp [howed, hready]))

theorem Almanac.advance_trimNew (m : Almanac) (n : Nat) : (m.advance n).trimNew = m.trimNew := by
  unfold Almanac.advance
  split <;> rfl

theorem execTrimPeriodStart_free (ht : t = s.advance a) (hcommit : t.alm.committing = false) (hdead : t.alm.dead = false) :
    execTrimPeriodStart a s = .next { t with alm := { t.alm.advance (grainsPerTurn - t.alm.cycle) with
      cycle := 0, trim := (t.alm.advance (grainsPerTurn - t.alm.cycle)).trimNew } } := by
  unfold execTrimPeriodStart
  rw [← ht]
  exact congrArg _ (if_neg (by simp [hcommit, hdead]))

theorem execDomainPowerOn_dark (ht : t = s.advance a) (hdark : t.alm.dead = true ∨ t.sup.state = SupplyState.off) :
    execDomainPowerOn a s = .next t.domainPowerOn := by
  unfold execDomainPowerOn
  rw [← ht]
  refine congrArg _ (if_pos ?_)
  rcases hdark with h | h <;> simp [State.powered, h]

/-! ### The crystal check (R545) -/

/-- What the crystal check keeps of the Almanac: the count, its last check and the two runs. -/
def Almanac.judged (m : Almanac) : BitVec 48 × Nat × Option Nat × Nat × Nat := (m.count, m.lastCheck, m.checkTurn, m.passRun, m.failRun)

theorem State.closeAlmanac_judged (s : State) : s.closeAlmanac.alm.judged = s.alm.judged := by
  unfold State.closeAlmanac State.lockAlmanac
  split
  · rw [State.lower_alm, State.abortFn_alm]; rfl
  · rfl

theorem Almanac.setAlarm_judged (m : Almanac) (n : Nat) (f : AlmAlarm → AlmAlarm) : (m.setAlarm n f).judged = m.judged := by
  unfold Almanac.setAlarm
  split <;> rfl

/-- The interface opens with the count as its last check; nothing else that the check keeps changes (R552). -/
theorem State.openAlmanac_judged (h : s.alm.lastCheck = s.alm.count.toNat) : s.openAlmanac.alm.judged = s.alm.judged := by
  unfold State.openAlmanac
  dsimp only
  split
  · rfl
  · split
    · rfl
    · refine (State.each_keeps (fun u : State => u.alm.judged) _ _ _ fun n u => ?_).trans ?_
      · rw [State.alarmRecord, State.record_alm, Almanac.setAlarm_judged]
      · rw [State.updateReady_alm, Almanac.judged, ← h]; rfl

/-- The runs of R545 after a check of `adv` ticks against `expected`. -/
def State.runsChecked (expected adv : Nat) (s : State) : State := { s with alm := { s.alm with
  lastCheck := s.alm.count.toNat
  checkTurn := some s.turn
  passRun := if decide (((adv : Int) - expected).natAbs * 100 ≤ expected) then s.alm.passRun + 1 else 0
  failRun := if decide (2 * adv < expected) then s.alm.failRun + 1 else 0 } }

/-- TICK_FAULT after a check, with its record (R545). -/
def State.tickJudged (adv : Nat) (s : State) : State :=
  if !s.alm.tickFault && decide (2 ≤ s.alm.failRun) then
    State.record3 1 3 0x0006 (le 1 1 ++ le 4 adv) 0 (State.closeAlmanac { s with alm.tickFault := true })
  else if s.alm.tickFault && decide (2 ≤ s.alm.passRun) then
    State.record3 1 3 0x0006 (le 1 0 ++ le 4 adv) 0
      (State.when (decide (10 ≤ s.sen.railGood)) State.openAlmanac { s with alm.tickFault := false })
  else s

theorem State.crystalCheck_eq {expected adv : Nat} (hadv : adv = (t.alm.count - BitVec.ofNat 48 t.alm.lastCheck).toNat) :
    t.crystalCheck expected = (t.runsChecked expected adv).tickJudged adv := by
  subst hadv
  rfl

theorem State.tickJudged_judged (adv : Nat) (h : s.alm.lastCheck = s.alm.count.toNat) :
    (s.tickJudged adv).alm.judged = s.alm.judged := by
  unfold State.tickJudged
  split
  · exact (congrArg Almanac.judged (State.record_alm ..)).trans (State.closeAlmanac_judged _)
  · split
    · refine (congrArg Almanac.judged (State.record_alm ..)).trans ?_
      unfold State.when
      split
      · exact State.openAlmanac_judged (s := { s with alm.tickFault := false }) h
      · rfl
    · rfl

/-- The Almanac's runs after a check against `expected` ticks (R545). -/
theorem State.crystalCheck_judged {expected adv : Nat} (hadv : adv = (t.alm.count - BitVec.ofNat 48 t.alm.lastCheck).toNat) :
    (t.crystalCheck expected).alm.judged = (t.alm.count, t.alm.count.toNat, some t.turn,
      if ((adv : Int) - expected).natAbs * 100 ≤ expected then t.alm.passRun + 1 else 0,
      if 2 * adv < expected then t.alm.failRun + 1 else 0) := by
  rw [State.crystalCheck_eq hadv, State.tickJudged_judged adv rfl]
  simp only [State.runsChecked, Almanac.judged, decide_eq_true_eq]

theorem execAlmanacCrystalCheck_due {expected : Nat} (ht : t = s.advance a) (hbin : t.rdy Rdy.binnacle = true)
    (hmer : t.rdy Rdy.meridian = true) (hdead : t.alm.dead = false) (hturn : ∀ n, t.alm.checkTurn = some n → n + 64 ≤ t.turn) :
    execAlmanacCrystalCheck a expected s = .next (t.crystalCheck expected) := by
  unfold execAlmanacCrystalCheck
  rw [← ht]
  refine congrArg _ (if_pos ?_)
  have hall : t.alm.checkTurn.all (fun n => decide (n + 64 ≤ t.turn)) = true := by
    rw [Option.all_eq_true]
    exact fun n hn => decide_eq_true (hturn n hn)
  simp [hbin, hmer, hdead, hall]

/-! ### The registers (R546, R547, R550) -/

theorem execCountLoRead_open (ht : t = s.advance a) (hopen : t.alm.locked = false) :
    execCountLoRead a s = .next { t with alm.shadow := t.alm.count.toNat / 2 ^ 32 } := by
  unfold execCountLoRead
  rw [← ht]
  exact congrArg _ (if_neg (by simp [hopen]))

theorem execCountLoWrite_open {lo : Nat} (ht : t = s.advance a) (hopen : t.alm.locked = false) :
    execCountLoWrite a lo s =
      .next { t with alm.pendingLo := some (lo % 2 ^ 32), alm.lastHi := t.alm.pendingHi.getD t.alm.lastHi } := by
  unfold execCountLoWrite
  rw [← ht]
  exact congrArg _ (if_neg (by simp [hopen]))

/-- An alarm whose value and enable wait for the crystal edge (R550). -/
def AlmAlarm.armedBy (lo : Nat) (x : AlmAlarm) : AlmAlarm := { x with commit := some (x.pendingHi * 2 ^ 32 + lo % 2 ^ 32, x.pendingEn) }

theorem execAlarmLoWrite_open {n lo : Nat} (ht : t = s.advance a) (hopen : t.alm.locked = false) (hn : n < 2) :
    execAlarmLoWrite a n lo s = .next { t with alm := t.alm.setAlarm n (AlmAlarm.armedBy lo) } := by
  unfold execAlarmLoWrite
  rw [← ht]
  exact congrArg _ (if_neg (by simp [hopen, hn]))

theorem registers_locked {n lo : Nat} (ht : t = s.advance a) (hlocked : t.alm.locked = true) :
    execCountLoRead a s = .next t ∧ execCountLoWrite a lo s = .next t ∧ execAlarmLoWrite a n lo s = .next t := by
  unfold execCountLoRead execCountLoWrite execAlarmLoWrite
  rw [← ht]
  exact ⟨congrArg _ (if_pos hlocked), congrArg _ (if_pos hlocked), congrArg _ (if_pos (by simp [hlocked]))⟩

/-! ### The commit edge (R547, R548, R550) -/

theorem State.discardPlan_alm (cause : Nat) (s : State) : (s.discardPlan cause).alm = s.alm := by
  unfold State.discardPlan
  split
  · exact State.record_alm ..
  · rfl

/-- What a count commit leaves of the Almanac (R547, R548). -/
theorem State.countCommit_alm (before value : Nat) (s : State) : (s.countCommit before value).alm = { s.alm with
    count := BitVec.ofNat 48 value, pendingLo := none, pendingHi := none, epoch := s.alm.epoch + 1, wrapped := false, powerLost := false
    lastCheck := ofSigned 48 ((s.alm.lastCheck : Int) + ((value : Int) - before)) } := by
  unfold State.countCommit
  dsimp only
  rw [State.discardPlan_alm]
  (repeat' split) <;> rfl

/-- The edge without a commit moves the count alone; alarms, registers and the power of the domain stay. -/
theorem Almanac.edge_keeps (m : Almanac) : m.edge.alarm0 = m.alarm0 ∧ m.edge.alarm1 = m.alarm1 ∧ m.edge.epoch = m.epoch ∧
    m.edge.dead = m.dead ∧ m.edge.writes = m.writes ∧ m.edge.pendingLo = m.pendingLo := by
  unfold Almanac.edge
  dsimp only
  split <;> exact ⟨rfl, rfl, rfl, rfl, rfl, rfl⟩

/-- An alarm at an edge takes what waits for it (R550). -/
def AlmAlarm.committed (x : AlmAlarm) : AlmAlarm :=
  match x.commit with
  | some (v, e) => { x with value := v, enabled := e, fired := false, cause := 0, owed := false, commit := none }
  | none => x

theorem Almanac.alarmCommits_alarm (m : Almanac) (n : Nat) : m.alarmCommits.alarm n = (m.alarm n).committed := by
  unfold Almanac.alarm
  split <;> rfl

/-- The evaluation of an alarm changes that alarm alone. -/
theorem State.alarmEval_offAlarms (n : Nat) (armed : Bool) (moved : Option Nat) (s : State) :
    (s.alarmEval n armed moved).alm.offAlarms = s.alm.offAlarms := by
  unfold State.alarmEval
  dsimp only
  split
  · rfl
  · rw [State.fireAlarm_alm, Almanac.setAlarm_offAlarms]

theorem State.alarmEval_other {n k : Nat} (hn : n < 2) (hk : k < 2) (h : n ≠ k) (armed : Bool) (moved : Option Nat) (s : State) :
    (s.alarmEval n armed moved).alm.alarm k = s.alm.alarm k := by
  unfold State.alarmEval
  dsimp only
  split
  · rfl
  · rw [State.fireAlarm_alm, Almanac.alarm_setAlarm_other hn hk h]

/-- An alarm that the edge has cleared fires exactly when it is due (R549). -/
theorem State.alarmEval_same {n : Nat} (armed : Bool) (moved : Option Nat) (hfired : (s.alm.alarm n).fired = false) :
    ((s.alarmEval n armed moved).alm.alarm n).value = (s.alm.alarm n).value ∧
      ((s.alarmEval n armed moved).alm.alarm n).enabled = (s.alm.alarm n).enabled ∧
      ((s.alarmEval n armed moved).alm.alarm n).commit = (s.alm.alarm n).commit ∧
      ((s.alarmEval n armed moved).alm.alarm n).fired = s.alm.due n := by
  unfold State.alarmEval
  dsimp only
  split
  · rename_i hdue
    exact ⟨rfl, rfl, rfl, hfired.trans (by simpa using hdue.symm)⟩
  · rename_i hdue
    rw [State.fireAlarm_alm, Almanac.alarm_setAlarm_same]
    exact ⟨rfl, rfl, rfl, by simpa [AlmAlarm.firedBy] using hdue⟩

/-- The count and the registers after an edge with what it commits (R547): `value` is what a count commit sets. -/
def State.edgeCount (value : Option Nat) (s : State) : State :=
  match value with
  | some v => State.countCommit s.alm.edge.count.toNat v
      { s with alm := { s.alm.edge with wrapped := s.alm.wrapped, wrapOwed := s.alm.wrapOwed } }
  | none => { s with alm := s.alm.edge }

/-- The alarms after an edge (R549, R550). -/
def State.edgeAlarms (armed0 armed1 : Bool) (moved : Option Nat) (s : State) : State :=
  (State.alarmEval 0 armed0 moved { s with alm := s.alm.alarmCommits }).alarmEval 1 armed1 moved

/-- The write that waited is answered, and the next one starts (R556). -/
def State.edgeWrites (s : State) : State :=
  match s.alm.writes with
  | [] => s
  | x :: rest => State.finish x.session x.tag (s.resp .done) { s with alm := ({ s.alm with writes := rest } : Almanac).start }

/-- The value that a count commit sets (R547). -/
def Almanac.commitValue (m : Almanac) : Option Nat := m.pendingLo.map (fun lo => m.pendingHi.getD m.lastHi * 2 ^ 32 + lo)

theorem State.commitEdge_eq (hcommit : s.alm.committing = true) (hdead : s.alm.dead = false) :
    s.commitEdge = State.edgeWrites (State.edgeAlarms s.alm.alarm0.commit.isSome s.alm.alarm1.commit.isSome
      (s.alm.commitValue.map (fun _ => s.alm.edge.count.toNat)) (s.edgeCount s.alm.commitValue)) :=
  if_neg (by simp [hcommit, hdead])

/-- What an edge leaves of the Almanac whether or not it commits a count. -/
theorem State.edgeCount_keeps (value : Option Nat) (s : State) : (s.edgeCount value).alm.alarm0 = s.alm.alarm0 ∧
    (s.edgeCount value).alm.alarm1 = s.alm.alarm1 ∧ (s.edgeCount value).alm.dead = s.alm.dead ∧
    (s.edgeCount value).alm.writes = s.alm.writes := by
  obtain ⟨h0, h1, -, hdead, hwrites, -⟩ := s.alm.edge_keeps
  cases value with
  | none => exact ⟨h0, h1, hdead, hwrites⟩
  | some v =>
    simp only [State.edgeCount, State.countCommit_alm]
    exact ⟨h0, h1, hdead, hwrites⟩

theorem State.edgeCount_alarm (value : Option Nat) (n : Nat) (s : State) : (s.edgeCount value).alm.alarm n = s.alm.alarm n := by
  obtain ⟨h0, h1, -, -⟩ := s.edgeCount_keeps value
  rw [Almanac.alarm, Almanac.alarm, h0, h1]

theorem State.edgeAlarms_offAlarms (armed0 armed1 : Bool) (moved : Option Nat) (s : State) :
    (s.edgeAlarms armed0 armed1 moved).alm.offAlarms = s.alm.offAlarms := by
  rw [State.edgeAlarms, State.alarmEval_offAlarms, State.alarmEval_offAlarms]
  rfl

/-- An Almanac is due at an alarm by the alarm, the count and its power (R549). -/
theorem Almanac.due_eq {m : Almanac} {n : Nat} (hdead : m.dead = false) (hfired : (m.alarm n).fired = false) :
    m.due n = ((m.alarm n).enabled && decide ((m.alarm n).value ≤ m.count.toNat)) := by
  simp [Almanac.due, hdead, hfired]

/-- A waiting alarm takes its value and enable and stands fired exactly when it is enabled and reached (R549, R550). -/
theorem State.edgeAlarms_armed {n v : Nat} {e : Bool} {armed0 armed1 : Bool} {moved : Option Nat} (hn : n < 2)
    (hdead : s.alm.dead = false) (hcommit : (s.alm.alarm n).commit = some (v, e)) :
    ((s.edgeAlarms armed0 armed1 moved).alm.alarm n).value = v ∧ ((s.edgeAlarms armed0 armed1 moved).alm.alarm n).enabled = e ∧
      ((s.edgeAlarms armed0 armed1 moved).alm.alarm n).commit = none ∧
      ((s.edgeAlarms armed0 armed1 moved).alm.alarm n).fired = (e && decide (v ≤ s.alm.count.toNat)) := by
  have hcleared : ∀ u : State, u.alm.alarm n = (s.alm.alarm n).committed → u.alm.offAlarms = s.alm.offAlarms →
      (u.alm.alarm n).fired = false ∧ (u.alm.alarm n).value = v ∧ (u.alm.alarm n).enabled = e ∧ (u.alm.alarm n).commit = none ∧
        u.alm.due n = (e && decide (v ≤ s.alm.count.toNat)) := by
    intro u halarm hoff
    have hx : u.alm.alarm n = { s.alm.alarm n with value := v, enabled := e, fired := false, cause := 0, owed := false, commit := none } := by
      rw [halarm, AlmAlarm.committed, hcommit]
    have hfired : (u.alm.alarm n).fired = false := by rw [hx]
    have hcount : u.alm.count = s.alm.count := (congrArg Almanac.count hoff :)
    have hpower : u.alm.dead = false := (congrArg Almanac.dead hoff :).trans hdead
    exact ⟨hfired, by rw [hx], by rw [hx], by rw [hx], by rw [Almanac.due_eq hpower hfired, hcount, hx]⟩
  have hstart := Almanac.alarmCommits_alarm s.alm n
  unfold State.edgeAlarms
  obtain rfl | rfl : n = 0 ∨ n = 1 := by omega
  · rw [State.alarmEval_other (k := 0) (by decide) (by decide) (by decide)]
    obtain ⟨hfired, hv, he, hc, hdue⟩ := hcleared { s with alm := s.alm.alarmCommits } hstart rfl
    obtain ⟨hv', he', hc', hf'⟩ := State.alarmEval_same (s := { s with alm := s.alm.alarmCommits }) armed0 moved hfired
    exact ⟨hv'.trans hv, he'.trans he, hc'.trans hc, hf'.trans hdue⟩
  · obtain ⟨hfired, hv, he, hc, hdue⟩ := hcleared (State.alarmEval 0 armed0 moved { s with alm := s.alm.alarmCommits })
      ((State.alarmEval_other (by decide) (by decide) (by decide) ..).trans hstart) (State.alarmEval_offAlarms ..)
    obtain ⟨hv', he', hc', hf'⟩ := State.alarmEval_same armed1 moved hfired
    exact ⟨hv'.trans hv, he'.trans he, hc'.trans hc, hf'.trans hdue⟩

/-- With at most one write waiting none starts; the rest of the Almanac stands (R556). -/
theorem State.edgeWrites_alm (h : s.alm.writes.length ≤ 1) : s.edgeWrites.alm = { s.alm with writes := [] } := by
  unfold State.edgeWrites
  split
  · rename_i hnone
    rw [← hnone]
  · rename_i x rest hsome
    have hrest : rest = [] := List.eq_nil_of_length_eq_zero (by simpa [hsome] using h)
    rw [hrest]
    rfl

section
variable (hwrites : s.alm.writes.length ≤ 1) (hdead : s.alm.dead = false)
include hwrites hdead

/-- The Almanac after a commit edge, but for its alarms and its writes. -/
theorem State.commitEdge_offAlarms (hcommit : s.alm.committing = true) :
    s.commitEdge.alm.offAlarms = { (s.edgeCount s.alm.commitValue).alm.offAlarms with writes := [] } ∧
      ∀ n, s.commitEdge.alm.alarm n = (State.edgeAlarms s.alm.alarm0.commit.isSome s.alm.alarm1.commit.isSome
        (s.alm.commitValue.map (fun _ => s.alm.edge.count.toNat)) (s.edgeCount s.alm.commitValue)).alm.alarm n := by
  rw [State.commitEdge_eq hcommit hdead]
  generalize hu : State.edgeAlarms _ _ _ (s.edgeCount s.alm.commitValue) = u
  have hoff : u.alm.offAlarms = (s.edgeCount s.alm.commitValue).alm.offAlarms := by rw [← hu, State.edgeAlarms_offAlarms]
  have hlen : u.alm.writes.length ≤ 1 := by
    rw [show u.alm.writes = (s.edgeCount s.alm.commitValue).alm.writes from (congrArg Almanac.writes hoff :),
      (s.edgeCount_keeps _).2.2.2]
    exact hwrites
  rw [State.edgeWrites_alm hlen, ← hoff]
  exact ⟨rfl, fun n => rfl⟩

/-- A waiting COUNT_LO commits the high and the low part to the count (R547, R548). -/
theorem State.commitEdge_count {lo : Nat} (hlo : s.alm.pendingLo = some lo) :
    s.commitEdge.alm.count = BitVec.ofNat 48 (s.alm.pendingHi.getD s.alm.lastHi * 2 ^ 32 + lo) ∧
      s.commitEdge.alm.epoch = s.alm.epoch + 1 ∧ s.commitEdge.alm.wrapped = false ∧ s.commitEdge.alm.pendingLo = none := by
  obtain ⟨hoff, -⟩ := State.commitEdge_offAlarms hwrites hdead (by simp [Almanac.committing, hlo])
  have hvalue : s.alm.commitValue = some (s.alm.pendingHi.getD s.alm.lastHi * 2 ^ 32 + lo) := by rw [Almanac.commitValue, hlo]; rfl
  obtain ⟨-, -, hepoch, -, -, -⟩ := s.alm.edge_keeps
  rw [hvalue, State.edgeCount, State.countCommit_alm] at hoff
  exact ⟨(congrArg Almanac.count hoff :), (congrArg Almanac.epoch hoff :).trans (congrArg (· + 1) hepoch),
    (congrArg Almanac.wrapped hoff :), (congrArg Almanac.pendingLo hoff :)⟩

/-- A waiting alarm takes its value and enable at the edge (R549, R550). -/
theorem State.commitEdge_alarm {n v : Nat} {e : Bool} (hn : n < 2) (hcommit : (s.alm.alarm n).commit = some (v, e)) :
    (s.commitEdge.alm.alarm n).value = v ∧ (s.commitEdge.alm.alarm n).enabled = e ∧ (s.commitEdge.alm.alarm n).commit = none ∧
      (s.commitEdge.alm.alarm n).fired = (e && decide (v ≤ s.commitEdge.alm.count.toNat)) := by
  have hcommitting : s.alm.committing = true := by
    obtain rfl | rfl : n = 0 ∨ n = 1 := by omega
    · simp [Almanac.committing, show s.alm.alarm0.commit = some (v, e) from hcommit]
    · simp [Almanac.committing, show s.alm.alarm1.commit = some (v, e) from hcommit]
  obtain ⟨hoff, halarm⟩ := State.commitEdge_offAlarms hwrites hdead hcommitting
  have hcount : s.commitEdge.alm.count = (s.edgeCount s.alm.commitValue).alm.count := (congrArg Almanac.count hoff :)
  obtain ⟨-, -, hpower, -⟩ := s.edgeCount_keeps s.alm.commitValue
  rw [halarm, hcount]
  exact State.edgeAlarms_armed hn (hpower.trans hdead) ((congrArg AlmAlarm.commit (State.edgeCount_alarm ..)).trans hcommit)

end

end

/-- Settles O22: each command of the domain by its branch, the commit edge by the count, the alarms and the writes in turn. -/
theorem almanacDomainAndRegisters : Obligations.AlmanacDomainAndRegisters := by
  unfold Obligations.AlmanacDomainAndRegisters
  refine ⟨?_, ?_, ?_, ?_, ?_, ?_, ?_, ?_, ?_, ?_, ?_, ?_⟩
  · intro a n s t ht hn hdue
    have hcount : (t.fireAlarm n 1).alm.offAlarms = t.alm.offAlarms := by rw [State.fireAlarm_alm, Almanac.setAlarm_offAlarms]
    refine ⟨_, execAlarm_due ht hn hdue, ?_, ?_, (congrArg Almanac.count hcount :)⟩
    · rw [State.fireAlarm_alm, Almanac.alarm_setAlarm_same]; rfl
    · rw [State.fireAlarm_alm, Almanac.alarm_setAlarm_same]; rfl
  · intro a s t ht howed
    refine ⟨_, execWrapped_owed ht howed, ?_, ?_⟩
    · split <;> rfl
    · split
      · rename_i hready
        rw [hready]; rfl
      · rename_i hready
        rw [Bool.eq_false_of_not_eq_true hready]
        exact howed
  · intro a s t ht howed hready
    exact execPowerLost_owed ht howed hready
  · intro a s t ht hcommit hdead
    exact ⟨_, execTrimPeriodStart_free ht hcommit hdead, rfl, Almanac.advance_trimNew ..⟩
  · intro a s t ht hdark
    exact execDomainPowerOn_dark ht hdark
  · intro a expected adv s t ht hbin hmer hdead hturn hadv
    have hjudged := State.crystalCheck_judged (expected := expected) hadv
    simp only [Almanac.judged, Prod.mk.injEq] at hjudged
    exact ⟨_, execAlmanacCrystalCheck_due ht hbin hmer hdead hturn, hjudged⟩
  · intro a s t ht hopen
    exact execCountLoRead_open ht hopen
  · intro a lo s t ht hopen
    exact execCountLoWrite_open ht hopen
  · intro a n lo s t ht hopen hn
    refine ⟨_, execAlarmLoWrite_open ht hopen hn, ?_, (congrArg Almanac.count (Almanac.setAlarm_offAlarms ..) :)⟩
    rw [Almanac.alarm_setAlarm_same]
    rfl
  · intro a lo s t ht hlo hdead hwrites
    subst ht
    exact ⟨_, rfl, State.commitEdge_count hwrites hdead hlo⟩
  · intro a n v e s t ht hn hcommit hdead hwrites
    subst ht
    exact ⟨_, rfl, State.commitEdge_alarm hwrites hdead hn hcommit⟩
  · intro a n lo s t ht hlocked
    exact registers_locked ht hlocked

end Sys2Proof.Machine


/-! PROOFS. The Chart panel: its operations, e-paper updates and the read-back (R558–R570, R581). -/

namespace Sys2Proof.Machine

/-! ### What the parts of an update leave of the panel (R564–R567) -/

/-- The end of a CHART_WRITE is the end of one interim operation, or nothing (R387). -/
theorem State.endChartWrite_cases (newest : Bool) (fate : Fate) (s : State) :
    s.endChartWrite newest fate = s ∨ ∃ p, s.endChartWrite newest fate = s.endInterims p fate .done [] := by
  unfold State.endChartWrite
  dsimp only
  generalize (if newest = true then _ else _ : Option Interim) = x
  cases x with
  | none => exact .inl rfl
  | some i => exact .inr ⟨_, rfl⟩

theorem State.endChartWrite_chart (newest : Bool) (fate : Fate) (s : State) : (s.endChartWrite newest fate).chart = s.chart := by
  obtain h | ⟨p, h⟩ := s.endChartWrite_cases newest fate
  · rw [h]
  · rw [h, State.endInterims_chart]

theorem State.endChartWrite_flights (newest : Bool) (fate : Fate) (s : State) :
    (s.endChartWrite newest fate).mb.flights = s.mb.flights := by
  obtain h | ⟨p, h⟩ := s.endChartWrite_cases newest fate
  · rw [h]
  · rw [h, State.endInterims_flights]

theorem State.endChartWrite_now (newest : Bool) (fate : Fate) (s : State) : (s.endChartWrite newest fate).now = s.now := by
  obtain h | ⟨p, h⟩ := s.endChartWrite_cases newest fate
  · rw [h]
  · rw [h, State.now, State.endInterims_mer, State.endInterims_sen, State.now]

/-- The judgement of an output changes its runs and its fault alone (R570). -/
def Chart.offRuns (c : Chart) : Chart := { c with bad := [], good := [], fault := [] }

theorem State.chartJudge_offRuns (n : Nat) (s : State) : (s.chartJudge n).chart.offRuns = s.chart.offRuns := by
  unfold State.chartJudge
  dsimp only
  (repeat' split) <;> rfl

section
variable {a : At} {r : Req} {s t : State}

/-! ### The operations (R560, R564, R581) -/

/-- The image that a CHART_WRITE carries (R581). -/
def chartImage (r : Req) : Image :=
  { image := r.payload.take 24, blink := (r.payload.drop 24).take 48, full := bitOf (fieldAt r.payload 72 1) 0 }

theorem opChartWrite_check (h : Safety.Asks false 25 76 r t) (htarget : r.target = 0) (hready : t.rdy Rdy.chart = true)
    (hfull : fieldAt r.payload 72 1 ≤ 1) (hzero : allZero (r.payload.drop 73) = true) (hmode : t.cfgN Fid.CH_MODE ≠ 0)
    (hcodes : (upTo 192).all (fun i => blinkOf ((r.payload.drop 24).take 48) i != 3) = true)
    (hblink : t.isEpaper = true → allZero ((r.payload.drop 24).take 48) = true) : opChartWrite.check r t = none := by
  have hr : t.rdy r.fn = true := h.fn ▸ hready
  refine OpDef.check_eq_none h (by decide) rfl rfl (by decide) ?_ (fun hx => by simp [opChartWrite] at hx) rfl
    (fun hx => by simp [opChartWrite] at hx) ?_ hr
  · simp only [opChartWrite, htarget, hfull, hzero, hcodes, decide_true, beq_self_eq_true, Bool.and_self, Bool.true_and]
    cases he : t.isEpaper
    · rfl
    · rw [hblink he]; rfl
  · simpa [opChartWrite] using hmode

theorem opChartStatus_check (h : Safety.Asks false 25 0 r t) (htarget : r.target = 0) (hready : t.rdy Rdy.chart = true) :
    opChartStatus.check r t = none := by
  have hr : t.rdy r.fn = true := h.fn ▸ hready
  apply OpDef.check_eq_none h <;> simp [opChartStatus, htarget, hr]

/-- On an LCD the image and its answer wait for the frame start (R560). -/
theorem chartWrite_lcd (h : Safety.Asks false 25 76 r t) (hc : opChartWrite.check r t = none) (hmode : t.cfgN Fid.CH_MODE = 1) :
    serve opChartWrite r t = Safety.accepted opChartWrite r t
      { t with chart.next := some (chartImage r), chart.waiters := t.chart.waiters ++ [Req.waiter r] } := by
  have hlcd : (t.addFlight opChartWrite r).isLcd = true := beq_iff_eq.mpr hmode
  exact serve_accepted _ _ _ _ h.serves h.barrier hc (if_pos hlcd)

/-- What a CHART_WRITE on e-paper leaves before it is answered (R564). -/
def State.epaperTakes (img : Image) (s : State) : State :=
  let t := if s.chart.pending.isSome then s.endChartWrite true .replaced else s
  { t with chart.pending := some img, chart.pendingAt := t.now }

theorem State.epaperTakes_chart (img : Image) (s : State) :
    (s.epaperTakes img).chart.pending = some img ∧ (s.epaperTakes img).chart.pendingAt = s.now ∧
      (s.epaperTakes img).mb.flights = s.mb.flights := by
  unfold State.epaperTakes
  dsimp only
  split
  · exact ⟨rfl, State.endChartWrite_now .., State.endChartWrite_flights ..⟩
  · exact ⟨rfl, rfl, rfl⟩

/-- On e-paper a CHART_WRITE is ACCEPTED and takes the place of one that waits (R564). -/
theorem chartWrite_epaper (h : Safety.Asks false 25 76 r t) (hc : opChartWrite.check r t = none) (hmode : t.cfgN Fid.CH_MODE = 2) :
    ∃ u, Host.Outcome.next (serve opChartWrite r t) = (Host.Outcome.next u : Host.Outcome State Fault Refusal) ∧
      Safety.Replied r .accepted [] u ∧ u.chart.pending = some (chartImage r) ∧ u.chart.pendingAt = t.now := by
  have hlcd : ¬ (t.addFlight opChartWrite r).isLcd = true := by
    simp only [State.isLcd, beq_iff_eq]
    exact fun hx => absurd (hmode.symm.trans hx) (by decide)
  obtain ⟨hpending, hat, hflights⟩ := State.epaperTakes_chart (chartImage r) (t.addFlight opChartWrite r)
  have hbody : opChartWrite.body r (t.addFlight opChartWrite r) = ((t.addFlight opChartWrite r).epaperTakes (chartImage r),
      some (((if (t.addFlight opChartWrite r).chart.pending.isSome then (t.addFlight opChartWrite r).endChartWrite true .replaced
        else t.addFlight opChartWrite r)).resp .accepted)) := if_neg hlcd
  obtain ⟨w, hw, hrep, heq⟩ := exists_replied h hc hbody (Nat.zero_le _) hflights
  exact ⟨w, hw, hrep, by rw [heq]; exact hpending, by rw [heq]; exact hat⟩

/-! ### E-paper updates (R562–R568) -/

theorem execEpaperUpdateStart_due (ht : t = s.advance a) (hruns : t.epaperRuns = true) (hgrain : t.grain = 0)
    (hidle : t.chart.state = .idle) (hwhole : t.chart.interrupted = false) (hdue : t.updateDue = true) :
    execEpaperUpdateStart a s = .next t.updateStart := by
  unfold execEpaperUpdateStart
  rw [← ht]
  exact congrArg _ (if_pos (by simp [hruns, hgrain, hidle, hwhole, hdue]))

theorem State.updateStart_chart (s : State) : s.updateStart.chart.state = .updating ∧ s.updateStart.chart.frame = 0 ∧
    (s.chart.redraw = false → s.updateStart.chart.pending = none) :=
  ⟨rfl, rfl, fun h => if_neg (by rw [h]; decide)⟩

section
variable (ht : t = s.advance a) (hruns : t.epaperRuns = true) (hgrain : t.grain = 0) (hturn : t.chart.frameTurn ≠ some t.turn)
include ht hruns hgrain hturn

/-- The next frame as it is driven (R562, R567). -/
def State.frameDriven (s : State) : State := { s with
  chart.drive := s.nextDrive, chart.balance := s.nextBalance, chart.frame := s.chart.frame + 1, chart.frameTurn := some s.turn }

theorem execEpaperFrame_paged (hbusy : t.chart.state ≠ .idle) (hleft : t.chart.frame < t.chart.frames) (hpaged : t.framePaged = true) :
    execEpaperFrame a s = .next (if t.frameDriven.chart.frame < t.frameDriven.chart.frames then t.frameDriven.framePage
      else t.frameDriven) := by
  unfold execEpaperFrame
  rw [← ht]
  exact congrArg _ ((if_pos (by simp [hruns, hbusy, hleft, hgrain, hturn])).trans (if_pos hpaged))

theorem execEpaperFrame_unpaged (hbusy : t.chart.state ≠ .idle) (hleft : t.chart.frame < t.chart.frames)
    (hpaged : t.framePaged = false) :
    execEpaperFrame a s = .next (if t.nv.queue.any (fun o => o.prio == 4 && o.page == ledgerBase + (t.chart.ledgerPage + 63) % 64)
      then t else t.framePage) := by
  unfold execEpaperFrame
  rw [← ht]
  exact congrArg _ ((if_pos (by simp [hruns, hbusy, hleft, hgrain, hturn])).trans (if_neg (by simp [hpaged])))

/-- The panel once an update has ended (R564, R567). -/
def State.updateEnded (s : State) : State :=
  { s.ledgerPut 0 s.chart.frame [] with
    chart.state := .idle
    chart.known := (upTo 96).foldl (fun (u : Tbl Nat) i => u.set i (1 + bit (imageBit s.chart.target i))) ([] : Tbl Nat)
    chart.redraw := false, chart.running := false, chart.last := s.now
    chart.updates := s.chart.updates + 1, chart.drive := [], chart.transitions := [], chart.balance := [] }

theorem execEpaperUpdateEnd_done (hbusy : t.chart.state = .updating) (hlast : t.chart.frame = t.chart.frames) :
    execEpaperUpdateEnd a s = .next (if t.chart.running then t.updateEnded.endChartWrite false .effect else t.updateEnded) := by
  unfold execEpaperUpdateEnd
  rw [← ht]
  exact congrArg _ (if_pos (by simp [hruns, hbusy, hlast, hgrain, hturn]))

theorem execCompensated_done (hbusy : t.chart.state = .compensating) (hlast : t.chart.frame = t.chart.frames) :
    execCompensated a s = .next (State.record3 25 1 0x0003 (le 1 t.chart.frames ++ le 1 t.chart.segments) 0
      { t with chart.state := .idle, chart.redraw := true, chart.drive := [], chart.balance := [], chart.known := [] }) := by
  unfold execCompensated
  rw [← ht]
  exact congrArg _ (if_pos (by simp [hruns, hbusy, hlast, hgrain, hturn]))

end

/-- The panel once its compensation has started (R568). -/
def State.compensating (s : State) : State :=
  { State.record3 25 2 0x0002 (le 1 s.chart.frame ++ le 1 s.chart.worst) 0 s with
    chart.state := .compensating, chart.frame := 0, chart.frames := s.chart.worst, chart.frameTurn := none
    chart.segments := s.chart.balance.length, chart.interrupted := false }

theorem execCompensationStart_due (ht : t = s.advance a) (hruns : t.epaperRuns = true) (hgrain : t.grain = 0)
    (hcut : t.chart.interrupted = true) (hidle : t.chart.state = .idle) (hrail : 64 ≤ t.chart.railTurns) :
    execCompensationStart a s = .next (if 0 < t.chart.worst then t.compensating.framePage else t.compensating) := by
  unfold execCompensationStart
  rw [← ht]
  exact congrArg _ (if_pos (by simp [hruns, hcut, hidle, hgrain, hrail]))

/-! ### The read-back (R570) -/

theorem execChartReadback_idle {levels : List Int} (ht : t = s.advance a)
    (h : t.rdy Rdy.binnacle = false ∨ t.chartOutputs = 0 ∨ t.readbackAngle = false ∨ t.chart.readAt = some t.mer.stamp) :
    execChartReadback a levels s = .next t := by
  unfold execChartReadback
  rw [← ht]
  refine congrArg _ (if_pos ?_)
  rcases h with h | h | h | h <;> simp [h]

/-- The panel with the samples of a read-back noted (R570). -/
def State.chartSeen (levels : List Int) (s : State) : State := { s with
  chart.frameBad := (upTo s.chartOutputs).foldl
    (fun (u : Tbl Bool) i => if s.chartMismatch i (levels.getD i 0) then u.set i true else u) s.chart.frameBad
  chart.readAt := some s.mer.stamp }

/-- The panel with a frame judged (R570). -/
def State.chartJudged (levels : List Int) (s : State) : State :=
  { State.each (upTo s.chartOutputs) State.chartJudge (s.chartSeen levels) with chart.frameBad := [] }

theorem State.chartJudged_chart (levels : List Int) (s : State) : (s.chartJudged levels).chart.frameBad = [] ∧
    (s.chartJudged levels).chart.readAt = some s.mer.stamp ∧ (s.chartJudged levels).chart.state = s.chart.state := by
  have hruns := State.each_keeps (fun u : State => u.chart.offRuns) (upTo s.chartOutputs) State.chartJudge (s.chartSeen levels)
    State.chartJudge_offRuns
  exact ⟨rfl, (congrArg Chart.readAt hruns :), (congrArg Chart.state hruns :)⟩

section
variable {levels : List Int} (ht : t = s.advance a) (hbin : t.rdy Rdy.binnacle = true) (hangle : t.readbackAngle = true)
  (hread : t.chart.readAt ≠ some t.mer.stamp) (houts : t.chartOutputs ≠ 0)
include ht hbin hangle hread houts

theorem execChartReadback_seen (hlcd : t.isLcd = true) (hphase : t.chart.phase ≠ 7) :
    execChartReadback a levels s = .next (t.chartSeen levels) := by
  unfold execChartReadback
  rw [← ht]
  exact congrArg _ ((if_neg (by simpa [hbin, hangle, houts] using hread)).trans (if_pos (by simp [hlcd, hphase])))

theorem execChartReadback_judged (hend : t.isLcd = false ∨ t.chart.phase = 7) :
    execChartReadback a levels s = .next (t.chartJudged levels) := by
  unfold execChartReadback
  rw [← ht]
  refine congrArg _ ((if_neg (by simpa [hbin, hangle, houts] using hread)).trans (if_neg ?_))
  rcases hend with h | h <;> simp [h]

end

theorem State.isLcd_eq_true (h : s.cfgN Fid.CH_MODE = 1) : s.isLcd = true := beq_iff_eq.mpr h

theorem State.isLcd_eq_false (h : s.cfgN Fid.CH_MODE = 2) : s.isLcd = false := beq_false_of_ne (by rw [h]; decide)

theorem State.chartOutputs_lcd (h : s.cfgN Fid.CH_MODE = 1) : s.chartOutputs = 52 := if_pos (State.isLcd_eq_true h)

theorem State.chartOutputs_epaper (h : s.cfgN Fid.CH_MODE = 2) : s.chartOutputs = 97 :=
  (if_neg (by simp [State.isLcd_eq_false h])).trans (if_pos (beq_iff_eq.mpr h))

end

/-- Settles O49: CHART_WRITE by the mode of the panel, the updates and the read-back by their branches. -/
theorem chartOperationsAndUpdates : Obligations.ChartOperationsAndUpdates := by
  unfold Obligations.ChartOperationsAndUpdates
  refine ⟨?_, ?_, ?_, ?_, ?_, ?_, ?_, ?_, ?_, ?_, ?_, ?_⟩
  · intro a r s t ht h htarget hready hfull hzero hmode hcodes
    subst ht
    exact congrArg _ (chartWrite_lcd h (opChartWrite_check h htarget hready hfull hzero (by rw [hmode]; decide) hcodes
      (fun he => absurd (hmode.symm.trans (beq_iff_eq.mp he)) (by decide))) hmode)
  · intro a r s t ht h htarget hready hfull hzero hmode hblink hcodes
    subst ht
    exact chartWrite_epaper h (opChartWrite_check h htarget hready hfull hzero (by rw [hmode]; decide) hcodes (fun _ => hblink)) hmode
  · intro a r s t ht h htarget hready
    subst ht
    exact congrArg _ (serve_ok h (opChartStatus_check h htarget hready) rfl)
  · intro a s t ht hruns hgrain hidle hwhole hdue
    exact ⟨_, execEpaperUpdateStart_due ht hruns hgrain hidle hwhole hdue, t.updateStart_chart⟩
  · intro a s t ht hruns hgrain hbusy hleft hturn hpaged
    refine ⟨_, execEpaperFrame_paged ht hruns hgrain hturn hbusy hleft hpaged, ?_⟩
    split <;> exact ⟨rfl, rfl, rfl, rfl⟩
  · intro a s t ht hruns hgrain hbusy hleft hturn hpaged
    exact execEpaperFrame_unpaged ht hruns hgrain hturn hbusy hleft hpaged
  · intro a s t ht hruns hgrain hbusy hlast hturn
    refine ⟨_, execEpaperUpdateEnd_done ht hruns hgrain hturn hbusy hlast, ?_⟩
    split
    · rw [State.endChartWrite_chart]
      exact ⟨rfl, rfl, rfl⟩
    · exact ⟨rfl, rfl, rfl⟩
  · intro a s t ht hruns hgrain hcut hidle hrail
    refine ⟨_, execCompensationStart_due ht hruns hgrain hcut hidle hrail, ?_⟩
    split <;> exact ⟨rfl, rfl, rfl, rfl⟩
  · intro a s t ht hruns hgrain hbusy hlast hturn
    exact ⟨_, execCompensated_done ht hruns hgrain hturn hbusy hlast, rfl, rfl⟩
  · intro a levels s t ht h
    exact execChartReadback_idle ht h
  · intro a levels s t ht hbin hmode hangle hread hphase
    have houts := State.chartOutputs_lcd hmode
    rw [← houts]
    exact execChartReadback_seen ht hbin hangle hread (by rw [houts]; decide) (State.isLcd_eq_true hmode) hphase
  · intro a levels s t ht hbin hmode hangle hread
    rcases hmode with ⟨hmode, hphase⟩ | hmode
    · exact ⟨_, execChartReadback_judged ht hbin hangle hread (by rw [State.chartOutputs_lcd hmode]; decide) (.inr hphase),
        State.chartJudged_chart ..⟩
    · exact ⟨_, execChartReadback_judged ht hbin hangle hread (by rw [State.chartOutputs_epaper hmode]; decide)
        (.inl (State.isLcd_eq_false hmode)), State.chartJudged_chart ..⟩

end Sys2Proof.Machine


/-! PROOFS. The Tiller keypad, its buttons and its encoders (R571–R578, R581). -/

namespace Sys2Proof.Machine

/-! ### What the events of the queue leave (R577) -/

/-- A state without the Logbook, the mailbox and what Tiller's queue holds: what a posted event does not touch. -/
def State.offQueue (s : State) : State :=
  { s with log := {}, mb := {}, tiller := { s.tiller with queue := [], lost := 0, overflow := 0 } }

@[simp] theorem State.tlPush_offQueue (e : KeyEvent) (s : State) : (s.tlPush e).offQueue = s.offQueue := by
  unfold State.tlPush
  split <;> rfl

@[simp] theorem State.tlOverflow_offQueue (s : State) : s.tlOverflow.offQueue = s.offQueue := by
  have hrecord : ∀ (n : Nat) (t : State), ({ t with tiller.overflow := 0 }.tlRecord 2 0x0003 (le 2 n)).offQueue = t.offQueue :=
    fun _ _ => rfl
  unfold State.tlOverflow
  split
  · rfl
  · exact (hrecord ..).trans (State.tlPush_offQueue ..)

@[simp] theorem State.tlPost_offQueue (code : Word32) (stamp : Stamp) (s : State) : (s.tlPost code stamp).offQueue = s.offQueue := by
  unfold State.tlPost
  split
  · split
    · rfl
    · rw [State.tlPush_offQueue, State.tlOverflow_offQueue]
  · rw [State.tlPush_offQueue, State.tlOverflow_offQueue]

theorem State.tlPost_keys (code : Word32) (stamp : Stamp) (s : State) : (s.tlPost code stamp).tiller.keys = s.tiller.keys :=
  (congrArg (fun u : State => u.tiller.keys) (s.tlPost_offQueue code stamp) :)

theorem State.tlPost_cfg (code : Word32) (stamp : Stamp) (s : State) : (s.tlPost code stamp).cfg = s.cfg :=
  (congrArg State.cfg (s.tlPost_offQueue code stamp) :)

/-! ### A scan leaves the configuration (R572, R573) -/

theorem State.keyRelease_cfg (k : Nat) (s : State) : (s.keyRelease k).cfg = s.cfg := by
  unfold State.keyRelease
  dsimp only
  split
  · rfl
  · split
    · rw [State.tlRecord, State.record3, State.record_cfg, State.tlPost_cfg]; rfl
    · rw [State.tlPost_cfg]; rfl

theorem State.keyPress_cfg (k : Nat) (s : State) : (s.keyPress k).cfg = s.cfg := by
  unfold State.keyPress
  dsimp only
  split
  · rfl
  · split <;> (rw [State.tlPost_cfg]; rfl)

theorem State.ghostResolve_cfg (released : List Nat) (x0 : Stamp) (k : Nat) (s : State) : (s.ghostResolve released x0 k).cfg = s.cfg := by
  unfold State.ghostResolve
  dsimp only
  split
  · rfl
  · split <;> (rw [State.tlPost_cfg]; rfl)

theorem State.scanKeys_cfg (ks closed : List Nat) (at_ : Nat → Stamp) (s : State) : (s.scanKeys ks closed at_).cfg = s.cfg := by
  unfold State.scanKeys
  dsimp only
  rw [State.each_keeps State.cfg _ _ _ State.keyPress_cfg, State.each_keeps State.cfg _ _ _ fun k => State.ghostResolve_cfg _ _ k,
    State.each_keeps State.cfg _ _ _ State.keyRelease_cfg]
  exact State.each_keeps State.cfg _ _ _ fun _ _ => rfl

section
variable {a : At} {r : Req} {s t : State}

/-! ### The operations (R581) -/

theorem tlOff_eq_false (h : t.cfgN Fid.TL_ENABLE ≠ 0) : tlOff t r = false := beq_false_of_ne h

theorem opTillerRead_check (h : Safety.Asks false 26 4 r t) (htarget : r.target = 0) (hon : t.cfgN Fid.TL_ENABLE ≠ 0)
    (hready : t.rdy Rdy.tiller = true) (hcount : 1 ≤ fieldAt r.payload 0 1 ∧ fieldAt r.payload 0 1 ≤ 63)
    (hzero : allZero (r.payload.drop 1) = true) : opTillerRead.check r t = none := by
  have hr : t.rdy r.fn = true := h.fn ▸ hready
  have htail : allZero r.payload.tail = true := List.drop_one ▸ hzero
  apply OpDef.check_eq_none h <;> simp [opTillerRead, htarget, hr, hcount, htail, tlOff_eq_false hon]

theorem opTillerState_check (h : Safety.Asks false 26 0 r t) (htarget : r.target = 0) (hon : t.cfgN Fid.TL_ENABLE ≠ 0)
    (hready : t.rdy Rdy.tiller = true) : opTillerState.check r t = none := by
  have hr : t.rdy r.fn = true := h.fn ▸ hready
  apply OpDef.check_eq_none h <;> simp [opTillerState, htarget, hr, tlOff_eq_false hon]

theorem tillerRead_takes (h : Safety.Asks false 26 4 r t) (hc : opTillerRead.check r t = none) :
    serve opTillerRead r t = Safety.answered opTillerRead r .done (le 1 (t.tiller.queue.take (fieldAt r.payload 0 1)).length ++ le 3 0 ++
      le 4 t.tiller.lost.toNat ++ (t.tiller.queue.take (fieldAt r.payload 0 1)).flatMap (fun e => le 4 e.code.toNat ++ le 8 e.stamp.toNat)) t
      { t with tiller.queue := t.tiller.queue.drop (fieldAt r.payload 0 1) } :=
  serve_answered _ _ _ _ _ _ h.serves h.barrier hc h.tag (by decide) rfl rfl

/-! ### Scans (R572, R576) -/

theorem execTillerRowFall_starts (ht : t = s.advance a) (hready : t.rdy Rdy.tiller = true) (hon : t.tlEnabled 0 = true)
    (hidle : t.tiller.scanning = false) : execTillerRowFall a s = .next t.scanStarts := by
  unfold execTillerRowFall
  rw [← ht]
  exact congrArg _ (if_pos (by simp [hready, hon, hidle]))

theorem execTillerScan_due {closed : List Nat} {n : Nat} {u : State} (ht : t = s.advance a) (hready : t.rdy Rdy.tiller = true)
    (hon : t.tlEnabled 0 = true) (hscan : t.tiller.scanning = true) (hdue : t.tiller.scanAt + 1000 ≤ t.clock)
    (hu : u = State.scanKeys t.keys closed t.columnStamp { t with tiller.scanAt := t.clock })
    (hn : n = if u.keys.any (fun k => closed.contains k && !(u.tiller.keys.get k).masked) then 0 else u.tiller.idleScans + 1) :
    execTillerScan a closed s = .next { u with tiller.idleScans := n % 16, tiller.scanning := decide (n < 16) } := by
  subst hn hu
  unfold execTillerScan
  rw [← ht]
  exact congrArg _ (if_pos (by simp [hready, hon, hscan, hdue]))

/-- Buttons, where they are enabled, then encoders, where they are (R572, R574). -/
def State.tlSampled (buttons lines : Nat) (s : State) : State :=
  (if s.tlEnabled 2 then State.each (upTo 4) (fun n v => v.encoderSample n (encLines lines n)) else id)
    ((if s.tlEnabled 1 then State.scanKeys [64, 65, 66, 67] (((upTo 4).filter (bitOf buttons)).map (· + 64)) (fun _ => s.now) else id)
      { s with tiller.sampleAt := some s.clock })

theorem State.tlEnabled_congr {u : State} (h : u.cfg = s.cfg) (n : Nat) : u.tlEnabled n = s.tlEnabled n := by
  rw [State.tlEnabled, State.cfgN, h, State.tlEnabled, State.cfgN]

theorem execTillerSample_due {buttons lines : Nat} (ht : t = s.advance a) (hready : t.rdy Rdy.tiller = true)
    (hdue : t.tlDue t.tiller.sampleAt 62 = true) : execTillerSample a buttons lines s = .next (t.tlSampled buttons lines) := by
  unfold execTillerSample
  rw [← ht]
  refine congrArg _ ((if_neg (by simp [hready, hdue])).trans ?_)
  have hparts : ∀ u : State, u.cfg = t.cfg →
      (if u.tlEnabled 2 = true then State.each (upTo 4) (fun n v => v.encoderSample n (encLines lines n)) u else u) =
        (if t.tlEnabled 2 then State.each (upTo 4) (fun n v => v.encoderSample n (encLines lines n)) else id) u := fun u hu => by
    rw [State.tlEnabled_congr hu]
    split <;> rfl
  unfold State.tlSampled
  by_cases h1 : t.tlEnabled 1 = true
  · rw [if_pos h1]
    exact (congrArg (fun u : State => if u.tlEnabled 2 = true then
      State.each (upTo 4) (fun n v => v.encoderSample n (encLines lines n)) u else u) (if_pos h1)).trans (hparts _ (State.scanKeys_cfg ..))
  · rw [if_neg h1]
    exact (congrArg (fun u : State => if u.tlEnabled 2 = true then
      State.each (upTo 4) (fun n v => v.encoderSample n (encLines lines n)) u else u) (if_neg h1)).trans (hparts _ rfl)

theorem execTillerSample_early {buttons lines : Nat} (ht : t = s.advance a) (hdue : t.tlDue t.tiller.sampleAt 62 = false) :
    execTillerSample a buttons lines s = .next t := by
  unfold execTillerSample
  rw [← ht]
  exact congrArg _ (if_pos (by simp [hdue]))

theorem execStuck_masks {key : Nat} (ht : t = s.advance a) (hready : t.rdy Rdy.tiller = true) (hkey : key < 68)
    (hpressed : (t.tiller.keys.get key).pressed = true) (hghost : (t.tiller.keys.get key).ghost = false)
    (hmasked : (t.tiller.keys.get key).masked = false)
    (hlong : t.cfgN Fid.TL_STUCK_TIME * 1000000 ≤ t.clock - (t.tiller.keys.get key).since) :
    execStuck a key s = .next (State.tlRecord 2 0x0001 (le 4 (tlCode 4 0 (keyIndex key) 0).toNat)
      ((t.updKey key (fun y => { y with masked := true })).tlPost (tlCode 4 0 (keyIndex key) 0) t.now)) := by
  unfold execStuck
  rw [← ht]
  exact congrArg _ (if_pos (by simp [hready, hkey, hpressed, hghost, hmasked, hlong]))

theorem execTillerMaskedPoll_idle {closed : List Nat} (ht : t = s.advance a)
    (h : t.tiller.scanning = true ∨ t.keys.filter (fun k => (t.tiller.keys.get k).masked) = []) :
    execTillerMaskedPoll a closed s = .next t := by
  unfold execTillerMaskedPoll
  rw [← ht]
  refine congrArg _ (if_neg ?_)
  rcases h with h | h <;> simp [h]

theorem execTillerMaskedPoll_due {closed masked : List Nat} {u : State} (ht : t = s.advance a) (hready : t.rdy Rdy.tiller = true)
    (hon : t.tlEnabled 0 = true) (hidle : t.tiller.scanning = false)
    (hmasked : masked = t.keys.filter (fun k => (t.tiller.keys.get k).masked)) (hsome : masked ≠ [])
    (hdue : t.tlDue t.tiller.pollAt 50000 = true)
    (hu : u = State.scanKeys masked (closed.filter (fun k => (masked.map (· % 8)).contains (k % 8))) (fun _ => t.now)
      { t with tiller.pollAt := some t.clock }) :
    execTillerMaskedPoll a closed s = .next (if t.keys.any (fun k =>
      (masked.map (· % 8)).contains (k % 8) && closed.contains k && !masked.contains k) then u.scanStarts else u) := by
  subst hu
  unfold execTillerMaskedPoll
  rw [← ht]
  dsimp only
  rw [← hmasked]
  exact congrArg _ (if_pos (by simp [hready, hon, hidle, hdue, hsome]))

/-! ### TILLER rises (R578) -/

/-- Where SERVICES is set TILLER rises (R33). -/
theorem State.updateReady_sets_tiller (h : s.rdy Rdy.services = true) : (s.updateReady [Rdy.tiller] []).rdy Rdy.tiller = true := by
  rw [State.rdy, State.updateReady_ready]
  refine readyNext_of_sets (by decide) List.mem_cons_self List.not_mem_nil (List.forall_mem_singleton.mpr ?_)
  exact readyNext_of_ready (by decide) h List.not_mem_nil (List.forall_mem_singleton.mpr State.updateReady_keeps_nvstore)

theorem execTillerInitial_rises {closed : List Nat} {buttons lines : Nat} (ht : t = s.advance a) (hservices : t.rdy Rdy.services = true)
    (hdown : t.rdy Rdy.tiller = false) :
    ∃ u, execTillerInitial a closed buttons lines s = .next u ∧ u.rdy Rdy.tiller = true := by
  unfold execTillerInitial
  rw [← ht]
  refine ⟨_, congrArg Host.Outcome.next (if_neg (by simp [hservices, hdown])), ?_⟩
  refine (State.rdy_of_head ((State.each_keeps State.head _ _ _ fun k w => ?_).trans ?_) _).trans (State.updateReady_sets_tiller hservices)
  · rw [State.tlPost_head, State.updKey_head]
  · rfl

theorem tiller_down {closed : List Nat} {buttons lines : Nat} (ht : t = s.advance a) (hdown : t.rdy Rdy.tiller = false) :
    execTillerRowFall a s = .next t ∧ execTillerScan a closed s = .next t ∧ execTillerSample a buttons lines s = .next t := by
  unfold execTillerRowFall execTillerScan execTillerSample
  rw [← ht]
  exact ⟨congrArg _ (if_neg (by simp [hdown])), congrArg _ (if_neg (by simp [hdown])), congrArg _ (if_pos (by simp [hdown]))⟩

end

/-- Settles O50: each command by its branch; a scan leaves the configuration and the events leave the keys. -/
theorem tillerOperationsAndScans : Obligations.TillerOperationsAndScans := by
  unfold Obligations.TillerOperationsAndScans
  refine ⟨?_, ?_, ?_, ?_, ?_, ?_, ?_, ?_, ?_, ?_, ?_⟩
  · intro a r es s t ht h htarget hon hready hcount hzero hes
    subst ht hes
    exact congrArg _ (tillerRead_takes h (opTillerRead_check h htarget hon hready hcount hzero))
  · intro a r s t ht h htarget hon hready
    subst ht
    exact congrArg _ (serve_ok h (opTillerState_check h htarget hon hready) rfl)
  · intro a s t ht hready hon hidle
    exact execTillerRowFall_starts ht hready hon hidle
  · intro a closed n s t u ht hready hon hscan hdue hu hn
    exact execTillerScan_due ht hready hon hscan hdue hu hn
  · intro a buttons lines s t ht hready hdue
    exact ⟨_, execTillerSample_due ht hready hdue, rfl⟩
  · intro a buttons lines s t ht hdue
    exact execTillerSample_early ht hdue
  · intro a key x s t ht hx hready hkey hpressed hghost hmasked hlong
    subst hx
    exact ⟨_, execStuck_masks ht hready hkey hpressed hghost hmasked hlong, State.tlPost_keys ..⟩
  · intro a closed s t ht h
    exact execTillerMaskedPoll_idle ht h
  · intro a closed masked s t u ht hready hon hidle hmasked hsome hdue hu
    exact execTillerMaskedPoll_due ht hready hon hidle hmasked hsome hdue hu
  · intro a closed buttons lines s t ht hservices hdown
    exact execTillerInitial_rises ht hservices hdown
  · intro a closed buttons lines s t ht hdown
    exact tiller_down ht hdown

end Sys2Proof.Machine


/-! PROOFS. BINNACLE, NVSTORE, CONFIG and SERVICES stay set through what a configuration put into force and a start of the services do. -/

namespace Sys2Proof.Machine

/-- The READY bits that a configuration put into force and a start of the services never clear. -/
def lastingBits : List Nat := [Rdy.binnacle, Rdy.nvstore, Rdy.config, Rdy.services]

/-- Each of these bits that is set in the first state is set in the second. -/
def Lasting (s t : State) : Prop := ∀ n ∈ lastingBits, s.rdy n = true → t.rdy n = true

theorem Lasting.of_head {s t : State} (h : t.head = s.head) : Lasting s t := fun n _ hs => (State.rdy_of_head h n).trans hs

theorem Lasting.refl (s : State) : Lasting s s := fun _ _ h => h

theorem Lasting.trans {s t u : State} (h : Lasting s t) (h' : Lasting t u) : Lasting s u := fun n hn hs => h' n hn (h n hn hs)

theorem Lasting.head {s t u : State} (h : Lasting s t) (h' : u.head = t.head) : Lasting s u := h.trans (.of_head h')

theorem requires_lasting : ∀ n ∈ lastingBits, n < 29 ∧ ∀ r ∈ requires n, r ∈ lastingBits ∧ r < n := by decide

/-- An update that clears none of these bits leaves them: what each requires is one of them again. -/
theorem State.updateReady_lasting {sets clears : List Nat} {s : State} (hc : ∀ n ∈ lastingBits, n ∉ clears) :
    Lasting s (s.updateReady sets clears) := by
  intro n
  induction n using Nat.strong_induction_on with
  | h n ih =>
    intro hn hs
    obtain ⟨hlt, hreq⟩ := requires_lasting n hn
    have hup : ∀ m, (s.updateReady sets clears).rdy m = readyBit (readyNext s.ready sets clears) m := fun m => by
      rw [State.rdy, State.updateReady_ready]
    rw [hup]
    refine readyNext_of_ready hlt hs (hc n hn) fun r hr hsr => ?_
    obtain ⟨hmem, hrn⟩ := hreq r hr
    rw [← hup]
    exact ih r hrn hmem hsr

/-- A bit set by an update rises when what it requires are bits that last and are set. -/
theorem State.updateReady_sets_lasting {sets : List Nat} {s : State} {n : Nat} (hn : n < 29) (hset : n ∈ sets)
    (hreq : ∀ r ∈ requires n, r ∈ lastingBits ∧ s.rdy r = true) : (s.updateReady sets []).rdy n = true := by
  rw [State.rdy, State.updateReady_ready]
  refine readyNext_of_sets hn hset List.not_mem_nil fun r hr => ?_
  obtain ⟨hmem, hsr⟩ := hreq r hr
  have := State.updateReady_lasting (sets := sets) (s := s) (clears := []) (fun _ _ => List.not_mem_nil) r hmem hsr
  rwa [State.rdy, State.updateReady_ready] at this

theorem State.lower_lasting {bits : List Nat} {s : State} (hc : ∀ n ∈ lastingBits, n ∉ bits) : Lasting s (s.lower bits) := by
  unfold State.lower
  dsimp only
  split
  · exact State.updateReady_lasting hc
  · exact (State.updateReady_lasting hc).head (State.each_head _ _ _ fun b t => by simp)

theorem State.unlock_lasting {s : State} : Lasting s s.unlock := by
  have hc : ∀ n ∈ lastingBits, n ∉ s.lockClears := by unfold State.lockClears; split <;> decide
  unfold State.unlock
  split
  · exact (State.updateReady_lasting hc).head (State.agoUnlock_head _)
  · exact .refl s

theorem State.moveOffset_lasting {zero pairOff : Int} {s : State} : Lasting s (s.moveOffset zero pairOff) := by
  unfold State.moveOffset
  dsimp only
  split
  · exact .refl s
  · split
    · exact (Lasting.of_head (by simp)).trans State.unlock_lasting
    all_goals exact .of_head (by simp)

/-- The bits that the configuration turns off (R534). -/
def State.offBits (s : State) : List Nat :=
  (if s.cfgN Fid.WP_ENABLE = 1 then [] else [Rdy.waypoint]) ++ (if s.cfgN Fid.SND_ENABLE = 1 then [] else [Rdy.sounding])

theorem State.offBits_apart (s : State) : ∀ n ∈ lastingBits, n ∉ s.offBits := by
  unfold State.offBits; split <;> split <;> decide

theorem State.commitReady_lasting {s : State} : Lasting s s.commitReady := by
  have hlow : Lasting s (if (s.offBits.filter s.rdy).isEmpty then s else s.lower s.offBits) := by
    split
    · exact .refl s
    · exact State.lower_lasting s.offBits_apart
  unfold State.commitReady
  dsimp only
  rw [← State.offBits]
  generalize (if (s.offBits.filter s.rdy).isEmpty then s else s.lower s.offBits) = t at hlow ⊢
  split
  · exact hlow.trans (State.updateReady_lasting fun _ _ => List.not_mem_nil)
  · exact hlow

theorem portBits_apart : ∀ n ∈ lastingBits, n ∉ portBits := by decide

theorem State.refreshPorts_lasting {s : State} : Lasting s s.refreshPorts := by
  unfold State.refreshPorts
  dsimp only
  split
  · exact .refl s
  · refine (State.updateReady_lasting (sets := portBits.filter s.linkHolds) (clears := portBits.filter fun b => !s.linkHolds b)
      fun n hn hm => ?_).trans (.of_head ?_)
    · exact absurd (List.mem_of_mem_filter hm) (portBits_apart n hn)
    · rw [State.greet_head, State.when_head, State.fdRegister_head, ite_self, State.scCheck_head]

theorem State.refreshEconomy_lasting {s : State} : Lasting s s.refreshEconomy := by
  have hdown : Lasting s (State.lower [Rdy.waypoint] (s.discardPlan 3).chartInterrupt) :=
    (Lasting.of_head (by simp)).trans (State.lower_lasting (by decide))
  unfold State.refreshEconomy
  dsimp only
  generalize State.lower [Rdy.waypoint] (s.discardPlan 3).chartInterrupt = t at hdown ⊢
  split
  · exact .refl s
  · split
    · exact hdown.head (State.lowPower_head _ _)
    · exact .of_head (by simp)

theorem State.refreshMirror_lasting {s : State} : Lasting s s.refreshMirror := by
  unfold State.refreshMirror
  split
  · exact State.updateReady_lasting fun _ _ => List.not_mem_nil
  · split
    · exact (Lasting.of_head (t := s.releaseAnswers.abandonHandover) (by simp)).trans (State.lower_lasting (by decide))
    · exact .refl s

theorem State.commitPair_lasting {old s : State} : Lasting s (State.commitPair old s) := by
  unfold State.commitPair
  split
  · split
    · exact .refl s
    · exact (Lasting.of_head (by rfl)).trans State.refreshMirror_lasting
  · split
    · exact .of_head (by simp)
    · exact (Lasting.of_head (by rfl)).trans State.refreshMirror_lasting

theorem State.effects_lasting {old s : State} {start : Bool} {lost : Nat × Nat} : Lasting s (State.effects old start lost s) := by
  unfold State.effects
  extract_lets ds hz src t t1 t2 t3 t4 first t5 t6
  have h0 : Lasting s t := (Lasting.of_head (by rfl)).trans State.moveOffset_lasting
  have h1 : t1.head = t.head := by simp only [t1]; split <;> simp
  have h2 : t2.head = t1.head := by simp [t2]
  have h3 : t3.head = t2.head := by simp [t3]
  have h4 : t4.head = t3.head := by simp only [t4]; split <;> simp
  have h5 : t5.head = t4.head := by simp [t5]
  have h6 : t6.head = t5.head := by simp [t6]
  exact (h0.head (by rw [h6, h5, h4, h3, h2, h1])).trans
    (((State.commitReady_lasting.trans State.refreshPorts_lasting).trans State.refreshEconomy_lasting).trans State.commitPair_lasting)

end Sys2Proof.Machine


/-! PROOFS. O18: the choice of the configuration and its putting into force. -/

namespace Sys2Proof.Machine

/-! ### The choice at start-up -/

theorem execConfigSelection_eq {a : At} {s : State} : exec (.configSelection a) s = .next (s.advance a).configSelection := by rfl

section
variable {s : State} (hnv : s.rdy Rdy.nvstore = true) (hconfig : s.rdy Rdy.config = false) (hpending : s.cfg.pending = none)
include hnv hconfig hpending

theorem State.configSelection_none (h : s.classSets.cfg.candidates = []) :
    s.configSelection = s.classSets.record 28 4 0x0004
      (le 1 (s.classSets.cfg.countIn .incomplete) ++ le 1 (s.classSets.cfg.countIn .damaged)) true 0 := by
  unfold State.configSelection
  rw [if_neg (by simp [hnv, hconfig, hpending])]
  simp only [h, List.head?_nil]

theorem State.configSelection_chosen {n : Nat} {rest : List Nat} {ev : Evaluated} (h : s.classSets.cfg.candidates = n :: rest)
    (hev : ev = evaluate (s.classSets.image n (s.classSets.cfg.set n).size) (s.classSets.cfg.set n).size s.classSets.expertKey) :
    s.configSelection = { s.classSets with
      cfg.pending := some { set := n, values := ev.values, report := ev.report, atStart := true } } := by
  unfold State.configSelection
  rw [if_neg (by simp [hnv, hconfig, hpending])]
  simp only [h, List.head?_cons, ← hev]

end

/-! ### What a set of the configuration changes -/

/-- The parts of the configuration other than its four sets. -/
def Cfg.inForce (c : Cfg) : Tbl (Option Word32) × List Clamp × Option PendingCommit × List Interim := (c.values, c.report, c.pending, c.held)

@[simp] theorem State.cfgSet_inForce (n : Nat) (f : CfgSet → CfgSet) (s : State) : (s.cfgSet n f).cfg.inForce = s.cfg.inForce := by
  rcases n with _ | _ | _ | n <;> rfl

theorem State.cfgSet_set_same {n : Nat} {f : CfgSet → CfgSet} {s : State} : (s.cfgSet n f).cfg.set n = f (s.cfg.set n) := by
  rcases n with _ | _ | _ | n <;> rfl

/-! ### The configuration through the effects of a commit -/

/-- The configuration is this one. -/
def Keeper.cfgIs (c : Cfg) : Keeper where
  Holds e := e.cfg = c
  rewrites h _ _ _ := h

theorem State.effects_cfg {old s : State} {start : Bool} {lost : Nat × Nat} : (State.effects old start lost s).cfg = s.cfg :=
  State.effects_kept (k := .cfgIs s.cfg) rfl (fun _ _ _ _ _ _ h => h)

theorem State.runHeld_of_nil {s : State} (h : s.cfg.held = []) : s.runHeld = s := by
  unfold State.runHeld
  rw [h, show ({ s with cfg.held := [] } : State) = s by rw [← h]]
  rfl

theorem State.rdy_config_rises {s : State} (h : s.rdy Rdy.nvstore = true) : (s.updateReady [Rdy.config] []).rdy Rdy.config = true :=
  State.updateReady_sets_lasting (by decide) (by simp) fun r hr => by
    have hr : r = Rdy.nvstore := by simpa [requires, Rdy.config, Rdy.nvstore] using hr
    subst hr
    exact ⟨by decide, h⟩

/-- What is pending comes into force: its values and report stand, its set is ACTIVE and CONFIG is set (R424, R426). -/
theorem State.cfgEffect_inForce {s : State} {p : PendingCommit} (hp : s.cfg.pending = some p) (hnv : s.rdy Rdy.nvstore = true)
    (hheld : s.cfg.held = []) :
    s.cfgEffect.cfg.inForce = (p.values, p.report, none, []) ∧ (s.cfgEffect.cfg.set p.set).state = SetState.active ∧
      s.cfgEffect.rdy Rdy.config = true := by
  unfold State.cfgEffect
  split
  · rename_i hnone; rw [hp] at hnone; cases hnone
  rename_i q hq
  obtain rfl : p = q := Option.some.inj (hp.symm.trans hq)
  extract_lets x ev was t src u v w st y
  have ht : t.cfg.inForce = s.cfg.inForce := State.each_keeps (fun r => r.cfg.inForce) _ _ _ fun n r => State.cfgSet_inForce n _ r
  have hthead : t.head = s.head := State.each_head _ _ _ fun n r => State.cfgSet_head n _ r
  have hu : u.cfg.inForce = (p.values, p.report, none, []) := by
    refine (State.cfgSet_inForce _ _ _).trans ?_
    have : t.cfg.held = [] := (congrArg (fun c => c.2.2.2) ht).trans hheld
    simp [Cfg.inForce, src, this]
  have huset : (u.cfg.set p.set).state = SetState.active := congrArg CfgSet.state State.cfgSet_set_same
  have huhead : u.head = s.head := by rw [← hthead]; exact State.cfgSet_head _ _ _
  have hv : v.cfg = u.cfg := State.effects_cfg
  have hvnv : v.rdy Rdy.nvstore = true :=
    (Lasting.trans (.of_head ((State.committedRecord_head p u).trans huhead)) State.effects_lasting) _ (by decide) hnv
  clear_value v
  have hw : w.cfg = v.cfg := by simp only [w]; split <;> simp
  have hwconfig : w.rdy Rdy.config = true := by
    simp only [w]
    split
    · assumption
    · exact State.rdy_config_rises hvnv
  clear_value w
  have hy : y.cfg = w.cfg ∧ y.head = w.head := by
    simp only [y]
    split <;> simp
  clear_value y
  have hycfg : y.cfg = u.cfg := hy.1.trans (hw.trans hv)
  have hyheld : y.cfg.held = [] := by rw [hycfg]; exact congrArg (fun c => c.2.2.2) hu
  rw [State.runHeld_of_nil hyheld, hycfg]
  exact ⟨hu, huset, (State.rdy_of_head hy.2 _).trans hwconfig⟩

theorem execCfgEffect_of {a : At} {p : PendingCommit} {s t : State} (ht : t = s.advance a) (hp : t.cfg.pending = some p) (hgrain : t.grain = 0)
    (hdue : p.atStart = true ∨ t.rdy Rdy.services = true ∨ t.rdy Rdy.config = false) : execCfgEffect a s = .next t.cfgEffect := by
  unfold execCfgEffect
  rw [← ht]
  simp only [hp]
  rw [if_pos ⟨hgrain, hdue.imp_right (Or.imp_right fun h => by simp [h])⟩]

/-- Settles O18: the choice at start-up by its cases, and what a commit puts into force through its effects. -/
theorem configurationSelection : Obligations.ConfigurationSelection := by
  unfold Obligations.ConfigurationSelection
  refine ⟨?_, ?_, ?_⟩
  · intro a s t u ht hnv hconfig hpending hu hnone
    rw [hu] at hnone ⊢
    rw [← State.configSelection_none hnv hconfig hpending hnone, ht]
    exact execConfigSelection_eq
  · intro a n rest ev s t ht hnv hconfig hpending hsome hev
    have hchosen := State.configSelection_chosen hnv hconfig hpending hsome hev
    refine ⟨_, { set := n, values := ev.values, report := ev.report, atStart := true },
      execConfigSelection_eq.trans (congrArg Host.Outcome.next ((congrArg State.configSelection ht.symm).trans hchosen)), ?_⟩
    generalize t.classSets = c
    exact ⟨rfl, rfl, rfl, rfl, rfl⟩
  · intro a p s t ht hp hgrain _ hdue hnv hheld
    obtain ⟨hforce, hset, hconfig⟩ := State.cfgEffect_inForce hp hnv hheld
    simp only [Cfg.inForce, Prod.mk.injEq] at hforce
    obtain ⟨hvalues, hreport, hpending, _⟩ := hforce
    exact ⟨t.cfgEffect, execCfgEffect_of ht hp hgrain hdue, hvalues, hreport, hset, hpending, hconfig⟩

end Sys2Proof.Machine


/-! PROOFS. O13: the start of the service image, and the trials of images. -/

namespace Sys2Proof.Machine

/-! ### A start of the service image -/

theorem State.imageStarts_bin (s : State) : s.imageStarts.bin.svc = SvcRun.starting ∧ s.imageStarts.bin.since = s.clock := by
  unfold State.imageStarts
  dsimp only
  split <;> exact ⟨rfl, rfl⟩

/-! ### SERVICES rises -/

/-- The server has started this often. -/
def Keeper.startsAre (n : Word16) : Keeper where
  Holds e := e.starts = n
  rewrites h _ _ _ := h

/-- No UDP session stands, and the server has started this often. -/
def Keeper.freshServer (n : Word16) : Keeper where
  Holds e := e.udp = [] ∧ e.starts = n
  rewrites h _ _ _ := h

/-- A start of the server ends every UDP session and is counted (R388). -/
theorem State.serverStart_counts (s : State) : s.serverStart.tr.udp = [] ∧ s.serverStart.mb.serverStarts = s.mb.serverStarts + 1 := by
  have hudp : (Keeper.startsAre s.mb.serverStarts).OpenUdp := fun _ _ h => h
  unfold State.serverStart
  extract_lets kept lost t1 t2 t3 mb tr t4 n t5
  have h1 : (Keeper.startsAre s.mb.serverStarts).Holds t1.estate := State.postServer_kept rfl hudp
  have h2 : (Keeper.startsAre s.mb.serverStarts).Holds t2.estate := State.postServer_kept (by simpa using h1) hudp
  have h3 : t3.mb.serverStarts = s.mb.serverStarts := Keeper.each h2 fun _ _ ht => State.postEvent_kept ht
  have h4 : (Keeper.freshServer (s.mb.serverStarts + 1)).Holds t4.estate := ⟨rfl, congrArg (· + 1) h3⟩
  exact State.postEvent_kept h4

/-- The service image runs, no UDP session stands and the server has started this often. -/
def Keeper.risen (n : Word16) : Keeper where
  Holds e := e.svc = .running ∧ e.udp = [] ∧ e.starts = n
  rewrites h _ _ _ := h

theorem State.servicesRise_counts (s : State) :
    s.servicesRise.bin.svc = SvcRun.running ∧ s.servicesRise.tr.udp = [] ∧ s.servicesRise.mb.serverStarts = s.mb.serverStarts + 1 := by
  show (Keeper.risen (s.mb.serverStarts + 1)).Holds s.servicesRise.estate
  unfold State.servicesRise
  extract_lets first t bin u v
  obtain ⟨hudp, hstarts⟩ := State.serverStart_counts (s.updateReady [Rdy.services] []).clearHostSlots
  have hbefore : (s.updateReady [Rdy.services] []).clearHostSlots.mb.serverStarts = s.mb.serverStarts :=
    congrArg Estate.starts (by simp : (s.updateReady [Rdy.services] []).clearHostSlots.estate = s.estate)
  rw [hbefore] at hstarts
  have hu : (Keeper.risen (s.mb.serverStarts + 1)).Holds u.estate := ⟨rfl, hudp, hstarts⟩
  clear_value u
  have hv : (Keeper.risen (s.mb.serverStarts + 1)).Holds v.estate := by
    simp only [v]
    rw [State.when_estate]
    split <;> exact hu
  refine State.servicesBegin_kept ?_ fun _ _ _ _ _ _ h => h
  rw [State.when_estate]
  split
  · exact State.firstServices_kept hv
  · exact hv

theorem State.servicesBegin_lasting (s : State) : Lasting s s.servicesBegin := by
  unfold State.servicesBegin
  extract_lets t bus u plan v
  have ht : Lasting s t := (State.updateReady_lasting fun _ _ => List.not_mem_nil).trans State.commitReady_lasting
  clear_value t
  have hu : Lasting s u := ((ht.head (u := { t with bus.whoIsTurn := t.turn }) rfl).trans State.refreshPorts_lasting).head
    (State.scheduleRun_head _ _)
  clear_value u
  exact (hu.head (u := v) (State.chartRises_head _)).head (State.pairServicesRise_head _)

/-- SERVICES requires NVSTORE alone, and stays set through what its rise brings (R33, R474). -/
theorem State.servicesRise_rdy {s : State} (hnv : s.rdy Rdy.nvstore = true) : s.servicesRise.rdy Rdy.services = true := by
  have hset : (s.updateReady [Rdy.services] []).rdy Rdy.services = true :=
    State.updateReady_sets_lasting (by decide) (by simp) fun r hr => by
      have hr : r = Rdy.nvstore := by simpa [requires, Rdy.services, Rdy.nvstore] using hr
      subst hr
      exact ⟨by decide, hnv⟩
  unfold State.servicesRise
  extract_lets first t bin u v
  have ht : t.head = (s.updateReady [Rdy.services] []).head := (State.serverStart_head _).trans (State.clearHostSlots_head _)
  clear_value t
  have hu : u.head = t.head := rfl
  clear_value u
  have hv : v.head = u.head := by
    simp only [v]
    rw [State.when_head, ite_eq_right_iff]
    exact fun _ => rfl
  have hfirst : (v.when first State.firstServices).head = v.head := by
    rw [State.when_head, State.firstServices_head, ite_self]
  exact ((Lasting.of_head (hfirst.trans (hv.trans (hu.trans ht)))).trans (State.servicesBegin_lasting _)) _ (by decide) hset

/-! ### The slots of the images -/

@[simp] theorem Binnacle.slot_setSlot (b : Binnacle) (i : Nat) (x : SlotState) : (b.setSlot i x).slot i = x := by
  rcases i with _ | _ | _ | i <;> rfl

/-- The state of a slot stands whatever version is noted beside it. -/
@[simp] theorem State.slotTo_slot (i : Nat) (x : SlotState) (version : Nat) (s : State) : (s.slotTo i x version).bin.slot i = x := by
  rcases i with _ | _ | _ | i <;> rfl

theorem Binnacle.find_of_slots {b c : Binnacle} (h : c.slot = b.slot) (isBin : Bool) (x : SlotState) : c.find isBin x = b.find isBin x := by
  unfold Binnacle.find
  rw [h]

theorem State.trialFails_slot {isBin : Bool} {i : Nat} {s : State} (h : s.bin.find isBin .trial = some i) :
    (s.trialFails isBin).bin.slot i = SlotState.rejected := by
  unfold State.trialFails
  rw [h]
  exact Binnacle.slot_setSlot _ _ _

@[simp] theorem State.readyExact_bin (w : Word32) (s : State) : (s.readyExact w).bin = s.bin :=
  foldl_keeps State.bin _ _ _ fun _ _ => State.readyRecord_bin ..

/-- A restart with its memory kept ends the self-test that runs, and nothing else of Binnacle's own state (R478). -/
theorem State.binnacleRestart_bin (s : State) : (s.binnacleRestart true).bin = { s.bin with selftest := none } := by
  have habort : ∀ t : State, (State.each [0, 2, 3] State.abortFn t).bin = t.bin := fun t =>
    State.each_keeps State.bin _ _ t State.abortFn_bin
  unfold State.binnacleRestart
  simp only [State.readyExact_bin, State.dropTests_bin, habort, if_true]

theorem State.failureJudged_slot {cause core i : Nat} {s : State} (h : s.bin.find false .trial = some i) :
    (s.failureJudged cause core).bin.slot i = SlotState.rejected := by
  unfold State.failureJudged
  rw [h]
  dsimp only
  rw [if_pos Option.isSome_some]
  refine State.trialFails_slot ((Binnacle.find_of_slots (b := s.bin) ?_ _ _).trans h)
  rw [State.record3_bin, State.count_bin, State.servicesDown_bin]
  rfl

theorem State.serviceFailure_slot {cause core i : Nat} {s : State} (h : s.bin.find false .trial = some i) :
    (s.serviceFailure cause core).bin.slot i = SlotState.rejected := by
  have hslot := State.failureJudged_slot (cause := cause) (core := core) h
  rw [State.serviceFailure_eq]
  generalize s.failureJudged cause core = t at hslot
  dsimp only
  split <;> exact hslot

/-! ### The commands -/

section
variable {a : At} {s t : State} (ht : t = s.advance a)
include ht

theorem execServiceRestart_starts (hmay : t.mayStart = true) (hfits : t.headerFits (t.bin.running false) = true) :
    execServiceRestart a true s = .next t.imageStarts := by
  unfold execServiceRestart
  rw [← ht]
  simp [hmay, hfits]

theorem execServiceRestart_fails {verifies : Bool} (hmay : t.mayStart = true)
    (hfits : (verifies && t.headerFits (t.bin.running false)) = false) :
    execServiceRestart a verifies s = .next (t.serviceFailure 4 255) := by
  unfold execServiceRestart
  rw [← ht]
  simp only [hmay, hfits, Bool.not_true, Bool.false_eq_true, if_false]

theorem execServicesRises_rises (hsvc : t.bin.svc = SvcRun.starting) (hnv : t.rdy Rdy.nvstore = true)
    (hdown : t.rdy Rdy.services = false) : execServicesRises a s = .next t.servicesRise := by
  unfold execServicesRises
  rw [← ht]
  exact congrArg _ (if_pos (by simp [hsvc, hnv, hdown]))

theorem execFailureCountReset_resets (hup : t.rdy Rdy.services = true) (hlong : t.bin.servicesSince + 16384 ≤ t.turn)
    (hcount : t.bin.failures ≠ 0) : execFailureCountReset a s = .next ({ t with bin.failures := 0 } : State).saveBinnacle := by
  unfold execFailureCountReset
  rw [← ht]
  exact congrArg _ (if_pos (by simp [hup, hlong, hcount]))

theorem execHealthy_activates {binnacle : Bool} {i : Nat} (htrial : t.bin.find binnacle .trial = some i)
    (hup : t.rdy (if binnacle then Rdy.binnacle else Rdy.services) = true) (hin : t.clock < t.bin.trialSince + 60000000) :
    ∃ u, execHealthy a binnacle s = .next u ∧ u.bin.slot i = SlotState.active := by
  unfold execHealthy
  rw [← ht]
  simp only [htrial]
  refine ⟨_, congrArg Host.Outcome.next (if_pos (by simp [hup, hin])), ?_⟩
  rw [State.updateRecord_bin, State.slotTo_slot]

theorem execTrialTimeout_of {binnacle : Bool} {i : Nat} (htrial : t.bin.find binnacle .trial = some i) (hbin : t.rdy Rdy.binnacle = true)
    (hout : t.bin.trialSince + 60000000 ≤ t.clock) :
    execTrialTimeout a binnacle s = .next (if binnacle then ((t.trialFails true).saveBinnacle).binnacleRestart true
      else if t.svcOn then t.serviceFailure 5 255 else t) := by
  unfold execTrialTimeout
  rw [← ht]
  exact congrArg _ (if_neg (by simp [htrial, hbin, hout]))

theorem execVerifyComplete_judges {binnacle verifies : Bool} {i : Nat} (hfree : t.bin.free binnacle = some i)
    (hbin : t.rdy Rdy.binnacle = true) (hwritten : t.bin.slot i = SlotState.written) :
    ∃ u, execVerifyComplete a binnacle verifies s = .next u ∧
      u.bin.slot i = (if verifies && t.headerFits i then SlotState.verified else SlotState.rejected) := by
  unfold execVerifyComplete
  rw [← ht]
  simp only [hfree]
  refine ⟨_, congrArg Host.Outcome.next (if_neg (by simp [hbin, hwritten])), ?_⟩
  rw [State.endInterims_bin, State.updateRecord_bin, State.slotTo_slot]

end

/-- Settles O13: the starts of the service image, the rise of SERVICES and the judgements of images. -/
theorem serviceImagesStartAndTrials : Obligations.ServiceImagesStartAndTrials := by
  unfold Obligations.ServiceImagesStartAndTrials
  refine ⟨?_, ?_, ?_, ?_, ?_, ?_, ?_, ?_⟩
  · intro a s t ht hmay hfits
    exact ⟨_, execServiceRestart_starts ht hmay hfits, t.imageStarts_bin⟩
  · intro a verifies s t ht hmay hfits
    exact ⟨_, execServiceRestart_fails ht hmay hfits, State.serviceFailure_counted ..⟩
  · intro a s t ht hsvc hnv hdown
    obtain ⟨hrun, hudp, hstarts⟩ := t.servicesRise_counts
    exact ⟨_, execServicesRises_rises ht hsvc hnv hdown, hrun, hudp, hstarts, State.servicesRise_rdy hnv⟩
  · intro a s t ht hup hlong hcount
    exact execFailureCountReset_resets ht hup hlong hcount
  · intro a binnacle i s t ht htrial hup hin
    exact execHealthy_activates ht htrial hup hin
  · intro a i s t ht htrial hbin hout hon
    refine ⟨t.serviceFailure 5 255, (execTrialTimeout_of ht htrial hbin hout).trans ?_, State.serviceFailure_counted ..,
      State.serviceFailure_slot htrial⟩
    rw [if_neg Bool.false_ne_true, if_pos hon]
  · intro a i s t ht htrial hbin hout
    obtain ⟨hb, hnv, hlog⟩ := (t.trialFails true).saveBinnacle.binnacleRestart_rdy true
    refine ⟨_, execTrialTimeout_of ht htrial hbin hout, ?_, hb, hnv, hlog⟩
    rw [if_pos rfl, State.binnacleRestart_bin]
    exact State.trialFails_slot htrial
  · intro a binnacle verifies i s t ht hfree hbin hwritten
    exact execVerifyComplete_judges ht hfree hbin hwritten

end Sys2Proof.Machine


/-! PROOFS. O51: the pair's operations, its frames, roles and comparisons. -/

namespace Sys2Proof.Machine

/-! ### What the functions of a pair leave of it and of the plan -/

theorem State.sndEnd_pair (cause z : Nat) (o : Sounding) (s : State) : (s.sndEnd cause z o).pair = s.pair := by
  unfold State.sndEnd
  simp only [State.record_pair]
  (repeat' split) <;> simp [State.sndLeave, State.sndErase]

theorem State.chApply_pair (n : Nat) (s : State) : (s.chApply n).pair = s.pair := by
  unfold State.chApply
  split
  · rfl
  · exact (congrArg State.pair (State.chLevel_offField _ _ _) :)

/-- The hold starts without a change of the pair's own state (R502). -/
theorem State.leaveFloor_pair (s : State) : s.leaveFloor.pair = s.pair := by
  have hend : ∀ t : State, t.endSoundings.pair = t.pair := fun t =>
    State.each_keeps State.pair _ _ t fun x u => State.sndEnd_pair 7 x.1 x.2 u
  have hquiet : ∀ t : State, t.busQuiet.pair = t.pair := fun _ => rfl
  have hhold : ∀ t : State, t.applyHold.pair = t.pair := fun t => by
    have hoff := State.each_keeps State.pair (upTo 32) State.chApply t State.chApply_pair
    unfold State.applyHold
    exact hoff
  unfold State.leaveFloor
  rw [hhold, hquiet, hend]

theorem State.agoUnlock_pair (s : State) : s.agoUnlock.pair = s.pair := by
  have hpin : ∀ (n : Nat) (t : State), (t.agoPin n false).pair = t.pair := fun _ _ => rfl
  unfold State.agoUnlock
  dsimp only
  split
  · rfl
  · exact State.each_keeps State.pair _ _ _ fun n u => hpin n _

theorem State.moveOffset_pair (zero pairOff : Int) (s : State) : (s.moveOffset zero pairOff).pair = s.pair := by
  have hunlock : ∀ t : State, t.unlock.pair = t.pair := fun t => by
    unfold State.unlock
    split
    · exact (State.agoUnlock_pair _).trans (State.updateReady_pair ..)
    · rfl
  unfold State.moveOffset
  dsimp only
  split
  · rfl
  · split
    · exact hunlock _
    all_goals rfl

/-! #### MIRROR -/

theorem State.releaseAnswers_pair (s : State) : s.releaseAnswers.pair = s.pair :=
  State.each_keeps State.pair _ _ _ fun _ _ => State.answer_pair ..

theorem State.releaseAnswers_plan (s : State) : s.releaseAnswers.plan = s.plan :=
  State.each_keeps State.plan _ _ _ fun _ _ => State.answer_plan ..

theorem State.abandonHandover_plan (s : State) : s.abandonHandover.plan = s.plan := by
  unfold State.abandonHandover
  split <;> rfl

theorem State.refreshMirror_plan (s : State) : s.refreshMirror.plan = s.plan := by
  unfold State.refreshMirror
  split
  · exact State.updateReady_plan ..
  · split
    · exact (State.lower_plan ..).trans ((State.abandonHandover_plan _).trans s.releaseAnswers_plan)
    · rfl

/-- MIRROR that falls abandons a handover, so none is planned where none was (R513). -/
theorem State.refreshMirror_handover {s : State} (h : s.pair.handover = none) : s.refreshMirror.pair.handover = none := by
  have habandon : s.releaseAnswers.abandonHandover.pair.handover = none := by
    unfold State.abandonHandover
    rw [State.releaseAnswers_pair, h]
    exact (congrArg Pair.handover s.releaseAnswers_pair).trans h
  unfold State.refreshMirror
  split
  · rw [State.updateReady_pair, h]
  · split
    · rw [State.lower_pair, habandon]
    · exact h

/-! ### Roles -/

/-- The module has this role and the TAKEOVER stamp of its present activity. -/
def Keeper.roleIs (r : PairRole) (x : Stamp) : Keeper where
  Holds e := e.role = r ∧ e.takeover = x
  rewrites h _ _ _ := h

theorem State.becomeActive_role (cause : Nat) (s : State) :
    (s.becomeActive cause).pair.role = .active ∧ (s.becomeActive cause).pair.takeover = s.now :=
  State.becomeActive_kept (k := .roleIs .active s.now) ⟨rfl, rfl⟩

theorem State.becomeStandby_role (cause : Nat) (s : State) : (s.becomeStandby cause).pair.role = .standby :=
  (State.becomeStandby_kept (k := .roleIs .standby s.pair.takeover) ⟨rfl, rfl⟩ : _ ∧ _).1

theorem State.becomeStandby_handover {cause : Nat} {s : State} (h : s.pair.handover = none) :
    (s.becomeStandby cause).pair.handover = none := by
  unfold State.becomeStandby
  refine State.refreshMirror_handover ?_
  unfold State.roleRecord
  rw [State.record3_pair, State.leaveFloor_pair]
  exact h

theorem State.offPorts_plan (s : State) : s.offPorts.plan = s.plan := rfl

theorem State.busTakes_plan (s : State) : s.busTakes.plan = s.plan := by
  have hports : s.busTakes.offPorts = s.offPorts := by
    unfold State.busTakes
    extract_lets t t1 t2
    have h : t.offPorts = s.offPorts := s.refreshPorts_offPorts
    have h1 : t1.offPorts = t.offPorts := State.each_keeps State.offPorts _ _ _ fun _ _ => State.queueFrame_offPorts ..
    have h2 : t2.offPorts = t1.offPorts := State.each_keeps State.offPorts _ _ _ fun _ _ => State.queueFrame_offPorts ..
    exact (State.each_keeps State.offPorts _ State.bindsReturn _ fun _ _ => rfl).trans (h2.trans (h1.trans h))
  rw [← State.offPorts_plan, hports, State.offPorts_plan]

theorem State.pushTail_plan (s : State) : s.pushTail.plan = s.plan := by
  unfold State.pushTail
  dsimp only
  split <;> rfl

/-- A module that becomes active otherwise than by election plans anew (R508). -/
theorem State.becomeActive_replans {cause : Nat} (s : State) (h : cause ≠ 1) : (s.becomeActive cause).plan.replan = true := by
  unfold State.becomeActive
  dsimp only
  rw [if_neg h, State.refreshMirror_plan, State.pushTail_plan, State.busTakes_plan]

theorem State.handOver_role (s : State) : s.handOver.pair.role = .standby :=
  (State.handOver_kept (k := .roleIs .standby s.pair.takeover) ⟨rfl, rfl⟩ : _ ∧ _).1

theorem State.handOver_handover (s : State) : s.handOver.pair.handover = none := by
  unfold State.handOver
  refine State.becomeStandby_handover ?_
  rw [State.endInterims_pair]

/-- The module is a standby that is CURRENT. -/
def Keeper.syncedStandby : Keeper where
  Holds e := e.current = true ∧ e.role = .standby
  rewrites h _ _ _ := h

/-- The module has this role, and is withdrawn. -/
def Keeper.withdrawnAs (r : PairRole) : Keeper where
  Holds e := e.role = r ∧ e.withdrawn = true
  rewrites h _ _ _ := h

theorem State.refreshMirror_withdrawn {s : State} (h : s.pair.withdrawn = true) :
    s.refreshMirror.pair.role = s.pair.role ∧ s.refreshMirror.pair.withdrawn = true :=
  State.refreshMirror_kept (k := .withdrawnAs s.pair.role) ⟨rfl, h⟩

/-! ### Frames -/

/-- The header of the last valid frame is this one. -/
def Keeper.peerIs (p : PeerHeader) : Keeper where
  Holds e := e.peer = some p
  rewrites h _ _ _ := h

/-- The header kept of a frame taken now (R496). -/
def State.headerOf (s : State) (f : MirrorFrame) : PeerHeader :=
  { role := f.role, seq := f.seq, sendStamp := f.sendStamp, received := s.now, generation := f.generation, flags := f.flags
    takeover := f.takeover, handoverAt := f.handoverAt, serial := f.serial, echoSeq := f.echoSeq }

theorem State.takeHeader_peer (f : MirrorFrame) (s : State) : (s.takeHeader f).pair.peer = some (s.headerOf f) := by
  unfold State.takeHeader State.measureD
  dsimp only
  split <;> rfl

/-- A valid frame of a member that takes frames leaves its header (R496). -/
theorem State.mirrorFrame_peer {f : MirrorFrame} {s : State}
    (h : ¬ (!s.member || s.pair.withdrawn || s.mustWithdraw || s.pair.lanesIn == 0 || !s.validFrame f) = true) :
    (s.mirrorFrame f).pair.peer = some (s.headerOf f) := by
  show (Keeper.peerIs (s.headerOf f)).Holds (s.mirrorFrame f).estate
  have ht : (Keeper.peerIs (s.headerOf f)).Holds ((s.takeHeader f).takeRecords f.whole').strapRecord.estate := by
    rw [State.strapRecord_estate, State.takeRecords_estate]
    exact s.takeHeader_peer f
  unfold State.mirrorFrame
  rw [if_neg h]
  dsimp only
  generalize ((s.takeHeader f).takeRecords f.whole').strapRecord = t at ht
  refine State.refreshMirror_kept ?_
  rw [State.peerRecord_estate]
  split
  · split
    · exact State.installFrame_kept (s := t.keepsCurrent s.pair.peer f) ht fun _ _ h => h
    · exact ht
  · rw [State.takeReads_estate]
    exact ht
  · exact ht

/-! ### Operations -/

section
variable {r : Req} {t : State}

theorem opPairStatus_check (h : Safety.Asks false 27 0 r t) (htarget : r.target = 0) (hpair : t.cfgN Fid.PAIR_ENABLE = 1) :
    opPairStatus.check r t = none := by
  have hr := services_of_asks h
  apply OpDef.check_eq_none h <;> simp [opPairStatus, htarget, hpair, hr]

theorem opPairHandover_check (h : Safety.Commands false 27 0 r t) (hholds : Safety.Holds t) (htarget : r.target = 0)
    (hpair : t.cfgN Fid.PAIR_ENABLE = 1) (hmirror : t.rdy Rdy.mirror = true) (hrole : t.pair.role = .active) :
    opPairHandover.check r t = none := by
  apply OpDef.check_eq_none h.asks <;> simp [opPairHandover, htarget, hpair, hmirror, hrole, h.expert, hholds]

end

/-! ### The commands -/

section
variable {a : At} {s t : State} (ht : t = s.advance a)
include ht

theorem execMirrorFrameReceived_of (f : MirrorFrame) : execMirrorFrameReceived a f s = .next (t.mirrorFrame f) := by
  unfold execMirrorFrameReceived
  rw [← ht]

theorem execLaneChange_pair (lanesIn lanesOut : Nat) : ∃ u, execLaneChange a lanesIn lanesOut s = .next u ∧
    u.pair = { t.pair with lanesIn := if t.sen.crystal then lanesIn % 4 else 0, lanesOut := if t.sen.crystal then lanesOut % 4 else 0 } := by
  unfold execLaneChange
  rw [← ht]
  refine ⟨_, rfl, ?_⟩
  dsimp only
  rw [apply_ite State.pair, State.record3_pair, ite_self]

theorem execPeerLineChange_of (alive active : Bool) : execPeerLineChange a alive active s = .next { t with
    pair := { t.pair with peerAlive := alive, peerActive := active, peerActiveTurns := if active then t.pair.peerActiveTurns else 0 } } := by
  unfold execPeerLineChange
  rw [← ht]

theorem execElection_of (hrole : t.pair.role = .electing) (hin : t.pair.withdrawn = false) (hstays : t.mustWithdraw = false)
    (hgrain : t.grain = 0) : execElection a s = .next (match t.elected with
      | some .active => t.becomeActive 1
      | some .standby => t.becomeStandby 1
      | _ => t) := by
  unfold execElection
  rw [← ht]
  exact congrArg _ (if_pos (by simp [hrole, hin, hstays, hgrain]))

theorem execTakeover_takes (hrole : t.pair.role = .standby) (hin : t.pair.withdrawn = false) (hstays : t.mustWithdraw = false)
    (hgrain : t.grain = 0) (hsigns : (if t.pair.yielded then 3 else 2) ≤ t.signCount) :
    execTakeover a s = .next (t.becomeActive 2) := by
  unfold execTakeover
  rw [← ht]
  exact congrArg _ (if_pos (by simp [hrole, hin, hstays, hgrain, hsigns]))

theorem execTakeover_idle (h : t.pair.role ≠ .standby ∨ t.signCount < 2 ∨ t.grain ≠ 0) : execTakeover a s = .next t := by
  have hfew : ¬ ((if t.pair.yielded then 3 else 2) ≤ t.signCount ∧ t.pair.role = .standby ∧ t.grain = 0) := by
    rintro ⟨hsigns, hrole, hgrain⟩
    have : 2 ≤ t.signCount := le_trans (by split <;> decide) hsigns
    rcases h with h | h | h
    · exact h hrole
    · omega
    · exact h hgrain
  unfold execTakeover
  rw [← ht]
  refine congrArg _ (if_neg fun hc => hfew ?_)
  simp only [Bool.and_eq_true, beq_iff_eq, decide_eq_true_eq] at hc
  obtain ⟨⟨⟨⟨hrole, -⟩, -⟩, hgrain⟩, hsigns⟩ := hc
  exact ⟨hsigns, hrole, hgrain⟩

/-- Of two active modules the one that must yield becomes the standby, and is YIELDED (R510). -/
theorem execDualActive_yields {link : Bool} (hactive : t.pairActive = true) (hgrain : t.grain = 0) (hyield : t.mustYield = some link) :
    ∃ u, execDualActive a s = .next u ∧ u.pair.role = .standby ∧ u.pair.yielded = true := by
  unfold execDualActive
  rw [← ht]
  refine ⟨_, congrArg Host.Outcome.next (if_pos (by simp [hactive, hgrain])), ?_⟩
  simp only [hyield]
  exact ⟨State.becomeStandby_role .., trivial⟩

theorem execDualActive_idle (h : t.pairActive = false ∨ t.mustYield = none ∨ t.grain ≠ 0) : execDualActive a s = .next t := by
  unfold execDualActive
  rw [← ht]
  refine congrArg Host.Outcome.next ?_
  rcases h with h | h | h
  · exact if_neg (by simp [h])
  · simp only [h, ite_self]
  · exact if_neg (by simp [h])

theorem execYieldedClear_clears (hyielded : t.pair.yielded = true) (hquiet : 64 ≤ t.pair.noSignTurns) :
    execYieldedClear a s = .next { t with pair := { t.pair with yielded := false } } := by
  unfold execYieldedClear
  rw [← ht]
  exact congrArg _ (if_pos (by simp [hyielded, hquiet]))

theorem execYieldedClear_idle (h : t.pair.yielded = false ∨ t.pair.noSignTurns < 64) : execYieldedClear a s = .next t := by
  unfold execYieldedClear
  rw [← ht]
  exact congrArg _ (if_neg (by rcases h with h | h <;> simp [h]))

/-- A withdrawn member that is not active is ELECTING (R512). -/
theorem execWithdrawal_withdraws (hmember : t.member = true) (hin : t.pair.withdrawn = false) (hmust : t.mustWithdraw = true) :
    ∃ u, execWithdrawal a s = .next u ∧ u.pair.withdrawn = true ∧ (t.pair.role ≠ .active → u.pair.role = .electing) := by
  unfold execWithdrawal
  rw [← ht]
  refine ⟨_, congrArg Host.Outcome.next (if_pos (by simp [hmember, hin, hmust])), ?_⟩
  dsimp only
  obtain ⟨hrole, hwithdrawn⟩ := State.refreshMirror_withdrawn (s := { t with pair.withdrawn := true }) rfl
  generalize State.refreshMirror { t with pair.withdrawn := true } = u at hrole hwithdrawn
  split
  · rename_i hactive
    exact ⟨hwithdrawn, fun h => absurd (hrole.symm.trans hactive) h⟩
  · exact ⟨hwithdrawn, fun _ => rfl⟩

theorem execWithdrawal_idle (h : t.member = false ∨ t.pair.withdrawn = true ∨ t.mustWithdraw = false) :
    execWithdrawal a s = .next t := by
  unfold execWithdrawal
  rw [← ht]
  exact congrArg _ (if_neg (by rcases h with h | h | h <;> simp [h]))

theorem execHandoverBoundary_gives (hgrain : t.grain = 0) (hin : t.pair.withdrawn = false) (hrole : t.pair.role = .active)
    (hplanned : t.pair.handover.isSome = true) (hat : t.pair.handoverAt = t.now) (hclear : t.handoverClear = true) :
    execHandoverBoundary a s = .next t.handOver := by
  unfold execHandoverBoundary
  rw [← ht]
  simp only [hrole]
  rw [if_neg (by simp [hgrain, hin]), if_pos ⟨hplanned, hat, hclear⟩]

theorem execHandoverBoundary_takes {p : PeerHeader} (hgrain : t.grain = 0) (hin : t.pair.withdrawn = false) (hrole : t.pair.role = .standby)
    (hpeer : t.pair.peer = some p) (hactive : p.role = 1) (hflag : bitOf p.flags 1 = true) (hat : p.handoverAt ≠ 0)
    (hfresh : t.linkFresh = true) (hnow : (t.fromPeer p.handoverAt).toNat < t.now.toNat + halfTurn) :
    execHandoverBoundary a s = .next (t.becomeActive 3) := by
  unfold execHandoverBoundary
  rw [← ht]
  simp only [hrole, hpeer]
  rw [if_neg (by simp [hgrain, hin]), if_pos ⟨hactive, hflag, hat, hfresh, hnow⟩]

theorem execHandoverBoundary_idle (h : t.grain ≠ 0 ∨ t.pair.withdrawn = true ∨
    (t.pair.role = .active ∧ (t.pair.handoverAt ≠ t.now ∨ t.handoverClear = false)) ∨ (t.pair.role = .standby ∧ t.linkFresh = false)) :
    execHandoverBoundary a s = .next t := by
  unfold execHandoverBoundary
  rw [← ht]
  refine congrArg Host.Outcome.next ?_
  rcases h with h | h | ⟨hrole, h⟩ | ⟨hrole, h⟩
  · exact if_pos (by simp [h])
  · exact if_pos (by simp [h])
  · simp only [hrole]
    rw [if_neg (c := _ ∧ _) (by rcases h with h | h <;> simp [h]), ite_self]
  · simp only [hrole, h]
    cases t.pair.peer <;> simp

theorem execSynchronisationComplete_current (hrole : t.pair.role = .standby) (hbulk : t.pair.bulk = true) (hfresh : t.linkFresh = true) :
    ∃ u, execSynchronisationComplete a s = .next u ∧ u.pair.current = true ∧ u.pair.role = .standby := by
  unfold execSynchronisationComplete
  rw [← ht]
  exact ⟨_, congrArg Host.Outcome.next (if_pos (by simp [hrole, hbulk, hfresh])),
    State.refreshMirror_kept (k := .syncedStandby) ⟨rfl, hrole⟩⟩

theorem execPhaseAlign_moves (hrole : t.pair.role = .standby) (hon : t.cfgN Fid.PAIR_PHASE_ALIGN = 1) (hlock : t.rdy Rdy.lock = true)
    (hrun : 16 ≤ t.pair.phiRun) : ∃ u, execPhaseAlign a s = .next u ∧ u.pair.phiRun = 0 ∧ u.mer.stamp = t.mer.stamp := by
  unfold execPhaseAlign
  rw [← ht]
  refine ⟨_, congrArg Host.Outcome.next (if_pos (by simp [hrole, hon, hlock, hrun])), ?_, ?_⟩
  · rw [State.moveOffset_pair, State.record3_pair]
  · exact (State.moveOffset_stamp _ _ _).trans (State.record3_stamp ..)

theorem execAlmanacAlign_writes {ticks : Nat} (hrole : t.pair.role = .standby) (hready : t.rdy Rdy.almanac = true)
    (hfresh : t.linkFresh = true) (hapart : 32768 < (((ticks % 2 ^ 48 : Nat) : Int) - t.alm.count.toNat).natAbs) (hfree : t.alm.writes = []) :
    execAlmanacAlign a ticks s = .next { t with alm := t.alm.enqueue { value := ticks % 2 ^ 48 } } := by
  unfold execAlmanacAlign
  rw [← ht]
  exact congrArg _ (if_pos (by rw [hrole, hready, hfresh, decide_eq_true hapart, hfree]; rfl))

/-! #### The comparison of a shared channel (R514) -/

section
variable {n : Nat} {readback activeAgrees : Bool} (hrole : t.pair.role = .standby) (hcurrent : t.pair.current = true) (hn : n < 32)
  (hshared : t.shared n = true) (hout : t.chIsOut n = true) (hopen : t.fld.windows.contains n = false)
include hrole hcurrent hn hshared hout hopen

theorem execSharedChannelComparison_agrees (h : readback = (t.fld.owns.get n).peerLevel) :
    ∃ u, execSharedChannelComparison a n readback activeAgrees true s = .next u ∧
      (u.fld.owns.get n).agreeRun = (t.fld.owns.get n).agreeRun + 1 ∧ (u.fld.owns.get n).disagreeRun = 0 := by
  unfold execSharedChannelComparison
  rw [← ht]
  refine ⟨_, congrArg Host.Outcome.next
    ((if_neg (by rw [hrole, hcurrent, decide_eq_true hn, hshared, hout, hopen]; decide)).trans (if_pos h)), ?_⟩
  simp

theorem execSharedChannelComparison_disagrees (h : readback ≠ (t.fld.owns.get n).peerLevel) :
    ∃ u, execSharedChannelComparison a n readback activeAgrees true s = .next u ∧
      (u.fld.owns.get n).agreeRun = 0 ∧ (u.fld.owns.get n).disagreeRun = if activeAgrees then (t.fld.owns.get n).disagreeRun + 1 else 0 := by
  unfold execSharedChannelComparison
  rw [← ht]
  refine ⟨_, congrArg Host.Outcome.next
    ((if_neg (by rw [hrole, hcurrent, decide_eq_true hn, hshared, hout, hopen]; decide)).trans (if_neg h)), ?_⟩
  cases activeAgrees
  · simp
  · dsimp only
    rw [if_pos rfl, if_pos rfl, apply_ite State.fld, State.record3_fld, ite_self]
    simp

end

end

/-- Settles O51: each command of a pair where its conditions hold and where they do not. -/
theorem pairOperationsAndRoles : Obligations.PairOperationsAndRoles := by
  unfold Obligations.PairOperationsAndRoles
  refine ⟨?_, ?_, ?_, ?_, ?_, ?_, ?_, ?_, ?_, ?_, ?_, ?_, ?_, ?_, ?_, ?_, ?_, ?_, ?_, ?_, ?_, ?_, ?_⟩
  · intro a r s t ht h htarget hpair
    subst ht
    exact congrArg _ (serve_ok h (opPairStatus_check h htarget hpair) rfl)
  · intro a r s t ht h hholds htarget hpair hmirror hrole
    subst ht
    exact congrArg _ (serve_accepted _ _ _ _ h.asks.serves h.asks.barrier
      (opPairHandover_check h hholds htarget hpair hmirror hrole) rfl)
  · intro a f s t ht hmember hin hstays hlanes hvalid
    refine ⟨_, t.headerOf f, execMirrorFrameReceived_of ht f, State.mirrorFrame_peer ?_, rfl, rfl, rfl, rfl, rfl⟩
    simp [hmember, hin, hstays, hlanes, hvalid]
  · intro a f s t ht h
    refine (execMirrorFrameReceived_of ht f).trans (congrArg Host.Outcome.next (if_pos ?_))
    rcases h with h | h | h | h | h <;> simp [h]
  · intro a lanesIn lanesOut s t ht
    exact execLaneChange_pair ht lanesIn lanesOut
  · intro a alive active s t ht
    exact execPeerLineChange_of ht alive active
  · intro a s t ht hrole hin hstays hgrain
    have helection := execElection_of ht hrole hin hstays hgrain
    refine ⟨fun h => ?_, fun h => ?_, fun h => ?_⟩ <;> rw [h] at helection
    · exact ⟨t.becomeActive 1, helection, t.becomeActive_role 1⟩
    · exact ⟨t.becomeStandby 1, helection, t.becomeStandby_role 1⟩
    · exact helection
  · intro a s t ht hrole hin hstays hgrain hsigns
    obtain ⟨hactive, hstamp⟩ := t.becomeActive_role 2
    exact ⟨_, execTakeover_takes ht hrole hin hstays hgrain hsigns, hactive, hstamp, t.becomeActive_replans (by decide)⟩
  · intro a s t ht h
    exact execTakeover_idle ht h
  · intro a link s t ht hactive hgrain hyield
    exact execDualActive_yields ht hactive hgrain hyield
  · intro a s t ht h
    exact execDualActive_idle ht h
  · intro a s t ht hyielded hquiet
    exact execYieldedClear_clears ht hyielded hquiet
  · intro a s t ht h
    exact execYieldedClear_idle ht h
  · intro a s t ht hmember hin hmust
    exact execWithdrawal_withdraws ht hmember hin hmust
  · intro a s t ht h
    exact execWithdrawal_idle ht h
  · intro a s t ht hgrain hin hrole hplanned hat hclear
    exact ⟨_, execHandoverBoundary_gives ht hgrain hin hrole hplanned hat hclear, t.handOver_role, t.handOver_handover⟩
  · intro a p s t ht hgrain hin hrole hpeer hactive hflag hat hfresh hnow
    exact ⟨_, execHandoverBoundary_takes ht hgrain hin hrole hpeer hactive hflag hat hfresh hnow, t.becomeActive_role 3⟩
  · intro a s t ht h
    exact execHandoverBoundary_idle ht h
  · intro a s t ht hrole hbulk hfresh
    exact execSynchronisationComplete_current ht hrole hbulk hfresh
  · intro a n readback activeAgrees s t ht hrole hcurrent hn hshared hout hopen h
    exact execSharedChannelComparison_agrees ht hrole hcurrent hn hshared hout hopen h
  · intro a n readback activeAgrees s t ht hrole hcurrent hn hshared hout hopen h
    exact execSharedChannelComparison_disagrees ht hrole hcurrent hn hshared hout hopen h
  · intro a s t ht hrole hon hlock hrun
    exact execPhaseAlign_moves ht hrole hon hlock hrun
  · intro a ticks s t ht hrole hready hfresh hapart hfree
    exact execAlmanacAlign_writes ht hrole hready hfresh hapart hfree

end Sys2Proof.Machine
